-- ==== Sys2Proof/Word.lean ====
section
/-! DEFINITION. The byte and the byte string of the model.  Register values and counts are natural
numbers; a field of a register is cut to its width when it is stored (`Field` in `Sys2Proof/Types.lean`). -/

namespace Sys2Proof

/-- One byte on a wire, in host memory or in MRAM. -/
abbrev Byte := BitVec 8

/-- A byte string, first byte first. -/
abbrev Bytes := List Byte

end Sys2Proof
end

