-- ==== Sys2Proof/Types.lean ====
section
/-! DEFINITION. The plain data that commands carry and the state holds: register fields, the paths an
access can take, command statuses, recorder events, and the frames of the node's wires. -/

namespace Sys2Proof

/-- One field of a register: its place (bit address: 8 × byte address + lowest bit), its width in
bits, and its reset value. -/
structure Field where
  key : Nat
  width : Nat
  reset : Nat
  deriving DecidableEq, Repr

/-- The access types of Table 0.4. -/
inductive Access where
  | rw | ro | wo | w1c | rc | rwl
  deriving DecidableEq, Repr

/-- The requesters of register accesses (R19): the local PF0 function, PF1, the flow engine, and each
bridge origin (train address) and window. -/
inductive Requester where
  | pf0
  | pf1
  | flow
  | bridge (origin window : Nat)
  deriving DecidableEq, Repr

/-- How a command reaches the node (R34): a write to a command register, a CMD descriptor on a ring of
a group owned by PF0 or by PF1, or the JTAG instruction DBG_TOKEN. -/
inductive Path where
  | reg (r : Requester)
  | ring (ownerPf1 : Bool)
  | dbgToken
  deriving DecidableEq, Repr

/-- The statuses of GLB_CMD_STATUS.STATUS. -/
inductive Status where
  | ok | accessDenied | unknownCmd | badArg | busy | wrongState | lcDenied | authFail
  | restartLimit | programFail | fault | tampered | imageInvalid | pending
  deriving DecidableEq, Repr

/-- One event of the recorder, stamped when it enters the ingress queue (R425, R428). -/
structure RecEvent where
  uptime : Nat
  timeS : Nat
  timeNs : Nat
  topo : Nat
  source : Nat
  flags : Nat
  code : Nat
  payload : Bytes
  deriving DecidableEq, Repr

/-- One record position of the recorder's MRAM: bytes 0–62 of the record and its MARK (Table 17.1).
`eccBad` says that a read of the position meets an uncorrectable ECC error. -/
structure RecCell where
  bytes : Bytes
  mark : Nat
  eccBad : Bool
  deriving DecidableEq, Repr

/-- A sparse table: keys strictly rising, one entry per key; an unlisted key has the value its reader
names. -/
abbrev Tab (α : Type) := List (Nat × α)

/-- A configuration image (Table 2.5). `body` is what follows the 64-byte header; the spec leaves the
format of its sections to the configurator, so `loads` lists the register fields that the sections
load and the values they give (notes/assumptions/6.md). -/
structure Image where
  magic : Nat
  version : Nat
  targetMode : Nat
  role : Nat
  length : Nat
  serial : Nat
  crc : Nat
  keySlot : Nat
  reserved : Bytes
  tag : Bytes
  body : Bytes
  loads : List (Field × Nat)
  deriving DecidableEq, Repr

/-- One bank of a key slot (R441): the commit record and the masked key data. -/
structure KeyBank where
  gen : Nat := 0
  purpose : Nat := 0
  state : Nat := 0
  kcv : Nat := 0
  crc : Nat := 0
  data : Nat := 0
  deriving DecidableEq, Repr

/-- A host event before it is stamped for an event ring (R315): code and 16-byte payload. -/
structure HostEv where
  code : Nat
  payload : Bytes
  deriving DecidableEq, Repr

/-- A descriptor as the node read it from host memory (Tables 11.6 and 11.8), 32 bytes, with the buffer
a DATA descriptor names as read with it, or `none` where the buffer read failed (R309). -/
structure Descriptor where
  bytes : Bytes
  buffer : Option Bytes
  deriving DecidableEq, Repr

/-- A member's health report (Table 14.4). -/
structure Report where
  member : Nat
  mode : Nat
  permission : Bool
  interlock : Bool
  sync : Nat
  linkUp : Bool
  lockstepOk : Bool
  minor : Bool
  major : Bool
  critical : Bool
  safe : Bool
  seq : Nat
  cycle : Nat
  topo : Nat
  progress : Nat
  latent : Nat
  scrub : Nat
  rxChecks : Nat
  status : Nat
  deriving DecidableEq, Repr

/-- SYNC of the referee link (Table 14.3). -/
structure SyncFrame where
  sel : Nat
  adopt : Bool
  state : Nat
  elig0 : Bool
  elig1 : Bool
  frame : Nat
  deriving DecidableEq, Repr

/-- The SLEEP payload (Table 15.3). -/
structure SleepMsg where
  kind : Nat
  code : Nat
  voteId : Nat
  topo : Nat
  pos : Nat
  sleepAt : Nat
  deriving DecidableEq, Repr

end Sys2Proof
end

