-- ==== Sys2Proof/Frames.lean ====
section
/-! DEFINITION. The frames of the node's wires as their fields, and what the node puts out. -/

namespace Sys2Proof

/-- What the referee got in a member's report slot: nothing, a report that fails its CRC, or a report. -/
inductive ReportIn where
  | missing
  | invalid
  | report (r : Report)
  deriving DecidableEq, Repr

/-- The state that a full transfer carries to the standby (Table 14.10): register and context fields,
publication image, UID table entries (position, UID). -/
structure PairTransfer where
  loads : List (Field × Nat)
  publication : Bytes
  uids : List (Nat × Nat)
  deriving DecidableEq, Repr

/-- A per-cycle update (Table 14.10) with the acting member's cycle-frame CRC-32 per port: ports 0–3 line,
4–11 consist (R383), and the head's train time. -/
structure PairUpdate where
  loads : List (Field × Nat)
  publication : Option Bytes
  gpio : Nat
  uids : List (Nat × Nat)
  crcs : List (Nat × Nat)
  time : Option Int
  deriving DecidableEq, Repr

/-- An inauguration frame (Table 4.2). -/
structure InaFrame where
  kind : Nat
  attempt : Nat
  topo : Nat
  uid : Nat
  hash : Nat := 0
  pos : Nat := 0
  kept : Nat := 0
  flags : Nat := 0
  uptime : Nat := 0
  deriving DecidableEq, Repr

/-- A hop report /H/ as it arrives (Table 3.9): scaled residence (2⁻⁸ ns), topology counter, byte 6, byte 7,
CRC-8, and whether it holds a code error. -/
structure HopReport where
  residence : Nat
  topo : Nat
  flags : Nat
  reserved : Nat
  crc : Nat
  codeError : Bool
  deriving DecidableEq, Repr

/-- A hop delay notice /D/ as it arrives (Table 3.9): average (2⁻¹⁰ ns), topology counter, byte 6, SAMPLES,
CRC-8, and whether it holds a code error. -/
structure HopNotice where
  delay : Nat
  topo : Nat
  flags : Nat
  samples : Nat
  crc : Nat
  codeError : Bool
  deriving DecidableEq, Repr

/-- A cycle frame (Table 5.1): header fields, slot region, trailer. -/
structure CycleFrame where
  topo : Nat
  cycle : Nat
  flags : Nat
  mapSeq : Nat
  bcycle : Nat
  slotLen : Nat
  timeS : Nat
  timeNs : Nat
  corr : Int
  hcrc : Nat
  slots : Bytes
  trailer : Bytes
  deriving DecidableEq, Repr

/-- A message frame (Table 5.4) with its payload and check sequence. -/
structure MsgFrame where
  topo : Nat
  dst : Nat
  src : Nat
  type : Nat
  prio : Nat
  flags : Nat := 0
  seq : Nat := 0
  len : Nat
  stream : Nat := 0
  payload : Bytes
  crc : Nat := 0
  deriving DecidableEq, Repr


/-- A CAN frame on a bus: the fields of Table 8.3 that a wire carries. -/
structure CanFrame where
  id : Nat
  ide : Bool
  rtr : Bool
  esi : Bool
  dlc : Nat
  fdf : Bool
  brs : Bool
  data : Bytes
  deriving DecidableEq, Repr

/-- A consist frame (Table 7.2) with its payload and check sequences. -/
structure ConsistFrame where
  frameId : Nat
  sender : Nat
  cycle : Nat
  len : Nat
  flags : Nat
  hcrc : Nat
  payload : Bytes
  crc : Nat
  deriving DecidableEq, Repr

/-- A stack beacon (Table 19.2). -/
structure Beacon where
  topo : Nat
  pos : Nat
  orient : Nat
  kept : Bool
  grace : Bool
  role : Nat
  n : Nat
  keptLen : Nat
  epoch : Bool
  timeValid : Bool
  sleep : Bool
  tstate : Nat
  count : Nat
  timeS : Nat
  timeNs : Nat
  corr : Int
  masterUid : Nat
  present : Nat
  ready : Nat
  crcOk : Bool
  deriving DecidableEq, Repr

/-- A G-line telegram (Table 13.1) as its fields; LEN is the number of data bytes. -/
structure Telegram where
  type : Nat
  dest : Nat
  src : Nat
  flags : Nat := 0
  data : Bytes := []
  deriving DecidableEq, Repr
/-- What the node puts on its wires, pins and into host memory. -/
inductive Emit where
  /-- A posted write of a function to host memory. -/
  | hostWrite (function addr : Nat) (data : Bytes)
  /-- A read request of a function. -/
  | hostRead (function addr length : Nat)
  /-- An MSI-X message. -/
  | msix (function vector : Nat)
  /-- The value a register read returns. -/
  | readValue (req : Requester) (addr value : Nat)
  /-- The status that a path returns for a write or a command. -/
  | pathStatus (path : Path) (addr : Nat) (status : Status)
  /-- A SYNC or a report on REF_DAT. -/
  | sync (frame : SyncFrame)
  | report (r : Report)
  /-- The level of REF_SW that the referee drives. -/
  | refSw (level : Nat)
  /-- The full state transfer asked of the acting member (R381). -/
  | pairTransferStart
  /-- PPS_OUT level. -/
  | ppsOut (level : Bool)
  /-- An inauguration frame on both lines of an end (1 or 2). -/
  | ina (side : Nat) (frame : InaFrame)
  /-- An inauguration frame on one port (HELLO). -/
  | hello (port : Nat) (frame : InaFrame)
  /-- A cycle frame on a port; `aborted`: cut with /E/ (R138). -/
  | cycleFrame (port : Nat) (frame : CycleFrame) (aborted : Bool)
  /-- /H/ and /D/ on a port. -/
  | hopReport (port : Nat) (report : HopReport)
  | hopNotice (port : Nat) (notice : HopNotice)
  /-- A message frame on a port, and /E/ that ends one in transmission. -/
  | message (port : Nat) (frame : MsgFrame)
  | messageAbort (port : Nat)
  /-- A keep-alive pulse to a port's transceiver. -/
  | keepAlive (port : Nat)
  /-- A per-cycle update on the pair link. -/
  | pairUpdate (update : PairUpdate)
  /-- The start of a CAN frame of a channel; `reference`: a time-triggered reference message. -/
  | canFrame (channel : Nat) (element : Bytes)
  /-- A consist frame sent on a set of ports, its /J/ `offset` ns after its action point; /H/ that cuts a forwarded
  frame; a frame the guardian forwards to a set of ports. -/
  | consistFrame (ports : Nat) (offset : Int) (frame : ConsistFrame)
  | consistCut (port : Nat)
  | consistForward (ports : Nat)
  /-- A beacon or a message frame on STK_OUT. -/
  | beacon (frame : Beacon)
  | stackFrame (frame : MsgFrame)
  /-- A G-line telegram on a line port. -/
  | telegram (port : Nat) (t : Telegram)
  /-- The word that a read strobe of the legacy host bus returns. -/
  | ghWord (addr value : Nat)
  deriving DecidableEq, Repr

end Sys2Proof
end

