-- ==== Sys2Proof/Syntax.lean ====
section
/-! DEFINITION. The commands of the PX7480: one constructor per row of the table of operations and events,
in the table's order, with what the row's event brings with it from outside the node. -/

namespace Sys2Proof

/-- The steps of the part (opcode_table.json, spec/95_what_each_step_holds.md). -/
inductive Instr where
  /-- REGISTER_WRITE (R16): A write to a register that has no row of its own is applied by access type, with the PRV check for paths other than local PF0. -/
  | registerWrite (req : Requester) (addr size value : Nat)
  /-- REG64_LOWER_WORD_WRITE (R19): A 32-bit write of the lower word of a 64-bit register is held as the pending lower word for that requester. -/
  | reg64LowerWordWrite (req : Requester) (addr value : Nat)
  /-- REG64_UPPER_WORD_WRITE (R19): A 32-bit write of the upper word commits the whole 64-bit value with the pending lower word and is judged as a whole. -/
  | reg64UpperWordWrite (req : Requester) (addr value : Nat)
  /-- REG64_LOWER_WORD_READ (R19): A 32-bit read of the lower word of a 64-bit register latches the upper word for the next upper-word read. -/
  | reg64LowerWordRead (req : Requester) (addr : Nat)
  /-- WIDE_REGISTER_WORD0_READ (R499): A read of word 0 of a read-only register wider than 64 bits latches its other words. -/
  | wideRegisterWord0Read (req : Requester) (addr : Nat)
  /-- READ_CLEAR_ACCESS (R14): A read of an RC field returns its value and then clears it, unless an event sets it in the same cycle. -/
  | readClearAccess (req : Requester) (addr size : Nat)
  /-- UNPERFORMED_ACCESS (R20): A narrow, misaligned or spanning native access is not performed, and a PCIe access of this kind is counted and captured. -/
  | unperformedAccess (req : Requester) (write : Bool) (addr byteEnables : Nat)
  /-- RESTART (R38): GLB command RESTART enters BOOT, resamples the straps and runs a full BOOT, unless SAFE_LATCH is set. -/
  | restart (path : Path) (arg straps : Nat)
  /-- ENTER_SAFE (R38): GLB command ENTER_SAFE takes the node to SAFE. -/
  | enterSafe (path : Path) (arg : Nat)
  /-- CONFIG_DONE (R46): GLB command CONFIG_DONE checks the image address and length and starts the fetch of the configuration image from host memory. -/
  | configDone (path : Path) (arg : Nat)
  /-- CONFIG_FETCH_DONE (R47): The fetched image is verified and applied, and the node enters its target mode or stays in HOST_WAIT with the failure result. -/
  | configFetchDone (image : Option Image)
  /-- ENTER_TEST (R57): GLB command ENTER_TEST moves BOOT from HOST_WAIT to the TEST sub-state where the life-cycle state allows it. -/
  | enterTest (path : Path) (arg : Nat)
  /-- SLEEP_VOTE (R393): GLB command SLEEP_VOTE sends a sleep REQ to the head, or acts directly at the head. -/
  | sleepVote (path : Path) (arg : Nat)
  /-- CONFIG_STORE (R48): GLB command CONFIG_STORE starts fetching and verifying an image for the MRAM bank not in use. -/
  | configStore (path : Path) (arg : Nat)
  /-- CONFIG_STORE_DONE (R48): The stored image is written body first and header last, and the command reports OK, IMAGE_INVALID or AUTH_FAIL. -/
  | configStoreDone (image : Option Image)
  /-- DEBUG_OPEN (R58): Authenticated GLB command DEBUG_OPEN in DEBUG_WAIT opens debug and enters TEST, or ends BOOT in SAFE on a failed tag. -/
  | debugOpen (path : Path) (arg : Nat)
  /-- DBG_TOKEN (R34): The JTAG instruction DBG_TOKEN presents the DEBUG_OPEN tag in DEBUG_WAIT, and is ignored at any other time. -/
  | dbgToken (tag : Nat)
  /-- AUTH_BUSY_END (R50): The 1 s BUSY period after an AUTH_FAIL expires, and authenticated commands are taken again. -/
  | authBusyEnd
  /-- LC_PERSONALIZE (R52): GLB command LC_PERSONALIZE programs the UID and a generated device root, programs PERS and enters BOOT. -/
  | lcPersonalize (path : Path) (arg : Nat)
  /-- LC_FIELD (R53): GLB command LC_FIELD programs FIELD and permanently closes private test access. -/
  | lcField (path : Path) (arg : Nat)
  /-- LC_RETURN (R54): Authenticated GLB command LC_RETURN zeroizes keys and root, programs RETURN, records it and enters BOOT. -/
  | lcReturn (path : Path) (arg : Nat)
  /-- LC_SCRAP (R56): GLB command LC_SCRAP zeroizes keys, erases the recorder and image banks, programs SCRAP and enters BOOT. -/
  | lcScrap (path : Path) (arg : Nat)
  /-- POWER_ON (R483): VHOLD rising through 2.70 V starts the power-up sequence of the regulators and the oscillator. -/
  | powerOn
  /-- RESET_N_ASSERT (R484): RESET_N held low for 1 µs or more resets the node, sets the ports safe and drains the recorder queue. -/
  | resetNAssert
  /-- INTERNAL_RESET_RELEASE (R483): At the internal release of reset BOOT starts, BOOTSEL is sampled and uptime restarts at 0. -/
  | internalResetRelease (straps : Nat)
  /-- BOOT_OTP_READ_DONE (R45): The OTP read decodes the life-cycle state and UID, and BOOT stops there for good in SCRAPPED. -/
  | bootOtpReadDone
  /-- BOOT_SELFTEST_DONE (R45): The power-up self-test ends, and the key vault check and the tamper latch read follow, or BOOT ends in SAFE. -/
  | bootSelftestDone (pass : Bool) (failedChannels : List Nat) (recordEcc : Bool)
  /-- PCIE_ENDPOINT_READY (R302): PCIe link training completes and the endpoint answers configuration requests, with PF0 readable. -/
  | pcieEndpointReady (speed width : Nat)
  /-- BOOT_IMAGE_VERIFIED (R47): The MRAM image is read and verified, with fallback to the other bank on failure. -/
  | bootImageVerified
  /-- BOOT_END (R45): The configuration is applied, the transceivers are set by mode, GLB_MODE takes the target mode and ALIVE starts. -/
  | bootEnd
  /-- DEBUG_WAIT_TIMEOUT (R58): 10 s in DEBUG_WAIT without a valid tag end BOOT in SAFE with DEBUG_DENIED. -/
  | debugWaitTimeout
  /-- RECORDER_BOOT_SCAN (R434): The recorder scans the MARK bytes, finds its fill and next SEQ, completes any pending clear and sets READY. -/
  | recorderBootScan
  /-- WAKE_BOOT_END (R49): The wake boot from the resume area completes and restores the mode that was left, starting the false-wake watch. -/
  | wakeBootEnd (selftestPass resumeCrcOk : Bool)
  /-- LINK_LOSS_OF_SIGNAL (R64): Loss of signal for 1 µs takes the line port link to DOWN. -/
  | linkLossOfSignal (port : Nat)
  /-- LINK_CODE_ERROR (R64): A code error is counted, and 16 in 1,024 code groups or a loss of comma alignment takes the link DOWN. -/
  | linkCodeError (port : Nat) (alignmentLost : Bool)
  /-- SIGNAL_DETECT (R64): Signal above 40 mV for 10 µs moves the port from DOWN to ACQUIRE. -/
  | signalDetect (port : Nat)
  /-- ACQUIRE_SETTING_TIMER (R64): Each 20 µs CTLE setting of the ACQUIRE sweep ends, and the next setting is tried or the best one kept. -/
  | acquireSettingTimer (port eye : Nat)
  /-- ACQUIRE_TIMEOUT (R64): No comma alignment within 1 ms of ACQUIRE returns the link to DOWN. -/
  | acquireTimeout (port : Nat)
  /-- RX_POLARITY_DETECT (R73): 16 consecutive inverted /I/ in ACQUIRE invert the receive polarity. -/
  | rxPolarityDetect (port : Nat)
  /-- LINK_UP (R64): 64 consecutive valid /I/ take the link to UP, which is a line link change and makes the port send HELLO. -/
  | linkUp (port : Nat)
  /-- SHADOW_UPDATE (R76): Every 128 received code groups the adaptation updates the shadow equalizer set. -/
  | shadowUpdate (port ctle : Nat) (taps : List Int) (eye : Nat)
  /-- CAL_TIMEOUT (R65): CAL_LOCK not set 5 ms after UP sets CAL_TIMEOUT and reports cable degraded. -/
  | calTimeout (port : Nat)
  /-- PRELOCK_EQ_STEP (R76): Before CAL_LOCK, every 125 µs of uptime the applied equalizer set steps toward the shadow set. -/
  | prelockEqStep (port : Nat)
  /-- KEEPALIVE_PULSE (R69): Every 1 ms the port controller sends a keep-alive pulse to its transceiver. -/
  | keepalivePulse (port : Nat)
  /-- KEEPALIVE_TIMEOUT (R69): No keep-alive for 1.0 s puts the transceiver into fail-safe SLEEP and sets FS_SLEEP. -/
  | keepaliveTimeout (port : Nat)
  /-- PAIR_SHORT_DETECT (R71): The echo or the common-mode sense detects a short on the TX pair, takes the link DOWN and reports line short. -/
  | pairShortDetect (port : Nat) (shield : Bool) (dist : Nat) (rho : Int)
  /-- PAIR_OPEN_DETECT (R71): The echo detects an open on the TX pair, or classifies an uncoupled end as END_OPEN. -/
  | pairOpenDetect (port dist : Nat) (rho : Int)
  /-- PAIR_SWAP_DETECT (R71): Foreign commas decoded on the own TX pair detect swapped pairs. -/
  | pairSwapDetect (port : Nat)
  /-- COMMON_MODE_DETECT (R71): A common-mode excursion of 45 V for 100 µs on LxY_CT reports line common-mode. -/
  | commonModeDetect (port : Nat) (vcm : Int)
  /-- PAIR_FAULT_CLEAR (R71): A pair fault condition absent for 100 ms drops its error line and is recorded as cleared. -/
  | pairFaultClear (port condition : Nat)
  /-- ECHO_SCAN_DONE (R82): The echo locator completes a 0–200 m scan and holds the greatest discontinuity for the next epoch. -/
  | echoScanDone (port dist : Nat) (rho : Int)
  /-- HOP_REPORT_RECEIVE (R78): X takes an /H/, computes a hop-delay sample and averages it, rejecting outliers. -/
  | hopReportReceive (port : Nat) (report : HopReport)
  /-- HOP_NOTICE_RECEIVE (R79): Y takes the /D/ average into LN_DELAY of its upstream port, or discards a bad /D/. -/
  | hopNoticeReceive (port : Nat) (notice : HopNotice)
  /-- CALIBRATION_EPOCH (R85): After every inbound copy of frame k has ended, the node applies all ready calibration results at one instant. -/
  | calibrationEpoch (receiving : Nat)
  /-- LATE_LINE_TIMEOUT (R85): A line whose inbound copy has not begun 2 µs after the other line's copy ended is taken as not carrying frame k. -/
  | lateLineTimeout (line : Nat)
  /-- FREE_EPOCH (R87): Without cycle-frame headers, a free calibration epoch falls every 125 µs at an /I/ boundary. -/
  | freeEpoch
  /-- DEFERRED_RX_CHANGE (R86): A receive-path change deferred by a frame in reception is applied at the first /I/ after that frame. -/
  | deferredRxChange (port : Nat)
  /-- RECALIBRATE (R89): LN command RECALIBRATE takes the link to DOWN and then ACQUIRE with the equalizer reset. -/
  | recalibrate (path : Path) (port arg : Nat)
  /-- SET_DELAY_BASE (R89): LN command SET_DELAY_BASE loads LN_DELAY_BASE from LN_DELAY. -/
  | setDelayBase (path : Path) (port arg : Nat)
  /-- ECHO_RESET (R89): LN command ECHO_RESET clears the echo history and the END_OPEN learning. -/
  | echoReset (path : Path) (port arg : Nat)
  /-- KA_TEST (R89): LN command KA_TEST withholds keep-alive from the port with a 1 ms test timeout. -/
  | kaTest (path : Path) (port arg : Nat)
  /-- KA_TEST_END (R89): At 2 ms keep-alive resumes, KA_TEST returns to 0 and the port returns to its table state. -/
  | kaTestEnd (port : Nat) (reachedSleep : Bool)
  /-- END_NOT_LINKED_HOLD (R95): An end that has stayed not linked for DOWN_HOLD becomes an inauguration trigger. -/
  | endNotLinkedHold (side : Nat)
  /-- HELLO_RECEIVE (R96): A HELLO on a newly linked end is a trigger when it differs from the recorded neighbour, and nothing otherwise. -/
  | helloReceive (port : Nat) (frame : InaFrame)
  /-- HELLO_REPEAT (R96): Every 10 ms a port repeats its HELLO until it has received one. -/
  | helloRepeat (port : Nat)
  /-- COUPLE_SENSE_DEBOUNCED (R95): A COUPLE_SENSE level change that survives the debounce time triggers an inauguration. -/
  | coupleSenseDebounced (side : Nat) (level : Bool)
  /-- CAB_ACTIVE_DEBOUNCED (R95): A CAB_ACTIVE level change that survives the debounce time triggers an inauguration. -/
  | cabActiveDebounced (level : Bool)
  /-- INAUGURATE (R120): INA command INAUGURATE acts as an inauguration trigger. -/
  | inaugurate (path : Path) (arg : Nat)
  /-- SETTLE_END (R97): SETTLE ends 1 ms after the last trigger, and the node starts a run by sending DISC or ALERT. -/
  | settleEnd
  /-- ALERT_RECEIVE (R102): An ALERT joins the node to the run, and it relays the ALERT or sends its own DISC as a candidate. -/
  | alertReceive (port : Nat) (frame : InaFrame)
  /-- DISC_RECEIVE (R103): A DISC is compared, extended with position, hash and KEPT, and relayed, or answered with RET at the tail. -/
  | discReceive (port : Nat) (frame : InaFrame)
  /-- RET_RECEIVE (R105): A RET is recorded and relayed, and the head answers it with a COMMIT carrying the new counter. -/
  | retReceive (port : Nat) (frame : InaFrame)
  /-- INAUG_COMMIT_RECEIVE (R106): A COMMIT is applied in one cycle, setting the topology, position and role, and is passed on, or DONE is sent at the tail. -/
  | inaugCommitReceive (port : Nat) (frame : InaFrame)
  /-- DONE_RECEIVE (R102): The head receives DONE and returns to IDLE. -/
  | doneReceive (port : Nat) (frame : InaFrame)
  /-- RUN_RESTART_WAIT_END (R107): The 1 ms wait after a trigger in mid-run ends, and the run restarts with ATTEMPT + 1. -/
  | runRestartWaitEnd
  /-- RUN_TIMEOUT (R107): A run that has not committed within 6 ms restarts, and after four restarts FAILED is set. -/
  | runTimeout
  /-- FAILED_RETRY (R109): While FAILED is set, a new attempt starts 100 ms after the previous attempt was abandoned. -/
  | failedRetry
  /-- GRACE_END (R115): Two basic cycles after a commit with NUMBERING_KEPT, GRACE ends and frames bearing the previous counter are discarded. -/
  | graceEnd
  /-- HOPDLY_SEND (R117): Every 1,024 basic cycles, and in the first window after each commit, a non-head node broadcasts HOPDLY. -/
  | hopdlySend
  /-- HOPDLY_RECEIVE (R117): A HOPDLY under the present counter fills the hop-delay table and the UID table. -/
  | hopdlyReceive (frame : MsgFrame)
  /-- CYCLE_FRAME_EMIT (R122): At each basic-cycle instant the head sends the cycle frame on both lines of its linked end. -/
  | cycleFrameEmit (lateA lateB : Int)
  /-- CYCLE_FRAME_OUTBOUND (R139): An outbound cycle frame is checked, forwarded cut-through or turned around, with the own area written and the tag updated. -/
  | cycleFrameOutbound (port : Nat) (frame : CycleFrame) (rx tx : Int) (errorAt : Option Nat)
  /-- CYCLE_FRAME_INBOUND (R144): An inbound copy is staged, checked at its /T/ and forwarded unchanged, or consumed at the head. -/
  | cycleFrameInbound (port : Nat) (frame : CycleFrame) (rx tx : Int) (errorAt : Option Nat)
  /-- DECLARE (R130): CYC command DECLARE sends a SLOT_DECL in the first window in which it fits. -/
  | declare (path : Path) (arg : Nat)
  /-- SLOT_DECL_REPEAT (R130): Every 16 basic cycles a node repeats its SLOT_DECL until a map gives its declared size. -/
  | slotDeclRepeat
  /-- SLOT_DECL_RECEIVE (R131): The head takes a slot declaration from a position. -/
  | slotDeclReceive (frame : MsgFrame)
  /-- SLOT_MAP_RECEIVE (R133): A node takes a SLOT_MAP and applies it from EFF_CYCLE. -/
  | slotMapReceive (frame : MsgFrame)
  /-- MAP_REPEAT (R131): Every 1,024 basic cycles the head repeats the latest map. -/
  | mapRepeat
  /-- MAP_REISSUE (R159): CYC command MAP_REISSUE makes the head send the latest map in the next window. -/
  | mapReissue (path : Path) (arg : Nat)
  /-- MSG_WINDOW_OPEN (R149): A port opens its message window 70 ns after the node's calibration epoch. -/
  | msgWindowOpen (port : Nat)
  /-- MSG_WINDOW_CLOSE (R149): The message window closes at t_close, and no frame that cannot end before it is started. -/
  | msgWindowClose (port : Nat)
  /-- HEADER_LOSS_TIMEOUT (R150): Without a cycle-frame header for two basic cycles, the window stays open and free epochs begin. -/
  | headerLossTimeout
  /-- MSG_FRAME_RECEIVE (R154): A received message frame is checked, policed, deduplicated and routed for delivery or forwarding. -/
  | msgFrameReceive (port : Nat) (frame : MsgFrame) (codeGroups : Nat)
  /-- MSG_TRANSMIT_START (R156): A free port starts the oldest frame of the highest class that fits the window. -/
  | msgTransmitStart (port : Nat)
  /-- MSG_QUEUE_AGE_EXPIRY (R156): A queued frame that has waited AGE basic cycles is discarded. -/
  | msgQueueAgeExpiry (port cls : Nat)
  /-- DUP_RECORD_LAPSE (R155): A duplicate-filter record unused for 64 basic cycles lapses. -/
  | dupRecordLapse (src prio : Nat)
  /-- HOLDOVER_ENTRY (R171): No usable sample for 2 basic cycles moves a LOCKED follower into HOLDOVER with k frozen. -/
  | holdoverEntry
  /-- HOLDOVER_EXPIRY (R175): After 10 s of HOLDOVER, HOLD_OK clears and HOLD_EXPIRED is set. -/
  | holdoverExpiry
  /-- PPS_IN_EDGE (R177): A PPS_IN rising edge is timestamped and, at the head, steers the sub-second time by a jump or a slew. -/
  | ppsInEdge (t : Int)
  /-- PPS_IN_LOST (R177): No PPS_IN edge for 1.5 s sets PPS_IN_LOST. -/
  | ppsInLost
  /-- PPS_OUT_EDGE (R178): PPS_OUT rises when local train time reaches TIME_NS = 0 plus the offset, while the output is active. -/
  | ppsOutEdge
  /-- PPS_OUT_PULSE_END (R178): PPS_OUT falls after its configured width. -/
  | ppsOutPulseEnd
  /-- STEP (R180): TIM command STEP at the head schedules a train-time step to V. -/
  | step (path : Path) (arg : Nat)
  /-- STEP_APPLY (R180): At the first basic-cycle instant at least 10 µs after STEP, the head sets the new train time and records it. -/
  | stepApply
  /-- CLEAR_VALID (R184): TIM command CLEAR_VALID clears TIME_VALID at the head from the next frame. -/
  | clearValid (path : Path) (arg : Nat)
  /-- TIM_NOW_NS_READ (R183): A read of TIM_NOW_NS latches the fraction, seconds and uptime at the same tick. -/
  | timNowNsRead (req : Requester)
  /-- CONSIST_FRAME_RECEIVE (R199): A consist frame is validated for slot, sender, cycle and deviation, and is handed to its flows. -/
  | consistFrameReceive (port : Nat) (frame : ConsistFrame) (rx : Int)
  /-- CONSIST_ACTION_POINT (R198): At its own action point the node sends the committed content of its slot or dynamic ID. -/
  | consistActionPoint (frameId : Nat)
  /-- GUARDIAN_FRAME_START (R196): The guardian forwards a transmission that starts inside an open window, and treats one outside as a violation. -/
  | guardianFrameStart (port : Nat) (frame : ConsistFrame) (rx : Int)
  /-- GUARDIAN_CUT (R194): At a window end the guardian cuts a frame still running with /H/. -/
  | guardianCut (port : Nat)
  /-- GUARDIAN_BLANK_END (R196): After two full consist cycles of blanking, the guardian reopens the port. -/
  | guardianBlankEnd (port : Nat)
  /-- GUARDIAN_IDLE_TIMEOUT (R207): 2 × T_CC without a valid frame returns the guardian to STARTUP. -/
  | guardianIdleTimeout
  /-- CONSIST_NIT_CORRECTION (R201): At the start of the NIT the node computes and applies the offset and rate corrections. -/
  | consistNitCorrection
  /-- CONSIST_CYCLE_START (R209): At a consist cycle start the node advances its counter and passes from INTEGRATE to ACTIVE where allowed. -/
  | consistCycleStart
  /-- LISTEN_TIMER_EXPIRY (R208): The listen timer expires, and a node with COLDSTART sends a COLD frame. -/
  | listenTimerExpiry
  /-- CONSIST_LINK_DOWN (R211): A consist port link goes DOWN, reports consist link and is recorded. -/
  | consistLinkDown (port : Nat) (codeError : Bool)
  /-- CONSIST_LINK_UP (R188): 64 valid /I/ bring a consist port link UP. -/
  | consistLinkUp (port : Nat)
  /-- CST_REJOIN (R212): CST command REJOIN returns the controller to LISTEN. -/
  | cstRejoin (path : Path) (arg : Nat)
  /-- PORT_RESET (R212): CST command PORT_RESET clears BLANKED, ISOLATED and the violation history of the ports named. -/
  | portReset (path : Path) (arg : Nat)
  /-- CAN_FRAME_RECEIVE (R220): A valid CAN frame is filtered and placed in a receive queue or rejected. -/
  | canFrameReceive (channel : Nat) (frame : CanFrame) (sof : Nat)
  /-- CAN_RX_ERROR (R229): A receive error updates the error counters, and repeated form or stuff errors raise the swap-suspect fault. -/
  | canRxError (channel kind add : Nat) (early : Bool)
  /-- CAN_PROTOCOL_EXCEPTION (R216): A protocol exception event is counted and the channel waits for 11 recessive bits. -/
  | canProtocolException (channel : Nat)
  /-- CAN_TX_SELECT (R225): At the selection point the channel picks the pinned entry or the highest-priority entry. -/
  | canTxSelect (channel : Nat)
  /-- CAN_TX_SUCCESS (R226): A transmission without error by the last bit of EOF completes its entry with SENT. -/
  | canTxSuccess (channel tdcv : Nat)
  /-- CAN_TX_ARB_LOST (R226): A lost arbitration leaves the entry for retry, or ends a one-shot or cancelled entry. -/
  | canTxArbLost (channel : Nat)
  /-- CAN_TX_ERROR (R226): A transmit error updates the counters and may pin the entry or enter bus-off. -/
  | canTxError (channel kind add tdcv : Nat) (loop : Bool)
  /-- CAN_RECESSIVE_11 (R230): An occurrence of 11 consecutive recessive bits is counted, for bus-off recovery or integration. -/
  | canRecessive11 (channel : Nat)
  /-- CAN_START (R241): CANn command START checks the bit timing and windows and starts integration. -/
  | canStart (path : Path) (channel arg : Nat)
  /-- CAN_STOP (R241): CANn command STOP ends the transmission at frame end, holds TXD recessive and stops pending entries. -/
  | canStop (path : Path) (channel arg : Nat)
  /-- CAN_CANCEL (R228): CANn command CANCEL removes the entries with a TAG, or completes them at the end of the attempt. -/
  | canCancel (path : Path) (channel arg : Nat)
  /-- CAN_CFG_WRITE (R242): A write to a channel configuration register takes effect only while STOPPED, and is otherwise flagged and ignored. -/
  | canCfgWrite (req : Requester) (addr size value : Nat)
  /-- CAN_DOMINANT_TIMEOUT (R233): RXD dominant for 2 ms puts the channel in HELD and raises the bus fault. -/
  | canDominantTimeout (channel : Nat)
  /-- CAN_DOMINANT_CLEAR (R233): 11 recessive bits end HELD, and the channel integrates. -/
  | canDominantClear (channel : Nat)
  /-- CAN_TT_REFERENCE_RECEIVE (R238): A valid reference message sets the sync mark and the cycle count. -/
  | canTtReferenceReceive (channel : Nat) (frame : CanFrame) (sof : Nat)
  /-- CAN_TT_REFERENCE_SEND (R238): The acting master sends its reference CYCLE_LEN NTU after the previous sync mark. -/
  | canTtReferenceSend (channel : Nat)
  /-- CAN_TT_REFERENCE_MISSING (R239): A missing reference advances the cycle free-running, with take-over at the third and TT_WAIT at the eighth. -/
  | canTtReferenceMissing (channel : Nat)
  /-- CAN_TT_WINDOW_START (R236): At an exclusive or arbitrating window start, the bound TT entry is transmitted. -/
  | canTtWindowStart (channel window : Nat) (busFree : Bool)
  /-- CAN_TT_TXEN_EXPIRY (R236): A window entry not started by START + TXEN_WIN completes NOT_SENT and counts a slot miss. -/
  | canTtTxenExpiry (channel window : Nat)
  /-- SLICE_SERVICE (R248): At each slice the flow engine completes one work unit for the slice owner. -/
  | sliceService (slice pins ecc : Nat)
  /-- LOCKSTEP_MISMATCH (R244): Differing core outputs halt both cores and raise the lockstep fault. -/
  | lockstepMismatch
  /-- FLOW_ENABLE (R254): FLW command ENABLE checks a flow context and starts the flow or its resolution. -/
  | flowEnable (path : Path) (arg : Nat)
  /-- FLOW_DISABLE (R271): FLW command DISABLE discards the flow's queued items and sets it DISABLED. -/
  | flowDisable (path : Path) (arg : Nat)
  /-- SLICE_APPLY (R249): FLW command SLICE_APPLY checks the shadow slice table. -/
  | sliceApply (path : Path) (arg : Nat)
  /-- SLICE_TABLE_SWAP (R249): At the next wheel start the checked shadow table is copied into the active table. -/
  | sliceTableSwap
  /-- FLOW_CONTEXT_WRITE (R253): A write to flow context memory is taken only in permitted statuses and byte ranges, and is otherwise counted. -/
  | flowContextWrite (req : Requester) (addr size value : Nat)
  /-- STALE_FLOW_RUN (R258): A STALE flow runs once per basic cycle by its STALE_ACT. -/
  | staleFlowRun (flow : Nat)
  /-- CHANNEL_TEST (R419): Every 100 ms a MAINT slice tests one retirable channel through its internal loopback. -/
  | channelTest (channel : Nat) (pass : Bool)
  /-- THERMAL_MEASURE (R493): Every 100 µs both sensors measure Tj and the governor acts on the higher reading. -/
  | thermalMeasure (t0 t1 : Int)
  /-- AP_REQ_WR (R279): A write of BRG_APp_REQ with OP WR posts a bridge write. -/
  | apReqWr (req : Requester) (port value : Nat)
  /-- AP_REQ_RD (R282): A write of BRG_APp_REQ with OP RD issues a delayed bridge read. -/
  | apReqRd (req : Requester) (port value : Nat)
  /-- AP_REQ_UNLOCK (R286): A write of BRG_APp_REQ with OP UNLOCK releases the outgoing lock at the target. -/
  | apReqUnlock (req : Requester) (port value : Nat)
  /-- AP_STATUS_READ (R282): The first read of BRG_APp_STATUS that returns a final status collects the read and frees the port. -/
  | apStatusRead (req : Requester) (port : Nat)
  /-- POSTED_ENTRY_FREE (R279): A posted-store entry frees, and a waiting write shows ACCEPTED. -/
  | postedEntryFree
  /-- BRG_WR_REQUEST (R278): At the target a write request is ordered by BSEQ and executed, with a FAULT notice on failure. -/
  | brgWrRequest (frame : MsgFrame) (dma : Option Nat)
  /-- BRG_RD_REQUEST (R278): At the target a read request is ordered, lock-checked and executed, and answered with RD_DATA or ERR. -/
  | brgRdRequest (frame : MsgFrame) (dma : Option Nat)
  /-- BRG_UNLOCK_REQUEST (R286): At the target an UNLOCK request ends the lock and sends LOCK_FREE to refused origins. -/
  | brgUnlockRequest (frame : MsgFrame)
  /-- SB_POLL_RECEIVE (R290): The far node answers an SB_POLL with the present sideband word. -/
  | sbPollReceive (frame : MsgFrame)
  /-- RD_DATA_RECEIVE (R282): Read data arrives for an open read, or is discarded as a late response. -/
  | rdDataReceive (frame : MsgFrame)
  /-- ERR_RECEIVE (R285): An ERR response completes the open read with its status, or becomes a BRIDGE_ERROR event. -/
  | errReceive (frame : MsgFrame)
  /-- LOCK_RETRY_RECEIVE (R288): A LOCK_RETRY is counted and the request waits for LOCK_FREE or 500 µs, or it fails after LOCK_TRIES. -/
  | lockRetryReceive (frame : MsgFrame)
  /-- LOCK_FREE_RECEIVE (R288): A LOCK_FREE makes the origin send the refused lock request again. -/
  | lockFreeReceive (frame : MsgFrame)
  /-- SB_DATA_RECEIVE (R290): An SB_DATA answer is written to BRG_WINn_SB and its AGE is cleared. -/
  | sbDataReceive (frame : MsgFrame)
  /-- FAULT_NOTICE_RECEIVE (R280): A FAULT notice becomes a POSTED_FAULT event, or ends the lock on LOCK_LOST. -/
  | faultNoticeReceive (frame : MsgFrame)
  /-- BSEQ_GAP_EXPIRY (R278): A BSEQ gap still open at the end of the second window is skipped and the held requests run. -/
  | bseqGapExpiry (origin window : Nat)
  /-- ORDER_STATE_LAPSE (R278): Order state unused for 64 basic cycles lapses. -/
  | orderStateLapse (origin window : Nat)
  /-- RESPONSE_TIMEOUT (R283): No response within RSP_TMO completes the read with TIMEOUT. -/
  | responseTimeout (who window bseq : Nat)
  /-- READ_DISCARD_TIMEOUT (R284): Uncollected read data is discarded at the DISCARD timer, with UNLOCK if a lock is held. -/
  | readDiscardTimeout (port : Nat)
  /-- TARGET_LOCK_TIMEOUT (R286): A target lock ends 500 µs after grant, and the holder is sent LOCK_LOST. -/
  | targetLockTimeout
  /-- LOCK_RETRY_TIMER (R288): 500 µs after LOCK_RETRY the origin sends the request again. -/
  | lockRetryTimer (who window bseq : Nat)
  /-- WIN_ENABLE (R275): BRG command WIN_ENABLE checks a window and makes it ACTIVE or RESOLVING. -/
  | winEnable (path : Path) (arg : Nat)
  /-- WIN_DISABLE (R295): BRG command WIN_DISABLE completes open requests, ends the lock and disables the window. -/
  | winDisable (path : Path) (arg : Nat)
  /-- DOORBELL_POLL (R309): A poll reads the group's doorbell page and the new descriptors and buffers. -/
  | doorbellPoll (group : Nat) (page : Option Bytes) (read : List (Nat × List (Option Descriptor)))
  /-- FETCH_COMPLETE (R309): A doorbell fetch ends when all of its reads have completed, and its descriptors become ready. -/
  | fetchComplete (group : Nat)
  /-- TX_DESC_DATA (R313): A DATA descriptor's item is handed to every matching flow and the descriptor completes. -/
  | txDescData (ring : Nat)
  /-- TX_DESC_CMD (R305): A CMD descriptor issues the named command, checked by owner privilege, with the status in RESULT. -/
  | txDescCmd (ring : Nat)
  /-- TX_DESC_BRIDGE (R313): A BRIDGE descriptor issues a bridge request for its window. -/
  | txDescBridge (ring : Nat)
  /-- EVENT_ENTRY_WRITE (R317): An event entry is written when the event ring has room, or it waits or is lost. -/
  | eventEntryWrite (group : Nat) (event : Option HostEv)
  /-- MSIX_COALESCE_TIMEOUT (R318): COAL_TIME after the first unsignalled completion an MSI-X message is sent. -/
  | msixCoalesceTimeout (ring : Nat)
  /-- MSIX_UNMASK (R318): Unmasking a vector with its pending bit set sends the message. -/
  | msixUnmask (function vector : Nat)
  /-- RING_ENABLE (R319): Raising a ring's EN checks it and starts it with its index at 0, or puts it in ERROR. -/
  | ringEnable (req : Requester) (ring value : Nat)
  /-- RING_DISABLE (R319): Clearing a ring's EN moves it to STOPPING while fetched descriptors complete. -/
  | ringDisable (req : Requester) (ring value : Nat)
  /-- RING_STOP_DONE (R319): When its fetched descriptors have completed, a STOPPING ring enters STOPPED. -/
  | ringStopDone (ring : Nat)
  /-- PCIE_LINK_DOWN (R303): Link down resets the functions and rings, except the owners, and drops receive items. -/
  | pcieLinkDown
  /-- PCIE_HOT_RESET (R303): A hot reset acts as link down. -/
  | pcieHotReset
  /-- PF1_FLR (R303): An FLR of PF1 resets the groups owned by PF1 and its MSI-X state. -/
  | pf1Flr
  /-- BUS_MASTER_DISABLE (R303): Clearing Bus Master Enable stops requests for that function's groups. -/
  | busMasterDisable (function : Nat)
  /-- D3HOT_ENTRY (R303): Entry into D3hot suspends the function's ring work until return to D0. -/
  | d3hotEntry (function : Nat)
  /-- PE_PERST_ASSERT (R484): PE_PERST_N low holds the endpoint in fundamental reset with the effect of link down. -/
  | pePerstAssert
  /-- GH_BUS_READ (R325): A read strobe on the legacy host bus returns one word within the bus timing. -/
  | ghBusRead (addr : Nat) (early : Bool)
  /-- GH_HIGH_WORD_READ (R324): A read of a more significant word latches the less significant word. -/
  | ghHighWordRead (addr : Nat) (early : Bool)
  /-- GH_BUS_WRITE (R325): A write strobe on the legacy host bus writes one word under the mailbox ownership rules. -/
  | ghBusWrite (addr value : Nat) (early : Bool)
  /-- GH_HIGH_WORD_WRITE (R324): A write of a more significant word is held until the less significant word is written. -/
  | ghHighWordWrite (addr value : Nat) (early : Bool)
  /-- GH_LOW_WORD_WRITE (R324): A write of the less significant word commits the register with the held or present upper word. -/
  | ghLowWordWrite (addr value : Nat) (early : Bool)
  /-- SSR_LOW_WORD_READ (R328): A read of SSR word 0x005 clears the sticky bits just seen, or all of them. -/
  | ssrLowWordRead (early : Bool)
  /-- IVR_LOW_WORD_READ (R329): A read of IVR word 0x00B returns and acknowledges the highest pending source and releases GH_IRQ_N for 1 µs. -/
  | ivrLowWordRead (early : Bool)
  /-- ELD3_LOW_WORD_READ (R340): A read of ELD3's less significant word advances ELP. -/
  | eld3LowWordRead (early : Bool)
  /-- LEGACY_SOFT_RESET (R321): Writing CSR.SRST runs a BOOT with the last sampled BOOTSEL. -/
  | legacySoftReset (lower : Nat)
  /-- NODE_ENABLE_WRITE (R348): CSR.NODE_EN rising triggers a legacy inauguration. -/
  | nodeEnableWrite (lower : Nat)
  /-- ELOG_CLEAR (R340): Writing ELC.CLR clears the legacy log, ELW, ELP and LOG_FULL. -/
  | elogClear (lower : Nat)
  /-- WDR_WRITE (R332): A write to WDR restarts the watchdog and sets PD_VALID again. -/
  | wdrWrite (lower : Nat)
  /-- MBC_HANDOVER (R333): Writing MBCn with OWN = 1 hands mailbox n to the node. -/
  | mbcHandover (mailbox lower : Nat)
  /-- GTN_CAN_RUN_WRITE (R336): Writing CxCR.RUN starts the legacy channel when the bit time is valid, or sets CFG_ERR; clearing it stops the channel. -/
  | gtnCanRunWrite (channel lower : Nat)
  /-- GTN_WATCHDOG_EXPIRY (R332): The WDR timeout expires, and the node marks its process data invalid and logs WDOG. -/
  | gtnWatchdogExpiry
  /-- GH_IRQ_RELEASE_END (R330): The 1 µs release after an acknowledging IVR read ends, and GH_IRQ_N is low again while sources are pending. -/
  | ghIrqReleaseEnd
  /-- GTN_TICK (R327): Every 1 ms, while TICK_EN = 1, ISR.TICK is set. -/
  | gtnTick
  /-- GH_BOOT_HOLD_END (R326): A strobe held not ready since RESET_N completes at 0.5 ms. -/
  | ghBootHoldEnd
  /-- GTN_CAN_RX (R339): An accepted legacy CAN frame goes to the lowest owned CANx_RX mailbox, or is counted as overrun. -/
  | gtnCanRx (channel : Nat) (frame : CanFrame) (sof : Nat)
  /-- GTN_CAN_TX_DONE (R339): The legacy CAN mailbox in transmission succeeds and is released with OK. -/
  | gtnCanTxDone (channel : Nat)
  /-- CLAIM_RECEIVE (R349): A CLAIM makes lower candidates withdraw, and a collision backs off again. -/
  | claimReceive (port : Nat) (telegram : Telegram)
  /-- NAME_RECEIVE (R350): An unnamed node that hears NAME takes the position, stops repeating and answers NAME_ACK. -/
  | nameReceive (port : Nat) (telegram : Telegram)
  /-- NAME_ACK_RECEIVE (R350): The master records the named vehicle and names the next position, or ends naming with TOPOLOGY. -/
  | nameAckReceive (port : Nat) (telegram : Telegram)
  /-- TOPOLOGY_RECEIVE (R351): TOPOLOGY sets POS, increments TCR and completes the legacy inauguration. -/
  | topologyReceive (port : Nat) (telegram : Telegram)
  /-- PERIOD_RECEIVE (R353): PERIOD starts a process-data period at each node and sets ISR.PD. -/
  | periodReceive (port : Nat) (telegram : Telegram)
  /-- PD_POLL_RECEIVE (R353): The owner of the polled port answers with PD_DATA from its PD_SRC mailbox. -/
  | pdPollReceive (port : Nat) (telegram : Telegram)
  /-- PD_DATA_RECEIVE (R353): Nodes with a PD_SINK for the port take the data, and the border node tunnels it. -/
  | pdDataReceive (port : Nat) (telegram : Telegram)
  /-- MSG_POLL_RECEIVE (R354): The polled vehicle answers with its oldest pending MSG or with NONE. -/
  | msgPollReceive (port : Nat) (telegram : Telegram)
  /-- G_MSG_RECEIVE (R354): The destination of a MSG answers MSG_ACK and delivers it to an MSG_RX mailbox or a tube. -/
  | gMsgReceive (port : Nat) (telegram : Telegram)
  /-- MSG_ACK_RECEIVE (R354): A MSG_ACK completes the sender's MSG_TX mailbox or queued telegram. -/
  | msgAckReceive (port : Nat) (telegram : Telegram)
  /-- NONE_RECEIVE (R354): NONE lets the master move to the next message poll. -/
  | noneReceive (port : Nat) (telegram : Telegram)
  /-- G_RESET_RECEIVE (R348): RESET makes every node drop its position and start a legacy inauguration. -/
  | gResetReceive (port : Nat) (telegram : Telegram)
  /-- CLAIM_BACKOFF_EXPIRY (R349): The claim backoff expires and the candidate sends CLAIM. -/
  | claimBackoffExpiry
  /-- CLAIM_WIN_EXPIRY (R349): 100 µs after its CLAIM without withdrawal, the candidate becomes master. -/
  | claimWinExpiry
  /-- ANSWER_TIMEOUT (R347): No SD 60 µs after the master's ED counts a poll error and moves on. -/
  | answerTimeout
  /-- PERIOD_TIMER (R353): Every 16 ms the master starts a period with PERIOD and polls its list. -/
  | periodTimer
  /-- PERIOD_MISSING_TIMEOUT (R348): 50 ms without a PERIOD triggers a legacy inauguration at a named node. -/
  | periodMissingTimeout
  /-- G_LINE_SWITCH (R355): An active line silent for 2 ms while the other carries telegrams is switched and logged. -/
  | gLineSwitch (side : Nat)
  /-- G_PORT_DOWN (R355): A G-line port without a valid telegram for 50 ms becomes DOWN. -/
  | gPortDown (port : Nat)
  /-- BORDER_NAMING_TIMEOUT (R362): A legacy inauguration incomplete 50 ms after the trigger raises G-line fault and retries every 100 ms. -/
  | borderNamingTimeout
  /-- REF_SW_TAKE (R374): A member takes a REF_SW level held for 1 µs while the referee link is valid. -/
  | refSwTake (level : Nat)
  /-- INTERLOCK_CLAIM (R367): A selected member that has seen INTERLOCK_N high for 1 µs drives it low and gains the permission. -/
  | interlockClaim
  /-- INTERLOCK_FAULT (R369): INTERLOCK_N low for 100 µs after selection reports pair interlock. -/
  | interlockFault
  /-- REFEREE_SYNC_SEND (R371): Once per referee period the referee sends SYNC on the referee link. -/
  | refereeSyncSend
  /-- SYNC_RECEIVE (R372): A member takes SYNC and sends its health report in its slot. -/
  | syncReceive (sync : Option SyncFrame)
  /-- REFEREE_EVALUATE (R375): At cycle 740 the referee evaluates the reports and switches REF_SW when a criterion holds. -/
  | refereeEvaluate (report0 report1 : ReportIn)
  /-- ALIVE_WATCH_TIMEOUT (R375): No ALIVE edge from the selected member for 2 ms makes the referee switch. -/
  | aliveWatchTimeout (member : Nat)
  /-- REFEREE_ADOPT_END (R377): After two ADOPT frames the referee selects the member that reports PERMISSION. -/
  | refereeAdoptEnd (report0 report1 : ReportIn)
  /-- REF_LOST (R374): REF_CLK stopped or two missing SYNCs set REF_LOST and report the referee lost. -/
  | refLost
  /-- SELECT (R386): PAIR command SELECT makes the referee switch to the named member. -/
  | select (path : Path) (arg : Nat)
  /-- RESYNC (R386): PAIR command RESYNC restarts the full state transfer. -/
  | resync (path : Path) (arg : Nat)
  /-- PAIR_LINK_DOWN (R381): Loss of the pair link makes the standby UNSYNCED and reports pair link. -/
  | pairLinkDown
  /-- PAIR_LINK_UP (R381): The pair link UP moves an UNSYNCED standby to RESYNC. -/
  | pairLinkUp
  /-- STATE_TRANSFER_DONE (R381): The full state transfer completes and the standby enters SYNCED. -/
  | stateTransferDone (state : PairTransfer)
  /-- PAIR_UPDATE_RECEIVE (R381): The standby takes a per-cycle update and runs its receive checks. -/
  | pairUpdateReceive (update : Option PairUpdate)
  /-- PAIR_TEST_STEP_END (R382): A latent test step in TESTING ends and the standby returns to SYNCED. -/
  | pairTestStepEnd
  /-- VARIANT_B_DEADLINE (R380): At the end of cycle k_D + 7, outputs not yet fresh take safe levels. -/
  | variantBDeadline
  /-- PAIR_BOOT_FINAL_STEP (R384): At 10 µs into the final BOOT step a member ends BOOT in NATIVE with the token, or in STANDBY. -/
  | pairBootFinalStep (interlockFree : Bool)
  /-- SLEEP_REQ_RECEIVE (R393): The head takes a REQ and sends CALL in the next window unless a vote is running. -/
  | sleepReqReceive (msg : SleepMsg)
  /-- SLEEP_CALL_RECEIVE (R393): A node answers CALL with its VOTE in its first window. -/
  | sleepCallReceive (msg : SleepMsg)
  /-- SLEEP_VOTE_RECEIVE (R393): The head records a position's vote. -/
  | sleepVoteReceive (msg : SleepMsg)
  /-- SLEEP_COMMIT_RECEIVE (R395): On the first COMMIT a node sets COMMITTED and SLEEP_AT and arms its wake detectors. -/
  | sleepCommitReceive (msg : SleepMsg)
  /-- SLEEP_CANCEL_RECEIVE (R398): A CANCEL ends the vote or commit and the node stays awake. -/
  | sleepCancelReceive (msg : SleepMsg)
  /-- SLEEP_STAY_RECEIVE (R401): A STAY confirms the wake and stops the false-wake timer. -/
  | sleepStayReceive (msg : SleepMsg)
  /-- SLEEP_INSTANT (R396): At the sleep instant the node stops its functions, records, saves the resume area and removes core power. -/
  | sleepInstant
  /-- SLEEP_ENTRY_DONE (R396): Sleep entry completes, and a wake latched during entry then takes effect. -/
  | sleepEntryDone
  /-- WAKE_LINE_ACTIVITY (R397): Line activity on an armed port is latched as a wake source. -/
  | wakeLineActivity (port : Nat)
  /-- WAKE_CAN_PATTERN (R397): The CAN wake-up pattern on an enabled RXD is latched as a wake source. -/
  | wakeCanPattern (channel : Nat)
  /-- WAKE_PIN (R397): An enabled WAKE input held active for DEB ticks is latched as a wake source. -/
  | wakePin (pin : Nat) (active : Bool)
  /-- WAKE_TIMER (R397): The always-on tick count reaching SLP_TIMER is latched as a wake source. -/
  | wakeTimer
  /-- FALSE_WAKE_TIMEOUT (R401): FW_TMO without confirmation makes the head send a FALSE_WAKE COMMIT. -/
  | falseWakeTimeout
  /-- FALSE_WAKE_FALLBACK (R401): A non-head node without COMMIT or confirmation at 2 × FW_TMO enters SLEEP alone. -/
  | falseWakeFallback
  /-- WAKE_LINK_HOLD_END (R400): The wake bound passes, and the suppressed not-linked trigger of an end is released. -/
  | wakeLinkHoldEnd
  /-- FAULT_LATCH (R405): A source's status bit rising latches it, writes a FAULT record and starts its reaction. -/
  | faultLatch (lines : Nat)
  /-- FAULT_LINE_DEASSERT (R407): An ACK A source's RAW bit clears when its error line drops. -/
  | faultLineDeassert (source : Nat)
  /-- REACTION_TIMER_EXPIRY (R410): A major source's reaction timer expires and the node escalates. -/
  | reactionTimerExpiry (source : Nat)
  /-- FLT_FORCE_WRITE (R408): A write to FLT_FORCE applies the forces and writes a FAULT_FORCE record. -/
  | fltForceWrite (req : Requester) (value : Nat)
  /-- FLT_RAW_CLEAR (R406): A 1 written to FLT_RAW clears the bit only if the error line is deasserted. -/
  | fltRawClear (req : Requester) (mask : Nat)
  /-- ALIVE_HALF_PERIOD (R416): Every HALF µs ALIVE toggles if a heartbeat came, and line 16 asserts otherwise. -/
  | aliveHalfPeriod
  /-- LATENT_TEST (R420): Every 100 ms each checker is tested by injection and the result is recorded. -/
  | latentTest (checker : Nat) (pass : Bool)
  /-- RECORDER_EVENT_ENQUEUE (R429): An event enters the recorder ingress queue within its class limit, or is refused and counted. -/
  | recorderEventEnqueue (base code : Nat) (payload : Bytes)
  /-- RECORD_WRITE_DONE (R431): A record write completes with its mark, and the write engine takes the next entry. -/
  | recordWriteDone (readBackOk : Bool)
  /-- REC_RD_IDX_WRITE (R436): A write to REC_RD_IDX copies that record into REC_RD_DATA. -/
  | recRdIdxWrite (req : Requester) (index : Nat)
  /-- REC_RD_DATA7_HIGH_READ (R436): A read of bits 63:32 of REC_RD_DATA7 advances to the next record in read order. -/
  | recRdData7HighRead (req : Requester)
  /-- REC_CLEAR (R437): Authenticated REC command CLEAR starts erasing the ring or both areas. -/
  | recClear (path : Path) (arg : Nat)
  /-- REC_CLEAR_DONE (R438): The clear completes, removes the pending word and writes the CLEARED record. -/
  | recClearDone
  /-- KEY_WRITE (R445): KEY command WRITE starts storing KEY_DATA in the bank not in use of a slot. -/
  | keyWrite (path : Path) (arg : Nat)
  /-- KEY_WRITE_DONE (R445): The commit record is set COMMITTED and the new key takes effect. -/
  | keyWriteDone
  /-- KEY_ERASE (R446): KEY command ERASE starts zeroing both banks of a slot. -/
  | keyErase (path : Path) (arg : Nat)
  /-- KEY_ERASE_DONE (R446): The erase completes and the slot becomes EMPTY. -/
  | keyEraseDone
  /-- KEY_SWITCH (R449): KEY command SWITCH schedules a FRAME or FLOW epoch switch at KEY_SW_CYCLE. -/
  | keySwitch (path : Path) (arg : Nat)
  /-- KEY_SWITCH_POINT (R451): At the switch point the node moves to the new epoch and resets IVCNT and REPLAY for FLOW. -/
  | keySwitchPoint
  /-- TAMPER_ALARM (R453): A tamper alarm zeroizes all keys within 5 µs, latches TAMPERED and drives the node to SAFE. -/
  | tamperAlarm (sources : Nat)
  /-- TAMPER_CLEAR (R455): KEY command TAMPER_CLEAR clears TAMPERED when no source is live and records it. -/
  | tamperClear (path : Path) (arg : Nat)
  /-- BEACON_SEND (R462): Every 8 µs the stack master sends a beacon and declares the previous one missing if it has not returned. -/
  | beaconSend
  /-- BEACON_FORWARD (R463): A member updates CORR, PRESENT, READY and CRC in a beacon and forwards it. -/
  | beaconForward (beacon : Beacon) (rx tx : Int)
  /-- BEACON_RETURN (R466): A returned beacon sets the membership and the ring state at the master. -/
  | beaconReturn (beacon : Beacon)
  /-- STACK_ORPHAN_TIMEOUT (R467): No valid beacon for 24 µs puts a member in ORPHAN. -/
  | stackOrphanTimeout
  /-- STACK_FRAME_RECEIVE (R464): A stack frame is stripped, taken, copied or forwarded by address. -/
  | stackFrameReceive (frame : MsgFrame)
  /-- STACK_LANE_DOWN (R460): A stack lane goes DOWN on signal loss or code errors. -/
  | stackLaneDown
  /-- STACK_LANE_UP (R460): 64 valid /I/ bring a stack lane UP. -/
  | stackLaneUp
  /-- BYPASS (R471): STK command BYPASS closes the node's bypass until REJOIN. -/
  | bypass (path : Path) (arg : Nat)
  /-- STK_REJOIN (R471): STK command REJOIN ends BYPASS, clears DUP and opens the bypass. -/
  | stkRejoin (path : Path) (arg : Nat)
  /-- VIN_OVERVOLTAGE (R474): VIN above 6.0 V for 2 µs raises VIN overvoltage. -/
  | vinOvervoltage (millivolts : Nat)
  /-- VIN_SWITCH_OPEN (R473): VIN above 6.5 V opens the input switch. -/
  | vinSwitchOpen (millivolts : Nat)
  /-- REGULATOR_LIMIT (R476): A regulator at its limit for 10 µs, or shorted or overheated, raises regulator fault. -/
  | regulatorLimit (regulator : Nat)
  /-- VBAT_LOW (R477): VBAT below 2.0 V for 1 ms raises VBAT low. -/
  | vbatLow (millivolts : Nat)
  /-- VBAT_SWITCHOVER (R477): VHOLD falling below VBAT feeds the always-on regulator from VBAT. -/
  | vbatSwitchover
  /-- BROWN_OUT (R478): VHOLD below 2.55 V for 2 µs enters BOOT, stops the drivers and drains the recorder. -/
  | brownOut
  /-- BROWN_OUT_RECOVERY (R478): VHOLD above 2.70 V for 10 ms before UVLO releases reset for a new BOOT. -/
  | brownOutRecovery
  /-- UVLO (R478): VHOLD below 2.20 V stops the regulators, and a full power-up follows. -/
  | uvlo
  /-- LC_PROGRAM_DONE (R51): Programming and verification of a life-cycle OTP field ends, up to 2 ms after the command, and the command completes with OK or PROGRAM_FAIL before BOOT is entered. -/
  | lcProgramDone (cells straps : Nat)
  /-- PE_PERST_DEASSERT (R484): PE_PERST_N rising ends fundamental reset and starts PCIe link training. -/
  | pePerstDeassert
  /-- D0_RETURN (R303): A function returned from D3hot to D0 resumes its groups' polls, fetches and write-backs. -/
  | d0Return (function : Nat)
  /-- BUS_MASTER_ENABLE (R303): Setting Bus Master Enable in a function lets its waiting polls, fetches and write-backs proceed. -/
  | busMasterEnable (function : Nat) (msix : Bool)
  /-- VIN_SWITCH_CLOSE (R473): VIN falling below 6.3 V after an overvoltage closes the input switch again, and VHOLD recharges. -/
  | vinSwitchClose (millivolts : Nat)
  /-- ALWAYS_ON_POWER_LOSS (R453): Loss of both VIN and VBAT unpowers the always-on domain, so its TAMPERED latch, SLP_WAKE_SRC, SLP_AON_TIME, CLK_STAT.BROWN_OUTS and the KEY_TAMPER registers are lost. -/
  | alwaysOnPowerLoss
  /-- G_TELEGRAM_DISCARD (R346): A G-line telegram with a failing FCS, an unlisted TYPE or an excess LEN is discarded and counted, and during a claim it counts as a collision. -/
  | gTelegramDiscard (port : Nat) (telegram : Telegram)
  /-- STACK_WAKE_ACTIVITY (R470): Activity on the armed STK_IN wake receiver of a sleeping stack node wakes it, and STK_EVENT.WAKE is set. -/
  | stackWakeActivity
  /-- CAN_TT_FIRST_REFERENCE (R239): A potential time master that has seen no reference for 3 × CYCLE_LEN NTU after integrating sends the first reference. -/
  | canTtFirstReference (channel : Nat)
  /-- JTAG_TEST_INSTRUCTION (R57): A private test instruction or scan shift on JTAG in TEST sets port states and, during a scan shift, freezes the fault collector. -/
  | jtagTestInstruction (ports : List (Nat × Nat)) (scan : Bool)
  deriving DecidableEq, Repr

end Sys2Proof
end

