-- ==== Sys2Proof/Config.lean ====
section
/-! DEFINITION. What an implementation fixes and what the spec leaves open: constants without a body.
Nothing in Lean can evaluate them, so a statement holds whatever they are. -/

namespace Sys2Proof.Config

/-- The n-th free value: a value the spec leaves open and the machine goes on with
(notes/assumptions/4.md). The step cuts it to the width it needs. -/
opaque freeValue : Nat → Nat

/-- The n-th random draw of the node: nonces (R50), the device root (R52). -/
opaque randomDraw : Nat → Nat

/-- HMAC-SHA-256 of a message under a 256-bit key, as a 32-byte string (R50, R47). -/
opaque hmacSha256 (key : Nat) (msg : Bytes) : Bytes

/-- AES-256-GMAC of a message under a key and a 12-byte IV, as a 16-byte tag (R141, R260). -/
opaque gmac (key : Nat) (iv msg : Bytes) : Bytes

/-- AES-256-GCM encryption of a plaintext: ciphertext of the same length (R260). -/
opaque gcmEncrypt (key : Nat) (iv aad plain : Bytes) : Bytes

/-- AES-256-GCM decryption of a ciphertext: plaintext of the same length (R260). -/
opaque gcmDecrypt (key : Nat) (iv aad cipher : Bytes) : Bytes

/-- AES-256-GCM tag over associated data and ciphertext, 16 bytes (R260). -/
opaque gcmTag (key : Nat) (iv aad cipher : Bytes) : Bytes

/-- Key derivation from a root (R443). -/
opaque deriveKey (root : Nat) (info : Bytes) : Nat

/-- The substitute test root that stands in for the device root while debug is open (R58). -/
opaque testRoot : Nat

end Sys2Proof.Config
end

