-- ==== Sys2Proof/Machine/Bits.lean ====
section
/-! DEFINITION. Bit-field, sign and byte-order helpers, and the check codes the spec gives by
polynomial (R126).  Every function is total and evaluates on numerals. -/

namespace Sys2Proof.Machine

/-- Bits [lo + w - 1 : lo] of a number (R11). -/
def bits (v lo w : Nat) : Nat := (v / 2 ^ lo) % 2 ^ w

/-- Bit i of a number, as 0 or 1. -/
def bit (v i : Nat) : Nat := (v / 2 ^ i) % 2

/-- Bit i of a number is 1. -/
def hasBit (v i : Nat) : Bool := (v / 2 ^ i) % 2 == 1

/-- The number with bit i set. -/
def setBitOf (v i : Nat) : Nat := if hasBit v i then v else v + 2 ^ i

/-- The number with bit i cleared. -/
def clearBitOf (v i : Nat) : Nat := if hasBit v i then v - 2 ^ i else v

/-- The bits of v that are 0 in m. -/
def andNot (v m : Nat) : Nat := v - Nat.land v m

/-- A truth value as a bit. -/
def b2n (b : Bool) : Nat := if b then 1 else 0

/-- The two's complement reading of the low w bits of v. -/
def signed (w v : Nat) : Int :=
  let u := v % 2 ^ w
  if u < 2 ^ (w - 1) then (u : Int) else (u : Int) - 2 ^ w

/-- The w-bit two's complement pattern of an integer, wrapped. -/
def wrapInt (w : Nat) (x : Int) : Nat := (x % (2 ^ w : Int)).toNat

/-- The w-bit two's complement pattern of an integer, saturating at both ends. -/
def satInt (w : Nat) (x : Int) : Nat :=
  let hi : Int := 2 ^ (w - 1) - 1
  let lo : Int := - 2 ^ (w - 1)
  wrapInt w (if x > hi then hi else if x < lo then lo else x)

/-- v, or the greatest value of w bits where v is above it. -/
def satNat (w v : Nat) : Nat := if v < 2 ^ w then v else 2 ^ w - 1

/-- The value clamped to [lo, hi]. -/
def clamp (lo hi v : Nat) : Nat := if v < lo then lo else if v > hi then hi else v

/-- Division rounding up. -/
def ceilDiv (a b : Nat) : Nat := (a + b - 1) / b

/-- Serial-number difference a - b modulo 2^w. -/
def subMod (w a b : Nat) : Nat := (a % 2 ^ w + 2 ^ w - b % 2 ^ w) % 2 ^ w

/-- The n low bytes of v, little-endian (R12). -/
def le : Nat → Nat → Bytes
  | 0, _ => []
  | n + 1, v => BitVec.ofNat 8 v :: le n (v / 256)

/-- The n low bytes of v, big-endian. -/
def be (n v : Nat) : Bytes := (le n v).reverse

/-- The number that a little-endian byte string holds. -/
def ofLe : Bytes → Nat
  | [] => 0
  | b :: t => b.toNat + 256 * ofLe t

/-- The number that a big-endian byte string holds. -/
def ofBe (l : Bytes) : Nat := ofLe l.reverse

/-- n zero bytes. -/
def zeros (n : Nat) : Bytes := List.replicate n 0#8

/-- The byte string cut or padded with zeros to n bytes. -/
def fit (n : Nat) (l : Bytes) : Bytes := l.take n ++ zeros (n - l.length)

/-- Bytes [off, off + n) of a byte string; bytes past its end read as 0. -/
def slice (off n : Nat) (l : Bytes) : Bytes := fit n (l.drop off)

/-- The byte string with the bytes at off replaced by d. -/
def splice (off : Nat) (d l : Bytes) : Bytes := l.take off ++ d ++ l.drop (off + d.length)

/-- Floor division of an integer by a positive natural number. -/
def fdiv (a : Int) (b : Nat) : Int := Int.fdiv a (b : Int)

/-- |a|. -/
def absInt (a : Int) : Nat := a.natAbs

/-- One bit step of a most-significant-bit-first check code of width w. -/
def crcStep (w poly crc bitIn : Nat) : Nat :=
  let top := bit crc (w - 1)
  let sh := (crc * 2) % 2 ^ w
  if top = bitIn then sh else Nat.xor sh poly

/-- One byte, most significant bit first, into a check code. -/
def crcByteMsb (w poly crc : Nat) (b : Byte) : Nat :=
  [7, 6, 5, 4, 3, 2, 1, 0].foldl (fun c i => crcStep w poly c (bit b.toNat i)) crc

/-- A most-significant-bit-first check code over a byte string. -/
def crcMsb (w poly init : Nat) (l : Bytes) : Nat := l.foldl (crcByteMsb w poly) init

/-- One bit step of a reflected check code. -/
def crcStepLsb (poly crc : Nat) : Nat :=
  if crc % 2 = 1 then Nat.xor (crc / 2) poly else crc / 2

/-- One byte into a reflected check code. -/
def crcByteLsb (poly crc : Nat) (b : Byte) : Nat :=
  [0, 1, 2, 3, 4, 5, 6, 7].foldl (fun c _ => crcStepLsb poly c) (Nat.xor crc b.toNat)

/-- CRC-32 with the IEEE 802.3 polynomial: reflected, initial value and final inversion all ones. -/
def crc32 (l : Bytes) : Nat :=
  Nat.xor (l.foldl (crcByteLsb 0xEDB88320) 0xFFFFFFFF) 0xFFFFFFFF

end Sys2Proof.Machine
end

