-- ==== Sys2Proof/Machine/Regs.lean ====
section
/-! DEFINITION. Every field of every native register, from the spec's own register tables: bit address
(8 × byte address of the register in PF0 BAR0, plus the field's lowest bit), width and reset value.
`i` and `j` are instance numbers: port, channel, ring, window, register of an array.  A reset value
that the table leaves open or takes from OTP or MRAM is 0 here, and the state that holds OTP and MRAM
loads the field at BOOT (notes/assumptions/2.md). -/

namespace Sys2Proof.Machine

/-- Severity of a fault source after reset (Table 16.1): 0 minor, 1 major, 2 critical. -/
def faultSeverityReset (n : Nat) : Nat := if n ≤ 8 then 2 else if n ≤ 25 then 1 else 0

/-- Whether a source's severity is fixed, F in Table 16.1. -/
def faultFixed (n : Nat) : Nat :=
  if n ≤ 8 ∨ n = 14 ∨ n = 15 ∨ n = 16 ∨ n = 28 ∨ n = 58 ∨ n = 59 then 1 else 0

/-- Acknowledge mode of a source after reset (Table 16.1): 0 H, 1 A. -/
def faultAckReset (n : Nat) : Nat :=
  if n = 18 ∨ (29 ≤ n ∧ n ≤ 42) ∨ (44 ≤ n ∧ n ≤ 61) then 1 else 0

/-- The channel code that owns slice s after reset (Table 9.2, codes of Table 9.1). -/
def sliceReset (s : Nat) : Nat :=
  if s % 8 = 0 ∧ s < 64 then 0x14
  else if s % 16 = 1 then 0x10 else if s % 16 = 2 then 0x11
  else if s % 16 = 3 then 0x12 else if s % 16 = 4 then 0x13
  else if s % 16 = 5 then 0x50
  else match s with
    | 6 => 0x40 | 38 => 0x40 | 7 => 0x41 | 39 => 0x41
    | 9 => 0x42 | 41 => 0x42 | 10 => 0x43 | 42 => 0x43
    | 11 => 0x60 | 43 => 0x60 | 12 => 0x80 | 44 => 0x80
    | 13 => 0x30 | 14 => 0x31 | 15 => 0x32 | 22 => 0x33 | 23 => 0x34 | 25 => 0x35
    | 26 => 0x36 | 27 => 0x37 | 28 => 0x38 | 29 => 0x39 | 30 => 0x3A | 31 => 0x3B
    | 45 => 0x20 | 46 => 0x21 | 47 => 0x22 | 54 => 0x23 | 55 => 0x24 | 57 => 0x25
    | 58 => 0x26 | 59 => 0x27 | 60 => 0x70
    | _ => 0x90

/-- Word w of the slice table after reset: entries 4w to 4w + 3, entry 4w in bits 7:0 (R249). -/
def sliceWordReset (w : Nat) : Nat :=
  sliceReset (4 * w) + 0x100 * sliceReset (4 * w + 1) + 0x10000 * sliceReset (4 * w + 2)
    + 0x1000000 * sliceReset (4 * w + 3)

namespace Reg

/-! ### 02_modes_and_life_cycle.md -/

/-- GLB_ID[31:16], RO, reset 0x0D4A (R38). -/
def GLB_ID_VENDOR_CODE : Field := ⟨8 * 0x0 + 16, 16, 3402⟩
/-- GLB_ID[15:0], RO, reset 0x7480 (R38). -/
def GLB_ID_DEVICE : Field := ⟨8 * 0x0 + 0, 16, 29824⟩
/-- GLB_REV[15:8], RO, reset in the table: —; 0 in the store (notes/assumptions/2.md) (R38). -/
def GLB_REV_ROM_VER : Field := ⟨8 * 0x4 + 8, 8, 0⟩
/-- GLB_REV[7:0], RO, reset in the table: —; 0 in the store (notes/assumptions/2.md) (R38). -/
def GLB_REV_STEP : Field := ⟨8 * 0x4 + 0, 8, 0⟩
/-- GLB_UID[63:0], RO, reset in the table: From OTP; 0 in the store (notes/assumptions/2.md) (R38). -/
def GLB_UID_UID : Field := ⟨8 * 0x8 + 0, 64, 0⟩
/-- GLB_MODE[15:12], RO, reset 0x0 (R38). -/
def GLB_MODE_LAST_CAUSE : Field := ⟨8 * 0x10 + 12, 4, 0⟩
/-- GLB_MODE[10:8], RO, reset 0x0 (R38). -/
def GLB_MODE_PREV_MODE : Field := ⟨8 * 0x10 + 8, 3, 0⟩
/-- GLB_MODE[7], RO, reset 0x0 (R38). -/
def GLB_MODE_BUSY : Field := ⟨8 * 0x10 + 7, 1, 0⟩
/-- GLB_MODE[6], RO, reset 0x0 (R38). -/
def GLB_MODE_ROLE : Field := ⟨8 * 0x10 + 6, 1, 0⟩
/-- GLB_MODE[5:4], RO, reset 0x0 (R38). -/
def GLB_MODE_SUBSTATE : Field := ⟨8 * 0x10 + 4, 2, 0⟩
/-- GLB_MODE[2:0], RO, reset 0x0 (R38). -/
def GLB_MODE_MODE : Field := ⟨8 * 0x10 + 0, 3, 0⟩
/-- GLB_CMD[31:16], WO PRV, reset 0x0 (R38). -/
def GLB_CMD_ARG : Field := ⟨8 * 0x14 + 16, 16, 0⟩
/-- GLB_CMD[7:0], WO PRV, reset 0x0 (R38). -/
def GLB_CMD_CODE : Field := ⟨8 * 0x14 + 0, 8, 0⟩
/-- GLB_CMD_STATUS[23:16], RO, reset 0x0 (R38). -/
def GLB_CMD_STATUS_SEQ : Field := ⟨8 * 0x18 + 16, 8, 0⟩
/-- GLB_CMD_STATUS[15:8], RO, reset 0x0 (R38). -/
def GLB_CMD_STATUS_CODE : Field := ⟨8 * 0x18 + 8, 8, 0⟩
/-- GLB_CMD_STATUS[7:0], RO, reset 0x0 (R38). -/
def GLB_CMD_STATUS_STATUS : Field := ⟨8 * 0x18 + 0, 8, 0⟩
/-- GLB_CMD_REJECT_CNT[31:0], RO, reset 0x0 (R38). -/
def GLB_CMD_REJECT_CNT_COUNT : Field := ⟨8 * 0x1C + 0, 32, 0⟩
/-- GLB_BOOT_STATUS[16], RO, reset in the table: —; 0 in the store (notes/assumptions/2.md) (R38). -/
def GLB_BOOT_STATUS_TAMPERED : Field := ⟨8 * 0x20 + 16, 1, 0⟩
/-- GLB_BOOT_STATUS[15:8], RO, reset 0x0 (R38). -/
def GLB_BOOT_STATUS_RESULT : Field := ⟨8 * 0x20 + 8, 8, 0⟩
/-- GLB_BOOT_STATUS[5:4], RO, reset 0x0 (R38). -/
def GLB_BOOT_STATUS_CFG_SRC : Field := ⟨8 * 0x20 + 4, 2, 0⟩
/-- GLB_BOOT_STATUS[3], RO, reset 0x0 (R38). -/
def GLB_BOOT_STATUS_WAKE_BOOT : Field := ⟨8 * 0x20 + 3, 1, 0⟩
/-- GLB_BOOT_STATUS[2:0], RO, reset in the table: —; 0 in the store (notes/assumptions/2.md) (R38). -/
def GLB_BOOT_STATUS_BOOTSEL : Field := ⟨8 * 0x20 + 0, 3, 0⟩
/-- GLB_BOOT_TIME[31:0], RO, reset 0x0 (R38). -/
def GLB_BOOT_TIME_US : Field := ⟨8 * 0x24 + 0, 32, 0⟩
/-- GLB_LC[15:8], RO, reset 0x0 (R38). -/
def GLB_LC_DBG_FAIL_CNT : Field := ⟨8 * 0x28 + 8, 8, 0⟩
/-- GLB_LC[7:4], RO, reset in the table: From OTP; 0 in the store (notes/assumptions/2.md) (R38). -/
def GLB_LC_PARTIAL : Field := ⟨8 * 0x28 + 4, 4, 0⟩
/-- GLB_LC[3], RO, reset 0x0 (R38). -/
def GLB_LC_DEBUG_OPEN : Field := ⟨8 * 0x28 + 3, 1, 0⟩
/-- GLB_LC[2:0], RO, reset in the table: From OTP; 0 in the store (notes/assumptions/2.md) (R38). -/
def GLB_LC_STATE : Field := ⟨8 * 0x28 + 0, 3, 0⟩
/-- GLB_AUTH_NONCE[127:0], RO, reset in the table: —; 0 in the store (notes/assumptions/2.md) (R38). -/
def GLB_AUTH_NONCE_NONCE : Field := ⟨8 * 0x30 + 0, 128, 0⟩
/-- GLB_AUTH_RESP[255:0], WO PRV, reset 0x0 (R38). -/
def GLB_AUTH_RESP_TAG : Field := ⟨8 * 0x40 + 0, 256, 0⟩
/-- GLB_LOCK[0], RWL PRV, reset 0x0 (R38). -/
def GLB_LOCK_LOCK : Field := ⟨8 * 0x60 + 0, 1, 0⟩
/-- GLB_ESC_CNT[8], RO, reset 0x0 (R38). -/
def GLB_ESC_CNT_SAFE_LATCH : Field := ⟨8 * 0x64 + 8, 1, 0⟩
/-- GLB_ESC_CNT[7:0], RO, reset 0x0 (R38). -/
def GLB_ESC_CNT_COUNT : Field := ⟨8 * 0x64 + 0, 8, 0⟩
/-- GLB_LC_DATA[63:0], RW PRV, reset 0x0 (R38). -/
def GLB_LC_DATA_UID : Field := ⟨8 * 0x68 + 0, 64, 0⟩
/-- GLB_CFG_ADDR[63:0], RW PRV, reset 0x0 (R38). -/
def GLB_CFG_ADDR_ADDR : Field := ⟨8 * 0x70 + 0, 64, 0⟩
/-- GLB_CFG_LEN[31:0], RW PRV, reset 0x0 (R38). -/
def GLB_CFG_LEN_LEN : Field := ⟨8 * 0x78 + 0, 32, 0⟩

/-! ### 03_line_ports_and_live_calibration.md -/

/-- LN_CFG[16], RWL PRV, 1 for L1A and L2A, 0 otherwise (R90). -/
def LN_CFG_WAKE_ARM (i : Nat) : Field := ⟨8 * (0x8000 + 0x800 * i) + 16, 1, (if i = 0 ∨ i = 2 then 1 else 0)⟩
/-- LN_CFG[11:8], RWL PRV, reset 0x2 (R90). -/
def LN_CFG_COUPLER_DIST (i : Nat) : Field := ⟨8 * (0x8000 + 0x800 * i) + 8, 4, 2⟩
/-- LN_CFG[4], RWL PRV, reset 0x0 (R90). -/
def LN_CFG_SAFE_STATE (i : Nat) : Field := ⟨8 * (0x8000 + 0x800 * i) + 4, 1, 0⟩
/-- LN_CFG[1], RO, reset 0x0 (R90). -/
def LN_CFG_PROTOCOL (i : Nat) : Field := ⟨8 * (0x8000 + 0x800 * i) + 1, 1, 0⟩
/-- LN_CFG[0], RWL PRV, reset 0x1 (R90). -/
def LN_CFG_ENABLE (i : Nat) : Field := ⟨8 * (0x8000 + 0x800 * i) + 0, 1, 1⟩
/-- LN_CMD[7:0], WO PRV, reset 0x0 (R90). -/
def LN_CMD_CODE (i : Nat) : Field := ⟨8 * (0x8004 + 0x800 * i) + 0, 8, 0⟩
/-- LN_TRX[8], RO, reset 0x0 (R90). -/
def LN_TRX_KA_TEST (i : Nat) : Field := ⟨8 * (0x8008 + 0x800 * i) + 8, 1, 0⟩
/-- LN_TRX[7], W1C PRV, reset in the table: —; 0 in the store (notes/assumptions/2.md) (R90). -/
def LN_TRX_FS_SLEEP (i : Nat) : Field := ⟨8 * (0x8008 + 0x800 * i) + 7, 1, 0⟩
/-- LN_TRX[1:0], RO, reset 0x2 (R90). -/
def LN_TRX_STATE (i : Nat) : Field := ⟨8 * (0x8008 + 0x800 * i) + 0, 2, 2⟩
/-- LN_STATUS[7], RO, reset 0x0 (R90). -/
def LN_STATUS_TX_INHIBIT (i : Nat) : Field := ⟨8 * (0x800C + 0x800 * i) + 7, 1, 0⟩
/-- LN_STATUS[6], RO, reset 0x0 (R90). -/
def LN_STATUS_DELAY_VALID (i : Nat) : Field := ⟨8 * (0x800C + 0x800 * i) + 6, 1, 0⟩
/-- LN_STATUS[5], RO, reset 0x0 (R90). -/
def LN_STATUS_CAL_LOCK (i : Nat) : Field := ⟨8 * (0x800C + 0x800 * i) + 5, 1, 0⟩
/-- LN_STATUS[4], RO, reset 0x0 (R90). -/
def LN_STATUS_RX_INV (i : Nat) : Field := ⟨8 * (0x800C + 0x800 * i) + 4, 1, 0⟩
/-- LN_STATUS[3], RO, reset 0x0 (R90). -/
def LN_STATUS_SIG_DET (i : Nat) : Field := ⟨8 * (0x800C + 0x800 * i) + 3, 1, 0⟩
/-- LN_STATUS[1:0], RO, reset 0x0 (R90). -/
def LN_STATUS_LINK (i : Nat) : Field := ⟨8 * (0x800C + 0x800 * i) + 0, 2, 0⟩
/-- LN_FAULT[11], W1C, reset 0x0 (R90). -/
def LN_FAULT_CAL_TIMEOUT (i : Nat) : Field := ⟨8 * (0x8010 + 0x800 * i) + 11, 1, 0⟩
/-- LN_FAULT[10], W1C, reset 0x0 (R90). -/
def LN_FAULT_DEG_ECHO (i : Nat) : Field := ⟨8 * (0x8010 + 0x800 * i) + 10, 1, 0⟩
/-- LN_FAULT[9], W1C, reset 0x0 (R90). -/
def LN_FAULT_DEG_DRIFT (i : Nat) : Field := ⟨8 * (0x8010 + 0x800 * i) + 9, 1, 0⟩
/-- LN_FAULT[8], W1C, reset 0x0 (R90). -/
def LN_FAULT_DEG_EYE (i : Nat) : Field := ⟨8 * (0x8010 + 0x800 * i) + 8, 1, 0⟩
/-- LN_FAULT[7], W1C, reset 0x0 (R90). -/
def LN_FAULT_DEG_CTLE (i : Nat) : Field := ⟨8 * (0x8010 + 0x800 * i) + 7, 1, 0⟩
/-- LN_FAULT[6], W1C, reset 0x0 (R90). -/
def LN_FAULT_COMMON_MODE (i : Nat) : Field := ⟨8 * (0x8010 + 0x800 * i) + 6, 1, 0⟩
/-- LN_FAULT[5], W1C, reset 0x0 (R90). -/
def LN_FAULT_PAIR_SWAP (i : Nat) : Field := ⟨8 * (0x8010 + 0x800 * i) + 5, 1, 0⟩
/-- LN_FAULT[4], W1C, reset 0x0 (R90). -/
def LN_FAULT_POLARITY (i : Nat) : Field := ⟨8 * (0x8010 + 0x800 * i) + 4, 1, 0⟩
/-- LN_FAULT[3], W1C, reset 0x0 (R90). -/
def LN_FAULT_OPEN (i : Nat) : Field := ⟨8 * (0x8010 + 0x800 * i) + 3, 1, 0⟩
/-- LN_FAULT[2], W1C, reset 0x0 (R90). -/
def LN_FAULT_SHORT_SHIELD (i : Nat) : Field := ⟨8 * (0x8010 + 0x800 * i) + 2, 1, 0⟩
/-- LN_FAULT[1], W1C, reset 0x0 (R90). -/
def LN_FAULT_SHORT_PAIR (i : Nat) : Field := ⟨8 * (0x8010 + 0x800 * i) + 1, 1, 0⟩
/-- LN_ERR_CNT[31:16], RC, reset 0x0 (R90). -/
def LN_ERR_CNT_LINK_DOWNS (i : Nat) : Field := ⟨8 * (0x8014 + 0x800 * i) + 16, 16, 0⟩
/-- LN_ERR_CNT[15:0], RC, reset 0x0 (R90). -/
def LN_ERR_CNT_CODE_ERRORS (i : Nat) : Field := ⟨8 * (0x8014 + 0x800 * i) + 0, 16, 0⟩
/-- LN_EQ[29:24], RO, reset 0x0 (R90). -/
def LN_EQ_TAP5 (i : Nat) : Field := ⟨8 * (0x8018 + 0x800 * i) + 24, 6, 0⟩
/-- LN_EQ[23:18], RO, reset 0x0 (R90). -/
def LN_EQ_TAP4 (i : Nat) : Field := ⟨8 * (0x8018 + 0x800 * i) + 18, 6, 0⟩
/-- LN_EQ[17:12], RO, reset 0x0 (R90). -/
def LN_EQ_TAP3 (i : Nat) : Field := ⟨8 * (0x8018 + 0x800 * i) + 12, 6, 0⟩
/-- LN_EQ[11:6], RO, reset 0x0 (R90). -/
def LN_EQ_TAP2 (i : Nat) : Field := ⟨8 * (0x8018 + 0x800 * i) + 6, 6, 0⟩
/-- LN_EQ[5:0], RO, reset 0x0 (R90). -/
def LN_EQ_TAP1 (i : Nat) : Field := ⟨8 * (0x8018 + 0x800 * i) + 0, 6, 0⟩
/-- LN_EQ2[14:8], RO, reset 0x0 (R90). -/
def LN_EQ2_EYE (i : Nat) : Field := ⟨8 * (0x801C + 0x800 * i) + 8, 7, 0⟩
/-- LN_EQ2[3:0], RO, reset 0x8 (R90). -/
def LN_EQ2_CTLE (i : Nat) : Field := ⟨8 * (0x801C + 0x800 * i) + 0, 4, 8⟩
/-- LN_DELAY[31], RO, reset 0x0 (R90). -/
def LN_DELAY_VALID (i : Nat) : Field := ⟨8 * (0x8020 + 0x800 * i) + 31, 1, 0⟩
/-- LN_DELAY[30], RO, reset 0x0 (R90). -/
def LN_DELAY_SRC (i : Nat) : Field := ⟨8 * (0x8020 + 0x800 * i) + 30, 1, 0⟩
/-- LN_DELAY[28:24], RO, reset 0x0 (R90). -/
def LN_DELAY_SAMPLES (i : Nat) : Field := ⟨8 * (0x8020 + 0x800 * i) + 24, 5, 0⟩
/-- LN_DELAY[19:0], RO, reset 0x0 (R90). -/
def LN_DELAY_DELAY (i : Nat) : Field := ⟨8 * (0x8020 + 0x800 * i) + 0, 20, 0⟩
/-- LN_DELAY_BASE[19:0], RO, reset 0x0 (R90). -/
def LN_DELAY_BASE_BASE (i : Nat) : Field := ⟨8 * (0x8024 + 0x800 * i) + 0, 20, 0⟩
/-- LN_ASYM[15:0], RWL PRV, reset 0x0 (R90). -/
def LN_ASYM_ASYM (i : Nat) : Field := ⟨8 * (0x8028 + 0x800 * i) + 0, 16, 0⟩
/-- LN_DELAY_STAT[31:16], RC, reset 0x0 (R90). -/
def LN_DELAY_STAT_DISCARDS (i : Nat) : Field := ⟨8 * (0x802C + 0x800 * i) + 16, 16, 0⟩
/-- LN_DELAY_STAT[15:0], RC, reset 0x0 (R90). -/
def LN_DELAY_STAT_OUTLIERS (i : Nat) : Field := ⟨8 * (0x802C + 0x800 * i) + 0, 16, 0⟩
/-- LN_ECHO[63:32], RO, reset 0x0 (R90). -/
def LN_ECHO_SCANS (i : Nat) : Field := ⟨8 * (0x8030 + 0x800 * i) + 32, 32, 0⟩
/-- LN_ECHO[26:24], RO, reset 0x0 (R90). -/
def LN_ECHO_CLASS (i : Nat) : Field := ⟨8 * (0x8030 + 0x800 * i) + 24, 3, 0⟩
/-- LN_ECHO[23:16], RO, reset 0x0 (R90). -/
def LN_ECHO_RHO (i : Nat) : Field := ⟨8 * (0x8030 + 0x800 * i) + 16, 8, 0⟩
/-- LN_ECHO[11:0], RO, reset 0x0 (R90). -/
def LN_ECHO_DIST (i : Nat) : Field := ⟨8 * (0x8030 + 0x800 * i) + 0, 12, 0⟩
/-- LN_ECHO_CFG[10:0], RWL PRV, reset 0x500 (R90). -/
def LN_ECHO_CFG_VP (i : Nat) : Field := ⟨8 * (0x8038 + 0x800 * i) + 0, 11, 1280⟩
/-- LN_DEG_CFG[31:28], RWL PRV, reset 0xD (R90). -/
def LN_DEG_CFG_CTLE_MAX (i : Nat) : Field := ⟨8 * (0x803C + 0x800 * i) + 28, 4, 13⟩
/-- LN_DEG_CFG[27:21], RWL PRV, reset 0x19 (R90). -/
def LN_DEG_CFG_EYE_MIN (i : Nat) : Field := ⟨8 * (0x803C + 0x800 * i) + 21, 7, 25⟩
/-- LN_DEG_CFG[13:8], RWL PRV, reset 0x08 (R90). -/
def LN_DEG_CFG_DRIFT (i : Nat) : Field := ⟨8 * (0x803C + 0x800 * i) + 8, 6, 8⟩
/-- LN_DEG_CFG[6:0], RWL PRV, reset 0x13 (R90). -/
def LN_DEG_CFG_DEG_RHO (i : Nat) : Field := ⟨8 * (0x803C + 0x800 * i) + 0, 7, 19⟩
/-- LN_CM[31:16], RC, reset 0x0 (R90). -/
def LN_CM_PEAK (i : Nat) : Field := ⟨8 * (0x8040 + 0x800 * i) + 16, 16, 0⟩
/-- LN_CM[15:0], RO, reset 0x0 (R90). -/
def LN_CM_VCM (i : Nat) : Field := ⟨8 * (0x8040 + 0x800 * i) + 0, 16, 0⟩

/-! ### 04_inauguration_and_renumbering.md -/

/-- INA_CFG[23:18], RWL PRV, reset 0x0A (R121). -/
def INA_CFG_DOWN_HOLD : Field := ⟨8 * 0xA000 + 18, 6, 10⟩
/-- INA_CFG[17:14], RWL PRV, reset 0x2 (R121). -/
def INA_CFG_DEBOUNCE : Field := ⟨8 * 0xA000 + 14, 4, 2⟩
/-- INA_CFG[13], RWL PRV, reset 0x0 (R121). -/
def INA_CFG_CAB_END : Field := ⟨8 * 0xA000 + 13, 1, 0⟩
/-- INA_CFG[12], RWL PRV, reset 0x0 (R121). -/
def INA_CFG_PRIO_SRC : Field := ⟨8 * 0xA000 + 12, 1, 0⟩
/-- INA_CFG[8:6], RW PRV, reset 0x0 (R121). -/
def INA_CFG_CAB_PRIO : Field := ⟨8 * 0xA000 + 6, 3, 0⟩
/-- INA_CMD[7:0], WO PRV, reset 0x0 (R121). -/
def INA_CMD_CODE : Field := ⟨8 * 0xA004 + 0, 8, 0⟩
/-- INA_STATUS[20], RO, reset 0x0 (R121). -/
def INA_STATUS_FAILED : Field := ⟨8 * 0xA008 + 20, 1, 0⟩
/-- INA_STATUS[19], RO, reset 0x0 (R121). -/
def INA_STATUS_GRACE : Field := ⟨8 * 0xA008 + 19, 1, 0⟩
/-- INA_STATUS[18], RO, reset 0x0 (R121). -/
def INA_STATUS_CAB_NOT_AT_END : Field := ⟨8 * 0xA008 + 18, 1, 0⟩
/-- INA_STATUS[17], RO, reset 0x0 (R121). -/
def INA_STATUS_NO_CAB : Field := ⟨8 * 0xA008 + 17, 1, 0⟩
/-- INA_STATUS[16], RO, reset 0x0 (R121). -/
def INA_STATUS_TWO_CABS : Field := ⟨8 * 0xA008 + 16, 1, 0⟩
/-- INA_STATUS[15], RO, reset 0x0 (R121). -/
def INA_STATUS_NUMBERING_KEPT : Field := ⟨8 * 0xA008 + 15, 1, 0⟩
/-- INA_STATUS[14:12], RO, reset 0x0 (R121). -/
def INA_STATUS_ROLE : Field := ⟨8 * 0xA008 + 12, 3, 0⟩
/-- INA_STATUS[11], RO, reset 0x0 (R121). -/
def INA_STATUS_ORIENT : Field := ⟨8 * 0xA008 + 11, 1, 0⟩
/-- INA_STATUS[10:8], RO, reset 0x0 (R121). -/
def INA_STATUS_STATE : Field := ⟨8 * 0xA008 + 8, 3, 0⟩
/-- INA_STATUS[7:0], RO, reset 0x0 (R121). -/
def INA_STATUS_ATTEMPT : Field := ⟨8 * 0xA008 + 0, 8, 0⟩
/-- INA_TOPO[31:16], RO, reset 0x0 (R121). -/
def INA_TOPO_PREV_COUNTER : Field := ⟨8 * 0xA00C + 16, 16, 0⟩
/-- INA_TOPO[15:0], RO, reset in the table: From MRAM; 0 in the store (notes/assumptions/2.md) (R121). -/
def INA_TOPO_COUNTER : Field := ⟨8 * 0xA00C + 0, 16, 0⟩
/-- INA_POS[24:16], RO, reset 0x0 (R121). -/
def INA_POS_VEH_COUNT : Field := ⟨8 * 0xA010 + 16, 9, 0⟩
/-- INA_POS[8:0], RO, reset 0x0 (R121). -/
def INA_POS_POSITION : Field := ⟨8 * 0xA010 + 0, 9, 0⟩
/-- INA_HASH[31:0], RO, reset 0x0 (R121). -/
def INA_HASH_HASH : Field := ⟨8 * 0xA014 + 0, 32, 0⟩
/-- INA_KEPT[8:0], RO, reset 0x0 (R121). -/
def INA_KEPT_KEPT_LEN : Field := ⟨8 * 0xA018 + 0, 9, 0⟩
/-- INA_TIME[31:0], RO, reset 0x0 (R121). -/
def INA_TIME_US : Field := ⟨8 * 0xA01C + 0, 32, 0⟩
/-- INA_HEAD_UID[63:0], RO, reset 0x0 (R121). -/
def INA_HEAD_UID_UID : Field := ⟨8 * 0xA020 + 0, 64, 0⟩
/-- INA_NBR1_UID[63:0], RO, reset 0x0 (R121). -/
def INA_NBR1_UID_UID : Field := ⟨8 * 0xA028 + 0, 64, 0⟩
/-- INA_NBR2_UID[63:0], RO, reset 0x0 (R121). -/
def INA_NBR2_UID_UID : Field := ⟨8 * 0xA030 + 0, 64, 0⟩
/-- INA_UPTIME[31:0], RO, reset 0x0 (R121). -/
def INA_UPTIME_MS : Field := ⟨8 * 0xA038 + 0, 32, 0⟩
/-- INA_SENSE[10:8], RO, reset 0x0 (R121). -/
def INA_SENSE_PRIO : Field := ⟨8 * 0xA03C + 8, 3, 0⟩
/-- INA_SENSE[5], RO, reset in the table: —; 0 in the store (notes/assumptions/2.md) (R121). -/
def INA_SENSE_CS2_DEB : Field := ⟨8 * 0xA03C + 5, 1, 0⟩
/-- INA_SENSE[4], RO, reset in the table: —; 0 in the store (notes/assumptions/2.md) (R121). -/
def INA_SENSE_CS2_RAW : Field := ⟨8 * 0xA03C + 4, 1, 0⟩
/-- INA_SENSE[3], RO, reset in the table: —; 0 in the store (notes/assumptions/2.md) (R121). -/
def INA_SENSE_CS1_DEB : Field := ⟨8 * 0xA03C + 3, 1, 0⟩
/-- INA_SENSE[2], RO, reset in the table: —; 0 in the store (notes/assumptions/2.md) (R121). -/
def INA_SENSE_CS1_RAW : Field := ⟨8 * 0xA03C + 2, 1, 0⟩
/-- INA_SENSE[1], RO, reset in the table: —; 0 in the store (notes/assumptions/2.md) (R121). -/
def INA_SENSE_CAB_DEB : Field := ⟨8 * 0xA03C + 1, 1, 0⟩
/-- INA_SENSE[0], RO, reset in the table: —; 0 in the store (notes/assumptions/2.md) (R121). -/
def INA_SENSE_CAB_RAW : Field := ⟨8 * 0xA03C + 0, 1, 0⟩
/-- INA_STAT[31:16], RC, reset 0x0 (R121). -/
def INA_STAT_INAUGURATIONS : Field := ⟨8 * 0xA040 + 16, 16, 0⟩
/-- INA_STAT[15:8], RC, reset 0x0 (R121). -/
def INA_STAT_RESTARTS : Field := ⟨8 * 0xA040 + 8, 8, 0⟩
/-- INA_STAT[7:0], RC, reset 0x0 (R121). -/
def INA_STAT_LINK_BLIPS : Field := ⟨8 * 0xA040 + 0, 8, 0⟩
/-- INA_STAT2[31:16], RC, reset 0x0 (R121). -/
def INA_STAT2_OLD_DISCARD : Field := ⟨8 * 0xA044 + 16, 16, 0⟩
/-- INA_STAT2[15:0], RC, reset 0x0 (R121). -/
def INA_STAT2_GRACE_ACCEPT : Field := ⟨8 * 0xA044 + 0, 16, 0⟩
/-- INA_EVENT[6], W1C, reset 0x0 (R121). -/
def INA_EVENT_RESTART : Field := ⟨8 * 0xA048 + 6, 1, 0⟩
/-- INA_EVENT[5], W1C, reset 0x0 (R121). -/
def INA_EVENT_FAILED : Field := ⟨8 * 0xA048 + 5, 1, 0⟩
/-- INA_EVENT[4], W1C, reset 0x0 (R121). -/
def INA_EVENT_CAB_NOT_AT_END : Field := ⟨8 * 0xA048 + 4, 1, 0⟩
/-- INA_EVENT[3], W1C, reset 0x0 (R121). -/
def INA_EVENT_NO_CAB : Field := ⟨8 * 0xA048 + 3, 1, 0⟩
/-- INA_EVENT[2], W1C, reset 0x0 (R121). -/
def INA_EVENT_TWO_CABS : Field := ⟨8 * 0xA048 + 2, 1, 0⟩
/-- INA_EVENT[1], W1C, reset 0x0 (R121). -/
def INA_EVENT_KEPT : Field := ⟨8 * 0xA048 + 1, 1, 0⟩
/-- INA_EVENT[0], W1C, reset 0x0 (R121). -/
def INA_EVENT_DONE : Field := ⟨8 * 0xA048 + 0, 1, 0⟩
/-- INA_HOPDLY[31], RO, reset 0x0 (R121). -/
def INA_HOPDLY_VALID (i : Nat) : Field := ⟨8 * (0xA400 + 0x4 * i) + 31, 1, 0⟩
/-- INA_HOPDLY[30], RO, reset 0x0 (R121). -/
def INA_HOPDLY_RCVD (i : Nat) : Field := ⟨8 * (0xA400 + 0x4 * i) + 30, 1, 0⟩
/-- INA_HOPDLY[19:0], RO, reset 0x0 (R121). -/
def INA_HOPDLY_DELAY (i : Nat) : Field := ⟨8 * (0xA400 + 0x4 * i) + 0, 20, 0⟩

/-! ### 05_cycle_frame_and_message_window.md -/

/-- CYC_CFG[30:24], RWL PRV, reset 0x00 (R161). -/
def CYC_CFG_SLOT_SIZE : Field := ⟨8 * 0xB000 + 24, 7, 0⟩
/-- CYC_CFG[19:16], RWL PRV, reset 0x3 (R161). -/
def CYC_CFG_H : Field := ⟨8 * 0xB000 + 16, 4, 3⟩
/-- CYC_CFG[12], RWL PRV, reset 0x1 (R161). -/
def CYC_CFG_AUTH : Field := ⟨8 * 0xB000 + 12, 1, 1⟩
/-- CYC_CFG[8:0], RWL PRV, reset 0x003 (R161). -/
def CYC_CFG_BC_N : Field := ⟨8 * 0xB000 + 0, 9, 3⟩
/-- CYC_CMD[7:0], WO PRV, reset 0x0 (R161). -/
def CYC_CMD_CODE : Field := ⟨8 * 0xB004 + 0, 8, 0⟩
/-- CYC_STATUS[23:16], RO, reset 0x0 (R161). -/
def CYC_STATUS_MAP_SEQ : Field := ⟨8 * 0xB008 + 16, 8, 0⟩
/-- CYC_STATUS[15], RO, reset 0x0 (R161). -/
def CYC_STATUS_MAP_HELD : Field := ⟨8 * 0xB008 + 15, 1, 0⟩
/-- CYC_STATUS[14], RO, reset 0x0 (R161). -/
def CYC_STATUS_OVERRUN : Field := ⟨8 * 0xB008 + 14, 1, 0⟩
/-- CYC_STATUS[13], RO, reset 0x0 (R161). -/
def CYC_STATUS_MAP_TRUNC : Field := ⟨8 * 0xB008 + 13, 1, 0⟩
/-- CYC_STATUS[12], RO, reset 0x0 (R161). -/
def CYC_STATUS_IN_MAP : Field := ⟨8 * 0xB008 + 12, 1, 0⟩
/-- CYC_STATUS[11], RO, reset 0x0 (R161). -/
def CYC_STATUS_EPOCH : Field := ⟨8 * 0xB008 + 11, 1, 0⟩
/-- CYC_STATUS[10], RO, reset 0x1 (R161). -/
def CYC_STATUS_AUTH : Field := ⟨8 * 0xB008 + 10, 1, 1⟩
/-- CYC_STATUS[9], RO, reset 0x0 (R161). -/
def CYC_STATUS_EMIT : Field := ⟨8 * 0xB008 + 9, 1, 0⟩
/-- CYC_STATUS[8:0], RO, reset 0x003 (R161). -/
def CYC_STATUS_BC_IN_USE : Field := ⟨8 * 0xB008 + 0, 9, 3⟩
/-- CYC_CYCLE[31:0], RO, reset 0x0 (R161). -/
def CYC_CYCLE_CYCLE : Field := ⟨8 * 0xB00C + 0, 32, 0⟩
/-- CYC_SLOT[22:16], RO, reset 0x0 (R161). -/
def CYC_SLOT_SIZE : Field := ⟨8 * 0xB010 + 16, 7, 0⟩
/-- CYC_SLOT[13:0], RO, reset 0x0 (R161). -/
def CYC_SLOT_OFFSET : Field := ⟨8 * 0xB010 + 0, 14, 0⟩
/-- CYC_LINE_TIME[31:0], RO, reset 0x0 (R161). -/
def CYC_LINE_TIME_NS : Field := ⟨8 * 0xB014 + 0, 32, 0⟩
/-- CYC_WINDOW[31:0], RO, reset 0x0 (R161). -/
def CYC_WINDOW_NS : Field := ⟨8 * 0xB018 + 0, 32, 0⟩
/-- CYC_ERR[31:16], RC, reset 0x0 (R161). -/
def CYC_ERR_HDR_ERR : Field := ⟨8 * 0xB020 + 16, 16, 0⟩
/-- CYC_ERR[15:0], RC, reset 0x0 (R161). -/
def CYC_ERR_TAG_FAIL : Field := ⟨8 * 0xB020 + 0, 16, 0⟩
/-- CYC_ERR2[31:24], RC, reset 0x0 (R161). -/
def CYC_ERR2_MISSING : Field := ⟨8 * 0xB024 + 24, 8, 0⟩
/-- CYC_ERR2[23:16], RC, reset 0x0 (R161). -/
def CYC_ERR2_MAP_MISS : Field := ⟨8 * 0xB024 + 16, 8, 0⟩
/-- CYC_ERR2[15:0], RC, reset 0x0 (R161). -/
def CYC_ERR2_ABORTS : Field := ⟨8 * 0xB024 + 0, 16, 0⟩
/-- CYC_EVENT[6], W1C, reset 0x0 (R161). -/
def CYC_EVENT_KEY_AGE : Field := ⟨8 * 0xB028 + 6, 1, 0⟩
/-- CYC_EVENT[5], W1C, reset 0x0 (R161). -/
def CYC_EVENT_BC_MISMATCH : Field := ⟨8 * 0xB028 + 5, 1, 0⟩
/-- CYC_EVENT[4], W1C, reset 0x0 (R161). -/
def CYC_EVENT_STALE : Field := ⟨8 * 0xB028 + 4, 1, 0⟩
/-- CYC_EVENT[3], W1C, reset 0x0 (R161). -/
def CYC_EVENT_MAP_TRUNC : Field := ⟨8 * 0xB028 + 3, 1, 0⟩
/-- CYC_EVENT[2], W1C, reset 0x0 (R161). -/
def CYC_EVENT_TAG_FAIL : Field := ⟨8 * 0xB028 + 2, 1, 0⟩
/-- CYC_EVENT[1], W1C, reset 0x0 (R161). -/
def CYC_EVENT_OVERRUN : Field := ⟨8 * 0xB028 + 1, 1, 0⟩
/-- CYC_EVENT[0], W1C, reset 0x0 (R161). -/
def CYC_EVENT_MAP_NEW : Field := ⟨8 * 0xB028 + 0, 1, 0⟩
/-- CYC_KEY_AGE[16], RO, reset 0x0 (R161). -/
def CYC_KEY_AGE_WARN : Field := ⟨8 * 0xB02C + 16, 1, 0⟩
/-- CYC_KEY_AGE[15:0], RO, reset in the table: From MRAM; 0 in the store (notes/assumptions/2.md) (R161). -/
def CYC_KEY_AGE_COMMITS : Field := ⟨8 * 0xB02C + 0, 16, 0⟩
/-- CYC_STALE[31:0], RO, reset 0x0 (R161). -/
def CYC_STALE_STALE (i : Nat) : Field := ⟨8 * (0xB040 + 0x4 * i) + 0, 32, 0⟩
/-- CYC_MAP[31:24], RO, reset 0x0 (R161). -/
def CYC_MAP_SIZE3 (i : Nat) : Field := ⟨8 * (0xB100 + 0x4 * i) + 24, 8, 0⟩
/-- CYC_MAP[23:16], RO, reset 0x0 (R161). -/
def CYC_MAP_SIZE2 (i : Nat) : Field := ⟨8 * (0xB100 + 0x4 * i) + 16, 8, 0⟩
/-- CYC_MAP[15:8], RO, reset 0x0 (R161). -/
def CYC_MAP_SIZE1 (i : Nat) : Field := ⟨8 * (0xB100 + 0x4 * i) + 8, 8, 0⟩
/-- CYC_MAP[7:0], RO, reset 0x0 (R161). -/
def CYC_MAP_SIZE0 (i : Nat) : Field := ⟨8 * (0xB100 + 0x4 * i) + 0, 8, 0⟩
/-- MSG_CFG[23:16], RWL PRV, reset 0x10 (R161). -/
def MSG_CFG_AGE : Field := ⟨8 * 0xC000 + 16, 8, 16⟩
/-- MSG_CFG[7:0], RWL PRV, reset 0x14 (R161). -/
def MSG_CFG_GUARD : Field := ⟨8 * 0xC000 + 0, 8, 20⟩
/-- MSG_STAT[31:16], RC, reset 0x0 (R161). -/
def MSG_STAT_UNROUTABLE : Field := ⟨8 * 0xC008 + 16, 16, 0⟩
/-- MSG_STAT[15:0], RC, reset 0x0 (R161). -/
def MSG_STAT_DUP_DISCARD : Field := ⟨8 * 0xC008 + 0, 16, 0⟩
/-- MSG_STAT2[31:16], RC, reset 0x0 (R161). -/
def MSG_STAT2_FRAME_ERR : Field := ⟨8 * 0xC00C + 16, 16, 0⟩
/-- MSG_STAT2[15:0], RC, reset 0x0 (R161). -/
def MSG_STAT2_QUEUE_DROP : Field := ⟨8 * 0xC00C + 0, 16, 0⟩
/-- MSG_STAT3[31:16], RC, reset 0x0 (R161). -/
def MSG_STAT3_OLD_TOPO : Field := ⟨8 * 0xC010 + 16, 16, 0⟩
/-- MSG_STAT3[15:0], RC, reset 0x0 (R161). -/
def MSG_STAT3_ABORT_RESEND : Field := ⟨8 * 0xC010 + 0, 16, 0⟩
/-- MSG_EVENT[5], W1C, reset 0x0 (R161). -/
def MSG_EVENT_UNROUTABLE : Field := ⟨8 * 0xC014 + 5, 1, 0⟩
/-- MSG_EVENT[4], W1C, reset 0x0 (R161). -/
def MSG_EVENT_QUEUE_DROP : Field := ⟨8 * 0xC014 + 4, 1, 0⟩
/-- MSG_EVENT[3:0], W1C, reset 0x0 (R161). -/
def MSG_EVENT_POLICE_ALARM : Field := ⟨8 * 0xC014 + 0, 4, 0⟩
/-- MSG_POL[27:16], RWL PRV, reset 0x100 (R161). -/
def MSG_POL_BURST (i : Nat) : Field := ⟨8 * (0xC040 + 0x4 * i) + 16, 12, 256⟩
/-- MSG_POL[11:0], RWL PRV, reset 0x040 (R161). -/
def MSG_POL_RATE (i : Nat) : Field := ⟨8 * (0xC040 + 0x4 * i) + 0, 12, 64⟩
/-- MSG_QCFG[7:0], RWL PRV, reset 0x10 (R161). -/
def MSG_QCFG_DEPTH (i : Nat) : Field := ⟨8 * (0xC060 + 0x4 * i) + 0, 8, 16⟩
/-- MSG_POL_CNT[31:0], RC, reset 0x0 (R161). -/
def MSG_POL_CNT_DISCARDS (i : Nat) : Field := ⟨8 * (0xC100 + 0x4 * i) + 0, 32, 0⟩
/-- MSG_GRP[31:0], RW PRV, reset 0x0 (R161). -/
def MSG_GRP_MEMBER (i : Nat) : Field := ⟨8 * (0xC800 + 0x4 * i) + 0, 32, 0⟩

/-! ### 06_train_time.md -/

/-- TIM_CFG[16:8], RWL PRV, reset 0x07D (R185). -/
def TIM_CFG_HOP_EST : Field := ⟨8 * 0x5000 + 8, 9, 125⟩
/-- TIM_CFG[4], RWL PRV, reset 0x0 (R185). -/
def TIM_CFG_F10M_EN : Field := ⟨8 * 0x5000 + 4, 1, 0⟩
/-- TIM_CFG[0], RWL PRV, reset 0x0 (R185). -/
def TIM_CFG_PPS_IN_EN : Field := ⟨8 * 0x5000 + 0, 1, 0⟩
/-- TIM_CMD[7:0], WO PRV, reset 0x0 (R185). -/
def TIM_CMD_CODE : Field := ⟨8 * 0x5004 + 0, 8, 0⟩
/-- TIM_STATUS[9], RO, reset 0x0 (R185). -/
def TIM_STATUS_SRC_LINE : Field := ⟨8 * 0x5008 + 9, 1, 0⟩
/-- TIM_STATUS[8], RO, reset 0x0 (R185). -/
def TIM_STATUS_LINE_DIFF : Field := ⟨8 * 0x5008 + 8, 1, 0⟩
/-- TIM_STATUS[7], RO, reset 0x0 (R185). -/
def TIM_STATUS_PPS_IN_LOST : Field := ⟨8 * 0x5008 + 7, 1, 0⟩
/-- TIM_STATUS[6], RO, reset 0x0 (R185). -/
def TIM_STATUS_HOLD_OK : Field := ⟨8 * 0x5008 + 6, 1, 0⟩
/-- TIM_STATUS[5], RO, reset 0x0 (R185). -/
def TIM_STATUS_IN_SPEC : Field := ⟨8 * 0x5008 + 5, 1, 0⟩
/-- TIM_STATUS[4], RO, reset 0x0 (R185). -/
def TIM_STATUS_RATE_VALID : Field := ⟨8 * 0x5008 + 4, 1, 0⟩
/-- TIM_STATUS[3], RO, reset 0x0 (R185). -/
def TIM_STATUS_TIME_VALID : Field := ⟨8 * 0x5008 + 3, 1, 0⟩
/-- TIM_STATUS[2:0], RO, reset 0x0 (R185). -/
def TIM_STATUS_STATE : Field := ⟨8 * 0x5008 + 0, 3, 0⟩
/-- TIM_NOW_NS[29:0], RO, reset 0x0 (R185). -/
def TIM_NOW_NS_NS : Field := ⟨8 * 0x5010 + 0, 30, 0⟩
/-- TIM_NOW_FRAC[15:0], RO, reset 0x0 (R185). -/
def TIM_NOW_FRAC_FRAC : Field := ⟨8 * 0x5014 + 0, 16, 0⟩
/-- TIM_NOW_S[47:0], RO, reset 0x0 (R185). -/
def TIM_NOW_S_SEC : Field := ⟨8 * 0x5018 + 0, 48, 0⟩
/-- TIM_NOW_UPTIME[63:0], RO, reset 0x0 (R185). -/
def TIM_NOW_UPTIME_NS : Field := ⟨8 * 0x5020 + 0, 64, 0⟩
/-- TIM_OFFSET[31:0], RO, reset 0x0 (R185). -/
def TIM_OFFSET_E : Field := ⟨8 * 0x5028 + 0, 32, 0⟩
/-- TIM_RATE[31:0], RO, reset 0x0 (R185). -/
def TIM_RATE_K_M1 : Field := ⟨8 * 0x502C + 0, 32, 0⟩
/-- TIM_STEP_S[47:0], RW PRV, reset 0x0 (R185). -/
def TIM_STEP_S_SEC : Field := ⟨8 * 0x5030 + 0, 48, 0⟩
/-- TIM_STEP_NS[29:0], RW PRV, reset 0x0 (R185). -/
def TIM_STEP_NS_NS : Field := ⟨8 * 0x5038 + 0, 30, 0⟩
/-- TIM_PPS_CFG[31:16], RWL PRV, reset 0x2710 (R185). -/
def TIM_PPS_CFG_WIDTH : Field := ⟨8 * 0x5040 + 16, 16, 10000⟩
/-- TIM_PPS_CFG[1:0], RWL PRV, reset 0x1 (R185). -/
def TIM_PPS_CFG_MODE : Field := ⟨8 * 0x5040 + 0, 2, 1⟩
/-- TIM_PPS_OFS[15:0], RWL PRV, reset 0x0 (R185). -/
def TIM_PPS_OFS_OFS : Field := ⟨8 * 0x5044 + 0, 16, 0⟩
/-- TIM_PPS_IN_TS[63:32], RO, reset 0x0 (R185). -/
def TIM_PPS_IN_TS_SEC_LO : Field := ⟨8 * 0x5048 + 32, 32, 0⟩
/-- TIM_PPS_IN_TS[29:0], RO, reset 0x0 (R185). -/
def TIM_PPS_IN_TS_NS : Field := ⟨8 * 0x5048 + 0, 30, 0⟩
/-- TIM_PPS_IN_ERR[31:0], RO, reset 0x0 (R185). -/
def TIM_PPS_IN_ERR_ERR : Field := ⟨8 * 0x5050 + 0, 32, 0⟩
/-- TIM_STAT[31:16], RC, reset 0x0 (R185). -/
def TIM_STAT_JUMPS : Field := ⟨8 * 0x5054 + 16, 16, 0⟩
/-- TIM_STAT[15:0], RC, reset 0x0 (R185). -/
def TIM_STAT_HOLDOVERS : Field := ⟨8 * 0x5054 + 0, 16, 0⟩
/-- TIM_EVENT[6], W1C, reset 0x0 (R185). -/
def TIM_EVENT_LINE_DIFF : Field := ⟨8 * 0x5058 + 6, 1, 0⟩
/-- TIM_EVENT[5], W1C, reset 0x0 (R185). -/
def TIM_EVENT_PPS_IN_LOST : Field := ⟨8 * 0x5058 + 5, 1, 0⟩
/-- TIM_EVENT[4], W1C, reset 0x0 (R185). -/
def TIM_EVENT_HOLD_EXPIRED : Field := ⟨8 * 0x5058 + 4, 1, 0⟩
/-- TIM_EVENT[3], W1C, reset 0x0 (R185). -/
def TIM_EVENT_STEP : Field := ⟨8 * 0x5058 + 3, 1, 0⟩
/-- TIM_EVENT[2], W1C, reset 0x0 (R185). -/
def TIM_EVENT_JUMP : Field := ⟨8 * 0x5058 + 2, 1, 0⟩
/-- TIM_EVENT[1], W1C, reset 0x0 (R185). -/
def TIM_EVENT_HOLDOVER : Field := ⟨8 * 0x5058 + 1, 1, 0⟩
/-- TIM_EVENT[0], W1C, reset 0x0 (R185). -/
def TIM_EVENT_LOCK : Field := ⟨8 * 0x5058 + 0, 1, 0⟩
/-- TIM_HOLD[31:0], RO, reset 0x0 (R185). -/
def TIM_HOLD_MS : Field := ⟨8 * 0x505C + 0, 32, 0⟩

/-! ### 07_consist_network.md -/

/-- CST_CFG[19:16], RWL PRV, reset 0x3 (R213). -/
def CST_CFG_STALE_LIM : Field := ⟨8 * 0x10000 + 16, 4, 3⟩
/-- CST_CFG[0], RWL PRV, reset 0x0 (R213). -/
def CST_CFG_SAFE_STATE : Field := ⟨8 * 0x10000 + 0, 1, 0⟩
/-- CST_CMD[31:16], WO PRV, reset 0x0 (R213). -/
def CST_CMD_ARG : Field := ⟨8 * 0x10004 + 16, 16, 0⟩
/-- CST_CMD[7:0], WO PRV, reset 0x0 (R213). -/
def CST_CMD_CODE : Field := ⟨8 * 0x10004 + 0, 8, 0⟩
/-- CST_STATUS[25:20], RO, reset 0x0 (R213). -/
def CST_STATUS_CYCLE : Field := ⟨8 * 0x10008 + 20, 6, 0⟩
/-- CST_STATUS[19], RO, reset 0x0 (R213). -/
def CST_STATUS_PHASE_LOCK : Field := ⟨8 * 0x10008 + 19, 1, 0⟩
/-- CST_STATUS[18], RO, reset 0x0 (R213). -/
def CST_STATUS_REF_SRC : Field := ⟨8 * 0x10008 + 18, 1, 0⟩
/-- CST_STATUS[15:12], RO, reset 0x0 (R213). -/
def CST_STATUS_SPOKE : Field := ⟨8 * 0x10008 + 12, 4, 0⟩
/-- CST_STATUS[11], RO, reset 0x0 (R213). -/
def CST_STATUS_COLDSTART : Field := ⟨8 * 0x10008 + 11, 1, 0⟩
/-- CST_STATUS[10], RO, reset 0x0 (R213). -/
def CST_STATUS_LOCK_BC : Field := ⟨8 * 0x10008 + 10, 1, 0⟩
/-- CST_STATUS[9], RO, reset 0x0 (R213). -/
def CST_STATUS_ROLE : Field := ⟨8 * 0x10008 + 9, 1, 0⟩
/-- CST_STATUS[8], RO, reset 0x0 (R213). -/
def CST_STATUS_EN : Field := ⟨8 * 0x10008 + 8, 1, 0⟩
/-- CST_STATUS[4:3], RO, reset 0x0 (R213). -/
def CST_STATUS_GSTATE : Field := ⟨8 * 0x10008 + 3, 2, 0⟩
/-- CST_STATUS[2:0], RO, reset 0x0 (R213). -/
def CST_STATUS_STATE : Field := ⟨8 * 0x10008 + 0, 3, 0⟩
/-- CST_SCHED0[31:16], RO, reset 0x0 (R213). -/
def CST_SCHED0_L_SLOT : Field := ⟨8 * 0x1000C + 16, 16, 0⟩
/-- CST_SCHED0[15:9], RO, reset 0x0 (R213). -/
def CST_SCHED0_S : Field := ⟨8 * 0x1000C + 9, 7, 0⟩
/-- CST_SCHED0[8:7], RO, reset 0x0 (R213). -/
def CST_SCHED0_FRACTION : Field := ⟨8 * 0x1000C + 7, 2, 0⟩
/-- CST_SCHED1[31:22], RO, reset 0x0 (R213). -/
def CST_SCHED1_M : Field := ⟨8 * 0x10010 + 22, 10, 0⟩
/-- CST_SCHED1[21:12], RO, reset 0x0 (R213). -/
def CST_SCHED1_MS_LEN : Field := ⟨8 * 0x10010 + 12, 10, 0⟩
/-- CST_SCHED1[11:4], RO, reset 0x0 (R213). -/
def CST_SCHED1_P_S : Field := ⟨8 * 0x10010 + 4, 8, 0⟩
/-- CST_SCHED2[16:8], RO, reset 0x0 (R213). -/
def CST_SCHED2_BC_N : Field := ⟨8 * 0x10014 + 8, 9, 0⟩
/-- CST_SCHED2[7:0], RO, reset 0x0 (R213). -/
def CST_SCHED2_LINK_DLY : Field := ⟨8 * 0x10014 + 0, 8, 0⟩
/-- CST_SYNC[31:16], RO, reset 0x0 (R213). -/
def CST_SYNC_RATE : Field := ⟨8 * 0x10018 + 16, 16, 0⟩
/-- CST_SYNC[15:0], RO, reset 0x0 (R213). -/
def CST_SYNC_OFFSET : Field := ⟨8 * 0x10018 + 0, 16, 0⟩
/-- CST_PHASE[31:0], RWL PRV, reset 0x0 (R213). -/
def CST_PHASE_TARGET : Field := ⟨8 * 0x1001C + 0, 32, 0⟩
/-- CST_PHASE_ERR[31:0], RO, reset 0x0 (R213). -/
def CST_PHASE_ERR_ERR : Field := ⟨8 * 0x10020 + 0, 32, 0⟩
/-- CST_STAT[31:24], RC, reset 0x0 (R213). -/
def CST_STAT_SYNC_LOST : Field := ⟨8 * 0x10024 + 24, 8, 0⟩
/-- CST_STAT[23:16], RC, reset 0x0 (R213). -/
def CST_STAT_COLD_ATTEMPTS : Field := ⟨8 * 0x10024 + 16, 8, 0⟩
/-- CST_STAT[15:8], RC, reset 0x0 (R213). -/
def CST_STAT_SELF_SUPPRESS : Field := ⟨8 * 0x10024 + 8, 8, 0⟩
/-- CST_STAT[7:0], RC, reset 0x0 (R213). -/
def CST_STAT_SELF_RESYNC : Field := ⟨8 * 0x10024 + 0, 8, 0⟩
/-- CST_EVENT[23:16], W1C, reset 0x0 (R213). -/
def CST_EVENT_PORT_ISO : Field := ⟨8 * 0x10028 + 16, 8, 0⟩
/-- CST_EVENT[15:8], W1C, reset 0x0 (R213). -/
def CST_EVENT_PORT_OOS : Field := ⟨8 * 0x10028 + 8, 8, 0⟩
/-- CST_EVENT[5], W1C, reset 0x0 (R213). -/
def CST_EVENT_BC_MISMATCH : Field := ⟨8 * 0x10028 + 5, 1, 0⟩
/-- CST_EVENT[4], W1C, reset 0x0 (R213). -/
def CST_EVENT_PHASE_LOCK : Field := ⟨8 * 0x10028 + 4, 1, 0⟩
/-- CST_EVENT[3], W1C, reset 0x0 (R213). -/
def CST_EVENT_STALE : Field := ⟨8 * 0x10028 + 3, 1, 0⟩
/-- CST_EVENT[2], W1C, reset 0x0 (R213). -/
def CST_EVENT_SYNC_LOST : Field := ⟨8 * 0x10028 + 2, 1, 0⟩
/-- CST_EVENT[1], W1C, reset 0x0 (R213). -/
def CST_EVENT_ACTIVE : Field := ⟨8 * 0x10028 + 1, 1, 0⟩
/-- CST_EVENT[0], W1C, reset 0x0 (R213). -/
def CST_EVENT_RUN : Field := ⟨8 * 0x10028 + 0, 1, 0⟩
/-- CST_STALE[31:0], RO, reset 0x0 (R213). -/
def CST_STALE_STALE (i : Nat) : Field := ⟨8 * (0x10040 + 0x4 * i) + 0, 32, 0⟩
/-- CST_SLOT[16], RO, reset 0x0 (R213). -/
def CST_SLOT_COLD_SLOT (i : Nat) : Field := ⟨8 * (0x10400 + 0x4 * i) + 16, 1, 0⟩
/-- CST_SLOT[15:10], RO, reset 0x0 (R213). -/
def CST_SLOT_BASE (i : Nat) : Field := ⟨8 * (0x10400 + 0x4 * i) + 10, 6, 0⟩
/-- CST_SLOT[9:7], RO, reset 0x0 (R213). -/
def CST_SLOT_REP (i : Nat) : Field := ⟨8 * (0x10400 + 0x4 * i) + 7, 3, 0⟩
/-- CST_SLOT[3:0], RO, reset 0xF (R213). -/
def CST_SLOT_OWNER (i : Nat) : Field := ⟨8 * (0x10400 + 0x4 * i) + 0, 4, 15⟩
/-- CST_DYN[31:0], RO, reset 0xFFFF_FFFF (R213). -/
def CST_DYN_OWNERS (i : Nat) : Field := ⟨8 * (0x10800 + 0x4 * i) + 0, 32, 4294967295⟩
/-- CST_PSTATUS[7:6], RO, reset 0x0 (R213). -/
def CST_PSTATUS_GUARD (i : Nat) : Field := ⟨8 * (0x11000 + 0x400 * i) + 6, 2, 0⟩
/-- CST_PSTATUS[2], RO, reset 0x0 (R213). -/
def CST_PSTATUS_SIG_DET (i : Nat) : Field := ⟨8 * (0x11000 + 0x400 * i) + 2, 1, 0⟩
/-- CST_PSTATUS[1:0], RO, reset 0x0 (R213). -/
def CST_PSTATUS_LINK (i : Nat) : Field := ⟨8 * (0x11000 + 0x400 * i) + 0, 2, 0⟩
/-- CST_PVIOL[31:16], RC, reset 0x0 (R213). -/
def CST_PVIOL_START (i : Nat) : Field := ⟨8 * (0x11004 + 0x400 * i) + 16, 16, 0⟩
/-- CST_PVIOL[15:8], RC, reset 0x0 (R213). -/
def CST_PVIOL_END_HDR (i : Nat) : Field := ⟨8 * (0x11004 + 0x400 * i) + 8, 8, 0⟩
/-- CST_PVIOL[7:0], RC, reset 0x0 (R213). -/
def CST_PVIOL_COLD_BLOCKED (i : Nat) : Field := ⟨8 * (0x11004 + 0x400 * i) + 0, 8, 0⟩
/-- CST_PERR[31:16], RC, reset 0x0 (R213). -/
def CST_PERR_LINK_DOWNS (i : Nat) : Field := ⟨8 * (0x11008 + 0x400 * i) + 16, 16, 0⟩
/-- CST_PERR[15:0], RC, reset 0x0 (R213). -/
def CST_PERR_CODE_ERRORS (i : Nat) : Field := ⟨8 * (0x11008 + 0x400 * i) + 0, 16, 0⟩
/-- CST_PFRM[31:0], RO, reset 0x0 (R213). -/
def CST_PFRM_FRAMES (i : Nat) : Field := ⟨8 * (0x1100C + 0x400 * i) + 0, 32, 0⟩

/-! ### 08_can_fd_channels.md -/

/-- CAN_CFG[7:6], RWL PRV, reset 0x0 (R243). -/
def CAN_CFG_NOMATCH (i : Nat) : Field := ⟨8 * (0x20000 + 0x1000 * i) + 6, 2, 0⟩
/-- CAN_CFG[5], RWL PRV, reset 0x0 (R243). -/
def CAN_CFG_SAFE_STATE (i : Nat) : Field := ⟨8 * (0x20000 + 0x1000 * i) + 5, 1, 0⟩
/-- CAN_CFG[4], RWL PRV, reset 0x0 (R243). -/
def CAN_CFG_TT_EN (i : Nat) : Field := ⟨8 * (0x20000 + 0x1000 * i) + 4, 1, 0⟩
/-- CAN_CFG[2], RWL PRV, reset 0x0 (R243). -/
def CAN_CFG_LISTEN_ONLY (i : Nat) : Field := ⟨8 * (0x20000 + 0x1000 * i) + 2, 1, 0⟩
/-- CAN_CFG[1], RWL PRV, reset 0x1 (R243). -/
def CAN_CFG_PXE (i : Nat) : Field := ⟨8 * (0x20000 + 0x1000 * i) + 1, 1, 1⟩
/-- CAN_CFG[0], RWL PRV, reset 0x1 (R243). -/
def CAN_CFG_FD_EN (i : Nat) : Field := ⟨8 * (0x20000 + 0x1000 * i) + 0, 1, 1⟩
/-- CAN_CMD[31:16], WO PRV, reset 0x0 (R243). -/
def CAN_CMD_ARG (i : Nat) : Field := ⟨8 * (0x20004 + 0x1000 * i) + 16, 16, 0⟩
/-- CAN_CMD[7:0], WO PRV, reset 0x0 (R243). -/
def CAN_CMD_CODE (i : Nat) : Field := ⟨8 * (0x20004 + 0x1000 * i) + 0, 8, 0⟩
/-- CAN_STATUS[21:16], RO, reset 0x0 (R243). -/
def CAN_STATUS_TXQ_FILL (i : Nat) : Field := ⟨8 * (0x20008 + 0x1000 * i) + 16, 6, 0⟩
/-- CAN_STATUS[15:8], RO, reset 0x0 (R243). -/
def CAN_STATUS_BOR_CNT (i : Nat) : Field := ⟨8 * (0x20008 + 0x1000 * i) + 8, 8, 0⟩
/-- CAN_STATUS[7], RO, reset 0x0 (R243). -/
def CAN_STATUS_TX_INHIBIT (i : Nat) : Field := ⟨8 * (0x20008 + 0x1000 * i) + 7, 1, 0⟩
/-- CAN_STATUS[6], RO, reset 0x0 (R243). -/
def CAN_STATUS_PINNED (i : Nat) : Field := ⟨8 * (0x20008 + 0x1000 * i) + 6, 1, 0⟩
/-- CAN_STATUS[5], RO, reset 0x0 (R243). -/
def CAN_STATUS_WARN (i : Nat) : Field := ⟨8 * (0x20008 + 0x1000 * i) + 5, 1, 0⟩
/-- CAN_STATUS[4:3], RO, reset 0x0 (R243). -/
def CAN_STATUS_CONF (i : Nat) : Field := ⟨8 * (0x20008 + 0x1000 * i) + 3, 2, 0⟩
/-- CAN_STATUS[2:0], RO, reset 0x0 (R243). -/
def CAN_STATUS_STATE (i : Nat) : Field := ⟨8 * (0x20008 + 0x1000 * i) + 0, 3, 0⟩
/-- CAN_NBT[26:20], RWL PRV, reset 0x1F (R243). -/
def CAN_NBT_SJW (i : Nat) : Field := ⟨8 * (0x2000C + 0x1000 * i) + 20, 7, 31⟩
/-- CAN_NBT[19:13], RWL PRV, reset 0x1F (R243). -/
def CAN_NBT_TSEG2 (i : Nat) : Field := ⟨8 * (0x2000C + 0x1000 * i) + 13, 7, 31⟩
/-- CAN_NBT[12:5], RWL PRV, reset 0x7E (R243). -/
def CAN_NBT_TSEG1 (i : Nat) : Field := ⟨8 * (0x2000C + 0x1000 * i) + 5, 8, 126⟩
/-- CAN_NBT[4:0], RWL PRV, reset 0x00 (R243). -/
def CAN_NBT_BRP (i : Nat) : Field := ⟨8 * (0x2000C + 0x1000 * i) + 0, 5, 0⟩
/-- CAN_DBT[17:14], RWL PRV, reset 0x9 (R243). -/
def CAN_DBT_SJW (i : Nat) : Field := ⟨8 * (0x20010 + 0x1000 * i) + 14, 4, 9⟩
/-- CAN_DBT[13:10], RWL PRV, reset 0x9 (R243). -/
def CAN_DBT_TSEG2 (i : Nat) : Field := ⟨8 * (0x20010 + 0x1000 * i) + 10, 4, 9⟩
/-- CAN_DBT[9:5], RWL PRV, reset 0x1C (R243). -/
def CAN_DBT_TSEG1 (i : Nat) : Field := ⟨8 * (0x20010 + 0x1000 * i) + 5, 5, 28⟩
/-- CAN_DBT[4:0], RWL PRV, reset 0x00 (R243). -/
def CAN_DBT_BRP (i : Nat) : Field := ⟨8 * (0x20010 + 0x1000 * i) + 0, 5, 0⟩
/-- CAN_TDC[30:24], RO, reset 0x0 (R243). -/
def CAN_TDC_TDCV (i : Nat) : Field := ⟨8 * (0x20014 + 0x1000 * i) + 24, 7, 0⟩
/-- CAN_TDC[22:16], RWL PRV, reset 0x00 (R243). -/
def CAN_TDC_TDCF (i : Nat) : Field := ⟨8 * (0x20014 + 0x1000 * i) + 16, 7, 0⟩
/-- CAN_TDC[14:8], RWL PRV, reset 0x1E (R243). -/
def CAN_TDC_TDCO (i : Nat) : Field := ⟨8 * (0x20014 + 0x1000 * i) + 8, 7, 30⟩
/-- CAN_TDC[0], RWL PRV, reset 0x1 (R243). -/
def CAN_TDC_EN (i : Nat) : Field := ⟨8 * (0x20014 + 0x1000 * i) + 0, 1, 1⟩
/-- CAN_ERRCNT[24:16], RO, reset 0x0 (R243). -/
def CAN_ERRCNT_REC (i : Nat) : Field := ⟨8 * (0x20018 + 0x1000 * i) + 16, 9, 0⟩
/-- CAN_ERRCNT[8:0], RO, reset 0x0 (R243). -/
def CAN_ERRCNT_TEC (i : Nat) : Field := ⟨8 * (0x20018 + 0x1000 * i) + 0, 9, 0⟩
/-- CAN_FAULT[10], RO, reset 0x0 (R243). -/
def CAN_FAULT_LIVE_SWAP (i : Nat) : Field := ⟨8 * (0x2001C + 0x1000 * i) + 10, 1, 0⟩
/-- CAN_FAULT[9], RO, reset 0x0 (R243). -/
def CAN_FAULT_LIVE_LOOP (i : Nat) : Field := ⟨8 * (0x2001C + 0x1000 * i) + 9, 1, 0⟩
/-- CAN_FAULT[8], RO, reset 0x0 (R243). -/
def CAN_FAULT_LIVE_DOM (i : Nat) : Field := ⟨8 * (0x2001C + 0x1000 * i) + 8, 1, 0⟩
/-- CAN_FAULT[2], W1C, reset 0x0 (R243). -/
def CAN_FAULT_SWAP (i : Nat) : Field := ⟨8 * (0x2001C + 0x1000 * i) + 2, 1, 0⟩
/-- CAN_FAULT[1], W1C, reset 0x0 (R243). -/
def CAN_FAULT_LOOP (i : Nat) : Field := ⟨8 * (0x2001C + 0x1000 * i) + 1, 1, 0⟩
/-- CAN_FAULT[0], W1C, reset 0x0 (R243). -/
def CAN_FAULT_DOM_TIMEOUT (i : Nat) : Field := ⟨8 * (0x2001C + 0x1000 * i) + 0, 1, 0⟩
/-- CAN_RXQCFG[24], RWL PRV, reset 0x0 (R243). -/
def CAN_RXQCFG_OVW1 (i : Nat) : Field := ⟨8 * (0x20020 + 0x1000 * i) + 24, 1, 0⟩
/-- CAN_RXQCFG[23:16], RWL PRV, reset 0xFF (R243). -/
def CAN_RXQCFG_DEPTH1 (i : Nat) : Field := ⟨8 * (0x20020 + 0x1000 * i) + 16, 8, 255⟩
/-- CAN_RXQCFG[8], RWL PRV, reset 0x0 (R243). -/
def CAN_RXQCFG_OVW0 (i : Nat) : Field := ⟨8 * (0x20020 + 0x1000 * i) + 8, 1, 0⟩
/-- CAN_RXQCFG[7:0], RWL PRV, reset 0xFF (R243). -/
def CAN_RXQCFG_DEPTH0 (i : Nat) : Field := ⟨8 * (0x20020 + 0x1000 * i) + 0, 8, 255⟩
/-- CAN_RXQFILL[24:16], RO, reset 0x0 (R243). -/
def CAN_RXQFILL_FILL1 (i : Nat) : Field := ⟨8 * (0x20024 + 0x1000 * i) + 16, 9, 0⟩
/-- CAN_RXQFILL[8:0], RO, reset 0x0 (R243). -/
def CAN_RXQFILL_FILL0 (i : Nat) : Field := ⟨8 * (0x20024 + 0x1000 * i) + 0, 9, 0⟩
/-- CAN_RXSTAT[31:16], RC, reset 0x0 (R243). -/
def CAN_RXSTAT_FILTERED (i : Nat) : Field := ⟨8 * (0x20028 + 0x1000 * i) + 16, 16, 0⟩
/-- CAN_RXSTAT[15:0], RC, reset 0x0 (R243). -/
def CAN_RXSTAT_FRAMES (i : Nat) : Field := ⟨8 * (0x20028 + 0x1000 * i) + 0, 16, 0⟩
/-- CAN_RXOVR[31:16], RC, reset 0x0 (R243). -/
def CAN_RXOVR_OVERRUN1 (i : Nat) : Field := ⟨8 * (0x2002C + 0x1000 * i) + 16, 16, 0⟩
/-- CAN_RXOVR[15:0], RC, reset 0x0 (R243). -/
def CAN_RXOVR_OVERRUN0 (i : Nat) : Field := ⟨8 * (0x2002C + 0x1000 * i) + 0, 16, 0⟩
/-- CAN_TXSTAT[31:16], RC, reset 0x0 (R243). -/
def CAN_TXSTAT_SENT (i : Nat) : Field := ⟨8 * (0x20030 + 0x1000 * i) + 16, 16, 0⟩
/-- CAN_TXSTAT[15:8], RC, reset 0x0 (R243). -/
def CAN_TXSTAT_NOT_QUEUED (i : Nat) : Field := ⟨8 * (0x20030 + 0x1000 * i) + 8, 8, 0⟩
/-- CAN_TXSTAT[7:0], RC, reset 0x0 (R243). -/
def CAN_TXSTAT_CANCELLED (i : Nat) : Field := ⟨8 * (0x20030 + 0x1000 * i) + 0, 8, 0⟩
/-- CAN_ERRSTAT[31:24], RC, reset 0x0 (R243). -/
def CAN_ERRSTAT_BIT (i : Nat) : Field := ⟨8 * (0x20034 + 0x1000 * i) + 24, 8, 0⟩
/-- CAN_ERRSTAT[23:16], RC, reset 0x0 (R243). -/
def CAN_ERRSTAT_STUFF (i : Nat) : Field := ⟨8 * (0x20034 + 0x1000 * i) + 16, 8, 0⟩
/-- CAN_ERRSTAT[15:8], RC, reset 0x0 (R243). -/
def CAN_ERRSTAT_FORM (i : Nat) : Field := ⟨8 * (0x20034 + 0x1000 * i) + 8, 8, 0⟩
/-- CAN_ERRSTAT[7:0], RC, reset 0x0 (R243). -/
def CAN_ERRSTAT_CRC (i : Nat) : Field := ⟨8 * (0x20034 + 0x1000 * i) + 0, 8, 0⟩
/-- CAN_ERRSTAT2[31:24], RC, reset 0x0 (R243). -/
def CAN_ERRSTAT2_ACK (i : Nat) : Field := ⟨8 * (0x20038 + 0x1000 * i) + 24, 8, 0⟩
/-- CAN_ERRSTAT2[23:16], RC, reset 0x0 (R243). -/
def CAN_ERRSTAT2_BUS_OFFS (i : Nat) : Field := ⟨8 * (0x20038 + 0x1000 * i) + 16, 8, 0⟩
/-- CAN_ERRSTAT2[15:8], RC, reset 0x0 (R243). -/
def CAN_ERRSTAT2_PROTO_EXC (i : Nat) : Field := ⟨8 * (0x20038 + 0x1000 * i) + 8, 8, 0⟩
/-- CAN_EVENT[10], W1C, reset 0x0 (R243). -/
def CAN_EVENT_FAULT (i : Nat) : Field := ⟨8 * (0x2003C + 0x1000 * i) + 10, 1, 0⟩
/-- CAN_EVENT[9], W1C, reset 0x0 (R243). -/
def CAN_EVENT_RXQ_OVERRUN (i : Nat) : Field := ⟨8 * (0x2003C + 0x1000 * i) + 9, 1, 0⟩
/-- CAN_EVENT[8], W1C, reset 0x0 (R243). -/
def CAN_EVENT_MASTER (i : Nat) : Field := ⟨8 * (0x2003C + 0x1000 * i) + 8, 1, 0⟩
/-- CAN_EVENT[7], W1C, reset 0x0 (R243). -/
def CAN_EVENT_TT_SYNC_LOST (i : Nat) : Field := ⟨8 * (0x2003C + 0x1000 * i) + 7, 1, 0⟩
/-- CAN_EVENT[6], W1C, reset 0x0 (R243). -/
def CAN_EVENT_SLOT_MISS (i : Nat) : Field := ⟨8 * (0x2003C + 0x1000 * i) + 6, 1, 0⟩
/-- CAN_EVENT[5], W1C, reset 0x0 (R243). -/
def CAN_EVENT_CFG_IGNORED (i : Nat) : Field := ⟨8 * (0x2003C + 0x1000 * i) + 5, 1, 0⟩
/-- CAN_EVENT[4], W1C, reset 0x0 (R243). -/
def CAN_EVENT_TDC_SAT (i : Nat) : Field := ⟨8 * (0x2003C + 0x1000 * i) + 4, 1, 0⟩
/-- CAN_EVENT[3], W1C, reset 0x0 (R243). -/
def CAN_EVENT_WARN (i : Nat) : Field := ⟨8 * (0x2003C + 0x1000 * i) + 3, 1, 0⟩
/-- CAN_EVENT[2], W1C, reset 0x0 (R243). -/
def CAN_EVENT_PASSIVE (i : Nat) : Field := ⟨8 * (0x2003C + 0x1000 * i) + 2, 1, 0⟩
/-- CAN_EVENT[1], W1C, reset 0x0 (R243). -/
def CAN_EVENT_RECOVERED (i : Nat) : Field := ⟨8 * (0x2003C + 0x1000 * i) + 1, 1, 0⟩
/-- CAN_EVENT[0], W1C, reset 0x0 (R243). -/
def CAN_EVENT_BUS_OFF (i : Nat) : Field := ⟨8 * (0x2003C + 0x1000 * i) + 0, 1, 0⟩
/-- CAN_TTCFG[31:28], RWL PRV, reset 0x0 (R243). -/
def CAN_TTCFG_ARB_RETRY (i : Nat) : Field := ⟨8 * (0x20040 + 0x1000 * i) + 28, 4, 0⟩
/-- CAN_TTCFG[27:24], RWL PRV, reset 0x4 (R243). -/
def CAN_TTCFG_TXEN_WIN (i : Nat) : Field := ⟨8 * (0x20040 + 0x1000 * i) + 24, 4, 4⟩
/-- CAN_TTCFG[20], RWL PRV, reset 0x0 (R243). -/
def CAN_TTCFG_MASTER_EN (i : Nat) : Field := ⟨8 * (0x20040 + 0x1000 * i) + 20, 1, 0⟩
/-- CAN_TTCFG[18:16], RWL PRV, reset 0x0 (R243). -/
def CAN_TTCFG_CYCLES_EXP (i : Nat) : Field := ⟨8 * (0x20040 + 0x1000 * i) + 16, 3, 0⟩
/-- CAN_TTCFG[15:0], RWL PRV, reset 0x03E8 (R243). -/
def CAN_TTCFG_CYCLE_LEN (i : Nat) : Field := ⟨8 * (0x20040 + 0x1000 * i) + 0, 16, 1000⟩
/-- CAN_TTREF[10:0], RWL PRV, reset 0x000 (R243). -/
def CAN_TTREF_REF_ID (i : Nat) : Field := ⟨8 * (0x20044 + 0x1000 * i) + 0, 11, 0⟩
/-- CAN_TTSTATUS[31:16], RO, reset 0x0 (R243). -/
def CAN_TTSTATUS_CYCLE_TIME (i : Nat) : Field := ⟨8 * (0x20048 + 0x1000 * i) + 16, 16, 0⟩
/-- CAN_TTSTATUS[13:10], RO, reset 0x0 (R243). -/
def CAN_TTSTATUS_MISSED (i : Nat) : Field := ⟨8 * (0x20048 + 0x1000 * i) + 10, 4, 0⟩
/-- CAN_TTSTATUS[9:4], RO, reset 0x0 (R243). -/
def CAN_TTSTATUS_CYCLE (i : Nat) : Field := ⟨8 * (0x20048 + 0x1000 * i) + 4, 6, 0⟩
/-- CAN_TTSTATUS[1:0], RO, reset 0x0 (R243). -/
def CAN_TTSTATUS_TT_STATE (i : Nat) : Field := ⟨8 * (0x20048 + 0x1000 * i) + 0, 2, 0⟩
/-- CAN_TTSTAT[31:16], RC, reset 0x0 (R243). -/
def CAN_TTSTAT_SLOT_MISS (i : Nat) : Field := ⟨8 * (0x2004C + 0x1000 * i) + 16, 16, 0⟩
/-- CAN_TTSTAT[15:8], RC, reset 0x0 (R243). -/
def CAN_TTSTAT_REF_MISS (i : Nat) : Field := ⟨8 * (0x2004C + 0x1000 * i) + 8, 8, 0⟩
/-- CAN_TTSTAT[7:0], RC, reset 0x0 (R243). -/
def CAN_TTSTAT_TAKEOVER (i : Nat) : Field := ⟨8 * (0x2004C + 0x1000 * i) + 0, 8, 0⟩
/-- CAN_FLT[63], RW PRV, reset 0x0 (R243). -/
def CAN_FLT_TYPE (i j : Nat) : Field := ⟨8 * (0x20100 + 0x1000 * i + 0x8 * j) + 63, 1, 0⟩
/-- CAN_FLT[62], RW PRV, reset 0x0 (R243). -/
def CAN_FLT_TYPE_EN (i j : Nat) : Field := ⟨8 * (0x20100 + 0x1000 * i + 0x8 * j) + 62, 1, 0⟩
/-- CAN_FLT[60:32], RW PRV, reset 0x0 (R243). -/
def CAN_FLT_MASK (i j : Nat) : Field := ⟨8 * (0x20100 + 0x1000 * i + 0x8 * j) + 32, 29, 0⟩
/-- CAN_FLT[31:30], RW PRV, reset 0x0 (R243). -/
def CAN_FLT_ACTION (i j : Nat) : Field := ⟨8 * (0x20100 + 0x1000 * i + 0x8 * j) + 30, 2, 0⟩
/-- CAN_FLT[29], RW PRV, reset 0x0 (R243). -/
def CAN_FLT_IDE (i j : Nat) : Field := ⟨8 * (0x20100 + 0x1000 * i + 0x8 * j) + 29, 1, 0⟩
/-- CAN_FLT[28:0], RW PRV, reset 0x0 (R243). -/
def CAN_FLT_ID (i j : Nat) : Field := ⟨8 * (0x20100 + 0x1000 * i + 0x8 * j) + 0, 29, 0⟩
/-- CAN_WIN[42:37], RWL PRV, reset 0x0 (R243). -/
def CAN_WIN_BASE (i j : Nat) : Field := ⟨8 * (0x20400 + 0x1000 * i + 0x8 * j) + 37, 6, 0⟩
/-- CAN_WIN[36:34], RWL PRV, reset 0x0 (R243). -/
def CAN_WIN_REP (i j : Nat) : Field := ⟨8 * (0x20400 + 0x1000 * i + 0x8 * j) + 34, 3, 0⟩
/-- CAN_WIN[33:32], RWL PRV, reset 0x0 (R243). -/
def CAN_WIN_KIND (i j : Nat) : Field := ⟨8 * (0x20400 + 0x1000 * i + 0x8 * j) + 32, 2, 0⟩
/-- CAN_WIN[31:16], RWL PRV, reset 0x0 (R243). -/
def CAN_WIN_LEN (i j : Nat) : Field := ⟨8 * (0x20400 + 0x1000 * i + 0x8 * j) + 16, 16, 0⟩
/-- CAN_WIN[15:0], RWL PRV, reset 0x0 (R243). -/
def CAN_WIN_START (i j : Nat) : Field := ⟨8 * (0x20400 + 0x1000 * i + 0x8 * j) + 0, 16, 0⟩

/-! ### 09_flow_engine_and_lava_tubes.md -/

/-- FLW_CFG[8:1], RWL PRV, reset 0xFF (R272). -/
def FLW_CFG_ING_DEPTH : Field := ⟨8 * 0xD000 + 1, 8, 255⟩
/-- FLW_CFG[0], RWL PRV, reset 0x1 (R272). -/
def FLW_CFG_SPARE_USE : Field := ⟨8 * 0xD000 + 0, 1, 1⟩
/-- FLW_CMD[31:16], WO PRV, reset 0x0 (R272). -/
def FLW_CMD_ARG : Field := ⟨8 * 0xD004 + 16, 16, 0⟩
/-- FLW_CMD[7:0], WO PRV, reset 0x0 (R272). -/
def FLW_CMD_CODE : Field := ⟨8 * 0xD004 + 0, 8, 0⟩
/-- FLW_STATUS[26:16], RO, reset 0x0 (R272). -/
def FLW_STATUS_ACTIVE : Field := ⟨8 * 0xD008 + 16, 11, 0⟩
/-- FLW_STATUS[2], RO, reset 0x0 (R272). -/
def FLW_STATUS_SHEDDING : Field := ⟨8 * 0xD008 + 2, 1, 0⟩
/-- FLW_STATUS[1], RO, reset 0x0 (R272). -/
def FLW_STATUS_HALTED : Field := ⟨8 * 0xD008 + 1, 1, 0⟩
/-- FLW_STATUS[0], RO, reset 0x0 (R272). -/
def FLW_STATUS_RUN : Field := ⟨8 * 0xD008 + 0, 1, 0⟩
/-- FLW_RETIRED[25], RO, reset 0x0 (R272). -/
def FLW_RETIRED_GPIO : Field := ⟨8 * 0xD00C + 25, 1, 0⟩
/-- FLW_RETIRED[24], RO, reset 0x0 (R272). -/
def FLW_RETIRED_STACK : Field := ⟨8 * 0xD00C + 24, 1, 0⟩
/-- FLW_RETIRED[23:12], RO, reset 0x0 (R272). -/
def FLW_RETIRED_CAN : Field := ⟨8 * 0xD00C + 12, 12, 0⟩
/-- FLW_RETIRED[11:4], RO, reset 0x0 (R272). -/
def FLW_RETIRED_CONSIST : Field := ⟨8 * 0xD00C + 4, 8, 0⟩
/-- FLW_RETIRED[3:0], RO, reset 0x0 (R272). -/
def FLW_RETIRED_LINE : Field := ⟨8 * 0xD00C + 0, 4, 0⟩
/-- FLW_STAT[31:16], RC, reset 0x0 (R272). -/
def FLW_STAT_UNMATCHED : Field := ⟨8 * 0xD010 + 16, 16, 0⟩
/-- FLW_STAT[15:8], RC, reset 0x0 (R272). -/
def FLW_STAT_ING_DROP : Field := ⟨8 * 0xD010 + 8, 8, 0⟩
/-- FLW_STAT[7:0], RC, reset 0x0 (R272). -/
def FLW_STAT_SHED_DROP : Field := ⟨8 * 0xD010 + 0, 8, 0⟩
/-- FLW_STAT2[31:16], RC, reset 0x0 (R272). -/
def FLW_STAT2_POL_DROP : Field := ⟨8 * 0xD014 + 16, 16, 0⟩
/-- FLW_STAT2[15:8], RC, reset 0x0 (R272). -/
def FLW_STAT2_AUTH_FAIL : Field := ⟨8 * 0xD014 + 8, 8, 0⟩
/-- FLW_STAT2[7:4], RC, reset 0x0 (R272). -/
def FLW_STAT2_TUBE_ERR : Field := ⟨8 * 0xD014 + 4, 4, 0⟩
/-- FLW_STAT2[3:0], RC, reset 0x0 (R272). -/
def FLW_STAT2_WRITE_IGNORED : Field := ⟨8 * 0xD014 + 0, 4, 0⟩
/-- FLW_EVENT[6], W1C, reset 0x0 (R272). -/
def FLW_EVENT_ECC_UNCORR : Field := ⟨8 * 0xD018 + 6, 1, 0⟩
/-- FLW_EVENT[5], W1C, reset 0x0 (R272). -/
def FLW_EVENT_IV_WARN : Field := ⟨8 * 0xD018 + 5, 1, 0⟩
/-- FLW_EVENT[4], W1C, reset 0x0 (R272). -/
def FLW_EVENT_SHED_END : Field := ⟨8 * 0xD018 + 4, 1, 0⟩
/-- FLW_EVENT[3], W1C, reset 0x0 (R272). -/
def FLW_EVENT_SHED_START : Field := ⟨8 * 0xD018 + 3, 1, 0⟩
/-- FLW_EVENT[2], W1C, reset 0x0 (R272). -/
def FLW_EVENT_RETIRED : Field := ⟨8 * 0xD018 + 2, 1, 0⟩
/-- FLW_EVENT[1], W1C, reset 0x0 (R272). -/
def FLW_EVENT_FLOW_STATUS : Field := ⟨8 * 0xD018 + 1, 1, 0⟩
/-- FLW_EVENT[0], W1C, reset 0x0 (R272). -/
def FLW_EVENT_HALTED : Field := ⟨8 * 0xD018 + 0, 1, 0⟩
/-- FLW_IVCNT[31:0], RO, reset in the table: —; 0 in the store (notes/assumptions/2.md) (R272). -/
def FLW_IVCNT_IVCNT : Field := ⟨8 * 0xD01C + 0, 32, 0⟩
/-- FLW_ECC[31:16], RC, reset 0x0 (R272). -/
def FLW_ECC_UNCORR : Field := ⟨8 * 0xD020 + 16, 16, 0⟩
/-- FLW_ECC[15:0], RC, reset 0x0 (R272). -/
def FLW_ECC_CORR : Field := ⟨8 * 0xD020 + 0, 16, 0⟩
/-- FLW_SUSP[31:0], W1C, reset 0x0 (R272). -/
def FLW_SUSP_SUSP (i : Nat) : Field := ⟨8 * (0xD040 + 0x4 * i) + 0, 32, 0⟩
/-- FLW_SLICE[31:0], RO, Table 9.2 (R272). -/
def FLW_SLICE_ENTRY (i : Nat) : Field := ⟨8 * (0xD100 + 0x4 * i) + 0, 32, (sliceWordReset i)⟩
/-- FLW_SLICE_SH[31:0], RW PRV, Table 9.2 (R272). -/
def FLW_SLICE_SH_ENTRY (i : Nat) : Field := ⟨8 * (0xD140 + 0x4 * i) + 0, 32, (sliceWordReset i)⟩
/-- FLW_GPIO_IN[31:0], RO, reset in the table: —; 0 in the store (notes/assumptions/2.md) (R272). -/
def FLW_GPIO_IN_IN : Field := ⟨8 * 0xD200 + 0, 32, 0⟩
/-- FLW_GPIO_OUT[31:0], RO, reset 0x0 (R272). -/
def FLW_GPIO_OUT_OUT : Field := ⟨8 * 0xD204 + 0, 32, 0⟩
/-- FLW_GPIO_DIR[31:0], RWL PRV, reset 0x0 (R272). -/
def FLW_GPIO_DIR_DIR : Field := ⟨8 * 0xD208 + 0, 32, 0⟩
/-- FLW_GPIO_SAFE[31:0], RWL PRV, reset 0x0 (R272). -/
def FLW_GPIO_SAFE_SAFE : Field := ⟨8 * 0xD20C + 0, 32, 0⟩
/-- FLW_GPIO_HOLD[31:0], RWL PRV, reset 0x0 (R272). -/
def FLW_GPIO_HOLD_HOLD : Field := ⟨8 * 0xD210 + 0, 32, 0⟩

/-! ### 10_far_window_bridge.md -/

/-- BRG_CFG[31:30], RWL PRV, reset 0x1 (R296). -/
def BRG_CFG_PF0_TGT : Field := ⟨8 * 0x30000 + 30, 2, 1⟩
/-- BRG_CFG[29:20], RWL PRV, reset 0x014 (R296). -/
def BRG_CFG_RSP_TMO : Field := ⟨8 * 0x30000 + 20, 10, 20⟩
/-- BRG_CFG[19:10], RWL PRV, reset 0x00A (R296). -/
def BRG_CFG_DISCARD : Field := ⟨8 * 0x30000 + 10, 10, 10⟩
/-- BRG_CFG[3:0], RWL PRV, reset 0x8 (R296). -/
def BRG_CFG_LOCK_TRIES : Field := ⟨8 * 0x30000 + 0, 4, 8⟩
/-- BRG_CMD[31:16], WO PRV, reset 0x0 (R296). -/
def BRG_CMD_ARG : Field := ⟨8 * 0x30004 + 16, 16, 0⟩
/-- BRG_CMD[7:0], WO PRV, reset 0x0 (R296). -/
def BRG_CMD_CODE : Field := ⟨8 * 0x30004 + 0, 8, 0⟩
/-- BRG_STATUS[24:16], RO, reset 0x0 (R296). -/
def BRG_STATUS_POSTED : Field := ⟨8 * 0x30008 + 16, 9, 0⟩
/-- BRG_STATUS[5:4], RO, reset 0x0 (R296). -/
def BRG_STATUS_LOCK_OUT : Field := ⟨8 * 0x30008 + 4, 2, 0⟩
/-- BRG_STATUS[2], RO, reset 0x0 (R296). -/
def BRG_STATUS_SHED : Field := ⟨8 * 0x30008 + 2, 1, 0⟩
/-- BRG_STATUS[1], RO, reset 0x0 (R296). -/
def BRG_STATUS_TGT_LOCKED : Field := ⟨8 * 0x30008 + 1, 1, 0⟩
/-- BRG_STATUS[0], RO, reset 0x0 (R296). -/
def BRG_STATUS_RUN : Field := ⟨8 * 0x30008 + 0, 1, 0⟩
/-- BRG_TGT_LOCK[31:16], RO, reset 0x0 (R296). -/
def BRG_TGT_LOCK_HOLDER : Field := ⟨8 * 0x3000C + 16, 16, 0⟩
/-- BRG_TGT_LOCK[9:0], RO, reset 0x0 (R296). -/
def BRG_TGT_LOCK_REMAIN : Field := ⟨8 * 0x3000C + 0, 10, 0⟩
/-- BRG_STAT[31:16], RC, reset 0x0 (R296). -/
def BRG_STAT_DISCARDS : Field := ⟨8 * 0x30010 + 16, 16, 0⟩
/-- BRG_STAT[15:0], RC, reset 0x0 (R296). -/
def BRG_STAT_TIMEOUTS : Field := ⟨8 * 0x30010 + 0, 16, 0⟩
/-- BRG_STAT2[31:16], RC, reset 0x0 (R296). -/
def BRG_STAT2_ORPHANED : Field := ⟨8 * 0x30014 + 16, 16, 0⟩
/-- BRG_STAT2[15:0], RC, reset 0x0 (R296). -/
def BRG_STAT2_LATE_RESP : Field := ⟨8 * 0x30014 + 0, 16, 0⟩
/-- BRG_STAT3[31:16], RC, reset 0x0 (R296). -/
def BRG_STAT3_LOCK_RETRY : Field := ⟨8 * 0x30018 + 16, 16, 0⟩
/-- BRG_STAT3[15:8], RC, reset 0x0 (R296). -/
def BRG_STAT3_LOCK_TIMEOUT : Field := ⟨8 * 0x30018 + 8, 8, 0⟩
/-- BRG_STAT3[7:0], RC, reset 0x0 (R296). -/
def BRG_STAT3_ORDER_LATE : Field := ⟨8 * 0x30018 + 0, 8, 0⟩
/-- BRG_STAT4[31:16], RC, reset 0x0 (R296). -/
def BRG_STAT4_NOTICES : Field := ⟨8 * 0x3001C + 16, 16, 0⟩
/-- BRG_STAT4[15:0], RC, reset 0x0 (R296). -/
def BRG_STAT4_RX_DISCARD : Field := ⟨8 * 0x3001C + 0, 16, 0⟩
/-- BRG_EVENT[5], W1C, reset 0x0 (R296). -/
def BRG_EVENT_AP_OVERRUN : Field := ⟨8 * 0x30020 + 5, 1, 0⟩
/-- BRG_EVENT[4], W1C, reset 0x0 (R296). -/
def BRG_EVENT_TIMEOUT : Field := ⟨8 * 0x30020 + 4, 1, 0⟩
/-- BRG_EVENT[3], W1C, reset 0x0 (R296). -/
def BRG_EVENT_ORPHANED : Field := ⟨8 * 0x30020 + 3, 1, 0⟩
/-- BRG_EVENT[2], W1C, reset 0x0 (R296). -/
def BRG_EVENT_LOCK_TIMEOUT : Field := ⟨8 * 0x30020 + 2, 1, 0⟩
/-- BRG_EVENT[1], W1C, reset 0x0 (R296). -/
def BRG_EVENT_RSE_LOST : Field := ⟨8 * 0x30020 + 1, 1, 0⟩
/-- BRG_EVENT[0], W1C, reset 0x0 (R296). -/
def BRG_EVENT_POSTED_FAULT : Field := ⟨8 * 0x30020 + 0, 1, 0⟩
/-- BRG_AP_REQ[31:16], WO PRV, reset 0x0 (R296). -/
def BRG_AP_REQ_TAG (i : Nat) : Field := ⟨8 * (0x30100 + 0x20 * i) + 16, 16, 0⟩
/-- BRG_AP_REQ[12:8], WO PRV, reset 0x0 (R296). -/
def BRG_AP_REQ_WIN (i : Nat) : Field := ⟨8 * (0x30100 + 0x20 * i) + 8, 5, 0⟩
/-- BRG_AP_REQ[7:6], WO PRV, reset 0x0 (R296). -/
def BRG_AP_REQ_WIDTH (i : Nat) : Field := ⟨8 * (0x30100 + 0x20 * i) + 6, 2, 0⟩
/-- BRG_AP_REQ[5], WO PRV, reset 0x0 (R296). -/
def BRG_AP_REQ_UNLOCK (i : Nat) : Field := ⟨8 * (0x30100 + 0x20 * i) + 5, 1, 0⟩
/-- BRG_AP_REQ[4], WO PRV, reset 0x0 (R296). -/
def BRG_AP_REQ_LOCK (i : Nat) : Field := ⟨8 * (0x30100 + 0x20 * i) + 4, 1, 0⟩
/-- BRG_AP_REQ[1:0], WO PRV, reset 0x0 (R296). -/
def BRG_AP_REQ_OP (i : Nat) : Field := ⟨8 * (0x30100 + 0x20 * i) + 0, 2, 0⟩
/-- BRG_AP_STATUS[31:16], RO, reset 0x0 (R296). -/
def BRG_AP_STATUS_TAG (i : Nat) : Field := ⟨8 * (0x30104 + 0x20 * i) + 16, 16, 0⟩
/-- BRG_AP_STATUS[7:0], RO, reset 0x10 (R296). -/
def BRG_AP_STATUS_STATUS (i : Nat) : Field := ⟨8 * (0x30104 + 0x20 * i) + 0, 8, 16⟩
/-- BRG_AP_OFFSET[63:0], RW PRV, reset 0x0 (R296). -/
def BRG_AP_OFFSET_OFFSET (i : Nat) : Field := ⟨8 * (0x30108 + 0x20 * i) + 0, 64, 0⟩
/-- BRG_AP_DATA[63:0], RW PRV, reset 0x0 (R296). -/
def BRG_AP_DATA_DATA (i : Nat) : Field := ⟨8 * (0x30110 + 0x20 * i) + 0, 64, 0⟩
/-- BRG_WIN_CTRL[31:26], RW PRV, reset 0x0C (R296). -/
def BRG_WIN_CTRL_SIZE_EXP (i : Nat) : Field := ⟨8 * (0x30400 + 0x40 * i) + 26, 6, 12⟩
/-- BRG_WIN_CTRL[25:23], RW PRV, reset 0x0 (R296). -/
def BRG_WIN_CTRL_CLASS (i : Nat) : Field := ⟨8 * (0x30400 + 0x40 * i) + 23, 3, 0⟩
/-- BRG_WIN_CTRL[22:19], RW PRV, reset 0x0 (R296). -/
def BRG_WIN_CTRL_TARGET (i : Nat) : Field := ⟨8 * (0x30400 + 0x40 * i) + 19, 4, 0⟩
/-- BRG_WIN_CTRL[18], RW PRV, reset 0x0 (R296). -/
def BRG_WIN_CTRL_FAR_BE (i : Nat) : Field := ⟨8 * (0x30400 + 0x40 * i) + 18, 1, 0⟩
/-- BRG_WIN_CTRL[17], RW PRV, reset 0x0 (R296). -/
def BRG_WIN_CTRL_LANES (i : Nat) : Field := ⟨8 * (0x30400 + 0x40 * i) + 17, 1, 0⟩
/-- BRG_WIN_CTRL[16], RW PRV, reset 0x0 (R296). -/
def BRG_WIN_CTRL_RSE (i : Nat) : Field := ⟨8 * (0x30400 + 0x40 * i) + 16, 1, 0⟩
/-- BRG_WIN_CTRL[15], RW PRV, reset 0x0 (R296). -/
def BRG_WIN_CTRL_ESS (i : Nat) : Field := ⟨8 * (0x30400 + 0x40 * i) + 15, 1, 0⟩
/-- BRG_WIN_CTRL[14], RW PRV, reset 0x0 (R296). -/
def BRG_WIN_CTRL_SB_EN (i : Nat) : Field := ⟨8 * (0x30400 + 0x40 * i) + 14, 1, 0⟩
/-- BRG_WIN_CTRL[13], RW PRV, reset 0x0 (R296). -/
def BRG_WIN_CTRL_PF1_OK (i : Nat) : Field := ⟨8 * (0x30400 + 0x40 * i) + 13, 1, 0⟩
/-- BRG_WIN_CTRL[11], RW PRV, reset 0x0 (R296). -/
def BRG_WIN_CTRL_BIND (i : Nat) : Field := ⟨8 * (0x30400 + 0x40 * i) + 11, 1, 0⟩
/-- BRG_WIN_DST[15:0], RW PRV, reset 0x0 (R296). -/
def BRG_WIN_DST_ADDR (i : Nat) : Field := ⟨8 * (0x30404 + 0x40 * i) + 0, 16, 0⟩
/-- BRG_WIN_UID[63:0], RW PRV, reset 0x0 (R296). -/
def BRG_WIN_UID_UID (i : Nat) : Field := ⟨8 * (0x30408 + 0x40 * i) + 0, 64, 0⟩
/-- BRG_WIN_BASE[63:0], RW PRV, reset 0x0 (R296). -/
def BRG_WIN_BASE_BASE (i : Nat) : Field := ⟨8 * (0x30410 + 0x40 * i) + 0, 64, 0⟩
/-- BRG_WIN_STATUS[31:16], RO, reset 0x0 (R296). -/
def BRG_WIN_STATUS_BSEQ (i : Nat) : Field := ⟨8 * (0x30418 + 0x40 * i) + 16, 16, 0⟩
/-- BRG_WIN_STATUS[11:3], RO, reset 0x0 (R296). -/
def BRG_WIN_STATUS_RES_POS (i : Nat) : Field := ⟨8 * (0x30418 + 0x40 * i) + 3, 9, 0⟩
/-- BRG_WIN_STATUS[2:0], RO, reset 0x0 (R296). -/
def BRG_WIN_STATUS_STATE (i : Nat) : Field := ⟨8 * (0x30418 + 0x40 * i) + 0, 3, 0⟩
/-- BRG_WIN_SB[63], RO, reset 0x0 (R296). -/
def BRG_WIN_SB_VALID (i : Nat) : Field := ⟨8 * (0x30420 + 0x40 * i) + 63, 1, 0⟩
/-- BRG_WIN_SB[62:59], RO, reset 0xF (R296). -/
def BRG_WIN_SB_AGE (i : Nat) : Field := ⟨8 * (0x30420 + 0x40 * i) + 59, 4, 15⟩
/-- BRG_WIN_SB[58:56], RO, reset 0x0 (R296). -/
def BRG_WIN_SB_MODE (i : Nat) : Field := ⟨8 * (0x30420 + 0x40 * i) + 56, 3, 0⟩
/-- BRG_WIN_SB[55], RO, reset 0x0 (R296). -/
def BRG_WIN_SB_ALIVE_RUN (i : Nat) : Field := ⟨8 * (0x30420 + 0x40 * i) + 55, 1, 0⟩
/-- BRG_WIN_SB[50], RO, reset 0x0 (R296). -/
def BRG_WIN_SB_CRIT (i : Nat) : Field := ⟨8 * (0x30420 + 0x40 * i) + 50, 1, 0⟩
/-- BRG_WIN_SB[49], RO, reset 0x0 (R296). -/
def BRG_WIN_SB_MAJOR (i : Nat) : Field := ⟨8 * (0x30420 + 0x40 * i) + 49, 1, 0⟩
/-- BRG_WIN_SB[48], RO, reset 0x0 (R296). -/
def BRG_WIN_SB_MINOR (i : Nat) : Field := ⟨8 * (0x30420 + 0x40 * i) + 48, 1, 0⟩
/-- BRG_WIN_SB[31:0], RO, reset 0x0 (R296). -/
def BRG_WIN_SB_GPIO (i : Nat) : Field := ⟨8 * (0x30420 + 0x40 * i) + 0, 32, 0⟩
/-- BRG_EXP_CTRL[13:8], RW PRV, reset 0x0C (R296). -/
def BRG_EXP_CTRL_SIZE_EXP (i : Nat) : Field := ⟨8 * (0x30C00 + 0x20 * i) + 8, 6, 12⟩
/-- BRG_EXP_CTRL[4], RW PRV, reset 0x1 (R296). -/
def BRG_EXP_CTRL_SCOPE (i : Nat) : Field := ⟨8 * (0x30C00 + 0x20 * i) + 4, 1, 1⟩
/-- BRG_EXP_CTRL[3], RW PRV, reset 0x0 (R296). -/
def BRG_EXP_CTRL_LOCK_OK (i : Nat) : Field := ⟨8 * (0x30C00 + 0x20 * i) + 3, 1, 0⟩
/-- BRG_EXP_CTRL[2], RW PRV, reset 0x0 (R296). -/
def BRG_EXP_CTRL_WR_OK (i : Nat) : Field := ⟨8 * (0x30C00 + 0x20 * i) + 2, 1, 0⟩
/-- BRG_EXP_CTRL[1], RW PRV, reset 0x0 (R296). -/
def BRG_EXP_CTRL_RD_OK (i : Nat) : Field := ⟨8 * (0x30C00 + 0x20 * i) + 1, 1, 0⟩
/-- BRG_EXP_CTRL[0], RW PRV, reset 0x0 (R296). -/
def BRG_EXP_CTRL_EN (i : Nat) : Field := ⟨8 * (0x30C00 + 0x20 * i) + 0, 1, 0⟩
/-- BRG_EXP_ADDR[63:12], RW PRV, reset 0x0 (R296). -/
def BRG_EXP_ADDR_ADDR (i : Nat) : Field := ⟨8 * (0x30C08 + 0x20 * i) + 12, 52, 0⟩

/-! ### 11_host_rings_and_doorbells.md -/

/-- HRG_STATUS[8], RO, reset 0x0 (R320). -/
def HRG_STATUS_MSIX1 : Field := ⟨8 * 0x38000 + 8, 1, 0⟩
/-- HRG_STATUS[7], RO, reset 0x0 (R320). -/
def HRG_STATUS_MSIX0 : Field := ⟨8 * 0x38000 + 7, 1, 0⟩
/-- HRG_STATUS[6], RO, reset 0x0 (R320). -/
def HRG_STATUS_BME1 : Field := ⟨8 * 0x38000 + 6, 1, 0⟩
/-- HRG_STATUS[5], RO, reset 0x0 (R320). -/
def HRG_STATUS_BME0 : Field := ⟨8 * 0x38000 + 5, 1, 0⟩
/-- HRG_STATUS[4:3], RO, reset 0x0 (R320). -/
def HRG_STATUS_WIDTH : Field := ⟨8 * 0x38000 + 3, 2, 0⟩
/-- HRG_STATUS[2:1], RO, reset 0x0 (R320). -/
def HRG_STATUS_SPEED : Field := ⟨8 * 0x38000 + 1, 2, 0⟩
/-- HRG_STATUS[0], RO, reset 0x0 (R320). -/
def HRG_STATUS_LINK_UP : Field := ⟨8 * 0x38000 + 0, 1, 0⟩
/-- HRG_EVENT[6], W1C, reset 0x0 (R320). -/
def HRG_EVENT_HOST_ERROR : Field := ⟨8 * 0x38004 + 6, 1, 0⟩
/-- HRG_EVENT[5], W1C, reset 0x0 (R320). -/
def HRG_EVENT_CFG_IGNORED : Field := ⟨8 * 0x38004 + 5, 1, 0⟩
/-- HRG_EVENT[4], W1C, reset 0x0 (R320). -/
def HRG_EVENT_FLR : Field := ⟨8 * 0x38004 + 4, 1, 0⟩
/-- HRG_EVENT[3], W1C, reset 0x0 (R320). -/
def HRG_EVENT_HOT_RESET : Field := ⟨8 * 0x38004 + 3, 1, 0⟩
/-- HRG_EVENT[2], W1C, reset 0x0 (R320). -/
def HRG_EVENT_LINK_DOWN : Field := ⟨8 * 0x38004 + 2, 1, 0⟩
/-- HRG_EVENT[1], W1C, reset 0x0 (R320). -/
def HRG_EVENT_RING_ERROR : Field := ⟨8 * 0x38004 + 1, 1, 0⟩
/-- HRG_EVENT[0], W1C, reset 0x0 (R320). -/
def HRG_EVENT_BAD_ACCESS : Field := ⟨8 * 0x38004 + 0, 1, 0⟩
/-- HRG_BAD_ACC[31], W1C, reset 0x0 (R320). -/
def HRG_BAD_ACC_VALID : Field := ⟨8 * 0x38008 + 31, 1, 0⟩
/-- HRG_BAD_ACC[30], RO, reset 0x0 (R320). -/
def HRG_BAD_ACC_WRITE : Field := ⟨8 * 0x38008 + 30, 1, 0⟩
/-- HRG_BAD_ACC[29], RO, reset 0x0 (R320). -/
def HRG_BAD_ACC_FUNC : Field := ⟨8 * 0x38008 + 29, 1, 0⟩
/-- HRG_BAD_ACC[23:20], RO, reset 0x0 (R320). -/
def HRG_BAD_ACC_BE : Field := ⟨8 * 0x38008 + 20, 4, 0⟩
/-- HRG_BAD_ACC[19:0], RO, reset 0x0 (R320). -/
def HRG_BAD_ACC_OFFSET : Field := ⟨8 * 0x38008 + 0, 20, 0⟩
/-- HRG_BAD_CNT[31:0], RC, reset 0x0 (R320). -/
def HRG_BAD_CNT_COUNT : Field := ⟨8 * 0x3800C + 0, 32, 0⟩
/-- HRG_GRP_CFG[31], RW, reset 0x0 (R320). -/
def HRG_GRP_CFG_EN (i : Nat) : Field := ⟨8 * (0x38100 + 0x20 * i) + 31, 1, 0⟩
/-- HRG_GRP_CFG[30], RWL PRV, reset 0x0 (R320). -/
def HRG_GRP_CFG_OWNER (i : Nat) : Field := ⟨8 * (0x38100 + 0x20 * i) + 30, 1, 0⟩
/-- HRG_GRP_CFG[5:0], RW, reset 0x00 (R320). -/
def HRG_GRP_CFG_POLL (i : Nat) : Field := ⟨8 * (0x38100 + 0x20 * i) + 0, 6, 0⟩
/-- HRG_GRP_DB[63:8], RW, reset 0x0 (R320). -/
def HRG_GRP_DB_ADDR (i : Nat) : Field := ⟨8 * (0x38108 + 0x20 * i) + 8, 56, 0⟩
/-- HRG_GRP_WB[63:8], RW, reset 0x0 (R320). -/
def HRG_GRP_WB_ADDR (i : Nat) : Field := ⟨8 * (0x38110 + 0x20 * i) + 8, 56, 0⟩
/-- HRG_RING_CTRL[31], RW, reset 0x0 (R320). -/
def HRG_RING_CTRL_EN (i : Nat) : Field := ⟨8 * (0x39000 + 0x20 * i) + 31, 1, 0⟩
/-- HRG_RING_CTRL[30], RW, reset 0x0 (R320). -/
def HRG_RING_CTRL_IRQ_EN (i : Nat) : Field := ⟨8 * (0x39000 + 0x20 * i) + 30, 1, 0⟩
/-- HRG_RING_CTRL[29:26], RW, reset 0x4 (R320). -/
def HRG_RING_CTRL_SIZE_EXP (i : Nat) : Field := ⟨8 * (0x39000 + 0x20 * i) + 26, 4, 4⟩
/-- HRG_RING_CTRL[25:20], RW, reset 0x00 (R320). -/
def HRG_RING_CTRL_VECTOR (i : Nat) : Field := ⟨8 * (0x39000 + 0x20 * i) + 20, 6, 0⟩
/-- HRG_RING_CTRL[19:10], RW, reset 0x000 (R320). -/
def HRG_RING_CTRL_COAL_TIME (i : Nat) : Field := ⟨8 * (0x39000 + 0x20 * i) + 10, 10, 0⟩
/-- HRG_RING_CTRL[7:0], RW, reset 0x01 (R320). -/
def HRG_RING_CTRL_COAL_CNT (i : Nat) : Field := ⟨8 * (0x39000 + 0x20 * i) + 0, 8, 1⟩
/-- HRG_RING_BASE[63:0], RW, reset 0x0 (R320). -/
def HRG_RING_BASE_BASE (i : Nat) : Field := ⟨8 * (0x39008 + 0x20 * i) + 0, 64, 0⟩
/-- HRG_RING_STATUS[31:16], RO, reset 0x0 (R320). -/
def HRG_RING_STATUS_INDEX (i : Nat) : Field := ⟨8 * (0x39010 + 0x20 * i) + 16, 16, 0⟩
/-- HRG_RING_STATUS[7:4], RO, reset 0x0 (R320). -/
def HRG_RING_STATUS_CAUSE (i : Nat) : Field := ⟨8 * (0x39010 + 0x20 * i) + 4, 4, 0⟩
/-- HRG_RING_STATUS[1:0], RO, reset 0x0 (R320). -/
def HRG_RING_STATUS_STATE (i : Nat) : Field := ⟨8 * (0x39010 + 0x20 * i) + 0, 2, 0⟩
/-- HRG_RING_STAT[31:16], RC, reset 0x0 (R320). -/
def HRG_RING_STAT_DROPS (i : Nat) : Field := ⟨8 * (0x39014 + 0x20 * i) + 16, 16, 0⟩
/-- HRG_RING_STAT[15:0], RC, reset 0x0 (R320). -/
def HRG_RING_STAT_DONE (i : Nat) : Field := ⟨8 * (0x39014 + 0x20 * i) + 0, 16, 0⟩
/-- HRG_EVRING_MASK[31:0], RW, reset 0x0 (R320). -/
def HRG_EVRING_MASK_MASK (i : Nat) : Field := ⟨8 * (0x3A018 + 0x20 * i) + 0, 32, 0⟩

/-! ### 13_g_line_and_border_mode.md -/

/-- INA_BDR_CFG[31:16], RWL PRV, reset 0xFFFE (R363). -/
def INA_BDR_CFG_STREAM : Field := ⟨8 * 0xA800 + 16, 16, 65534⟩
/-- INA_BDR_CFG[14:12], RWL PRV, reset 0x2 (R363). -/
def INA_BDR_CFG_MSG_CLASS : Field := ⟨8 * 0xA800 + 12, 3, 2⟩
/-- INA_BDR_CFG[10:8], RWL PRV, reset 0x4 (R363). -/
def INA_BDR_CFG_PD_CLASS : Field := ⟨8 * 0xA800 + 8, 3, 4⟩
/-- INA_BDR_CFG[1:0], RWL PRV, reset 0x0 (R363). -/
def INA_BDR_CFG_SW_MODE : Field := ⟨8 * 0xA800 + 0, 2, 0⟩
/-- INA_BDR_DST[31:16], RWL PRV, reset 0x0000 (R363). -/
def INA_BDR_DST_MSG_DST : Field := ⟨8 * 0xA804 + 16, 16, 0⟩
/-- INA_BDR_DST[15:0], RWL PRV, reset 0xBFFF (R363). -/
def INA_BDR_DST_PD_DST : Field := ⟨8 * 0xA804 + 0, 16, 49151⟩
/-- INA_BDR_STATUS[31:16], RO, reset 0x0 (R363). -/
def INA_BDR_STATUS_TCR : Field := ⟨8 * 0xA808 + 16, 16, 0⟩
/-- INA_BDR_STATUS[15], RO, reset 0x0 (R363). -/
def INA_BDR_STATUS_VALID : Field := ⟨8 * 0xA808 + 15, 1, 0⟩
/-- INA_BDR_STATUS[14], RO, reset 0x0 (R363). -/
def INA_BDR_STATUS_INAUG : Field := ⟨8 * 0xA808 + 14, 1, 0⟩
/-- INA_BDR_STATUS[12], RO, reset 0x0 (R363). -/
def INA_BDR_STATUS_ACTIVE_LINE : Field := ⟨8 * 0xA808 + 12, 1, 0⟩
/-- INA_BDR_STATUS[4:0], RO, reset 0x0 (R363). -/
def INA_BDR_STATUS_L : Field := ⟨8 * 0xA808 + 0, 5, 0⟩
/-- INA_BDR_STAT[31:24], RC, reset 0x0 (R363). -/
def INA_BDR_STAT_EXCESS : Field := ⟨8 * 0xA80C + 24, 8, 0⟩
/-- INA_BDR_STAT[23:16], RC, reset 0x0 (R363). -/
def INA_BDR_STAT_POLL_ERR : Field := ⟨8 * 0xA80C + 16, 8, 0⟩
/-- INA_BDR_STAT[15:0], RC, reset 0x0 (R363). -/
def INA_BDR_STAT_DROP : Field := ⟨8 * 0xA80C + 0, 16, 0⟩
/-- INA_BDR_PORTS[31:0], RWL PRV, reset 0xFFFF_FFFF (R363). -/
def INA_BDR_PORTS_PORT (i : Nat) : Field := ⟨8 * (0xA810 + 0x4 * i) + 0, 32, 4294967295⟩
/-- INA_BDR_VID[31:0], RWL PRV, reset 0x0 (R363). -/
def INA_BDR_VID_VID : Field := ⟨8 * 0xA820 + 0, 32, 0⟩
/-- INA_BDR_LVID[31:0], RO, reset 0x0 (R363). -/
def INA_BDR_LVID_VID (i : Nat) : Field := ⟨8 * (0xA880 + 0x4 * i) + 0, 32, 0⟩

/-! ### 14_redundant_pair_and_referee.md -/

/-- PAIR_CFG[1], RWL PRV, reset 0x0 (R387). -/
def PAIR_CFG_MEMBER : Field := ⟨8 * 0x3C000 + 1, 1, 0⟩
/-- PAIR_CFG[0], RWL PRV, reset 0x0 (R387). -/
def PAIR_CFG_EN : Field := ⟨8 * 0x3C000 + 0, 1, 0⟩
/-- PAIR_VEH_UID[63:0], RWL PRV, reset 0x0 (R387). -/
def PAIR_VEH_UID_UID : Field := ⟨8 * 0x3C008 + 0, 64, 0⟩
/-- PAIR_CMD[31:16], WO PRV, reset 0x0 (R387). -/
def PAIR_CMD_ARG : Field := ⟨8 * 0x3C010 + 16, 16, 0⟩
/-- PAIR_CMD[7:0], WO PRV, reset 0x0 (R387). -/
def PAIR_CMD_CODE : Field := ⟨8 * 0x3C010 + 0, 8, 0⟩
/-- PAIR_STATUS[11], RO, reset 0x0 (R387). -/
def PAIR_STATUS_REF_LOST : Field := ⟨8 * 0x3C014 + 11, 1, 0⟩
/-- PAIR_STATUS[10], RO, reset 0x0 (R387). -/
def PAIR_STATUS_ADOPT : Field := ⟨8 * 0x3C014 + 10, 1, 0⟩
/-- PAIR_STATUS[9], RO, reset in the table: —; 0 in the store (notes/assumptions/2.md) (R387). -/
def PAIR_STATUS_REF_SW : Field := ⟨8 * 0x3C014 + 9, 1, 0⟩
/-- PAIR_STATUS[8], RO, reset in the table: —; 0 in the store (notes/assumptions/2.md) (R387). -/
def PAIR_STATUS_INTERLOCK : Field := ⟨8 * 0x3C014 + 8, 1, 0⟩
/-- PAIR_STATUS[7], RO, reset 0x0 (R387). -/
def PAIR_STATUS_PERMISSION : Field := ⟨8 * 0x3C014 + 7, 1, 0⟩
/-- PAIR_STATUS[6], RO, reset 0x0 (R387). -/
def PAIR_STATUS_PARTNER_OK : Field := ⟨8 * 0x3C014 + 6, 1, 0⟩
/-- PAIR_STATUS[5], RO, reset 0x0 (R387). -/
def PAIR_STATUS_LINK : Field := ⟨8 * 0x3C014 + 5, 1, 0⟩
/-- PAIR_STATUS[4], RO, reset 0x0 (R387). -/
def PAIR_STATUS_PENDING : Field := ⟨8 * 0x3C014 + 4, 1, 0⟩
/-- PAIR_STATUS[1:0], RO, reset 0x0 (R387). -/
def PAIR_STATUS_SYNC : Field := ⟨8 * 0x3C014 + 0, 2, 0⟩
/-- PAIR_TAKEOVER[31], RO, reset 0x0 (R387). -/
def PAIR_TAKEOVER_VARIANT_B : Field := ⟨8 * 0x3C018 + 31, 1, 0⟩
/-- PAIR_TAKEOVER[15:0], RO, reset 0x0 (R387). -/
def PAIR_TAKEOVER_NS : Field := ⟨8 * 0x3C018 + 0, 16, 0⟩
/-- PAIR_STAT[31:16], RC, reset 0x0 (R387). -/
def PAIR_STAT_TAKEOVERS : Field := ⟨8 * 0x3C01C + 16, 16, 0⟩
/-- PAIR_STAT[15:8], RC, reset 0x0 (R387). -/
def PAIR_STAT_RESYNCS : Field := ⟨8 * 0x3C01C + 8, 8, 0⟩
/-- PAIR_STAT[7:0], RC, reset 0x0 (R387). -/
def PAIR_STAT_LINK_LOSSES : Field := ⟨8 * 0x3C01C + 0, 8, 0⟩
/-- PAIR_EVENT[6], W1C, reset 0x0 (R387). -/
def PAIR_EVENT_INTERLOCK_FAULT : Field := ⟨8 * 0x3C020 + 6, 1, 0⟩
/-- PAIR_EVENT[5], W1C, reset 0x0 (R387). -/
def PAIR_EVENT_REF_LOST : Field := ⟨8 * 0x3C020 + 5, 1, 0⟩
/-- PAIR_EVENT[4], W1C, reset 0x0 (R387). -/
def PAIR_EVENT_SYNC_LOST : Field := ⟨8 * 0x3C020 + 4, 1, 0⟩
/-- PAIR_EVENT[3], W1C, reset 0x0 (R387). -/
def PAIR_EVENT_SYNCED : Field := ⟨8 * 0x3C020 + 3, 1, 0⟩
/-- PAIR_EVENT[2], W1C, reset 0x0 (R387). -/
def PAIR_EVENT_RELEASED : Field := ⟨8 * 0x3C020 + 2, 1, 0⟩
/-- PAIR_EVENT[1], W1C, reset 0x0 (R387). -/
def PAIR_EVENT_TAKEOVER : Field := ⟨8 * 0x3C020 + 1, 1, 0⟩
/-- PAIR_EVENT[0], W1C, reset 0x0 (R387). -/
def PAIR_EVENT_OUTPUTS_SAFE : Field := ⟨8 * 0x3C020 + 0, 1, 0⟩
/-- PAIR_REF_CFG[9], RWL PRV, reset 0x1 (R387). -/
def PAIR_REF_CFG_ALIVE_EN : Field := ⟨8 * 0x3C100 + 9, 1, 1⟩
/-- PAIR_REF_CFG[8:0], RWL PRV, reset 0x003 (R387). -/
def PAIR_REF_CFG_PERIOD_N : Field := ⟨8 * 0x3C100 + 0, 9, 3⟩
/-- PAIR_REF_STATUS[11:10], RO, reset 0x0 (R387). -/
def PAIR_REF_STATUS_MISSED1 : Field := ⟨8 * 0x3C104 + 10, 2, 0⟩
/-- PAIR_REF_STATUS[9:8], RO, reset 0x0 (R387). -/
def PAIR_REF_STATUS_MISSED0 : Field := ⟨8 * 0x3C104 + 8, 2, 0⟩
/-- PAIR_REF_STATUS[7], RO, reset 0x0 (R387). -/
def PAIR_REF_STATUS_ALIVE1 : Field := ⟨8 * 0x3C104 + 7, 1, 0⟩
/-- PAIR_REF_STATUS[6], RO, reset 0x0 (R387). -/
def PAIR_REF_STATUS_ALIVE0 : Field := ⟨8 * 0x3C104 + 6, 1, 0⟩
/-- PAIR_REF_STATUS[5], RO, reset 0x0 (R387). -/
def PAIR_REF_STATUS_ELIG1 : Field := ⟨8 * 0x3C104 + 5, 1, 0⟩
/-- PAIR_REF_STATUS[4], RO, reset 0x0 (R387). -/
def PAIR_REF_STATUS_ELIG0 : Field := ⟨8 * 0x3C104 + 4, 1, 0⟩
/-- PAIR_REF_STATUS[3:2], RO, reset 0x0 (R387). -/
def PAIR_REF_STATUS_STATE : Field := ⟨8 * 0x3C104 + 2, 2, 0⟩
/-- PAIR_REF_STATUS[0], RO, reset 0x0 (R387). -/
def PAIR_REF_STATUS_SEL : Field := ⟨8 * 0x3C104 + 0, 1, 0⟩
/-- PAIR_REF_STAT[31:16], RC, reset 0x0 (R387). -/
def PAIR_REF_STAT_SWITCHES : Field := ⟨8 * 0x3C108 + 16, 16, 0⟩
/-- PAIR_REF_STAT[15:8], RC, reset 0x0 (R387). -/
def PAIR_REF_STAT_CRC_ERR1 : Field := ⟨8 * 0x3C108 + 8, 8, 0⟩
/-- PAIR_REF_STAT[7:0], RC, reset 0x0 (R387). -/
def PAIR_REF_STAT_CRC_ERR0 : Field := ⟨8 * 0x3C108 + 0, 8, 0⟩
/-- PAIR_REF_RPT[319:0], RO, reset 0x0 (R387). -/
def PAIR_REF_RPT_REPORT (i : Nat) : Field := ⟨8 * (0x3C140 + 0x40 * i) + 0, 320, 0⟩

/-! ### 15_sleep_and_wake.md -/

/-- SLP_CFG[31:22], RWL PRV, reset 0x014 (R403). -/
def SLP_CFG_FW_TMO : Field := ⟨8 * 0x3F000 + 22, 10, 20⟩
/-- SLP_CFG[17], RW PRV, reset 0x0 (R403). -/
def SLP_CFG_TIMER_EN : Field := ⟨8 * 0x3F000 + 17, 1, 0⟩
/-- SLP_CFG[16], RWL PRV, reset 0x1 (R403). -/
def SLP_CFG_LINE_EN : Field := ⟨8 * 0x3F000 + 16, 1, 1⟩
/-- SLP_CFG[15:12], RWL PRV, reset 0x0 (R403). -/
def SLP_CFG_WAKE_EN : Field := ⟨8 * 0x3F000 + 12, 4, 0⟩
/-- SLP_CFG[11:0], RWL PRV, reset 0x000 (R403). -/
def SLP_CFG_CAN_EN : Field := ⟨8 * 0x3F000 + 0, 12, 0⟩
/-- SLP_CTRL[0], RW PRV, reset 0x0 (R403). -/
def SLP_CTRL_READY : Field := ⟨8 * 0x3F004 + 0, 1, 0⟩
/-- SLP_STATUS[31:16], RO, reset 0x0 (R403). -/
def SLP_STATUS_VOTE_ID : Field := ⟨8 * 0x3F008 + 16, 16, 0⟩
/-- SLP_STATUS[7], RO, reset 0x0 (R403). -/
def SLP_STATUS_CONFIRMED : Field := ⟨8 * 0x3F008 + 7, 1, 0⟩
/-- SLP_STATUS[6:4], RO, reset 0x0 (R403). -/
def SLP_STATUS_RESULT : Field := ⟨8 * 0x3F008 + 4, 3, 0⟩
/-- SLP_STATUS[2:0], RO, reset 0x0 (R403). -/
def SLP_STATUS_STATE : Field := ⟨8 * 0x3F008 + 0, 3, 0⟩
/-- SLP_SLEEP_AT[31:0], RO, reset 0x0 (R403). -/
def SLP_SLEEP_AT_CYCLE : Field := ⟨8 * 0x3F00C + 0, 32, 0⟩
/-- SLP_WAKE_CFG[14:8], RWL PRV, reset 0x21 (R403). -/
def SLP_WAKE_CFG_DEB : Field := ⟨8 * 0x3F010 + 8, 7, 33⟩
/-- SLP_WAKE_CFG[7:4], RWL PRV, reset 0x0 (R403). -/
def SLP_WAKE_CFG_EDGE : Field := ⟨8 * 0x3F010 + 4, 4, 0⟩
/-- SLP_WAKE_CFG[3:0], RWL PRV, reset 0x0 (R403). -/
def SLP_WAKE_CFG_POL : Field := ⟨8 * 0x3F010 + 0, 4, 0⟩
/-- SLP_CANWUP[7:0], RWL PRV, reset 0x21 (R403). -/
def SLP_CANWUP_T_WAKE : Field := ⟨8 * 0x3F014 + 0, 8, 33⟩
/-- SLP_TIMER[31:0], RW PRV, reset 0x0 (R403). -/
def SLP_TIMER_TICKS : Field := ⟨8 * 0x3F018 + 0, 32, 0⟩
/-- SLP_WAKE_SRC[21], RO, reset 0x0 (R403). -/
def SLP_WAKE_SRC_TAMPER : Field := ⟨8 * 0x3F01C + 21, 1, 0⟩
/-- SLP_WAKE_SRC[20], RO, reset 0x0 (R403). -/
def SLP_WAKE_SRC_TIMER : Field := ⟨8 * 0x3F01C + 20, 1, 0⟩
/-- SLP_WAKE_SRC[19:16], RO, reset 0x0 (R403). -/
def SLP_WAKE_SRC_WAKE : Field := ⟨8 * 0x3F01C + 16, 4, 0⟩
/-- SLP_WAKE_SRC[15:4], RO, reset 0x0 (R403). -/
def SLP_WAKE_SRC_CAN : Field := ⟨8 * 0x3F01C + 4, 12, 0⟩
/-- SLP_WAKE_SRC[3:0], RO, reset 0x0 (R403). -/
def SLP_WAKE_SRC_LINE : Field := ⟨8 * 0x3F01C + 0, 4, 0⟩
/-- SLP_WAKE_LIVE[21], RO, reset 0x0 (R403). -/
def SLP_WAKE_LIVE_TAMPER : Field := ⟨8 * 0x3F020 + 21, 1, 0⟩
/-- SLP_WAKE_LIVE[20], RO, reset 0x0 (R403). -/
def SLP_WAKE_LIVE_TIMER : Field := ⟨8 * 0x3F020 + 20, 1, 0⟩
/-- SLP_WAKE_LIVE[19:16], RO, reset 0x0 (R403). -/
def SLP_WAKE_LIVE_WAKE : Field := ⟨8 * 0x3F020 + 16, 4, 0⟩
/-- SLP_WAKE_LIVE[15:4], RO, reset 0x0 (R403). -/
def SLP_WAKE_LIVE_CAN : Field := ⟨8 * 0x3F020 + 4, 12, 0⟩
/-- SLP_WAKE_LIVE[3:0], RO, reset 0x0 (R403). -/
def SLP_WAKE_LIVE_LINE : Field := ⟨8 * 0x3F020 + 0, 4, 0⟩
/-- SLP_STAT[31:16], RC, reset 0x0 (R403). -/
def SLP_STAT_SLEEPS : Field := ⟨8 * 0x3F024 + 16, 16, 0⟩
/-- SLP_STAT[15:8], RC, reset 0x0 (R403). -/
def SLP_STAT_FALSE_WAKES : Field := ⟨8 * 0x3F024 + 8, 8, 0⟩
/-- SLP_STAT[7:0], RC, reset 0x0 (R403). -/
def SLP_STAT_VOTE_FAILS : Field := ⟨8 * 0x3F024 + 0, 8, 0⟩
/-- SLP_EVENT[5], W1C, reset 0x0 (R403). -/
def SLP_EVENT_CONFIRMED : Field := ⟨8 * 0x3F028 + 5, 1, 0⟩
/-- SLP_EVENT[4], W1C, reset 0x0 (R403). -/
def SLP_EVENT_FALSE_WAKE : Field := ⟨8 * 0x3F028 + 4, 1, 0⟩
/-- SLP_EVENT[3], W1C, reset 0x0 (R403). -/
def SLP_EVENT_WOKE : Field := ⟨8 * 0x3F028 + 3, 1, 0⟩
/-- SLP_EVENT[2], W1C, reset 0x0 (R403). -/
def SLP_EVENT_CANCEL : Field := ⟨8 * 0x3F028 + 2, 1, 0⟩
/-- SLP_EVENT[1], W1C, reset 0x0 (R403). -/
def SLP_EVENT_COMMIT : Field := ⟨8 * 0x3F028 + 1, 1, 0⟩
/-- SLP_EVENT[0], W1C, reset 0x0 (R403). -/
def SLP_EVENT_VOTE_FAIL : Field := ⟨8 * 0x3F028 + 0, 1, 0⟩
/-- SLP_AON_TIME[63:0], RO, reset 0x0 (R403). -/
def SLP_AON_TIME_TICKS : Field := ⟨8 * 0x3F030 + 0, 64, 0⟩

/-! ### 16_faults_and_safety.md -/

/-- FLT_STATUS[63:0], RO, reset 0x0 (R422). -/
def FLT_STATUS_STATUS : Field := ⟨8 * 0x2000 + 0, 64, 0⟩
/-- FLT_RAW[63:0], W1C PRV, reset 0x0 (R422). -/
def FLT_RAW_RAW : Field := ⟨8 * 0x2008 + 0, 64, 0⟩
/-- FLT_FORCE[63:0], RW PRV, reset 0x0 (R422). -/
def FLT_FORCE_FORCE : Field := ⟨8 * 0x2010 + 0, 64, 0⟩
/-- FLT_FORCED[63:0], RO, reset 0x0 (R422). -/
def FLT_FORCED_FORCED : Field := ⟨8 * 0x2018 + 0, 64, 0⟩
/-- FLT_RDF[63:0], W1C PRV, reset 0x0 (R422). -/
def FLT_RDF_RDF : Field := ⟨8 * 0x2020 + 0, 64, 0⟩
/-- FLT_TIMER_RUN[63:0], RO, reset 0x0 (R422). -/
def FLT_TIMER_RUN_RUN : Field := ⟨8 * 0x2028 + 0, 64, 0⟩
/-- FLT_FIRST[31], W1C PRV, reset 0x0 (R422). -/
def FLT_FIRST_VALID : Field := ⟨8 * 0x2030 + 31, 1, 0⟩
/-- FLT_FIRST[10], RO, reset 0x0 (R422). -/
def FLT_FIRST_FORCED : Field := ⟨8 * 0x2030 + 10, 1, 0⟩
/-- FLT_FIRST[9:8], RO, reset 0x0 (R422). -/
def FLT_FIRST_SEVERITY : Field := ⟨8 * 0x2030 + 8, 2, 0⟩
/-- FLT_FIRST[5:0], RO, reset 0x0 (R422). -/
def FLT_FIRST_SOURCE : Field := ⟨8 * 0x2030 + 0, 6, 0⟩
/-- FLT_FIRST_MAP[63:0], RO, reset 0x0 (R422). -/
def FLT_FIRST_MAP_MAP : Field := ⟨8 * 0x2038 + 0, 64, 0⟩
/-- FLT_FIRST_TIME[63:0], RO, reset 0x0 (R422). -/
def FLT_FIRST_TIME_NS : Field := ⟨8 * 0x2040 + 0, 64, 0⟩
/-- FLT_ESC[31], W1C PRV, reset 0x0 (R422). -/
def FLT_ESC_VALID : Field := ⟨8 * 0x2048 + 31, 1, 0⟩
/-- FLT_ESC[11], RO, reset 0x0 (R422). -/
def FLT_ESC_CAUSE : Field := ⟨8 * 0x2048 + 11, 1, 0⟩
/-- FLT_ESC[10], RO, reset 0x0 (R422). -/
def FLT_ESC_FORCED : Field := ⟨8 * 0x2048 + 10, 1, 0⟩
/-- FLT_ESC[9:8], RO, reset 0x0 (R422). -/
def FLT_ESC_SEVERITY : Field := ⟨8 * 0x2048 + 8, 2, 0⟩
/-- FLT_ESC[5:0], RO, reset 0x0 (R422). -/
def FLT_ESC_SOURCE : Field := ⟨8 * 0x2048 + 0, 6, 0⟩
/-- FLT_ESC_TIME[63:0], RO, reset 0x0 (R422). -/
def FLT_ESC_TIME_NS : Field := ⟨8 * 0x2050 + 0, 64, 0⟩
/-- FLT_ALIVE_CFG[31], RO, reset 0x0 (R422). -/
def FLT_ALIVE_CFG_RUN : Field := ⟨8 * 0x2058 + 31, 1, 0⟩
/-- FLT_ALIVE_CFG[10:0], RWL PRV, reset 0x1F4 (R422). -/
def FLT_ALIVE_CFG_HALF : Field := ⟨8 * 0x2058 + 0, 11, 500⟩
/-- FLT_LATENT[31:16], RO, reset 0x0 (R422). -/
def FLT_LATENT_PASSES : Field := ⟨8 * 0x205C + 16, 16, 0⟩
/-- FLT_LATENT[4], RO, reset 0x0 (R422). -/
def FLT_LATENT_COLLECTOR : Field := ⟨8 * 0x205C + 4, 1, 0⟩
/-- FLT_LATENT[3], RO, reset 0x0 (R422). -/
def FLT_LATENT_SUPPLY : Field := ⟨8 * 0x205C + 3, 1, 0⟩
/-- FLT_LATENT[2], RO, reset 0x0 (R422). -/
def FLT_LATENT_CLOCK : Field := ⟨8 * 0x205C + 2, 1, 0⟩
/-- FLT_LATENT[1], RO, reset 0x0 (R422). -/
def FLT_LATENT_ECC : Field := ⟨8 * 0x205C + 1, 1, 0⟩
/-- FLT_LATENT[0], RO, reset 0x0 (R422). -/
def FLT_LATENT_LOCKSTEP : Field := ⟨8 * 0x205C + 0, 1, 0⟩
/-- FLT_STAT[31:16], RC, reset 0x0 (R422). -/
def FLT_STAT_LATCHES : Field := ⟨8 * 0x2060 + 16, 16, 0⟩
/-- FLT_STAT[15:8], RC, reset 0x0 (R422). -/
def FLT_STAT_ESCALATIONS : Field := ⟨8 * 0x2060 + 8, 8, 0⟩
/-- FLT_STAT[7:0], RC, reset 0x0 (R422). -/
def FLT_STAT_LATENT_FAILS : Field := ⟨8 * 0x2060 + 0, 8, 0⟩
/-- FLT_EVENT[3], W1C, reset 0x0 (R422). -/
def FLT_EVENT_LATENT_FAIL : Field := ⟨8 * 0x2064 + 3, 1, 0⟩
/-- FLT_EVENT[2], W1C, reset 0x0 (R422). -/
def FLT_EVENT_REAL_DURING_FORCE : Field := ⟨8 * 0x2064 + 2, 1, 0⟩
/-- FLT_EVENT[1], W1C, reset 0x0 (R422). -/
def FLT_EVENT_ESCALATION : Field := ⟨8 * 0x2064 + 1, 1, 0⟩
/-- FLT_EVENT[0], W1C, reset 0x0 (R422). -/
def FLT_EVENT_LATCH : Field := ⟨8 * 0x2064 + 0, 1, 0⟩
/-- FLT_SRC_CFG[31:16], RWL PRV, 0x03E8; 0x0000 for source 16 (R422). -/
def FLT_SRC_CFG_TIMER (i : Nat) : Field := ⟨8 * (0x2100 + 0x4 * i) + 16, 16, (if i = 16 then 0 else 1000)⟩
/-- FLT_SRC_CFG[3], RWL PRV, Table 16.1 (R422). -/
def FLT_SRC_CFG_ACK (i : Nat) : Field := ⟨8 * (0x2100 + 0x4 * i) + 3, 1, (faultAckReset i)⟩
/-- FLT_SRC_CFG[2], RO, Table 16.1 (R422). -/
def FLT_SRC_CFG_FIXED (i : Nat) : Field := ⟨8 * (0x2100 + 0x4 * i) + 2, 1, (faultFixed i)⟩
/-- FLT_SRC_CFG[1:0], RWL PRV, Table 16.1 (R422). -/
def FLT_SRC_CFG_SEVERITY (i : Nat) : Field := ⟨8 * (0x2100 + 0x4 * i) + 0, 2, (faultSeverityReset i)⟩

/-! ### 17_event_recorder.md -/

/-- REC_CFG[5:0], RWL PRV, reset 0x00 (R440). -/
def REC_CFG_KEY_SLOT : Field := ⟨8 * 0x3000 + 0, 6, 0⟩
/-- REC_CMD[31:16], WO PRV, reset 0x0 (R440). -/
def REC_CMD_ARG : Field := ⟨8 * 0x3004 + 16, 16, 0⟩
/-- REC_CMD[7:0], WO PRV, reset 0x0 (R440). -/
def REC_CMD_CODE : Field := ⟨8 * 0x3004 + 0, 8, 0⟩
/-- REC_STATUS[31], RO, reset 0x0 (R440). -/
def REC_STATUS_READY : Field := ⟨8 * 0x3008 + 31, 1, 0⟩
/-- REC_STATUS[30], RO, reset 0x0 (R440). -/
def REC_STATUS_CLEARING : Field := ⟨8 * 0x3008 + 30, 1, 0⟩
/-- REC_STATUS[22:16], RO, reset 0x0 (R440). -/
def REC_STATUS_QUEUE : Field := ⟨8 * 0x3008 + 16, 7, 0⟩
/-- REC_STATUS[15:0], RO, reset in the table: From MRAM; 0 in the store (notes/assumptions/2.md) (R440). -/
def REC_STATUS_NEXT_IDX : Field := ⟨8 * 0x3008 + 0, 16, 0⟩
/-- REC_FILL[28:16], RO, reset in the table: From MRAM; 0 in the store (notes/assumptions/2.md) (R440). -/
def REC_FILL_FIRST_FILL : Field := ⟨8 * 0x300C + 16, 13, 0⟩
/-- REC_FILL[15:0], RO, reset in the table: From MRAM; 0 in the store (notes/assumptions/2.md) (R440). -/
def REC_FILL_RING_FILL : Field := ⟨8 * 0x300C + 0, 16, 0⟩
/-- REC_NEXT_SEQ[31:0], RO, reset in the table: From MRAM; 0 in the store (notes/assumptions/2.md) (R440). -/
def REC_NEXT_SEQ_SEQ : Field := ⟨8 * 0x3010 + 0, 32, 0⟩
/-- REC_RD_IDX[15:0], RW PRV, reset in the table: First of read order; 0 in the store (notes/assumptions/2.md) (R440). -/
def REC_RD_IDX_IDX : Field := ⟨8 * 0x3014 + 0, 16, 0⟩
/-- REC_RD_STATUS[31:16], RO, reset 0x0 (R440). -/
def REC_RD_STATUS_IDX : Field := ⟨8 * 0x3018 + 16, 16, 0⟩
/-- REC_RD_STATUS[2], RO, reset 0x0 (R440). -/
def REC_RD_STATUS_ECC_ERR : Field := ⟨8 * 0x3018 + 2, 1, 0⟩
/-- REC_RD_STATUS[1], RO, reset 0x0 (R440). -/
def REC_RD_STATUS_CRC_OK : Field := ⟨8 * 0x3018 + 1, 1, 0⟩
/-- REC_RD_STATUS[0], RO, reset 0x0 (R440). -/
def REC_RD_STATUS_VALID : Field := ⟨8 * 0x3018 + 0, 1, 0⟩
/-- REC_STAT[31:16], RC, reset 0x0 (R440). -/
def REC_STAT_WRITTEN : Field := ⟨8 * 0x3020 + 16, 16, 0⟩
/-- REC_STAT[15:8], RC, reset 0x0 (R440). -/
def REC_STAT_CRC_ERR : Field := ⟨8 * 0x3020 + 8, 8, 0⟩
/-- REC_STAT[7:0], RC, reset 0x0 (R440). -/
def REC_STAT_WRITE_FAIL : Field := ⟨8 * 0x3020 + 0, 8, 0⟩
/-- REC_LOST[63:0], RC, reset 0x0 (R440). -/
def REC_LOST_COUNT : Field := ⟨8 * 0x3028 + 0, 64, 0⟩
/-- REC_EVENT[3], W1C, reset 0x0 (R440). -/
def REC_EVENT_CRC_ERR : Field := ⟨8 * 0x3030 + 3, 1, 0⟩
/-- REC_EVENT[2], W1C, reset 0x0 (R440). -/
def REC_EVENT_WRITE_FAIL : Field := ⟨8 * 0x3030 + 2, 1, 0⟩
/-- REC_EVENT[1], W1C, reset 0x0 (R440). -/
def REC_EVENT_CLEARED : Field := ⟨8 * 0x3030 + 1, 1, 0⟩
/-- REC_EVENT[0], W1C, reset 0x0 (R440). -/
def REC_EVENT_LOST : Field := ⟨8 * 0x3030 + 0, 1, 0⟩
/-- REC_CLR_CNT[31:0], RO, reset in the table: From MRAM; 0 in the store (notes/assumptions/2.md) (R440). -/
def REC_CLR_CNT_COUNT : Field := ⟨8 * 0x3034 + 0, 32, 0⟩
/-- REC_RD_DATA[63:0], RO, reset in the table: Copy of the first index of read order (R436); 0 in the store (notes/assumptions/2.md) (R440). -/
def REC_RD_DATA_DATA (i : Nat) : Field := ⟨8 * (0x3040 + 0x8 * i) + 0, 64, 0⟩

/-! ### 18_key_vault_and_tamper.md -/

/-- KEY_STATUS[5], RO, reset 0x0 (R457). -/
def KEY_STATUS_CORRUPT : Field := ⟨8 * 0x4000 + 5, 1, 0⟩
/-- KEY_STATUS[4], RO, reset 0x0 (R457). -/
def KEY_STATUS_INTERRUPTED : Field := ⟨8 * 0x4000 + 4, 1, 0⟩
/-- KEY_STATUS[3], RO, reset 0x0 (R457). -/
def KEY_STATUS_ZEROIZED : Field := ⟨8 * 0x4000 + 3, 1, 0⟩
/-- KEY_STATUS[2], RO, reset in the table: —; 0 in the store (notes/assumptions/2.md) (R457). -/
def KEY_STATUS_TAMPERED : Field := ⟨8 * 0x4000 + 2, 1, 0⟩
/-- KEY_STATUS[1], RO, reset 0x1 (R457). -/
def KEY_STATUS_TEST_ROOT : Field := ⟨8 * 0x4000 + 1, 1, 1⟩
/-- KEY_STATUS[0], RO, reset 0x0 (R457). -/
def KEY_STATUS_READY : Field := ⟨8 * 0x4000 + 0, 1, 0⟩
/-- KEY_CMD[31:16], WO PRV, reset 0x0 (R457). -/
def KEY_CMD_ARG : Field := ⟨8 * 0x4004 + 16, 16, 0⟩
/-- KEY_CMD[7:0], WO PRV, reset 0x0 (R457). -/
def KEY_CMD_CODE : Field := ⟨8 * 0x4004 + 0, 8, 0⟩
/-- KEY_WRITE_CFG[3:0], RW PRV, reset 0x0 (R457). -/
def KEY_WRITE_CFG_PURPOSE : Field := ⟨8 * 0x4008 + 0, 4, 0⟩
/-- KEY_EPOCH[17], RO, reset 0x0 (R457). -/
def KEY_EPOCH_FLOW_ACTIVE : Field := ⟨8 * 0x400C + 17, 1, 0⟩
/-- KEY_EPOCH[16], RO, reset 0x0 (R457). -/
def KEY_EPOCH_FRAME_ACTIVE : Field := ⟨8 * 0x400C + 16, 1, 0⟩
/-- KEY_EPOCH[13:8], RWL PRV, reset 0x01 (R457). -/
def KEY_EPOCH_FRAME_SLOT1 : Field := ⟨8 * 0x400C + 8, 6, 1⟩
/-- KEY_EPOCH[5:0], RWL PRV, reset 0x00 (R457). -/
def KEY_EPOCH_FRAME_SLOT0 : Field := ⟨8 * 0x400C + 0, 6, 0⟩
/-- KEY_SW_CYCLE[31:0], RW PRV, reset 0x0 (R457). -/
def KEY_SW_CYCLE_CYCLE : Field := ⟨8 * 0x4010 + 0, 32, 0⟩
/-- KEY_DATA[255:0], WO PRV, reset 0x0 (R457). -/
def KEY_DATA_KEY : Field := ⟨8 * 0x4020 + 0, 256, 0⟩
/-- KEY_TAMPER_CFG[8n + 7 : 8n + 3], RWL PRV, reset 0x02 (R457). -/
def KEY_TAMPER_CFG_DEB (i : Nat) : Field := ⟨8 * 0x4040 + 3 + 8 * i, 5, 2⟩
/-- KEY_TAMPER_CFG[8n + 2], RWL PRV, reset 0x0 (R457). -/
def KEY_TAMPER_CFG_MESH (i : Nat) : Field := ⟨8 * 0x4040 + 2 + 8 * i, 1, 0⟩
/-- KEY_TAMPER_CFG[8n + 1], RWL PRV, reset 0x0 (R457). -/
def KEY_TAMPER_CFG_POL (i : Nat) : Field := ⟨8 * 0x4040 + 1 + 8 * i, 1, 0⟩
/-- KEY_TAMPER_CFG[8n], RWL PRV, reset 0x0 (R457). -/
def KEY_TAMPER_CFG_EN (i : Nat) : Field := ⟨8 * 0x4040 + 0 + 8 * i, 1, 0⟩
/-- KEY_TAMPER_STATUS[23:16], RO, reset in the table: —; 0 in the store (notes/assumptions/2.md) (R457). -/
def KEY_TAMPER_STATUS_LATCHED : Field := ⟨8 * 0x4044 + 16, 8, 0⟩
/-- KEY_TAMPER_STATUS[6:0], RO, reset 0x0 (R457). -/
def KEY_TAMPER_STATUS_LIVE : Field := ⟨8 * 0x4044 + 0, 7, 0⟩
/-- KEY_STAT[31:16], RC, reset 0x0 (R457). -/
def KEY_STAT_WRITES : Field := ⟨8 * 0x4048 + 16, 16, 0⟩
/-- KEY_STAT[15:0], RC, reset 0x0 (R457). -/
def KEY_STAT_ZEROIZES : Field := ⟨8 * 0x4048 + 0, 16, 0⟩
/-- KEY_SLOT_STATUS[31:16], RO, reset in the table: —; 0 in the store (notes/assumptions/2.md) (R457). -/
def KEY_SLOT_STATUS_GEN (i : Nat) : Field := ⟨8 * (0x4100 + 0x4 * i) + 16, 16, 0⟩
/-- KEY_SLOT_STATUS[8], RO, reset in the table: —; 0 in the store (notes/assumptions/2.md) (R457). -/
def KEY_SLOT_STATUS_BANK (i : Nat) : Field := ⟨8 * (0x4100 + 0x4 * i) + 8, 1, 0⟩
/-- KEY_SLOT_STATUS[7:4], RO, reset in the table: —; 0 in the store (notes/assumptions/2.md) (R457). -/
def KEY_SLOT_STATUS_PURPOSE (i : Nat) : Field := ⟨8 * (0x4100 + 0x4 * i) + 4, 4, 0⟩
/-- KEY_SLOT_STATUS[2:0], RO, reset in the table: —; 0 in the store (notes/assumptions/2.md) (R457). -/
def KEY_SLOT_STATUS_STATE (i : Nat) : Field := ⟨8 * (0x4100 + 0x4 * i) + 0, 3, 0⟩

/-! ### 19_stacking.md -/

/-- STK_CFG[23:16], RWL PRV, reset 0x00 (R472). -/
def STK_CFG_HOP_DLY : Field := ⟨8 * 0x3E000 + 16, 8, 0⟩
/-- STK_CFG[13:8], RWL PRV, reset 0x00 (R472). -/
def STK_CFG_POS : Field := ⟨8 * 0x3E000 + 8, 6, 0⟩
/-- STK_CFG[0], RWL PRV, reset 0x0 (R472). -/
def STK_CFG_EN : Field := ⟨8 * 0x3E000 + 0, 1, 0⟩
/-- STK_CMD[7:0], WO PRV, reset 0x0 (R472). -/
def STK_CMD_CODE : Field := ⟨8 * 0x3E004 + 0, 8, 0⟩
/-- STK_STATUS[7], RO, reset 0x0 (R472). -/
def STK_STATUS_DUP : Field := ⟨8 * 0x3E008 + 7, 1, 0⟩
/-- STK_STATUS[6], RO, reset 0x1 (R472). -/
def STK_STATUS_BYPASS : Field := ⟨8 * 0x3E008 + 6, 1, 1⟩
/-- STK_STATUS[5:4], RO, reset 0x0 (R472). -/
def STK_STATUS_LINK_IN : Field := ⟨8 * 0x3E008 + 4, 2, 0⟩
/-- STK_STATUS[3], RO, reset 0x0 (R472). -/
def STK_STATUS_MASTER : Field := ⟨8 * 0x3E008 + 3, 1, 0⟩
/-- STK_STATUS[2:0], RO, reset 0x0 (R472). -/
def STK_STATUS_STATE : Field := ⟨8 * 0x3E008 + 0, 3, 0⟩
/-- STK_PRESENT[63:0], RO, reset 0x0 (R472). -/
def STK_PRESENT_PRESENT : Field := ⟨8 * 0x3E010 + 0, 64, 0⟩
/-- STK_READY[63:0], RO, reset 0x0 (R472). -/
def STK_READY_READY : Field := ⟨8 * 0x3E018 + 0, 64, 0⟩
/-- STK_MASTER_UID[63:0], RO, reset 0x0 (R472). -/
def STK_MASTER_UID_UID : Field := ⟨8 * 0x3E020 + 0, 64, 0⟩
/-- STK_RING_TIME[31:0], RO, reset 0x0 (R472). -/
def STK_RING_TIME_NS : Field := ⟨8 * 0x3E028 + 0, 32, 0⟩
/-- STK_STAT[31:16], RC, reset 0x0 (R472). -/
def STK_STAT_BEACON_MISS : Field := ⟨8 * 0x3E02C + 16, 16, 0⟩
/-- STK_STAT[15:0], RC, reset 0x0 (R472). -/
def STK_STAT_CRC_ERR : Field := ⟨8 * 0x3E02C + 0, 16, 0⟩
/-- STK_STAT2[31:16], RC, reset 0x0 (R472). -/
def STK_STAT2_HEALS : Field := ⟨8 * 0x3E030 + 16, 16, 0⟩
/-- STK_STAT2[15:0], RC, reset 0x0 (R472). -/
def STK_STAT2_UNDELIVERED : Field := ⟨8 * 0x3E030 + 0, 16, 0⟩
/-- STK_EVENT[6], W1C, reset 0x0 (R472). -/
def STK_EVENT_WAKE : Field := ⟨8 * 0x3E034 + 6, 1, 0⟩
/-- STK_EVENT[5], W1C, reset 0x0 (R472). -/
def STK_EVENT_ORPHAN : Field := ⟨8 * 0x3E034 + 5, 1, 0⟩
/-- STK_EVENT[4], W1C, reset 0x0 (R472). -/
def STK_EVENT_DUP : Field := ⟨8 * 0x3E034 + 4, 1, 0⟩
/-- STK_EVENT[3], W1C, reset 0x0 (R472). -/
def STK_EVENT_MEMBER_JOINED : Field := ⟨8 * 0x3E034 + 3, 1, 0⟩
/-- STK_EVENT[2], W1C, reset 0x0 (R472). -/
def STK_EVENT_MEMBER_LOST : Field := ⟨8 * 0x3E034 + 2, 1, 0⟩
/-- STK_EVENT[1], W1C, reset 0x0 (R472). -/
def STK_EVENT_RING_HEALED : Field := ⟨8 * 0x3E034 + 1, 1, 0⟩
/-- STK_EVENT[0], W1C, reset 0x0 (R472). -/
def STK_EVENT_RING_BROKEN : Field := ⟨8 * 0x3E034 + 0, 1, 0⟩

/-! ### 20_power_clocks_pins_thermal.md -/

/-- CLK_STATUS[11:10], RO, reset 0x0 (R494). -/
def CLK_STATUS_GOV : Field := ⟨8 * 0x1000 + 10, 2, 0⟩
/-- CLK_STATUS[9], RO, reset in the table: —; 0 in the store (notes/assumptions/2.md) (R494). -/
def CLK_STATUS_VBAT_OK : Field := ⟨8 * 0x1000 + 9, 1, 0⟩
/-- CLK_STATUS[8], RO, reset 0x0 (R494). -/
def CLK_STATUS_OV : Field := ⟨8 * 0x1000 + 8, 1, 0⟩
/-- CLK_STATUS[7:4], RO, reset in the table: —; 15 in the store, the working machine (notes/assumptions/2.md) (R494). -/
def CLK_STATUS_REG_OK : Field := ⟨8 * 0x1000 + 4, 4, 15⟩
/-- CLK_STATUS[3], RO, reset in the table: —; 1 in the store, the working machine (notes/assumptions/2.md) (R494). -/
def CLK_STATUS_PGOOD : Field := ⟨8 * 0x1000 + 3, 1, 1⟩
/-- CLK_STATUS[2], RO, reset in the table: —; 1 in the store, the working machine (notes/assumptions/2.md) (R494). -/
def CLK_STATUS_X32_OK : Field := ⟨8 * 0x1000 + 2, 1, 1⟩
/-- CLK_STATUS[1], RO, reset in the table: —; 1 in the store, the working machine (notes/assumptions/2.md) (R494). -/
def CLK_STATUS_XTAL_OK : Field := ⟨8 * 0x1000 + 1, 1, 1⟩
/-- CLK_STATUS[0], RO, reset in the table: —; 1 in the store, the working machine (notes/assumptions/2.md) (R494). -/
def CLK_STATUS_PLL_LOCK : Field := ⟨8 * 0x1000 + 0, 1, 1⟩
/-- CLK_CFG[0], RWL PRV, reset 0x1 (R494). -/
def CLK_CFG_VBAT_EN : Field := ⟨8 * 0x1004 + 0, 1, 1⟩
/-- CLK_TEMP[31:16], RO, reset 0x0 (R494). -/
def CLK_TEMP_T1 : Field := ⟨8 * 0x1008 + 16, 16, 0⟩
/-- CLK_TEMP[15:0], RO, reset 0x0 (R494). -/
def CLK_TEMP_T0 : Field := ⟨8 * 0x1008 + 0, 16, 0⟩
/-- CLK_TEMP_PEAK[15:0], RC, reset 0x0 (R494). -/
def CLK_TEMP_PEAK_PEAK : Field := ⟨8 * 0x100C + 0, 16, 0⟩
/-- CLK_VIN[31:16], RO, reset 0x0 (R494). -/
def CLK_VIN_VBAT : Field := ⟨8 * 0x1010 + 16, 16, 0⟩
/-- CLK_VIN[15:0], RO, reset 0x0 (R494). -/
def CLK_VIN_VIN : Field := ⟨8 * 0x1010 + 0, 16, 0⟩
/-- CLK_VREG[31:16], RO, reset 0x0 (R494). -/
def CLK_VREG_V10 : Field := ⟨8 * 0x1014 + 16, 16, 0⟩
/-- CLK_VREG[15:0], RO, reset 0x0 (R494). -/
def CLK_VREG_V08 : Field := ⟨8 * 0x1014 + 0, 16, 0⟩
/-- CLK_VREG2[31:16], RO, reset 0x0 (R494). -/
def CLK_VREG2_V33 : Field := ⟨8 * 0x1018 + 16, 16, 0⟩
/-- CLK_VREG2[15:0], RO, reset 0x0 (R494). -/
def CLK_VREG2_V18 : Field := ⟨8 * 0x1018 + 0, 16, 0⟩
/-- CLK_IO[7:6], RO, reset in the table: —; 0 in the store (notes/assumptions/2.md) (R494). -/
def CLK_IO_BANK_M : Field := ⟨8 * 0x101C + 6, 2, 0⟩
/-- CLK_IO[5:4], RO, reset in the table: —; 0 in the store (notes/assumptions/2.md) (R494). -/
def CLK_IO_BANK_D : Field := ⟨8 * 0x101C + 4, 2, 0⟩
/-- CLK_IO[3:2], RO, reset in the table: —; 0 in the store (notes/assumptions/2.md) (R494). -/
def CLK_IO_BANK_A : Field := ⟨8 * 0x101C + 2, 2, 0⟩
/-- CLK_IO[1:0], RO, reset in the table: —; 0 in the store (notes/assumptions/2.md) (R494). -/
def CLK_IO_BANK_G : Field := ⟨8 * 0x101C + 0, 2, 0⟩
/-- CLK_EVENT[8], W1C, reset 0x0 (R494). -/
def CLK_EVENT_SENSOR_DIFF : Field := ⟨8 * 0x1020 + 8, 1, 0⟩
/-- CLK_EVENT[7], W1C, reset 0x0 (R494). -/
def CLK_EVENT_X32_LOSS : Field := ⟨8 * 0x1020 + 7, 1, 0⟩
/-- CLK_EVENT[6], W1C, reset 0x0 (R494). -/
def CLK_EVENT_SHED_END : Field := ⟨8 * 0x1020 + 6, 1, 0⟩
/-- CLK_EVENT[5], W1C, reset 0x0 (R494). -/
def CLK_EVENT_SHED_START : Field := ⟨8 * 0x1020 + 5, 1, 0⟩
/-- CLK_EVENT[4], W1C, reset 0x0 (R494). -/
def CLK_EVENT_WARN : Field := ⟨8 * 0x1020 + 4, 1, 0⟩
/-- CLK_EVENT[3], W1C, reset 0x0 (R494). -/
def CLK_EVENT_VBAT_LOW : Field := ⟨8 * 0x1020 + 3, 1, 0⟩
/-- CLK_EVENT[2], W1C, reset 0x0 (R494). -/
def CLK_EVENT_REG_FAULT : Field := ⟨8 * 0x1020 + 2, 1, 0⟩
/-- CLK_EVENT[1], W1C, reset 0x0 (R494). -/
def CLK_EVENT_OV : Field := ⟨8 * 0x1020 + 1, 1, 0⟩
/-- CLK_EVENT[0], W1C, reset 0x0 (R494). -/
def CLK_EVENT_BROWN_OUT : Field := ⟨8 * 0x1020 + 0, 1, 0⟩
/-- CLK_REG_FAULT[3:0], W1C PRV, reset 0x0 (R494). -/
def CLK_REG_FAULT_REG : Field := ⟨8 * 0x1024 + 0, 4, 0⟩
/-- CLK_STAT[31:16], RC, reset 0x0 (R494). -/
def CLK_STAT_BROWN_OUTS : Field := ⟨8 * 0x1028 + 16, 16, 0⟩
/-- CLK_STAT[15:8], RC, reset 0x0 (R494). -/
def CLK_STAT_OV_EVENTS : Field := ⟨8 * 0x1028 + 8, 8, 0⟩
/-- CLK_STAT[7:0], RC, reset 0x0 (R494). -/
def CLK_STAT_SHEDS : Field := ⟨8 * 0x1028 + 0, 8, 0⟩
/-- CLK_SHED_TIME[31:0], RO, reset 0x0 (R494). -/
def CLK_SHED_TIME_MS : Field := ⟨8 * 0x102C + 0, 32, 0⟩

/-! ### 21_register_index.md -/

/-- TMX_SEL[8:0], RW PRV, n (R497). -/
def TMX_SEL_POINT (i : Nat) : Field := ⟨8 * (0x80010 + 0x4 * i) + 0, 9, i⟩
/-! ### The MSI-X tables (R300): function f at 0x3_B000 of PF0 BAR0, and at 0x3000 of PF1 BAR0, which the
store keeps at 0x30_0000. The vector control mask bit is 1 after reset, as PCI Express lays down
(notes/assumptions/7.md). -/

/-- First byte address of entry v of function f's MSI-X table. -/
def msixEntry (f v : Nat) : Nat := (if f = 0 then 0x3B000 else 0x303000) + 16 * v

/-- Message address of MSI-X entry v of function f. -/
def MSIX_ADDR (f v : Nat) : Field := ⟨8 * msixEntry f v, 64, 0⟩
/-- Message data of MSI-X entry v of function f. -/
def MSIX_DATA (f v : Nat) : Field := ⟨8 * msixEntry f v + 64, 32, 0⟩
/-- Mask bit of MSI-X entry v of function f. -/
def MSIX_MASK (f v : Nat) : Field := ⟨8 * msixEntry f v + 96, 1, 1⟩
/-- Pending bit of vector v in the PBA of function f (0x3_B800 of PF0, 0x3800 of PF1). -/
def MSIX_PBA (f v : Nat) : Field := ⟨8 * (if f = 0 then 0x3B800 else 0x303800) + v, 1, 0⟩

/-! ### The flow context memory (R253, Table 9.4): context f at 0x4_0000 + 128 f. -/

/-- A field of flow context f: byte offset, lowest bit, width. -/
def flowField (f off lo w : Nat) : Field := ⟨8 * (0x40000 + 128 * f + off) + lo, w, 0⟩

/-- CTRL.EN of flow context f. -/
def FCTX_EN (f : Nat) : Field := flowField f 0x00 0 1
/-- CTRL.CRIT of flow context f. -/
def FCTX_CRIT (f : Nat) : Field := flowField f 0x00 1 2
/-- CTRL.BIND of flow context f. -/
def FCTX_BIND (f : Nat) : Field := flowField f 0x00 3 2
/-- CTRL.STALE_ACT of flow context f. -/
def FCTX_STALE_ACT (f : Nat) : Field := flowField f 0x00 5 2
/-- CTRL.AUTH of flow context f. -/
def FCTX_AUTH (f : Nat) : Field := flowField f 0x00 7 2
/-- CTRL.TUBE of flow context f. -/
def FCTX_TUBE (f : Nat) : Field := flowField f 0x00 9 2
/-- CTRL.ONE_SHOT of flow context f. -/
def FCTX_ONE_SHOT (f : Nat) : Field := flowField f 0x00 11 1
/-- SRC_CH of flow context f. -/
def FCTX_SRC_CH (f : Nat) : Field := flowField f 0x04 0 8
/-- DST_CH of flow context f. -/
def FCTX_DST_CH (f : Nat) : Field := flowField f 0x05 0 8
/-- STREAM of flow context f. -/
def FCTX_STREAM (f : Nat) : Field := flowField f 0x06 0 16
/-- SRC_SEL of flow context f. -/
def FCTX_SRC_SEL (f : Nat) : Field := flowField f 0x08 0 64
/-- DST_SEL of flow context f. -/
def FCTX_DST_SEL (f : Nat) : Field := flowField f 0x10 0 64
/-- BIND_UID of flow context f. -/
def FCTX_BIND_UID (f : Nat) : Field := flowField f 0x18 0 64
/-- BIND_POS of flow context f. -/
def FCTX_BIND_POS (f : Nat) : Field := flowField f 0x20 0 16
/-- KEY_SLOT of flow context f. -/
def FCTX_KEY_SLOT (f : Nat) : Field := flowField f 0x22 0 8
/-- RATE of flow context f. -/
def FCTX_RATE (f : Nat) : Field := flowField f 0x24 0 16
/-- BURST of flow context f. -/
def FCTX_BURST (f : Nat) : Field := flowField f 0x24 16 16
/-- SAFE_VAL of flow context f. -/
def FCTX_SAFE_VAL (f : Nat) : Field := flowField f 0x28 0 128
/-- STATUS of flow context f. -/
def FCTX_STATUS (f : Nat) : Field := flowField f 0x40 0 8
/-- RES_POS of flow context f. -/
def FCTX_RES_POS (f : Nat) : Field := flowField f 0x42 0 16
/-- BUCKET of flow context f. -/
def FCTX_BUCKET (f : Nat) : Field := flowField f 0x44 0 32
/-- ITEMS of flow context f. -/
def FCTX_ITEMS (f : Nat) : Field := flowField f 0x48 0 32
/-- POL_DROP of flow context f. -/
def FCTX_POL_DROP (f : Nat) : Field := flowField f 0x4C 0 16
/-- AUTH_FAIL of flow context f. -/
def FCTX_AUTH_FAIL (f : Nat) : Field := flowField f 0x4E 0 16
/-- Origin UID of REPLAY pair i of flow context f. -/
def FCTX_REPLAY_UID (f i : Nat) : Field := flowField f (0x50 + 12 * i) 0 64
/-- Last IVCNT of REPLAY pair i of flow context f. -/
def FCTX_REPLAY_IV (f i : Nat) : Field := flowField f (0x58 + 12 * i) 0 32
/-- LAST_TIME of flow context f. -/
def FCTX_LAST_TIME (f : Nat) : Field := flowField f 0x68 0 64

/-- The fields of a context that host software writes (bytes 0x00–0x3F) other than EN, with the fields that
the node alone writes after them. -/
def flowConfigFields (f : Nat) : List Field :=
  [FCTX_CRIT f, FCTX_BIND f, FCTX_STALE_ACT f, FCTX_AUTH f, FCTX_TUBE f, FCTX_ONE_SHOT f, FCTX_SRC_CH f,
   FCTX_DST_CH f, FCTX_STREAM f, FCTX_SRC_SEL f, FCTX_DST_SEL f, FCTX_BIND_UID f, FCTX_BIND_POS f,
   FCTX_KEY_SLOT f, FCTX_RATE f, FCTX_BURST f, FCTX_SAFE_VAL f]

end Reg

end Sys2Proof.Machine
end

