-- ==== Sys2Proof/Machine/Store.lean ====
section
/-! DEFINITION. Sparse tables in one canonical form: keys strictly rising, and for the register store no
entry equal to the field's reset value.  The laws hold for every list, sorted or not. -/

namespace Sys2Proof.Machine

/-- The first entry of a key. -/
def tabFind {α : Type} (k : Nat) : List (Nat × α) → Option α
  | [] => none
  | (a, v) :: t => if a = k then some v else tabFind k t

/-- The value of a key, d where it is not listed. -/
def tabGet {α : Type} (d : α) (t : List (Nat × α)) (k : Nat) : α := (tabFind k t).getD d

/-- The table with a key set, kept in rising order. -/
def tabPut {α : Type} (k : Nat) (v : α) : List (Nat × α) → List (Nat × α)
  | [] => [(k, v)]
  | (a, w) :: t =>
    if k < a then (k, v) :: (a, w) :: t
    else if a = k then (k, v) :: t
    else (a, w) :: tabPut k v t

/-- The table without a key. -/
def tabErase {α : Type} (k : Nat) : List (Nat × α) → List (Nat × α)
  | [] => []
  | (a, w) :: t => if a = k then tabErase k t else (a, w) :: tabErase k t

/-- Keys strictly rising. -/
def tabSorted {α : Type} : List (Nat × α) → Bool
  | [] => true
  | [_] => true
  | (a, _) :: (b, w) :: t => decide (a < b) && tabSorted ((b, w) :: t)

/-- What the register store holds for a field: its listed value or its reset value, cut to its width. -/
def storeGet (f : Field) (r : List (Nat × Nat)) : Nat := tabGet f.reset r f.key % 2 ^ f.width

/-- The register store with a field set to v cut to its width; the reset value is not listed. -/
def storeSet (f : Field) (v : Nat) (r : List (Nat × Nat)) : List (Nat × Nat) :=
  if v % 2 ^ f.width = f.reset % 2 ^ f.width then tabErase f.key r
  else tabPut f.key (v % 2 ^ f.width) r

end Sys2Proof.Machine
end

