-- ==== Sys2Proof/Machine/State.lean ====
section
/-! DEFINITION. The state of the PX7480 as plain data: the register store (every field of every register
the spec gives, `Sys2Proof/Machine/Regs.lean`), the state each block holds outside its registers, the
queue of waiting commands, and the state after reset. -/

namespace Sys2Proof.Machine

/-- Global control outside its registers (chapter 02). -/
structure GlbState where
  /-- Levels on BOOTSEL2–BOOTSEL0 (R44). -/
  bootselPins : Nat := 0
  /-- Step of the BOOT sequence of Table 2.4 reached: 0 OTP read awaited, 1 self-test awaited, 2 image
  awaited, 3 configuration apply awaited, 4 waiting in TEST, DEBUG_WAIT or HOST_WAIT, 5 stopped in
  SCRAPPED (R56), 6 BOOT ended, 7 the final step of a pair member (R384). -/
  bootStep : Nat := 0
  /-- The image that BOOT verified and applies at its end. -/
  bootImage : Option Image := none
  /-- The 1 s BUSY period after an AUTH_FAIL runs (R50). -/
  authBusy : Bool := false
  /-- Commands in progress: block base, code, argument, and GLB_CMD_STATUS.SEQ of the report that shows
  PENDING; none for a command that came by a CMD descriptor. -/
  running : List (Nat × Nat × Nat × Option Nat) := []
  /-- Elapsed times of the last entries into SAFE by escalation or tamper (R42). -/
  safeEntries : List Nat := []
  /-- The unique ID that a MAKER node uses on the train, taken at the end of BOOT (R501). -/
  makerUid : Nat := 0
  /-- RESET_N is held low, or the supplies are not up. -/
  held : Bool := false
  /-- PE_PERST_N is low (R484). -/
  perst : Bool := false
  /-- How the node came into this BOOT, for the GPIO states of R485: 0 power-on or RESET_N, 1 RESTART,
  brown-out or legacy soft reset, 2 wake boot. -/
  bootKind : Nat := 0
  /-- Uptime (ns) at the start of the last BOOT. -/
  bootFrom : Nat := 0
  /-- The BOOT in progress follows a brown-out (CLK_EVENT.BROWN_OUT). -/
  afterBrownOut : Bool := false
  /-- A private test instruction or scan shift is in progress in TEST (R57). -/
  scanShift : Bool := false
  /-- Port states that test instructions have set in TEST: (line port, transceiver state) (R67). -/
  testPorts : List (Nat × Nat) := []
  deriving DecidableEq, Repr

/-- One-time-programmable storage: programmed cells of the four life-cycle fields (R51), the UID and the
device root (R52). -/
structure OtpState where
  pers : Nat := 0
  field : Nat := 0
  ret : Nat := 0
  scrap : Nat := 0
  uid : Nat := 0
  root : Nat := 0
  deriving DecidableEq, Repr

/-- The MRAM: what survives a power loss, outside the recorder's positions. -/
structure MramState where
  /-- Topology counter (R108). -/
  topo : Nat := 0
  /-- CYC_KEY_AGE (R142). -/
  keyAge : Nat := 0
  /-- IVCNT reservation (R261). -/
  ivReserved : Nat := 0
  /-- The two image banks (R48). -/
  bank0 : Option Image := none
  bank1 : Option Image := none
  /-- MRAM copy of TAMPERED (R453). -/
  tampered : Bool := false
  /-- Clear-pending word of the recorder, with the ARG of the CLEAR (R438). -/
  clearPending : Option Nat := none
  /-- Next SEQ (R427). -/
  nextSeq : Nat := 0
  /-- REC_CLR_CNT (R438). -/
  clrCnt : Nat := 0
  /-- Recorder positions that hold anything (R423). -/
  cells : Tab RecCell := []
  /-- Key banks that are not all zero: key 2 × slot + bank (R441). -/
  banks : Tab KeyBank := []
  /-- Write protection after a brown-out (Table 20.2). -/
  wp : Bool := false
  deriving DecidableEq, Repr

/-- Recorder outside its registers and MRAM (chapter 17). -/
structure RecState where
  /-- Ingress queue, oldest first (R429). -/
  queue : List RecEvent := []
  /-- The event in writing, and whether it is its second attempt (R431, R432). -/
  writing : Option (RecEvent × Bool) := none
  /-- Pending LOST counts, class 0 first (R430). -/
  lost : List Nat := [0, 0, 0, 0, 0, 0, 0, 0]
  /-- Uptimes of the first and last refusal since the last LOST record. -/
  lostFirst : Nat := 0
  lostLast : Nat := 0
  /-- Train time of the last record written since BOOT, seconds and nanoseconds (FLAGS.STEP_BACK). -/
  lastTime : Option (Nat × Nat) := none
  /-- An event was refused in this step: source 53 asserts at its end (R430). -/
  overflow : Bool := false
  /-- From a brown-out only BROWN_OUT is accepted (R479). -/
  onlyBrownOut : Bool := false
  /-- A clear in progress: ARG, key slot, path of its report (R438). -/
  clearing : Option (Nat × Nat) := none
  deriving DecidableEq, Repr

/-- A limit on how often one kind of record is written: what it is for, when one was last written, and
how many were suppressed since (R36, R75, R158, R196, R211, R230, R234, R415). -/
structure RateLimit where
  code : Nat
  a : Nat
  b : Nat
  last : Nat
  suppressed : Nat
  deriving DecidableEq, Repr

/-- Fault collector outside its registers (chapter 16). -/
structure FltState where
  /-- Error lines asserted now. -/
  lines : Nat := 0
  /-- Running reaction timers: source and local uptime of expiry (R409). -/
  timers : List (Nat × Nat) := []
  /-- Escalation that falls at the end of this step: source, severity, CAUSE. -/
  escalate : Option (Nat × Nat × Nat) := none
  /-- A heartbeat of the MAINT slices since the last ALIVE edge (R416). -/
  heartbeat : Bool := true
  /-- Sources newly latched in this step, for the FAULT event. -/
  fresh : Nat := 0
  deriving DecidableEq, Repr

/-- One host ring outside its registers (chapter 11). Rings 0–63 transmit, 64–127 receive, 128–131
event. -/
structure RingState where
  /-- Descriptors fetched and not yet completed, oldest first. -/
  fetched : List Descriptor := []
  /-- Producer index read at the last poll; for an event ring EV_CI. -/
  pi : Nat := 0
  /-- Index of the next descriptor to fetch. -/
  fetchIdx : Nat := 0
  /-- Event entries that wait for space, oldest first (R317). -/
  waiting : List Bytes := []
  /-- Event entries lost and not yet reported. -/
  evLost : Nat := 0
  /-- SEQ of the next event entry (R315). -/
  evSeq : Nat := 0
  /-- Completions not yet signalled, and the uptime of the first (R318). -/
  unsignalled : Nat := 0
  firstUnsignalled : Nat := 0
  /-- Items dropped since the last RX_DROP event, and the uptime of that event (R314). -/
  drops : Nat := 0
  lastDropEvent : Option Nat := none
  /-- Fetched descriptors at the front that a link event has cut off: processed, but no completion is
  written for them (Table 11.3). -/
  silent : Nat := 0
  deriving DecidableEq, Repr

/-- Host interface outside its registers (chapter 11). -/
structure HrgState where
  rings : Tab RingState := []
  /-- Writes and messages of a function that wait for Bus Master Enable or D0 (Table 11.3). -/
  held : List (Nat × Emit) := []
  /-- Consecutive failed doorbell reads per group (R309). -/
  dbFails : List Nat := [0, 0, 0, 0]
  /-- Doorbell fetch in progress per group: rings with descriptors read and not yet ready. -/
  fetching : List (Option (List (Nat × List (Option Descriptor)))) := [none, none, none, none]
  /-- Functions in D3hot: PF0, PF1. -/
  d3 : List Bool := [false, false]
  /-- Link training may start: the training instant of Table 2.4 has passed. -/
  trained : Bool := false
  deriving DecidableEq, Repr

/-- Train time unit outside its registers (chapter 06). Times are in 2⁻¹⁶ ns. -/
structure TimState where
  /-- (TT0, u0), the last correction point. -/
  tt0 : Int := 0
  u0 : Int := 0
  /-- Rate ratio k as a fraction. -/
  kNum : Int := 1
  kDen : Nat := 1
  /-- Slew in progress: amount, start on uptime, duration. -/
  slew : Int := 0
  slewFrom : Int := 0
  slewLen : Nat := 0
  /-- Samples held of line A and of line B, newest first: (S, t_rx), at most 17 each (R169). -/
  histA : List (Int × Int) := []
  histB : List (Int × Int) := []
  /-- Samples of the present frame: line A, line B, with the TIME_VALID of their header (R167). -/
  sampleA : Option (Int × Int × Bool) := none
  sampleB : Option (Int × Int × Bool) := none
  /-- A sample has ever been usable (Table 6.1). -/
  everUsable : Bool := false
  /-- Consecutive samples with |e| < 100 ns in ACQUIRE. -/
  goodSamples : Nat := 0
  /-- MASTER has been held in an unbroken line from LOCKED (R172). -/
  masterFromLocked : Bool := false
  /-- ACQUIRE was entered from FREE or HOLDOVER and has not jumped yet. -/
  firstJump : Bool := true
  /-- Epochs since the last commit, at most 16 (R174). -/
  epochs : Nat := 0
  /-- STEP waiting for its basic-cycle instant: V, and the uptime (ns) at which it was accepted. -/
  step : Option (Int × Nat) := none
  /-- Local uptime of entry into HOLDOVER, ns. -/
  holdFrom : Nat := 0
  /-- PPS_IN edges held, newest first, at most 17: (nominal second in 2⁻¹⁶ ns, t). -/
  ppsEdges : List (Int × Int) := []
  /-- PPS_OUT level, and the uptime of its last rising edge, ns. -/
  ppsOut : Bool := false
  ppsLast : Option Nat := none
  deriving DecidableEq, Repr

/-- Redundant pair and referee outside their registers (chapter 14). -/
structure PairState where
  /-- Level on INTERLOCK_N driven by the partner: true = low. -/
  partnerLow : Bool := false
  /-- This member drives INTERLOCK_N low. -/
  driving : Bool := false
  /-- A REF_SW level has been taken under R374 since BOOT, and the uptime (ns) at which REF_SW changed to it. -/
  taken : Bool := false
  swAt : Nat := 0
  /-- The last SYNC was valid with ADOPT = 0, and REF_CLK runs (R374). -/
  syncOk : Bool := false
  /-- Consecutive SYNCs missing or invalid. -/
  syncMissed : Nat := 0
  /-- Reports sent (RPT_SEQ), and the report as the last calibration epoch formed it (R373). -/
  rptSeq : Nat := 0
  formed : Option Report := none
  /-- Receive checks of the last basic cycle (R383). -/
  rxChecks : Nat := 0
  /-- Referee: the reports of the last frame, none where missing or invalid. -/
  rpt0 : Option Report := none
  rpt1 : Option Report := none
  /-- Referee frame counter, and ADOPT frames still to send (R377). -/
  frame : Nat := 0
  adoptLeft : Nat := 2
  /-- The ALIVE watch of each member has run out (R375); a criterion holds against each member (R376). -/
  aliveStopped0 : Bool := false
  aliveStopped1 : Bool := false
  lost0 : Bool := false
  lost1 : Bool := false
  /-- The decision that selected this member fell while it was not SYNCED: variant B (R380). -/
  decidedB : Bool := false
  /-- Variant B (R380): arrival number of the first item after the decision, flows that are fresh, outputs
  that have taken a fresh flow's value, and whether cycle k_D + 7 has ended. -/
  freshFrom : Nat := 0
  freshFlows : List Nat := []
  outputsFresh : Nat := 0
  variantBOver : Bool := true
  deriving DecidableEq, Repr

/-- Sleep and wake outside their registers (chapter 15). -/
structure SlpState where
  /-- Head: the CALL or COMMIT that leaves in its next window, with the CODE of the COMMIT (R393, R395, R401). -/
  callDue : Bool := false
  commitDue : Option Nat := none
  /-- Head: the cycle k in whose window the CALL was sent, and the votes received: (position, yes) (R393). -/
  voting : Option Nat := none
  votes : List (Nat × Bool) := []
  /-- Head: COMMITs still to send, and the CODE of the commit in force. -/
  commitsLeft : Nat := 0
  commitCode : Nat := 0
  /-- SLEEP frames that leave in the next window: KIND, CODE. -/
  sendNext : List (Nat × Nat) := []
  /-- Wake sources latched since the detectors were armed (R395), bits as SLP_WAKE_SRC; bit 22: STK_IN (R395, R470). -/
  latched : Nat := 0
  /-- Sleep entry has completed (R396). -/
  entered : Bool := false
  /-- Ends whose not-linked trigger is suppressed after a wake boot (R400). -/
  holdEnd1 : Bool := false
  holdEnd2 : Bool := false
  /-- The false-wake timer runs, and has passed its first expiry (R401). -/
  fwRunning : Bool := false
  fwExpired : Bool := false
  /-- Elapsed time (ns) at which the always-on domain last got power (SLP_AON_TIME). -/
  aonFrom : Nat := 0
  deriving DecidableEq, Repr

/-- Key vault outside its registers (chapter 18). -/
structure KeyState where
  /-- WRITE or ERASE in progress: slot, purpose (none: ERASE), key, bank. -/
  op : Option (Nat × Option Nat × Nat × Nat) := none
  /-- LC_RETURN or LC_SCRAP programming in progress: code. -/
  program : Option Nat := none
  /-- Tamper sources live now, bits as KEY_TAMPER_STATUS.LIVE. -/
  live : Nat := 0
  /-- TAMPERED in the always-on domain (R453). -/
  tamperedAon : Bool := false
  /-- An alarm not yet recorded: sources, mode byte (R454). -/
  deferred : Option (Nat × Nat) := none
  /-- Switch pending: FRAME, FLOW (R449). -/
  switchFrame : Bool := false
  switchFlow : Bool := false
  deriving DecidableEq, Repr

/-- Supplies, clocks and thermal governor outside their registers (chapter 20). -/
structure PwrState where
  /-- The input switch is open (R473). -/
  switchOpen : Bool := false
  /-- The always-on regulator is fed from VBAT (R477). -/
  onVbat : Bool := false
  /-- A brown-out is latched, and the 10 ms wait that ends it has not passed (R478). -/
  brownOut : Bool := false
  /-- The regulators run. -/
  regulators : Bool := true
  /-- The always-on domain has power. -/
  aon : Bool := true
  /-- From a brown-out until power-on the tamper logic ignores the lower limit of the voltage window (R480). -/
  windowMasked : Bool := false
  /-- Measurements, 100 µs each, in shedding since the end of the last BOOT (CLK_SHED_TIME). -/
  shedTicks : Nat := 0
  deriving DecidableEq, Repr

/-- Pins and drivers of the node as its mode sets them (Tables 3.6 and 8.1, R46, R210, R266, R370, R461,
R485). `refreshPins` computes them at the end of every step. -/
structure Pins where
  /-- ALIVE level. -/
  alive : Bool := false
  /-- Line transmitters on: bit p. -/
  lineTx : Nat := 0
  /-- Consist drivers on: bit n. -/
  consistTx : Nat := 0
  /-- CAN channels that may drive TXD dominant: bit n; and CANn_STB levels. -/
  canTx : Nat := 0
  canStb : Nat := 0xFFF
  /-- GPIO pins driven, and the levels driven. -/
  gpioDrive : Nat := 0
  gpioLevel : Nat := 0
  /-- The stack bypass is closed. -/
  bypass : Bool := true
  /-- TMUX0–TMUX7 are test outputs (Table 0.2). -/
  tmux : Bool := false
  /-- GH_IRQ_N is low (R330). -/
  ghIrq : Bool := false
  deriving DecidableEq, Repr

/-- Register access latches (R19, R499, R183). -/
structure Latches where
  /-- Pending lower words: requester, byte address of the register, lower word. -/
  lower : List (Requester × Nat × Nat) := []
  /-- Upper words latched by a read of the lower word: requester, address, upper word. -/
  upper : List (Requester × Nat × Nat) := []
  /-- Words of wide registers latched by a read of word 0: address, words not yet read. -/
  wide : List (Nat × List (Nat × Nat)) := []
  deriving DecidableEq, Repr

/-- One line port outside its registers (chapter 03). Delays in 2⁻¹⁰ ns, times in 2⁻¹⁶ ns. -/
structure LinePort where
  /-- Shadow equalizer set (R76): CTLE setting and five taps. -/
  shCtle : Nat := 8
  shTaps : List Int := [0, 0, 0, 0, 0]
  /-- Shadow updates since a tap last moved by more than one step, at most 1,024 (R65). -/
  steady : Nat := 0
  /-- Uptimes of the last code errors, newest first, at most 16 (R64). -/
  codeErrs : List Nat := []
  /-- ACQUIRE sweep: setting on trial, best setting and its eye margin (R64). -/
  sweep : Nat := 0
  sweepDone : Bool := false
  best : Nat := 0
  bestEye : Nat := 0
  /-- Uptime (ns) of the last entry into UP. -/
  upAt : Nat := 0
  /-- CAL_LOCK has been recorded since the last entry into UP. -/
  lockRecorded : Bool := false
  /-- Transceiver in fail-safe SLEEP (R69). -/
  failSafe : Bool := false

  /-- Conditions of Table 3.7 and Table 3.8 live now, as bits of LN_FAULT. -/
  live : Nat := 0
  /-- Echo result held for the next epoch: distance (0.1 m), ρ (1/128) (R82). -/
  echo : Option (Nat × Int) := none
  /-- Hop-delay samples under the present counter, 2⁻¹⁶ ns, newest first, at most 16 (R79). -/
  samples : List Int := []
  /-- The average ready for the next epoch: delay, VALID, samples. -/
  ready : Option (Nat × Bool × Nat) := none
  /-- LN_ASYM in force since the last epoch (R85). -/
  asym : Int := 0
  /-- The delay register holds a value, VALID or not (R170). -/
  held : Bool := false
  /-- Link left UP since VALID was last set (R81). -/
  leftUp : Bool := false
  /-- LN_DELAY_BASE has been loaded since power-on (R84). -/
  baseLoaded : Bool := false
  /-- Timestamps of the present frame: outbound sent (t1) or received (t2), inbound received (t4). -/
  t1 : Option Int := none
  t2 : Option Int := none
  t4 : Option Int := none
  /-- A /D/ is due after the next outbound /T/; an /H/ is due now (R79, R78). -/
  noticeDue : Bool := false
  /-- A receive-path change waits for the end of a frame in reception (R86). -/
  deferred : Bool := false
  /-- A HELLO has been received since the last entry into UP (R96). -/
  helloSeen : Bool := false
  deriving DecidableEq, Repr

/-- What one topology fixes at the node: counter, position, N, orientation, role, KEPT_LEN, ends linked. -/
structure Topology where
  counter : Nat := 0
  hash : Nat := 0
  pos : Nat := 0
  n : Nat := 0
  orient : Nat := 0
  role : Nat := 0
  kept : Nat := 0
  linked1 : Bool := false
  linked2 : Bool := false
  deriving DecidableEq, Repr

/-- A claim in the order of R92. -/
structure Claim where
  cab : Bool
  prio : Nat
  uptime : Nat
  uid : Nat
  deriving DecidableEq, Repr

/-- Inauguration unit outside its registers (chapter 04). -/
structure InaState where
  attempt : Nat := 0
  /-- Best claim of the run (R103). -/
  best : Option Claim := none
  /-- The node has relayed, returned or sent a DISC it did not discard (R107). -/
  mark : Bool := false
  /-- A restart waits for its 1.0 ms, or while FAILED is set its 100 ms (R107, R109). -/
  restartWait : Bool := false
  /-- The head has applied and sent its COMMIT, and waits for DONE. -/
  committed : Bool := false
  /-- Consecutive restarts without a commit (R109). -/
  restarts : Nat := 0
  /-- Uptime (ns) of the first trigger of the run (R116). -/
  firstTrigger : Option Nat := none
  /-- The DISC values of the present run at this node: position, prefix hash, orientation, entry end,
  and the values of the legacy positions of its block (R358). -/
  runPos : Nat := 0
  runHash : Nat := 0
  runOrient : Nat := 0
  runEnd : Nat := 0
  runBlock : List (Nat × Nat × Nat × Nat) := []
  /-- The RET relayed or received (R105). -/
  ret : Option InaFrame := none
  /-- Values stored at the last commit (R108): valid, position, prefix hash, orientation, upstream UID. -/
  lastValid : Bool := false
  lastPos : Nat := 0
  lastHash : Nat := 0
  lastOrient : Nat := 0
  lastUp : Nat := 0
  /-- UID in the last HELLO of each end. -/
  nbr1 : Nat := 0
  nbr2 : Nat := 0
  /-- Ends linked, as last seen, and ends whose DOWN_HOLD runs (R95). -/
  linked1 : Bool := false
  linked2 : Bool := false
  hold1 : Bool := false
  hold2 : Bool := false
  /-- A HELLO is awaited from an end that came back (R95). -/
  fresh1 : Bool := false
  fresh2 : Bool := false
  /-- Last inauguration frame acted on per end: line and frame (R98). -/
  seen1 : Option (Nat × InaFrame) := none
  seen2 : Option (Nat × InaFrame) := none
  /-- Topology of the last commit, and of the one before it (R110, R115, R137). -/
  topo : Topology := {}
  prev : Topology := {}
  /-- Uptime (ns) at the end of the last full BOOT (INA_UPTIME). -/
  upFrom : Nat := 0
  /-- Legacy count of the block at the last commit, and the values stored for its legacy positions 1 to L:
  position, prefix hash, orientation, upstream UID (R358). -/
  blockL : Nat := 0
  lastBlock : List (Nat × Nat × Nat × Nat) := []
  /-- HOPDLY values that wait for the next epoch: entry, delay, valid. -/
  hopPending : List (Nat × Nat × Bool) := []
  /-- UID table: position, vehicle UID (R256). -/
  uids : Tab Nat := []
  deriving DecidableEq, Repr

/-- A slot map: MAP_SEQ, EFF_CYCLE, sizes of positions 1 to N in 16-byte units. -/
structure SlotMap where
  seq : Nat
  eff : Nat
  sizes : List Nat
  deriving DecidableEq, Repr

/-- Cycle-frame unit outside its registers (chapter 05). -/
structure CycState where
  /-- The map in force, and the maps held under the present counter (R129, R133). -/
  map : SlotMap := ⟨0, 0, []⟩
  held : List SlotMap := []
  /-- The map in force before the last commit, for frames of GRACE (R137). -/
  prevMap : SlotMap := ⟨0, 0, []⟩
  /-- CYCLE of the last frame whose calibration epoch has passed (R168). -/
  epochOf : Option Nat := none
  /-- Head: declarations by position, latest map issued, whether any was issued, windows since the commit. -/
  decls : Tab Nat := []
  latest : SlotMap := ⟨0, 0, []⟩
  issued : Bool := false
  windows : Nat := 0
  /-- Head: a declaration differs from the latest map. -/
  differs : Bool := false
  /-- Own SLOT_DECL is due; a map has given the declared size (R130). -/
  declDue : Bool := false
  declOpen : Bool := false
  /-- Publication image, its commit count, and whether it is complete (R25, R127, R380). -/
  pub : Bytes := []
  pubSeq : Nat := 0
  degraded : Bool := false
  /-- The image latched for the present frame: CYCLE, image, PUB_SEQ, AREA_FLAGS (R139). -/
  latched : Option (Nat × Bytes × Nat × Nat) := none
  /-- Receive image: area of each position (R145). -/
  rx : Tab Bytes := []
  /-- Positions committed in the present frame, positions refreshed since the last epoch. -/
  done : List Nat := []
  refreshed : List Nat := []
  /-- Freshness counters F[q] (R148). -/
  fresh : Tab Nat := []
  /-- Copies of the present frame whose trailer was checked, and those that verified. -/
  copies : Nat := 0
  verified : Nat := 0
  /-- Lines whose inbound copy of the present frame has ended, and lines that do not carry it (R85). -/
  inbound : Nat := 0
  notCarried : Nat := 0
  /-- Earlier arrival of the outbound header of the present frame, in train time (R149). -/
  hdrAt : Option Int := none
  /-- No header for two basic cycles: the window stays open (R150). -/
  headerLost : Bool := true
  /-- The head's CYCLE of the next frame (R125). -/
  nextCycle : Nat := 0
  /-- CRC-32 of the copies received per port (R383). -/
  crcs : Tab Nat := []
  deriving DecidableEq, Repr

/-- A frame in an output queue: the frame, whether it is of the node's own origin, and
whose it is: none in transit or control, some flow, some (1,024 + window) bridge. -/
structure Queued where
  frame : MsgFrame
  own : Bool
  owner : Option Nat
  /-- The text that an own authenticated frame protects, for forming it afresh (R157, R451). -/
  text : Option Bytes := none
  deriving DecidableEq, Repr

/-- A record of the duplicate filter (R155). -/
structure DupRecord where
  src : Nat
  prio : Nat
  high : Nat
  bitmap : Nat
  deriving DecidableEq, Repr

/-- Message switch outside its registers (chapter 05). -/
structure MsgState where
  /-- Output queues: key 8 × port + class, oldest first (R156). -/
  queues : Tab (List Queued) := []
  dups : List DupRecord := []
  /-- Token buckets in bytes: key 8 × port + class; an unlisted bucket is full (R158). -/
  buckets : Tab Nat := []
  /-- Discards in the present epoch and in how many epochs in a row: key 8 × port + class. -/
  discarded : List Nat := []
  runs : Tab Nat := []
  /-- Next SEQ per class (Table 5.4). -/
  seqs : Tab Nat := []
  /-- Ports whose window is open, and its close instant in train time; none: no close time (R149, R150). -/
  open_ : Nat := 0
  close : Option Int := none
  openedAt : Int := 0
  /-- The cycle's window has closed at the node. -/
  closed : Bool := false
  /-- Frame in transmission per port, and the uptime (ns) at which the port is free again. -/
  sending : Tab (Queued × Nat) := []
  /-- The MSG_ configuration fields in force, as an epoch last took them from the registers (R160). -/
  cfg : List (Nat × Nat) := []
  /-- Own frames of flows that wait for their UID to be resolved (R114, R157). -/
  returned : List Queued := []
  /-- Control and bridge frames delivered to this node that wait for their step. -/
  inbox : List MsgFrame := []
  deriving DecidableEq, Repr

/-- An entry of a CAN transmit queue (R224): element, the flow that placed it, the ring and TAG to which a
REPORT goes, age, and what has happened to it. -/
structure CanEntry where
  element : Bytes
  flow : Nat
  report : Option (Nat × Nat)
  order : Nat
  /-- A cancel has arrived while in transmission (R228). -/
  cancelled : Bool := false
  /-- Occurrences of its arbitrating window used (Table 8.7). -/
  tries : Nat := 0
  /-- Offered in the present window occurrence, waiting for its start (R236). -/
  offered : Bool := false
  deriving DecidableEq, Repr

/-- One CAN channel outside its registers (chapter 08). -/
structure CanChannel where
  /-- Pending entries, oldest first. -/
  entries : List CanEntry := []
  nextOrder : Nat := 0
  /-- Order number of the entry in transmission, and uptime at its SOF. -/
  sending : Option Nat := none
  sofAt : Nat := 0
  /-- Order number of the pinned entry (R231). -/
  pinned : Option Nat := none
  /-- Receive queues: elements with their arrival numbers, oldest first. -/
  rxq0 : List (Nat × Bytes) := []
  rxq1 : List (Nat × Bytes) := []
  /-- Attempts in a row with the loop mismatch; received frames in a row that ended in a form or stuff
  error (Table 8.6). -/
  loops : Nat := 0
  swaps : Nat := 0
  /-- STOP waits for the end of the transmission in progress. -/
  stopping : Bool := false
  /-- A protocol exception, or the first wait after START: 11 recessive bits are awaited (R216). -/
  waitIdle : Bool := false
  /-- The channel is in listen-only under Table 8.1, not by CANn_CFG (R215). -/
  forced : Bool := false
  /-- The reference message of this node is in transmission (R238). -/
  sendingRef : Bool := false
  /-- A reference has been received or sent since START (R239). -/
  refSeen : Bool := false
  /-- Local uptime (ns) of the last sync mark (R235). -/
  syncAt : Nat := 0
  deriving DecidableEq, Repr

/-- One consist port outside its registers (chapter 07). -/
structure CstPort where
  /-- Violations in a row without a correctly timed frame between them (R196). -/
  violations : Nat := 0
  /-- Uptimes of the last out-of-sync events, newest first (R197). -/
  oos : List Nat := []
  /-- Uptimes of the last code errors, newest first, at most 16 (R188). -/
  codeErrs : List Nat := []
  deriving DecidableEq, Repr

/-- A deviation of a valid frame: sender, deviation in ns, static, REF (R200). -/
structure Deviation where
  sender : Nat
  dev : Int
  static_ : Bool
  isRef : Bool
  deriving DecidableEq, Repr

/-- The counting of dynamic IDs in one consist cycle (R195): ID and its start, ns from the start of the
segment; `dead`: an unreadable header has been seen. -/
structure DynCount where
  id : Nat := 1
  t : Int := 0
  dead : Bool := false
  deriving DecidableEq, Repr

/-- The consist network outside its registers (chapter 07). Times in ns of local uptime. -/
structure CstState where
  ports : Tab CstPort := []
  /-- Start of the present cycle on the node's grid, and on the guardian's; the guardian's counter. -/
  start : Int := 0
  gStart : Int := 0
  gCycle : Nat := 0
  /-- Deviations of this cycle and of the last, of the controller and of the guardian. -/
  devs : List Deviation := []
  lastDevs : List Deviation := []
  gDevs : List Deviation := []
  gLastDevs : List Deviation := []
  /-- Corrections computed at the NIT, applied before the next cycle starts. -/
  nitOffset : Int := 0
  gNitOffset : Int := 0
  /-- Own action points are moved by this much for the rest of the cycle (R203). -/
  shift : Int := 0
  dyn : DynCount := {}
  gDyn : DynCount := {}
  /-- COLD frames still to send (Table 7.4). -/
  coldLeft : Nat := 0
  /-- INTEGRATE: a full cycle is under observation, valid frames seen in it, a mismatch seen (R209). -/
  fullCycle : Bool := false
  validSeen : Bool := false
  mismatch : Bool := false
  /-- Cycles in a row without a valid frame of another sender; one was received since ACTIVE (R206). -/
  silent : Nat := 0
  heardSinceActive : Bool := false
  heardThisCycle : Bool := false
  /-- Per FRAME_ID the payload last sent, and the contents committed since with their uptimes, newest first
  (R198). -/
  tx : Tab (Bytes × List (Bytes × Nat)) := []
  /-- Owned cycles of each static slot without a valid frame with new data (R199). -/
  missed : Tab Nat := []
  /-- The guardian's accumulated rate correction, 0.01 ppm (R201). -/
  gRate : Int := 0
  /-- Guardian: port locked on in STARTUP (8: the star's own), port whose frame is forwarded with its
  FRAME_ID, COLD frames forwarded in this cycle (R207). -/
  locked : Option Nat := none
  forwarding : Option (Nat × Nat) := none
  coldThisCycle : Bool := false
  /-- The ports blanked, with the guardian cycles left (R196). -/
  blanked : Tab Nat := []
  deriving DecidableEq, Repr

/-- An item of the flow engine: channel code it came from, selector (transmit ring, FRAME_ID, position,
stack position, CAN queue), content, the header of a consist frame, the message frame it came in, the ring and TAG of a REPORT, the
TUBE_KIND of a host item, and its arrival number. -/
structure Item where
  ch : Nat
  sel : Nat
  data : Bytes
  head : Bytes := []
  frame : Option MsgFrame := none
  report : Option (Nat × Nat) := none
  tubeKind : Nat := 4
  arrival : Nat := 0
  deriving DecidableEq, Repr

/-- The flow engine outside its registers (chapter 09). -/
structure FlwState where
  /-- Ingress queues by channel code, oldest first (R251). -/
  ingress : Tab (List Item) := []
  /-- Arrival number of the next item. -/
  arrivals : Nat := 0
  /-- Per channel code: the item in work and the flows it has still to be handed to (R248). -/
  work : Tab (Item × List Nat) := []
  /-- SLICE_APPLY was accepted: the shadow table is copied at the next wheel start (R249). -/
  applyDue : Bool := false
  /-- Previous sample of the GPIO pins (R265), and slices in a row in which a driven pin differed from its
  latch (Table 16.3). -/
  gpioLast : Nat := 0
  gpioBad : Nat := 0
  /-- GPIO pins held through BOOT: driven, level (R485). -/
  gpioBoot : Nat × Nat := (0, 0)
  /-- Failures in a row of the in-service test, by channel code (R419). -/
  testFails : Tab Nat := []
  /-- Last items of consist-sourced and stack-sourced flows, by flow (R258, R467). -/
  last : Tab Item := []
  /-- IVCNT is exhausted (R261). -/
  ivDone : Bool := false
  deriving DecidableEq, Repr

/-- A bridge request of this node: requester (0 to 7 access ports, 8 + r transmit ring r), window, BSEQ,
TAG, OP, LOCK, UNLOCK, IN_LOCK, width in bytes, offset, address, data in address order, refusals, copies
of its frame not yet sent or discarded and whether one was sent, counter under which it was issued. -/
structure BrgReq where
  who : Nat
  win : Nat
  bseq : Nat
  tag : Nat
  op : Nat
  lock : Bool := false
  unlock : Bool := false
  inLock : Bool := false
  width : Nat := 4
  offset : Nat := 0
  addr : Nat := 0
  data : Nat := 0
  tries : Nat := 0
  left : Nat := 0
  sent : Bool := false
  topo : Nat := 0
  deriving DecidableEq, Repr

/-- Order state of one origin and window at the target (R278). -/
structure BrgOrder where
  origin : Nat
  win : Nat
  last : Nat
  /-- Order of last use, for the least recently used. -/
  used : Nat := 0
  deriving DecidableEq, Repr

/-- A request in the target's hold store: origin, window, class, frame, and whether it waits for a BSEQ gap
or for the end of a lock. -/
structure BrgHeld where
  frame : MsgFrame
  gap : Bool
  deriving DecidableEq, Repr

/-- The far-window bridge outside its registers (chapter 10). -/
structure BrgState where
  /-- Reads and lock requests without a final status. -/
  reads : List BrgReq := []
  /-- The posted store, oldest first, and writes that wait for an entry of it. -/
  posted : List BrgReq := []
  waiting : List BrgReq := []
  /-- Access ports with arrived, uncollected data: port, data, RSE, whether the read opened a lock. -/
  arrived : Tab (Nat × Nat × Bool) := []
  /-- Window of the outgoing lock (BRG_STATUS.LOCK_OUT not 0). -/
  lockWin : Nat := 0
  /-- Requests of RESOLVING windows, which wait for the window (R292), oldest first. -/
  parked : List BrgReq := []
  /-- Requester of each posted write of a ring: key 65,536 × window + BSEQ (R316). -/
  sources : Tab Nat := []
  /-- Target: order states, hold store, the request that was granted the lock with the uptime of its grant,
  origins refused (address, window, class), oldest first. -/
  orders : List BrgOrder := []
  held : List BrgHeld := []
  lock : Option (MsgFrame × Nat) := none
  refused : List (Nat × Nat × Nat) := []
  uses : Nat := 0
  deriving DecidableEq, Repr

/-- The stack ring outside its registers (chapter 19). -/
structure StkState where
  /-- BYPASS is in force (R471). -/
  bypass : Bool := false
  /-- Master: beacon count, the last beacon has not yet returned, beacons missing in a row, the next beacon carries
  EPOCH, uptime (ns) at which the last one left. -/
  count : Nat := 0
  outstanding : Bool := false
  missing : Nat := 0
  epochDue : Bool := false
  sentAt : Nat := 0
  deriving DecidableEq, Repr
/-- An entry of the legacy event log (R340): CODE, PARAM, TMR at the event, data. -/
structure LegacyEntry where
  code : Nat
  param : Nat
  tmr : Nat
  data : Nat
  deriving DecidableEq, Repr

/-- GTN mode's host view outside its registers (chapter 12). -/
structure GtnState where
  /-- Mailbox RAM (R331): word address and value of every word that is not 0, in rising order. -/
  ram : List (Nat × Nat) := []
  /-- Latched by a read of a more significant word: register, word returned, less significant word (R324). -/
  latched : Tab (Nat × Nat) := []
  /-- More significant words held by writes, by register (R324). -/
  upper : Tab Nat := []
  /-- A strobe held not ready since RESET_N: write, word address, value (R326). -/
  strobe : Option (Bool × Nat × Nat) := none
  /-- Legacy event log, index 0 first (R340). -/
  log : List LegacyEntry := []
  /-- GH_IRQ_N is released after an acknowledging read (R330). -/
  irqReleased : Bool := false
  /-- Uptime (ns) at the end of BOOT, from which TMR counts. -/
  tmrFrom : Nat := 0
  /-- Last copies of PD_SRC mailboxes, by mailbox (Table 12.9). -/
  copies : Tab Bytes := []
  /-- Telegrams held for PD_SINK mailboxes, and whether one was replaced (Table 12.9). -/
  sinks : Tab (Telegram × Bool) := []
  /-- MSG_TX mailboxes that the node owns, in the order of their handover (R354). -/
  msgOrder : List Nat := []
  /-- PD_SINK mailboxes served in this period; the own telegram has been sent in it (R353, PD_LATE). -/
  sinkSeen : List Nat := []
  ownSent : Bool := false
  /-- Mailbox that each legacy CAN channel attempts until it succeeds (R339). -/
  canCur : Tab Nat := []
  /-- The BOOT in progress follows a legacy soft reset. -/
  softReset : Bool := false
  deriving DecidableEq, Repr

/-- A vehicle that the G-line master has named: position, end, VID, source ports (R350, R351). -/
structure GMember where
  pos : Nat
  side : Nat
  vid : Nat
  ports : List Nat
  deriving DecidableEq, Repr

/-- What a G-line node waits for an answer to (R347): a NAME offered at an end (position, or 32 for a probe),
a PD_POLL (position, port), a MSG_POLL, or its own MSG. -/
inductive GWait where
  | name (side pos : Nat) (second : Bool)
  | pd (pos port : Nat)
  | msgPoll (pos : Nat)
  | ack (pos : Nat)
  deriving DecidableEq, Repr

/-- A telegram the border node queues for its own turn (R361): destination, VID, telegram, attempts. -/
structure GQueued where
  dest : Nat
  vid : Nat
  telegram : Telegram
  attempts : Nat := 0
  deriving DecidableEq, Repr

/-- The G-line outside its registers (chapter 13). -/
structure GlnState where
  /-- The node holds a legacy position; it repeats telegrams (R344). -/
  named : Bool := false
  pos : Nat := 0
  repeating : Bool := false
  /-- Contest for master (R349): 0 none, 1 backing off, 2 CLAIM sent, 3 master; which slice of VID the
  backoff takes. -/
  stage : Nat := 0
  slice : Nat := 0
  /-- Vehicles named, in the order of naming; position offered next; ends whose naming ended with a missed
  NAME (R350, R352). -/
  members : List GMember := []
  nextPos : Nat := 1
  missed1 : Bool := false
  missed2 : Bool := false
  /-- Poll list: (position, port) (R351). -/
  polls : List (Nat × Nat) := []
  waiting : Option GWait := none
  /-- Index of the next poll; vehicle whose message turn is next; consecutive misses per vehicle. -/
  pollIdx : Nat := 0
  turn : Nat := 1
  misses : Tab Nat := []
  /-- Periods since the last naming or probe; uptime (ns) of the last PERIOD sent or received. -/
  periods : Nat := 0
  periodAt : Nat := 0
  /-- Ends still to be probed in this period. -/
  probes : List Nat := []
  /-- Attempts of the MSG_TX mailbox in work (R354): mailbox, attempts. -/
  attempts : Tab Nat := []
  /-- Lines: ports UP, active line of end 1 and of end 2 (R355). -/
  up : Nat := 0
  active1 : Nat := 0
  active2 : Nat := 0
  /-- Border: telegrams queued, PD_DATA held per port, a 32nd vehicle has answered (R361, R362). -/
  queue : List GQueued := []
  pdHeld : Tab Telegram := []
  excess : Bool := false
  deriving DecidableEq, Repr


/-- The MRAM resume area that entry into SLEEP saves (R49, R396): the mode left, the configuration fields of the
registers, train time with the elapsed time at which it stood so, and what a wake boot restores besides (R108,
R161). -/
structure Resume where
  mode : Nat
  regs : List (Nat × Nat)
  time : Int
  timeValid : Nat
  elapsed : Nat
  ina : InaState
  map : SlotMap
  held : List SlotMap
  cycle : Nat
  deriving DecidableEq, Repr

/-- The machine. -/
structure State where
  /-- Register store: (bit address, value) of every field that does not hold its reset value, in rising
  order (chapters 02 to 21). -/
  regs : List (Nat × Nat) := []
  /-- Local uptime, ns (R163). -/
  uptime : Nat := 0
  /-- Elapsed time since power-on, ns; no BOOT resets it. -/
  elapsed : Nat := 0
  glb : GlbState := {}
  otp : OtpState := {}
  mram : MramState := {}
  rcd : RecState := {}
  rates : List RateLimit := []
  flt : FltState := {}
  hrg : HrgState := {}
  tim : TimState := {}
  pair : PairState := {}
  slp : SlpState := {}
  key : KeyState := {}
  pwr : PwrState := {}
  pins : Pins := {}
  /-- The MRAM resume area. -/
  resume : Option Resume := none
  latch : Latches := {}
  ports : Tab LinePort := []
  ina : InaState := {}
  cyc : CycState := {}
  msg : MsgState := {}
  can : Tab CanChannel := []
  cst : CstState := {}
  flw : FlwState := {}
  brg : BrgState := {}
  stk : StkState := {}
  gtn : GtnState := {}
  gln : GlnState := {}
  /-- The model's own counter behind free values and random draws (notes/assumptions/4.md). -/
  free : Nat := 0
  /-- What the node has put on its wires and into host memory, newest first (notes/assumptions/5.md). -/
  out : List Emit := []
  /-- Commands that wait, first in, first out. -/
  pending : List Instr := []
  deriving DecidableEq, Repr

/-- Why the machine stops with a fault. No command of this block stops it: every row of the table has an
effect, so the type is empty. -/
inductive Fault where
  deriving DecidableEq, Repr

/-- Why a command is refused. -/
inductive Refusal where
  /-- The command has no meaning in the model yet; raised by its arm of `exec` alone. Safe: the machine
  stops where the hardware goes on. -/
  | notModelled (mnemonic : String)
  deriving DecidableEq, Repr

/-- The machine right after the internal release of reset of a power-up (R483): BOOT, step 0 of Table
2.4, every register at its reset value, blank OTP and MRAM (notes/assumptions/3.md), no command
waiting. -/
def State.reset : State := {}

end Sys2Proof.Machine
end

