-- ==== Sys2Proof/Machine/Ops.lean ====
section
/-! DEFINITION. The named operations over the state that every block uses: reading and writing register
fields, counters and event bits, outputs, free values, the modes, train time, and rate limits. -/

namespace Sys2Proof.Machine

open Reg

/-- The value a register field holds. -/
def State.get (s : State) (f : Field) : Nat := storeGet f s.regs

/-- The state with a register field set, cut to the field's width. -/
def State.set (s : State) (f : Field) (v : Nat) : State := { s with regs := storeSet f v s.regs }

/-- A one-bit field is 1. -/
def State.flag (s : State) (f : Field) : Bool := s.get f == 1

/-- The state with a field set from a truth value. -/
def State.setB (s : State) (f : Field) (b : Bool) : State := s.set f (b2n b)

/-- A saturating counter field raised by n. -/
def State.add (s : State) (f : Field) (n : Nat) : State := s.set f (satNat f.width (s.get f + n))

/-- A saturating counter field raised by one. -/
def State.bump (s : State) (f : Field) : State := s.add f 1

/-- A free-running counter field raised by one, wrapping. -/
def State.wrapUp (s : State) (f : Field) : State := s.set f (s.get f + 1)

/-- The state with bit i of a field set. -/
def State.setBit (s : State) (f : Field) (i : Nat) : State := s.set f (setBitOf (s.get f) i)

/-- The state with bit i of a field cleared. -/
def State.clearBit (s : State) (f : Field) (i : Nat) : State := s.set f (clearBitOf (s.get f) i)

/-- Bit i of a field. -/
def State.bitAt (s : State) (f : Field) (i : Nat) : Bool := hasBit (s.get f) i

/-- The state with fields set from a list of loads, in order. -/
def State.load (s : State) (l : List (Field × Nat)) : State := l.foldl (fun s e => s.set e.1 e.2) s

/-- The state after f where the condition holds, unchanged otherwise. -/
def State.when (s : State) (c : Bool) (f : State → State) : State := if c then f s else s

/-- One more thing the node puts out. -/
def State.emit (s : State) (e : Emit) : State := { s with out := e :: s.out }

/-- A free value cut to w bits, and the state with the counter behind it advanced. -/
def State.draw (s : State) (w : Nat) : Nat × State :=
  (Config.freeValue s.free % 2 ^ w, { s with free := s.free + 1 })

/-- A random draw of w bits, and the state with the counter behind it advanced (R50, R52). -/
def State.random (s : State) (w : Nat) : Nat × State :=
  (Config.randomDraw s.free % 2 ^ w, { s with free := s.free + 1 })

/-! ### Modes (Table 0.1) -/

/-- GLB_MODE.MODE. -/
def State.mode (s : State) : Nat := s.get GLB_MODE_MODE

abbrev modeBoot : Nat := 0
abbrev modeGtn : Nat := 1
abbrev modeNative : Nat := 2
abbrev modeBorder : Nat := 3
abbrev modeStandby : Nat := 4
abbrev modeReferee : Nat := 5
abbrev modeSleep : Nat := 6
abbrev modeSafe : Nat := 7

/-- Sub-states of BOOT (GLB_MODE.SUBSTATE). -/
abbrev subSequence : Nat := 0
abbrev subTest : Nat := 1
abbrev subDebugWait : Nat := 2
abbrev subHostWait : Nat := 3

/-- The node is in BOOT in the sub-state named. -/
def State.inBoot (s : State) (sub : Nat) : Bool :=
  s.mode == modeBoot && s.get GLB_MODE_SUBSTATE == sub && s.glb.bootStep == 4

/-- The node is in one of the modes listed. -/
def State.inModes (s : State) (l : List Nat) : Bool := l.contains s.mode

/-- The node is in NATIVE or BORDER. -/
def State.running (s : State) : Bool := s.inModes [modeNative, modeBorder]

/-- Life-cycle states (GLB_LC.STATE). -/
abbrev lcMaker : Nat := 0
abbrev lcPersonalized : Nat := 1
abbrev lcField : Nat := 2
abbrev lcReturn : Nat := 3
abbrev lcScrapped : Nat := 4

/-- GLB_LC.STATE. -/
def State.lc (s : State) : Nat := s.get GLB_LC_STATE

/-- The life-cycle state that the fuse fields decode to: the highest field with at least 5 cells (R51). -/
def OtpState.lifeCycle (o : OtpState) : Nat :=
  if 5 ≤ o.scrap then lcScrapped else if 5 ≤ o.ret then lcReturn
  else if 5 ≤ o.field then lcField else if 5 ≤ o.pers then lcPersonalized else lcMaker

/-- GLB_LC.PARTIAL: the fields with 1 to 4 programmed cells (R51). -/
def OtpState.partialFields (o : OtpState) : Nat :=
  let p := fun (n : Nat) => b2n (decide (1 ≤ n ∧ n ≤ 4))
  p o.pers + 2 * p o.field + 4 * p o.ret + 8 * p o.scrap

/-- Test access is open (Table 0.2, R497). -/
def State.testOpen (s : State) : Bool :=
  s.lc == lcMaker || s.lc == lcReturn || (s.lc == lcPersonalized && s.flag GLB_LC_DEBUG_OPEN)

/-- The node is a pair member (R366). -/
def State.pairMember (s : State) : Bool := s.flag PAIR_CFG_EN

/-- The interlock permission of R68: a node that is not a pair member holds it permanently. -/
def State.permission (s : State) : Bool := !s.pairMember || s.flag PAIR_STATUS_PERMISSION

/-- The node is a member of a stack at a position other than 0 (R28). -/
def State.stackMember (s : State) : Bool := s.flag STK_CFG_EN && !(s.get STK_CFG_POS == 0)

/-- The unique ID with which the node stands on the train: PAIR_VEH_UID at a pair member (R366), the master's at a
stack member (R22, Table 19.2), the value of GLB_LC_DATA taken at the end of BOOT in MAKER (R501), GLB_UID otherwise. -/
def State.trainUid (s : State) : Nat :=
  if s.pairMember then s.get PAIR_VEH_UID_UID
  else if s.stackMember then s.get STK_MASTER_UID_UID
  else if s.lc == lcMaker then s.glb.makerUid
  else s.get GLB_UID_UID

/-- A MAKER node without a unique ID of its own (R501). -/
def State.makerBlank (s : State) : Bool :=
  s.lc == lcMaker && (s.glb.makerUid == 0 || s.glb.makerUid == 2 ^ 64 - 1)

/-- The device's own unique ID: GLB_UID, or its stand-in in MAKER (R501). -/
def State.ownUid (s : State) : Nat :=
  if s.lc == lcMaker then s.glb.makerUid else s.get GLB_UID_UID

/-! ### Train time (R162, R163), in 2⁻¹⁶ ns -/

/-- One nanosecond in units of 2⁻¹⁶ ns. -/
abbrev nsUnit : Int := 65536

/-- One second in units of 2⁻¹⁶ ns. -/
abbrev secUnit : Int := 65536000000000

/-- Local uptime in 2⁻¹⁶ ns. -/
def State.uptimeFine (s : State) : Int := (s.uptime : Int) * nsUnit

/-- The part of a slew that has been worked off at uptime u (R169). -/
def slewAt (t : TimState) (u : Int) : Int :=
  if t.slewLen = 0 then t.slew
  else
    let d := u - t.slewFrom
    if d ≤ 0 then 0
    else if d ≥ (t.slewLen : Int) then t.slew
    else fdiv (t.slew * d) t.slewLen

/-- Train time at an instant of local uptime: TT0 + k (u − u0) + slew(u) (R163). -/
def ttAt (t : TimState) (u : Int) : Int :=
  t.tt0 + fdiv (t.kNum * (u - t.u0)) t.kDen + slewAt t u

/-- Train time now. -/
def State.trainTime (s : State) : Int := ttAt s.tim s.uptimeFine

/-- Seconds of a train time, 48 bits. -/
def ttSec (t : Int) : Nat := ((Int.fdiv t secUnit) % 2 ^ 48).toNat

/-- Nanoseconds of a train time, 0 to 999,999,999. -/
def ttNs (t : Int) : Nat := (Int.fdiv (t % secUnit) nsUnit).toNat

/-- Fraction of a train time, 16 bits. -/
def ttFrac (t : Int) : Nat := (t % nsUnit).toNat

/-- The train time of seconds and nanoseconds. -/
def ttOf (sec ns : Nat) : Int := (sec : Int) * secUnit + (ns : Int) * nsUnit

/-- The 10 bytes of a train time in a record: seconds (6 B), nanoseconds (4 B) (R426). -/
def ttBytes (t : Int) : Bytes := le 6 (ttSec t) ++ le 4 (ttNs t)

/-! ### Rate limits -/

/-- Ask for one record of a limited kind: whether it may be written now, the suppressed count it carries,
and the state after. A refusal is counted (R36, R415). -/
def State.rateCheck (s : State) (code a b window : Nat) : Bool × Nat × State :=
  match s.rates.find? (fun e => e.code == code && e.a == a && e.b == b) with
  | none =>
    (true, 0, { s with rates := ⟨code, a, b, s.uptime, 0⟩ :: s.rates })
  | some e =>
    let others := s.rates.filter (fun e => !(e.code == code && e.a == a && e.b == b))
    if e.last + window ≤ s.uptime then
      (true, e.suppressed, { s with rates := ⟨code, a, b, s.uptime, 0⟩ :: others })
    else
      (false, e.suppressed, { s with rates := { e with suppressed := satNat 16 (e.suppressed + 1) } :: others })

/-- One cycle of CLK_TT (125 MHz) passes: elapsed time advances by 8 ns, and local uptime with it unless reset
is held or the node sleeps (R163, R396; notes/assumptions/8.md). -/
def State.tick (s : State) : State :=
  { s with
    uptime := if s.glb.held || (s.mode == modeSleep && s.slp.entered) then s.uptime else s.uptime + 8
    elapsed := s.elapsed + 8 }

/-- 10 ms in ns. -/
abbrev tenMs : Nat := 10000000

end Sys2Proof.Machine
end

