-- ==== Sys2Proof/Machine/Flags.lean ====
section
/-! DEFINITION. What the blocks report: records into the recorder's ingress queue, host events and
completions, and the fault collector's lines, latches and escalations. -/

namespace Sys2Proof.Machine

open Reg

/-! ### Recorder ingress (R425–R430) -/

/-- The class of a record code (Table 17.1). -/
def recClass (code : Nat) : Nat := bits code 12 3

/-- The event of a block at byte address `base`, stamped now (R425, R428). -/
def State.stamp (s : State) (base code : Nat) (payload : Bytes) : RecEvent :=
  { uptime := s.uptime
    timeS := ttSec s.trainTime
    timeNs := ttNs s.trainTime
    topo := s.get INA_TOPO_COUNTER
    source := bits base 12 8
    flags := s.get TIM_STATUS_TIME_VALID + 4 * b2n (s.mode == modeBoot) + 64 * bits base 10 2
    code := code
    payload := fit 32 payload }

/-- A list with the number at position i raised by one, saturating at 16 bits. -/
def bumpAt (l : List Nat) (i : Nat) : List Nat := l.set i (satNat 16 (l.getD i 0 + 1))

/-- The recorder takes events: it runs in every mode except SLEEP, and not in SCRAPPED (R433). -/
def State.recorderRuns (s : State) : Bool := !(s.mode == modeSleep) && !(s.lc == lcScrapped)

/-- The ingress queue takes an event of this code (R429, R479). -/
def State.queueTakes (s : State) (code : Nat) : Bool :=
  (!s.rcd.onlyBrownOut || code == 6) &&
    decide (s.rcd.queue.length < if recClass code = 0 then 64 else 60)

/-- REC_STATUS.QUEUE shows the occupancy. -/
def State.showQueue (s : State) : State := s.set REC_STATUS_QUEUE s.rcd.queue.length

/-- An accepted event enters the queue. -/
def State.recPush (s : State) (e : RecEvent) : State :=
  { s with rcd := { s.rcd with queue := s.rcd.queue ++ [e] } } |>.showQueue

/-- A refused event is counted by class (R430). -/
def State.recRefuse (s : State) (code : Nat) : State :=
  let none_ := s.rcd.lost.all (· == 0)
  let c := recClass code
  let r := { s.rcd with
    lost := bumpAt s.rcd.lost c
    lostFirst := if none_ then s.uptime else s.rcd.lostFirst
    lostLast := s.uptime
    overflow := true }
  let s := { s with rcd := r }
  let byte := bits (s.get REC_LOST_COUNT) (8 * c) 8
  let s := if byte < 255 then s.set REC_LOST_COUNT (s.get REC_LOST_COUNT + 2 ^ (8 * c)) else s
  s.set REC_EVENT_LOST 1

/-- Payload of a LOST record (R426). -/
def lostPayload (r : RecState) : Bytes :=
  (r.lost.map (le 2)).flatten ++ le 8 r.lostFirst ++ le 8 r.lostLast

/-- The pending LOST record enters the queue when an entry has been taken (R430). -/
def State.pushLost (s : State) : State :=
  if s.rcd.lost.all (· == 0) then s
  else
    let e := s.stamp 0x3000 0x0007 (lostPayload s.rcd)
    { s with rcd := { s.rcd with
        queue := s.rcd.queue ++ [e], lost := [0, 0, 0, 0, 0, 0, 0, 0], lostFirst := 0, lostLast := 0 } }
      |>.showQueue

/-- The position of the next write loses its record before the write begins (R431, step 1). -/
def State.unmarkNext (s : State) : State :=
  if s.mram.wp then s
  else { s with mram := { s.mram with cells := tabErase (s.get REC_STATUS_NEXT_IDX) s.mram.cells } }

/-- The write engine takes the oldest entry when it is free, the boot scan is complete and no clear runs
(R429, R433, R438). -/
def State.recTake (s : State) : State :=
  if s.rcd.writing.isNone && s.flag REC_STATUS_READY && !s.flag REC_STATUS_CLEARING then
    match s.rcd.queue with
    | [] => s
    | e :: rest =>
      ({ s with rcd := { s.rcd with queue := rest, writing := some (e, false) } }).showQueue
        |>.unmarkNext |>.pushLost
  else s

/-- A block delivers an event to the recorder (R429, R430). -/
def State.record (s : State) (base code : Nat) (payload : Bytes) : State :=
  if !s.recorderRuns then s
  else if s.queueTakes code then (s.recPush (s.stamp base code payload)).recTake
  else s.recRefuse code

/-! ### Host events and completion signalling (R315–R318) -/

/-- The function that owns ring group g (R304): 0 PF0, 1 PF1. -/
def State.groupOwner (s : State) (g : Nat) : Nat := s.get (HRG_GRP_CFG_OWNER g)

/-- Bus Master Enable of a function. -/
def State.bme (s : State) (f : Nat) : Bool :=
  if f = 0 then s.flag HRG_STATUS_BME0 else s.flag HRG_STATUS_BME1

/-- A function may issue requests: link up, Bus Master Enable set, not in D3hot (Table 11.3). -/
def State.mayRequest (s : State) (f : Nat) : Bool :=
  s.flag HRG_STATUS_LINK_UP && s.bme f && !(s.hrg.d3.getD f false)

/-- The state of one ring outside its registers. -/
def State.ring (s : State) (k : Nat) : RingState := tabGet {} s.hrg.rings k

/-- The state with one ring's hidden state replaced. -/
def State.setRing (s : State) (k : Nat) (r : RingState) : State :=
  { s with hrg := { s.hrg with rings := tabPut k r s.hrg.rings } }

/-- The group of a ring: rings 16g to 16g + 15 of each direction, event ring g (R304). -/
def ringGroup (k : Nat) : Nat := if k < 64 then k / 16 else if k < 128 then (k - 64) / 16 else k - 128

/-- A ring is RUNNING. -/
def State.ringRuns (s : State) (k : Nat) : Bool := s.get (HRG_RING_STATUS_STATE k) == 1

/-- The number of entries of a ring (R306). -/
def State.ringSize (s : State) (k : Nat) : Nat := 2 ^ s.get (HRG_RING_CTRL_SIZE_EXP k)

/-- Host address of entry i of a ring (R306). -/
def State.ringEntry (s : State) (k i : Nat) : Nat :=
  s.get (HRG_RING_BASE_BASE k) + 32 * (i % s.ringSize k)

/-- A request of a function goes out, or waits while the function may not issue requests (Table 11.3). -/
def State.hostPost (s : State) (f : Nat) (e : Emit) : State :=
  if s.mayRequest f then s.emit e
  else if s.flag HRG_STATUS_LINK_UP then
    { s with hrg := { s.hrg with held := s.hrg.held ++ [(f, e)] } }
  else s

/-- An MSI-X message of a function: sent, made pending by the mask, or not sent with MSI-X disabled
(R318). -/
def State.sendMsix (s : State) (f v : Nat) : State :=
  let on := if f = 0 then s.flag HRG_STATUS_MSIX0 else s.flag HRG_STATUS_MSIX1
  if !on then s
  else if s.flag (MSIX_MASK f v) then s.set (MSIX_PBA f v) 1
  else s.hostPost f (.msix f v)

/-- The ring's message is sent and its completions count as signalled. -/
def State.signalNow (s : State) (k : Nat) : State :=
  (s.setRing k { s.ring k with unsignalled := 0 }).sendMsix (s.groupOwner (ringGroup k))
    (s.get (HRG_RING_CTRL_VECTOR k))

/-- One completion written on a ring: coalescing, or a message at once (R318). -/
def State.signal (s : State) (k : Nat) (now : Bool) : State :=
  if s.flag (HRG_RING_CTRL_IRQ_EN k) then
    let r := s.ring k
    let n := r.unsignalled + 1
    let s := s.setRing k { r with
      unsignalled := n, firstUnsignalled := if r.unsignalled = 0 then s.uptime else r.firstUnsignalled }
    let cnt := Nat.max 1 (s.get (HRG_RING_CTRL_COAL_CNT k))
    if now || decide (cnt ≤ n) then s.signalNow k else s
  else s

/-- The group's write-back word of a ring (Table 11.5). -/
def State.writeBack (s : State) (k : Nat) : State :=
  let g := ringGroup k
  let off := if k < 64 then 4 * (k % 16) else if k < 128 then 0x40 + 4 * (k % 16) else 0x80
  s.hostPost (s.groupOwner g) (.hostWrite (s.groupOwner g) (256 * s.get (HRG_GRP_WB_ADDR g) + off)
    (le 4 (s.get (HRG_RING_STATUS_INDEX k))))

/-- The 32 bytes of an event entry, SEQ still 0 (R315). -/
def State.eventEntry (s : State) (e : HostEv) : Bytes :=
  le 1 e.code ++ zeros 3 ++ le 2 (s.get INA_TOPO_COUNTER) ++ zeros 2 ++ le 8 s.uptime ++ fit 16 e.payload

/-- The event ring of group g has room for one entry (R317) and its function may write. -/
def State.evRoom (s : State) (g : Nat) : Bool :=
  s.ringRuns (128 + g) && s.mayRequest (s.groupOwner g) &&
    decide (subMod 16 (s.get (HRG_RING_STATUS_INDEX (128 + g))) (s.ring (128 + g)).pi
      < s.ringSize (128 + g))

/-- One event entry is written, in the order of R311, with the ring's next SEQ. -/
def State.evWrite (s : State) (g : Nat) (entry : Bytes) : State :=
  let k := 128 + g
  let r := s.ring k
  let s := s.hostPost (s.groupOwner g) (.hostWrite (s.groupOwner g)
    (s.ringEntry k (s.get (HRG_RING_STATUS_INDEX k))) (splice 2 (le 2 r.evSeq) entry))
  let s := s.setRing k { s.ring k with evSeq := (r.evSeq + 1) % 65536 }
  let s := (s.wrapUp (HRG_RING_STATUS_INDEX k)).bump (HRG_RING_STAT_DONE k)
  (s.writeBack k).signal k false

/-- Event code EVENT_LOST (Table 11.9). -/
abbrev evLostCode : Nat := 0x0B

/-- An entry is written when there is room and nothing waits before it; else it waits in the queue of 16,
or it is lost (R317). -/
def State.evPost (s : State) (g : Nat) (e : HostEv) : State :=
  let k := 128 + g
  let r := s.ring k
  if r.waiting.isEmpty && s.evRoom g && r.evLost == 0 then s.evWrite g (s.eventEntry e)
  else if r.waiting.length < 16 then s.setRing k { r with waiting := r.waiting ++ [s.eventEntry e] }
  else (s.setRing k { r with evLost := r.evLost + 1 }).bump (HRG_RING_STAT_DROPS k)

/-- Waiting entries of event ring g are written while there is room, an EVENT_LOST entry first after a
loss (R317); n bounds the number tried. -/
def State.evDrain (g : Nat) : Nat → State → State
  | 0, s => s
  | n + 1, s =>
    let k := 128 + g
    let r := s.ring k
    if !s.evRoom g then s
    else if r.evLost ≠ 0 then
      State.evDrain g n ((s.setRing k { r with evLost := 0 }).evWrite g
        (s.eventEntry ⟨evLostCode, le 4 r.evLost⟩))
    else match r.waiting with
      | [] => s
      | b :: rest => State.evDrain g n ((s.setRing k { r with waiting := rest }).evWrite g b)

/-- Event rings are filled in these modes (Table 11.4). -/
def State.eventsFilled (s : State) : Bool :=
  s.inModes [modeNative, modeBorder, modeStandby, modeSafe]

/-- An event for one group's event ring (R316, first point). -/
def State.groupEvent (s : State) (g code : Nat) (payload : Bytes) : State :=
  if s.eventsFilled && s.ringRuns (128 + g) then s.evPost g ⟨code, payload⟩ else s

/-- An event for every RUNNING event ring whose mask takes its code (R316, second point). -/
def State.hostEvent (s : State) (code : Nat) (payload : Bytes) : State :=
  [0, 1, 2, 3].foldl (fun s g =>
    if s.bitAt (HRG_EVRING_MASK_MASK g) code then s.groupEvent g code payload else s) s

/-! ### Fault collector (R405–R415) -/

/-- Severity of a source: 3 is taken as 2 (FLT_SRCn_CFG). -/
def State.fltSeverity (s : State) (n : Nat) : Nat :=
  Nat.min 2 (s.get (FLT_SRC_CFG_SEVERITY n))

/-- A source acts as ACK = A; in GTN mode and in SAFE entered from GTN every source does (R407). -/
def State.ackA (s : State) (n : Nat) : Bool :=
  s.flag (FLT_SRC_CFG_ACK n) || s.mode == modeGtn ||
    (s.mode == modeSafe && s.get GLB_MODE_PREV_MODE == modeGtn)

/-- The collector runs: not in SLEEP (R410), and not frozen by a scan shift in TEST (R57). -/
def State.collectorRuns (s : State) : Bool := !(s.mode == modeSleep) && !(s.glb.scanShift && s.inBoot subTest)

/-- FLT_STATUS shows FLT_RAW OR FLT_FORCED (R405). -/
def State.showStatus (s : State) : State :=
  s.set FLT_STATUS_STATUS (Nat.lor (s.get FLT_RAW_RAW) (s.get FLT_FORCED_FORCED))

/-- The sources of a mask, lowest first. -/
def maskBits (w m : Nat) : List Nat := (List.range w).filter (hasBit m)

/-- Payload of a FAULT record (Table 17.5). -/
def State.faultPayload (s : State) (n sev suppressed : Nat) (rdf : Bool) : Bytes :=
  le 1 n ++ le 1 sev ++ le 1 (b2n (!s.bitAt FLT_RAW_RAW n) + 2 * b2n rdf) ++ [0#8]
    ++ le 2 suppressed ++ zeros 2 ++ le 8 (s.get FLT_STATUS_STATUS)

/-- The FAULT record of a latch, at most one per source per 10 ms (R415). -/
def State.faultRecord (s : State) (n sev : Nat) (rdf : Bool) : State :=
  match s.rateCheck 1 n 0 tenMs with
  | (true, sup, s) => s.record 0x2000 0x0001 (s.faultPayload n sev sup rdf)
  | (false, _, s) => s

/-- An escalation falls at the end of the step; the highest severity, then the lowest source, is the one
captured (R413, R414). -/
def State.askEscalate (s : State) (n sev cause : Nat) : State :=
  match s.flt.escalate with
  | some (n0, sev0, _) =>
    if sev0 > sev ∨ (sev0 = sev ∧ n0 ≤ n) then s
    else { s with flt := { s.flt with escalate := some (n, sev, cause) } }
  | none => { s with flt := { s.flt with escalate := some (n, sev, cause) } }

/-- The reaction to the latch of one source (R409, R410). -/
def State.react (s : State) (n sev : Nat) : State :=
  if sev = 2 then s.askEscalate n sev 0
  else if sev = 1 then
    let t := s.get (FLT_SRC_CFG_TIMER n)
    if t = 0 then s.askEscalate n sev 1
    else ({ s with flt := { s.flt with timers := (n, s.uptime + 1000 * t) :: s.flt.timers } }).setBit
      FLT_TIMER_RUN_RUN n
  else s

/-- One source latches (R405, R409, R415). -/
def State.latchOne (rdf : Nat) (s : State) (n : Nat) : State :=
  let sev := s.fltSeverity n
  ((s.bump FLT_STAT_LATCHES).set FLT_EVENT_LATCH 1 |>.faultRecord n sev (hasBit rdf n)).react n sev

/-- The source of highest severity, and the lowest bit at equal severity, among those listed (R413). -/
def State.worst (s : State) : List Nat → Nat
  | [] => 0
  | [n] => n
  | n :: t => let m := s.worst t; if s.fltSeverity m > s.fltSeverity n then m else n

/-- The capture of the first latch (R413). -/
def State.captureFirst (s : State) (new : Nat) : State :=
  if s.flag FLT_FIRST_VALID then s
  else
    let n := s.worst (maskBits 64 new)
    s.set FLT_FIRST_SOURCE n |>.set FLT_FIRST_SEVERITY (s.fltSeverity n)
      |>.setB FLT_FIRST_FORCED (!s.bitAt FLT_RAW_RAW n)
      |>.set FLT_FIRST_MAP_MAP (clearBitOf new n) |>.set FLT_FIRST_TIME_NS s.uptime
      |>.set FLT_FIRST_VALID 1

/-- The sources whose FLT_STATUS bit has risen latch in one cycle. `rdf` marks real faults during force. -/
def State.latchNew (s : State) (new rdf : Nat) : State :=
  if new = 0 then s
  else
    let s := s.captureFirst new
    let s := (maskBits 64 new).foldl (State.latchOne rdf) s
    s.hostEvent 0x03 (le 8 new ++ le 8 (s.get FLT_STATUS_STATUS))

/-- Lines asserted at one edge: FLT_RAW, real-during-force, status and latches (R405, R408). -/
def State.raiseLines (s : State) (mask : Nat) : State :=
  if !s.collectorRuns then s
  else
    let raw := s.get FLT_RAW_RAW
    let rising := andNot mask raw
    let rdf := Nat.land rising (s.get FLT_FORCED_FORCED)
    let new := andNot rising (s.get FLT_STATUS_STATUS)
    let s := (s.set FLT_RAW_RAW (Nat.lor raw mask)).showStatus
    let s := if rdf = 0 then s
      else (s.set FLT_RDF_RDF (Nat.lor (s.get FLT_RDF_RDF) rdf)).set FLT_EVENT_REAL_DURING_FORCE 1
    s.latchNew new rdf

/-- Reaction timers of sources whose FLT_STATUS bit is 0 stop and reset (R409). -/
def State.stopTimers (s : State) : State :=
  let st := s.get FLT_STATUS_STATUS
  ({ s with flt := { s.flt with timers := s.flt.timers.filter (fun e => hasBit st e.1) } }).set
    FLT_TIMER_RUN_RUN (Nat.land (s.get FLT_TIMER_RUN_RUN) st)

/-- FLT_RAW bits cleared, status and timers following. -/
def State.clearRaw (s : State) (mask : Nat) : State :=
  (s.set FLT_RAW_RAW (andNot (s.get FLT_RAW_RAW) mask)).showStatus.stopTimers

/-- A block asserts its line for a condition (R405). -/
def State.assertLine (s : State) (n : Nat) : State :=
  if hasBit s.flt.lines n then s
  else ({ s with flt := { s.flt with lines := setBitOf s.flt.lines n } }).raiseLines (2 ^ n)

/-- A block drops its line: an ACK A source's FLT_RAW bit clears (R407). -/
def State.dropLine (s : State) (n : Nat) : State :=
  let s := { s with flt := { s.flt with lines := clearBitOf s.flt.lines n } }
  if s.ackA n && s.collectorRuns then s.clearRaw (2 ^ n) else s

/-- A block asserts or drops its line. -/
def State.line (s : State) (n : Nat) (on : Bool) : State := if on then s.assertLine n else s.dropLine n

/-- A block reports an event: its line is asserted for one cycle (R405). -/
def State.pulse (s : State) (n : Nat) : State :=
  if hasBit s.flt.lines n then s.raiseLines (2 ^ n)
  else
    let s := s.raiseLines (2 ^ n)
    if s.ackA n && s.collectorRuns then s.clearRaw (2 ^ n) else s

/-- A write to FLT_FORCE applies the forces; a change is recorded, and sources that rise latch (R408). -/
def State.force (s : State) (v : Nat) : State :=
  let old := s.get FLT_FORCE_FORCE
  let new := andNot (v % 2 ^ 64) (s.get FLT_STATUS_STATUS)
  let s := (s.load [(FLT_FORCE_FORCE, v), (FLT_FORCED_FORCED, v)]).showStatus.stopTimers
  if old = v % 2 ^ 64 then s
  else
    let s := s.record 0x2000 0x0003 (le 8 old ++ le 8 v)
    if s.collectorRuns then s.latchNew new 0 else s

/-- A write to FLT_RAW clears the bits whose lines are deasserted (R406, R407). -/
def State.clearWritten (s : State) (mask : Nat) : State := s.clearRaw (andNot (mask % 2 ^ 64) s.flt.lines)

end Sys2Proof.Machine
end

