-- ==== Sys2Proof/Machine/HrgOps.lean ====
section
/-! DEFINITION. What every block needs of the host interface: completing a transmit descriptor, filling a
receive descriptor, ring errors (R306, R311–R314). -/

namespace Sys2Proof.Machine

open Reg

/-- Transmit descriptor statuses (Table 11.7). -/
abbrev txDone : Nat := 0
abbrev txNoFlow : Nat := 1
abbrev txBadDesc : Nat := 2
abbrev txHostError : Nat := 3
abbrev txStopped : Nat := 4

/-- KIND of a transmit descriptor. -/
def descKind (d : Descriptor) : Nat := ofLe (slice 0x0A 1 d.bytes)

/-- FLAGS.IRQ and FLAGS.REPORT. -/
def descIrq (d : Descriptor) : Bool := hasBit (ofLe (slice 0x0B 1 d.bytes)) 0
def descReport (d : Descriptor) : Bool := hasBit (ofLe (slice 0x0B 1 d.bytes)) 1

/-- TAG of a transmit descriptor. -/
def descTag (d : Descriptor) : Nat := ofLe (slice 0x0C 4 d.bytes)

/-- The oldest fetched descriptor of a ring leaves it; whether its completion is to be written. -/
def State.ringPop (s : State) (k : Nat) : Bool × State :=
  let r := s.ring k
  (r.silent == 0, s.setRing k { r with fetched := r.fetched.tail, silent := r.silent - 1 })

/-- One completion of a ring: index, DONE, write-back word and signalling (R311, R318). -/
def State.complete (s : State) (k : Nat) (irq : Bool) : State :=
  (((s.wrapUp (HRG_RING_STATUS_INDEX k)).bump (HRG_RING_STAT_DONE k)).writeBack k).signal k irq

/-- The oldest fetched descriptor of transmit ring k completes (R312, R313). -/
def State.completeTx (s : State) (k status flows result : Nat) : State :=
  match (s.ring k).fetched with
  | [] => s
  | d :: _ =>
    let addr := s.ringEntry k (s.get (HRG_RING_STATUS_INDEX k)) + 0x18
    let (written, s) := s.ringPop k
    let s := if status = txNoFlow then s.bump (HRG_RING_STAT_DROPS k) else s
    if written then
      let f := s.groupOwner (ringGroup k)
      (s.hostPost f (.hostWrite f addr (le 1 status ++ le 1 flows ++ le 2 result ++ zeros 4))).complete k (descIrq d)
    else s

/-- An item for receive ring k finds no fetched descriptor: dropped, counted and reported at most once per
1 ms (R314). -/
def State.rxDrop (s : State) (k : Nat) : State :=
  let s := s.bump (HRG_RING_STAT_DROPS k)
  let r := s.ring k
  let n := satNat 16 (r.drops + 1)
  let due := match r.lastDropEvent with
    | none => true
    | some t => decide (t + 1000000 ≤ s.uptime)
  if due then
    (s.setRing k { r with drops := 0, lastDropEvent := some s.uptime }).groupEvent (ringGroup k) 0x09
      (le 1 (k - 64) ++ [0#8] ++ le 2 n)
  else s.setRing k { r with drops := n }

/-- Receive rings are filled in these modes (Table 11.4). -/
def State.receiveFilled (s : State) : Bool := s.inModes [modeNative, modeBorder, modeStandby]

/-- An item for receive ring k: into the oldest fetched descriptor, or dropped (R314). `rflags` are bits
0 to 3 of RFLAGS. -/
def State.rxFill (s : State) (k srcCh rflags flow : Nat) (item : Bytes) : State :=
  match (s.ring k).fetched with
  | [] => s.rxDrop k
  | d :: _ =>
    if !s.receiveFilled then s.rxDrop k
    else
      let f := s.groupOwner (ringGroup k)
      let entry := s.ringEntry k (s.get (HRG_RING_STATUS_INDEX k))
      let tooLong := decide (item.length > ofLe (slice 0x08 2 d.bytes))
      let (written, s) := s.ringPop k
      if !written then s.rxDrop k
      else
        let s := if tooLong then s else s.hostPost f (.hostWrite f (ofLe (slice 0 8 d.bytes)) item)
        let status := le 2 item.length ++ le 1 srcCh ++ le 1 (rflags + 128 * b2n tooLong) ++ le 2 flow
          ++ le 2 (s.get INA_TOPO_COUNTER) ++ le 8 s.uptime
        (s.hostPost f (.hostWrite f (entry + 0x10) status)).complete k false

/-- Kind and number of a ring as RING_ERROR gives them: 0 TX, 1 RX, 2 event. -/
def ringKind (k : Nat) : Nat := if k < 64 then 0 else if k < 128 then 1 else 2
def ringNumber (k : Nat) : Nat := if k < 64 then k else if k < 128 then k - 64 else k - 128

/-- A ring enters ERROR with a CAUSE, with the event, HRG_EVENT.RING_ERROR and source 51 (R306, R309,
R319). -/
def State.ringError (s : State) (k cause index : Nat) : State :=
  let s := (s.set (HRG_RING_STATUS_STATE k) 3).set (HRG_RING_STATUS_CAUSE k) cause
  let s := (s.set HRG_EVENT_RING_ERROR 1).groupEvent (ringGroup k) 0x0A
    (le 1 (ringKind k) ++ le 1 (ringNumber k) ++ le 1 cause ++ [0#8] ++ le 2 index)
  s.pulse 51

/-- The rings of group g: transmit, receive, event. -/
def groupRings (g : Nat) : List Nat :=
  (List.range 16).map (16 * g + ·) ++ (List.range 16).map (64 + 16 * g + ·) ++ [128 + g]

end Sys2Proof.Machine
end

