-- ==== Sys2Proof/Machine/BrgOps.lean ====
section
/-! DEFINITION. What other blocks need of the far-window bridge: completing a request, the fate of its
frames, ending locks (R276–R286, R291–R294). -/

namespace Sys2Proof.Machine

open Reg

/-- Statuses of Table 10.2 that the origin raises. -/
abbrev brgOk : Nat := 0x00
abbrev brgIdle : Nat := 0x10
abbrev brgRetry : Nat := 0x11
abbrev brgAccepted : Nat := 0x12
abbrev brgTimeout : Nat := 0x13
abbrev brgDiscarded : Nat := 0x14
abbrev brgTopoChanged : Nat := 0x15
abbrev brgUidAbsent : Nat := 0x16
abbrev brgBadArg : Nat := 0x17
abbrev brgLockFail : Nat := 0x18
abbrev brgWrongState : Nat := 0x19
abbrev brgShed : Nat := 0x1A
abbrev brgQueueDrop : Nat := 0x1B
abbrev brgUnroutable : Nat := 0x1C
/-- Statuses that the target raises. -/
abbrev brgAccessDenied : Nat := 0x01
abbrev brgNoTarget : Nat := 0x02
abbrev brgRange : Nat := 0x03
abbrev brgPerm : Nat := 0x04
abbrev brgNotPerformed : Nat := 0x05
abbrev brgHostError : Nat := 0x06
abbrev brgBusy : Nat := 0x07
abbrev brgLockLost : Nat := 0x08
abbrev brgLate : Nat := 0x09

/-- The state with the bridge's hidden state changed. -/
def State.brgMap (s : State) (f : BrgState → BrgState) : State := { s with brg := f s.brg }

/-- BRG_STATUS.POSTED shows the entries in use (R279). -/
def State.showPosted (s : State) : State := s.set BRG_STATUS_POSTED s.brg.posted.length

/-- A bridge event of a request: to the event ring of the group of the requesting ring, or to every masked
ring for a request of an access port (R316). -/
def State.brgEvent (s : State) (who code : Nat) (payload : Bytes) : State :=
  if 8 ≤ who then s.groupEvent (ringGroup (who - 8)) code payload else s.hostEvent code payload

/-- Payload of POSTED_FAULT, BRIDGE_ERROR and BRIDGE_RESULT (Table 11.9). -/
def brgPayload (win status tag v : Nat) : Bytes := le 1 win ++ le 1 status ++ le 2 tag ++ zeros 4 ++ le 8 v

/-- A posted write has failed: POSTED_FAULT entry and BRG_EVENT.POSTED_FAULT (R280, R281). -/
def State.postedFault (s : State) (who win status tag offset : Nat) : State :=
  (s.set BRG_EVENT_POSTED_FAULT 1).brgEvent who 0x06 (brgPayload win status tag offset)

/-- The outgoing lock ends (R286). -/
def State.endOutLock (s : State) : State := s.set BRG_STATUS_LOCK_OUT 0

/-- A read or lock request gets its final status: on its access port, or as a BRIDGE_RESULT event for a
ring (R282, Table 11.9). -/
def State.finishRequest (s : State) (r : BrgReq) (status data : Nat) : State :=
  let s := s.brgMap (fun b => { b with reads := b.reads.filter (fun x => !(x.who == r.who && x.tag == r.tag && x.win == r.win && x.bseq == r.bseq)) })
  let s := if r.lock && status != brgOk && s.brg.lockWin == r.win && s.get BRG_STATUS_LOCK_OUT == 1
    then s.endOutLock else s
  if 8 ≤ r.who then s.brgEvent r.who 0x08 (brgPayload r.win status r.tag data)
  else s.set (BRG_AP_STATUS_STATUS r.who) status

/-- The posted entry of a window and BSEQ after f. -/
def State.postedMap (s : State) (win bseq : Nat) (f : BrgReq → BrgReq) : State :=
  s.brgMap (fun b => { b with posted := b.posted.map (fun x => if x.win == win && x.bseq == bseq then f x else x) })

/-- The open read of a window and BSEQ after f. -/
def State.readMap (s : State) (win bseq : Nat) (f : BrgReq → BrgReq) : State :=
  s.brgMap (fun b => { b with reads := b.reads.map (fun x => if x.win == win && x.bseq == bseq then f x else x) })

/-- A copy of a bridge request's frame has been sent (R279). -/
def State.brgCopySent (s : State) (win bseq : Nat) : State :=
  let f := fun (x : BrgReq) => { x with left := x.left - 1, sent := true }
  (s.postedMap win bseq f).readMap win bseq f

/-- A copy of a bridge request's frame has been discarded by the node's own switch. With the last copy gone
and none sent, a write is reported as POSTED_FAULT and a read completes, with the status given (R281). -/
def State.brgCopyDropped (s : State) (win bseq status : Nat) : State :=
  let f := fun (x : BrgReq) => { x with left := x.left - 1 }
  let s := (s.postedMap win bseq f).readMap win bseq f
  let hit := fun (x : BrgReq) => x.win == win && x.bseq == bseq && x.left == 0 && !x.sent
  match s.brg.posted.find? hit with
  | some x => s.postedFault x.who win status x.tag x.offset
  | none =>
    match s.brg.reads.find? hit with
    | some x => s.finishRequest x status 0
    | none => s

/-- The target's lock ends (R286, R293, R294). -/
def State.endTargetLock (s : State) : State :=
  ((s.brgMap (fun b => { b with lock := none })).set BRG_STATUS_TGT_LOCKED 0).set BRG_TGT_LOCK_HOLDER 0
    |>.set BRG_TGT_LOCK_REMAIN 0

/-- The bridge runs in NATIVE and BORDER only; locks held at the target end at the change (R294). -/
def State.refreshBridge (s : State) : State :=
  let s := s.setB BRG_STATUS_RUN s.running
  if !s.running && s.brg.lock.isSome then s.endTargetLock else s

end Sys2Proof.Machine
end

