-- ==== Sys2Proof/Machine/MsgOps.lean ====
section
/-! DEFINITION. The message switch as every block uses it: ends and ports, train addresses, message frames
as bytes, output queues, origination and local delivery (R7–R9, R149–R157, R464, R465). -/

namespace Sys2Proof.Machine

open Reg

/-! ### Ports and ends -/

/-- A line port's link is UP. -/
def State.lineUp (s : State) (p : Nat) : Bool := s.get (LN_STATUS_LINK p) == 2

/-- The line ports of an end (1 or 2): line A, line B. -/
def endPorts (e : Nat) : List Nat := if e = 1 then [0, 1] else [2, 3]

/-- The end of a port, and the port of the same line on the other end. -/
def portEnd (p : Nat) : Nat := if p < 2 then 1 else 2
def portAcross (p : Nat) : Nat := if p < 2 then p + 2 else p - 2

/-- An end with a port UP. -/
def State.endUp (s : State) (e : Nat) : Bool := (endPorts e).any s.lineUp

/-- The end toward position 1 under the orientation in force, and the end away from it (R94). -/
def State.headEnd (s : State) : Nat := if s.get INA_STATUS_ORIENT = 0 then 1 else 2
def State.tailEnd (s : State) : Nat := 3 - s.headEnd

/-- Own position, N, KEPT_LEN, topology counter. -/
abbrev State.position (s : State) : Nat := s.get INA_POS_POSITION
abbrev State.trainLen (s : State) : Nat := s.get INA_POS_VEH_COUNT
abbrev State.keptLen (s : State) : Nat := s.get INA_KEPT_KEPT_LEN
abbrev State.topo (s : State) : Nat := s.get INA_TOPO_COUNTER

/-- Roles of INA_STATUS.ROLE: 0 none, 1 head, 2 intermediate, 3 tail, 4 single vehicle. -/
abbrev roleNone : Nat := 0
abbrev roleHead : Nat := 1
abbrev roleMid : Nat := 2
abbrev roleTail : Nat := 3
abbrev roleSingle : Nat := 4

/-- The node is head: role head, or alone in its train (R28). -/
def State.isHead (s : State) : Bool :=
  s.get INA_STATUS_ROLE == roleHead || s.get INA_STATUS_ROLE == roleSingle

/-- AUTH in force: AUTH = 0 is accepted in MAKER and RETURN only (R143). -/
def State.authOn (s : State) : Bool := s.flag CYC_CFG_AUTH || !(s.lc == lcMaker || s.lc == lcReturn)

/-- The node sends cycle frames as head: not alone in its train (R122, R123). -/
def State.emitsCycles (s : State) : Bool :=
  s.get INA_STATUS_ROLE == roleHead && s.running && s.permission && !s.stackMember

/-- A MSG_ configuration field as in force since the last epoch (R160). -/
def State.msgCfg (s : State) (f : Field) : Nat := storeGet f s.msg.cfg

/-- The legacy position that stands at native position q in the block of a border node (R357). -/
def State.legacyAt (s : State) (q : Nat) : Option Nat :=
  let p := s.position
  let k := if s.get INA_STATUS_ORIENT = 0 then p - q else q - p
  if s.mode == modeBorder && decide (1 ≤ k ∧ k ≤ s.ina.blockL) then some k else none

/-- The native position of legacy position k (R357). -/
def State.legacyPos (s : State) (k : Nat) : Nat :=
  if s.get INA_STATUS_ORIENT = 0 then s.position - k else s.position + k

/-- The position is the node's own, or one of its block. -/
def State.inBlock (s : State) (q : Nat) : Bool := q == s.position || (s.legacyAt q).isSome

/-- Own stack position: that of STK_CFG in a stack, 0 otherwise. -/
def State.stackPos (s : State) : Nat := if s.flag STK_CFG_EN then s.get STK_CFG_POS else 0

/-- Own train address (R7, R8); position 0 before any commit counts as VEH_IDX 0. -/
def State.ownAddr (s : State) : Nat := 64 * (s.position - 1) + s.stackPos

/-! ### Train addresses (Table 0.3) -/

/-- GROUP, LOCAL, position and stack position of an address. -/
def addrGroup (a : Nat) : Bool := hasBit a 15
def addrLocal (a : Nat) : Bool := hasBit a 14
def addrPos (a : Nat) : Nat := bits a 6 8 + 1
def addrStk (a : Nat) : Nat := bits a 0 6
/-- Group number of a group address: 14 bits where LOCAL is not counted. -/
def addrGroupNo (a : Nat) : Nat := bits a 0 14

/-- The address of stack position k in the vehicle at position q. -/
def addrOf (q k : Nat) : Nat := 64 * (q - 1) + k

/-- The group of all devices of the train. -/
abbrev groupAll : Nat := 0xBFFF

/-- The node takes part in a group (R154). -/
def State.inGroup (s : State) (g : Nat) : Bool :=
  g == 0x3FFF || hasBit (s.msgCfg (MSG_GRP_MEMBER (g / 32))) (g % 32)

/-- The head's view of the stack members that can be reached (R465, R466): a single node reaches only
itself. -/
def State.stackHas (s : State) (k : Nat) : Bool :=
  k == s.stackPos ||
    (s.flag STK_CFG_EN && s.get STK_STATUS_STATE == 2 && s.bitAt STK_PRESENT_PRESENT k)

/-! ### Message frames as bytes (Table 5.4) -/

/-- The 16 header bytes. -/
def msgHeader (f : MsgFrame) : Bytes :=
  le 2 f.topo ++ le 2 f.dst ++ le 2 f.src ++ le 1 (f.type % 16 + 16 * (f.prio % 8)) ++ le 1 f.flags
    ++ le 2 f.seq ++ le 2 (f.len % 4096) ++ le 2 f.stream ++ zeros 2

/-- The check sequence over header and payload (R151). -/
def msgCrc (f : MsgFrame) : Nat := crc32 (msgHeader f ++ f.payload)

/-- The frame as sent on a line: FLAGS.LINE, and the check sequence that goes with it. -/
def msgSeal (line : Nat) (f : MsgFrame) : MsgFrame :=
  let f := { f with flags := clearBitOf f.flags 0 + line % 2 }
  { f with crc := msgCrc f }

/-- Stored length of a frame in an output queue: header and payload. -/
def msgStored (f : MsgFrame) : Nat := 16 + f.payload.length

/-- Code groups of a frame from /SM/ to /T/ (R151): two for /SM/, header, payload, check, /T/. -/
def msgCodeGroups (f : MsgFrame) : Nat := 22 + f.payload.length

/-! ### Output queues (R156) -/

/-- The state with the switch's hidden state changed. -/
def State.msgMap (s : State) (f : MsgState → MsgState) : State := { s with msg := f s.msg }

/-- The queue of a port and class. -/
def State.msgQueue (s : State) (p c : Nat) : List Queued := tabGet [] s.msg.queues (8 * p + c)

/-- The state with the queue of a port and class replaced; an empty queue is not listed. -/
def State.setMsgQueue (s : State) (p c : Nat) (q : List Queued) : State :=
  s.msgMap (fun m => { m with queues :=
    if q.isEmpty then tabErase (8 * p + c) m.queues else tabPut (8 * p + c) q m.queues })

/-- Queue depth of a class in bytes: KiB per port, below 4 taken as 4. -/
def State.msgDepth (s : State) (c : Nat) : Nat := 1024 * Nat.max 4 (s.msgCfg (MSG_QCFG_DEPTH c))

/-- The window of a bridge frame's owner, and its BSEQ. -/
def bridgeOwner (q : Queued) : Option (Nat × Nat) :=
  match q.owner with
  | some o => if 1024 ≤ o then some (o - 1024, ofLe (slice 4 2 q.frame.payload)) else none
  | none => none

/-- A frame leaves the switch without being sent: the bridge hears of its own (R281). -/
def State.msgDropped (s : State) (q : Queued) (status : Nat) : State :=
  match bridgeOwner q with
  | some (w, b) => s.brgCopyDropped w b status
  | none => s

/-- A frame is discarded at a queue and counted (R156). -/
def State.queueDrop (s : State) (q : Queued) : State :=
  ((s.bump MSG_STAT2_QUEUE_DROP).set MSG_EVENT_QUEUE_DROP 1).msgDropped q brgQueueDrop

/-- A frame enters the queue of a port and class, or finds it full (R156). -/
def State.enqueue (s : State) (p : Nat) (q : Queued) : State :=
  let c := q.frame.prio
  let cur := s.msgQueue p c
  if (cur.map (fun x => msgStored x.frame)).sum + msgStored q.frame ≤ s.msgDepth c then
    s.setMsgQueue p c (cur ++ [q])
  else s.queueDrop q

/-! ### The stack ring (R464, R465) -/

/-- The stack ring may run at this node: its mode, and neither a pair member nor a master without a unique ID (R23,
R458, R501). -/
def State.stackMode (s : State) : Bool :=
  s.flag STK_CFG_EN && !s.pairMember && (s.mode == modeNative || (s.mode == modeBorder && s.get STK_CFG_POS == 0)) &&
    !(s.get STK_CFG_POS == 0 && s.makerBlank)

/-- The stack ring runs at this node: its bypass is open (R458, R461). -/
def State.stackRuns (s : State) : Bool := s.stackMode && !s.stk.bypass && !s.flag STK_STATUS_DUP

/-- A frame of this node goes onto the ring, behind what waits in the forwarding buffer. -/
def State.stackSend (s : State) (f : MsgFrame) : State :=
  if s.stackRuns then s.emit (.stackFrame (msgSeal 0 f)) else s

/-- A frame goes onto the ring as it is (R464). -/
def State.stackRelay (s : State) (f : MsgFrame) : State := if s.stackRuns then s.emit (.stackFrame f) else s

/-- STK_STATUS.STATE as the ring leaves it: JOINING where it starts, OFF where it does not run, held in SAFE (R458,
R466, R472). -/
def State.stackState (s : State) : Nat :=
  if s.mode = modeSafe then s.get STK_STATUS_STATE
  else if s.stackRuns then Nat.max 1 (s.get STK_STATUS_STATE)
  else 0

/-- A frame that cannot be delivered (R154, R9). -/
def State.unroutable (s : State) : State := (s.bump MSG_STAT_UNROUTABLE).set MSG_EVENT_UNROUTABLE 1

/-! ### Local delivery (R154, R251) -/

/-- An ingress queue of the flow engine. -/
def State.ingress (s : State) (ch : Nat) : List Item := tabGet [] s.flw.ingress ch

/-- Depth of an ingress queue (R251): values below 15 are taken as 15. -/
def State.ingressDepth (s : State) : Nat := Nat.max 15 (s.get FLW_CFG_ING_DEPTH) + 1

/-- The state with the flow engine's hidden state changed. -/
def State.flwMap (s : State) (f : FlwState → FlwState) : State := { s with flw := f s.flw }

/-- The engine runs flows in these modes (R246). -/
def State.engineRuns (s : State) : Bool :=
  s.inModes [modeNative, modeBorder, modeStandby] && !s.flag FLW_STATUS_HALTED

/-- An item waits for a slice of its channel, or finds the ingress queue full (R251). Slot refreshes and
host items are not bounded by it. -/
def State.offer (s : State) (ch : Nat) (i : Item) : State :=
  if !s.inModes [modeNative, modeBorder, modeStandby] then s
  else
    let bounded := !(ch == 0x14 || bits ch 4 4 == 4)
    let q := s.ingress ch
    if bounded && decide (s.ingressDepth ≤ q.length) then (s.bump FLW_STAT_ING_DROP).pulse 49
    else s.flwMap (fun w => { w with
      ingress := tabPut ch (q ++ [{ i with arrival := w.arrivals }]) w.ingress, arrivals := w.arrivals + 1 })

/-- An item of the border translation waits for a slice of line port L1A: `sel` is the legacy position, 0 for
the border node itself (R360). -/
def State.offerLegacy (s : State) (k : Nat) (f : MsgFrame) : State :=
  s.offer 0x10 { ch := 0x10, sel := k, data := f.payload, frame := some f }

/-- A PD tube to a border node (Table 13.3). -/
def State.isPdTube (s : State) (f : MsgFrame) : Bool :=
  s.mode == modeBorder && f.stream == s.get INA_BDR_CFG_STREAM && hasBit f.flags 2 &&
    bits (ofLe (slice 0 1 f.payload)) 0 4 == 3

/-- A message frame is delivered at this node: data to the flow engine, anything else to its block. `ch` is
the channel code of the arrival port (R247). -/
def State.deliver (s : State) (ch : Nat) (f : MsgFrame) : State :=
  if f.type = 0 then
    if s.isPdTube f then s.offerLegacy 0 f
    else s.offer ch { ch := 0x15, sel := f.stream, data := f.payload, frame := some f }
  else s.msgMap (fun m => { m with inbox := m.inbox ++ [f] })

/-- A message frame to legacy position k of the own block: data is translated (R360), anything else acts at the
border node, which answers a bridge request with NO_TARGET (R275). -/
def State.deliverLegacy (s : State) (ch k : Nat) (f : MsgFrame) : State :=
  if f.type = 0 then s.offerLegacy k f else s.deliver ch f

/-! ### Origination (R154) -/

/-- Both copies of a frame of this node leave by an end, one per line. -/
def State.sendEnd (s : State) (e : Nat) (q : Queued) : State :=
  (endPorts e).foldl (fun s p => s.enqueue p { q with frame := msgSeal (p % 2) q.frame }) s

/-- The ends by which a frame of this node leaves; end 1 of a border node is no Nelmin end (R118). -/
def State.outEnds (s : State) (dst : Nat) : List Nat :=
  List.filter (fun e => !(s.mode == modeBorder && e == 1)) <|
  if addrLocal dst then []
  else if addrGroup dst then
    (if 1 < s.position then [s.headEnd] else []) ++ (if s.position < s.trainLen then [s.tailEnd] else [])
  else if addrPos dst < s.position then [s.headEnd]
  else if s.position < addrPos dst then [s.tailEnd]
  else []

/-- The number of line copies that a frame to an address makes. -/
def State.copiesTo (s : State) (dst : Nat) : Nat := 2 * (s.outEnds dst).length

/-- The channel in whose slices an origin item is served (R247): line A of its end, line B when line A is
not UP. -/
def State.originChannel (s : State) (e : Nat) : Nat :=
  match endPorts e with
  | [a, b] => if s.lineUp a then 0x10 + a else 0x10 + b
  | _ => 0x10

/-- The next SEQ of a class (Table 5.4). -/
def State.nextSeq (s : State) (c : Nat) : Nat := tabGet 0 s.msg.seqs c

/-- The node's own frame, with counter, source and SEQ of its class. Flow and bridge requests for class 7 go
in class 6 (R152). -/
def State.stampFrame (s : State) (f : MsgFrame) : MsgFrame × State :=
  let seq := s.nextSeq f.prio
  ({ f with topo := s.topo, src := s.ownAddr, seq := seq },
    s.msgMap (fun m => { m with seqs := tabPut f.prio ((seq + 1) % 65536) m.seqs }))

/-- The node's own frame, stamped, is routed (R154, R464, R465). `text` is the text that an authenticated
frame protects. Nothing leaves a node that is not in NATIVE or BORDER (R246). -/
def State.routeOwn (s : State) (f : MsgFrame) (owner : Option Nat) (text : Option Bytes := none) : State :=
  let q : Queued := ⟨f, true, owner, text⟩
  let dst := f.dst
  if !s.running then s
  else if s.stackMember then
    if !addrGroup dst && addrStk dst == s.stackPos && (addrLocal dst || addrPos dst == s.position) then
      s.deliver 0x80 f
    else if s.get STK_STATUS_STATE == 4 && !addrGroup dst && !addrLocal dst && !(addrPos dst == s.position)
      then s.unroutable
    else s.stackSend f
  else if addrGroup dst then
    let s := if s.flag STK_CFG_EN then s.stackSend f else s
    (s.outEnds dst).foldl (fun s e => s.sendEnd e q) s
  else if addrLocal dst || addrPos dst == s.position then
    if addrStk dst == s.stackPos then s.deliver 0x10 f
    else if s.stackHas (addrStk dst) then s.stackSend f
    else s.unroutable
  else if (s.legacyAt (addrPos dst)).isSome then
    s.deliverLegacy 0x10 ((s.legacyAt (addrPos dst)).getD 0) f
  else if s.trainLen < addrPos dst then s.unroutable
  else (s.outEnds dst).foldl (fun s e => s.sendEnd e q) s

/-- The node originates a message frame. -/
def State.originate (s : State) (f : MsgFrame) (owner : Option Nat) : State :=
  let (f, s) := s.stampFrame f
  s.routeOwn f owner

/-- A control frame of class 7 (Table 5.5). -/
def controlFrame (type dst : Nat) (payload : Bytes) : MsgFrame :=
  { topo := 0, dst := dst, src := 0, type := type, prio := 7, len := payload.length, payload := payload }

/-! ### Bridge frames (Table 10.1) and LOCK_FREE (R287) -/

/-- A bridge payload. -/
def brgPayload32 (op flags widthTarget win bseq tag addr : Nat) (data : Bytes) (status topo : Nat) : Bytes :=
  le 1 op ++ le 1 flags ++ le 1 widthTarget ++ le 1 win ++ le 2 bseq ++ le 2 tag ++ le 8 addr ++ fit 8 data
    ++ le 1 status ++ zeros 1 ++ le 2 topo ++ zeros 4

/-- A bridge message frame: TYPE 5, or TYPE 6 for a notice. -/
def brgFrame (type dst cls : Nat) (payload : Bytes) : MsgFrame :=
  { topo := 0, dst := dst, src := 0, type := type, prio := cls, len := 32, payload := payload }

/-- OP of LOCK_FREE. -/
abbrev opLockFree : Nat := 11

/-- The node would grant its target's lock to an origin (R287). -/
def State.wouldGrant (s : State) (origin : Nat) : Bool :=
  s.brg.lock.isNone && (s.get BRG_STATUS_LOCK_OUT == 0 || decide (origin < s.ownAddr))

/-- Recorded origins that would be granted now are sent a LOCK_FREE (R287). -/
def State.freeRefused (s : State) : State :=
  if !s.running then s
  else
    let go := s.brg.refused.filter (fun r => s.wouldGrant r.1)
    if go.isEmpty then s
    else
      let s := s.brgMap (fun b => { b with refused := b.refused.filter (fun r => !s.wouldGrant r.1) })
      go.foldl (fun s r => s.originate (brgFrame 5 r.1 r.2.2 (brgPayload32 opLockFree 0 0 r.2.1 0 0 0 [] 0 s.topo)) none) s

end Sys2Proof.Machine
end

