-- ==== Sys2Proof/Machine/CanOps.lean ====
section
/-! DEFINITION. The CAN channels as every block uses them: elements, transmit entries and their statuses,
entering listen-only, stopping (R219, R224, R227, R232). -/

namespace Sys2Proof.Machine

open Reg

/-! ### Channel states and statuses -/

/-- CANn_STATUS.STATE. -/
abbrev canStopped : Nat := 0
abbrev canIntegrating : Nat := 1
abbrev canRunning : Nat := 2
abbrev canBusOff : Nat := 3
abbrev canListen : Nat := 4
abbrev canHeld : Nat := 5
abbrev canRetired : Nat := 6
abbrev canLegacy : Nat := 7

/-- Transmit completion statuses (Table 8.4). -/
abbrev canSent : Nat := 0
abbrev canSentLate : Nat := 1
abbrev canCancelled : Nat := 2
abbrev canNotSent : Nat := 3
abbrev canOneShotFail : Nat := 4
abbrev canNotQueued : Nat := 5
abbrev canStoppedStatus : Nat := 6
abbrev canSuperseded : Nat := 7

/-- STATE of channel n. -/
def State.canState (s : State) (n : Nat) : Nat := s.get (CAN_STATUS_STATE n)

/-- The hidden state of a channel. -/
def State.chan (s : State) (n : Nat) : CanChannel := tabGet {} s.can n

/-- The state with a channel's hidden state replaced; TXQ_FILL, PINNED and the receive fills follow. -/
def State.setChan (s : State) (n : Nat) (c : CanChannel) : State :=
  { s with can := tabPut n c s.can }
    |>.set (CAN_STATUS_TXQ_FILL n) c.entries.length
    |>.setB (CAN_STATUS_PINNED n) c.pinned.isSome
    |>.set (CAN_RXQFILL_FILL0 n) c.rxq0.length
    |>.set (CAN_RXQFILL_FILL1 n) c.rxq1.length

/-- The state with a channel's hidden state changed. -/
def State.chanMap (s : State) (n : Nat) (f : CanChannel → CanChannel) : State := s.setChan n (f (s.chan n))

/-! ### Elements (Table 8.3) -/

/-- Words 0 and 1 of an element. -/
def elemWord0 (e : Bytes) : Nat := ofLe (slice 0 4 e)
def elemWord1 (e : Bytes) : Nat := ofLe (slice 4 4 e)

def elemIde (e : Bytes) : Bool := hasBit (elemWord0 e) 29
def elemRtr (e : Bytes) : Bool := hasBit (elemWord0 e) 30
/-- Identifier: 11 bits of a base identifier, 29 of an extended one. -/
def elemId (e : Bytes) : Nat := if elemIde e then bits (elemWord0 e) 0 29 else bits (elemWord0 e) 0 11
def elemDlc (e : Bytes) : Nat := bits (elemWord1 e) 0 4
def elemFdf (e : Bytes) : Bool := hasBit (elemWord1 e) 4
def elemBrs (e : Bytes) : Bool := hasBit (elemWord1 e) 5
def elemTag (e : Bytes) : Nat := bits (elemWord1 e) 16 8
def elemTt (e : Bytes) : Bool := hasBit (elemWord1 e) 24
def elemWin (e : Bytes) : Nat := bits (elemWord1 e) 25 5
def elemOneShot (e : Bytes) : Bool := hasBit (elemWord1 e) 30

/-- Data bytes of a DLC; classical DLC 9 to 15 means 8. -/
def dlcBytes (fdf : Bool) (dlc : Nat) : Nat :=
  if dlc ≤ 8 then dlc
  else if !fdf then 8
  else [12, 16, 20, 24, 32, 48, 64].getD (dlc - 9) 64

/-- Data length of an element: none in a remote frame. -/
def elemLen (e : Bytes) : Nat := if elemRtr e && !elemFdf e then 0 else dlcBytes (elemFdf e) (elemDlc e)

/-- Data bytes of an element. -/
def elemData (e : Bytes) : Bytes := slice 16 (elemLen e) e

/-- The element of a frame as received (Table 8.3). The bytes past the frame's data are undefined: `rest`
gives them. -/
def elemOf (f : CanFrame) (filter rxq time rest : Nat) : Bytes :=
  let n := if f.rtr && !f.fdf then 0 else dlcBytes f.fdf f.dlc
  le 4 (f.id % 2 ^ 29 + 2 ^ 29 * b2n f.ide + 2 ^ 30 * b2n f.rtr + 2 ^ 31 * b2n f.esi)
    ++ le 4 (f.dlc % 16 + 16 * b2n f.fdf + 32 * b2n f.brs + 256 * (filter % 64) + 2 ^ 14 * rxq)
    ++ le 8 time ++ fit n f.data ++ le (64 - n) rest

/-- Bits of a frame on the bus with worst-case stuffing, nominal and data phase: an element's frame from SOF to the end of EOF (R224, R237). -/
def elemBits (e : Bytes) : Nat × Nat :=
  let n := elemLen e
  if !elemFdf e then
    -- SOF, arbitration and control, data and CRC are stuffed; delimiters, ACK and EOF are not
    let stuffed := (if elemIde e then 39 else 19) + 8 * n + 15
    (stuffed + (stuffed - 1) / 4 + 10, 0)
  else
    let head := if elemIde e then 36 else 17
    let crc := if n ≤ 16 then 27 else 32
    let ctrl := 5 + 8 * n
    let stuff := (head + ctrl - 1) / 4
    let stuffNom := (head - 1) / 4
    if elemBrs e then (head + stuffNom + 10, ctrl + (stuff - stuffNom) + crc)
    else (head + ctrl + stuff + crc + 10, 0)

/-- Length of a nominal and of a data bit of channel n, in CLK_CAN periods of 12.5 ns (R217). -/
def State.nomBit (s : State) (n : Nat) : Nat :=
  (s.get (CAN_NBT_BRP n) + 1) * (1 + (s.get (CAN_NBT_TSEG1 n) + 1) + (s.get (CAN_NBT_TSEG2 n) + 1))
def State.dataBit (s : State) (n : Nat) : Nat :=
  (s.get (CAN_DBT_BRP n) + 1) * (1 + (s.get (CAN_DBT_TSEG1 n) + 1) + (s.get (CAN_DBT_TSEG2 n) + 1))

/-- Worst-case duration of an element's frame with intermission, in NTU, rounded up (R237). -/
def State.worstNtu (s : State) (n : Nat) (e : Bytes) : Nat :=
  let (a, d) := elemBits e
  ceilDiv ((a + 3) * s.nomBit n + d * s.dataBit n) (Nat.max 1 (s.nomBit n))

/-! ### Network time (R235) -/

/-- n network time units of channel c, ns. -/
def State.ntuNs (s : State) (c n : Nat) : Nat := n * s.nomBit c * 25 / 2

/-- Cycle time of channel c, NTU since the sync mark. -/
def State.cycleTime (s : State) (c : Nat) : Nat := (s.uptime - (s.chan c).syncAt) * 2 / (25 * Nat.max 1 (s.nomBit c))

/-- TTSTATUS.CYCLE_TIME of channel c brought up to the present. -/
def State.showCycleTime (s : State) (c : Nat) : State :=
  if s.get (CAN_TTSTATUS_TT_STATE c) = 0 ∨ !(s.chan c).refSeen then s else s.set (CAN_TTSTATUS_CYCLE_TIME c) (s.cycleTime c)

/-! ### Transmit entries -/

/-- A status returns to where the frame came from: a host ring with REPORT gets a TX_STATUS event (R227,
Table 11.9). -/
def State.txStatus (s : State) (report : Option (Nat × Nat)) (status sof : Nat) : State :=
  match report with
  | some (k, tag) =>
    s.groupEvent (ringGroup k) 0x05 (le 1 k ++ le 1 status ++ zeros 2 ++ le 4 tag ++ le 8 sof)
  | none => s

/-- An entry completes with a status of Table 8.4 and leaves the queue; its pin ends (R227, R231). -/
def State.canComplete (s : State) (n : Nat) (e : CanEntry) (status : Nat) : State :=
  let c := s.chan n
  let sent := status = canSent ∨ status = canSentLate
  let s := s.setChan n { c with
    entries := c.entries.filter (fun x => !(x.order == e.order))
    sending := if c.sending = some e.order then none else c.sending
    pinned := if c.pinned = some e.order then none else c.pinned }
  let s := if sent then s.bump (CAN_TXSTAT_SENT n)
    else if status = canCancelled then s.bump (CAN_TXSTAT_CANCELLED n) else s
  s.txStatus e.report status (if sent then c.sofAt else 0)

/-- Every entry of a list completes with one status. -/
def State.canCompleteAll (s : State) (n status : Nat) (l : List CanEntry) : State :=
  l.foldl (fun s e => s.canComplete n e status) s

/-- Pending entries complete with STOPPED; a frame in progress is cut (R227, R421). -/
def State.canStopEntries (s : State) (n : Nat) : State :=
  s.canCompleteAll n canStoppedStatus (s.chan n).entries
    |>.chanMap n (fun c => { c with sending := none, pinned := none, sendingRef := false, stopping := false })

/-- The channel can take a frame for transmission. -/
def State.canTakes (s : State) (n : Nat) : Bool :=
  let st := s.canState n
  s.running && (st == canIntegrating || st == canRunning || st == canBusOff) && !(s.chan n).stopping

/-- R224 refuses the element on channel n. -/
def State.canRefuses (s : State) (n : Nat) (e : Bytes) : Bool :=
  let kind := s.get (CAN_WIN_KIND n (elemWin e))
  decide (32 ≤ (s.chan n).entries.length) || !s.canTakes n
    || (elemFdf e && !s.flag (CAN_CFG_FD_EN n)) || (elemBrs e && !elemFdf e)
    || (elemTt e && (!s.flag (CAN_CFG_TT_EN n) || !(kind == 1 || kind == 2)
      || decide (s.get (CAN_WIN_LEN n (elemWin e)) < s.worstNtu n e)
      || s.get (CAN_TTSTATUS_TT_STATE n) == 1))

/-- The pending entry of a window that is not in transmission. -/
def canBound (c : CanChannel) (w : Nat) : Option CanEntry :=
  c.entries.find? (fun x => elemTt x.element && elemWin x.element == w && !(c.sending == some x.order))

/-- A flow places a frame into a transmit entry, or it is refused with NOT_QUEUED (R224). -/
def State.canEnqueue (s : State) (n : Nat) (element : Bytes) (flow : Nat) (report : Option (Nat × Nat)) : State :=
  if s.canRefuses n element then (s.bump (CAN_TXSTAT_NOT_QUEUED n)).txStatus report canNotQueued 0
  else
    let old := if elemTt element then canBound (s.chan n) (elemWin element) else none
    let s := match old with
      | some x => s.canComplete n x canSuperseded
      | none => s
    let c := s.chan n
    s.setChan n { c with
      entries := c.entries ++ [{ element := element, flow := flow, report := report, order := c.nextOrder
                                 offered := match old with | some x => x.offered | none => false }]
      nextOrder := c.nextOrder + 1 }

/-! ### Listen-only and stopping by mode (Table 8.1, R232) -/

/-- Entry into listen-only: pending entries complete with STOPPED. -/
def State.canEnterListen (s : State) (n : Nat) (forced : Bool) : State :=
  (s.canStopEntries n).set (CAN_STATUS_STATE n) canListen
    |>.chanMap n (fun c => { c with forced := forced })

/-- The channel integrates as at START: it waits for 11 recessive bits (R215, R241). -/
def State.canIntegrate (s : State) (n : Nat) : State :=
  (s.set (CAN_STATUS_STATE n) canIntegrating).chanMap n (fun c => { c with waitIdle := true, forced := false })

/-- Table 8.1 puts channel n into listen-only. -/
def State.canForced (s : State) (n : Nat) : Bool :=
  s.mode == modeStandby || (s.mode == modeNative && s.pairMember && !s.permission)
    || (s.mode == modeSafe && s.flag (CAN_CFG_SAFE_STATE n))

/-- The channels follow the mode: listen-only where Table 8.1 says so, their entries stopped where TXD is
recessive, and waiting for 11 recessive bits once they may transmit again (R214, R215, R227). -/
def State.canFollow (s : State) (n : Nat) : State :=
  if s.canState n == canRetired then s
  else if s.canForced n then
    if (s.chan n).forced then s else s.canEnterListen n true
  else if s.running then
    if (s.chan n).forced then s.canIntegrate n else s
  else if (s.chan n).entries.isEmpty then s
  else s.canStopEntries n

/-- The twelve channels. -/
abbrev canChannels : List Nat := [0, 1, 2, 3, 4, 5, 6, 7, 8, 9, 10, 11]

/-- Every channel follows the mode. -/
def State.canFollowAll (s : State) : State := canChannels.foldl State.canFollow s

end Sys2Proof.Machine
end

