-- ==== Sys2Proof/Machine/KeyOps.lean ====
section
/-! DEFINITION. The key vault as every block uses it: banks, storage keys, slot states, and the key a block
receives (R441–R447). -/

namespace Sys2Proof.Machine

open Reg

/-- Key purposes (Table 18.1). -/
abbrev purposeFrame : Nat := 1
abbrev purposeFlow : Nat := 2
abbrev purposeConfig : Nat := 3
abbrev purposeDebug : Nat := 4
abbrev purposeLifecycle : Nat := 5
abbrev purposeRecorder : Nat := 6

/-- STATE bytes of a commit record. -/
abbrev bankCommitted : Nat := 0x5A
abbrev bankPending : Nat := 0xA5

/-- Slot states (Table 18.2). -/
abbrev slotEmpty : Nat := 0
abbrev slotValid : Nat := 1
abbrev slotInterrupted : Nat := 2
abbrev slotMismatch : Nat := 3
abbrev slotCorrupt : Nat := 4

/-- A bank with every byte zero. -/
def zeroBank : KeyBank := {}

/-- Bank b of a slot. -/
def State.keyBank (s : State) (slot b : Nat) : KeyBank := tabGet zeroBank s.mram.banks (2 * slot + b)

/-- The state with a bank replaced; an all-zero bank is not listed. -/
def State.setBank (s : State) (slot b : Nat) (k : KeyBank) : State :=
  { s with mram := { s.mram with banks :=
    if k == zeroBank then tabErase (2 * slot + b) s.mram.banks else tabPut (2 * slot + b) k s.mram.banks } }

/-- Bytes 0–11 of a commit record (R441). -/
def bankRecord (k : KeyBank) : Bytes := le 4 k.gen ++ le 1 k.purpose ++ le 1 k.state ++ zeros 2 ++ le 4 k.kcv

/-- The CRC of a commit record is correct. -/
def bankCrcOk (k : KeyBank) : Bool := k.crc == crc32 (bankRecord k)

/-- A bank is committed. -/
def bankIsCommitted (k : KeyBank) : Bool := k.state == bankCommitted && bankCrcOk k

/-- A key as 32 bytes, and the first 4 bytes of its KCV (R441). -/
def kcvOf (key : Nat) : Nat := ofLe ((Config.hmacSha256 key (be 3 0x4B4356)).take 4)

/-- The root in use: the device root in PERSONALIZED and FIELD with debug closed, the substitute test root
otherwise (R443). -/
def State.usesDeviceRoot (s : State) : Bool :=
  (s.lc == lcPersonalized || s.lc == lcField) && !s.flag GLB_LC_DEBUG_OPEN
def State.keyRoot (s : State) : Nat := if s.usesDeviceRoot then s.otp.root else Config.testRoot

/-- The storage key of a bank (R444). -/
def State.storageKey (s : State) (slot b gen : Nat) : Nat :=
  Config.deriveKey s.keyRoot (le 1 slot ++ le 1 b ++ le 4 gen) % 2 ^ 256

/-- The bank in use: the committed bank with the higher GEN (R441). -/
def State.bankInUse (s : State) (slot : Nat) : Option Nat :=
  let k0 := s.keyBank slot 0
  let k1 := s.keyBank slot 1
  match bankIsCommitted k0, bankIsCommitted k1 with
  | true, true => some (if subMod 32 k1.gen k0.gen ≠ 0 ∧ subMod 32 k1.gen k0.gen < 2 ^ 31 then 1 else 0)
  | true, false => some 0
  | false, true => some 1
  | false, false => none

/-- The key of a bank with its mask removed. -/
def State.unmask (s : State) (slot b : Nat) : Nat :=
  let k := s.keyBank slot b
  Nat.xor k.data (s.storageKey slot b k.gen)

/-- The state of a slot as Table 18.2 gives it. -/
def State.slotState (s : State) (slot : Nat) : Nat :=
  match s.bankInUse slot with
  | none =>
    if s.keyBank slot 0 == zeroBank && s.keyBank slot 1 == zeroBank then slotEmpty else slotCorrupt
  | some b =>
    if kcvOf (s.unmask slot b) ≠ (s.keyBank slot b).kcv then slotMismatch
    else
      let o := s.keyBank slot (1 - b)
      if o == zeroBank || bankIsCommitted o then slotValid else slotInterrupted

/-- Purpose of a slot: that of its bank in use, EMPTY without one. -/
def State.slotPurpose (s : State) (slot : Nat) : Nat :=
  match s.bankInUse slot with
  | some b => (s.keyBank slot b).purpose
  | none => 0

/-- A slot is usable with a purpose (R442). -/
def State.slotUsable (s : State) (slot purpose : Nat) : Bool :=
  decide (slot < 64) && s.slotPurpose slot == purpose &&
    (s.slotState slot == slotValid || s.slotState slot == slotInterrupted)

/-- The lowest-numbered slot usable with a purpose (R442). -/
def State.slotOf (s : State) (purpose : Nat) : Option Nat :=
  (List.range 64).find? (fun i => s.slotUsable i purpose)

/-- The key of a slot that is usable with a purpose. -/
def State.keyFor (s : State) (slot purpose : Nat) : Option Nat :=
  if s.slotUsable slot purpose then (s.bankInUse slot).map (s.unmask slot) else none

/-- The slot status registers show the vault: GEN, BANK, PURPOSE and STATE of a slot. -/
def State.showSlot (s : State) (slot : Nat) : State :=
  let b := s.bankInUse slot
  s.set (KEY_SLOT_STATUS_STATE slot) (s.slotState slot)
    |>.set (KEY_SLOT_STATUS_PURPOSE slot) (s.slotPurpose slot)
    |>.set (KEY_SLOT_STATUS_BANK slot) (b.getD 0)
    |>.set (KEY_SLOT_STATUS_GEN slot) ((b.map (fun b => (s.keyBank slot b).gen)).getD 0)

/-- All slot status registers show the vault. -/
def State.showSlots (s : State) : State := (List.range 64).foldl State.showSlot s

/-- The FLOW key slot of a flow in the epoch e (R451). -/
def flowSlot (slot e : Nat) : Nat := 2 * (slot % 64 / 2) + e

/-- The FRAME slot of an epoch (R448). -/
def State.frameSlot (s : State) (e : Nat) : Nat :=
  if e = 0 then s.get KEY_EPOCH_FRAME_SLOT0 else s.get KEY_EPOCH_FRAME_SLOT1

/-- An authenticated command's message: UID, nonce, code, argument (R50). -/
def State.authMessage (s : State) (code arg : Nat) : Bytes :=
  le 8 (s.get GLB_UID_UID) ++ le 16 (s.get GLB_AUTH_NONCE_NONCE) ++ le 2 code ++ le 2 arg

/-- The nonce is drawn afresh (R50). -/
def State.renewNonce (s : State) : State :=
  let (n, s) := s.random 128
  s.set GLB_AUTH_NONCE_NONCE n

end Sys2Proof.Machine
end

