-- ==== Sys2Proof/Machine/Operands.lean ====
section
/-! DEFINITION. The operand forms that commands and contexts share: channel codes. A train address stands in
`Sys2Proof/Machine/MsgOps.lean`, the paths and requesters of an access in `Sys2Proof/Types.lean`. -/

namespace Sys2Proof.Machine

/-- Channel codes (Table 9.1): SLOT, MSG, HOST, BRIDGE, RECORDER, GPIO, STACK, MAINT. -/
abbrev chSlot : Nat := 0x14
abbrev chMsg : Nat := 0x15
abbrev chHost : Nat := 0x40
abbrev chBridge : Nat := 0x50
abbrev chRecorder : Nat := 0x60
abbrev chGpio : Nat := 0x70
abbrev chStack : Nat := 0x80
abbrev chMaint : Nat := 0x90

/-- A channel code's class, bits 7:4, and its index in the class, bits 3:0. -/
def chClass (c : Nat) : Nat := bits c 4 4
def chIndex (c : Nat) : Nat := bits c 0 4

/-- The retirable channels (R267), in the order of FLW_RETIRED: lines, consist ports, CAN, STACK, GPIO. -/
def retirable : List Nat :=
  [0x10, 0x11, 0x12, 0x13, 0x20, 0x21, 0x22, 0x23, 0x24, 0x25, 0x26, 0x27,
   0x30, 0x31, 0x32, 0x33, 0x34, 0x35, 0x36, 0x37, 0x38, 0x39, 0x3A, 0x3B, 0x80, 0x70]

end Sys2Proof.Machine
end

