-- ==== Sys2Proof/Machine/FlwOps.lean ====
section
/-! DEFINITION. The flow engine as every block uses it: flow statuses, matching, running a flow on an item,
binding at a commit, retirement and shedding (R251–R270). -/

namespace Sys2Proof.Machine

open Reg

/-! ### Statuses (Table 9.6) -/

abbrev flowDisabled : Nat := 0
abbrev flowActive : Nat := 1
abbrev flowResolving : Nat := 2
abbrev flowUidAbsent : Nat := 3
abbrev flowTopoChanged : Nat := 4
abbrev flowSrcRetired : Nat := 5
abbrev flowDstRetired : Nat := 6
abbrev flowStale : Nat := 7
abbrev flowShed : Nat := 8
abbrev flowKeyExhausted : Nat := 9

/-- All flow numbers. -/
def allFlows : List Nat := List.range 1024

/-- Flows with EN = 1, in ascending number. -/
def State.enabledFlows (s : State) : List Nat := allFlows.filter (fun f => s.flag (FCTX_EN f))

/-- STATUS of flow f. -/
def State.flowStatus (s : State) (f : Nat) : Nat := s.get (FCTX_STATUS f)

/-- FLW_STATUS.ACTIVE counts statuses ACTIVE and STALE. -/
def flowCounts (st : Nat) : Bool := st == flowActive || st == flowStale

/-- A flow is not yet fresh after a variant B take-over (R380). -/
def State.notFresh (s : State) (f : Nat) : Bool := s.flag PAIR_STATUS_PENDING && !s.pair.freshFlows.contains f

/-- AREA_FLAGS.DEGRADED: a slot-publication flow is STALE or SOURCE_RETIRED (R259), or not yet fresh (R380). -/
def State.areaDegraded (s : State) : Bool :=
  s.enabledFlows.any (fun f => s.get (FCTX_DST_CH f) == chSlot &&
    (s.flowStatus f == flowStale || s.flowStatus f == flowSrcRetired || s.notFresh f))

/-- The status of a flow is set, without report. -/
def State.putFlowStatus (s : State) (f st : Nat) : State :=
  let old := s.flowStatus f
  let s := s.set (FCTX_STATUS f) st
  let n := s.get FLW_STATUS_ACTIVE
  let s := if flowCounts st && !flowCounts old then s.set FLW_STATUS_ACTIVE (n + 1)
    else if !flowCounts st && flowCounts old then s.set FLW_STATUS_ACTIVE (n - 1) else s
  if s.get (FCTX_DST_CH f) = chSlot then { s with cyc := { s.cyc with degraded := s.areaDegraded } } else s

/-- A change of a flow's status other than by DISABLE; one out of ACTIVE is reported (R255). -/
def State.setFlowStatus (s : State) (f st : Nat) : State :=
  let old := s.flowStatus f
  if old = st then s
  else
    let s := s.putFlowStatus f st
    if old = flowActive then
      let s := (s.setBit (FLW_SUSP_SUSP (f / 32)) (f % 32)).set FLW_EVENT_FLOW_STATUS 1
      let s := s.hostEvent 0x04 (le 2 f ++ le 1 st ++ le 1 old ++ le 2 (s.get (FCTX_RES_POS f)))
      if s.get (FCTX_CRIT f) = 2 then s.pulse 27 else s
    else s

/-! ### Binding (R114, R254–R256) -/

/-- The position of a vehicle UID in the UID table. -/
def State.uidPosition (s : State) (uid : Nat) : Option Nat :=
  (s.ina.uids.find? (fun e => e.2 == uid)).map (·.1)

/-- A UID-bound flow resolves, or waits. -/
def State.resolveFlow (s : State) (f : Nat) : State :=
  match s.uidPosition (s.get (FCTX_BIND_UID f)) with
  | some q => (s.set (FCTX_RES_POS f) q).setFlowStatus f flowActive
  | none => s

/-- The RESOLVING flows whose UID the table now holds become ACTIVE (R256). -/
def State.resolveFlows (s : State) : State :=
  (s.enabledFlows.filter (fun f => s.flowStatus f == flowResolving)).foldl State.resolveFlow s

/-- At the close of the first window after a commit the flows still RESOLVING become UID_ABSENT (R256). -/
def State.absentFlows (s : State) : State :=
  (s.enabledFlows.filter (fun f => s.flowStatus f == flowResolving)).foldl
    (fun s f => s.setFlowStatus f flowUidAbsent) s

/-- A flow that the retirement of a channel or of a key has stopped stays as it is at a commit. -/
def flowHeld (st : Nat) : Bool :=
  st == flowDisabled || st == flowSrcRetired || st == flowDstRetired || st == flowKeyExhausted

/-- The outcome of a commit for one flow (Table 4.5). -/
def State.flowAtCommit (kept : Bool) (keptLen : Nat) (s : State) (f : Nat) : State :=
  let st := s.flowStatus f
  if flowHeld st then s
  else match s.get (FCTX_BIND f) with
    | 1 =>
      if st = flowTopoChanged ∨ (kept ∧ s.get (FCTX_BIND_POS f) ≤ keptLen) then s
      else (s.set (FCTX_RES_POS f) 0).setFlowStatus f flowTopoChanged
    | 2 => ((s.set (FCTX_RES_POS f) 0).setFlowStatus f flowResolving).resolveFlow f
    | _ => s

/-- The outcome of a commit for every enabled flow. -/
def State.flowsAtCommit (s : State) (kept : Bool) (keptLen : Nat) : State :=
  s.enabledFlows.foldl (State.flowAtCommit kept keptLen) s

/-! ### IVCNT (R261) -/

/-- The next value of IVCNT, or none when it is exhausted; the reservation in MRAM follows. -/
def State.takeIv (s : State) : Option Nat × State :=
  if s.flw.ivDone then (none, s)
  else
    let v := s.get FLW_IVCNT_IVCNT
    let s := if v = 0xF0000000 then s.set FLW_EVENT_IV_WARN 1 else s
    let s := if v + 1 = 2 ^ 32 then s.flwMap (fun w => { w with ivDone := true }) else s
    let s := s.set FLW_IVCNT_IVCNT (v + 1)
    let s := if s.mram.ivReserved ≤ v + 1 then
      { s with mram := { s.mram with ivReserved := v + 1 + 2 ^ 24 } } else s
    (some v, s)

/-- Every authenticated flow becomes KEY_EXHAUSTED once IVCNT is exhausted. -/
def State.exhaustKeys (s : State) : State :=
  if !s.flw.ivDone then s
  else (s.enabledFlows.filter (fun f => !(s.get (FCTX_AUTH f) == 0) && !flowHeld (s.flowStatus f))).foldl
    (fun s f => s.setFlowStatus f flowKeyExhausted) s

/-- The FLOW epoch in force. -/
abbrev State.flowEpoch (s : State) : Nat := s.get KEY_EPOCH_FLOW_ACTIVE

/-! ### Matching (Table 9.5, R252) -/

/-- A selector's SLOT range: offset and length. -/
def slotRange (sel : Nat) : Nat × Nat := (bits sel 0 10, bits sel 10 11)

/-- CAN source selector of a flow against an element from queue q. -/
def canMatches (sel : Nat) (q : Nat) (e : Bytes) : Bool :=
  let id := bits sel 0 29
  let queue := bits sel 30 2
  let mask := bits sel 32 29
  Nat.land (Nat.xor id (elemId e)) mask == 0 && hasBit sel 29 == elemIde e
    && (queue == 0 || queue == q + 1)

/-- The binding of a flow takes a position as source. -/
def State.boundTo (s : State) (f q : Nat) : Bool :=
  s.get (FCTX_BIND f) == 0 || s.get (FCTX_RES_POS f) == q

/-- Flow f has the item's channel and selector as its source; a message that came by the stack ring is a delivered message
too. -/
def State.flowMatches (s : State) (i : Item) (f : Nat) : Bool :=
  let sel := s.get (FCTX_SRC_SEL f)
  let src := s.get (FCTX_SRC_CH f)
  let message := match i.frame with
    | some m => m.stream == s.get (FCTX_STREAM f) && s.boundTo f (addrPos m.src)
    | none => false
  (i.ch == chStack && src == chMsg && message) || src == i.ch &&
    (match chClass i.ch with
      | 1 => if i.ch = chSlot then s.boundTo f i.sel && !(s.get (FCTX_BIND f) == 0) else message
      | 2 => bits sel 0 10 == i.sel
      | 3 => canMatches sel i.sel i.data
      | 4 => bits sel 0 6 == i.sel
      | 7 => if hasBit sel 32 then i.sel == 0 else !(Nat.land (bits sel 0 32) i.sel == 0)
      | 8 => bits sel 0 6 == i.sel
      | _ => false)

/-- The enabled flows that an item matches, in ascending number. -/
def State.matching (s : State) (i : Item) : List Nat := s.enabledFlows.filter (s.flowMatches i)

/-! ### Tunnels and authentication (R260–R264) -/

/-- KIND of a wrapped item by its channel (Table 9.7). -/
def tubeKindOf (i : Item) : Nat :=
  match chClass i.ch with
  | 3 => 1
  | 2 => 2
  | 4 => if i.tubeKind = 0 then 4 else i.tubeKind
  | _ => 4

/-- The wrapped frame of an item (R263). -/
def wrapped (i : Item) : Bytes :=
  match chClass i.ch with
  | 3 => slice 0 4 i.data ++ le 4 (elemWord1 i.data % 64) ++ elemData i.data
  | 2 => i.head ++ i.data
  | _ => i.data

/-- Tube header and wrapped frame; none where the frame is too long (R262). -/
def tubePayload (i : Item) (auth : Bool) : Option Bytes :=
  let w := wrapped i
  if w.length ≤ (if auth then 2012 else 2044) then
    some (le 1 (tubeKindOf i) ++ le 1 i.ch ++ le 2 w.length ++ w)
  else none

/-- A destination takes a KIND (R264). G-line reaches HOST, or a G-line port in BORDER. -/
def State.takesKind (s : State) (dst kind : Nat) : Bool :=
  match kind with
  | 1 => chClass dst == 3 || chClass dst == 4
  | 2 => chClass dst == 2 || chClass dst == 4
  | 3 => chClass dst == 4 || (s.mode == modeBorder && (dst == 0x10 || dst == 0x11))
  | 4 => chClass dst == 4
  | _ => false

/-- The item that a tube delivers: an element for a CAN destination, the payload for a consist one, the
wrapped bytes otherwise. -/
def unwrapped (dst kind : Nat) (w : Bytes) : Item :=
  if kind = 1 then { ch := 0x30, sel := 0, data := fit 80 (slice 0 8 w ++ zeros 8 ++ w.drop 8) }
  else if kind = 2 ∧ chClass dst = 2 then { ch := 0x20, sel := 0, data := w.drop 8, head := w.take 8 }
  else { ch := chMsg, sel := 0, data := w }

/-- The first 16 trailer bytes (R260). -/
def trailerHead (uid iv epoch : Nat) : Bytes := le 8 uid ++ le 4 iv ++ le 1 epoch ++ zeros 3

/-- Additional authenticated data of a frame: header with LINE 0, first trailer bytes, and the text where it
is not encrypted. -/
def authData (f : MsgFrame) (head text : Bytes) (auth : Nat) : Bytes :=
  msgHeader { f with flags := clearBitOf f.flags 0 } ++ head ++ (if auth = 2 then [] else text)

/-- The payload of an authenticated frame: protected text and trailer (R260). `f` is the frame as it is
sent. -/
def protect (key uid iv epoch auth : Nat) (f : MsgFrame) (text : Bytes) : Bytes :=
  let head := trailerHead uid iv epoch
  let ivBytes := le 8 uid ++ le 4 iv
  let aad := authData f head text auth
  let body := if auth = 2 then fit text.length (Config.gcmEncrypt key ivBytes aad text) else text
  body ++ head ++ fit 16 (Config.gcmTag key ivBytes aad (if auth = 2 then body else []))

/-- A received frame's protected text, origin and IVCNT where its tag verifies in the epoch in force. -/
def State.verifyFlow (s : State) (f : Nat) (m : MsgFrame) : Option (Bytes × Nat × Nat) :=
  let auth := s.get (FCTX_AUTH f)
  let n := m.payload.length - 32
  let body := m.payload.take n
  let head := slice n 16 m.payload
  let tag := slice (n + 16) 16 m.payload
  let uid := ofLe (slice 0 8 head)
  let iv := ofLe (slice 8 4 head)
  let epoch := ofLe (slice 12 1 head)
  if m.payload.length < 32 ∨ !hasBit m.flags 1 ∨ epoch ≠ s.flowEpoch then none
  else match s.keyFor (flowSlot (s.get (FCTX_KEY_SLOT f)) epoch) purposeFlow with
    | none => none
    | some key =>
      let ivBytes := le 8 uid ++ le 4 iv
      let aad := authData m head body auth
      if tag == fit 16 (Config.gcmTag key ivBytes aad (if auth = 2 then body else [])) then
        some (if auth = 2 then fit n (Config.gcmDecrypt key ivBytes aad body) else body, uid, iv)
      else none

/-- REPLAY takes an IVCNT of an origin: whether it is above the last one held, and the state with the pair
updated; the older of two origins gives way (R260). -/
def State.replayTake (s : State) (f uid iv : Nat) : Bool × State :=
  let u0 := s.get (FCTX_REPLAY_UID f 0)
  let i0 := s.get (FCTX_REPLAY_IV f 0)
  let u1 := s.get (FCTX_REPLAY_UID f 1)
  let i1 := s.get (FCTX_REPLAY_IV f 1)
  if u0 = uid then (decide (i0 < iv), if i0 < iv then s.set (FCTX_REPLAY_IV f 0) iv else s)
  else
    let front := ((s.set (FCTX_REPLAY_UID f 0) uid).set (FCTX_REPLAY_IV f 0) iv).set (FCTX_REPLAY_UID f 1) u0
      |>.set (FCTX_REPLAY_IV f 1) i0
    if u1 = uid then (decide (i1 < iv), if i1 < iv then front else s) else (true, front)

/-- A frame or item fails a flow's authentication (R260). -/
def State.authFail (s : State) (f : Nat) : State := (s.bump (FCTX_AUTH_FAIL f)).bump FLW_STAT2_AUTH_FAIL

/-- An item does not fit a tunnel (R262, R264). -/
def State.tubeErr (s : State) : State := s.bump FLW_STAT2_TUBE_ERR

/-! ### Destinations -/

/-- A publication is committed into the own area (R25): OFFSET and LEN of DST_SEL, the item cut or filled
with zeros to LEN. -/
def State.publish (s : State) (f : Nat) (data : Bytes) : State :=
  let (off, len) := slotRange (s.get (FCTX_DST_SEL f))
  let size := 16 * s.get CYC_CFG_SLOT_SIZE
  { s with cyc := { s.cyc with
      pub := splice off (fit len data) (fit (Nat.max size (off + len)) s.cyc.pub)
      pubSeq := (s.cyc.pubSeq + 1) % 256 } }

/-- The smallest data length code that holds n bytes. -/
def dlcFor (fdf : Bool) (n : Nat) : Nat :=
  if n ≤ 8 then n
  else if !fdf then 8
  else if n ≤ 12 then 9 else if n ≤ 16 then 10 else if n ≤ 20 then 11 else if n ≤ 24 then 12
  else if n ≤ 32 then 13 else if n ≤ 48 then 14 else 15

/-- An item is a CAN element: it comes from a CAN channel, a CAN tube or a host ring. -/
def itemIsCan (i : Item) : Bool := chClass i.ch == 3 || chClass i.ch == 4

/-- The element that a flow places on a CAN channel (Table 9.5, R264). With USE_ID = 1 the bytes that fill
up the data to its length code are open values (notes/assumptions/14.md). -/
def State.elementFor (s : State) (f : Nat) (i : Item) : Bytes × State :=
  let sel := s.get (FCTX_DST_SEL f)
  let w1 := 2 ^ 16 * bits sel 0 8 + 2 ^ 24 * bit sel 8 + 2 ^ 25 * bits sel 9 5
    + 2 ^ 30 * s.get (FCTX_ONE_SHOT f)
  if !hasBit sel 14 then
    (le 4 (elemWord0 i.data % 2 ^ 31) ++ le 4 (elemWord1 i.data % 64 + w1) ++ zeros 8 ++ slice 16 64 i.data, s)
  else
    let fdf := hasBit sel 62
    let data := if itemIsCan i then elemData i.data else i.data.take (if fdf then 64 else 8)
    let dlc := dlcFor fdf data.length
    let n := dlcBytes fdf dlc
    let (pad, s) := if data.length < n then s.draw (8 * (n - data.length)) else (0, s)
    (le 4 (bits sel 32 29 + 2 ^ 29 * bit sel 61)
        ++ le 4 (dlc + 16 * bit sel 62 + 32 * bit sel 63 + w1) ++ zeros 8
        ++ fit 64 (data ++ le (n - data.length) pad), s)

/-- A message frame of a flow (R154, R260, R262). `stale` marks nothing here. -/
def State.sendMessage (s : State) (f : Nat) (i : Item) : State :=
  let sel := s.get (FCTX_DST_SEL f)
  let auth := s.get (FCTX_AUTH f)
  let tube := s.get (FCTX_TUBE f) == 1
  let dst := if s.get (FCTX_BIND f) = 0 then bits sel 16 16
    else addrOf (s.get (FCTX_RES_POS f)) (bits sel 8 6)
  let text := if tube then tubePayload i (!(auth == 0)) else some i.data
  match text with
  | none => s.tubeErr
  | some text =>
    let len := text.length + (if auth = 0 then 0 else 32)
    if 2048 < len then s.tubeErr
    else
      let base : MsgFrame :=
        { topo := 0, dst := dst, src := 0, type := 0, prio := Nat.min 6 (bits sel 0 3),
          flags := (if auth = 0 then 0 else 2) + (if tube then 4 else 0), len := len,
          stream := s.get (FCTX_STREAM f), payload := text }
      if auth = 0 then s.originate base (some f)
      else match s.keyFor (flowSlot (s.get (FCTX_KEY_SLOT f)) s.flowEpoch) purposeFlow with
        | none => s.authFail f
        | some key =>
          match s.takeIv with
          | (none, s) => s.exhaustKeys
          | (some iv, s) =>
            let (m, s) := s.stampFrame base
            let m := { m with payload := protect key s.ownUid iv s.flowEpoch auth m text }
            (s.routeOwn m (some f) (some text)).exhaustKeys

/-- Outputs driven by a GPIO flow: item bytes 0 to 3 under the mask (R265). -/
def State.driveGpio (s : State) (mask : Nat) (data : Bytes) : State :=
  let v := ofLe (slice 0 4 data)
  s.set FLW_GPIO_OUT_OUT (Nat.lor (andNot (s.get FLW_GPIO_OUT_OUT) mask) (Nat.land v mask))

/-- How a flow runs: on an item, with its last value held stale, or with SAFE_VAL (R258). -/
inductive RunKind where
  | item | hold | safe
  deriving DecidableEq, Repr

/-- Content committed for a FRAME_ID: those not yet 2 µs old stand beside the newest that is (R198). -/
def State.commitConsist (s : State) (id : Nat) (data : Bytes) : State :=
  let (sent, l) := tabGet ([], []) s.cst.tx id
  let young := l.filter (fun e => decide (s.uptime < e.2 + 2000))
  let old := (l.filter (fun e => decide (e.2 + 2000 ≤ s.uptime))).take 1
  { s with cst := { s.cst with tx := tabPut id (sent, (data, s.uptime) :: young ++ old) s.cst.tx } }

/-- The item reaches the destination of flow f. `flags` are RFLAGS bits 2 and 3: unwrapped tube, tag
verified. -/
def State.deliverFlow (s : State) (f : Nat) (i : Item) (kind : RunKind) (flags : Nat) : State :=
  let dst := s.get (FCTX_DST_CH f)
  let sel := s.get (FCTX_DST_SEL f)
  let marks := flags + (match kind with | .item => 0 | .hold => 1 | .safe => 2)
  match chClass dst with
  | 1 => if dst = chSlot then s.publish f i.data
    else if dst = chMsg then s.sendMessage f i
    else s.tubeErr
  | 2 => s.commitConsist (bits sel 0 10) i.data
  | 3 => let (e, s) := s.elementFor f i; s.canEnqueue (chIndex dst) e f i.report
  | 4 => s.rxFill (64 + bits sel 0 6) (s.get (FCTX_SRC_CH f)) marks f i.data
  | 7 => s.driveGpio (bits sel 0 32) i.data
  | 8 => s.stackSend { topo := s.topo, dst := 0x4000 + bits sel 0 6, src := s.ownAddr, type := 0, prio := 0,
                       len := i.data.length, stream := s.get (FCTX_STREAM f), payload := i.data }
  | _ => s

/-- An item that arrived after the decision makes a flow fresh (R380). -/
def State.itemFresh (s : State) (i : Item) (kind : RunKind) : Bool :=
  decide (kind = .item) && decide (s.pair.freshFrom ≤ i.arrival)

/-- A flow that is not yet fresh sends nothing, drives no output and publishes nothing from an older item (R380). -/
def State.heldBack (s : State) (f : Nat) (i : Item) (kind : RunKind) : Bool :=
  s.notFresh f && !s.itemFresh i kind && [1, 2, 3, 7].contains (chClass (s.get (FCTX_DST_CH f)))

/-- A flow has become fresh; PENDING ends with the last (R380). -/
def State.markFresh (s : State) (f : Nat) : State :=
  let fresh := f :: s.pair.freshFlows
  let out := if s.get (FCTX_DST_CH f) = chGpio then bits (s.get (FCTX_DST_SEL f)) 0 32 else 0
  let p := { s.pair with freshFlows := fresh, outputsFresh := Nat.lor s.pair.outputsFresh out }
  let s := { s with pair := p }
  let s := if s.enabledFlows.all fresh.contains then s.set PAIR_STATUS_PENDING 0 else s
  { s with cyc := { s.cyc with degraded := s.areaDegraded } }

/-- A flow has processed an item. -/
def State.flowDone (s : State) (f : Nat) (i : Item) (kind : RunKind) : State :=
  let s := (s.wrapUp (FCTX_ITEMS f)).set (FCTX_LAST_TIME f) s.uptime
  if s.notFresh f && s.itemFresh i kind then s.markFresh f else s

/-- An item reaches the flow's destination unless the flow is held back; it counts as processed. -/
def State.finishItem (s : State) (f : Nat) (i it : Item) (kind : RunKind) (flags : Nat) : State :=
  (if s.heldBack f i kind then s else s.deliverFlow f it kind flags).flowDone f i kind

/-- An item passes the flow's tag check, tunnel and destination. -/
def State.passItem (s : State) (f : Nat) (i : Item) (kind : RunKind) : State :=
  let dst := s.get (FCTX_DST_CH f)
  let checked : Option (Bytes × Nat) × State :=
    match i.frame with
    | some m =>
      if s.get (FCTX_AUTH f) = 0 ∨ i.ch ≠ chMsg then (some (i.data, 0), s)
      else match s.verifyFlow f m with
        | none => (none, s.authFail f)
        | some (text, uid, iv) =>
          match s.replayTake f uid iv with
          | (true, s) => (some (text, 8), s)
          | (false, s) => (none, s.authFail f)
    | none => (some (i.data, 0), s)
  match checked with
  | (none, s) => s
  | (some (text, mark), s) =>
    if s.get (FCTX_TUBE f) = 2 then
      let tubed := match i.frame with | some m => hasBit m.flags 2 | none => false
      let k := bits (ofLe (slice 0 1 text)) 0 4
      let n := bits (ofLe (slice 2 2 text)) 0 12
      if !tubed || !s.takesKind dst k || decide (text.length < 4 + n) then s.tubeErr
      else
        let w := slice 4 n text
        let it := if chClass dst = 4 then { ch := chMsg, sel := 0, data := w } else unwrapped dst k w
        s.finishItem f i it kind (mark + 4)
    else s.finishItem f i { i with data := text } kind mark

/-- A flow's item is charged to its token bucket, or discarded and counted (R257); then it takes its path. -/
def State.policeItem (s : State) (f : Nat) (i : Item) (kind : RunKind) : State :=
  let len := i.data.length
  if s.get (FCTX_RATE f) = 0 then s.passItem f i kind
  else if s.get (FCTX_BUCKET f) < len then (s.bump (FCTX_POL_DROP f)).bump FLW_STAT2_POL_DROP
  else (s.set (FCTX_BUCKET f) (s.get (FCTX_BUCKET f) - len)).passItem f i kind

/-- One flow runs on an item: status, policing, shedding (R270), then its path. The last item of a consist or
stack source stays held (R258, R467). -/
def State.runFlow (s : State) (f : Nat) (i : Item) : State :=
  let st := s.flowStatus f
  if st = flowShed then s.bump FLW_STAT_SHED_DROP
  else if !flowCounts st then s
  else
    let s := if st = flowStale then s.setFlowStatus f flowActive else s
    let s := if chClass i.ch = 2 ∨ chClass i.ch = 8 then s.flwMap (fun w => { w with last := tabPut f i w.last }) else s
    s.policeItem f i .item

/-! ### Retirement and shedding (R267, R268, R270) -/

/-- A slice table word without a channel: its entries become SPARE. -/
def spareWord (ch w : Nat) : Nat :=
  (List.range 4).foldl (fun a j => a + 2 ^ (8 * j) * (if bits w (8 * j) 8 = ch then 0 else bits w (8 * j) 8)) 0

/-- Every slice table entry of a channel becomes SPARE. -/
def State.spareSlices (s : State) (ch : Nat) : State :=
  (List.range 16).foldl (fun s w =>
    (s.set (FLW_SLICE_ENTRY w) (spareWord ch (s.get (FLW_SLICE_ENTRY w)))).set (FLW_SLICE_SH_ENTRY w)
      (spareWord ch (s.get (FLW_SLICE_SH_ENTRY w)))) s

/-- A channel's bit in FLW_RETIRED is set. -/
def State.isRetired (s : State) (ch : Nat) : Bool :=
  match chClass ch with
  | 1 => s.bitAt FLW_RETIRED_LINE (chIndex ch)
  | 2 => s.bitAt FLW_RETIRED_CONSIST (chIndex ch)
  | 3 => s.bitAt FLW_RETIRED_CAN (chIndex ch)
  | 7 => s.flag FLW_RETIRED_GPIO
  | 8 => s.flag FLW_RETIRED_STACK
  | _ => false

/-- The state with a channel's bit in FLW_RETIRED set. -/
def State.markRetired (s : State) (ch : Nat) : State :=
  match chClass ch with
  | 1 => s.setBit FLW_RETIRED_LINE (chIndex ch)
  | 2 => s.setBit FLW_RETIRED_CONSIST (chIndex ch)
  | 3 => s.setBit FLW_RETIRED_CAN (chIndex ch)
  | 7 => s.set FLW_RETIRED_GPIO 1
  | 8 => s.set FLW_RETIRED_STACK 1
  | _ => s

/-- A flow's source or destination is the channel. Flows of one line's message items are not bound to it. -/
def State.retireFlow (ch : Nat) (s : State) (f : Nat) : State :=
  if flowHeld (s.flowStatus f) then s
  else if s.get (FCTX_SRC_CH f) = ch then s.setFlowStatus f flowSrcRetired
  else if s.get (FCTX_DST_CH f) = ch then s.setFlowStatus f flowDstRetired
  else s

/-- A channel retires: cause 0 BOOT self-test, 1 in-service test (R267, R268). -/
def State.retire (s : State) (ch cause : Nat) : State :=
  if !retirable.contains ch || s.isRetired ch then s
  else
    let s := ((s.markRetired ch).spareSlices ch).set FLW_EVENT_RETIRED 1
    let s := s.pulse 26
    let s := s.record 0xC000 0x5001 (le 1 ch ++ le 1 cause)
    let s := if chClass ch = 3 then
        (s.canStopEntries (chIndex ch)).set (CAN_STATUS_STATE (chIndex ch)) canRetired else s
    s.enabledFlows.foldl (State.retireFlow ch) s

/-- A flow that shedding pauses (R270). -/
def State.sheddable (s : State) (f : Nat) : Bool :=
  s.get (FCTX_CRIT f) == 0 && (s.get (FCTX_SRC_CH f) == chMsg || s.get (FCTX_DST_CH f) == chMsg)
    && flowCounts (s.flowStatus f)

/-- Shedding starts (R270). -/
def State.shedFlows (s : State) : State :=
  let s := (s.set FLW_STATUS_SHEDDING 1).set FLW_EVENT_SHED_START 1
  (s.enabledFlows.filter s.sheddable).foldl (fun s f => s.setFlowStatus f flowShed) s

/-- Shedding ends: SHED flows return to ACTIVE (R270). -/
def State.unshedFlows (s : State) : State :=
  let s := (s.set FLW_STATUS_SHEDDING 0).set FLW_EVENT_SHED_END 1
  (s.enabledFlows.filter (fun f => s.flowStatus f == flowShed)).foldl
    (fun s f => s.setFlowStatus f flowActive) s

/-! ### Stale sources (R258) -/

/-- The flows of a source become STALE, or ACTIVE again. -/
def State.flowsStale (s : State) (p : Nat → Bool) (stale : Bool) : State :=
  (s.enabledFlows.filter p).foldl (fun s f =>
    if stale then (if s.flowStatus f = flowActive then s.setFlowStatus f flowStale else s)
    else (if s.flowStatus f = flowStale then s.setFlowStatus f flowActive else s)) s

/-- A static slot is stale, or no longer: the flows of its FRAME_ID follow (R199, R258). -/
def State.consistFlowsStale (s : State) (id : Nat) (stale : Bool) : State :=
  s.flowsStale (fun f => chClass (s.get (FCTX_SRC_CH f)) == 2 && bits (s.get (FCTX_SRC_SEL f)) 0 10 == id) stale

end Sys2Proof.Machine
end

