-- ==== Sys2Proof/Machine/RecOps.lean ====
section
/-! DEFINITION. The recorder as every block uses it: records as bytes, read order, the read window, writing
a record and clearing (R423–R438). -/

namespace Sys2Proof.Machine

open Reg

/-- CRC-16 of R126: polynomial 0x1021, initial value 0xFFFF, without reflection. -/
def crc16 (l : Bytes) : Nat := crcMsb 16 0x1021 0xFFFF l

/-- Bytes 0–62 of a record (Table 17.1). -/
def recBytes (seq : Nat) (stepBack : Bool) (e : RecEvent) : Bytes :=
  let b := le 4 seq ++ le 8 e.uptime ++ le 6 e.timeS ++ le 4 e.timeNs ++ le 2 e.topo ++ le 1 e.source
    ++ le 1 (e.flags + 2 * b2n stepBack) ++ le 2 e.code ++ fit 32 e.payload
  b ++ le 2 (crc16 b) ++ [0#8]

/-- The CRC of a record position is correct. -/
def cellCrcOk (c : RecCell) : Bool := ofLe (slice 60 2 c.bytes) == crc16 (c.bytes.take 60)

/-- What a record index holds. -/
def State.cell (s : State) (i : Nat) : Option RecCell := tabFind i s.mram.cells

/-- The index holds a mark. -/
def State.marked (s : State) (i : Nat) : Bool :=
  match s.cell i with
  | some c => c.mark == 0xA5
  | none => false

/-- First index of the ring area, and number of indexes (R423). -/
abbrev ringFirst : Nat := 4096
abbrev recIndexes : Nat := 65536

/-- The index after the write position `i` (R423). -/
def nextWrite (i : Nat) : Nat := if i + 1 = recIndexes then ringFirst else i + 1

/-- The ring has wrapped: it is full. -/
def State.ringWrapped (s : State) : Bool := s.get REC_FILL_RING_FILL == 61440

/-- The log holds no record. -/
def State.logEmpty (s : State) : Bool := s.get REC_FILL_FIRST_FILL == 0 && s.get REC_FILL_RING_FILL == 0

/-- The first index of the ring in read order (R424). -/
def State.ringStart (s : State) : Nat := if s.ringWrapped then s.get REC_STATUS_NEXT_IDX else ringFirst

/-- The first index of read order; 0 with no record (R424, R436). -/
def State.readStart (s : State) : Nat :=
  if 0 < s.get REC_FILL_FIRST_FILL then 0 else if 0 < s.get REC_FILL_RING_FILL then s.ringStart else 0

/-- The index after i in read order; after the newest, the start (R424, R436). -/
def State.readNext (s : State) (i : Nat) : Nat :=
  if i < ringFirst then
    if i + 1 < s.get REC_FILL_FIRST_FILL then i + 1
    else if 0 < s.get REC_FILL_RING_FILL then s.ringStart
    else s.readStart
  else
    let j := nextWrite i
    if j = s.get REC_STATUS_NEXT_IDX then s.readStart else j

/-- The record at an index is copied into the read window (R435, R436). -/
def State.copyRecord (s : State) (i : Nat) : State :=
  let s := (s.set REC_RD_IDX_IDX i).set REC_RD_STATUS_IDX i
  match s.cell i with
  | none =>
    [0, 1, 2, 3, 4, 5, 6, 7].foldl (fun s w => s.set (REC_RD_DATA_DATA w) 0)
      (s.load [(REC_RD_STATUS_VALID, 0), (REC_RD_STATUS_CRC_OK, 0), (REC_RD_STATUS_ECC_ERR, 0)])
  | some c =>
    let b := fit 63 c.bytes ++ le 1 c.mark
    let s := [0, 1, 2, 3, 4, 5, 6, 7].foldl
      (fun s w => s.set (REC_RD_DATA_DATA w) (ofLe (slice (8 * w) 8 b))) s
    let valid := c.mark == 0xA5
    let ok := cellCrcOk c
    let s := ((s.setB REC_RD_STATUS_VALID valid).setB REC_RD_STATUS_CRC_OK ok).setB REC_RD_STATUS_ECC_ERR
      c.eccBad
    let s := if valid && !ok then (s.bump REC_STAT_CRC_ERR).set REC_EVENT_CRC_ERR 1 else s
    if c.eccBad then s.pulse 12 else s

/-- The read pointer goes to the first index of read order (R436). -/
def State.rewindLog (s : State) : State := s.copyRecord s.readStart

/-! ### Writing (R427, R431, R432) -/

/-- NEXT_IDX moves on, and the fills follow, after a record at the present index. -/
def State.recAdvance (s : State) : State :=
  let i := s.get REC_STATUS_NEXT_IDX
  let s := if i < ringFirst then s.set REC_FILL_FIRST_FILL (i + 1)
    else s.set REC_FILL_RING_FILL (Nat.min 61440 (s.get REC_FILL_RING_FILL + 1))
  s.set REC_STATUS_NEXT_IDX (nextWrite i)

/-- STEP_BACK: TIME is earlier than in the previous record since the last BOOT (Table 17.1). -/
def State.stepsBack (s : State) (e : RecEvent) : Bool :=
  match s.rcd.lastTime with
  | none => false
  | some (t, n) => decide (e.timeS < t ∨ (e.timeS = t ∧ e.timeNs < n))

/-- The record of an event with its mark stands at NEXT_IDX (R431, steps 2 and 3). -/
def State.putRecord (s : State) (e : RecEvent) : State :=
  let i := s.get REC_STATUS_NEXT_IDX
  let cell : RecCell := ⟨recBytes s.mram.nextSeq (s.stepsBack e) e, 0xA5, false⟩
  let s := { s with mram := { s.mram with cells := tabPut i cell s.mram.cells } }
  s.recAdvance

/-- A record counts as written: SEQ moves on (R427). -/
def State.recWritten (s : State) (e : RecEvent) : State :=
  let seq := (s.mram.nextSeq + 1) % 2 ^ 32
  { s with mram := { s.mram with nextSeq := seq }
           rcd := { s.rcd with writing := none, lastTime := some (e.timeS, e.timeNs) } }
    |>.set REC_NEXT_SEQ_SEQ seq |>.bump REC_STAT_WRITTEN

/-! ### Clearing (R437, R438) -/

/-- The indexes that a CLEAR's ARG names: 1 ring, 3 both. -/
def clearNames (arg i : Nat) : Bool := arg == 3 || decide (ringFirst ≤ i)

/-- SEQ of a record position. -/
def cellSeq (c : RecCell) : Nat := ofLe (c.bytes.take 4)

/-- The valid records of the areas that ARG names, in read order: first area and then the ring from its
oldest. -/
def State.clearedRecords (s : State) (arg : Nat) : List RecCell :=
  let pick := fun (p : Nat → Bool) =>
    (s.mram.cells.filter (fun e => clearNames arg e.1 && p e.1 && e.2.mark == 0xA5 && cellCrcOk e.2)).map (·.2)
  let n := s.get REC_STATUS_NEXT_IDX
  pick (fun i => decide (i < ringFirst)) ++ pick (fun i => decide (ringFirst ≤ i ∧ n ≤ i ∧ ringFirst ≤ n))
    ++ pick (fun i => decide (ringFirst ≤ i ∧ (i < n ∨ n < ringFirst)))

/-- Payload of CLEARED (R426). -/
def State.clearedPayload (s : State) (arg slot : Nat) : Bytes :=
  let l := s.clearedRecords arg
  let ends := match l.head?, l.getLast? with
    | some a, some b => le 4 (cellSeq a) ++ le 4 (cellSeq b)
    | _, _ => zeros 8
  le 1 arg ++ le 1 slot ++ zeros 2 ++ ends ++ le 4 l.length

/-- The marks of the areas named are cleared, and the write position follows (R438, step 2). -/
def State.clearAreas (s : State) (arg : Nat) : State :=
  let s := { s with mram := { s.mram with cells := s.mram.cells.filter (fun e => !clearNames arg e.1) } }
  let s := s.set REC_FILL_RING_FILL 0
  if arg = 3 then (s.set REC_FILL_FIRST_FILL 0).set REC_STATUS_NEXT_IDX 0
  else if s.get REC_FILL_FIRST_FILL < ringFirst then s
  else s.set REC_STATUS_NEXT_IDX ringFirst

/-- Steps 2 to 4 of R438: the areas are cleared, CLEARED goes to the front of the queue as the next record,
and the counter of clears rises. -/
def State.finishClear (s : State) (arg slot : Nat) : State :=
  let payload := s.clearedPayload arg slot
  let s := s.clearAreas arg
  let n := satNat 32 (s.mram.clrCnt + 1)
  let s := { s with mram := { s.mram with clearPending := none, clrCnt := n } }
  let s := ((s.set REC_CLR_CNT_COUNT n).set REC_EVENT_CLEARED 1).set REC_STATUS_CLEARING 0
  let e := s.stamp 0x3000 0x1001 payload
  let s := { s with rcd := { s.rcd with queue := e :: s.rcd.queue, clearing := none } }
  s.showQueue

/-- Source 53 asserts for one cycle in which an event was refused (R430). -/
def State.overflowStep (s : State) : State :=
  if s.rcd.overflow then ({ s with rcd := { s.rcd with overflow := false } }).pulse 53 else s

end Sys2Proof.Machine
end

