-- ==== Sys2Proof/Machine/LnOps.lean ====
section
/-! DEFINITION. The line ports as every block uses them: a port's hidden state, link changes, and the
transceiver state of Table 3.6 (R64–R70, R95, R110). -/

namespace Sys2Proof.Machine

open Reg

/-- The hidden state of line port p. -/
def State.port (s : State) (p : Nat) : LinePort := tabGet {} s.ports p

/-- The state with line port p's hidden state changed. -/
def State.portMap (s : State) (p : Nat) (f : LinePort → LinePort) : State :=
  { s with ports := tabPut p (f (s.port p)) s.ports }

/-- The four line ports, and the block base of each. -/
abbrev linePorts : List Nat := [0, 1, 2, 3]
def lnBase (p : Nat) : Nat := 0x8000 + 0x800 * p

/-- Link states (LN_STATUS.LINK). -/
abbrev linkDown : Nat := 0
abbrev linkAcquire : Nat := 1
abbrev linkUp : Nat := 2

/-- Transceiver states (LN_TRX.STATE). -/
abbrev trxNormal : Nat := 0
abbrev trxListen : Nat := 1
abbrev trxStandby : Nat := 2
abbrev trxSleep : Nat := 3

/-- All four line ports are disabled (R119, R501). -/
def State.noLines (s : State) : Bool :=
  linePorts.all (fun p => !s.flag (LN_CFG_ENABLE p)) ||
    s.makerBlank

/-- The port runs the Nelmin line: not as G-line in GTN and, at end 1, in BORDER (Table 3.6). -/
def State.nelmin (s : State) (p : Nat) : Bool :=
  !(s.mode == modeGtn || (s.mode == modeBorder && p < 2))

/-- The inauguration unit runs: NATIVE and BORDER at the node that owns its vehicle's line ports, and in
STANDBY as a follower (R22, R118, R119). -/
def State.inaRuns (s : State) : Bool :=
  (s.running || s.mode == modeStandby) && !s.stackMember && !s.noLines

/-- The inauguration unit sends: not in STANDBY, and not without the interlock permission (R28, R118). -/
def State.inaSends (s : State) : Bool := s.running && s.permission && !s.stackMember && !s.noLines

/-- What the inauguration unit holds of an end. -/
def InaState.linked (i : InaState) (e : Nat) : Bool := if e = 1 then i.linked1 else i.linked2
def InaState.setLinked (i : InaState) (e : Nat) (b : Bool) : InaState :=
  if e = 1 then { i with linked1 := b } else { i with linked2 := b }
def InaState.hold (i : InaState) (e : Nat) : Bool := if e = 1 then i.hold1 else i.hold2
def InaState.setHold (i : InaState) (e : Nat) (b : Bool) : InaState :=
  if e = 1 then { i with hold1 := b } else { i with hold2 := b }
def InaState.fresh (i : InaState) (e : Nat) : Bool := if e = 1 then i.fresh1 else i.fresh2
def InaState.setFresh (i : InaState) (e : Nat) (b : Bool) : InaState :=
  if e = 1 then { i with fresh1 := b } else { i with fresh2 := b }

/-- The state with the inauguration unit's hidden state changed. -/
def State.inaMap (s : State) (f : InaState → InaState) : State := { s with ina := f s.ina }

/-- A line link change, into or out of UP, as the inauguration unit sees it: an end that becomes not linked
starts its hold, one that returns waits for its HELLO, any other change is counted (R91, R95). -/
def State.endChange (s : State) (p : Nat) : State :=
  let e := portEnd p
  let was := s.ina.linked e
  let now := s.endUp e
  let held := s.ina.hold e
  let s := s.inaMap (fun i => i.setLinked e now)
  if !s.inaRuns then s.inaMap (fun i => (i.setHold e false).setFresh e false)
  else if was = now then s.bump INA_STAT_LINK_BLIPS
  else if now then
    -- back within DOWN_HOLD: the change to not linked matches no row of Table 4.1
    (if held then s.bump INA_STAT_LINK_BLIPS else s).inaMap (fun i => (i.setHold e false).setFresh e true)
  else s.inaMap (fun i => (i.setHold e true).setFresh e false)

/-- The hop delay of a port starts anew under a changed counter: samples and VALID go; the last value stays
applied unless the link has left UP since VALID was last set (R81). -/
def State.delayAnew (s : State) (p : Nat) : State :=
  let left := (s.port p).leftUp
  let s := s.portMap p (fun l => { l with samples := [], ready := none, held := l.held && !left, leftUp := false })
  let s := s.load [(LN_DELAY_VALID p, 0), (LN_DELAY_SAMPLES p, 0)]
  if left then s.load [(LN_DELAY_DELAY p, 0), (LN_DELAY_SRC p, 0)] else s

/-- The link of a port leaves UP: a value that is not VALID is cleared (R81). -/
def State.delayLeft (s : State) (p : Nat) : State :=
  let s := s.portMap p (fun l => { l with leftUp := true })
  if s.flag (LN_DELAY_VALID p) then s
  else (s.portMap p (fun l => { l with held := false })).load [(LN_DELAY_DELAY p, 0), (LN_DELAY_SRC p, 0)]

/-- The link of a port goes to DOWN (Table 3.4). -/
def State.lineDown (s : State) (p : Nat) : State :=
  let up := s.lineUp p
  let s := s.load [(LN_STATUS_LINK p, linkDown), (LN_STATUS_CAL_LOCK p, 0)]
  let s := s.portMap p (fun l => { l with
    deferred := false, codeErrs := [], steady := 0, sweepDone := false, sweep := 0, bestEye := 0 })
  if up then ((s.bump (LN_ERR_CNT_LINK_DOWNS p)).delayLeft p).endChange p else s

/-- The cab priority level in use (R92). -/
def State.cabPrio (s : State) : Nat :=
  if s.flag INA_CFG_PRIO_SRC then bits (s.get FLW_GPIO_IN_IN) 29 3 else s.get INA_CFG_CAB_PRIO

/-- A port retired under R267. -/
def State.lineRetired (s : State) (p : Nat) : Bool := s.bitAt FLW_RETIRED_LINE p

/-- Transceiver state by mode, before KA_TEST and the fail-safe path (Table 3.6, R267). -/
def State.trxByMode (s : State) (p : Nat) : Nat :=
  if s.mode == modeSleep then trxSleep
  else if s.lineRetired p then trxStandby
  else if s.mode == modeBoot then
    if s.inBoot subTest then tabGet trxStandby s.glb.testPorts p else trxStandby
  else if !s.flag (LN_CFG_ENABLE p) || s.noLines then trxStandby
  else if s.mode == modeGtn then trxNormal
  else if s.mode == modeStandby then trxListen
  else if s.mode == modeReferee then trxSleep
  else if s.mode == modeSafe then (if s.flag (LN_CFG_SAFE_STATE p) then trxListen else trxStandby)
  else if s.stackMember then trxSleep
  else if s.pairMember && !s.permission then trxListen
  else trxNormal

/-- Transceiver state of port p (R67, R69). -/
def State.trxState (s : State) (p : Nat) : Nat :=
  if s.flag (LN_TRX_KA_TEST p) || (s.port p).failSafe then trxSleep else s.trxByMode p

/-- A mode in which a line port is commanded to NORMAL (Table 3.6). -/
def State.wantsNormal (s : State) (p : Nat) : Bool :=
  s.inModes [modeGtn, modeNative, modeBorder] && s.flag (LN_CFG_ENABLE p) && !s.noLines && !s.stackMember
    && !s.lineRetired p

/-- One port's pins and status follow the mode (Table 3.6, R68). -/
def State.followLine (s : State) (p : Nat) : State :=
  let t := s.trxState p
  let s := s.load [(LN_TRX_STATE p, t), (LN_CFG_PROTOCOL p, b2n (!s.nelmin p)),
    (LN_STATUS_TX_INHIBIT p, b2n (s.wantsNormal p && !s.permission)),
    (LN_STATUS_DELAY_VALID p, s.get (LN_DELAY_VALID p))]
  let s := if t = trxSleep then s.set (LN_STATUS_SIG_DET p) 0 else s
  let off := t = trxStandby ∨ t = trxSleep ∨ !s.nelmin p
  if off ∧ !(s.get (LN_STATUS_LINK p) == linkDown) then s.lineDown p else s

end Sys2Proof.Machine
end

