-- ==== Sys2Proof/Machine/CstOps.lean ====
section
/-! DEFINITION. The consist network as every block uses it: when the controller and the guardian run
(R205–R210). -/

namespace Sys2Proof.Machine

open Reg

/-- Controller states (Table 7.4). -/
abbrev cstOff : Nat := 0
abbrev cstListen : Nat := 1
abbrev cstColdstart : Nat := 2
abbrev cstIntegrate : Nat := 3
abbrev cstActive : Nat := 4

/-- Guardian states. -/
abbrev guardOff : Nat := 0
abbrev guardStartup : Nat := 1
abbrev guardRun : Nat := 2

/-- The node's arrangement is STAR. -/
def State.isStar (s : State) : Bool := s.flag CST_STATUS_ROLE

/-- The state with the consist network's hidden state changed. -/
def State.cstMap (s : State) (f : CstState → CstState) : State := { s with cst := f s.cst }

/-- The controller runs: in NATIVE, and in shadow at the STANDBY member of a STAR pair (R205, R210). -/
def State.cstRuns (s : State) : Bool :=
  s.flag CST_STATUS_EN &&
    (s.mode == modeNative || (s.mode == modeStandby && s.pairMember && s.isStar))

/-- Entry into LISTEN (Table 7.4). -/
def State.cstEnterListen (s : State) : State :=
  (s.load [(CST_STATUS_STATE, cstListen), (CST_SYNC_RATE, 0)]).cstMap (fun c => { c with
    devs := [], lastDevs := [], nitOffset := 0, shift := 0, fullCycle := false, validSeen := false, mismatch := false, silent := 0, heardSinceActive := false
    heardThisCycle := false, coldLeft := 0 })

/-- The controller and the guardian follow the mode. -/
def State.cstFollow (s : State) : State :=
  if s.cstRuns then
    let s := if s.get CST_STATUS_STATE = cstOff then s.cstEnterListen else s
    if s.isStar && s.get CST_STATUS_GSTATE == guardOff then s.set CST_STATUS_GSTATE guardStartup else s
  else s.load [(CST_STATUS_STATE, cstOff), (CST_STATUS_GSTATE, guardOff)]

/-- Consist drivers on, bit n for CPn (R186, R210, R267). -/
def State.cstDrivers (s : State) : Nat :=
  let live := andNot 0xFF (s.get FLW_RETIRED_CONSIST)
  if !s.permission then 0
  else if s.mode == modeNative && s.flag CST_STATUS_EN then (if s.isStar then live else live % 2)
  else if s.mode == modeSafe && s.flag CST_CFG_SAFE_STATE then live
  else 0

end Sys2Proof.Machine
end

