-- ==== Sys2Proof/Machine/RegTable.lean ====
section
/-! DEFINITION. The register map of PF0 BAR0 by address (Table 21.1), with the access type of each field
(Table 0.4), for accesses to registers that have no command of their own. -/

namespace Sys2Proof.Machine

/-- One field of a register row: access type, PRV, and the field for instance (i, j). -/
structure FieldRow where
  acc : Access
  prv : Bool
  field : Nat → Nat → Field

/-- One row of the register map: name, address of instance (0, 0), count and stride of the outer and of
the inner instances, width in bits, fields. -/
structure RegRow where
  name : String
  addr : Nat
  outer : Nat
  outerStride : Nat
  inner : Nat
  innerStride : Nat
  width : Nat
  fields : List FieldRow

/-- The registers of the GLB block (Table 21.1). -/
def regTableGLB : List RegRow := [
  ⟨"GLB_ID", 0x0, 1, 0x0, 1, 0x0, 32, [
      ⟨.ro, false, fun _ _ => Reg.GLB_ID_VENDOR_CODE⟩,
      ⟨.ro, false, fun _ _ => Reg.GLB_ID_DEVICE⟩]⟩,
  ⟨"GLB_REV", 0x4, 1, 0x0, 1, 0x0, 32, [
      ⟨.ro, false, fun _ _ => Reg.GLB_REV_ROM_VER⟩,
      ⟨.ro, false, fun _ _ => Reg.GLB_REV_STEP⟩]⟩,
  ⟨"GLB_UID", 0x8, 1, 0x0, 1, 0x0, 64, [
      ⟨.ro, false, fun _ _ => Reg.GLB_UID_UID⟩]⟩,
  ⟨"GLB_MODE", 0x10, 1, 0x0, 1, 0x0, 32, [
      ⟨.ro, false, fun _ _ => Reg.GLB_MODE_LAST_CAUSE⟩,
      ⟨.ro, false, fun _ _ => Reg.GLB_MODE_PREV_MODE⟩,
      ⟨.ro, false, fun _ _ => Reg.GLB_MODE_BUSY⟩,
      ⟨.ro, false, fun _ _ => Reg.GLB_MODE_ROLE⟩,
      ⟨.ro, false, fun _ _ => Reg.GLB_MODE_SUBSTATE⟩,
      ⟨.ro, false, fun _ _ => Reg.GLB_MODE_MODE⟩]⟩,
  ⟨"GLB_CMD", 0x14, 1, 0x0, 1, 0x0, 32, [
      ⟨.wo, true, fun _ _ => Reg.GLB_CMD_ARG⟩,
      ⟨.wo, true, fun _ _ => Reg.GLB_CMD_CODE⟩]⟩,
  ⟨"GLB_CMD_STATUS", 0x18, 1, 0x0, 1, 0x0, 32, [
      ⟨.ro, false, fun _ _ => Reg.GLB_CMD_STATUS_SEQ⟩,
      ⟨.ro, false, fun _ _ => Reg.GLB_CMD_STATUS_CODE⟩,
      ⟨.ro, false, fun _ _ => Reg.GLB_CMD_STATUS_STATUS⟩]⟩,
  ⟨"GLB_CMD_REJECT_CNT", 0x1C, 1, 0x0, 1, 0x0, 32, [
      ⟨.ro, false, fun _ _ => Reg.GLB_CMD_REJECT_CNT_COUNT⟩]⟩,
  ⟨"GLB_BOOT_STATUS", 0x20, 1, 0x0, 1, 0x0, 32, [
      ⟨.ro, false, fun _ _ => Reg.GLB_BOOT_STATUS_TAMPERED⟩,
      ⟨.ro, false, fun _ _ => Reg.GLB_BOOT_STATUS_RESULT⟩,
      ⟨.ro, false, fun _ _ => Reg.GLB_BOOT_STATUS_CFG_SRC⟩,
      ⟨.ro, false, fun _ _ => Reg.GLB_BOOT_STATUS_WAKE_BOOT⟩,
      ⟨.ro, false, fun _ _ => Reg.GLB_BOOT_STATUS_BOOTSEL⟩]⟩,
  ⟨"GLB_BOOT_TIME", 0x24, 1, 0x0, 1, 0x0, 32, [
      ⟨.ro, false, fun _ _ => Reg.GLB_BOOT_TIME_US⟩]⟩,
  ⟨"GLB_LC", 0x28, 1, 0x0, 1, 0x0, 32, [
      ⟨.ro, false, fun _ _ => Reg.GLB_LC_DBG_FAIL_CNT⟩,
      ⟨.ro, false, fun _ _ => Reg.GLB_LC_PARTIAL⟩,
      ⟨.ro, false, fun _ _ => Reg.GLB_LC_DEBUG_OPEN⟩,
      ⟨.ro, false, fun _ _ => Reg.GLB_LC_STATE⟩]⟩,
  ⟨"GLB_AUTH_NONCE", 0x30, 1, 0x0, 1, 0x0, 128, [
      ⟨.ro, false, fun _ _ => Reg.GLB_AUTH_NONCE_NONCE⟩]⟩,
  ⟨"GLB_AUTH_RESP", 0x40, 1, 0x0, 1, 0x0, 256, [
      ⟨.wo, true, fun _ _ => Reg.GLB_AUTH_RESP_TAG⟩]⟩,
  ⟨"GLB_LOCK", 0x60, 1, 0x0, 1, 0x0, 32, [
      ⟨.rwl, true, fun _ _ => Reg.GLB_LOCK_LOCK⟩]⟩,
  ⟨"GLB_ESC_CNT", 0x64, 1, 0x0, 1, 0x0, 32, [
      ⟨.ro, false, fun _ _ => Reg.GLB_ESC_CNT_SAFE_LATCH⟩,
      ⟨.ro, false, fun _ _ => Reg.GLB_ESC_CNT_COUNT⟩]⟩,
  ⟨"GLB_LC_DATA", 0x68, 1, 0x0, 1, 0x0, 64, [
      ⟨.rw, true, fun _ _ => Reg.GLB_LC_DATA_UID⟩]⟩,
  ⟨"GLB_CFG_ADDR", 0x70, 1, 0x0, 1, 0x0, 64, [
      ⟨.rw, true, fun _ _ => Reg.GLB_CFG_ADDR_ADDR⟩]⟩,
  ⟨"GLB_CFG_LEN", 0x78, 1, 0x0, 1, 0x0, 32, [
      ⟨.rw, true, fun _ _ => Reg.GLB_CFG_LEN_LEN⟩]⟩]

/-- The registers of the LN block (Table 21.1). -/
def regTableLN : List RegRow := [
  ⟨"LN_CFG", 0x8000, 4, 0x800, 1, 0x0, 32, [
      ⟨.rwl, true, fun i _ => Reg.LN_CFG_WAKE_ARM i⟩,
      ⟨.rwl, true, fun i _ => Reg.LN_CFG_COUPLER_DIST i⟩,
      ⟨.rwl, true, fun i _ => Reg.LN_CFG_SAFE_STATE i⟩,
      ⟨.ro, false, fun i _ => Reg.LN_CFG_PROTOCOL i⟩,
      ⟨.rwl, true, fun i _ => Reg.LN_CFG_ENABLE i⟩]⟩,
  ⟨"LN_CMD", 0x8004, 4, 0x800, 1, 0x0, 32, [
      ⟨.wo, true, fun i _ => Reg.LN_CMD_CODE i⟩]⟩,
  ⟨"LN_TRX", 0x8008, 4, 0x800, 1, 0x0, 32, [
      ⟨.ro, false, fun i _ => Reg.LN_TRX_KA_TEST i⟩,
      ⟨.w1c, true, fun i _ => Reg.LN_TRX_FS_SLEEP i⟩,
      ⟨.ro, false, fun i _ => Reg.LN_TRX_STATE i⟩]⟩,
  ⟨"LN_STATUS", 0x800C, 4, 0x800, 1, 0x0, 32, [
      ⟨.ro, false, fun i _ => Reg.LN_STATUS_TX_INHIBIT i⟩,
      ⟨.ro, false, fun i _ => Reg.LN_STATUS_DELAY_VALID i⟩,
      ⟨.ro, false, fun i _ => Reg.LN_STATUS_CAL_LOCK i⟩,
      ⟨.ro, false, fun i _ => Reg.LN_STATUS_RX_INV i⟩,
      ⟨.ro, false, fun i _ => Reg.LN_STATUS_SIG_DET i⟩,
      ⟨.ro, false, fun i _ => Reg.LN_STATUS_LINK i⟩]⟩,
  ⟨"LN_FAULT", 0x8010, 4, 0x800, 1, 0x0, 32, [
      ⟨.w1c, false, fun i _ => Reg.LN_FAULT_CAL_TIMEOUT i⟩,
      ⟨.w1c, false, fun i _ => Reg.LN_FAULT_DEG_ECHO i⟩,
      ⟨.w1c, false, fun i _ => Reg.LN_FAULT_DEG_DRIFT i⟩,
      ⟨.w1c, false, fun i _ => Reg.LN_FAULT_DEG_EYE i⟩,
      ⟨.w1c, false, fun i _ => Reg.LN_FAULT_DEG_CTLE i⟩,
      ⟨.w1c, false, fun i _ => Reg.LN_FAULT_COMMON_MODE i⟩,
      ⟨.w1c, false, fun i _ => Reg.LN_FAULT_PAIR_SWAP i⟩,
      ⟨.w1c, false, fun i _ => Reg.LN_FAULT_POLARITY i⟩,
      ⟨.w1c, false, fun i _ => Reg.LN_FAULT_OPEN i⟩,
      ⟨.w1c, false, fun i _ => Reg.LN_FAULT_SHORT_SHIELD i⟩,
      ⟨.w1c, false, fun i _ => Reg.LN_FAULT_SHORT_PAIR i⟩]⟩,
  ⟨"LN_ERR_CNT", 0x8014, 4, 0x800, 1, 0x0, 32, [
      ⟨.rc, false, fun i _ => Reg.LN_ERR_CNT_LINK_DOWNS i⟩,
      ⟨.rc, false, fun i _ => Reg.LN_ERR_CNT_CODE_ERRORS i⟩]⟩,
  ⟨"LN_EQ", 0x8018, 4, 0x800, 1, 0x0, 32, [
      ⟨.ro, false, fun i _ => Reg.LN_EQ_TAP5 i⟩,
      ⟨.ro, false, fun i _ => Reg.LN_EQ_TAP4 i⟩,
      ⟨.ro, false, fun i _ => Reg.LN_EQ_TAP3 i⟩,
      ⟨.ro, false, fun i _ => Reg.LN_EQ_TAP2 i⟩,
      ⟨.ro, false, fun i _ => Reg.LN_EQ_TAP1 i⟩]⟩,
  ⟨"LN_EQ2", 0x801C, 4, 0x800, 1, 0x0, 32, [
      ⟨.ro, false, fun i _ => Reg.LN_EQ2_EYE i⟩,
      ⟨.ro, false, fun i _ => Reg.LN_EQ2_CTLE i⟩]⟩,
  ⟨"LN_DELAY", 0x8020, 4, 0x800, 1, 0x0, 32, [
      ⟨.ro, false, fun i _ => Reg.LN_DELAY_VALID i⟩,
      ⟨.ro, false, fun i _ => Reg.LN_DELAY_SRC i⟩,
      ⟨.ro, false, fun i _ => Reg.LN_DELAY_SAMPLES i⟩,
      ⟨.ro, false, fun i _ => Reg.LN_DELAY_DELAY i⟩]⟩,
  ⟨"LN_DELAY_BASE", 0x8024, 4, 0x800, 1, 0x0, 32, [
      ⟨.ro, false, fun i _ => Reg.LN_DELAY_BASE_BASE i⟩]⟩,
  ⟨"LN_ASYM", 0x8028, 4, 0x800, 1, 0x0, 32, [
      ⟨.rwl, true, fun i _ => Reg.LN_ASYM_ASYM i⟩]⟩,
  ⟨"LN_DELAY_STAT", 0x802C, 4, 0x800, 1, 0x0, 32, [
      ⟨.rc, false, fun i _ => Reg.LN_DELAY_STAT_DISCARDS i⟩,
      ⟨.rc, false, fun i _ => Reg.LN_DELAY_STAT_OUTLIERS i⟩]⟩,
  ⟨"LN_ECHO", 0x8030, 4, 0x800, 1, 0x0, 64, [
      ⟨.ro, false, fun i _ => Reg.LN_ECHO_SCANS i⟩,
      ⟨.ro, false, fun i _ => Reg.LN_ECHO_CLASS i⟩,
      ⟨.ro, false, fun i _ => Reg.LN_ECHO_RHO i⟩,
      ⟨.ro, false, fun i _ => Reg.LN_ECHO_DIST i⟩]⟩,
  ⟨"LN_ECHO_CFG", 0x8038, 4, 0x800, 1, 0x0, 32, [
      ⟨.rwl, true, fun i _ => Reg.LN_ECHO_CFG_VP i⟩]⟩,
  ⟨"LN_DEG_CFG", 0x803C, 4, 0x800, 1, 0x0, 32, [
      ⟨.rwl, true, fun i _ => Reg.LN_DEG_CFG_CTLE_MAX i⟩,
      ⟨.rwl, true, fun i _ => Reg.LN_DEG_CFG_EYE_MIN i⟩,
      ⟨.rwl, true, fun i _ => Reg.LN_DEG_CFG_DRIFT i⟩,
      ⟨.rwl, true, fun i _ => Reg.LN_DEG_CFG_DEG_RHO i⟩]⟩,
  ⟨"LN_CM", 0x8040, 4, 0x800, 1, 0x0, 32, [
      ⟨.rc, false, fun i _ => Reg.LN_CM_PEAK i⟩,
      ⟨.ro, false, fun i _ => Reg.LN_CM_VCM i⟩]⟩]

/-- The registers of the INA block (Table 21.1). -/
def regTableINA : List RegRow := [
  ⟨"INA_CFG", 0xA000, 1, 0x0, 1, 0x0, 32, [
      ⟨.rwl, true, fun _ _ => Reg.INA_CFG_DOWN_HOLD⟩,
      ⟨.rwl, true, fun _ _ => Reg.INA_CFG_DEBOUNCE⟩,
      ⟨.rwl, true, fun _ _ => Reg.INA_CFG_CAB_END⟩,
      ⟨.rwl, true, fun _ _ => Reg.INA_CFG_PRIO_SRC⟩,
      ⟨.rw, true, fun _ _ => Reg.INA_CFG_CAB_PRIO⟩]⟩,
  ⟨"INA_CMD", 0xA004, 1, 0x0, 1, 0x0, 32, [
      ⟨.wo, true, fun _ _ => Reg.INA_CMD_CODE⟩]⟩,
  ⟨"INA_STATUS", 0xA008, 1, 0x0, 1, 0x0, 32, [
      ⟨.ro, false, fun _ _ => Reg.INA_STATUS_FAILED⟩,
      ⟨.ro, false, fun _ _ => Reg.INA_STATUS_GRACE⟩,
      ⟨.ro, false, fun _ _ => Reg.INA_STATUS_CAB_NOT_AT_END⟩,
      ⟨.ro, false, fun _ _ => Reg.INA_STATUS_NO_CAB⟩,
      ⟨.ro, false, fun _ _ => Reg.INA_STATUS_TWO_CABS⟩,
      ⟨.ro, false, fun _ _ => Reg.INA_STATUS_NUMBERING_KEPT⟩,
      ⟨.ro, false, fun _ _ => Reg.INA_STATUS_ROLE⟩,
      ⟨.ro, false, fun _ _ => Reg.INA_STATUS_ORIENT⟩,
      ⟨.ro, false, fun _ _ => Reg.INA_STATUS_STATE⟩,
      ⟨.ro, false, fun _ _ => Reg.INA_STATUS_ATTEMPT⟩]⟩,
  ⟨"INA_TOPO", 0xA00C, 1, 0x0, 1, 0x0, 32, [
      ⟨.ro, false, fun _ _ => Reg.INA_TOPO_PREV_COUNTER⟩,
      ⟨.ro, false, fun _ _ => Reg.INA_TOPO_COUNTER⟩]⟩,
  ⟨"INA_POS", 0xA010, 1, 0x0, 1, 0x0, 32, [
      ⟨.ro, false, fun _ _ => Reg.INA_POS_VEH_COUNT⟩,
      ⟨.ro, false, fun _ _ => Reg.INA_POS_POSITION⟩]⟩,
  ⟨"INA_HASH", 0xA014, 1, 0x0, 1, 0x0, 32, [
      ⟨.ro, false, fun _ _ => Reg.INA_HASH_HASH⟩]⟩,
  ⟨"INA_KEPT", 0xA018, 1, 0x0, 1, 0x0, 32, [
      ⟨.ro, false, fun _ _ => Reg.INA_KEPT_KEPT_LEN⟩]⟩,
  ⟨"INA_TIME", 0xA01C, 1, 0x0, 1, 0x0, 32, [
      ⟨.ro, false, fun _ _ => Reg.INA_TIME_US⟩]⟩,
  ⟨"INA_HEAD_UID", 0xA020, 1, 0x0, 1, 0x0, 64, [
      ⟨.ro, false, fun _ _ => Reg.INA_HEAD_UID_UID⟩]⟩,
  ⟨"INA_NBR1_UID", 0xA028, 1, 0x0, 1, 0x0, 64, [
      ⟨.ro, false, fun _ _ => Reg.INA_NBR1_UID_UID⟩]⟩,
  ⟨"INA_NBR2_UID", 0xA030, 1, 0x0, 1, 0x0, 64, [
      ⟨.ro, false, fun _ _ => Reg.INA_NBR2_UID_UID⟩]⟩,
  ⟨"INA_UPTIME", 0xA038, 1, 0x0, 1, 0x0, 32, [
      ⟨.ro, false, fun _ _ => Reg.INA_UPTIME_MS⟩]⟩,
  ⟨"INA_SENSE", 0xA03C, 1, 0x0, 1, 0x0, 32, [
      ⟨.ro, false, fun _ _ => Reg.INA_SENSE_PRIO⟩,
      ⟨.ro, false, fun _ _ => Reg.INA_SENSE_CS2_DEB⟩,
      ⟨.ro, false, fun _ _ => Reg.INA_SENSE_CS2_RAW⟩,
      ⟨.ro, false, fun _ _ => Reg.INA_SENSE_CS1_DEB⟩,
      ⟨.ro, false, fun _ _ => Reg.INA_SENSE_CS1_RAW⟩,
      ⟨.ro, false, fun _ _ => Reg.INA_SENSE_CAB_DEB⟩,
      ⟨.ro, false, fun _ _ => Reg.INA_SENSE_CAB_RAW⟩]⟩,
  ⟨"INA_STAT", 0xA040, 1, 0x0, 1, 0x0, 32, [
      ⟨.rc, false, fun _ _ => Reg.INA_STAT_INAUGURATIONS⟩,
      ⟨.rc, false, fun _ _ => Reg.INA_STAT_RESTARTS⟩,
      ⟨.rc, false, fun _ _ => Reg.INA_STAT_LINK_BLIPS⟩]⟩,
  ⟨"INA_STAT2", 0xA044, 1, 0x0, 1, 0x0, 32, [
      ⟨.rc, false, fun _ _ => Reg.INA_STAT2_OLD_DISCARD⟩,
      ⟨.rc, false, fun _ _ => Reg.INA_STAT2_GRACE_ACCEPT⟩]⟩,
  ⟨"INA_EVENT", 0xA048, 1, 0x0, 1, 0x0, 32, [
      ⟨.w1c, false, fun _ _ => Reg.INA_EVENT_RESTART⟩,
      ⟨.w1c, false, fun _ _ => Reg.INA_EVENT_FAILED⟩,
      ⟨.w1c, false, fun _ _ => Reg.INA_EVENT_CAB_NOT_AT_END⟩,
      ⟨.w1c, false, fun _ _ => Reg.INA_EVENT_NO_CAB⟩,
      ⟨.w1c, false, fun _ _ => Reg.INA_EVENT_TWO_CABS⟩,
      ⟨.w1c, false, fun _ _ => Reg.INA_EVENT_KEPT⟩,
      ⟨.w1c, false, fun _ _ => Reg.INA_EVENT_DONE⟩]⟩,
  ⟨"INA_HOPDLY", 0xA400, 256, 0x4, 1, 0x0, 32, [
      ⟨.ro, false, fun i _ => Reg.INA_HOPDLY_VALID i⟩,
      ⟨.ro, false, fun i _ => Reg.INA_HOPDLY_RCVD i⟩,
      ⟨.ro, false, fun i _ => Reg.INA_HOPDLY_DELAY i⟩]⟩,
  ⟨"INA_BDR_CFG", 0xA800, 1, 0x0, 1, 0x0, 32, [
      ⟨.rwl, true, fun _ _ => Reg.INA_BDR_CFG_STREAM⟩,
      ⟨.rwl, true, fun _ _ => Reg.INA_BDR_CFG_MSG_CLASS⟩,
      ⟨.rwl, true, fun _ _ => Reg.INA_BDR_CFG_PD_CLASS⟩,
      ⟨.rwl, true, fun _ _ => Reg.INA_BDR_CFG_SW_MODE⟩]⟩,
  ⟨"INA_BDR_DST", 0xA804, 1, 0x0, 1, 0x0, 32, [
      ⟨.rwl, true, fun _ _ => Reg.INA_BDR_DST_MSG_DST⟩,
      ⟨.rwl, true, fun _ _ => Reg.INA_BDR_DST_PD_DST⟩]⟩,
  ⟨"INA_BDR_STATUS", 0xA808, 1, 0x0, 1, 0x0, 32, [
      ⟨.ro, false, fun _ _ => Reg.INA_BDR_STATUS_TCR⟩,
      ⟨.ro, false, fun _ _ => Reg.INA_BDR_STATUS_VALID⟩,
      ⟨.ro, false, fun _ _ => Reg.INA_BDR_STATUS_INAUG⟩,
      ⟨.ro, false, fun _ _ => Reg.INA_BDR_STATUS_ACTIVE_LINE⟩,
      ⟨.ro, false, fun _ _ => Reg.INA_BDR_STATUS_L⟩]⟩,
  ⟨"INA_BDR_STAT", 0xA80C, 1, 0x0, 1, 0x0, 32, [
      ⟨.rc, false, fun _ _ => Reg.INA_BDR_STAT_EXCESS⟩,
      ⟨.rc, false, fun _ _ => Reg.INA_BDR_STAT_POLL_ERR⟩,
      ⟨.rc, false, fun _ _ => Reg.INA_BDR_STAT_DROP⟩]⟩,
  ⟨"INA_BDR_PORTS", 0xA810, 4, 0x4, 1, 0x0, 32, [
      ⟨.rwl, true, fun i _ => Reg.INA_BDR_PORTS_PORT i⟩]⟩,
  ⟨"INA_BDR_VID", 0xA820, 1, 0x0, 1, 0x0, 32, [
      ⟨.rwl, true, fun _ _ => Reg.INA_BDR_VID_VID⟩]⟩,
  ⟨"INA_BDR_LVID", 0xA880, 31, 0x4, 1, 0x0, 32, [
      ⟨.ro, false, fun i _ => Reg.INA_BDR_LVID_VID i⟩]⟩]

/-- The registers of the CYC block (Table 21.1). -/
def regTableCYC : List RegRow := [
  ⟨"CYC_CFG", 0xB000, 1, 0x0, 1, 0x0, 32, [
      ⟨.rwl, true, fun _ _ => Reg.CYC_CFG_SLOT_SIZE⟩,
      ⟨.rwl, true, fun _ _ => Reg.CYC_CFG_H⟩,
      ⟨.rwl, true, fun _ _ => Reg.CYC_CFG_AUTH⟩,
      ⟨.rwl, true, fun _ _ => Reg.CYC_CFG_BC_N⟩]⟩,
  ⟨"CYC_CMD", 0xB004, 1, 0x0, 1, 0x0, 32, [
      ⟨.wo, true, fun _ _ => Reg.CYC_CMD_CODE⟩]⟩,
  ⟨"CYC_STATUS", 0xB008, 1, 0x0, 1, 0x0, 32, [
      ⟨.ro, false, fun _ _ => Reg.CYC_STATUS_MAP_SEQ⟩,
      ⟨.ro, false, fun _ _ => Reg.CYC_STATUS_MAP_HELD⟩,
      ⟨.ro, false, fun _ _ => Reg.CYC_STATUS_OVERRUN⟩,
      ⟨.ro, false, fun _ _ => Reg.CYC_STATUS_MAP_TRUNC⟩,
      ⟨.ro, false, fun _ _ => Reg.CYC_STATUS_IN_MAP⟩,
      ⟨.ro, false, fun _ _ => Reg.CYC_STATUS_EPOCH⟩,
      ⟨.ro, false, fun _ _ => Reg.CYC_STATUS_AUTH⟩,
      ⟨.ro, false, fun _ _ => Reg.CYC_STATUS_EMIT⟩,
      ⟨.ro, false, fun _ _ => Reg.CYC_STATUS_BC_IN_USE⟩]⟩,
  ⟨"CYC_CYCLE", 0xB00C, 1, 0x0, 1, 0x0, 32, [
      ⟨.ro, false, fun _ _ => Reg.CYC_CYCLE_CYCLE⟩]⟩,
  ⟨"CYC_SLOT", 0xB010, 1, 0x0, 1, 0x0, 32, [
      ⟨.ro, false, fun _ _ => Reg.CYC_SLOT_SIZE⟩,
      ⟨.ro, false, fun _ _ => Reg.CYC_SLOT_OFFSET⟩]⟩,
  ⟨"CYC_LINE_TIME", 0xB014, 1, 0x0, 1, 0x0, 32, [
      ⟨.ro, false, fun _ _ => Reg.CYC_LINE_TIME_NS⟩]⟩,
  ⟨"CYC_WINDOW", 0xB018, 1, 0x0, 1, 0x0, 32, [
      ⟨.ro, false, fun _ _ => Reg.CYC_WINDOW_NS⟩]⟩,
  ⟨"CYC_ERR", 0xB020, 1, 0x0, 1, 0x0, 32, [
      ⟨.rc, false, fun _ _ => Reg.CYC_ERR_HDR_ERR⟩,
      ⟨.rc, false, fun _ _ => Reg.CYC_ERR_TAG_FAIL⟩]⟩,
  ⟨"CYC_ERR2", 0xB024, 1, 0x0, 1, 0x0, 32, [
      ⟨.rc, false, fun _ _ => Reg.CYC_ERR2_MISSING⟩,
      ⟨.rc, false, fun _ _ => Reg.CYC_ERR2_MAP_MISS⟩,
      ⟨.rc, false, fun _ _ => Reg.CYC_ERR2_ABORTS⟩]⟩,
  ⟨"CYC_EVENT", 0xB028, 1, 0x0, 1, 0x0, 32, [
      ⟨.w1c, false, fun _ _ => Reg.CYC_EVENT_KEY_AGE⟩,
      ⟨.w1c, false, fun _ _ => Reg.CYC_EVENT_BC_MISMATCH⟩,
      ⟨.w1c, false, fun _ _ => Reg.CYC_EVENT_STALE⟩,
      ⟨.w1c, false, fun _ _ => Reg.CYC_EVENT_MAP_TRUNC⟩,
      ⟨.w1c, false, fun _ _ => Reg.CYC_EVENT_TAG_FAIL⟩,
      ⟨.w1c, false, fun _ _ => Reg.CYC_EVENT_OVERRUN⟩,
      ⟨.w1c, false, fun _ _ => Reg.CYC_EVENT_MAP_NEW⟩]⟩,
  ⟨"CYC_KEY_AGE", 0xB02C, 1, 0x0, 1, 0x0, 32, [
      ⟨.ro, false, fun _ _ => Reg.CYC_KEY_AGE_WARN⟩,
      ⟨.ro, false, fun _ _ => Reg.CYC_KEY_AGE_COMMITS⟩]⟩,
  ⟨"CYC_STALE", 0xB040, 8, 0x4, 1, 0x0, 32, [
      ⟨.ro, false, fun i _ => Reg.CYC_STALE_STALE i⟩]⟩,
  ⟨"CYC_MAP", 0xB100, 64, 0x4, 1, 0x0, 32, [
      ⟨.ro, false, fun i _ => Reg.CYC_MAP_SIZE3 i⟩,
      ⟨.ro, false, fun i _ => Reg.CYC_MAP_SIZE2 i⟩,
      ⟨.ro, false, fun i _ => Reg.CYC_MAP_SIZE1 i⟩,
      ⟨.ro, false, fun i _ => Reg.CYC_MAP_SIZE0 i⟩]⟩]

/-- The registers of the MSG block (Table 21.1). -/
def regTableMSG : List RegRow := [
  ⟨"MSG_CFG", 0xC000, 1, 0x0, 1, 0x0, 32, [
      ⟨.rwl, true, fun _ _ => Reg.MSG_CFG_AGE⟩,
      ⟨.rwl, true, fun _ _ => Reg.MSG_CFG_GUARD⟩]⟩,
  ⟨"MSG_STAT", 0xC008, 1, 0x0, 1, 0x0, 32, [
      ⟨.rc, false, fun _ _ => Reg.MSG_STAT_UNROUTABLE⟩,
      ⟨.rc, false, fun _ _ => Reg.MSG_STAT_DUP_DISCARD⟩]⟩,
  ⟨"MSG_STAT2", 0xC00C, 1, 0x0, 1, 0x0, 32, [
      ⟨.rc, false, fun _ _ => Reg.MSG_STAT2_FRAME_ERR⟩,
      ⟨.rc, false, fun _ _ => Reg.MSG_STAT2_QUEUE_DROP⟩]⟩,
  ⟨"MSG_STAT3", 0xC010, 1, 0x0, 1, 0x0, 32, [
      ⟨.rc, false, fun _ _ => Reg.MSG_STAT3_OLD_TOPO⟩,
      ⟨.rc, false, fun _ _ => Reg.MSG_STAT3_ABORT_RESEND⟩]⟩,
  ⟨"MSG_EVENT", 0xC014, 1, 0x0, 1, 0x0, 32, [
      ⟨.w1c, false, fun _ _ => Reg.MSG_EVENT_UNROUTABLE⟩,
      ⟨.w1c, false, fun _ _ => Reg.MSG_EVENT_QUEUE_DROP⟩,
      ⟨.w1c, false, fun _ _ => Reg.MSG_EVENT_POLICE_ALARM⟩]⟩,
  ⟨"MSG_POL", 0xC040, 7, 0x4, 1, 0x0, 32, [
      ⟨.rwl, true, fun i _ => Reg.MSG_POL_BURST i⟩,
      ⟨.rwl, true, fun i _ => Reg.MSG_POL_RATE i⟩]⟩,
  ⟨"MSG_QCFG", 0xC060, 8, 0x4, 1, 0x0, 32, [
      ⟨.rwl, true, fun i _ => Reg.MSG_QCFG_DEPTH i⟩]⟩,
  ⟨"MSG_POL_CNT", 0xC100, 32, 0x4, 1, 0x0, 32, [
      ⟨.rc, false, fun i _ => Reg.MSG_POL_CNT_DISCARDS i⟩]⟩,
  ⟨"MSG_GRP", 0xC800, 512, 0x4, 1, 0x0, 32, [
      ⟨.rw, true, fun i _ => Reg.MSG_GRP_MEMBER i⟩]⟩]

/-- The registers of the TIM block (Table 21.1). -/
def regTableTIM : List RegRow := [
  ⟨"TIM_CFG", 0x5000, 1, 0x0, 1, 0x0, 32, [
      ⟨.rwl, true, fun _ _ => Reg.TIM_CFG_HOP_EST⟩,
      ⟨.rwl, true, fun _ _ => Reg.TIM_CFG_F10M_EN⟩,
      ⟨.rwl, true, fun _ _ => Reg.TIM_CFG_PPS_IN_EN⟩]⟩,
  ⟨"TIM_CMD", 0x5004, 1, 0x0, 1, 0x0, 32, [
      ⟨.wo, true, fun _ _ => Reg.TIM_CMD_CODE⟩]⟩,
  ⟨"TIM_STATUS", 0x5008, 1, 0x0, 1, 0x0, 32, [
      ⟨.ro, false, fun _ _ => Reg.TIM_STATUS_SRC_LINE⟩,
      ⟨.ro, false, fun _ _ => Reg.TIM_STATUS_LINE_DIFF⟩,
      ⟨.ro, false, fun _ _ => Reg.TIM_STATUS_PPS_IN_LOST⟩,
      ⟨.ro, false, fun _ _ => Reg.TIM_STATUS_HOLD_OK⟩,
      ⟨.ro, false, fun _ _ => Reg.TIM_STATUS_IN_SPEC⟩,
      ⟨.ro, false, fun _ _ => Reg.TIM_STATUS_RATE_VALID⟩,
      ⟨.ro, false, fun _ _ => Reg.TIM_STATUS_TIME_VALID⟩,
      ⟨.ro, false, fun _ _ => Reg.TIM_STATUS_STATE⟩]⟩,
  ⟨"TIM_NOW_NS", 0x5010, 1, 0x0, 1, 0x0, 32, [
      ⟨.ro, false, fun _ _ => Reg.TIM_NOW_NS_NS⟩]⟩,
  ⟨"TIM_NOW_FRAC", 0x5014, 1, 0x0, 1, 0x0, 32, [
      ⟨.ro, false, fun _ _ => Reg.TIM_NOW_FRAC_FRAC⟩]⟩,
  ⟨"TIM_NOW_S", 0x5018, 1, 0x0, 1, 0x0, 64, [
      ⟨.ro, false, fun _ _ => Reg.TIM_NOW_S_SEC⟩]⟩,
  ⟨"TIM_NOW_UPTIME", 0x5020, 1, 0x0, 1, 0x0, 64, [
      ⟨.ro, false, fun _ _ => Reg.TIM_NOW_UPTIME_NS⟩]⟩,
  ⟨"TIM_OFFSET", 0x5028, 1, 0x0, 1, 0x0, 32, [
      ⟨.ro, false, fun _ _ => Reg.TIM_OFFSET_E⟩]⟩,
  ⟨"TIM_RATE", 0x502C, 1, 0x0, 1, 0x0, 32, [
      ⟨.ro, false, fun _ _ => Reg.TIM_RATE_K_M1⟩]⟩,
  ⟨"TIM_STEP_S", 0x5030, 1, 0x0, 1, 0x0, 64, [
      ⟨.rw, true, fun _ _ => Reg.TIM_STEP_S_SEC⟩]⟩,
  ⟨"TIM_STEP_NS", 0x5038, 1, 0x0, 1, 0x0, 32, [
      ⟨.rw, true, fun _ _ => Reg.TIM_STEP_NS_NS⟩]⟩,
  ⟨"TIM_PPS_CFG", 0x5040, 1, 0x0, 1, 0x0, 32, [
      ⟨.rwl, true, fun _ _ => Reg.TIM_PPS_CFG_WIDTH⟩,
      ⟨.rwl, true, fun _ _ => Reg.TIM_PPS_CFG_MODE⟩]⟩,
  ⟨"TIM_PPS_OFS", 0x5044, 1, 0x0, 1, 0x0, 32, [
      ⟨.rwl, true, fun _ _ => Reg.TIM_PPS_OFS_OFS⟩]⟩,
  ⟨"TIM_PPS_IN_TS", 0x5048, 1, 0x0, 1, 0x0, 64, [
      ⟨.ro, false, fun _ _ => Reg.TIM_PPS_IN_TS_SEC_LO⟩,
      ⟨.ro, false, fun _ _ => Reg.TIM_PPS_IN_TS_NS⟩]⟩,
  ⟨"TIM_PPS_IN_ERR", 0x5050, 1, 0x0, 1, 0x0, 32, [
      ⟨.ro, false, fun _ _ => Reg.TIM_PPS_IN_ERR_ERR⟩]⟩,
  ⟨"TIM_STAT", 0x5054, 1, 0x0, 1, 0x0, 32, [
      ⟨.rc, false, fun _ _ => Reg.TIM_STAT_JUMPS⟩,
      ⟨.rc, false, fun _ _ => Reg.TIM_STAT_HOLDOVERS⟩]⟩,
  ⟨"TIM_EVENT", 0x5058, 1, 0x0, 1, 0x0, 32, [
      ⟨.w1c, false, fun _ _ => Reg.TIM_EVENT_LINE_DIFF⟩,
      ⟨.w1c, false, fun _ _ => Reg.TIM_EVENT_PPS_IN_LOST⟩,
      ⟨.w1c, false, fun _ _ => Reg.TIM_EVENT_HOLD_EXPIRED⟩,
      ⟨.w1c, false, fun _ _ => Reg.TIM_EVENT_STEP⟩,
      ⟨.w1c, false, fun _ _ => Reg.TIM_EVENT_JUMP⟩,
      ⟨.w1c, false, fun _ _ => Reg.TIM_EVENT_HOLDOVER⟩,
      ⟨.w1c, false, fun _ _ => Reg.TIM_EVENT_LOCK⟩]⟩,
  ⟨"TIM_HOLD", 0x505C, 1, 0x0, 1, 0x0, 32, [
      ⟨.ro, false, fun _ _ => Reg.TIM_HOLD_MS⟩]⟩]

/-- The registers of the CST block (Table 21.1). -/
def regTableCST : List RegRow := [
  ⟨"CST_CFG", 0x10000, 1, 0x0, 1, 0x0, 32, [
      ⟨.rwl, true, fun _ _ => Reg.CST_CFG_STALE_LIM⟩,
      ⟨.rwl, true, fun _ _ => Reg.CST_CFG_SAFE_STATE⟩]⟩,
  ⟨"CST_CMD", 0x10004, 1, 0x0, 1, 0x0, 32, [
      ⟨.wo, true, fun _ _ => Reg.CST_CMD_ARG⟩,
      ⟨.wo, true, fun _ _ => Reg.CST_CMD_CODE⟩]⟩,
  ⟨"CST_STATUS", 0x10008, 1, 0x0, 1, 0x0, 32, [
      ⟨.ro, false, fun _ _ => Reg.CST_STATUS_CYCLE⟩,
      ⟨.ro, false, fun _ _ => Reg.CST_STATUS_PHASE_LOCK⟩,
      ⟨.ro, false, fun _ _ => Reg.CST_STATUS_REF_SRC⟩,
      ⟨.ro, false, fun _ _ => Reg.CST_STATUS_SPOKE⟩,
      ⟨.ro, false, fun _ _ => Reg.CST_STATUS_COLDSTART⟩,
      ⟨.ro, false, fun _ _ => Reg.CST_STATUS_LOCK_BC⟩,
      ⟨.ro, false, fun _ _ => Reg.CST_STATUS_ROLE⟩,
      ⟨.ro, false, fun _ _ => Reg.CST_STATUS_EN⟩,
      ⟨.ro, false, fun _ _ => Reg.CST_STATUS_GSTATE⟩,
      ⟨.ro, false, fun _ _ => Reg.CST_STATUS_STATE⟩]⟩,
  ⟨"CST_SCHED0", 0x1000C, 1, 0x0, 1, 0x0, 32, [
      ⟨.ro, false, fun _ _ => Reg.CST_SCHED0_L_SLOT⟩,
      ⟨.ro, false, fun _ _ => Reg.CST_SCHED0_S⟩,
      ⟨.ro, false, fun _ _ => Reg.CST_SCHED0_FRACTION⟩]⟩,
  ⟨"CST_SCHED1", 0x10010, 1, 0x0, 1, 0x0, 32, [
      ⟨.ro, false, fun _ _ => Reg.CST_SCHED1_M⟩,
      ⟨.ro, false, fun _ _ => Reg.CST_SCHED1_MS_LEN⟩,
      ⟨.ro, false, fun _ _ => Reg.CST_SCHED1_P_S⟩]⟩,
  ⟨"CST_SCHED2", 0x10014, 1, 0x0, 1, 0x0, 32, [
      ⟨.ro, false, fun _ _ => Reg.CST_SCHED2_BC_N⟩,
      ⟨.ro, false, fun _ _ => Reg.CST_SCHED2_LINK_DLY⟩]⟩,
  ⟨"CST_SYNC", 0x10018, 1, 0x0, 1, 0x0, 32, [
      ⟨.ro, false, fun _ _ => Reg.CST_SYNC_RATE⟩,
      ⟨.ro, false, fun _ _ => Reg.CST_SYNC_OFFSET⟩]⟩,
  ⟨"CST_PHASE", 0x1001C, 1, 0x0, 1, 0x0, 32, [
      ⟨.rwl, true, fun _ _ => Reg.CST_PHASE_TARGET⟩]⟩,
  ⟨"CST_PHASE_ERR", 0x10020, 1, 0x0, 1, 0x0, 32, [
      ⟨.ro, false, fun _ _ => Reg.CST_PHASE_ERR_ERR⟩]⟩,
  ⟨"CST_STAT", 0x10024, 1, 0x0, 1, 0x0, 32, [
      ⟨.rc, false, fun _ _ => Reg.CST_STAT_SYNC_LOST⟩,
      ⟨.rc, false, fun _ _ => Reg.CST_STAT_COLD_ATTEMPTS⟩,
      ⟨.rc, false, fun _ _ => Reg.CST_STAT_SELF_SUPPRESS⟩,
      ⟨.rc, false, fun _ _ => Reg.CST_STAT_SELF_RESYNC⟩]⟩,
  ⟨"CST_EVENT", 0x10028, 1, 0x0, 1, 0x0, 32, [
      ⟨.w1c, false, fun _ _ => Reg.CST_EVENT_PORT_ISO⟩,
      ⟨.w1c, false, fun _ _ => Reg.CST_EVENT_PORT_OOS⟩,
      ⟨.w1c, false, fun _ _ => Reg.CST_EVENT_BC_MISMATCH⟩,
      ⟨.w1c, false, fun _ _ => Reg.CST_EVENT_PHASE_LOCK⟩,
      ⟨.w1c, false, fun _ _ => Reg.CST_EVENT_STALE⟩,
      ⟨.w1c, false, fun _ _ => Reg.CST_EVENT_SYNC_LOST⟩,
      ⟨.w1c, false, fun _ _ => Reg.CST_EVENT_ACTIVE⟩,
      ⟨.w1c, false, fun _ _ => Reg.CST_EVENT_RUN⟩]⟩,
  ⟨"CST_STALE", 0x10040, 2, 0x4, 1, 0x0, 32, [
      ⟨.ro, false, fun i _ => Reg.CST_STALE_STALE i⟩]⟩,
  ⟨"CST_SLOT", 0x10400, 64, 0x4, 1, 0x0, 32, [
      ⟨.ro, false, fun i _ => Reg.CST_SLOT_COLD_SLOT i⟩,
      ⟨.ro, false, fun i _ => Reg.CST_SLOT_BASE i⟩,
      ⟨.ro, false, fun i _ => Reg.CST_SLOT_REP i⟩,
      ⟨.ro, false, fun i _ => Reg.CST_SLOT_OWNER i⟩]⟩,
  ⟨"CST_DYN", 0x10800, 64, 0x4, 1, 0x0, 32, [
      ⟨.ro, false, fun i _ => Reg.CST_DYN_OWNERS i⟩]⟩,
  ⟨"CST_PSTATUS", 0x11000, 8, 0x400, 1, 0x0, 32, [
      ⟨.ro, false, fun i _ => Reg.CST_PSTATUS_GUARD i⟩,
      ⟨.ro, false, fun i _ => Reg.CST_PSTATUS_SIG_DET i⟩,
      ⟨.ro, false, fun i _ => Reg.CST_PSTATUS_LINK i⟩]⟩,
  ⟨"CST_PVIOL", 0x11004, 8, 0x400, 1, 0x0, 32, [
      ⟨.rc, false, fun i _ => Reg.CST_PVIOL_START i⟩,
      ⟨.rc, false, fun i _ => Reg.CST_PVIOL_END_HDR i⟩,
      ⟨.rc, false, fun i _ => Reg.CST_PVIOL_COLD_BLOCKED i⟩]⟩,
  ⟨"CST_PERR", 0x11008, 8, 0x400, 1, 0x0, 32, [
      ⟨.rc, false, fun i _ => Reg.CST_PERR_LINK_DOWNS i⟩,
      ⟨.rc, false, fun i _ => Reg.CST_PERR_CODE_ERRORS i⟩]⟩,
  ⟨"CST_PFRM", 0x1100C, 8, 0x400, 1, 0x0, 32, [
      ⟨.ro, false, fun i _ => Reg.CST_PFRM_FRAMES i⟩]⟩]

/-- The registers of the CAN block (Table 21.1). -/
def regTableCAN : List RegRow := [
  ⟨"CAN_CFG", 0x20000, 12, 0x1000, 1, 0x0, 32, [
      ⟨.rwl, true, fun i _ => Reg.CAN_CFG_NOMATCH i⟩,
      ⟨.rwl, true, fun i _ => Reg.CAN_CFG_SAFE_STATE i⟩,
      ⟨.rwl, true, fun i _ => Reg.CAN_CFG_TT_EN i⟩,
      ⟨.rwl, true, fun i _ => Reg.CAN_CFG_LISTEN_ONLY i⟩,
      ⟨.rwl, true, fun i _ => Reg.CAN_CFG_PXE i⟩,
      ⟨.rwl, true, fun i _ => Reg.CAN_CFG_FD_EN i⟩]⟩,
  ⟨"CAN_CMD", 0x20004, 12, 0x1000, 1, 0x0, 32, [
      ⟨.wo, true, fun i _ => Reg.CAN_CMD_ARG i⟩,
      ⟨.wo, true, fun i _ => Reg.CAN_CMD_CODE i⟩]⟩,
  ⟨"CAN_STATUS", 0x20008, 12, 0x1000, 1, 0x0, 32, [
      ⟨.ro, false, fun i _ => Reg.CAN_STATUS_TXQ_FILL i⟩,
      ⟨.ro, false, fun i _ => Reg.CAN_STATUS_BOR_CNT i⟩,
      ⟨.ro, false, fun i _ => Reg.CAN_STATUS_TX_INHIBIT i⟩,
      ⟨.ro, false, fun i _ => Reg.CAN_STATUS_PINNED i⟩,
      ⟨.ro, false, fun i _ => Reg.CAN_STATUS_WARN i⟩,
      ⟨.ro, false, fun i _ => Reg.CAN_STATUS_CONF i⟩,
      ⟨.ro, false, fun i _ => Reg.CAN_STATUS_STATE i⟩]⟩,
  ⟨"CAN_NBT", 0x2000C, 12, 0x1000, 1, 0x0, 32, [
      ⟨.rwl, true, fun i _ => Reg.CAN_NBT_SJW i⟩,
      ⟨.rwl, true, fun i _ => Reg.CAN_NBT_TSEG2 i⟩,
      ⟨.rwl, true, fun i _ => Reg.CAN_NBT_TSEG1 i⟩,
      ⟨.rwl, true, fun i _ => Reg.CAN_NBT_BRP i⟩]⟩,
  ⟨"CAN_DBT", 0x20010, 12, 0x1000, 1, 0x0, 32, [
      ⟨.rwl, true, fun i _ => Reg.CAN_DBT_SJW i⟩,
      ⟨.rwl, true, fun i _ => Reg.CAN_DBT_TSEG2 i⟩,
      ⟨.rwl, true, fun i _ => Reg.CAN_DBT_TSEG1 i⟩,
      ⟨.rwl, true, fun i _ => Reg.CAN_DBT_BRP i⟩]⟩,
  ⟨"CAN_TDC", 0x20014, 12, 0x1000, 1, 0x0, 32, [
      ⟨.ro, false, fun i _ => Reg.CAN_TDC_TDCV i⟩,
      ⟨.rwl, true, fun i _ => Reg.CAN_TDC_TDCF i⟩,
      ⟨.rwl, true, fun i _ => Reg.CAN_TDC_TDCO i⟩,
      ⟨.rwl, true, fun i _ => Reg.CAN_TDC_EN i⟩]⟩,
  ⟨"CAN_ERRCNT", 0x20018, 12, 0x1000, 1, 0x0, 32, [
      ⟨.ro, false, fun i _ => Reg.CAN_ERRCNT_REC i⟩,
      ⟨.ro, false, fun i _ => Reg.CAN_ERRCNT_TEC i⟩]⟩,
  ⟨"CAN_FAULT", 0x2001C, 12, 0x1000, 1, 0x0, 32, [
      ⟨.ro, false, fun i _ => Reg.CAN_FAULT_LIVE_SWAP i⟩,
      ⟨.ro, false, fun i _ => Reg.CAN_FAULT_LIVE_LOOP i⟩,
      ⟨.ro, false, fun i _ => Reg.CAN_FAULT_LIVE_DOM i⟩,
      ⟨.w1c, false, fun i _ => Reg.CAN_FAULT_SWAP i⟩,
      ⟨.w1c, false, fun i _ => Reg.CAN_FAULT_LOOP i⟩,
      ⟨.w1c, false, fun i _ => Reg.CAN_FAULT_DOM_TIMEOUT i⟩]⟩,
  ⟨"CAN_RXQCFG", 0x20020, 12, 0x1000, 1, 0x0, 32, [
      ⟨.rwl, true, fun i _ => Reg.CAN_RXQCFG_OVW1 i⟩,
      ⟨.rwl, true, fun i _ => Reg.CAN_RXQCFG_DEPTH1 i⟩,
      ⟨.rwl, true, fun i _ => Reg.CAN_RXQCFG_OVW0 i⟩,
      ⟨.rwl, true, fun i _ => Reg.CAN_RXQCFG_DEPTH0 i⟩]⟩,
  ⟨"CAN_RXQFILL", 0x20024, 12, 0x1000, 1, 0x0, 32, [
      ⟨.ro, false, fun i _ => Reg.CAN_RXQFILL_FILL1 i⟩,
      ⟨.ro, false, fun i _ => Reg.CAN_RXQFILL_FILL0 i⟩]⟩,
  ⟨"CAN_RXSTAT", 0x20028, 12, 0x1000, 1, 0x0, 32, [
      ⟨.rc, false, fun i _ => Reg.CAN_RXSTAT_FILTERED i⟩,
      ⟨.rc, false, fun i _ => Reg.CAN_RXSTAT_FRAMES i⟩]⟩,
  ⟨"CAN_RXOVR", 0x2002C, 12, 0x1000, 1, 0x0, 32, [
      ⟨.rc, false, fun i _ => Reg.CAN_RXOVR_OVERRUN1 i⟩,
      ⟨.rc, false, fun i _ => Reg.CAN_RXOVR_OVERRUN0 i⟩]⟩,
  ⟨"CAN_TXSTAT", 0x20030, 12, 0x1000, 1, 0x0, 32, [
      ⟨.rc, false, fun i _ => Reg.CAN_TXSTAT_SENT i⟩,
      ⟨.rc, false, fun i _ => Reg.CAN_TXSTAT_NOT_QUEUED i⟩,
      ⟨.rc, false, fun i _ => Reg.CAN_TXSTAT_CANCELLED i⟩]⟩,
  ⟨"CAN_ERRSTAT", 0x20034, 12, 0x1000, 1, 0x0, 32, [
      ⟨.rc, false, fun i _ => Reg.CAN_ERRSTAT_BIT i⟩,
      ⟨.rc, false, fun i _ => Reg.CAN_ERRSTAT_STUFF i⟩,
      ⟨.rc, false, fun i _ => Reg.CAN_ERRSTAT_FORM i⟩,
      ⟨.rc, false, fun i _ => Reg.CAN_ERRSTAT_CRC i⟩]⟩,
  ⟨"CAN_ERRSTAT2", 0x20038, 12, 0x1000, 1, 0x0, 32, [
      ⟨.rc, false, fun i _ => Reg.CAN_ERRSTAT2_ACK i⟩,
      ⟨.rc, false, fun i _ => Reg.CAN_ERRSTAT2_BUS_OFFS i⟩,
      ⟨.rc, false, fun i _ => Reg.CAN_ERRSTAT2_PROTO_EXC i⟩]⟩,
  ⟨"CAN_EVENT", 0x2003C, 12, 0x1000, 1, 0x0, 32, [
      ⟨.w1c, false, fun i _ => Reg.CAN_EVENT_FAULT i⟩,
      ⟨.w1c, false, fun i _ => Reg.CAN_EVENT_RXQ_OVERRUN i⟩,
      ⟨.w1c, false, fun i _ => Reg.CAN_EVENT_MASTER i⟩,
      ⟨.w1c, false, fun i _ => Reg.CAN_EVENT_TT_SYNC_LOST i⟩,
      ⟨.w1c, false, fun i _ => Reg.CAN_EVENT_SLOT_MISS i⟩,
      ⟨.w1c, false, fun i _ => Reg.CAN_EVENT_CFG_IGNORED i⟩,
      ⟨.w1c, false, fun i _ => Reg.CAN_EVENT_TDC_SAT i⟩,
      ⟨.w1c, false, fun i _ => Reg.CAN_EVENT_WARN i⟩,
      ⟨.w1c, false, fun i _ => Reg.CAN_EVENT_PASSIVE i⟩,
      ⟨.w1c, false, fun i _ => Reg.CAN_EVENT_RECOVERED i⟩,
      ⟨.w1c, false, fun i _ => Reg.CAN_EVENT_BUS_OFF i⟩]⟩,
  ⟨"CAN_TTCFG", 0x20040, 12, 0x1000, 1, 0x0, 32, [
      ⟨.rwl, true, fun i _ => Reg.CAN_TTCFG_ARB_RETRY i⟩,
      ⟨.rwl, true, fun i _ => Reg.CAN_TTCFG_TXEN_WIN i⟩,
      ⟨.rwl, true, fun i _ => Reg.CAN_TTCFG_MASTER_EN i⟩,
      ⟨.rwl, true, fun i _ => Reg.CAN_TTCFG_CYCLES_EXP i⟩,
      ⟨.rwl, true, fun i _ => Reg.CAN_TTCFG_CYCLE_LEN i⟩]⟩,
  ⟨"CAN_TTREF", 0x20044, 12, 0x1000, 1, 0x0, 32, [
      ⟨.rwl, true, fun i _ => Reg.CAN_TTREF_REF_ID i⟩]⟩,
  ⟨"CAN_TTSTATUS", 0x20048, 12, 0x1000, 1, 0x0, 32, [
      ⟨.ro, false, fun i _ => Reg.CAN_TTSTATUS_CYCLE_TIME i⟩,
      ⟨.ro, false, fun i _ => Reg.CAN_TTSTATUS_MISSED i⟩,
      ⟨.ro, false, fun i _ => Reg.CAN_TTSTATUS_CYCLE i⟩,
      ⟨.ro, false, fun i _ => Reg.CAN_TTSTATUS_TT_STATE i⟩]⟩,
  ⟨"CAN_TTSTAT", 0x2004C, 12, 0x1000, 1, 0x0, 32, [
      ⟨.rc, false, fun i _ => Reg.CAN_TTSTAT_SLOT_MISS i⟩,
      ⟨.rc, false, fun i _ => Reg.CAN_TTSTAT_REF_MISS i⟩,
      ⟨.rc, false, fun i _ => Reg.CAN_TTSTAT_TAKEOVER i⟩]⟩,
  ⟨"CAN_FLT", 0x20100, 12, 0x1000, 64, 0x8, 64, [
      ⟨.rw, true, fun i j => Reg.CAN_FLT_TYPE i j⟩,
      ⟨.rw, true, fun i j => Reg.CAN_FLT_TYPE_EN i j⟩,
      ⟨.rw, true, fun i j => Reg.CAN_FLT_MASK i j⟩,
      ⟨.rw, true, fun i j => Reg.CAN_FLT_ACTION i j⟩,
      ⟨.rw, true, fun i j => Reg.CAN_FLT_IDE i j⟩,
      ⟨.rw, true, fun i j => Reg.CAN_FLT_ID i j⟩]⟩,
  ⟨"CAN_WIN", 0x20400, 12, 0x1000, 32, 0x8, 64, [
      ⟨.rwl, true, fun i j => Reg.CAN_WIN_BASE i j⟩,
      ⟨.rwl, true, fun i j => Reg.CAN_WIN_REP i j⟩,
      ⟨.rwl, true, fun i j => Reg.CAN_WIN_KIND i j⟩,
      ⟨.rwl, true, fun i j => Reg.CAN_WIN_LEN i j⟩,
      ⟨.rwl, true, fun i j => Reg.CAN_WIN_START i j⟩]⟩]

/-- The registers of the FLW block (Table 21.1). -/
def regTableFLW : List RegRow := [
  ⟨"FLW_CFG", 0xD000, 1, 0x0, 1, 0x0, 32, [
      ⟨.rwl, true, fun _ _ => Reg.FLW_CFG_ING_DEPTH⟩,
      ⟨.rwl, true, fun _ _ => Reg.FLW_CFG_SPARE_USE⟩]⟩,
  ⟨"FLW_CMD", 0xD004, 1, 0x0, 1, 0x0, 32, [
      ⟨.wo, true, fun _ _ => Reg.FLW_CMD_ARG⟩,
      ⟨.wo, true, fun _ _ => Reg.FLW_CMD_CODE⟩]⟩,
  ⟨"FLW_STATUS", 0xD008, 1, 0x0, 1, 0x0, 32, [
      ⟨.ro, false, fun _ _ => Reg.FLW_STATUS_ACTIVE⟩,
      ⟨.ro, false, fun _ _ => Reg.FLW_STATUS_SHEDDING⟩,
      ⟨.ro, false, fun _ _ => Reg.FLW_STATUS_HALTED⟩,
      ⟨.ro, false, fun _ _ => Reg.FLW_STATUS_RUN⟩]⟩,
  ⟨"FLW_RETIRED", 0xD00C, 1, 0x0, 1, 0x0, 32, [
      ⟨.ro, false, fun _ _ => Reg.FLW_RETIRED_GPIO⟩,
      ⟨.ro, false, fun _ _ => Reg.FLW_RETIRED_STACK⟩,
      ⟨.ro, false, fun _ _ => Reg.FLW_RETIRED_CAN⟩,
      ⟨.ro, false, fun _ _ => Reg.FLW_RETIRED_CONSIST⟩,
      ⟨.ro, false, fun _ _ => Reg.FLW_RETIRED_LINE⟩]⟩,
  ⟨"FLW_STAT", 0xD010, 1, 0x0, 1, 0x0, 32, [
      ⟨.rc, false, fun _ _ => Reg.FLW_STAT_UNMATCHED⟩,
      ⟨.rc, false, fun _ _ => Reg.FLW_STAT_ING_DROP⟩,
      ⟨.rc, false, fun _ _ => Reg.FLW_STAT_SHED_DROP⟩]⟩,
  ⟨"FLW_STAT2", 0xD014, 1, 0x0, 1, 0x0, 32, [
      ⟨.rc, false, fun _ _ => Reg.FLW_STAT2_POL_DROP⟩,
      ⟨.rc, false, fun _ _ => Reg.FLW_STAT2_AUTH_FAIL⟩,
      ⟨.rc, false, fun _ _ => Reg.FLW_STAT2_TUBE_ERR⟩,
      ⟨.rc, false, fun _ _ => Reg.FLW_STAT2_WRITE_IGNORED⟩]⟩,
  ⟨"FLW_EVENT", 0xD018, 1, 0x0, 1, 0x0, 32, [
      ⟨.w1c, false, fun _ _ => Reg.FLW_EVENT_ECC_UNCORR⟩,
      ⟨.w1c, false, fun _ _ => Reg.FLW_EVENT_IV_WARN⟩,
      ⟨.w1c, false, fun _ _ => Reg.FLW_EVENT_SHED_END⟩,
      ⟨.w1c, false, fun _ _ => Reg.FLW_EVENT_SHED_START⟩,
      ⟨.w1c, false, fun _ _ => Reg.FLW_EVENT_RETIRED⟩,
      ⟨.w1c, false, fun _ _ => Reg.FLW_EVENT_FLOW_STATUS⟩,
      ⟨.w1c, false, fun _ _ => Reg.FLW_EVENT_HALTED⟩]⟩,
  ⟨"FLW_IVCNT", 0xD01C, 1, 0x0, 1, 0x0, 32, [
      ⟨.ro, false, fun _ _ => Reg.FLW_IVCNT_IVCNT⟩]⟩,
  ⟨"FLW_ECC", 0xD020, 1, 0x0, 1, 0x0, 32, [
      ⟨.rc, false, fun _ _ => Reg.FLW_ECC_UNCORR⟩,
      ⟨.rc, false, fun _ _ => Reg.FLW_ECC_CORR⟩]⟩,
  ⟨"FLW_SUSP", 0xD040, 32, 0x4, 1, 0x0, 32, [
      ⟨.w1c, false, fun i _ => Reg.FLW_SUSP_SUSP i⟩]⟩,
  ⟨"FLW_SLICE", 0xD100, 16, 0x4, 1, 0x0, 32, [
      ⟨.ro, false, fun i _ => Reg.FLW_SLICE_ENTRY i⟩]⟩,
  ⟨"FLW_SLICE_SH", 0xD140, 16, 0x4, 1, 0x0, 32, [
      ⟨.rw, true, fun i _ => Reg.FLW_SLICE_SH_ENTRY i⟩]⟩,
  ⟨"FLW_GPIO_IN", 0xD200, 1, 0x0, 1, 0x0, 32, [
      ⟨.ro, false, fun _ _ => Reg.FLW_GPIO_IN_IN⟩]⟩,
  ⟨"FLW_GPIO_OUT", 0xD204, 1, 0x0, 1, 0x0, 32, [
      ⟨.ro, false, fun _ _ => Reg.FLW_GPIO_OUT_OUT⟩]⟩,
  ⟨"FLW_GPIO_DIR", 0xD208, 1, 0x0, 1, 0x0, 32, [
      ⟨.rwl, true, fun _ _ => Reg.FLW_GPIO_DIR_DIR⟩]⟩,
  ⟨"FLW_GPIO_SAFE", 0xD20C, 1, 0x0, 1, 0x0, 32, [
      ⟨.rwl, true, fun _ _ => Reg.FLW_GPIO_SAFE_SAFE⟩]⟩,
  ⟨"FLW_GPIO_HOLD", 0xD210, 1, 0x0, 1, 0x0, 32, [
      ⟨.rwl, true, fun _ _ => Reg.FLW_GPIO_HOLD_HOLD⟩]⟩]

/-- The registers of the BRG block (Table 21.1). -/
def regTableBRG : List RegRow := [
  ⟨"BRG_CFG", 0x30000, 1, 0x0, 1, 0x0, 32, [
      ⟨.rwl, true, fun _ _ => Reg.BRG_CFG_PF0_TGT⟩,
      ⟨.rwl, true, fun _ _ => Reg.BRG_CFG_RSP_TMO⟩,
      ⟨.rwl, true, fun _ _ => Reg.BRG_CFG_DISCARD⟩,
      ⟨.rwl, true, fun _ _ => Reg.BRG_CFG_LOCK_TRIES⟩]⟩,
  ⟨"BRG_CMD", 0x30004, 1, 0x0, 1, 0x0, 32, [
      ⟨.wo, true, fun _ _ => Reg.BRG_CMD_ARG⟩,
      ⟨.wo, true, fun _ _ => Reg.BRG_CMD_CODE⟩]⟩,
  ⟨"BRG_STATUS", 0x30008, 1, 0x0, 1, 0x0, 32, [
      ⟨.ro, false, fun _ _ => Reg.BRG_STATUS_POSTED⟩,
      ⟨.ro, false, fun _ _ => Reg.BRG_STATUS_LOCK_OUT⟩,
      ⟨.ro, false, fun _ _ => Reg.BRG_STATUS_SHED⟩,
      ⟨.ro, false, fun _ _ => Reg.BRG_STATUS_TGT_LOCKED⟩,
      ⟨.ro, false, fun _ _ => Reg.BRG_STATUS_RUN⟩]⟩,
  ⟨"BRG_TGT_LOCK", 0x3000C, 1, 0x0, 1, 0x0, 32, [
      ⟨.ro, false, fun _ _ => Reg.BRG_TGT_LOCK_HOLDER⟩,
      ⟨.ro, false, fun _ _ => Reg.BRG_TGT_LOCK_REMAIN⟩]⟩,
  ⟨"BRG_STAT", 0x30010, 1, 0x0, 1, 0x0, 32, [
      ⟨.rc, false, fun _ _ => Reg.BRG_STAT_DISCARDS⟩,
      ⟨.rc, false, fun _ _ => Reg.BRG_STAT_TIMEOUTS⟩]⟩,
  ⟨"BRG_STAT2", 0x30014, 1, 0x0, 1, 0x0, 32, [
      ⟨.rc, false, fun _ _ => Reg.BRG_STAT2_ORPHANED⟩,
      ⟨.rc, false, fun _ _ => Reg.BRG_STAT2_LATE_RESP⟩]⟩,
  ⟨"BRG_STAT3", 0x30018, 1, 0x0, 1, 0x0, 32, [
      ⟨.rc, false, fun _ _ => Reg.BRG_STAT3_LOCK_RETRY⟩,
      ⟨.rc, false, fun _ _ => Reg.BRG_STAT3_LOCK_TIMEOUT⟩,
      ⟨.rc, false, fun _ _ => Reg.BRG_STAT3_ORDER_LATE⟩]⟩,
  ⟨"BRG_STAT4", 0x3001C, 1, 0x0, 1, 0x0, 32, [
      ⟨.rc, false, fun _ _ => Reg.BRG_STAT4_NOTICES⟩,
      ⟨.rc, false, fun _ _ => Reg.BRG_STAT4_RX_DISCARD⟩]⟩,
  ⟨"BRG_EVENT", 0x30020, 1, 0x0, 1, 0x0, 32, [
      ⟨.w1c, false, fun _ _ => Reg.BRG_EVENT_AP_OVERRUN⟩,
      ⟨.w1c, false, fun _ _ => Reg.BRG_EVENT_TIMEOUT⟩,
      ⟨.w1c, false, fun _ _ => Reg.BRG_EVENT_ORPHANED⟩,
      ⟨.w1c, false, fun _ _ => Reg.BRG_EVENT_LOCK_TIMEOUT⟩,
      ⟨.w1c, false, fun _ _ => Reg.BRG_EVENT_RSE_LOST⟩,
      ⟨.w1c, false, fun _ _ => Reg.BRG_EVENT_POSTED_FAULT⟩]⟩,
  ⟨"BRG_AP_REQ", 0x30100, 8, 0x20, 1, 0x0, 32, [
      ⟨.wo, true, fun i _ => Reg.BRG_AP_REQ_TAG i⟩,
      ⟨.wo, true, fun i _ => Reg.BRG_AP_REQ_WIN i⟩,
      ⟨.wo, true, fun i _ => Reg.BRG_AP_REQ_WIDTH i⟩,
      ⟨.wo, true, fun i _ => Reg.BRG_AP_REQ_UNLOCK i⟩,
      ⟨.wo, true, fun i _ => Reg.BRG_AP_REQ_LOCK i⟩,
      ⟨.wo, true, fun i _ => Reg.BRG_AP_REQ_OP i⟩]⟩,
  ⟨"BRG_AP_STATUS", 0x30104, 8, 0x20, 1, 0x0, 32, [
      ⟨.ro, false, fun i _ => Reg.BRG_AP_STATUS_TAG i⟩,
      ⟨.ro, false, fun i _ => Reg.BRG_AP_STATUS_STATUS i⟩]⟩,
  ⟨"BRG_AP_OFFSET", 0x30108, 8, 0x20, 1, 0x0, 64, [
      ⟨.rw, true, fun i _ => Reg.BRG_AP_OFFSET_OFFSET i⟩]⟩,
  ⟨"BRG_AP_DATA", 0x30110, 8, 0x20, 1, 0x0, 64, [
      ⟨.rw, true, fun i _ => Reg.BRG_AP_DATA_DATA i⟩]⟩,
  ⟨"BRG_WIN_CTRL", 0x30400, 32, 0x40, 1, 0x0, 32, [
      ⟨.rw, true, fun i _ => Reg.BRG_WIN_CTRL_SIZE_EXP i⟩,
      ⟨.rw, true, fun i _ => Reg.BRG_WIN_CTRL_CLASS i⟩,
      ⟨.rw, true, fun i _ => Reg.BRG_WIN_CTRL_TARGET i⟩,
      ⟨.rw, true, fun i _ => Reg.BRG_WIN_CTRL_FAR_BE i⟩,
      ⟨.rw, true, fun i _ => Reg.BRG_WIN_CTRL_LANES i⟩,
      ⟨.rw, true, fun i _ => Reg.BRG_WIN_CTRL_RSE i⟩,
      ⟨.rw, true, fun i _ => Reg.BRG_WIN_CTRL_ESS i⟩,
      ⟨.rw, true, fun i _ => Reg.BRG_WIN_CTRL_SB_EN i⟩,
      ⟨.rw, true, fun i _ => Reg.BRG_WIN_CTRL_PF1_OK i⟩,
      ⟨.rw, true, fun i _ => Reg.BRG_WIN_CTRL_BIND i⟩]⟩,
  ⟨"BRG_WIN_DST", 0x30404, 32, 0x40, 1, 0x0, 32, [
      ⟨.rw, true, fun i _ => Reg.BRG_WIN_DST_ADDR i⟩]⟩,
  ⟨"BRG_WIN_UID", 0x30408, 32, 0x40, 1, 0x0, 64, [
      ⟨.rw, true, fun i _ => Reg.BRG_WIN_UID_UID i⟩]⟩,
  ⟨"BRG_WIN_BASE", 0x30410, 32, 0x40, 1, 0x0, 64, [
      ⟨.rw, true, fun i _ => Reg.BRG_WIN_BASE_BASE i⟩]⟩,
  ⟨"BRG_WIN_STATUS", 0x30418, 32, 0x40, 1, 0x0, 32, [
      ⟨.ro, false, fun i _ => Reg.BRG_WIN_STATUS_BSEQ i⟩,
      ⟨.ro, false, fun i _ => Reg.BRG_WIN_STATUS_RES_POS i⟩,
      ⟨.ro, false, fun i _ => Reg.BRG_WIN_STATUS_STATE i⟩]⟩,
  ⟨"BRG_WIN_SB", 0x30420, 32, 0x40, 1, 0x0, 64, [
      ⟨.ro, false, fun i _ => Reg.BRG_WIN_SB_VALID i⟩,
      ⟨.ro, false, fun i _ => Reg.BRG_WIN_SB_AGE i⟩,
      ⟨.ro, false, fun i _ => Reg.BRG_WIN_SB_MODE i⟩,
      ⟨.ro, false, fun i _ => Reg.BRG_WIN_SB_ALIVE_RUN i⟩,
      ⟨.ro, false, fun i _ => Reg.BRG_WIN_SB_CRIT i⟩,
      ⟨.ro, false, fun i _ => Reg.BRG_WIN_SB_MAJOR i⟩,
      ⟨.ro, false, fun i _ => Reg.BRG_WIN_SB_MINOR i⟩,
      ⟨.ro, false, fun i _ => Reg.BRG_WIN_SB_GPIO i⟩]⟩,
  ⟨"BRG_EXP_CTRL", 0x30C00, 8, 0x20, 1, 0x0, 32, [
      ⟨.rw, true, fun i _ => Reg.BRG_EXP_CTRL_SIZE_EXP i⟩,
      ⟨.rw, true, fun i _ => Reg.BRG_EXP_CTRL_SCOPE i⟩,
      ⟨.rw, true, fun i _ => Reg.BRG_EXP_CTRL_LOCK_OK i⟩,
      ⟨.rw, true, fun i _ => Reg.BRG_EXP_CTRL_WR_OK i⟩,
      ⟨.rw, true, fun i _ => Reg.BRG_EXP_CTRL_RD_OK i⟩,
      ⟨.rw, true, fun i _ => Reg.BRG_EXP_CTRL_EN i⟩]⟩,
  ⟨"BRG_EXP_ADDR", 0x30C08, 8, 0x20, 1, 0x0, 64, [
      ⟨.rw, true, fun i _ => Reg.BRG_EXP_ADDR_ADDR i⟩]⟩]

/-- The registers of the HRG block (Table 21.1). -/
def regTableHRG : List RegRow := [
  ⟨"HRG_STATUS", 0x38000, 1, 0x0, 1, 0x0, 32, [
      ⟨.ro, false, fun _ _ => Reg.HRG_STATUS_MSIX1⟩,
      ⟨.ro, false, fun _ _ => Reg.HRG_STATUS_MSIX0⟩,
      ⟨.ro, false, fun _ _ => Reg.HRG_STATUS_BME1⟩,
      ⟨.ro, false, fun _ _ => Reg.HRG_STATUS_BME0⟩,
      ⟨.ro, false, fun _ _ => Reg.HRG_STATUS_WIDTH⟩,
      ⟨.ro, false, fun _ _ => Reg.HRG_STATUS_SPEED⟩,
      ⟨.ro, false, fun _ _ => Reg.HRG_STATUS_LINK_UP⟩]⟩,
  ⟨"HRG_EVENT", 0x38004, 1, 0x0, 1, 0x0, 32, [
      ⟨.w1c, false, fun _ _ => Reg.HRG_EVENT_HOST_ERROR⟩,
      ⟨.w1c, false, fun _ _ => Reg.HRG_EVENT_CFG_IGNORED⟩,
      ⟨.w1c, false, fun _ _ => Reg.HRG_EVENT_FLR⟩,
      ⟨.w1c, false, fun _ _ => Reg.HRG_EVENT_HOT_RESET⟩,
      ⟨.w1c, false, fun _ _ => Reg.HRG_EVENT_LINK_DOWN⟩,
      ⟨.w1c, false, fun _ _ => Reg.HRG_EVENT_RING_ERROR⟩,
      ⟨.w1c, false, fun _ _ => Reg.HRG_EVENT_BAD_ACCESS⟩]⟩,
  ⟨"HRG_BAD_ACC", 0x38008, 1, 0x0, 1, 0x0, 32, [
      ⟨.w1c, false, fun _ _ => Reg.HRG_BAD_ACC_VALID⟩,
      ⟨.ro, false, fun _ _ => Reg.HRG_BAD_ACC_WRITE⟩,
      ⟨.ro, false, fun _ _ => Reg.HRG_BAD_ACC_FUNC⟩,
      ⟨.ro, false, fun _ _ => Reg.HRG_BAD_ACC_BE⟩,
      ⟨.ro, false, fun _ _ => Reg.HRG_BAD_ACC_OFFSET⟩]⟩,
  ⟨"HRG_BAD_CNT", 0x3800C, 1, 0x0, 1, 0x0, 32, [
      ⟨.rc, false, fun _ _ => Reg.HRG_BAD_CNT_COUNT⟩]⟩,
  ⟨"HRG_GRP_CFG", 0x38100, 4, 0x20, 1, 0x0, 32, [
      ⟨.rw, false, fun i _ => Reg.HRG_GRP_CFG_EN i⟩,
      ⟨.rwl, true, fun i _ => Reg.HRG_GRP_CFG_OWNER i⟩,
      ⟨.rw, false, fun i _ => Reg.HRG_GRP_CFG_POLL i⟩]⟩,
  ⟨"HRG_GRP_DB", 0x38108, 4, 0x20, 1, 0x0, 64, [
      ⟨.rw, false, fun i _ => Reg.HRG_GRP_DB_ADDR i⟩]⟩,
  ⟨"HRG_GRP_WB", 0x38110, 4, 0x20, 1, 0x0, 64, [
      ⟨.rw, false, fun i _ => Reg.HRG_GRP_WB_ADDR i⟩]⟩,
  ⟨"HRG_RING_CTRL", 0x39000, 132, 0x20, 1, 0x0, 32, [
      ⟨.rw, false, fun i _ => Reg.HRG_RING_CTRL_EN i⟩,
      ⟨.rw, false, fun i _ => Reg.HRG_RING_CTRL_IRQ_EN i⟩,
      ⟨.rw, false, fun i _ => Reg.HRG_RING_CTRL_SIZE_EXP i⟩,
      ⟨.rw, false, fun i _ => Reg.HRG_RING_CTRL_VECTOR i⟩,
      ⟨.rw, false, fun i _ => Reg.HRG_RING_CTRL_COAL_TIME i⟩,
      ⟨.rw, false, fun i _ => Reg.HRG_RING_CTRL_COAL_CNT i⟩]⟩,
  ⟨"HRG_RING_BASE", 0x39008, 132, 0x20, 1, 0x0, 64, [
      ⟨.rw, false, fun i _ => Reg.HRG_RING_BASE_BASE i⟩]⟩,
  ⟨"HRG_RING_STATUS", 0x39010, 132, 0x20, 1, 0x0, 32, [
      ⟨.ro, false, fun i _ => Reg.HRG_RING_STATUS_INDEX i⟩,
      ⟨.ro, false, fun i _ => Reg.HRG_RING_STATUS_CAUSE i⟩,
      ⟨.ro, false, fun i _ => Reg.HRG_RING_STATUS_STATE i⟩]⟩,
  ⟨"HRG_RING_STAT", 0x39014, 132, 0x20, 1, 0x0, 32, [
      ⟨.rc, false, fun i _ => Reg.HRG_RING_STAT_DROPS i⟩,
      ⟨.rc, false, fun i _ => Reg.HRG_RING_STAT_DONE i⟩]⟩,
  ⟨"HRG_EVRING_MASK", 0x3A018, 4, 0x20, 1, 0x0, 32, [
      ⟨.rw, false, fun i _ => Reg.HRG_EVRING_MASK_MASK i⟩]⟩]

/-- The registers of the PAIR block (Table 21.1). -/
def regTablePAIR : List RegRow := [
  ⟨"PAIR_CFG", 0x3C000, 1, 0x0, 1, 0x0, 32, [
      ⟨.rwl, true, fun _ _ => Reg.PAIR_CFG_MEMBER⟩,
      ⟨.rwl, true, fun _ _ => Reg.PAIR_CFG_EN⟩]⟩,
  ⟨"PAIR_VEH_UID", 0x3C008, 1, 0x0, 1, 0x0, 64, [
      ⟨.rwl, true, fun _ _ => Reg.PAIR_VEH_UID_UID⟩]⟩,
  ⟨"PAIR_CMD", 0x3C010, 1, 0x0, 1, 0x0, 32, [
      ⟨.wo, true, fun _ _ => Reg.PAIR_CMD_ARG⟩,
      ⟨.wo, true, fun _ _ => Reg.PAIR_CMD_CODE⟩]⟩,
  ⟨"PAIR_STATUS", 0x3C014, 1, 0x0, 1, 0x0, 32, [
      ⟨.ro, false, fun _ _ => Reg.PAIR_STATUS_REF_LOST⟩,
      ⟨.ro, false, fun _ _ => Reg.PAIR_STATUS_ADOPT⟩,
      ⟨.ro, false, fun _ _ => Reg.PAIR_STATUS_REF_SW⟩,
      ⟨.ro, false, fun _ _ => Reg.PAIR_STATUS_INTERLOCK⟩,
      ⟨.ro, false, fun _ _ => Reg.PAIR_STATUS_PERMISSION⟩,
      ⟨.ro, false, fun _ _ => Reg.PAIR_STATUS_PARTNER_OK⟩,
      ⟨.ro, false, fun _ _ => Reg.PAIR_STATUS_LINK⟩,
      ⟨.ro, false, fun _ _ => Reg.PAIR_STATUS_PENDING⟩,
      ⟨.ro, false, fun _ _ => Reg.PAIR_STATUS_SYNC⟩]⟩,
  ⟨"PAIR_TAKEOVER", 0x3C018, 1, 0x0, 1, 0x0, 32, [
      ⟨.ro, false, fun _ _ => Reg.PAIR_TAKEOVER_VARIANT_B⟩,
      ⟨.ro, false, fun _ _ => Reg.PAIR_TAKEOVER_NS⟩]⟩,
  ⟨"PAIR_STAT", 0x3C01C, 1, 0x0, 1, 0x0, 32, [
      ⟨.rc, false, fun _ _ => Reg.PAIR_STAT_TAKEOVERS⟩,
      ⟨.rc, false, fun _ _ => Reg.PAIR_STAT_RESYNCS⟩,
      ⟨.rc, false, fun _ _ => Reg.PAIR_STAT_LINK_LOSSES⟩]⟩,
  ⟨"PAIR_EVENT", 0x3C020, 1, 0x0, 1, 0x0, 32, [
      ⟨.w1c, false, fun _ _ => Reg.PAIR_EVENT_INTERLOCK_FAULT⟩,
      ⟨.w1c, false, fun _ _ => Reg.PAIR_EVENT_REF_LOST⟩,
      ⟨.w1c, false, fun _ _ => Reg.PAIR_EVENT_SYNC_LOST⟩,
      ⟨.w1c, false, fun _ _ => Reg.PAIR_EVENT_SYNCED⟩,
      ⟨.w1c, false, fun _ _ => Reg.PAIR_EVENT_RELEASED⟩,
      ⟨.w1c, false, fun _ _ => Reg.PAIR_EVENT_TAKEOVER⟩,
      ⟨.w1c, false, fun _ _ => Reg.PAIR_EVENT_OUTPUTS_SAFE⟩]⟩,
  ⟨"PAIR_REF_CFG", 0x3C100, 1, 0x0, 1, 0x0, 32, [
      ⟨.rwl, true, fun _ _ => Reg.PAIR_REF_CFG_ALIVE_EN⟩,
      ⟨.rwl, true, fun _ _ => Reg.PAIR_REF_CFG_PERIOD_N⟩]⟩,
  ⟨"PAIR_REF_STATUS", 0x3C104, 1, 0x0, 1, 0x0, 32, [
      ⟨.ro, false, fun _ _ => Reg.PAIR_REF_STATUS_MISSED1⟩,
      ⟨.ro, false, fun _ _ => Reg.PAIR_REF_STATUS_MISSED0⟩,
      ⟨.ro, false, fun _ _ => Reg.PAIR_REF_STATUS_ALIVE1⟩,
      ⟨.ro, false, fun _ _ => Reg.PAIR_REF_STATUS_ALIVE0⟩,
      ⟨.ro, false, fun _ _ => Reg.PAIR_REF_STATUS_ELIG1⟩,
      ⟨.ro, false, fun _ _ => Reg.PAIR_REF_STATUS_ELIG0⟩,
      ⟨.ro, false, fun _ _ => Reg.PAIR_REF_STATUS_STATE⟩,
      ⟨.ro, false, fun _ _ => Reg.PAIR_REF_STATUS_SEL⟩]⟩,
  ⟨"PAIR_REF_STAT", 0x3C108, 1, 0x0, 1, 0x0, 32, [
      ⟨.rc, false, fun _ _ => Reg.PAIR_REF_STAT_SWITCHES⟩,
      ⟨.rc, false, fun _ _ => Reg.PAIR_REF_STAT_CRC_ERR1⟩,
      ⟨.rc, false, fun _ _ => Reg.PAIR_REF_STAT_CRC_ERR0⟩]⟩,
  ⟨"PAIR_REF_RPT", 0x3C140, 2, 0x40, 1, 0x0, 320, [
      ⟨.ro, false, fun i _ => Reg.PAIR_REF_RPT_REPORT i⟩]⟩]

/-- The registers of the SLP block (Table 21.1). -/
def regTableSLP : List RegRow := [
  ⟨"SLP_CFG", 0x3F000, 1, 0x0, 1, 0x0, 32, [
      ⟨.rwl, true, fun _ _ => Reg.SLP_CFG_FW_TMO⟩,
      ⟨.rw, true, fun _ _ => Reg.SLP_CFG_TIMER_EN⟩,
      ⟨.rwl, true, fun _ _ => Reg.SLP_CFG_LINE_EN⟩,
      ⟨.rwl, true, fun _ _ => Reg.SLP_CFG_WAKE_EN⟩,
      ⟨.rwl, true, fun _ _ => Reg.SLP_CFG_CAN_EN⟩]⟩,
  ⟨"SLP_CTRL", 0x3F004, 1, 0x0, 1, 0x0, 32, [
      ⟨.rw, true, fun _ _ => Reg.SLP_CTRL_READY⟩]⟩,
  ⟨"SLP_STATUS", 0x3F008, 1, 0x0, 1, 0x0, 32, [
      ⟨.ro, false, fun _ _ => Reg.SLP_STATUS_VOTE_ID⟩,
      ⟨.ro, false, fun _ _ => Reg.SLP_STATUS_CONFIRMED⟩,
      ⟨.ro, false, fun _ _ => Reg.SLP_STATUS_RESULT⟩,
      ⟨.ro, false, fun _ _ => Reg.SLP_STATUS_STATE⟩]⟩,
  ⟨"SLP_SLEEP_AT", 0x3F00C, 1, 0x0, 1, 0x0, 32, [
      ⟨.ro, false, fun _ _ => Reg.SLP_SLEEP_AT_CYCLE⟩]⟩,
  ⟨"SLP_WAKE_CFG", 0x3F010, 1, 0x0, 1, 0x0, 32, [
      ⟨.rwl, true, fun _ _ => Reg.SLP_WAKE_CFG_DEB⟩,
      ⟨.rwl, true, fun _ _ => Reg.SLP_WAKE_CFG_EDGE⟩,
      ⟨.rwl, true, fun _ _ => Reg.SLP_WAKE_CFG_POL⟩]⟩,
  ⟨"SLP_CANWUP", 0x3F014, 1, 0x0, 1, 0x0, 32, [
      ⟨.rwl, true, fun _ _ => Reg.SLP_CANWUP_T_WAKE⟩]⟩,
  ⟨"SLP_TIMER", 0x3F018, 1, 0x0, 1, 0x0, 32, [
      ⟨.rw, true, fun _ _ => Reg.SLP_TIMER_TICKS⟩]⟩,
  ⟨"SLP_WAKE_SRC", 0x3F01C, 1, 0x0, 1, 0x0, 32, [
      ⟨.ro, false, fun _ _ => Reg.SLP_WAKE_SRC_TAMPER⟩,
      ⟨.ro, false, fun _ _ => Reg.SLP_WAKE_SRC_TIMER⟩,
      ⟨.ro, false, fun _ _ => Reg.SLP_WAKE_SRC_WAKE⟩,
      ⟨.ro, false, fun _ _ => Reg.SLP_WAKE_SRC_CAN⟩,
      ⟨.ro, false, fun _ _ => Reg.SLP_WAKE_SRC_LINE⟩]⟩,
  ⟨"SLP_WAKE_LIVE", 0x3F020, 1, 0x0, 1, 0x0, 32, [
      ⟨.ro, false, fun _ _ => Reg.SLP_WAKE_LIVE_TAMPER⟩,
      ⟨.ro, false, fun _ _ => Reg.SLP_WAKE_LIVE_TIMER⟩,
      ⟨.ro, false, fun _ _ => Reg.SLP_WAKE_LIVE_WAKE⟩,
      ⟨.ro, false, fun _ _ => Reg.SLP_WAKE_LIVE_CAN⟩,
      ⟨.ro, false, fun _ _ => Reg.SLP_WAKE_LIVE_LINE⟩]⟩,
  ⟨"SLP_STAT", 0x3F024, 1, 0x0, 1, 0x0, 32, [
      ⟨.rc, false, fun _ _ => Reg.SLP_STAT_SLEEPS⟩,
      ⟨.rc, false, fun _ _ => Reg.SLP_STAT_FALSE_WAKES⟩,
      ⟨.rc, false, fun _ _ => Reg.SLP_STAT_VOTE_FAILS⟩]⟩,
  ⟨"SLP_EVENT", 0x3F028, 1, 0x0, 1, 0x0, 32, [
      ⟨.w1c, false, fun _ _ => Reg.SLP_EVENT_CONFIRMED⟩,
      ⟨.w1c, false, fun _ _ => Reg.SLP_EVENT_FALSE_WAKE⟩,
      ⟨.w1c, false, fun _ _ => Reg.SLP_EVENT_WOKE⟩,
      ⟨.w1c, false, fun _ _ => Reg.SLP_EVENT_CANCEL⟩,
      ⟨.w1c, false, fun _ _ => Reg.SLP_EVENT_COMMIT⟩,
      ⟨.w1c, false, fun _ _ => Reg.SLP_EVENT_VOTE_FAIL⟩]⟩,
  ⟨"SLP_AON_TIME", 0x3F030, 1, 0x0, 1, 0x0, 64, [
      ⟨.ro, false, fun _ _ => Reg.SLP_AON_TIME_TICKS⟩]⟩]

/-- The registers of the FLT block (Table 21.1). -/
def regTableFLT : List RegRow := [
  ⟨"FLT_STATUS", 0x2000, 1, 0x0, 1, 0x0, 64, [
      ⟨.ro, false, fun _ _ => Reg.FLT_STATUS_STATUS⟩]⟩,
  ⟨"FLT_RAW", 0x2008, 1, 0x0, 1, 0x0, 64, [
      ⟨.w1c, true, fun _ _ => Reg.FLT_RAW_RAW⟩]⟩,
  ⟨"FLT_FORCE", 0x2010, 1, 0x0, 1, 0x0, 64, [
      ⟨.rw, true, fun _ _ => Reg.FLT_FORCE_FORCE⟩]⟩,
  ⟨"FLT_FORCED", 0x2018, 1, 0x0, 1, 0x0, 64, [
      ⟨.ro, false, fun _ _ => Reg.FLT_FORCED_FORCED⟩]⟩,
  ⟨"FLT_RDF", 0x2020, 1, 0x0, 1, 0x0, 64, [
      ⟨.w1c, true, fun _ _ => Reg.FLT_RDF_RDF⟩]⟩,
  ⟨"FLT_TIMER_RUN", 0x2028, 1, 0x0, 1, 0x0, 64, [
      ⟨.ro, false, fun _ _ => Reg.FLT_TIMER_RUN_RUN⟩]⟩,
  ⟨"FLT_FIRST", 0x2030, 1, 0x0, 1, 0x0, 32, [
      ⟨.w1c, true, fun _ _ => Reg.FLT_FIRST_VALID⟩,
      ⟨.ro, false, fun _ _ => Reg.FLT_FIRST_FORCED⟩,
      ⟨.ro, false, fun _ _ => Reg.FLT_FIRST_SEVERITY⟩,
      ⟨.ro, false, fun _ _ => Reg.FLT_FIRST_SOURCE⟩]⟩,
  ⟨"FLT_FIRST_MAP", 0x2038, 1, 0x0, 1, 0x0, 64, [
      ⟨.ro, false, fun _ _ => Reg.FLT_FIRST_MAP_MAP⟩]⟩,
  ⟨"FLT_FIRST_TIME", 0x2040, 1, 0x0, 1, 0x0, 64, [
      ⟨.ro, false, fun _ _ => Reg.FLT_FIRST_TIME_NS⟩]⟩,
  ⟨"FLT_ESC", 0x2048, 1, 0x0, 1, 0x0, 32, [
      ⟨.w1c, true, fun _ _ => Reg.FLT_ESC_VALID⟩,
      ⟨.ro, false, fun _ _ => Reg.FLT_ESC_CAUSE⟩,
      ⟨.ro, false, fun _ _ => Reg.FLT_ESC_FORCED⟩,
      ⟨.ro, false, fun _ _ => Reg.FLT_ESC_SEVERITY⟩,
      ⟨.ro, false, fun _ _ => Reg.FLT_ESC_SOURCE⟩]⟩,
  ⟨"FLT_ESC_TIME", 0x2050, 1, 0x0, 1, 0x0, 64, [
      ⟨.ro, false, fun _ _ => Reg.FLT_ESC_TIME_NS⟩]⟩,
  ⟨"FLT_ALIVE_CFG", 0x2058, 1, 0x0, 1, 0x0, 32, [
      ⟨.ro, false, fun _ _ => Reg.FLT_ALIVE_CFG_RUN⟩,
      ⟨.rwl, true, fun _ _ => Reg.FLT_ALIVE_CFG_HALF⟩]⟩,
  ⟨"FLT_LATENT", 0x205C, 1, 0x0, 1, 0x0, 32, [
      ⟨.ro, false, fun _ _ => Reg.FLT_LATENT_PASSES⟩,
      ⟨.ro, false, fun _ _ => Reg.FLT_LATENT_COLLECTOR⟩,
      ⟨.ro, false, fun _ _ => Reg.FLT_LATENT_SUPPLY⟩,
      ⟨.ro, false, fun _ _ => Reg.FLT_LATENT_CLOCK⟩,
      ⟨.ro, false, fun _ _ => Reg.FLT_LATENT_ECC⟩,
      ⟨.ro, false, fun _ _ => Reg.FLT_LATENT_LOCKSTEP⟩]⟩,
  ⟨"FLT_STAT", 0x2060, 1, 0x0, 1, 0x0, 32, [
      ⟨.rc, false, fun _ _ => Reg.FLT_STAT_LATCHES⟩,
      ⟨.rc, false, fun _ _ => Reg.FLT_STAT_ESCALATIONS⟩,
      ⟨.rc, false, fun _ _ => Reg.FLT_STAT_LATENT_FAILS⟩]⟩,
  ⟨"FLT_EVENT", 0x2064, 1, 0x0, 1, 0x0, 32, [
      ⟨.w1c, false, fun _ _ => Reg.FLT_EVENT_LATENT_FAIL⟩,
      ⟨.w1c, false, fun _ _ => Reg.FLT_EVENT_REAL_DURING_FORCE⟩,
      ⟨.w1c, false, fun _ _ => Reg.FLT_EVENT_ESCALATION⟩,
      ⟨.w1c, false, fun _ _ => Reg.FLT_EVENT_LATCH⟩]⟩,
  ⟨"FLT_SRC_CFG", 0x2100, 64, 0x4, 1, 0x0, 32, [
      ⟨.rwl, true, fun i _ => Reg.FLT_SRC_CFG_TIMER i⟩,
      ⟨.rwl, true, fun i _ => Reg.FLT_SRC_CFG_ACK i⟩,
      ⟨.ro, false, fun i _ => Reg.FLT_SRC_CFG_FIXED i⟩,
      ⟨.rwl, true, fun i _ => Reg.FLT_SRC_CFG_SEVERITY i⟩]⟩]

/-- The registers of the REC block (Table 21.1). -/
def regTableREC : List RegRow := [
  ⟨"REC_CFG", 0x3000, 1, 0x0, 1, 0x0, 32, [
      ⟨.rwl, true, fun _ _ => Reg.REC_CFG_KEY_SLOT⟩]⟩,
  ⟨"REC_CMD", 0x3004, 1, 0x0, 1, 0x0, 32, [
      ⟨.wo, true, fun _ _ => Reg.REC_CMD_ARG⟩,
      ⟨.wo, true, fun _ _ => Reg.REC_CMD_CODE⟩]⟩,
  ⟨"REC_STATUS", 0x3008, 1, 0x0, 1, 0x0, 32, [
      ⟨.ro, false, fun _ _ => Reg.REC_STATUS_READY⟩,
      ⟨.ro, false, fun _ _ => Reg.REC_STATUS_CLEARING⟩,
      ⟨.ro, false, fun _ _ => Reg.REC_STATUS_QUEUE⟩,
      ⟨.ro, false, fun _ _ => Reg.REC_STATUS_NEXT_IDX⟩]⟩,
  ⟨"REC_FILL", 0x300C, 1, 0x0, 1, 0x0, 32, [
      ⟨.ro, false, fun _ _ => Reg.REC_FILL_FIRST_FILL⟩,
      ⟨.ro, false, fun _ _ => Reg.REC_FILL_RING_FILL⟩]⟩,
  ⟨"REC_NEXT_SEQ", 0x3010, 1, 0x0, 1, 0x0, 32, [
      ⟨.ro, false, fun _ _ => Reg.REC_NEXT_SEQ_SEQ⟩]⟩,
  ⟨"REC_RD_IDX", 0x3014, 1, 0x0, 1, 0x0, 32, [
      ⟨.rw, true, fun _ _ => Reg.REC_RD_IDX_IDX⟩]⟩,
  ⟨"REC_RD_STATUS", 0x3018, 1, 0x0, 1, 0x0, 32, [
      ⟨.ro, false, fun _ _ => Reg.REC_RD_STATUS_IDX⟩,
      ⟨.ro, false, fun _ _ => Reg.REC_RD_STATUS_ECC_ERR⟩,
      ⟨.ro, false, fun _ _ => Reg.REC_RD_STATUS_CRC_OK⟩,
      ⟨.ro, false, fun _ _ => Reg.REC_RD_STATUS_VALID⟩]⟩,
  ⟨"REC_STAT", 0x3020, 1, 0x0, 1, 0x0, 32, [
      ⟨.rc, false, fun _ _ => Reg.REC_STAT_WRITTEN⟩,
      ⟨.rc, false, fun _ _ => Reg.REC_STAT_CRC_ERR⟩,
      ⟨.rc, false, fun _ _ => Reg.REC_STAT_WRITE_FAIL⟩]⟩,
  ⟨"REC_LOST", 0x3028, 1, 0x0, 1, 0x0, 64, [
      ⟨.rc, false, fun _ _ => Reg.REC_LOST_COUNT⟩]⟩,
  ⟨"REC_EVENT", 0x3030, 1, 0x0, 1, 0x0, 32, [
      ⟨.w1c, false, fun _ _ => Reg.REC_EVENT_CRC_ERR⟩,
      ⟨.w1c, false, fun _ _ => Reg.REC_EVENT_WRITE_FAIL⟩,
      ⟨.w1c, false, fun _ _ => Reg.REC_EVENT_CLEARED⟩,
      ⟨.w1c, false, fun _ _ => Reg.REC_EVENT_LOST⟩]⟩,
  ⟨"REC_CLR_CNT", 0x3034, 1, 0x0, 1, 0x0, 32, [
      ⟨.ro, false, fun _ _ => Reg.REC_CLR_CNT_COUNT⟩]⟩,
  ⟨"REC_RD_DATA", 0x3040, 8, 0x8, 1, 0x0, 64, [
      ⟨.ro, false, fun i _ => Reg.REC_RD_DATA_DATA i⟩]⟩]

/-- The registers of the KEY block (Table 21.1). -/
def regTableKEY : List RegRow := [
  ⟨"KEY_STATUS", 0x4000, 1, 0x0, 1, 0x0, 32, [
      ⟨.ro, false, fun _ _ => Reg.KEY_STATUS_CORRUPT⟩,
      ⟨.ro, false, fun _ _ => Reg.KEY_STATUS_INTERRUPTED⟩,
      ⟨.ro, false, fun _ _ => Reg.KEY_STATUS_ZEROIZED⟩,
      ⟨.ro, false, fun _ _ => Reg.KEY_STATUS_TAMPERED⟩,
      ⟨.ro, false, fun _ _ => Reg.KEY_STATUS_TEST_ROOT⟩,
      ⟨.ro, false, fun _ _ => Reg.KEY_STATUS_READY⟩]⟩,
  ⟨"KEY_CMD", 0x4004, 1, 0x0, 1, 0x0, 32, [
      ⟨.wo, true, fun _ _ => Reg.KEY_CMD_ARG⟩,
      ⟨.wo, true, fun _ _ => Reg.KEY_CMD_CODE⟩]⟩,
  ⟨"KEY_WRITE_CFG", 0x4008, 1, 0x0, 1, 0x0, 32, [
      ⟨.rw, true, fun _ _ => Reg.KEY_WRITE_CFG_PURPOSE⟩]⟩,
  ⟨"KEY_EPOCH", 0x400C, 1, 0x0, 1, 0x0, 32, [
      ⟨.ro, false, fun _ _ => Reg.KEY_EPOCH_FLOW_ACTIVE⟩,
      ⟨.ro, false, fun _ _ => Reg.KEY_EPOCH_FRAME_ACTIVE⟩,
      ⟨.rwl, true, fun _ _ => Reg.KEY_EPOCH_FRAME_SLOT1⟩,
      ⟨.rwl, true, fun _ _ => Reg.KEY_EPOCH_FRAME_SLOT0⟩]⟩,
  ⟨"KEY_SW_CYCLE", 0x4010, 1, 0x0, 1, 0x0, 32, [
      ⟨.rw, true, fun _ _ => Reg.KEY_SW_CYCLE_CYCLE⟩]⟩,
  ⟨"KEY_DATA", 0x4020, 1, 0x0, 1, 0x0, 256, [
      ⟨.wo, true, fun _ _ => Reg.KEY_DATA_KEY⟩]⟩,
  ⟨"KEY_TAMPER_CFG", 0x4040, 1, 0x0, 1, 0x0, 32, [
      ⟨.rwl, true, fun _ _ => Reg.KEY_TAMPER_CFG_DEB 0⟩,
      ⟨.rwl, true, fun _ _ => Reg.KEY_TAMPER_CFG_DEB 1⟩,
      ⟨.rwl, true, fun _ _ => Reg.KEY_TAMPER_CFG_DEB 2⟩,
      ⟨.rwl, true, fun _ _ => Reg.KEY_TAMPER_CFG_DEB 3⟩,
      ⟨.rwl, true, fun _ _ => Reg.KEY_TAMPER_CFG_MESH 0⟩,
      ⟨.rwl, true, fun _ _ => Reg.KEY_TAMPER_CFG_MESH 1⟩,
      ⟨.rwl, true, fun _ _ => Reg.KEY_TAMPER_CFG_MESH 2⟩,
      ⟨.rwl, true, fun _ _ => Reg.KEY_TAMPER_CFG_MESH 3⟩,
      ⟨.rwl, true, fun _ _ => Reg.KEY_TAMPER_CFG_POL 0⟩,
      ⟨.rwl, true, fun _ _ => Reg.KEY_TAMPER_CFG_POL 1⟩,
      ⟨.rwl, true, fun _ _ => Reg.KEY_TAMPER_CFG_POL 2⟩,
      ⟨.rwl, true, fun _ _ => Reg.KEY_TAMPER_CFG_POL 3⟩,
      ⟨.rwl, true, fun _ _ => Reg.KEY_TAMPER_CFG_EN 0⟩,
      ⟨.rwl, true, fun _ _ => Reg.KEY_TAMPER_CFG_EN 1⟩,
      ⟨.rwl, true, fun _ _ => Reg.KEY_TAMPER_CFG_EN 2⟩,
      ⟨.rwl, true, fun _ _ => Reg.KEY_TAMPER_CFG_EN 3⟩]⟩,
  ⟨"KEY_TAMPER_STATUS", 0x4044, 1, 0x0, 1, 0x0, 32, [
      ⟨.ro, false, fun _ _ => Reg.KEY_TAMPER_STATUS_LATCHED⟩,
      ⟨.ro, false, fun _ _ => Reg.KEY_TAMPER_STATUS_LIVE⟩]⟩,
  ⟨"KEY_STAT", 0x4048, 1, 0x0, 1, 0x0, 32, [
      ⟨.rc, false, fun _ _ => Reg.KEY_STAT_WRITES⟩,
      ⟨.rc, false, fun _ _ => Reg.KEY_STAT_ZEROIZES⟩]⟩,
  ⟨"KEY_SLOT_STATUS", 0x4100, 64, 0x4, 1, 0x0, 32, [
      ⟨.ro, false, fun i _ => Reg.KEY_SLOT_STATUS_GEN i⟩,
      ⟨.ro, false, fun i _ => Reg.KEY_SLOT_STATUS_BANK i⟩,
      ⟨.ro, false, fun i _ => Reg.KEY_SLOT_STATUS_PURPOSE i⟩,
      ⟨.ro, false, fun i _ => Reg.KEY_SLOT_STATUS_STATE i⟩]⟩]

/-- The registers of the STK block (Table 21.1). -/
def regTableSTK : List RegRow := [
  ⟨"STK_CFG", 0x3E000, 1, 0x0, 1, 0x0, 32, [
      ⟨.rwl, true, fun _ _ => Reg.STK_CFG_HOP_DLY⟩,
      ⟨.rwl, true, fun _ _ => Reg.STK_CFG_POS⟩,
      ⟨.rwl, true, fun _ _ => Reg.STK_CFG_EN⟩]⟩,
  ⟨"STK_CMD", 0x3E004, 1, 0x0, 1, 0x0, 32, [
      ⟨.wo, true, fun _ _ => Reg.STK_CMD_CODE⟩]⟩,
  ⟨"STK_STATUS", 0x3E008, 1, 0x0, 1, 0x0, 32, [
      ⟨.ro, false, fun _ _ => Reg.STK_STATUS_DUP⟩,
      ⟨.ro, false, fun _ _ => Reg.STK_STATUS_BYPASS⟩,
      ⟨.ro, false, fun _ _ => Reg.STK_STATUS_LINK_IN⟩,
      ⟨.ro, false, fun _ _ => Reg.STK_STATUS_MASTER⟩,
      ⟨.ro, false, fun _ _ => Reg.STK_STATUS_STATE⟩]⟩,
  ⟨"STK_PRESENT", 0x3E010, 1, 0x0, 1, 0x0, 64, [
      ⟨.ro, false, fun _ _ => Reg.STK_PRESENT_PRESENT⟩]⟩,
  ⟨"STK_READY", 0x3E018, 1, 0x0, 1, 0x0, 64, [
      ⟨.ro, false, fun _ _ => Reg.STK_READY_READY⟩]⟩,
  ⟨"STK_MASTER_UID", 0x3E020, 1, 0x0, 1, 0x0, 64, [
      ⟨.ro, false, fun _ _ => Reg.STK_MASTER_UID_UID⟩]⟩,
  ⟨"STK_RING_TIME", 0x3E028, 1, 0x0, 1, 0x0, 32, [
      ⟨.ro, false, fun _ _ => Reg.STK_RING_TIME_NS⟩]⟩,
  ⟨"STK_STAT", 0x3E02C, 1, 0x0, 1, 0x0, 32, [
      ⟨.rc, false, fun _ _ => Reg.STK_STAT_BEACON_MISS⟩,
      ⟨.rc, false, fun _ _ => Reg.STK_STAT_CRC_ERR⟩]⟩,
  ⟨"STK_STAT2", 0x3E030, 1, 0x0, 1, 0x0, 32, [
      ⟨.rc, false, fun _ _ => Reg.STK_STAT2_HEALS⟩,
      ⟨.rc, false, fun _ _ => Reg.STK_STAT2_UNDELIVERED⟩]⟩,
  ⟨"STK_EVENT", 0x3E034, 1, 0x0, 1, 0x0, 32, [
      ⟨.w1c, false, fun _ _ => Reg.STK_EVENT_WAKE⟩,
      ⟨.w1c, false, fun _ _ => Reg.STK_EVENT_ORPHAN⟩,
      ⟨.w1c, false, fun _ _ => Reg.STK_EVENT_DUP⟩,
      ⟨.w1c, false, fun _ _ => Reg.STK_EVENT_MEMBER_JOINED⟩,
      ⟨.w1c, false, fun _ _ => Reg.STK_EVENT_MEMBER_LOST⟩,
      ⟨.w1c, false, fun _ _ => Reg.STK_EVENT_RING_HEALED⟩,
      ⟨.w1c, false, fun _ _ => Reg.STK_EVENT_RING_BROKEN⟩]⟩]

/-- The registers of the CLK block (Table 21.1). -/
def regTableCLK : List RegRow := [
  ⟨"CLK_STATUS", 0x1000, 1, 0x0, 1, 0x0, 32, [
      ⟨.ro, false, fun _ _ => Reg.CLK_STATUS_GOV⟩,
      ⟨.ro, false, fun _ _ => Reg.CLK_STATUS_VBAT_OK⟩,
      ⟨.ro, false, fun _ _ => Reg.CLK_STATUS_OV⟩,
      ⟨.ro, false, fun _ _ => Reg.CLK_STATUS_REG_OK⟩,
      ⟨.ro, false, fun _ _ => Reg.CLK_STATUS_PGOOD⟩,
      ⟨.ro, false, fun _ _ => Reg.CLK_STATUS_X32_OK⟩,
      ⟨.ro, false, fun _ _ => Reg.CLK_STATUS_XTAL_OK⟩,
      ⟨.ro, false, fun _ _ => Reg.CLK_STATUS_PLL_LOCK⟩]⟩,
  ⟨"CLK_CFG", 0x1004, 1, 0x0, 1, 0x0, 32, [
      ⟨.rwl, true, fun _ _ => Reg.CLK_CFG_VBAT_EN⟩]⟩,
  ⟨"CLK_TEMP", 0x1008, 1, 0x0, 1, 0x0, 32, [
      ⟨.ro, false, fun _ _ => Reg.CLK_TEMP_T1⟩,
      ⟨.ro, false, fun _ _ => Reg.CLK_TEMP_T0⟩]⟩,
  ⟨"CLK_TEMP_PEAK", 0x100C, 1, 0x0, 1, 0x0, 32, [
      ⟨.rc, false, fun _ _ => Reg.CLK_TEMP_PEAK_PEAK⟩]⟩,
  ⟨"CLK_VIN", 0x1010, 1, 0x0, 1, 0x0, 32, [
      ⟨.ro, false, fun _ _ => Reg.CLK_VIN_VBAT⟩,
      ⟨.ro, false, fun _ _ => Reg.CLK_VIN_VIN⟩]⟩,
  ⟨"CLK_VREG", 0x1014, 1, 0x0, 1, 0x0, 32, [
      ⟨.ro, false, fun _ _ => Reg.CLK_VREG_V10⟩,
      ⟨.ro, false, fun _ _ => Reg.CLK_VREG_V08⟩]⟩,
  ⟨"CLK_VREG2", 0x1018, 1, 0x0, 1, 0x0, 32, [
      ⟨.ro, false, fun _ _ => Reg.CLK_VREG2_V33⟩,
      ⟨.ro, false, fun _ _ => Reg.CLK_VREG2_V18⟩]⟩,
  ⟨"CLK_IO", 0x101C, 1, 0x0, 1, 0x0, 32, [
      ⟨.ro, false, fun _ _ => Reg.CLK_IO_BANK_M⟩,
      ⟨.ro, false, fun _ _ => Reg.CLK_IO_BANK_D⟩,
      ⟨.ro, false, fun _ _ => Reg.CLK_IO_BANK_A⟩,
      ⟨.ro, false, fun _ _ => Reg.CLK_IO_BANK_G⟩]⟩,
  ⟨"CLK_EVENT", 0x1020, 1, 0x0, 1, 0x0, 32, [
      ⟨.w1c, false, fun _ _ => Reg.CLK_EVENT_SENSOR_DIFF⟩,
      ⟨.w1c, false, fun _ _ => Reg.CLK_EVENT_X32_LOSS⟩,
      ⟨.w1c, false, fun _ _ => Reg.CLK_EVENT_SHED_END⟩,
      ⟨.w1c, false, fun _ _ => Reg.CLK_EVENT_SHED_START⟩,
      ⟨.w1c, false, fun _ _ => Reg.CLK_EVENT_WARN⟩,
      ⟨.w1c, false, fun _ _ => Reg.CLK_EVENT_VBAT_LOW⟩,
      ⟨.w1c, false, fun _ _ => Reg.CLK_EVENT_REG_FAULT⟩,
      ⟨.w1c, false, fun _ _ => Reg.CLK_EVENT_OV⟩,
      ⟨.w1c, false, fun _ _ => Reg.CLK_EVENT_BROWN_OUT⟩]⟩,
  ⟨"CLK_REG_FAULT", 0x1024, 1, 0x0, 1, 0x0, 32, [
      ⟨.w1c, true, fun _ _ => Reg.CLK_REG_FAULT_REG⟩]⟩,
  ⟨"CLK_STAT", 0x1028, 1, 0x0, 1, 0x0, 32, [
      ⟨.rc, false, fun _ _ => Reg.CLK_STAT_BROWN_OUTS⟩,
      ⟨.rc, false, fun _ _ => Reg.CLK_STAT_OV_EVENTS⟩,
      ⟨.rc, false, fun _ _ => Reg.CLK_STAT_SHEDS⟩]⟩,
  ⟨"CLK_SHED_TIME", 0x102C, 1, 0x0, 1, 0x0, 32, [
      ⟨.ro, false, fun _ _ => Reg.CLK_SHED_TIME_MS⟩]⟩]

/-- The registers of the TMX block (Table 21.1). -/
def regTableTMX : List RegRow := [
  ⟨"TMX_SEL", 0x80010, 8, 0x4, 1, 0x0, 32, [
      ⟨.rw, true, fun i _ => Reg.TMX_SEL_POINT i⟩]⟩]

/-- Every register of PF0 by address (R495, Table 21.1). -/
def regTable : List RegRow :=
  regTableGLB ++ regTableLN ++ regTableINA ++ regTableCYC ++ regTableMSG ++ regTableTIM ++ regTableCST ++ regTableCAN ++ regTableFLW ++ regTableBRG ++ regTableHRG ++ regTablePAIR ++ regTableSLP ++ regTableFLT ++ regTableREC ++ regTableKEY ++ regTableSTK ++ regTableCLK ++ regTableTMX

end Sys2Proof.Machine
end

