-- ==== Sys2Proof/Machine/GtnRegs.lean ====
section
/-! DEFINITION. The registers of the legacy host bus (Tables 12.3 to 12.7), in the register store from byte
address 0x20_0000: register r of the file at 0x20_0000 + 4 r, its more significant word at word address 2 r.
ELW, ELD0 to ELD3, IVR and TMR are computed from other state. -/

namespace Sys2Proof.Machine.Reg

/-- A field of legacy register r: lowest bit, width, reset value. -/
def gtnField (r lo w reset : Nat) : Field := ⟨8 * (0x200000 + 4 * r) + lo, w, reset⟩

/-- IDR[31:0], RO (Table 12.3). -/
def GTN_IDR_ID : Field := gtnField 0x0 0 32 0x1200307
/-- CSR[0], WO (Table 12.3). -/
def GTN_CSR_SRST : Field := gtnField 0x1 0 1 0
/-- CSR[1], RW (Table 12.3). -/
def GTN_CSR_NODE_EN : Field := gtnField 0x1 1 1 0
/-- CSR[2], RW (Table 12.3). -/
def GTN_CSR_MASTER_EN : Field := gtnField 0x1 2 1 0
/-- CSR[3], RW (Table 12.3). -/
def GTN_CSR_IRQ_EN : Field := gtnField 0x1 3 1 0
/-- CSR[4], RW (Table 12.3). -/
def GTN_CSR_TICK_EN : Field := gtnField 0x1 4 1 0
/-- SSR[23:16], RC (Table 12.4). -/
def GTN_SSR_STICKY : Field := gtnField 0x2 16 8 0
/-- SSR[7], RO (Table 12.4). -/
def GTN_SSR_LOG_FULL : Field := gtnField 0x2 7 1 0
/-- SSR[6:5], RO (Table 12.4). -/
def GTN_SSR_BOFF : Field := gtnField 0x2 5 2 0
/-- SSR[4], RO (Table 12.4). -/
def GTN_SSR_PD_VALID : Field := gtnField 0x2 4 1 0
/-- SSR[3], RO (Table 12.4). -/
def GTN_SSR_INAUG : Field := gtnField 0x2 3 1 0
/-- SSR[2], RO (Table 12.4). -/
def GTN_SSR_MASTER : Field := gtnField 0x2 2 1 0
/-- SSR[1], RO (Table 12.4). -/
def GTN_SSR_LINKED : Field := gtnField 0x2 1 1 0
/-- SSR[0], RO (Table 12.4). -/
def GTN_SSR_READY : Field := gtnField 0x2 0 1 0
/-- ISR[23:0], W1C (Table 12.5). -/
def GTN_ISR_BITS : Field := gtnField 0x3 0 24 0
/-- IMR[23:0], RW (Table 12.5). -/
def GTN_IMR_BITS : Field := gtnField 0x4 0 24 0
/-- POS[4:0], RO (Table 12.3). -/
def GTN_POS_POS : Field := gtnField 0x6 0 5 0
/-- POS[13:8], RO (Table 12.3). -/
def GTN_POS_COUNT : Field := gtnField 0x6 8 6 0
/-- POS[14], RO (Table 12.3). -/
def GTN_POS_ORIENT : Field := gtnField 0x6 14 1 0
/-- POS[15], RO (Table 12.3). -/
def GTN_POS_VALID : Field := gtnField 0x6 15 1 0
/-- TCR[15:0], RO (Table 12.3). -/
def GTN_TCR_COUNT : Field := gtnField 0x7 0 16 0
/-- LSR[3:0], RO (Table 12.3). -/
def GTN_LSR_UP : Field := gtnField 0x8 0 4 0
/-- LSR[7:4], RO (Table 12.3). -/
def GTN_LSR_FAULT : Field := gtnField 0x8 4 4 0
/-- LSR[8], RO (Table 12.3). -/
def GTN_LSR_ACTIVE1 : Field := gtnField 0x8 8 1 0
/-- LSR[9], RO (Table 12.3). -/
def GTN_LSR_ACTIVE2 : Field := gtnField 0x8 9 1 0
/-- LCR[1:0], RW (Table 12.3). -/
def GTN_LCR_SW_MODE : Field := gtnField 0x9 0 2 0
/-- PDC[0], RW (Table 12.3). -/
def GTN_PDC_PD_EN : Field := gtnField 0xa 0 1 0
/-- PDS[31:16], RC (Table 12.3). -/
def GTN_PDS_SINKS : Field := gtnField 0xb 16 16 0
/-- PDS[15:0], RC (Table 12.3). -/
def GTN_PDS_MISSING : Field := gtnField 0xb 0 16 0
/-- WDR[15:0], RW (Table 12.3). -/
def GTN_WDR_TIMEOUT : Field := gtnField 0xd 0 16 0
/-- VID[31:0], RW (Table 12.3). -/
def GTN_VID_VID : Field := gtnField 0xe 0 32 0
/-- RSR[1:0], RO (Table 12.3). -/
def GTN_RSR_CAUSE : Field := gtnField 0xf 0 2 0
/-- MBC[15], RW (Table 12.6). -/
def GTN_MBC_OWN (n : Nat) : Field := gtnField (0x10 + n) 15 1 0
/-- MBC[14], RW (Table 12.6). -/
def GTN_MBC_IE (n : Nat) : Field := gtnField (0x10 + n) 14 1 0
/-- MBC[13], RO (Table 12.6). -/
def GTN_MBC_ERR (n : Nat) : Field := gtnField (0x10 + n) 13 1 0
/-- MBC[11:8], RW (Table 12.6). -/
def GTN_MBC_KIND (n : Nat) : Field := gtnField (0x10 + n) 8 4 0
/-- MBC[7:0], RW (Table 12.6). -/
def GTN_MBC_PARAM (n : Nat) : Field := gtnField (0x10 + n) 0 8 0
/-- CCR[0], RW (Table 12.3). -/
def GTN_CCR_RUN (x : Nat) : Field := gtnField (0x20 + 0x8 * x) 0 1 0
/-- CCR[1], RW (Table 12.3). -/
def GTN_CCR_LOM (x : Nat) : Field := gtnField (0x20 + 0x8 * x) 1 1 0
/-- CCR[2], RW (Table 12.3). -/
def GTN_CCR_ERR_IE (x : Nat) : Field := gtnField (0x20 + 0x8 * x) 2 1 0
/-- CxSR[1:0], RO (Table 12.3). -/
def GTN_CSR_CAN_CONF (x : Nat) : Field := gtnField (0x21 + 0x8 * x) 0 2 0
/-- CxSR[2], RO (Table 12.3). -/
def GTN_CSR_CAN_RUNNING (x : Nat) : Field := gtnField (0x21 + 0x8 * x) 2 1 0
/-- CxSR[3], RO (Table 12.3). -/
def GTN_CSR_CAN_CFG_ERR (x : Nat) : Field := gtnField (0x21 + 0x8 * x) 3 1 0
/-- CxSR[4], RO (Table 12.3). -/
def GTN_CSR_CAN_WARN (x : Nat) : Field := gtnField (0x21 + 0x8 * x) 4 1 0
/-- CBTR[5:0], RW (Table 12.7). -/
def GTN_CBTR_BRP (x : Nat) : Field := gtnField (0x22 + 0x8 * x) 0 6 1
/-- CBTR[9:6], RW (Table 12.7). -/
def GTN_CBTR_TSEG1 (x : Nat) : Field := gtnField (0x22 + 0x8 * x) 6 4 0xc
/-- CBTR[12:10], RW (Table 12.7). -/
def GTN_CBTR_TSEG2 (x : Nat) : Field := gtnField (0x22 + 0x8 * x) 10 3 1
/-- CBTR[14:13], RW (Table 12.7). -/
def GTN_CBTR_SJW (x : Nat) : Field := gtnField (0x22 + 0x8 * x) 13 2 0
/-- CBTR[15], RW (Table 12.7). -/
def GTN_CBTR_SAM (x : Nat) : Field := gtnField (0x22 + 0x8 * x) 15 1 0
/-- CECR[8:0], RO (Table 12.3). -/
def GTN_CECR_TEC (x : Nat) : Field := gtnField (0x23 + 0x8 * x) 0 9 0
/-- CECR[24:16], RO (Table 12.3). -/
def GTN_CECR_REC (x : Nat) : Field := gtnField (0x23 + 0x8 * x) 16 9 0
/-- CAMR[28:0], RW (Table 12.3). -/
def GTN_CAMR_MASK (x : Nat) : Field := gtnField (0x24 + 0x8 * x) 0 29 0x1fffffff
/-- COVR[31:0], RC (Table 12.3). -/
def GTN_COVR_COUNT (x : Nat) : Field := gtnField (0x25 + 0x8 * x) 0 32 0
/-- CFRC[31:16], RC (Table 12.3). -/
def GTN_CFRC_ACCEPTED (x : Nat) : Field := gtnField (0x26 + 0x8 * x) 16 16 0
/-- CFRC[15:0], RC (Table 12.3). -/
def GTN_CFRC_SENT (x : Nat) : Field := gtnField (0x26 + 0x8 * x) 0 16 0
/-- CLEC[2:0], RO (Table 12.3). -/
def GTN_CLEC_CODE (x : Nat) : Field := gtnField (0x27 + 0x8 * x) 0 3 0
/-- CACR[31], RW (Table 12.3). -/
def GTN_CACR_EN (x k : Nat) : Field := gtnField (0x30 + 0x10 * x + k) 31 1 0
/-- CACR[30], RW (Table 12.3). -/
def GTN_CACR_IDE (x k : Nat) : Field := gtnField (0x30 + 0x10 * x + k) 30 1 0
/-- CACR[28:0], RW (Table 12.3). -/
def GTN_CACR_CODE (x k : Nat) : Field := gtnField (0x30 + 0x10 * x + k) 0 29 0
/-- ELC[0], WO (Table 12.3). -/
def GTN_ELC_CLR : Field := gtnField 0x50 0 1 0
/-- ELP[6:0], RW (Table 12.3). -/
def GTN_ELP_PTR : Field := gtnField 0x52 0 7 0
/-- ELN[31:0], RC (Table 12.3). -/
def GTN_ELN_COUNT : Field := gtnField 0x57 0 32 0
/-- LEC[31:16], RC (Table 12.3). -/
def GTN_LEC_CHECK (p : Nat) : Field := gtnField (0x58 + p) 16 16 0
/-- LEC[15:0], RC (Table 12.3). -/
def GTN_LEC_CODE (p : Nat) : Field := gtnField (0x58 + p) 0 16 0
/-- LSC[31:16], RC (Table 12.3). -/
def GTN_LSC_END2 : Field := gtnField 0x5c 16 16 0
/-- LSC[15:0], RC (Table 12.3). -/
def GTN_LSC_END1 : Field := gtnField 0x5c 0 16 0
/-- PEC[31:0], RC (Table 12.3). -/
def GTN_PEC_COUNT : Field := gtnField 0x5d 0 32 0
/-- EVR[31:0], RO (Table 12.3). -/
def GTN_EVR_ID : Field := gtnField 0x5e 0 32 0xd4a0001
/-- SCR[31:0], RW (Table 12.3). -/
def GTN_SCR_BITS : Field := gtnField 0x5f 0 32 0

end Sys2Proof.Machine.Reg

namespace Sys2Proof.Machine

/-- Registers of word addresses 0x000 to 0x01E. -/
def gtnGlobal (r : Nat) : List (Access × Field) :=
  match r with
  | 0x0 => [(.ro, Reg.GTN_IDR_ID)]
  | 0x1 => [(.wo, Reg.GTN_CSR_SRST), (.rw, Reg.GTN_CSR_NODE_EN), (.rw, Reg.GTN_CSR_MASTER_EN), (.rw, Reg.GTN_CSR_IRQ_EN), (.rw, Reg.GTN_CSR_TICK_EN)]
  | 0x2 => [(.rc, Reg.GTN_SSR_STICKY), (.ro, Reg.GTN_SSR_LOG_FULL), (.ro, Reg.GTN_SSR_BOFF), (.ro, Reg.GTN_SSR_PD_VALID), (.ro, Reg.GTN_SSR_INAUG), (.ro, Reg.GTN_SSR_MASTER), (.ro, Reg.GTN_SSR_LINKED), (.ro, Reg.GTN_SSR_READY)]
  | 0x3 => [(.w1c, Reg.GTN_ISR_BITS)]
  | 0x4 => [(.rw, Reg.GTN_IMR_BITS)]
  | 0x6 => [(.ro, Reg.GTN_POS_POS), (.ro, Reg.GTN_POS_COUNT), (.ro, Reg.GTN_POS_ORIENT), (.ro, Reg.GTN_POS_VALID)]
  | 0x7 => [(.ro, Reg.GTN_TCR_COUNT)]
  | 0x8 => [(.ro, Reg.GTN_LSR_UP), (.ro, Reg.GTN_LSR_FAULT), (.ro, Reg.GTN_LSR_ACTIVE1), (.ro, Reg.GTN_LSR_ACTIVE2)]
  | 0x9 => [(.rw, Reg.GTN_LCR_SW_MODE)]
  | 0xA => [(.rw, Reg.GTN_PDC_PD_EN)]
  | 0xB => [(.rc, Reg.GTN_PDS_SINKS), (.rc, Reg.GTN_PDS_MISSING)]
  | 0xD => [(.rw, Reg.GTN_WDR_TIMEOUT)]
  | 0xE => [(.rw, Reg.GTN_VID_VID)]
  | 0xF => [(.ro, Reg.GTN_RSR_CAUSE)]
  | _ => []

/-- Registers of legacy CAN channel x. -/
def gtnCan (x r : Nat) : List (Access × Field) :=
  match r with
  | 0x0 => [(.rw, Reg.GTN_CCR_RUN x), (.rw, Reg.GTN_CCR_LOM x), (.rw, Reg.GTN_CCR_ERR_IE x)]
  | 0x1 => [(.ro, Reg.GTN_CSR_CAN_CONF x), (.ro, Reg.GTN_CSR_CAN_RUNNING x), (.ro, Reg.GTN_CSR_CAN_CFG_ERR x), (.ro, Reg.GTN_CSR_CAN_WARN x)]
  | 0x2 => [(.rw, Reg.GTN_CBTR_BRP x), (.rw, Reg.GTN_CBTR_TSEG1 x), (.rw, Reg.GTN_CBTR_TSEG2 x), (.rw, Reg.GTN_CBTR_SJW x), (.rw, Reg.GTN_CBTR_SAM x)]
  | 0x3 => [(.ro, Reg.GTN_CECR_TEC x), (.ro, Reg.GTN_CECR_REC x)]
  | 0x4 => [(.rw, Reg.GTN_CAMR_MASK x)]
  | 0x5 => [(.rc, Reg.GTN_COVR_COUNT x)]
  | 0x6 => [(.rc, Reg.GTN_CFRC_ACCEPTED x), (.rc, Reg.GTN_CFRC_SENT x)]
  | 0x7 => [(.ro, Reg.GTN_CLEC_CODE x)]
  | _ => []

/-- Registers of word addresses 0x0A0 to 0x0BE. -/
def gtnRest (r : Nat) : List (Access × Field) :=
  match r with
  | 0x50 => [(.wo, Reg.GTN_ELC_CLR)]
  | 0x52 => [(.rw, Reg.GTN_ELP_PTR)]
  | 0x57 => [(.rc, Reg.GTN_ELN_COUNT)]
  | 0x5C => [(.rc, Reg.GTN_LSC_END2), (.rc, Reg.GTN_LSC_END1)]
  | 0x5D => [(.rc, Reg.GTN_PEC_COUNT)]
  | 0x5E => [(.ro, Reg.GTN_EVR_ID)]
  | 0x5F => [(.rw, Reg.GTN_SCR_BITS)]
  | r =>
    if 0x58 ≤ r ∧ r < 0x5C then [(.rc, Reg.GTN_LEC_CHECK (r - 0x58)), (.rc, Reg.GTN_LEC_CODE (r - 0x58))] else []

/-- The legacy registers by register number, with the access type of each field (Table 12.3). -/
def gtnFields (r : Nat) : List (Access × Field) :=
  if r < 0x10 then gtnGlobal r
  else if r < 0x20 then
    [(.rw, Reg.GTN_MBC_OWN (r - 0x10)), (.rw, Reg.GTN_MBC_IE (r - 0x10)), (.ro, Reg.GTN_MBC_ERR (r - 0x10)),
     (.rw, Reg.GTN_MBC_KIND (r - 0x10)), (.rw, Reg.GTN_MBC_PARAM (r - 0x10))]
  else if r < 0x30 then gtnCan ((r - 0x20) / 8) ((r - 0x20) % 8)
  else if r < 0x50 then
    let x := (r - 0x30) / 16
    let k := (r - 0x30) % 16
    [(.rw, Reg.GTN_CACR_EN x k), (.rw, Reg.GTN_CACR_IDE x k), (.rw, Reg.GTN_CACR_CODE x k)]
  else gtnRest r

end Sys2Proof.Machine
end

