-- ==== Sys2Proof/Machine/GtnOps.lean ====
section
/-! DEFINITION. The legacy host view as every block uses it: its status and interrupt bits, the event log,
the mailboxes (R328–R341). -/

namespace Sys2Proof.Machine

open Reg

/-- The state with the host view's hidden state changed. -/
def State.gtnMap (s : State) (f : GtnState → GtnState) : State := { s with gtn := f s.gtn }

/-- The state with the G-line's hidden state changed. -/
def State.glnMap (s : State) (f : GlnState → GlnState) : State := { s with gln := f s.gln }

/-- The node is in GTN mode. -/
def State.inGtn (s : State) : Bool := s.mode == modeGtn

/-! ### Interrupts (R328–R330) -/

/-- An ISR bit is set. -/
def State.setIsr (s : State) (i : Nat) : State := s.setBit GTN_ISR_BITS i

/-- A sticky bit of SSR, numbered as in Table 12.4. -/
def State.setSsr (s : State) (i : Nat) : State := s.setBit GTN_SSR_STICKY (i - 16)

/-- Sources pending: ISR and IMR bit both 1. -/
def State.irqPending (s : State) : Nat := Nat.land (s.get GTN_ISR_BITS) (s.get GTN_IMR_BITS)

/-- ISR bit numbers in descending priority (R329). -/
abbrev irqOrder : List Nat := [18, 17, 23, 16, 19, 20, 15, 14, 13, 12, 11, 10, 9, 8, 7, 6, 5, 4, 3, 2, 1, 0, 21, 22]

/-- The highest pending source. -/
def State.irqTop (s : State) : Option Nat := irqOrder.find? (hasBit s.irqPending)

/-- GH_IRQ_N is low (R322, R326, R330). -/
def State.ghIrqLow (s : State) : Bool :=
  s.inGtn && s.flag GTN_CSR_IRQ_EN && !(s.irqPending == 0) && !s.gtn.irqReleased

/-- TMR: µs since the end of BOOT, wrapping. -/
def State.gtnTmr (s : State) : Nat := (s.uptime - s.gtn.tmrFrom) / 1000 % 2 ^ 32

/-! ### Event log (R340, R341) -/

/-- The eight words of an entry, with the more significant word of a 32-bit item first: TMR in words 2 and 3,
the data in words 4 and 5. -/
def LegacyEntry.words (e : LegacyEntry) : List Nat :=
  [e.code, e.param, e.tmr / 65536, e.tmr % 65536, e.data / 65536, e.data % 65536, 0, 0]

/-- An event of Table 12.11: entered, or refused and counted when 128 are held; and recorded under LEGACY_EVENT
by the block at `base`. -/
def State.legacyLog (s : State) (base code param data : Nat) : State :=
  let e : LegacyEntry := ⟨code, param % 65536, s.gtnTmr, data % 2 ^ 32⟩
  let s := s.setIsr 21
  let s := if 128 ≤ s.gtn.log.length then s.bump GTN_ELN_COUNT
    else
      let s := s.gtnMap (fun g => { g with log := g.log ++ [e] })
      if s.gtn.log.length = 128 then s.set GTN_SSR_LOG_FULL 1 else s
  s.record base (0x7100 + code % 256) ((e.words.map (le 2)).flatten)

/-! ### Mailboxes (R331–R335) -/

/-- KIND of mailbox n: 9 to 15 are taken as 0. -/
def State.mboxKind (s : State) (n : Nat) : Nat :=
  let k := s.get (GTN_MBC_KIND n)
  if 9 ≤ k then 0 else k

abbrev mbPdSrc : Nat := 1
abbrev mbPdSink : Nat := 2
abbrev mbMsgTx : Nat := 3
abbrev mbMsgRx : Nat := 4
/-- CANx_TX and CANx_RX. -/
abbrev mbCanTx (x : Nat) : Nat := 5 + 2 * x
abbrev mbCanRx (x : Nat) : Nat := 6 + 2 * x

abbrev allMboxes : List Nat := [0, 1, 2, 3, 4, 5, 6, 7, 8, 9, 10, 11, 12, 13, 14, 15]

/-- The mailboxes of a kind that the node owns, lowest number first. -/
def State.ownedMboxes (s : State) (kind : Nat) : List Nat :=
  allMboxes.filter (fun n => s.mboxKind n == kind && s.flag (GTN_MBC_OWN n))

/-- A word of mailbox RAM; words never written read as 0 (R331). -/
def State.ramWord (s : State) (a : Nat) : Nat := tabGet 0 s.gtn.ram a

/-- The mailbox RAM with a word written: a zero is not listed. -/
def ramPut (a v : Nat) (r : List (Nat × Nat)) : List (Nat × Nat) :=
  if v % 65536 = 0 then tabErase a r else tabPut a (v % 65536) r

/-- A word of mailbox RAM written. -/
def State.setRam (s : State) (a v : Nat) : State := s.gtnMap (fun g => { g with ram := ramPut a v g.ram })

/-- Word addresses of mailbox n: data word i, and DEST, LEN, STATUS, SRC. -/
abbrev mbData (n i : Nat) : Nat := 0xC0 + 0x70 * n + i
abbrev mbDest (n : Nat) : Nat := 0x7C0 + 4 * n
abbrev mbLen (n : Nat) : Nat := 0x7C1 + 4 * n
abbrev mbStatus (n : Nat) : Nat := 0x7C2 + 4 * n
abbrev mbSrc (n : Nat) : Nat := 0x7C3 + 4 * n

/-- Data bytes 0 to k − 1 of mailbox n: the lower-numbered byte of a word in bits 15:8 (R331). -/
def State.mboxBytes (s : State) (n k : Nat) : Bytes :=
  (List.range k).map (fun i =>
    let w := s.ramWord (mbData n (i / 2))
    BitVec.ofNat 8 (if i % 2 = 0 then w / 256 else w % 256))

/-- The data of mailbox n written from its first byte; a last odd byte leaves the other half of its word. -/
def State.setMboxBytes (n : Nat) : Nat → Bytes → State → State
  | _, [], s => s
  | i, [a], s => s.setRam (mbData n i) (256 * a.toNat + s.ramWord (mbData n i) % 256)
  | i, a :: b :: t, s => State.setMboxBytes n (i + 1) t (s.setRam (mbData n i) (256 * a.toNat + b.toNat))

/-- STATUS values (Table 12.10). -/
abbrev mbOk : Nat := 0
abbrev mbNotDelivered : Nat := 1
abbrev mbBadLen : Nat := 2
abbrev mbNoLine : Nat := 3
abbrev mbOverrun : Nat := 4
abbrev mbStopped : Nat := 5

/-- The node hands mailbox n back with a STATUS (R333, R335). -/
def State.releaseMbox (s : State) (n status : Nat) : State :=
  let s := (s.setRam (mbStatus n) status).load [(GTN_MBC_OWN n, 0), (GTN_MBC_ERR n, b2n (!(status == mbOk)))]
  let s := if s.flag (GTN_MBC_IE n) then s.setIsr n else s
  if status = mbOk then s else s.legacyLog 0 0x30 n status

/-- The CANx_TX mailboxes of channel x not yet sent are released with STOPPED (R339). -/
def State.stopCanMboxes (s : State) (x : Nat) : State :=
  (s.ownedMboxes (mbCanTx x)).foldl (fun s n => s.releaseMbox n mbStopped) s

/-- Outside GTN mode the legacy host view stands as it was left: CAN mailboxes released, READY 0 (R326, R339).
In GTN mode READY is 1. -/
def State.gtnFollow (s : State) : State :=
  if s.inGtn then s.set GTN_SSR_READY 1
  else if s.flag GTN_SSR_READY then (((s.stopCanMboxes 0).stopCanMboxes 1).set GTN_SSR_READY 0) else s

end Sys2Proof.Machine
end

