-- ==== Sys2Proof/Machine/Modes.lean ====
section
/-! DEFINITION. The modes: pins by mode, a change of mode, command completion, entry into SAFE and
escalation, and entry into BOOT (R39–R44, R46, R410–R414, R421, R422, R485). -/

namespace Sys2Proof.Machine

open Reg

/-! ### Pins by mode -/

/-- GPIO outputs as R266 gives them for SAFE: driven pins, and their levels. -/
def State.gpioSafe (s : State) : Nat × Nat :=
  let dir := s.get FLW_GPIO_DIR_DIR
  let hold := s.get FLW_GPIO_HOLD_HOLD
  let level := Nat.lor (Nat.land (s.get FLW_GPIO_OUT_OUT) hold) (andNot (s.get FLW_GPIO_SAFE_SAFE) hold)
  if s.pairMember then (0, 0) else (dir, Nat.land level dir)

/-- GPIO pins driven, and their levels (R265, R266, R370, R485). -/
def State.gpioPins (s : State) : Nat × Nat :=
  let f10 := s.flag TIM_CFG_F10M_EN
  let dir := if f10 then setBitOf (s.get FLW_GPIO_DIR_DIR) 27 else s.get FLW_GPIO_DIR_DIR
  let out := if f10 then clearBitOf (s.get FLW_GPIO_OUT_OUT) 27 else s.get FLW_GPIO_OUT_OUT
  if s.mode == modeBoot || s.mode == modeSleep then (if s.pairMember then (0, 0) else s.flw.gpioBoot)
  else if s.mode == modeSafe then s.gpioSafe
  else if s.mode == modeStandby || s.mode == modeReferee || !s.permission then (0, 0)
  else if s.flag FLW_RETIRED_GPIO then s.gpioSafe
  else (dir, Nat.land out dir)

/-- Channels that may drive TXD dominant (Table 8.1, R215). -/
def State.canMayDrive (s : State) (n : Nat) : Bool :=
  (s.running && s.permission && s.canState n == canRunning) ||
    (s.mode == modeGtn && decide (n < 2) && s.flag (GTN_CCR_RUN n) && !s.flag (GTN_CCR_LOM n)
      && !(s.get (CAN_STATUS_CONF n) == 2) && !s.flag (CAN_FAULT_LIVE_DOM n))

/-- Level of CANn_STB (Table 8.1). -/
def State.canStbLevel (s : State) (n : Nat) : Bool :=
  if s.mode == modeGtn then decide (2 ≤ n)
  else if s.running && s.permission then s.canState n == canStopped
  else if s.running || s.mode == modeStandby then false
  else if s.mode == modeSafe then !s.flag (CAN_CFG_SAFE_STATE n)
  else true

/-- A 12-bit mask of the channels that a test holds for. -/
def canMask (p : Nat → Bool) : Nat := (canChannels.map (fun n => if p n then 2 ^ n else 0)).sum

/-- Channel n's inhibit bit: the channel would transmit, and the permission is absent (R215). -/
def State.showCanInhibit (s : State) (n : Nat) : State := s.setB (CAN_STATUS_TX_INHIBIT n) (!s.permission)

/-- Line transmitters on. -/
def State.lineTxMask (s : State) : Nat :=
  (linePorts.map (fun p => if s.get (LN_TRX_STATE p) = trxNormal ∧ s.permission then 2 ^ p else 0)).sum

/-- The levels that ALIVE holds by mode: low in BOOT and SLEEP, else as last driven (R416). -/
def State.aliveLevel (s : State) : Bool :=
  if s.mode == modeBoot || s.mode == modeSleep then false else s.pins.alive

/-- The pins follow the state. -/
def State.computePins (s : State) : Pins :=
  if s.glb.held then { alive := false }
  else
    { alive := s.aliveLevel
      lineTx := s.lineTxMask
      consistTx := s.cstDrivers
      canTx := canMask s.canMayDrive
      canStb := canMask s.canStbLevel
      gpioDrive := s.gpioPins.1
      gpioLevel := s.gpioPins.2
      bypass := !s.stackRuns
      tmux := s.testOpen && !(s.mode == modeSleep)
      ghIrq := s.ghIrqLow }

/-- Registers that show what other state holds. -/
def State.showDerived (s : State) : State :=
  let tampered := s.key.tamperedAon || s.mram.tampered
  s.load [(KEY_STATUS_TAMPERED, b2n tampered), (GLB_BOOT_STATUS_TAMPERED, b2n tampered),
    (KEY_STATUS_TEST_ROOT, b2n !s.usesDeviceRoot),
    (PAIR_STATUS_INTERLOCK, b2n (s.pair.partnerLow || s.pair.driving)),
    (FLW_STATUS_RUN, b2n s.engineRuns), (BRG_STATUS_SHED, s.get FLW_STATUS_SHEDDING),
    (FLT_ALIVE_CFG_RUN, b2n (s.inModes [modeGtn, modeNative, modeBorder, modeStandby, modeReferee])),
    (STK_STATUS_BYPASS, b2n !s.stackRuns), (STK_STATUS_STATE, s.stackState),
    (STK_STATUS_MASTER, b2n (s.flag STK_CFG_EN && s.get STK_CFG_POS == 0)), (CYC_STATUS_AUTH, b2n s.authOn),
    (CYC_STATUS_EMIT, b2n s.emitsCycles), (INA_SENSE_PRIO, s.cabPrio),
    (CYC_CFG_AUTH, if s.lc == lcPersonalized || s.lc == lcField then 1 else s.get CYC_CFG_AUTH)]

/-- LSR.FAULT follows the conditions of the four line ports in GTN mode; each change is logged (Table 12.11). -/
def State.gtnFaults (s : State) : State :=
  if !s.inGtn then s
  else linePorts.foldl (fun s p =>
    let now := !((s.port p).live == 0)
    if s.bitAt GTN_LSR_FAULT p = now then s
    else
      let s := (if now then s.setBit GTN_LSR_FAULT p else s.clearBit GTN_LSR_FAULT p).setIsr 18
      let lsr := s.get GTN_LSR_UP + 16 * s.get GTN_LSR_FAULT + 256 * s.get GTN_LSR_ACTIVE1 + 512 * s.get GTN_LSR_ACTIVE2
      s.legacyLog (lnBase p) 0x12 (p + 256 * b2n (!now)) lsr) s

/-- At the end of every step, ports and pins follow the mode. -/
def State.refreshPins (s : State) : State :=
  let s := linePorts.foldl State.followLine s
  let s := canChannels.foldl State.showCanInhibit ((s.canFollowAll).cstFollow.refreshBridge)
  let s := s.freeRefused.gtnFollow.gtnFaults.showDerived
  { s with pins := s.computePins }

/-! ### Commands in progress (R34, R41) -/

/-- Codes of GLB_CMD_STATUS.STATUS. -/
def statusCode : Status → Nat
  | .ok => 0 | .accessDenied => 1 | .unknownCmd => 2 | .badArg => 3 | .busy => 4 | .wrongState => 5
  | .lcDenied => 6 | .authFail => 7 | .restartLimit => 8 | .programFail => 9 | .fault => 10
  | .tampered => 11 | .imageInvalid => 12 | .pending => 0xFF

/-- A commanded transition: CONFIG_DONE and the life-cycle commands of the GLB block (R35, R41). -/
def isTransition (r : Nat × Nat × Nat × Option Nat) : Bool :=
  r.1 == 0 && [0x03, 0x11, 0x12, 0x13, 0x14].contains r.2.1

/-- GLB_MODE.BUSY shows a commanded transition in progress. -/
def State.showBusy (s : State) : State := s.setB GLB_MODE_BUSY (s.glb.running.any isTransition)

/-- A command in progress ends with a status, shown in GLB_CMD_STATUS where that register still holds its
report (R34). -/
def State.endCmd (s : State) (base code : Nat) (st : Status) : State :=
  match s.glb.running.find? (fun r => r.1 == base && r.2.1 == code) with
  | none => s
  | some r =>
    let s := { s with glb := { s.glb with running := s.glb.running.filter (fun x => !(x == r)) } }
    let s := match r.2.2.2 with
      | some q => if s.get GLB_CMD_STATUS_SEQ = q then s.set GLB_CMD_STATUS_STATUS (statusCode st) else s
      | none => s
    s.showBusy

/-- Commanded transitions in progress end with the status of a hardware transition's cause (R41). -/
def State.abortTransitions (s : State) (st : Status) : State :=
  let s := (s.glb.running.filter isTransition).foldl (fun s r => s.endCmd r.1 r.2.1 st) s
  { s with key := { s.key with program := none } }

/-! ### A change of mode -/

/-- MODE, PREV_MODE and LAST_CAUSE as one byte each (R426, Table 11.9). -/
def State.modePayload (s : State) : Bytes :=
  le 1 s.mode ++ le 1 (s.get GLB_MODE_PREV_MODE) ++ le 1 (s.get GLB_MODE_LAST_CAUSE)

/-- A change of GLB_MODE.MODE writes its record and raises its event. -/
def State.reportMode (s : State) : State :=
  (s.record 0 0x0005 s.modePayload).hostEvent 0x02 s.modePayload

/-- GLB_MODE takes a mode with a cause; PREV_MODE is the mode before. -/
def State.putMode (s : State) (m cause : Nat) : State :=
  s.load [(GLB_MODE_PREV_MODE, s.mode), (GLB_MODE_LAST_CAUSE, cause), (GLB_MODE_SUBSTATE, 0), (GLB_MODE_MODE, m)]

/-- A change of mode, with its record and event. A transition that leaves the mode as it is changes
LAST_CAUSE alone (notes/assumptions/16.md). -/
def State.setMode (s : State) (m cause : Nat) : State :=
  if s.mode = m then s.set GLB_MODE_LAST_CAUSE cause else (s.putMode m cause).reportMode

/-- The node enters the mode SLEEP: the MODE_CHANGE record stands before the recorder stops. -/
def State.setModeSleep (s : State) (cause : Nat) : State :=
  (s.record 0 0x0005 (s.putMode modeSleep cause).modePayload).putMode modeSleep cause

/-! ### SAFE (R266, R368, R410–R414, R421) -/

/-- The interlock is released. -/
def State.releaseInterlock (s : State) : State :=
  let s := if s.flag PAIR_STATUS_PERMISSION then s.set PAIR_EVENT_RELEASED 1 else s
  { s with pair := { s.pair with driving := false } } |>.set PAIR_STATUS_PERMISSION 0

/-- Entry into SAFE with a cause: ALIVE holds its level, the interlock is released, ports and flows follow
the mode. -/
def State.enterSafeMode (s : State) (cause : Nat) : State :=
  let s := (s.setMode modeSafe cause).releaseInterlock
  s.canFollowAll.cstFollow.refreshBridge

/-- An entry into SAFE that escalation or tamper causes is counted; the third within 60 s latches (R42). -/
def State.countSafe (s : State) : State :=
  let s := s.bump GLB_ESC_CNT_COUNT
  let recent := s.elapsed :: s.glb.safeEntries.filter (fun t => decide (s.elapsed ≤ t + 60000000000))
  let s := { s with glb := { s.glb with safeEntries := recent.take 3 } }
  if 3 ≤ recent.length then s.set GLB_ESC_CNT_SAFE_LATCH 1 else s

/-- The end of a BOOT: its duration, the instant from which INA_UPTIME counts after a full BOOT, the BOOT_END record, the
LINE_FS_SLEEP records, and the recorder's read pointer (R70, R436, Table 17.2). -/
def State.closeBoot (s : State) : State :=
  let s := s.set GLB_BOOT_TIME_US ((s.uptime - s.glb.bootFrom) / 1000)
  let s := { s with glb := { s.glb with bootStep := 6, bootImage := none } }
  let s := if s.flag GLB_BOOT_STATUS_WAKE_BOOT then s else { s with ina := { s.ina with upFrom := s.uptime } }
  let word0 := s.get GLB_BOOT_STATUS_BOOTSEL + 8 * s.get GLB_BOOT_STATUS_WAKE_BOOT
    + 16 * s.get GLB_BOOT_STATUS_CFG_SRC + 256 * s.get GLB_BOOT_STATUS_RESULT
    + 65536 * s.get GLB_BOOT_STATUS_TAMPERED
  let s := s.record 0 0x1004 (le 4 word0 ++ le 4 (s.get GLB_BOOT_TIME_US))
  let s := linePorts.foldl (fun s p => if s.flag (LN_TRX_FS_SLEEP p)
    then s.record (lnBase p) 0x3002 (le 1 (s.get (LN_TRX_FS_SLEEP p))) else s) s
  s.rewindLog

/-- BOOT ends in SAFE with a RESULT (R45). -/
def State.bootToSafe (s : State) (result cause : Nat) : State :=
  let s := (s.set GLB_BOOT_STATUS_RESULT result).showDerived
  (s.enterSafeMode cause).closeBoot

/-- An escalation lapses where the node is in SAFE or SLEEP, held in reset, or SCRAPPED (R40, R410). -/
def State.escalationLapses (s : State) : Bool :=
  s.glb.held || s.mode == modeSafe || s.mode == modeSleep || s.lc == lcScrapped

/-- Payload of an ESCALATION record (Table 17.5). -/
def State.escalationPayload (s : State) (n sev cause : Nat) (forced : Bool) : Bytes :=
  le 1 n ++ le 1 sev ++ le 1 (b2n forced + 2 * cause) ++ zeros 5 ++ le 8 (s.get FLT_STATUS_STATUS)

/-- The escalation that falls at the end of a step takes the node to SAFE (R410, R414, R421). -/
def State.escalateStep (s : State) : State :=
  match s.flt.escalate with
  | none => s
  | some (n, sev, cause) =>
    let s := { s with flt := { s.flt with escalate := none } }
    if s.escalationLapses then s
    else
      let forced := !s.bitAt FLT_RAW_RAW n
      let s := s.load [(FLT_ESC_SOURCE, n), (FLT_ESC_SEVERITY, sev), (FLT_ESC_FORCED, b2n forced),
        (FLT_ESC_CAUSE, cause), (FLT_ESC_VALID, 1), (FLT_ESC_TIME_NS, s.uptime), (FLT_EVENT_ESCALATION, 1)]
      let s := (s.bump FLT_STAT_ESCALATIONS).countSafe.abortTransitions .fault
      let fromBoot := s.mode == modeBoot
      let s := s.enterSafeMode 4
      let s := s.record 0x2000 0x0002 (s.escalationPayload n sev cause forced)
      if fromBoot then s.closeBoot else s

/-- What every step ends with: the overflow line, an escalation, ports and pins. -/
def State.settled (s : State) : State := s.overflowStep.escalateStep.refreshPins

/-- A command's effect is complete: the step ends with the state settled. -/
def finish (s : State) : Host.Outcome State Fault Refusal := .next s.settled

/-! ### Entry into BOOT -/

/-- Fields that every reset keeps: those of the always-on domain (R403, R457, R494). -/
def keptAlways : List Field :=
  ([0, 1, 2, 3].map (fun i => [KEY_TAMPER_CFG_DEB i, KEY_TAMPER_CFG_MESH i, KEY_TAMPER_CFG_POL i, KEY_TAMPER_CFG_EN i])).flatten
    ++ [KEY_TAMPER_STATUS_LATCHED, SLP_WAKE_SRC_TAMPER, SLP_WAKE_SRC_TIMER, SLP_WAKE_SRC_WAKE,
      SLP_WAKE_SRC_CAN, SLP_WAKE_SRC_LINE, SLP_AON_TIME_TICKS, CLK_STAT_BROWN_OUTS]

/-- Fields that every reset but a power-on keeps: the port islands and what OTP gives. -/
def keptPowered : List Field :=
  (linePorts.map (fun p => [LN_TRX_FS_SLEEP p, LN_FAULT_CAL_TIMEOUT p, LN_FAULT_DEG_ECHO p, LN_FAULT_DEG_DRIFT p,
    LN_FAULT_DEG_EYE p, LN_FAULT_DEG_CTLE p, LN_FAULT_COMMON_MODE p, LN_FAULT_PAIR_SWAP p, LN_FAULT_POLARITY p,
    LN_FAULT_OPEN p, LN_FAULT_SHORT_SHIELD p, LN_FAULT_SHORT_PAIR p, LN_DELAY_BASE_BASE p, LN_CM_PEAK p])).flatten
    ++ [GLB_UID_UID, GLB_LC_STATE, GLB_LC_PARTIAL, GLB_REV_ROM_VER, GLB_REV_STEP]

/-- Fields that a RESTART, a brown-out before UVLO, a legacy soft reset and a wake boot keep in addition
(R34, R42, R422, R440). -/
def keptWarm : List Field :=
  [GLB_CMD_STATUS_SEQ, GLB_CMD_STATUS_CODE, GLB_CMD_STATUS_STATUS, GLB_ESC_CNT_SAFE_LATCH, GLB_ESC_CNT_COUNT,
    FLT_FIRST_VALID, FLT_FIRST_FORCED, FLT_FIRST_SEVERITY, FLT_FIRST_SOURCE, FLT_FIRST_MAP_MAP,
    FLT_FIRST_TIME_NS, FLT_ESC_VALID, FLT_ESC_CAUSE, FLT_ESC_FORCED, FLT_ESC_SEVERITY, FLT_ESC_SOURCE,
    FLT_ESC_TIME_NS, FLT_RDF_RDF, FLT_LATENT_PASSES, FLT_LATENT_COLLECTOR, FLT_LATENT_SUPPLY,
    FLT_LATENT_CLOCK, FLT_LATENT_ECC, FLT_LATENT_LOCKSTEP, FLT_EVENT_LATENT_FAIL,
    FLT_EVENT_REAL_DURING_FORCE, FLT_EVENT_ESCALATION, FLT_EVENT_LATCH, REC_CFG_KEY_SLOT, GTN_VID_VID, GTN_ELN_COUNT,
    GTN_SSR_LOG_FULL]

/-- The registers of the always-on SLP_ block stand over a wake boot (R403). -/
def inSlpBlock (key : Nat) : Bool := decide (8 * 0x3_F000 ≤ key) && decide (key < 8 * 0x4_0000)

/-- The register store with only the fields listed kept. -/
def keepFields (l : List Field) (r : List (Nat × Nat)) : List (Nat × Nat) :=
  r.filter (fun e => l.any (fun f => f.key == e.1))

/-- Sources whose lines hardware outside the core drives, still asserted after a reset (R422). -/
abbrev hardwareLines : List Nat := [3, 4, 5, 6, 7, 17, 18, 19, 20, 58, 59, 60, 61]

/-- The lines of those sources that are asserted. -/
def State.hardwareMask (s : State) : Nat :=
  (hardwareLines.map (fun n => if hasBit s.flt.lines n then 2 ^ n else 0)).sum

/-- The kinds of entry into BOOT: power-on, RESET_N, a warm entry (RESTART, a life-cycle command, a
brown-out that ends before UVLO, a legacy soft reset), and a wake boot. -/
inductive BootKind where
  | powerOn | resetN | warm | wake
  deriving DecidableEq, Repr

/-- Registers at an entry into BOOT: kept fields, reset values for the others. -/
def bootRegs (kind : BootKind) (r : List (Nat × Nat)) : List (Nat × Nat) :=
  match kind with
  | .powerOn => keepFields keptAlways r
  | .resetN => keepFields (keptAlways ++ keptPowered) r
  | .warm => keepFields (keptAlways ++ keptPowered ++ keptWarm) r
  | .wake => r.filter (fun e => (keptAlways ++ keptPowered ++ keptWarm).any (fun f => f.key == e.1) ||
      inSlpBlock e.1)

/-- What the state holds after the reset of an entry into BOOT: everything at its reset value but what the
kind of entry keeps. -/
def State.cleared (s : State) (kind : BootKind) : State :=
  let warm := kind = .warm ∨ kind = .wake
  { regs := bootRegs kind s.regs
    uptime := if kind = .wake then s.uptime else 0
    elapsed := s.elapsed
    glb := {
      bootselPins := s.glb.bootselPins
      safeEntries := if warm then s.glb.safeEntries else []
      authBusy := if warm then s.glb.authBusy else false
      perst := s.glb.perst
      bootFrom := if kind = .wake then s.uptime else 0
      bootKind := match kind with | .warm => 1 | .wake => 2 | _ => 0 }
    otp := s.otp
    mram := { s.mram with wp := false }
    rcd := match kind with
      | .powerOn => {}
      | _ => { queue := s.rcd.queue, writing := s.rcd.writing, lost := s.rcd.lost, lostFirst := s.rcd.lostFirst, lostLast := s.rcd.lostLast }
    flt := { lines := s.hardwareMask }
    pair := { partnerLow := s.pair.partnerLow }
    slp := { latched := if kind = .wake then s.slp.latched else 0, aonFrom := s.slp.aonFrom }
    ina := { upFrom := if kind = .wake then s.ina.upFrom else 0 }
    key := { live := s.key.live, tamperedAon := s.key.tamperedAon, deferred := s.key.deferred }
    pwr := { s.pwr with shedTicks := 0 }
    resume := s.resume
    ports := linePorts.map (fun p => (p, { baseLoaded := kind ≠ .powerOn && (s.port p).baseLoaded }))
    flw := { gpioBoot := match kind with
      | .warm => s.gpioSafe
      | .wake => s.flw.gpioBoot
      | _ => (0, 0) }
    gtn := { log := if warm then s.gtn.log else [] }
    free := s.free
    out := s.out
    pending := s.pending }

/-- BOOTSEL is sampled (R44). -/
def State.sampleStraps (s : State) (straps : Nat) : State :=
  let s := { s with glb := { s.glb with bootselPins := straps % 8 } }
  s.set GLB_BOOT_STATUS_BOOTSEL straps

/-- IVCNT starts at its reservation, and a new reservation is written (R261). -/
def State.startIv (s : State) : State :=
  let v := s.mram.ivReserved
  let s := { s with mram := { s.mram with ivReserved := v + 2 ^ 24 }, flw := { s.flw with ivDone := decide (2 ^ 32 ≤ v) } }
  s.set FLW_IVCNT_IVCNT v

/-- What a BOOT takes from MRAM at its start: topology counter, key age, recorder counts (R108, R142, R440). -/
def State.loadMram (s : State) : State :=
  s.load [(INA_TOPO_COUNTER, s.mram.topo), (CYC_KEY_AGE_COMMITS, s.mram.keyAge),
    (REC_CLR_CNT_COUNT, s.mram.clrCnt), (REC_NEXT_SEQ_SEQ, s.mram.nextSeq)]

/-- The legacy host view at a BOOT: RSR shows its cause, and every cause but a legacy soft reset clears the log, ELN
and VID (R321, R340). -/
def State.startLegacy (s : State) (cause : Nat) : State :=
  let rsr := match cause with | 1 => 1 | 10 => 2 | 11 => 3 | _ => 0
  let s := s.set GTN_RSR_CAUSE rsr
  if cause = 10 then s.gtnMap (fun g => { g with softReset := true })
  else (s.load [(GTN_ELN_COUNT, 0), (GTN_VID_VID, 0), (GTN_SSR_LOG_FULL, 0)]).gtnMap (fun g => { g with log := [] })

/-- An entry into BOOT of a kind, with its cause, and the straps where they are sampled. A node held in reset has
entered the mode BOOT before. Commands still in progress end with FAULT. -/
def State.startBoot (s : State) (kind : BootKind) (cause : Nat) (straps : Option Nat) : State :=
  let s := s.glb.running.foldl (fun s r => s.endCmd r.1 r.2.1 .fault) s
  let old := s.mode
  let prev := match kind with
    | .powerOn => 0
    | _ => if s.glb.held then s.get GLB_MODE_PREV_MODE else old
  let t := s.cleared kind
  let t := t.load [(GLB_MODE_PREV_MODE, prev), (GLB_MODE_LAST_CAUSE, cause),
    (GLB_BOOT_STATUS_WAKE_BOOT, b2n (decide (kind = .wake)))]
  let t := match straps with
    | some x => t.sampleStraps x
    | none => t.set GLB_BOOT_STATUS_BOOTSEL (s.get GLB_BOOT_STATUS_BOOTSEL)
  let t := (t.loadMram.startIv.renewNonce.showQueue).startLegacy cause
  let t := if old = modeBoot then t else t.reportMode
  t.raiseLines t.flt.lines

end Sys2Proof.Machine
end

