-- ==== Sys2Proof/Machine/BrgReqs.lean ====
section
/-! DEFINITION. The far-window bridge as origin: windows and their binding, issuing requests, locks, the
sideband word, and what a commit does (R273–R294). -/

namespace Sys2Proof.Machine

open Reg

/-! ### Windows -/

/-- Window states (BRG_WINn_STATUS.STATE). -/
abbrev winDisabled : Nat := 0
abbrev winActive : Nat := 1
abbrev winResolving : Nat := 2
abbrev winUidAbsent : Nat := 3
abbrev winTopoChanged : Nat := 4

/-- STATE of a window. -/
def State.winState (s : State) (w : Nat) : Nat := s.get (BRG_WIN_STATUS_STATE w)

/-- The 32 windows. -/
abbrev allWindows : List Nat := List.range 32

/-- The train address that a window names. -/
def State.winAddr (s : State) (w : Nat) : Nat :=
  let dst := s.get (BRG_WIN_DST_ADDR w)
  if s.get (BRG_WIN_CTRL_BIND w) = 0 then dst else addrOf (s.get (BRG_WIN_STATUS_RES_POS w)) (bits dst 0 6)

/-- The window names the node itself (R275). -/
def State.winIsSelf (s : State) (w : Nat) : Bool :=
  let dst := s.get (BRG_WIN_DST_ADDR w)
  if s.get (BRG_WIN_CTRL_BIND w) = 0 then
    addrStk dst == s.stackPos && (addrLocal dst || addrPos dst == s.position)
  else s.get (BRG_WIN_UID_UID w) == s.trainUid && bits dst 0 6 == s.stackPos

/-- WIN_ENABLE refuses a window (R275). -/
def State.winBad (s : State) (w : Nat) : Bool :=
  let size := s.get (BRG_WIN_CTRL_SIZE_EXP w)
  decide (size < 12 ∨ 40 < size) || s.get (BRG_WIN_CTRL_CLASS w) == 7 || decide (8 < s.get (BRG_WIN_CTRL_TARGET w))
    || (s.flag (BRG_WIN_CTRL_FAR_BE w) && s.get (BRG_WIN_CTRL_TARGET w) == 0)
    || (s.get (BRG_WIN_CTRL_BIND w) == 0 && addrGroup (s.get (BRG_WIN_DST_ADDR w))) || s.winIsSelf w

/-! ### Byte lanes (R289) -/

/-- The window carries data in reversed lanes. -/
def State.winSwaps (s : State) (w : Nat) : Bool := s.flag (BRG_WIN_CTRL_LANES w) && s.flag (BRG_WIN_CTRL_FAR_BE w)

/-- Requester data as bytes in address order, and back. -/
def State.laneBytes (s : State) (w width v : Nat) : Bytes :=
  if s.winSwaps w then (le width v).reverse else le width v
def State.laneValue (s : State) (w width : Nat) (d : Bytes) : Nat :=
  if s.winSwaps w then ofLe (fit width d).reverse else ofLe (fit width d)

/-! ### Frames (Table 10.1) -/

/-- OP codes. -/
abbrev opWr : Nat := 1
abbrev opRd : Nat := 2
abbrev opUnlock : Nat := 3
abbrev opSbPoll : Nat := 4
abbrev opRdData : Nat := 8
abbrev opErr : Nat := 9
abbrev opLockRetry : Nat := 10
abbrev opSbData : Nat := 12
abbrev opFault : Nat := 13

/-- WIDTH code of a width in bytes, and back. -/
def widthCode (w : Nat) : Nat := if w = 1 then 0 else if w = 2 then 1 else if w = 4 then 2 else 3
def widthOf (c : Nat) : Nat := 2 ^ (c % 4)

/-- Fields of a bridge payload. -/
def brgOp (f : MsgFrame) : Nat := ofLe (slice 0 1 f.payload)
def brgFlags (f : MsgFrame) : Nat := ofLe (slice 1 1 f.payload)
def brgLockFlag (f : MsgFrame) : Bool := hasBit (brgFlags f) 0
def brgUnlockFlag (f : MsgFrame) : Bool := hasBit (brgFlags f) 1
def brgInLock (f : MsgFrame) : Bool := hasBit (brgFlags f) 2
def brgWidth (f : MsgFrame) : Nat := widthOf (bits (ofLe (slice 2 1 f.payload)) 0 2)
def brgTarget (f : MsgFrame) : Nat := bits (ofLe (slice 2 1 f.payload)) 4 4
def brgWin (f : MsgFrame) : Nat := ofLe (slice 3 1 f.payload) % 32
def brgBseq (f : MsgFrame) : Nat := ofLe (slice 4 2 f.payload)
def brgTag (f : MsgFrame) : Nat := ofLe (slice 6 2 f.payload)
def brgAddr (f : MsgFrame) : Nat := ofLe (slice 8 8 f.payload)
def brgData (f : MsgFrame) : Bytes := slice 16 8 f.payload
def brgStatus (f : MsgFrame) : Nat := ofLe (slice 24 1 f.payload)

/-- The frame of a request. -/
def State.requestFrame (s : State) (r : BrgReq) : MsgFrame :=
  let w := r.win
  brgFrame 5 (s.winAddr w) (s.get (BRG_WIN_CTRL_CLASS w))
    (brgPayload32 r.op (b2n r.lock + 2 * b2n r.unlock + 4 * b2n r.inLock + 8 * s.get (BRG_WIN_CTRL_RSE w))
      (widthCode r.width + 16 * s.get (BRG_WIN_CTRL_TARGET w)) w r.bseq r.tag r.addr
      (if r.op = opWr then s.laneBytes w r.width r.data else []) 0 r.topo)

/-- A frame of this node to an address would be routed (R154). -/
def State.routable (s : State) (dst : Nat) : Bool :=
  if s.stackMember then !(s.get STK_STATUS_STATE == 4 && !addrLocal dst && !(addrPos dst == s.position))
  else if addrLocal dst || addrPos dst == s.position then s.stackHas (addrStk dst)
  else (s.legacyAt (addrPos dst)).isSome || decide (addrPos dst ≤ s.trainLen)

/-! ### Ends of locks (R286–R288) -/

/-- The outgoing lock ends where it stands on a window; the lock write that a LOCK_RETRY would repeat is
forgotten with it. -/
def State.endLockOf (s : State) (w : Nat) : State :=
  if s.get BRG_STATUS_LOCK_OUT = 0 ∨ s.brg.lockWin ≠ w then s
  else s.endOutLock.brgMap (fun b => { b with reads := b.reads.filter (fun r => !(r.win == w && r.op == opWr)) })

/-! ### Issuing requests (R273, R276, R279, R282, R292, R294) -/

/-- The status of a request's access port; the requests of rings have none. -/
def State.putApStatus (s : State) (who status : Nat) : State :=
  if who < 8 then s.set (BRG_AP_STATUS_STATUS who) status else s

/-- BSEQ of a window, taken. -/
def State.takeBseq (s : State) (w : Nat) : Nat × State :=
  let b := s.get (BRG_WIN_STATUS_BSEQ w)
  (b, s.set (BRG_WIN_STATUS_BSEQ w) ((b + 1) % 65536))

/-- A request's frame goes out. -/
def State.sendRequest (s : State) (r : BrgReq) : State := s.originate (s.requestFrame r) (some (1024 + r.win))

/-- The number of line copies that a request makes. -/
def State.requestCopies (s : State) (r : BrgReq) : Nat := s.copiesTo (s.winAddr r.win)

/-- What a request carries when it leaves: its BSEQ, IN_LOCK under the lock held on its window, its copies, the
counter in force. -/
def State.dressRequest (s : State) (r : BrgReq) : BrgReq × State :=
  let (b, s) := s.takeBseq r.win
  ({ r with bseq := b, left := s.requestCopies r, sent := false, topo := s.topo
            inLock := !r.lock && s.get BRG_STATUS_LOCK_OUT == 2 && s.brg.lockWin == r.win }, s)

/-- A posted write leaves: an entry of the posted store, its frame, its lock or unlock (R279, R286). A lock
write counts as holding the lock from its sending (notes/assumptions/24.md). -/
def State.sendWrite (s : State) (r : BrgReq) : State :=
  let (r, s) := s.dressRequest r
  let s := (s.brgMap (fun b => { b with posted := b.posted ++ [r] })).showPosted
  let s := if 8 ≤ r.who then s.brgMap (fun b => { b with sources := tabPut (65536 * r.win + r.bseq) r.who b.sources }) else s
  let s := s.putApStatus r.who brgAccepted
  let s := if r.lock then
      (s.set BRG_STATUS_LOCK_OUT 2).brgMap (fun b => { b with lockWin := r.win, reads := b.reads ++ [r] })
    else s
  let s := s.sendRequest r
  if r.unlock then s.endLockOf r.win else s

/-- A read leaves: it stays open until its final status (R282). -/
def State.sendRead (s : State) (r : BrgReq) : State :=
  let (r, s) := s.dressRequest r
  let s := s.brgMap (fun b => { b with reads := b.reads ++ [r] })
  let s := s.putApStatus r.who brgRetry
  let s := if r.lock then (s.set BRG_STATUS_LOCK_OUT 1).brgMap (fun b => { b with lockWin := r.win }) else s
  let s := s.sendRequest r
  if r.unlock && r.inLock then s.endLockOf r.win else s

/-- An UNLOCK request leaves; it carries no new BSEQ (R278, R286). -/
def State.sendUnlock (s : State) (r : BrgReq) : State :=
  let r := { r with bseq := s.get (BRG_WIN_STATUS_BSEQ r.win), topo := s.topo, inLock := s.brg.lockWin == r.win }
  let s := (s.putApStatus r.who brgAccepted).originate (s.requestFrame r) none
  s.endLockOf r.win

/-- A request leaves, or a write waits for the posted store (R279). -/
def State.sendAny (s : State) (r : BrgReq) : State :=
  if r.op = opWr then
    if s.brg.posted.length < 256 then s.sendWrite r
    else (s.putApStatus r.who brgRetry).brgMap (fun b => { b with waiting := b.waiting ++ [r] })
  else if r.op = opRd then s.sendRead r
  else s.sendUnlock r

/-- The status with which the origin turns a request away at once: none where the request goes on. -/
def State.refuseRequest (s : State) (r : BrgReq) : Option Nat :=
  let w := r.win
  let st := s.winState w
  if !s.running then some brgWrongState
  else if 2 ^ s.get (BRG_WIN_CTRL_SIZE_EXP w) < r.offset + r.width
      ∨ (s.get (BRG_WIN_BASE_BASE w) + r.offset) % r.width ≠ 0 then some brgBadArg
  else if r.lock && !(s.get BRG_STATUS_LOCK_OUT == 0) then some brgBadArg
  else if 8 ≤ r.who ∧ !s.flag (BRG_WIN_CTRL_PF1_OK w) then some brgBadArg
  else if st = winDisabled then some brgBadArg
  else if st = winUidAbsent then some brgUidAbsent
  else if st = winTopoChanged then some brgTopoChanged
  else if s.flag FLW_STATUS_SHEDDING && !s.flag (BRG_WIN_CTRL_ESS w) then some brgShed
  else none

/-- A request is issued: the status it shows at once, and the state after. -/
def State.issueRequest (s : State) (r : BrgReq) : Nat × State :=
  let r := { r with addr := (s.get (BRG_WIN_BASE_BASE r.win) + r.offset) % 2 ^ 64 }
  match s.refuseRequest r with
  | some st => (st, s.putApStatus r.who st)
  | none =>
    if s.winState r.win = winResolving then
      (brgRetry, (s.putApStatus r.who brgRetry).brgMap (fun b => { b with parked := b.parked ++ [r] }))
    else if !s.routable (s.winAddr r.win) then (brgUnroutable, s.unroutable.putApStatus r.who brgUnroutable)
    else
      let full := r.op == opWr && decide (256 ≤ s.brg.posted.length)
      (if r.op = opRd ∨ full then brgRetry else brgAccepted, s.sendAny r)

/-- A request of a window that resolves no longer waits. -/
def State.unpark (s : State) (r : BrgReq) : State :=
  if !s.routable (s.winAddr r.win) then s.unroutable.finishRequest r brgUnroutable 0 else s.sendAny r

/-- A request ends at the origin without having been sent: a read with a final status, a write of a ring as a
POSTED_FAULT. -/
def State.turnAway (s : State) (status : Nat) (r : BrgReq) : State :=
  if 8 ≤ r.who ∧ r.op ≠ opRd then s.postedFault r.who r.win status r.tag r.offset
  else s.finishRequest r status 0

/-- Open requests of a window complete with a status: reads, writes that wait, and parked ones (R292, R295). -/
def State.closeRequests (s : State) (w status : Nat) : State :=
  let mine := fun (r : BrgReq) => r.win == w
  let reads := s.brg.reads.filter (fun r => mine r && r.op == opRd)
  let others := s.brg.waiting.filter mine ++ s.brg.parked.filter mine
  let s := s.brgMap (fun b => { b with waiting := b.waiting.filter (fun r => !mine r), parked := b.parked.filter (fun r => !mine r) })
  let s := reads.foldl (fun s r => s.finishRequest r status 0) s
  let s := others.foldl (State.turnAway · status) s
  s.endLockOf w

/-! ### Binding (R275, R291, R292) -/

/-- A window's position and state. -/
def State.putWin (s : State) (w state pos : Nat) : State :=
  s.load [(BRG_WIN_STATUS_STATE w, state), (BRG_WIN_STATUS_RES_POS w, pos)]

/-- A RESOLVING window whose UID the table holds becomes ACTIVE, and its waiting requests go out. -/
def State.resolveWindow (s : State) (w : Nat) : State :=
  match s.uidPosition (s.get (BRG_WIN_UID_UID w)) with
  | none => s
  | some q =>
    let go := s.brg.parked.filter (fun r => r.win == w)
    let s := (s.putWin w winActive q).brgMap (fun b => { b with parked := b.parked.filter (fun r => !(r.win == w)) })
    go.foldl State.unpark s

/-- The windows in a state. -/
def State.winsIn (s : State) (st : Nat) : List Nat := allWindows.filter (fun w => s.winState w == st)

/-- RESOLVING windows resolve where they can. -/
def State.resolveWindows (s : State) : State := (s.winsIn winResolving).foldl State.resolveWindow s

/-- At the close of the first window after a commit the windows still RESOLVING become UID_ABSENT (R256, R292). -/
def State.absentWindows (s : State) : State :=
  (s.winsIn winResolving).foldl (fun s w => (s.putWin w winUidAbsent 0).closeRequests w brgUidAbsent) s

/-- The position of an address bound by position; none for the own vehicle. -/
def State.remotePos (s : State) (a : Nat) : Option Nat :=
  if addrLocal a ∨ addrPos a = s.position then none else some (addrPos a)

/-- A window goes on through a commit (Table 4.5). -/
def State.winContinues (s : State) (kept : Bool) (keptLen w : Nat) : Bool :=
  s.winState w == winActive && s.get (BRG_WIN_CTRL_BIND w) == 0 &&
    (addrLocal (s.get (BRG_WIN_DST_ADDR w)) || (kept && decide (addrPos (s.get (BRG_WIN_DST_ADDR w)) ≤ keptLen)))

/-- The outcome of a commit for one window (R291, R292). -/
def State.winAtCommit (kept : Bool) (keptLen : Nat) (s : State) (w : Nat) : State :=
  if s.winState w = winDisabled ∨ s.winContinues kept keptLen w then s
  else if s.get (BRG_WIN_CTRL_BIND w) = 0 then
    (s.putWin w winTopoChanged 0).closeRequests w brgTopoChanged
  else ((s.putWin w winResolving 0).closeRequests w brgTopoChanged).resolveWindow w

/-- A target's state of an origin stands after a commit (R293). -/
def keptOrigin (kept : Bool) (keptLen origin : Nat) : Bool := kept && decide (addrPos origin ≤ keptLen)

/-- Requests held at the target go back to the switch's delivery, in order. -/
def State.releaseHeld (s : State) (p : BrgHeld → Bool) : State :=
  let go := (s.brg.held.filter p).map (·.frame)
  (s.brgMap (fun b => { b with held := b.held.filter (fun h => !p h) })).msgMap (fun m => { m with inbox := m.inbox ++ go })

/-- The target's lock ends, and the requests held behind it run (R286). -/
def State.unlockTarget (s : State) : State :=
  s.endTargetLock.releaseHeld (fun h => !h.gap)

/-- What a commit does to the bridge (R291–R293). -/
def State.brgCommit (s : State) (kept : Bool) (keptLen : Nat) : State :=
  let s := allWindows.foldl (State.winAtCommit kept keptLen) s
  let ok := keptOrigin kept keptLen
  let s := s.brgMap (fun b => { b with
    orders := b.orders.filter (fun o => ok o.origin), held := b.held.filter (fun h => ok h.frame.src)
    refused := b.refused.filter (fun r => ok r.1) })
  match s.brg.lock with
  | some (f, _) => if ok f.src then s else s.unlockTarget
  | none => s

/-! ### Sideband (R290) -/

/-- In each message window one SB_POLL leaves for each ACTIVE window with SB_EN. -/
def State.pollSidebands (s : State) : State :=
  ((s.winsIn winActive).filter (fun w => s.flag (BRG_WIN_CTRL_SB_EN w))).foldl (fun s w =>
    s.originate (brgFrame 5 (s.winAddr w) (s.get (BRG_WIN_CTRL_CLASS w))
      (brgPayload32 opSbPoll 0 (16 * s.get (BRG_WIN_CTRL_TARGET w)) w 0 0 0 [] 0 s.topo)) none) s

/-- AGE of every sideband word at an epoch. -/
def State.sidebandEpoch (s : State) : State :=
  allWindows.foldl (fun s w =>
    let a := Nat.min 15 (s.get (BRG_WIN_SB_AGE w) + 1)
    s.load [(BRG_WIN_SB_AGE w, a), (BRG_WIN_SB_VALID w, b2n (decide (a ≤ 2)))]) s

end Sys2Proof.Machine
end

