-- ==== Sys2Proof/Machine/Commands.lean ====
section
/-! DEFINITION. The checks that every command of every block runs through, in the order of R35, and what a
rejection leaves behind (R16, R34–R37, R50, R305). -/

namespace Sys2Proof.Machine

open Reg

/-- One command of a block: base address and code (R34), the range check of its argument and input registers
(step 2 of R35), the modes that accept it (step 4), its life-cycle condition (step 5), whether it is
authenticated and under which key (step 6), its conditions of execution (step 7), whether it reports
PENDING until a later step ends it, and its effect. -/
structure CmdSpec where
  base : Nat
  code : Nat
  argOk : State → Nat → Bool := fun _ _ => true
  busy : State → Bool := fun _ => false
  accepted : State → Bool
  lcOk : State → Bool := fun _ => true
  auth : State → Bool := fun _ => false
  authKey : State → Option Nat := fun _ => none
  cond : State → Nat → Status := fun _ _ => .ok
  pends : Bool := false
  run : Nat → State → State

/-- The register through which a block's commands arrive. -/
def cmdAddr (base : Nat) : Nat :=
  if base = 0 then 0x14 else if base = 0xC000 then 0xD004 else if base = 0x3C000 then 0x3C010 else base + 4

/-- A CAN channel's block (R305). -/
def isCanBase (base : Nat) : Bool := decide (0x2_0000 ≤ base ∧ base < 0x2_C000)

/-- PF0 takes no write: GTN mode, SAFE entered from GTN, and SCRAPPED (R37, R56, R407). -/
def State.pf0ReadOnly (s : State) : Bool :=
  s.mode == modeGtn || (s.mode == modeSafe && s.get GLB_MODE_PREV_MODE == modeGtn) || s.lc == lcScrapped

/-- The privilege check of a command (step 1 of R35; R16, R34, R37, R56, R305). -/
def State.mayCommand (s : State) (path : Path) (base code : Nat) : Bool :=
  match path with
  | .reg .pf0 => !s.pf0ReadOnly
  | .reg _ => false
  | .ring pf1 => !(base == 0) && (!pf1 || (isCanBase base && code == 3) || (base == 0xB000 && code == 1))
  | .dbgToken => base == 0 && code == 0x10

/-- Path byte of an ACCESS_DENIED record (Table 17.5). -/
def deniedPath (path : Path) : Nat × Nat :=
  match path with
  | .reg .pf0 => (3, 0)
  | .reg .pf1 => (0, 0)
  | .reg .flow => (2, 0)
  | .reg (.bridge o _) => (1, o)
  | .ring _ => (4, 0)
  | .dbgToken => (3, 0)

/-- The ACCESS_DENIED record (R16, Table 17.5), raised by the block that holds the register. -/
def State.recordDenied (s : State) (path : Path) (addr value width : Nat) : State :=
  let (p, origin) := deniedPath path
  s.record addr 0x7002 (le 4 addr ++ le 8 value ++ le 1 width ++ le 1 p ++ le 2 origin)

/-- Reports in GLB_CMD_STATUS: every path but a CMD descriptor (R34). -/
def reportsStatus (path : Path) : Bool :=
  match path with
  | .ring _ => false
  | _ => true

/-- A command reports its code and status (R34). -/
def State.report (s : State) (path : Path) (code : Nat) (st : Status) : State :=
  if reportsStatus path then
    (s.set GLB_CMD_STATUS_SEQ (s.get GLB_CMD_STATUS_SEQ + 1)).load
      [(GLB_CMD_STATUS_CODE, code), (GLB_CMD_STATUS_STATUS, statusCode st)]
  else s

/-- Path byte of a WRONG_STATE record. -/
def ringPath (path : Path) : Bool :=
  match path with
  | .ring _ => true
  | _ => false

/-- A rejection with WRONG_STATE is counted, recorded and, for a ring in SAFE or STANDBY, reported to the
fault collector (R36). -/
def State.wrongState (s : State) (path : Path) (base code : Nat) : State :=
  let s := s.bump GLB_CMD_REJECT_CNT_COUNT
  let s := match s.rateCheck 2 base code tenMs with
    | (true, sup, s) => s.record base 0x7001 (le 4 base ++ le 1 code ++ le 1 s.mode
        ++ le 1 (s.get GLB_MODE_SUBSTATE) ++ le 1 (b2n (ringPath path)) ++ le 2 sup)
    | (false, _, s) => s
  if ringPath path && s.inModes [modeSafe, modeStandby] then s.pulse 28 else s

/-- The tag in GLB_AUTH_RESP verifies a command (R50). -/
def State.tagPasses (s : State) (key : Option Nat) (code arg : Nat) : Bool :=
  match key with
  | none => false
  | some k => fit 32 (Config.hmacSha256 k (s.authMessage code arg)) == le 32 (s.get GLB_AUTH_RESP_TAG)

/-- The status with which the checks of R35 end, in their order. -/
def State.checkCmd (s : State) (c : CmdSpec) (path : Path) (arg : Nat) : Status :=
  if !s.mayCommand path c.base c.code then .accessDenied
  else if !c.argOk s arg then .badArg
  else if s.flag GLB_MODE_BUSY || (c.auth s && s.glb.authBusy) || c.busy s then .busy
  else if !c.accepted s then .wrongState
  else if !c.lcOk s then .lcDenied
  else if c.auth s && !s.tagPasses (c.authKey s) c.code arg then .authFail
  else c.cond s arg

/-- What an authenticated command leaves behind: a fresh nonce; after an AUTH_FAIL the count and the 1 s BUSY
period (R50). -/
def State.afterAuth (s : State) (c : CmdSpec) (st : Status) : State :=
  if !c.auth s then s
  else
    let s := if st = .authFail then
      let s := s.bump GLB_LC_DBG_FAIL_CNT
      { s with glb := { s.glb with authBusy := true } }
      else s
    s.renewNonce

/-- A command that passed reports OK, or PENDING with an entry among those in progress, and takes effect. -/
def State.acceptCmd (s : State) (c : CmdSpec) (path : Path) (arg : Nat) : Status × State :=
  if c.pends then
    let s := s.report path c.code .pending
    let q := if reportsStatus path then some (s.get GLB_CMD_STATUS_SEQ) else none
    let s := { s with glb := { s.glb with running := (c.base, c.code, arg, q) :: s.glb.running } }
    (.pending, c.run arg s.showBusy)
  else (.ok, c.run arg (s.report path c.code .ok))

/-- A command of a block arrives by a path: its status, and the state after (R34–R37). -/
def State.runCmd (s : State) (c : CmdSpec) (path : Path) (arg : Nat) : Status × State :=
  let st := s.checkCmd c path arg
  let t := s.afterAuth c st
  if st = .ok then t.acceptCmd c path arg
  else
    let t := t.report path c.code st
    let t := if st = .wrongState then t.wrongState path c.base c.code
      else if st = .accessDenied then t.recordDenied path (cmdAddr c.base) (arg * 65536 + c.code) 4
      else t
    (st, t)

/-- A code that no table lists (step 2 of R35). -/
def State.unknownCmd (s : State) (path : Path) (base code arg : Nat) : Status × State :=
  if !s.mayCommand path base code then
    (.accessDenied, (s.report path code .accessDenied).recordDenied path (cmdAddr base) (arg * 65536 + code) 4)
  else (.unknownCmd, s.report path code .unknownCmd)

/-- A command as a step of its own: its path is told the status (R16, R34). -/
def State.command (s : State) (c : CmdSpec) (path : Path) (arg : Nat) : State :=
  let (st, s) := s.runCmd c path (arg % 65536)
  match path with
  | .ring _ => s
  | _ => s.emit (.pathStatus path (cmdAddr c.base) st)

end Sys2Proof.Machine
end

