-- ==== Sys2Proof/Machine/Line.lean ====
section
/-! DEFINITION. The line ports' commands and events (chapter 03): link states, equalizer, pair faults, echo
locator, hop delay, and what a calibration epoch applies. -/

namespace Sys2Proof.Machine

open Reg

/-- The receiver of a port is on: NORMAL or LISTEN on the Nelmin line (Table 3.5). -/
def State.receiverOn (s : State) (p : Nat) : Bool :=
  decide (p < 4) && s.nelmin p && (s.get (LN_TRX_STATE p) == trxNormal || s.get (LN_TRX_STATE p) == trxListen)

/-- The transmitter and the echo locator of a port are on (Table 3.5). -/
def State.transmitterOn (s : State) (p : Nat) : Bool :=
  decide (p < 4) && s.get (LN_TRX_STATE p) == trxNormal && s.permission

/-! ### Inauguration frames that a port sends -/

/-- The HELLO of an end (Table 4.2, R96). -/
def State.helloFrame (s : State) (e : Nat) : InaFrame :=
  { kind := 1, attempt := 0, topo := s.topo, uid := s.trainUid, pos := s.position
    flags := (e - 1) + 2 * b2n (decide (2 ≤ s.get INA_STATUS_STATE)) }

/-- A port sends a HELLO (R96). -/
def State.sendHello (s : State) (p : Nat) : State :=
  if s.inaSends && s.nelmin p then s.emit (.hello p (s.helloFrame (portEnd p))) else s

/-! ### Link states (R64) -/

/-- Loss of signal for 1 µs. -/
def State.lossOfSignal (s : State) (p : Nat) : State :=
  let s := s.set (LN_STATUS_SIG_DET p) 0
  if s.get (LN_STATUS_LINK p) = linkDown then s else s.lineDown p

def execLinkLossOfSignal (port : Nat) (s : State) : Host.Outcome State Fault Refusal :=
  finish (if port < 4 then s.lossOfSignal port else s)

/-- 1,024 code groups of the Nelmin line, ns (5 ns each). -/
abbrev codeGroupWindow : Nat := 5120

/-- The last code errors with one more, within a window of uptime, at most 16. -/
def noteCodeError (now window : Nat) (l : List Nat) : List Nat :=
  (now :: l.filter (fun t => decide (now < t + window))).take 16

/-- A code error is counted, on a G-line port as a Manchester error; 16 in a window, or a loss of alignment, take the link DOWN. -/
def State.codeError (s : State) (p : Nat) (alignmentLost : Bool) : State :=
  if !s.nelmin p && s.receiverOn p then
    let s := s.bump (LN_ERR_CNT_CODE_ERRORS p)
    if s.inGtn then s.bump (GTN_LEC_CODE p) else s
  else if !s.receiverOn p || s.get (LN_STATUS_LINK p) == linkDown then s
  else
    let s := s.bump (LN_ERR_CNT_CODE_ERRORS p)
    let s := s.portMap p (fun l => { l with codeErrs := noteCodeError s.uptime codeGroupWindow l.codeErrs })
    if alignmentLost || decide (16 ≤ (s.port p).codeErrs.length) then s.lineDown p else s

def execLinkCodeError (port : Nat) (alignmentLost : Bool) (s : State) : Host.Outcome State Fault Refusal :=
  finish (s.codeError port alignmentLost)

/-- The DFE taps as applied. -/
def State.setTaps (s : State) (p : Nat) (t : List Int) : State :=
  let w := fun (i : Nat) => satInt 6 (t.getD i 0)
  s.load [(LN_EQ_TAP1 p, w 0), (LN_EQ_TAP2 p, w 1), (LN_EQ_TAP3 p, w 2), (LN_EQ_TAP4 p, w 3), (LN_EQ_TAP5 p, w 4)]

/-- The DFE taps applied. -/
def State.taps (s : State) (p : Nat) : List Int :=
  [signed 6 (s.get (LN_EQ_TAP1 p)), signed 6 (s.get (LN_EQ_TAP2 p)), signed 6 (s.get (LN_EQ_TAP3 p)),
    signed 6 (s.get (LN_EQ_TAP4 p)), signed 6 (s.get (LN_EQ_TAP5 p))]

/-- The link enters ACQUIRE: the CTLE sweep begins, DFE off (Table 3.4). -/
def State.enterAcquire (s : State) (p : Nat) : State :=
  (s.set (LN_STATUS_LINK p) linkAcquire).setTaps p [0, 0, 0, 0, 0]
    |>.portMap p (fun l => { l with sweep := 0, sweepDone := false, best := 0, bestEye := 0, codeErrs := [] })

/-- Signal above 40 mV for 10 µs. -/
def State.signalDetect (s : State) (p : Nat) : State :=
  if 4 ≤ p ∨ s.get (LN_TRX_STATE p) = trxSleep then s
  else
    let s := s.set (LN_STATUS_SIG_DET p) 1
    if s.receiverOn p && s.get (LN_STATUS_LINK p) == linkDown then s.enterAcquire p else s

def execSignalDetect (port : Nat) (s : State) : Host.Outcome State Fault Refusal := finish (s.signalDetect port)

/-- A 20 µs setting of the sweep ends with an eye margin: the next one is tried, or the best one kept. -/
def State.sweepStep (s : State) (p eye : Nat) : State :=
  let l := s.port p
  if !(s.get (LN_STATUS_LINK p) == linkAcquire) || l.sweepDone then s
  else
    let better := decide (l.sweep = 0 ∨ l.bestEye < eye)
    let best := if better then l.sweep else l.best
    let bestEye := if better then eye else l.bestEye
    if l.sweep < 15 then s.portMap p (fun l => { l with sweep := l.sweep + 1, best := best, bestEye := bestEye })
    else
      (s.portMap p (fun l => { l with sweepDone := true, best := best, bestEye := bestEye
                                      shCtle := best, shTaps := [0, 0, 0, 0, 0], steady := 0 })).load
        [(LN_EQ2_CTLE p, best), (LN_EQ2_EYE p, bestEye)]

def execAcquireSettingTimer (port eye : Nat) (s : State) : Host.Outcome State Fault Refusal :=
  finish (s.sweepStep port eye)

/-- No setting has yielded comma alignment within 1 ms. -/
def execAcquireTimeout (port : Nat) (s : State) : Host.Outcome State Fault Refusal :=
  finish (if s.get (LN_STATUS_LINK port) = linkAcquire then s.lineDown port else s)

/-- 64 consecutive valid /I/: UP, a line link change, and a HELLO (R64, R96). -/
def State.linkGoesUp (s : State) (p : Nat) : State :=
  if !(s.get (LN_STATUS_LINK p) == linkAcquire) || !s.receiverOn p then s
  else
    let s := s.load [(LN_STATUS_LINK p, linkUp), (LN_STATUS_CAL_LOCK p, 0)]
    let s := s.portMap p (fun l => { l with
      upAt := s.uptime, lockRecorded := false, helloSeen := false, steady := 0, codeErrs := [], sweepDone := true })
    (s.endChange p).sendHello p

def execLinkUp (port : Nat) (s : State) : Host.Outcome State Fault Refusal := finish (s.linkGoesUp port)

/-! ### Equalizer (R65, R76) -/

/-- The equalizer register words of a port. -/
def State.eqWord (s : State) (p : Nat) : Nat :=
  s.get (LN_EQ_TAP1 p) + 2 ^ 6 * s.get (LN_EQ_TAP2 p) + 2 ^ 12 * s.get (LN_EQ_TAP3 p)
    + 2 ^ 18 * s.get (LN_EQ_TAP4 p) + 2 ^ 24 * s.get (LN_EQ_TAP5 p)

/-- The applied set equals the shadow set. -/
def State.eqMatches (s : State) (p : Nat) : Bool :=
  s.get (LN_EQ2_CTLE p) == (s.port p).shCtle && s.taps p == (s.port p).shTaps

/-- CAL_LOCK is set once the equalizer has converged, with a CAL_LOCK record at the first lock after UP (R65,
Table 3.10). -/
def State.checkLock (s : State) (p : Nat) : State :=
  if !s.lineUp p || s.flag (LN_STATUS_CAL_LOCK p) || !s.eqMatches p || decide ((s.port p).steady < 1024) then s
  else
    let l := s.port p
    let s := s.set (LN_STATUS_CAL_LOCK p) 1
    if l.lockRecorded then s
    else
      let s := s.portMap p (fun l => { l with lockRecorded := true })
      s.record (lnBase p) 0x3003 (le 4 (s.eqWord p) ++ le 1 (s.get (LN_EQ2_CTLE p)) ++ le 1 (s.get (LN_EQ2_EYE p))
        ++ zeros 2 ++ le 4 ((s.uptime - l.upAt) / 1000))

/-- One step of at most 1 from a toward b. -/
def stepToward (a b : Int) : Int := if a < b then a + 1 else if b < a then a - 1 else a

/-- The applied set moves toward the shadow set by at most one CTLE step and one LSB per tap (R76). -/
def State.eqStep (s : State) (p : Nat) : State :=
  if !s.lineUp p then s
  else
    let l := s.port p
    let ctle := stepToward (s.get (LN_EQ2_CTLE p)) l.shCtle
    let taps := (List.range 5).map (fun i => stepToward ((s.taps p).getD i 0) (l.shTaps.getD i 0))
    ((s.set (LN_EQ2_CTLE p) ctle.toNat).setTaps p taps).checkLock p

/-- A tap that moved by more than one step. -/
def moved (a b : List Int) : Bool :=
  (List.range 5).any (fun i => decide (1 < absInt (a.getD i 0 - b.getD i 0)))

/-- The adaptation updates the shadow set (R76). -/
def State.shadowUpdate (s : State) (p ctle : Nat) (taps : List Int) (eye : Nat) : State :=
  if !s.lineUp p then s
  else
    let l := s.port p
    let taps := (List.range 5).map (fun i => signed 6 (satInt 6 (taps.getD i 0)))
    let ctle := Nat.min 15 ctle
    let jump := moved taps l.shTaps || decide (1 < absInt ((ctle : Int) - l.shCtle))
    let s := s.portMap p (fun l => { l with
      shCtle := ctle, shTaps := taps, steady := if jump then 0 else Nat.min 1024 (l.steady + 1) })
    (s.set (LN_EQ2_EYE p) eye).checkLock p

def execShadowUpdate (port ctle : Nat) (taps : List Int) (eye : Nat) (s : State) : Host.Outcome State Fault Refusal :=
  finish (if port < 4 then s.shadowUpdate port ctle taps eye else s)

/-- Before CAL_LOCK, every 125 µs of uptime. -/
def execPrelockEqStep (port : Nat) (s : State) : Host.Outcome State Fault Refusal :=
  finish (if port < 4 ∧ !s.flag (LN_STATUS_CAL_LOCK port) then s.eqStep port else s)

/-- A receive-path change that waited is applied (R86). -/
def execDeferredRxChange (port : Nat) (s : State) : Host.Outcome State Fault Refusal :=
  finish (if port < 4 ∧ (s.port port).deferred then
    (s.portMap port (fun l => { l with deferred := false })).eqStep port else s)

/-! ### Pair faults (R71–R75, R83) -/

/-- The sticky bit of LN_FAULT for a condition, by its bit number. -/
def lnFaultField (cond p : Nat) : Field :=
  match cond with
  | 1 => LN_FAULT_SHORT_PAIR p
  | 2 => LN_FAULT_SHORT_SHIELD p
  | 3 => LN_FAULT_OPEN p
  | 4 => LN_FAULT_POLARITY p
  | 5 => LN_FAULT_PAIR_SWAP p
  | 6 => LN_FAULT_COMMON_MODE p
  | 7 => LN_FAULT_DEG_CTLE p
  | 8 => LN_FAULT_DEG_EYE p
  | 9 => LN_FAULT_DEG_DRIFT p
  | 10 => LN_FAULT_DEG_ECHO p
  | _ => LN_FAULT_CAL_TIMEOUT p

/-- The source of a condition, and the conditions that share it (Table 3.7, R65). -/
def lineSource (cond : Nat) : Nat :=
  match cond with
  | 1 | 2 => 29
  | 3 => 30
  | 4 => 31
  | 5 => 32
  | 6 => 33
  | _ => 34

/-- A condition of the same source is live on any port. -/
def State.lineLive (s : State) (source : Nat) : Bool :=
  linePorts.any (fun p => [1, 2, 3, 4, 5, 6, 7, 8, 9, 10, 11].any (fun c =>
    lineSource c == source && hasBit (s.port p).live c))

/-- The LINE_FAULT record, at most one per port and condition per 10 ms (R75, Table 17.5). -/
def State.lineRecord (s : State) (p cond : Nat) (cleared : Bool) (dist : Nat) (rho : Int) : State :=
  match s.rateCheck 3 p cond tenMs with
  | (true, sup, s) => s.record (lnBase p) 0x3001 (le 1 cond ++ le 1 (b2n cleared) ++ le 2 dist
      ++ le 1 (wrapInt 8 rho) ++ [0#8] ++ le 2 sup)
  | (false, _, s) => s

/-- A condition is detected on a port: sticky bit, error line, record. -/
def State.lineDetect (s : State) (p cond dist : Nat) (rho : Int) : State :=
  let was := hasBit (s.port p).live cond
  let s := s.set (lnFaultField cond p) 1
  let s := s.portMap p (fun l => { l with live := setBitOf l.live cond })
  let s := s.assertLine (lineSource cond)
  if was then s else s.lineRecord p cond false dist rho

/-- Distance and ρ as LN_ECHO shows them. -/
def State.echoDist (s : State) (p : Nat) : Nat := s.get (LN_ECHO_DIST p)
def State.echoRho (s : State) (p : Nat) : Int := signed 8 (s.get (LN_ECHO_RHO p))

/-- A condition has been absent for 100 ms. -/
def State.lineClear (s : State) (p cond : Nat) : State :=
  if !hasBit (s.port p).live cond then s
  else
    let s := s.portMap p (fun l => { l with live := clearBitOf l.live cond })
    let s := s.line (lineSource cond) (s.lineLive (lineSource cond))
    s.lineRecord p cond true (s.echoDist p) (s.echoRho p)

def execPairFaultClear (port condition : Nat) (s : State) : Host.Outcome State Fault Refusal :=
  finish (if port < 4 ∧ 1 ≤ condition ∧ condition ≤ 11 then s.lineClear port condition else s)

/-- A link that a pair fault takes DOWN. -/
def State.downIfUp (s : State) (p : Nat) : State :=
  if s.get (LN_STATUS_LINK p) = linkDown then s else s.lineDown p

/-- ρ of 0.6 in units of 1/128, rounded inward. -/
abbrev rhoSix : Int := 77

/-- A short on the TX pair: wire to wire by the echo (ρ ≤ −0.6), wire to shield by the common mode. -/
def State.pairShort (s : State) (p : Nat) (shield : Bool) (dist : Nat) (rho : Int) : State :=
  if !s.transmitterOn p || (!shield && decide (-rhoSix < rho)) then s
  else
    let s := s.portMap p (fun l => { l with echo := some (dist, rho) })
    (s.lineDetect p (if shield then 2 else 1) dist rho).downIfUp p

def execPairShortDetect (port : Nat) (shield : Bool) (dist : Nat) (rho : Int) (s : State) :
    Host.Outcome State Fault Refusal := finish (s.pairShort port shield dist rho)

/-- COUPLE_SENSE of an end shows coupled, debounced. -/
def State.coupled (s : State) (e : Nat) : Bool :=
  if e = 1 then s.flag INA_SENSE_CS1_DEB else s.flag INA_SENSE_CS2_DEB

/-- A distance lies at COUPLER_DIST ± 1 m, or nearer than that, in units of 0.1 m. -/
def State.atCoupler (s : State) (p dist : Nat) : Bool :=
  let c := 10 * s.get (LN_CFG_COUPLER_DIST p)
  decide (c ≤ dist + 10 ∧ dist ≤ c + 10)
def State.beforeCoupler (s : State) (p dist : Nat) : Bool :=
  decide (dist + 10 < 10 * s.get (LN_CFG_COUPLER_DIST p))

/-- An open on the TX pair, or the normal state of an uncoupled end (R71, R72). -/
def State.pairOpen (s : State) (p dist : Nat) (rho : Int) : State :=
  if !s.transmitterOn p || decide (rho < rhoSix) then s
  else
    let s := s.portMap p (fun l => { l with echo := some (dist, rho) })
    if s.beforeCoupler p dist || (s.atCoupler p dist && s.coupled (portEnd p)) then
      (s.lineDetect p 3 dist rho).downIfUp p
    else if s.atCoupler p dist then s.set (LN_ECHO_CLASS p) 4
    else s

def execPairOpenDetect (port dist : Nat) (rho : Int) (s : State) : Host.Outcome State Fault Refusal :=
  finish (s.pairOpen port dist rho)

/-- Foreign commas on the own TX pair: not corrected, the port keeps transmitting. -/
def execPairSwapDetect (port : Nat) (s : State) : Host.Outcome State Fault Refusal :=
  finish (if s.transmitterOn port then s.lineDetect port 5 (s.echoDist port) (s.echoRho port) else s)

/-- A common-mode excursion; `vcm` in units of 10 mV. -/
def State.commonMode (s : State) (p : Nat) (vcm : Int) : State :=
  let s := s.set (LN_CM_VCM p) (satInt 16 vcm)
  let s := if s.get (LN_CM_PEAK p) < absInt vcm then s.set (LN_CM_PEAK p) (satNat 16 (absInt vcm)) else s
  if absInt vcm < 4500 then s else s.lineDetect p 6 (s.echoDist p) (s.echoRho p)

def execCommonModeDetect (port : Nat) (vcm : Int) (s : State) : Host.Outcome State Fault Refusal :=
  finish (if port < 4 then s.commonMode port vcm else s)

/-- 16 consecutive inverted /I/ in ACQUIRE, or an inverted start delimiter on a G-line port: the receive
polarity is inverted (R73, R74). A polarity inverted against the pins is the fault of Table 3.7. -/
def State.polarity (s : State) (p : Nat) : State :=
  if s.get (LN_STATUS_LINK p) = linkAcquire ∨ (!s.nelmin p ∧ s.get (LN_TRX_STATE p) = trxNormal) then
    let inv := !s.flag (LN_STATUS_RX_INV p)
    let s := s.setB (LN_STATUS_RX_INV p) inv
    if inv then s.lineDetect p 4 (s.echoDist p) (s.echoRho p) else s
  else s

def execRxPolarityDetect (port : Nat) (s : State) : Host.Outcome State Fault Refusal :=
  finish (if port < 4 then s.polarity port else s)

/-- CAL_LOCK is not set 5 ms after UP (R65). -/
def execCalTimeout (port : Nat) (s : State) : Host.Outcome State Fault Refusal :=
  finish (if port < 4 ∧ s.lineUp port ∧ !s.flag (LN_STATUS_CAL_LOCK port) then
    s.lineDetect port 11 (s.echoDist port) (s.echoRho port) else s)

/-- The echo locator holds the result of a scan for the next epoch (R82). -/
def State.echoScan (s : State) (p dist : Nat) (rho : Int) : State :=
  if !s.transmitterOn p || !s.nelmin p then s
  else (s.portMap p (fun l => { l with echo := some (dist, rho) })).wrapUp (LN_ECHO_SCANS p)

def execEchoScanDone (port dist : Nat) (rho : Int) (s : State) : Host.Outcome State Fault Refusal :=
  finish (s.echoScan port dist rho)

/-! ### Keep-alive (R69, R89) -/

/-- A keep-alive pulse; a transceiver in fail-safe SLEEP returns to its state of Table 3.6. -/
def State.keepalive (s : State) (p : Nat) : State :=
  if s.glb.held || (s.mode == modeSleep && s.slp.entered) || s.flag (LN_TRX_KA_TEST p) then s
  else (s.emit (.keepAlive p)).portMap p (fun l => { l with failSafe := false })

def execKeepalivePulse (port : Nat) (s : State) : Host.Outcome State Fault Refusal :=
  finish (if port < 4 then s.keepalive port else s)

/-- No keep-alive for 1.0 s: fail-safe SLEEP. -/
def execKeepaliveTimeout (port : Nat) (s : State) : Host.Outcome State Fault Refusal :=
  finish (if port < 4 ∧ s.mode ≠ modeSleep then
    (s.portMap port (fun l => { l with failSafe := true })).set (LN_TRX_FS_SLEEP port) 1 else s)

/-- At 2 ms KA_TEST ends; FS_SLEEP shows whether the transceiver reached SLEEP. -/
def State.kaTestEnd (s : State) (p : Nat) (reached : Bool) : State :=
  if !s.flag (LN_TRX_KA_TEST p) then s
  else
    let s := s.set (LN_TRX_KA_TEST p) 0
    let s := if reached then s.set (LN_TRX_FS_SLEEP p) 1 else s
    (s.portMap p (fun l => { l with failSafe := false })).emit (.keepAlive p)

def execKaTestEnd (port : Nat) (reachedSleep : Bool) (s : State) : Host.Outcome State Fault Refusal :=
  finish (if port < 4 then s.kaTestEnd port reachedSleep else s)

/-! ### Hop delay (R78–R81) -/

/-- CRC-8 of Table 3.9. -/
def crc8 (l : Bytes) : Nat := crcMsb 8 0x07 0 l

/-- Bytes 0–7 of /H/ and /D/. -/
def hopReportBytes (h : HopReport) : Bytes := le 4 h.residence ++ le 2 h.topo ++ le 1 h.flags ++ le 1 h.reserved
def hopNoticeBytes (d : HopNotice) : Bytes := le 4 d.delay ++ le 2 d.topo ++ le 1 d.flags ++ le 1 d.samples

/-- /H/ and /D/ with their CRC-8. -/
def sealReport (h : HopReport) : HopReport := { h with crc := crc8 (hopReportBytes h), codeError := false }
def sealNotice (d : HopNotice) : HopNotice := { d with crc := crc8 (hopNoticeBytes d), codeError := false }

/-- A report or notice that the receiver discards (R80). -/
def State.hopBad (s : State) (crc topo : Nat) (codeError : Bool) (bytes : Bytes) : Bool :=
  codeError || !(crc % 256 == crc8 bytes) || !(topo == s.topo)

/-- The port faces away from the head in the topology in force. -/
def State.isDownstream (s : State) (p : Nat) : Bool :=
  decide (0 < s.position ∧ s.position < s.trainLen) && portEnd p == s.tailEnd
def State.isUpstream (s : State) (p : Nat) : Bool := decide (1 < s.position) && portEnd p == s.headEnd

/-- The average of samples, 2⁻¹⁶ ns, rounded down. -/
def average (l : List Int) : Int := fdiv (l.foldl (· + ·) 0) (Nat.max 1 l.length)

/-- A hop-delay sample in 2⁻¹⁶ ns from the four timestamps of a frame (R78). `residence` is the scaled
residence in 2⁻⁸ ns. -/
def State.hopSample (s : State) (p : Nat) (t1 t4 : Int) (residence : Nat) : Int :=
  fdiv (fdiv (s.tim.kNum * (t4 - t1)) s.tim.kDen - (residence : Int) * 256) 2 - (s.port p).asym * 64

/-- X takes an /H/ on its downstream port (R78, R79). -/
def State.takeReport (s : State) (p : Nat) (h : HopReport) : State :=
  if s.hopBad h.crc h.topo h.codeError (hopReportBytes h) then s.bump (LN_DELAY_STAT_DISCARDS p)
  else if !s.isDownstream p || !hasBit h.flags 0 || !s.flag (LN_STATUS_CAL_LOCK p) then s
  else
    let l := s.port p
    match l.t1, l.t4 with
    | some t1, some t4 =>
      let s := s.portMap p (fun l => { l with t1 := none, t4 := none })
      let d := s.hopSample p t1 t4 h.residence
      if s.flag (LN_DELAY_VALID p) && decide (2 * 65536 < absInt (d - average l.samples)) then
        s.bump (LN_DELAY_STAT_OUTLIERS p)
      else
        let samples := (d :: l.samples).take 16
        let avg := (fdiv (average samples) 64).toNat
        s.portMap p (fun l => { l with samples := samples, ready := some (avg, samples.length == 16, samples.length) })
    | _, _ => s

def execHopReportReceive (port : Nat) (report : HopReport) (s : State) : Host.Outcome State Fault Refusal :=
  finish (if s.receiverOn port && s.lineUp port then s.takeReport port report else s)

/-- Y takes a /D/ on its upstream port; the value is applied at the next epoch (R79, R85). -/
def State.takeNotice (s : State) (p : Nat) (d : HopNotice) : State :=
  if s.hopBad d.crc d.topo d.codeError (hopNoticeBytes d) then s.bump (LN_DELAY_STAT_DISCARDS p)
  else if !s.isUpstream p then s
  else s.portMap p (fun l => { l with ready := some (d.delay % 2 ^ 20, hasBit d.flags 0, d.samples) })

def execHopNoticeReceive (port : Nat) (notice : HopNotice) (s : State) : Host.Outcome State Fault Refusal :=
  finish (if s.receiverOn port && s.lineUp port then s.takeNotice port notice else s)

/-! ### What an epoch applies (R83–R86) -/

/-- A ready average goes into LN_DELAY; the first valid one after power-on loads the base (R79, R84). -/
def State.applyDelay (s : State) (p : Nat) : State :=
  match (s.port p).ready with
  | none => s
  | some (d, valid, n) =>
    let s := s.load [(LN_DELAY_DELAY p, d), (LN_DELAY_VALID p, b2n valid), (LN_DELAY_SAMPLES p, Nat.min 16 n),
      (LN_DELAY_SRC p, b2n (s.isUpstream p))]
    let first := valid && !(s.port p).baseLoaded
    let s := if first then s.set (LN_DELAY_BASE_BASE p) d else s
    s.portMap p (fun l => { l with ready := none, held := true, baseLoaded := l.baseLoaded || first, leftUp := l.leftUp && !valid })

/-- DEG_RHO within 0.05 to 0.55, in units of 1/128. -/
def State.degRho (s : State) (p : Nat) : Nat := clamp 7 70 (s.get (LN_DEG_CFG_DEG_RHO p))

/-- Class of an echo result (LN_ECHO.CLASS). -/
def State.echoClass (s : State) (p dist : Nat) (rho : Int) : Nat :=
  if hasBit (s.port p).live 2 then 5
  else if rho ≤ -rhoSix then 3
  else if rhoSix ≤ rho then
    (if s.atCoupler p dist && !s.coupled (portEnd p) then 4 else 2)
  else if s.degRho p ≤ absInt rho && !s.atCoupler p dist then 1
  else 0

/-- A held echo result goes into LN_ECHO. -/
def State.applyEcho (s : State) (p : Nat) : State :=
  match (s.port p).echo with
  | none => s
  | some (dist, rho) =>
    (s.load [(LN_ECHO_DIST p, Nat.min 0xFFF dist), (LN_ECHO_RHO p, satInt 8 rho), (LN_ECHO_CLASS p, s.echoClass p dist rho)]).portMap
      p (fun l => { l with echo := none })

/-- Payload of a CABLE_DEGRADED record: equalizer set, LN_DELAY, LN_DELAY_BASE, LN_ECHO (R83, R426). -/
def State.degradedPayload (s : State) (p : Nat) : Bytes :=
  le 4 (s.eqWord p) ++ le 4 (s.get (LN_EQ2_CTLE p) + 256 * s.get (LN_EQ2_EYE p))
    ++ le 4 (s.get (LN_DELAY_DELAY p) + 2 ^ 24 * s.get (LN_DELAY_SAMPLES p) + 2 ^ 30 * s.get (LN_DELAY_SRC p)
        + 2 ^ 31 * s.get (LN_DELAY_VALID p))
    ++ le 4 (s.get (LN_DELAY_BASE_BASE p))
    ++ le 8 (s.get (LN_ECHO_DIST p) + 2 ^ 16 * s.get (LN_ECHO_RHO p) + 2 ^ 24 * s.get (LN_ECHO_CLASS p)
        + 2 ^ 32 * s.get (LN_ECHO_SCANS p))

/-- The thresholds of Table 3.8: condition number and whether it is crossed. -/
def State.degradations (s : State) (p : Nat) : List (Nat × Bool) :=
  let drift := absInt ((s.get (LN_DELAY_DELAY p) : Int) - s.get (LN_DELAY_BASE_BASE p))
  let limit := 256 * Nat.max 1 (s.get (LN_DEG_CFG_DRIFT p))
  let dist := s.echoDist p
  [(7, decide (s.get (LN_DEG_CFG_CTLE_MAX p) ≤ s.get (LN_EQ2_CTLE p))),
    (8, decide (s.get (LN_EQ2_EYE p) < s.get (LN_DEG_CFG_EYE_MIN p))),
    (9, (s.port p).held && (s.port p).baseLoaded && decide (limit < drift)),
    (10, decide (s.degRho p ≤ absInt (s.echoRho p)) && decide (10 < dist) && !s.atCoupler p dist)]

/-- A threshold crossed is reported, with a CABLE_DEGRADED record when it is newly crossed (R83). -/
def State.degradeOne (p : Nat) (s : State) (c : Nat × Bool) : State :=
  if !c.2 then s
  else
    let was := hasBit (s.port p).live c.1
    let s := s.lineDetect p c.1 (s.echoDist p) (s.echoRho p)
    if was then s else s.record (lnBase p) 0x3004 (s.degradedPayload p)

/-- The degradation checks of a port that is UP (R83). -/
def State.degradeCheck (s : State) (p : Nat) : State :=
  if s.lineUp p then (s.degradations p).foldl (State.degradeOne p) s else s

/-- Everything an epoch applies at one port; a receive-path change of a port that is receiving a frame waits
(R85, R86). -/
def State.epochPort (receiving : Nat) (s : State) (p : Nat) : State :=
  let s := if hasBit receiving p && s.lineUp p then s.portMap p (fun l => { l with deferred := true }) else s.eqStep p
  let s := s.applyDelay p
  let s := s.portMap p (fun l => { l with asym := signed 16 (s.get (LN_ASYM_ASYM p)) })
  (s.applyEcho p).degradeCheck p

/-- The calibration results of an epoch at all four ports (R85). -/
def State.epochPorts (s : State) (receiving : Nat) : State := linePorts.foldl (State.epochPort receiving) s

/-! ### LN commands (R89) -/

/-- BOOT in the sub-state TEST. -/
def State.inTest (s : State) : Bool := s.inBoot subTest

/-- RECALIBRATE: the link goes to DOWN, and to ACQUIRE with the signal present; equalizer reset. -/
def State.recalibrate (s : State) (p : Nat) : State :=
  let s := s.downIfUp p
  let s := (s.set (LN_EQ2_CTLE p) 8).setTaps p [0, 0, 0, 0, 0]
  let s := s.portMap p (fun l => { l with shCtle := 8, shTaps := [0, 0, 0, 0, 0], steady := 0 })
  if s.receiverOn p && s.flag (LN_STATUS_SIG_DET p) then s.enterAcquire p else s

def cmdRecalibrate (p : Nat) : CmdSpec :=
  { base := lnBase p, code := 1, accepted := fun s => s.inModes [modeNative, modeBorder, modeStandby, modeSafe]
    run := fun _ s => s.recalibrate p }

def cmdSetDelayBase (p : Nat) : CmdSpec :=
  { base := lnBase p, code := 2, accepted := fun s => s.inModes [modeNative, modeBorder, modeStandby]
    cond := fun s _ => if s.flag (LN_DELAY_VALID p) then .ok else .badArg
    run := fun _ s => (s.set (LN_DELAY_BASE_BASE p) (s.get (LN_DELAY_DELAY p))).portMap p
      (fun l => { l with baseLoaded := true }) }

def cmdEchoReset (p : Nat) : CmdSpec :=
  { base := lnBase p, code := 3, accepted := fun s => s.inModes [modeNative, modeBorder, modeStandby, modeSafe]
    run := fun _ s => (s.load [(LN_ECHO_CLASS p, 0), (LN_ECHO_RHO p, 0), (LN_ECHO_DIST p, 0)]).portMap p
      (fun l => { l with echo := none }) }

def cmdKaTest (p : Nat) : CmdSpec :=
  { base := lnBase p, code := 4, accepted := fun s => s.inTest || s.mode == modeSafe
    run := fun _ s => s.set (LN_TRX_KA_TEST p) 1 }

def execRecalibrate (path : Path) (port arg : Nat) (s : State) : Host.Outcome State Fault Refusal :=
  finish (s.command (cmdRecalibrate (port % 4)) path arg)

def execSetDelayBase (path : Path) (port arg : Nat) (s : State) : Host.Outcome State Fault Refusal :=
  finish (s.command (cmdSetDelayBase (port % 4)) path arg)

def execEchoReset (path : Path) (port arg : Nat) (s : State) : Host.Outcome State Fault Refusal :=
  finish (s.command (cmdEchoReset (port % 4)) path arg)

def execKaTest (path : Path) (port arg : Nat) (s : State) : Host.Outcome State Fault Refusal :=
  finish (s.command (cmdKaTest (port % 4)) path arg)

end Sys2Proof.Machine
end

