-- ==== Sys2Proof/Machine/TimOps.lean ====
section
/-! DEFINITION. The train time unit as every block uses it: correction, rate ratio, jumps, servo states and
samples (R162–R174). Times are in 2⁻¹⁶ ns. -/

namespace Sys2Proof.Machine

open Reg

/-- Servo states (TIM_STATUS.STATE). -/
abbrev timFree : Nat := 0
abbrev timAcquire : Nat := 1
abbrev timLocked : Nat := 2
abbrev timHoldover : Nat := 3
abbrev timMaster : Nat := 4

/-- The servo state. -/
def State.timState (s : State) : Nat := s.get TIM_STATUS_STATE

/-- The state with the train time unit's hidden state changed. -/
def State.timMap (s : State) (f : TimState → TimState) : State := { s with tim := f s.tim }

/-- k − 1 in units of 2⁻³², rounded down (TIM_RATE). -/
def rateOf (t : TimState) : Nat := satInt 32 (fdiv ((t.kNum - t.kDen) * 2 ^ 32) t.kDen)

/-- An interval of local uptime scaled by k (R166). -/
def State.scaled (s : State) (d : Int) : Int := fdiv (s.tim.kNum * d) s.tim.kDen

/-- No upstream hop of the node is unmeasured (R170, R174). -/
def State.hopsMeasured (s : State) : Bool :=
  linePorts.all (fun p => !(s.isUpstream p && s.nelmin p && s.lineUp p) || (s.port p).held)

/-- IN_SPEC and the registers that show k (R169, R174). -/
def State.showTime (s : State) : State :=
  let st := s.timState
  s.load [(TIM_RATE_K_M1, rateOf s.tim),
    (TIM_STATUS_RATE_VALID, b2n (st == timMaster || decide (2 ≤ s.tim.histA.length) || decide (2 ≤ s.tim.histB.length))),
    (TIM_STATUS_IN_SPEC, b2n ((st == timLocked || st == timMaster) && decide (16 ≤ s.tim.epochs)
      && (st == timMaster || s.hopsMeasured)))]

/-- The correction point moves to uptime u without changing train time there; a slew in progress goes on with
what is left of it. -/
def rebase (t : TimState) (u : Int) : TimState :=
  let done := slewAt t u
  let left := t.slewFrom + (t.slewLen : Int) - u
  { t with
    tt0 := ttAt t u, u0 := u, slew := t.slew - done, slewFrom := u
    slewLen := if 0 < left then left.toNat else 0 }
  |> fun t => if t.slewLen = 0 then { t with slew := 0 } else t

/-- Payload of a TIME_STEP record (R426). -/
def stepPayload (old new : Int) (cause : Nat) : Bytes := ttBytes old ++ ttBytes new ++ le 1 cause

/-- Causes of a jump (R173). -/
abbrev causeCommand : Nat := 0
abbrev causeFollow : Nat := 1
abbrev causeAcquire : Nat := 2
abbrev causePpsIn : Nat := 3

/-- 1 µs. -/
abbrev microsecond : Int := 65536000

/-- A jump: train time becomes v at uptime u. One of 1 µs or more is recorded, with the old time in TIME; a
STEP always is (R173, R180). -/
def State.timJump (s : State) (v u : Int) (cause : Nat) (mayRecord : Bool) : State :=
  let t := { s.tim with tt0 := v, u0 := u, slew := 0, slewLen := 0 }
  let old := s.trainTime
  let new := ttAt t s.uptimeFine
  let s := if cause = causeCommand ∨ (mayRecord ∧ microsecond ≤ absInt (new - old)) then
      s.record 0x5000 0x2004 (stepPayload old new cause)
    else s
  ({ s with tim := t }.bump TIM_STAT_JUMPS).set TIM_EVENT_JUMP 1

/-- A change of servo state; entries into LOCKED and HOLDOVER are recorded (R171, R173, R175). -/
def State.setTimState (s : State) (st : Nat) : State :=
  let old := s.timState
  if st = old then s
  else
    let s := s.set TIM_STATUS_STATE st
    let s := if old = timHoldover then (s.set TIM_STATUS_HOLD_OK 0).dropLine 40 else s
    let s := if st = timAcquire then s.timMap (fun t => { t with
        histA := [], histB := [], goodSamples := 0, firstJump := true }) else s
    let s := if st = timLocked then s.set TIM_EVENT_LOCK 1 else s
    let s := if st = timHoldover then
        ((s.timMap (fun t => { rebase t s.uptimeFine with holdFrom := s.uptime })).bump TIM_STAT_HOLDOVERS).load
          [(TIM_EVENT_HOLDOVER, 1), (TIM_STATUS_HOLD_OK, 1)] else s
    let s := s.showTime
    if st = timLocked ∨ st = timHoldover then
      s.record 0x5000 0x2005 (le 1 st ++ le 1 old ++ zeros 2 ++ le 4 (s.get TIM_OFFSET_E) ++ le 4 (s.get TIM_RATE_K_M1))
    else s

/-- State FREE: k is 1 (Table 6.1, R182). -/
def State.freeRun (s : State) : State :=
  (s.timMap (fun t => { rebase t s.uptimeFine with kNum := 1, kDen := 1, slew := 0, slewLen := 0 })).setTimState 0

/-! ### Samples (R167, R169–R171) -/

/-- Delay of the upstream hop of a port: LN_DELAY while it holds a value, the configured estimate otherwise
(R170). -/
def State.hopDelay (s : State) (p : Nat) : Int :=
  if (s.port p).held then (s.get (LN_DELAY_DELAY p) : Int) * 64
  else (Nat.min 500 (s.get TIM_CFG_HOP_EST) : Int) * nsUnit

/-- The rate ratio from the samples of a line (R169): newest against the oldest of the last 17. -/
def rateFrom (h : List (Int × Int)) : Option (Int × Nat) :=
  match h.head?, (h.take 17).getLast? with
  | some (s1, u1), some (s0, u0) => if u0 < u1 then some (s1 - s0, (u1 - u0).toNat) else none
  | _, _ => none

/-- The rate ratio is re-formed from a line's history, train time at u going on. -/
def State.reformRate (s : State) (h : List (Int × Int)) : State :=
  match rateFrom h with
  | some (n, d) => s.timMap (fun t => { rebase t s.uptimeFine with kNum := n, kDen := d })
  | none => s

/-- The present basic cycle (R122): the head and a node alone take their own BC_N, the others the header's. -/
def State.bcN (s : State) : Nat :=
  if s.isHead || s.get INA_STATUS_ROLE == roleNone then s.get CYC_CFG_BC_N else s.get CYC_STATUS_BC_IN_USE
def State.basicCycle (s : State) : Int := 125 * microsecond * (s.bcN + 1)

/-- A sample S of head time at uptime rx is applied at an epoch: a jump, or a slew over the next basic cycle, as
the servo state has it (Table 6.1). -/
def State.applySample (s : State) (sv rx : Int) (tv : Bool) (lineB : Bool) : State :=
  let e := sv - ttAt s.tim rx
  let first := s.timState == timFree || s.timState == timHoldover || (s.timState == timAcquire && s.tim.firstJump)
  let s := s.load [(TIM_OFFSET_E, satInt 32 (fdiv e 256)), (TIM_STATUS_TIME_VALID, b2n tv),
    (TIM_STATUS_SRC_LINE, b2n lineB)]
  let s := s.timMap (fun t => { t with everUsable := true })
  let note := fun (s : State) => s.timMap (fun t =>
    if lineB then { t with histB := ((sv, rx) :: t.histB).take 17 } else { t with histA := ((sv, rx) :: t.histA).take 17 })
  if first then
    let s := note (s.setTimState timAcquire)
    (s.timJump sv rx causeAcquire tv).timMap (fun t => { t with firstJump := false, goodSamples := 0 })
  else
    let s := note s
    let s := s.reformRate (if lineB then s.tim.histB else s.tim.histA)
    if microsecond ≤ absInt e then
      (s.timJump sv rx causeFollow true).timMap (fun t => { t with goodSamples := 0 })
    else
      let good := if absInt e < 6553600 then s.tim.goodSamples + 1 else 0
      let s := s.timMap (fun t => { rebase t s.uptimeFine with
        goodSamples := Nat.min 4 good, slew := e, slewFrom := s.uptimeFine, slewLen := s.basicCycle.toNat })
      if s.timState == timAcquire && decide (4 ≤ good) then s.setTimState timLocked else s

/-- 20 ns. -/
abbrev lineDiffLimit : Int := 1310720

/-- The samples of the present frame are applied: line A's where usable, line B's otherwise; both lines are
compared (R167, R168). -/
def State.timEpoch (s : State) : State :=
  let a := s.tim.sampleA
  let b := s.tim.sampleB
  let s := s.timMap (fun t => { t with sampleA := none, sampleB := none, epochs := Nat.min 16 (t.epochs + 1) })
  let s := if s.timState == timMaster then s
    else match a, b with
    | some (sa, ra, tv), some (sb, rb, _) =>
      let diff := decide (lineDiffLimit < absInt ((sa - ttAt s.tim ra) - (sb - ttAt s.tim rb)))
      let s := (s.setB TIM_STATUS_LINE_DIFF diff).line 42 diff
      let s := if diff then s.set TIM_EVENT_LINE_DIFF 1 else s
      let s := s.applySample sa ra tv false
      s.timMap (fun t => { t with histB := ((sb, rb) :: t.histB).take 17 })
    | some (sa, ra, tv), none => s.applySample sa ra tv false
    | none, some (sb, rb, tv) => s.applySample sb rb tv true
    | none, none => s
  s.showTime

/-- What a commit does to the servo: a new head takes MASTER with its k frozen, a head that stops being one
goes back to LOCKED or ACQUIRE (R172). A standby never takes MASTER (R182). -/
def State.timCommit (s : State) : State :=
  let s := s.timMap (fun t => { t with epochs := 0 })
  if s.isHead && !(s.mode == modeStandby) then
    if s.timState = timMaster then s.showTime
    else (s.timMap (fun t => { t with masterFromLocked := s.timState == timLocked })).setTimState timMaster
  else if s.timState = timMaster then
    if s.tim.masterFromLocked then s.setTimState timLocked
    else if s.tim.everUsable then s.setTimState timAcquire
    else s.freeRun
  else s.showTime

end Sys2Proof.Machine
end

