-- ==== Sys2Proof/Machine/InaOps.lean ====
section
/-! DEFINITION. Triggers of inauguration, as every block raises them, and the end of a run without a commit
(R95, R97, R107, R109). -/

namespace Sys2Proof.Machine

open Reg

/-- Inauguration states (INA_STATUS.STATE). -/
abbrev inaIdle : Nat := 0
abbrev inaSettle : Nat := 1
abbrev inaRelay : Nat := 2
abbrev inaCand : Nat := 3
abbrev inaHeadWait : Nat := 4
abbrev inaTailWait : Nat := 5

/-- The state of the inauguration unit. -/
def State.inaState (s : State) : Nat := s.get INA_STATUS_STATE

/-- A run is in progress at the node, before its COMMIT. -/
def State.inRun (s : State) : Bool := decide (inaRelay ≤ s.inaState) && !s.ina.committed

/-- The run in progress is given up; a restart with ATTEMPT + 1 waits. The fourth in a row sets FAILED (R107,
R109). -/
def State.abandonRun (s : State) : State :=
  let n := s.ina.restarts + 1
  let a := (s.ina.attempt + 1) % 256
  let s := s.inaMap (fun i => { i with attempt := a, restartWait := true, restarts := n, mark := false, best := none, ret := none })
  let s := (s.bump INA_STAT_RESTARTS).load [(INA_STATUS_STATE, inaSettle), (INA_EVENT_RESTART, 1)]
  if n < 4 ∨ s.flag INA_STATUS_FAILED then s
  else (s.load [(INA_STATUS_FAILED, 1), (INA_EVENT_FAILED, 1)]).assertLine 35

/-- A trigger is recognized (Table 4.1): it starts SETTLE, or extends it, is absorbed by the run in progress, or
makes the run restart (R97, R107). While FAILED is set it starts no earlier attempt (R109). -/
def State.inaTrigger (s : State) : State :=
  if !s.inaRuns then s
  else if s.inRun then (if s.ina.mark then s.abandonRun else s)
  else if s.inaState = inaSettle then s
  else (s.set INA_STATUS_STATE inaSettle).inaMap (fun i => { i with
    firstTrigger := some s.uptime, restartWait := false, committed := false })

end Sys2Proof.Machine
end

