-- ==== Sys2Proof/Machine/CycOps.lean ====
section
/-! DEFINITION. The cycle-frame unit as every block uses it: cycle frames as bytes and their trailers, slot
maps, freshness, and what a commit does to them (R122–R148). -/

namespace Sys2Proof.Machine

open Reg

/-- The state with the cycle-frame unit's hidden state changed. -/
def State.cycMap (s : State) (f : CycState → CycState) : State := { s with cyc := f s.cyc }

/-! ### Frames as bytes (Table 5.1) -/

/-- Header bytes 0–29. -/
def cycHead (f : CycleFrame) : Bytes :=
  le 2 f.topo ++ le 4 f.cycle ++ le 1 f.flags ++ le 1 f.mapSeq ++ le 2 f.bcycle ++ le 2 f.slotLen
    ++ le 6 f.timeS ++ le 4 f.timeNs ++ le 8 (wrapInt 64 f.corr)

/-- HCRC (R126). -/
def cycHcrc (f : CycleFrame) : Nat := crcMsb 16 0x1021 0xFFFF (cycHead f)

/-- Header and slot region. -/
def cycBytes (f : CycleFrame) : Bytes := cycHead f ++ le 2 f.hcrc ++ f.slots

/-- The frame with its HCRC. -/
def cycSealHead (f : CycleFrame) : CycleFrame := { f with hcrc := cycHcrc f }

/-- FLAGS of a header: DIR, LINE, EPOCH, AUTH, TIME_VALID. -/
def cycDir (f : CycleFrame) : Bool := hasBit f.flags 0
def cycEpoch (f : CycleFrame) : Nat := bit f.flags 2
def cycAuth (f : CycleFrame) : Bool := hasBit f.flags 3
def cycTimeValid (f : CycleFrame) : Bool := hasBit f.flags 4

/-- The IV of a frame (R140): hash, counter, cycle, sender's position − 1, direction and line. -/
def cycIv (hash sender : Nat) (f : CycleFrame) : Bytes :=
  le 4 hash ++ le 2 f.topo ++ le 4 f.cycle ++ le 1 sender ++ le 1 (bits f.flags 0 2)

/-- Byte strings of n bytes, bit by bit exclusive-or. -/
def xorBytes (n : Nat) (a b : Bytes) : Bytes := (List.zipWith BitVec.xor (fit n a) (fit n b))

/-- The tag of a frame under a key and an IV (R140). -/
def cycTag (key : Nat) (iv : Bytes) (f : CycleFrame) : Bytes := fit 16 (Config.gmac key iv (cycBytes f))

/-- The frame key of the epoch that a frame names (R140, R450). -/
def State.frameKey (s : State) (f : CycleFrame) : Option Nat := s.keyFor (s.frameSlot (cycEpoch f)) purposeFrame

/-- The trailer of a frame that the head forms (R128, R141). The spec gives no tag without a usable key: free
(notes/assumptions/4.md). -/
def State.cycTrailer (s : State) (iv : Bytes) (f : CycleFrame) : Bytes × State :=
  if !cycAuth f then (le 4 (crc32 (cycBytes f)) ++ zeros 12, s)
  else match s.frameKey f with
    | some key => (cycTag key iv f, s)
    | none => let (v, s) := s.draw 128; (le 16 v, s)

/-- A frame's trailer verifies (R128, R140, R450). -/
def State.cycVerifies (s : State) (iv : Bytes) (f : CycleFrame) : Bool :=
  if !cycAuth f then f.trailer.take 4 == le 4 (crc32 (cycBytes f))
  else match s.frameKey f with
    | some key => f.trailer == cycTag key iv f
    | none => false

/-- The trailer of a changed copy: a frame received with a bad trailer leaves with a bad one (R141). For
AUTH = 0 the check code is carried over in the same way. -/
def State.cycRetag (s : State) (ivIn ivOut : Bytes) (rx tx : CycleFrame) : Bytes × State :=
  if !cycAuth rx then
    (xorBytes 16 rx.trailer (le 4 (Nat.xor (crc32 (cycBytes rx)) (crc32 (cycBytes tx))) ++ zeros 12), s)
  else match s.frameKey rx with
    | some key => (xorBytes 16 rx.trailer (xorBytes 16 (cycTag key ivIn rx) (cycTag key ivOut tx)), s)
    | none => let (v, s) := s.draw 128; (le 16 v, s)

/-! ### Slot maps (R127, R129–R133) -/

/-- The size of a position in a map, in 16-byte units. -/
def SlotMap.size (m : SlotMap) (q : Nat) : Nat := if q = 0 then 0 else m.sizes.getD (q - 1) 0

/-- The offset of a position's area in the slot region, bytes (R127). -/
def SlotMap.offset (m : SlotMap) (q : Nat) : Nat := 16 * (m.sizes.take (q - 1)).sum

/-- SLOT_LEN of a map, unit 16 B. -/
def SlotMap.len (m : SlotMap) : Nat := m.sizes.sum

/-- A position's area in a slot region laid out by a map. -/
def SlotMap.area (m : SlotMap) (q : Nat) (slots : Bytes) : Bytes := slice (m.offset q) (16 * m.size q) slots

/-- CYC_MAP shows the size of a position. -/
def mapField (q : Nat) : Field :=
  let w := (q - 1) / 4
  match (q - 1) % 4 with
  | 0 => CYC_MAP_SIZE0 w
  | 1 => CYC_MAP_SIZE1 w
  | 2 => CYC_MAP_SIZE2 w
  | _ => CYC_MAP_SIZE3 w

/-- The positions of a train of n. -/
def positions (n : Nat) : List Nat := (List.range n).map (· + 1)

/-- The freshness limit H (CYC_CFG). -/
def State.freshLimit (s : State) : Nat := Nat.max 1 (s.get CYC_CFG_H)

/-- The map in force gives position q no area that holds bytes up to `last` (R148). -/
def State.rangeMissing (s : State) (q last : Nat) : Bool :=
  s.cyc.map.size q == 0 || decide (16 * s.cyc.map.size q < last)

/-- A position is stale (R148). -/
def State.stale (s : State) (q : Nat) : Bool :=
  decide (0 < s.cyc.map.size q) && !s.inBlock q && decide (s.freshLimit ≤ tabGet 0 s.cyc.fresh q)

/-- A flow from a slot runs as stale: its position is stale, or has no area that holds its range (R148, R258). -/
def State.slotFlowStale (s : State) (f : Nat) : Bool :=
  let q := s.get (FCTX_RES_POS f)
  let (off, len) := slotRange (s.get (FCTX_SRC_SEL f))
  s.stale q || s.rangeMissing q (off + len)

/-- Flows from slots that the map or freshness makes stale become STALE (R258). -/
def State.markStaleFlows (s : State) : State :=
  s.flowsStale (fun f => s.get (FCTX_SRC_CH f) == chSlot && !(s.get (FCTX_RES_POS f) == 0) && s.slotFlowStale f) true

/-- CYC_STALE and CYC_EVENT.STALE follow one position. -/
def State.showStale (s : State) (q : Nat) : State :=
  let f := CYC_STALE_STALE ((q - 1) / 32)
  let was := s.bitAt f ((q - 1) % 32)
  let now := s.stale q
  if was = now then s
  else if now then (s.setBit f ((q - 1) % 32)).set CYC_EVENT_STALE 1
  else s.clearBit f ((q - 1) % 32)

/-- Every position's stale bit, and the flows bound to it. -/
def State.showStales (s : State) : State :=
  ((positions (Nat.max s.trainLen 1)).foldl State.showStale s).markStaleFlows

/-- Own size and offset, and the sizes of all positions, as the registers show them. -/
def State.showMap (s : State) (old : Nat) : State :=
  let m := s.cyc.map
  let p := s.position
  let s := (positions (Nat.max old m.sizes.length)).foldl (fun s q => s.set (mapField q) (m.size q)) s
  s.load [(CYC_SLOT_SIZE, m.size p), (CYC_SLOT_OFFSET, if m.size p = 0 then 0 else m.offset p),
    (CYC_STATUS_IN_MAP, b2n (decide (0 < m.size p)))]

/-- A map takes effect: positions that it newly gives an area start with F = 0 (R133, R148). -/
def State.useMap (s : State) (m : SlotMap) : State :=
  let old := s.cyc.map
  let fresh := s.cyc.fresh.filter (fun e => decide (0 < old.size e.1 ∧ 0 < m.size e.1))
  let s := s.cycMap (fun c => { c with map := m, fresh := fresh })
  ((s.showMap old.sizes.length).set CYC_EVENT_MAP_NEW 1).showStales

/-- a is at or after b as 32-bit serial numbers. -/
def cycleReached (a b : Nat) : Bool := decide (subMod 32 a b < 2 ^ 31)

/-- The map that a frame's MAP_SEQ names, where the node holds it (R131, R133). -/
def State.namedMap (s : State) (seq cycle : Nat) : Option SlotMap :=
  s.cyc.held.find? (fun m => m.seq == seq && (seq != 0 || cycleReached cycle m.eff))

/-- A map is held, newest first; one of the same MAP_SEQ other than 0 is replaced. -/
def State.holdMap (s : State) (m : SlotMap) : State :=
  s.cycMap (fun c => { c with held := (m :: c.held.filter (fun x => !(x.seq == m.seq) || m.seq == 0)).take 16 })

/-! ### Declarations (R130, R131) -/

/-- The head takes a declaration; one that differs from the latest map leads to a new map. -/
def State.takeDecl (s : State) (q size : Nat) : State :=
  let settled := s.cyc.issued || s.keptLen == s.trainLen
  s.cycMap (fun c => { c with
    decls := tabPut q size c.decls
    differs := c.differs || (settled && !(c.latest.size q == size)) })

/-- SIZE as the node sends it: values above 64 count as 64 (R153). -/
def State.ownSize (s : State) : Nat := Nat.min 64 (s.get CYC_CFG_SLOT_SIZE)

/-- Payload of SLOT_DECL (Table 5.6). -/
def State.declPayload (s : State) : Bytes :=
  le 2 s.position ++ le 1 s.ownSize ++ zeros 1 ++ le 8 s.trainUid

/-- The node declares its slot size to the head (R130); the head takes its own at once. -/
def State.sendDecl (s : State) : State :=
  let s := s.cycMap (fun c => { c with declDue := false })
  if s.isHead then s.takeDecl s.position s.ownSize
  else s.originate (controlFrame 3 0 s.declPayload) none

/-- Payload of SLOT_MAP. -/
def mapPayload (m : SlotMap) : Bytes :=
  le 1 m.seq ++ zeros 1 ++ le 2 m.sizes.length ++ le 4 m.eff ++ (m.sizes.map (le 1)).flatten

/-- The head sends a SLOT_MAP to every device (R131). -/
def State.sendMap (s : State) (m : SlotMap) : State := s.originate (controlFrame 4 groupAll (mapPayload m)) none

/-- EFF_CYCLE of a SLOT_MAP formed now (R133). -/
def State.mapEff (s : State) : Nat := (s.cyc.nextCycle + 8) % 2 ^ 32

/-- The latest map goes out again: as issued, or the interim map with MAP_SEQ 0 (R131). -/
def State.reissueMap (s : State) : State :=
  if s.cyc.issued then s.sendMap s.cyc.latest else s.sendMap { s.cyc.latest with eff := s.mapEff }

/-- Sizes assigned in ascending order until the slot region would pass 1,024 units; the rest get 0 (R132). -/
def assignSizes : Nat → List Nat → List Nat
  | _, [] => []
  | used, x :: t => if used + x ≤ 1024 then x :: assignSizes (used + x) t else 0 :: t.map (fun _ => 0)

/-- The first position that the assignment cuts, 0 without one. -/
def firstCut : Nat → Nat → List Nat → Nat
  | _, _, [] => 0
  | q, used, x :: t => if used + x ≤ 1024 then firstCut (q + 1) (used + x) t else q

/-- The sizes asked for: declarations, and for positions of the kept numbering what they had (R129, R131). -/
def State.askedSizes (s : State) : List Nat :=
  (positions s.trainLen).map (fun q => match tabFind q s.cyc.decls with
    | some x => x
    | none => if q ≤ s.keptLen then s.cyc.latest.size q else 0)

/-- The head issues a map (R131–R133). -/
def State.issueMap (s : State) : State :=
  let asked := s.askedSizes
  let seq := if s.cyc.latest.seq = 255 then 1 else s.cyc.latest.seq + 1
  let m : SlotMap := ⟨seq, s.mapEff, assignSizes 0 asked⟩
  let cut := firstCut 1 0 asked
  let s := s.cycMap (fun c => { c with latest := m, issued := true, differs := false })
  let s := (s.holdMap m).setB CYC_STATUS_MAP_TRUNC (decide (0 < cut))
  let s := if cut = 0 then s
    else (s.set CYC_EVENT_MAP_TRUNC 1).record 0xB000 0x2003 (le 1 seq ++ zeros 1 ++ le 2 cut ++ le 2 s.trainLen)
  let s := if m.size s.position = s.ownSize then s.cycMap (fun c => { c with declOpen := false }) else s
  s.sendMap m

/-- The end of a message window at the head: the first map, or a new one for a changed declaration (R131). -/
def State.mapAtWindowEnd (s : State) : State :=
  let s := s.cycMap (fun c => { c with windows := Nat.min 8 (c.windows + 1) })
  if !(s.get INA_STATUS_ROLE == roleHead) then s
  else if s.cyc.issued || s.keptLen == s.trainLen then (if s.cyc.differs then s.issueMap else s)
  else
    let all := (positions s.trainLen).all (fun q => decide (q ≤ s.keptLen) || (tabFind q s.cyc.decls).isSome)
    if all || s.cyc.windows == 8 then s.issueMap else s

/-! ### Calibration epochs (R124, R148) -/

/-- L of R124 in 2⁻¹⁰ ns. -/
def State.lineTime (s : State) : Nat :=
  let n := s.trainLen
  let hop := fun (i : Nat) => if s.flag (INA_HOPDLY_VALID i) then s.get (INA_HOPDLY_DELAY i) else 500 * 1024
  if n < 2 then 0
  else ((s.cyc.map.len * 16 + 50) * 5 + (2 * n - 3) * 240 + 70) * 1024 + 2 * ((List.range (n - 1)).map hop).sum

/-- GUARD in force, unit 0.1 µs (MSG_CFG). -/
def State.guard (s : State) : Nat := clamp 5 200 (s.msgCfg MSG_CFG_GUARD)

/-- The head's budget check at an epoch (R124). -/
def State.budgetCheck (s : State) : State :=
  if !(s.get INA_STATUS_ROLE == roleHead) then s.set CYC_LINE_TIME_NS 0
  else
    let exceeded := decide (125000 * 1024 * (s.get CYC_CFG_BC_N + 1)
      < s.lineTime + 100 * 1024 * s.guard + 500 * 1024 * s.trainLen)
    let s := (s.set CYC_LINE_TIME_NS (s.lineTime / 1024)).setB CYC_STATUS_OVERRUN exceeded
    (if exceeded then s.set CYC_EVENT_OVERRUN 1 else s).line 37 exceeded

/-- Freshness counters at an epoch (R148). -/
def State.freshEpoch (s : State) : State :=
  let next := (positions s.trainLen).filter (fun q => decide (0 < s.cyc.map.size q) && !s.inBlock q
      && !s.cyc.refreshed.contains q)
    |>.map (fun q => (q, Nat.min 15 (tabGet 0 s.cyc.fresh q + 1)))
  (s.cycMap (fun c => { c with fresh := next, refreshed := [] })).showStales

/-- The outcome of the frame whose epoch falls now: its authentication, and the header that did not come (R146,
CYC_ERR2). -/
def State.frameOutcome (s : State) : State :=
  let s := if s.cyc.copies = 0 then s else s.line 38 (decide (s.cyc.verified = 0))
  if s.isHead || s.get INA_STATUS_ROLE == roleNone || s.cyc.hdrAt.isSome then s else s.bump CYC_ERR2_MISSING

/-! ### Frame-key age (R142, R450) -/

/-- CYC_KEY_AGE takes a value, in MRAM too. -/
def State.setKeyAge (s : State) (n : Nat) : State :=
  let n := satNat 16 n
  let s := { s with mram := { s.mram with keyAge := n } }
  let s := if n = 30000 ∧ !s.flag CYC_KEY_AGE_WARN then s.set CYC_EVENT_KEY_AGE 1 else s
  s.load [(CYC_KEY_AGE_COMMITS, n), (CYC_KEY_AGE_WARN, b2n (decide (30000 ≤ n)))]

/-- The FRAME epoch in force at the node (R450). -/
def State.takeFrameEpoch (s : State) (e : Nat) : State :=
  if s.get KEY_EPOCH_FRAME_ACTIVE = e then s else (s.set KEY_EPOCH_FRAME_ACTIVE e).setKeyAge 0

/-! ### Commit (R129, R142, R148) -/

/-- What a commit does to the cycle-frame unit: the interim map, freshness, CYCLE, the own declaration. `kept`
is NUMBERING_KEPT; N, KEPT_LEN and position are those in force after the commit. -/
def State.cycCommit (s : State) (kept : Bool) : State :=
  let old := s.cyc.map
  let n := s.trainLen
  let interim : SlotMap := ⟨0, 0, (positions n).map (fun q => if q ≤ s.keptLen then old.size q else 0)⟩
  let decl := decide (s.keptLen < s.position ∧ 1 < n)
  let s := s.cycMap (fun c => { c with
    map := interim, held := [interim], prevMap := old, latest := interim, issued := false, decls := [], windows := 0
    differs := false, declDue := decl, declOpen := decl
    fresh := if kept then c.fresh.filter (fun e => decide (e.1 ≤ s.keptLen)) else []
    refreshed := [], done := [], copies := 0, verified := 0, inbound := 0, notCarried := 0, hdrAt := none
    latched := none, nextCycle := 0, epochOf := none
    headerLost := c.headerLost && !s.isHead })
  let s := s.set CYC_STATUS_MAP_TRUNC 0
  let s := if s.isHead then s.set CYC_STATUS_BC_IN_USE (s.get CYC_CFG_BC_N) else s.set CYC_STATUS_OVERRUN 0
  let s := if s.isHead then s else s.dropLine 37
  ((s.showMap old.sizes.length).setKeyAge (s.mram.keyAge + 1)).showStales

end Sys2Proof.Machine
end

