-- ==== Sys2Proof/Machine/SlpOps.lean ====
section
/-! DEFINITION. The sleep sequence as other blocks use it: wake sources, votes, what leaves in a message window, and
wake events against the sequence (R392–R401). -/

namespace Sys2Proof.Machine

open Reg

/-- States of the sleep sequence (SLP_STATUS.STATE). -/
abbrev slpIdle : Nat := 0
abbrev slpVoting : Nat := 1
abbrev slpCommitted : Nat := 2
abbrev slpWatch : Nat := 3

/-- The state of the sleep sequence. -/
def State.slpState (s : State) : Nat := s.get SLP_STATUS_STATE

/-- The state with the sleep unit's hidden state changed. -/
def State.slpMap (s : State) (f : SlpState → SlpState) : State := { s with slp := f s.slp }

/-! ### Wake sources (R397, Table 15.4) -/

/-- Bits of SLP_WAKE_SRC; beyond them STK_IN (R470) and a cleared READY (R398). -/
abbrev wakeLineBit : Nat := 0
abbrev wakeCanBit : Nat := 4
abbrev wakePinBit : Nat := 16
abbrev wakeTimerBit : Nat := 20
abbrev wakeTamperBit : Nat := 21
abbrev wakeStackBit : Nat := 22
abbrev wakeHostBit : Nat := 23

/-- Port p is armed: SLEEP, its wake detector chosen, line wake enabled. -/
def State.portArmed (s : State) (p : Nat) : Bool :=
  s.mode == modeSleep && s.flag SLP_CFG_LINE_EN && s.flag (LN_CFG_WAKE_ARM p)

/-- The enabled sources that are live (R392). -/
def State.liveSources (s : State) : Nat :=
  s.get SLP_WAKE_LIVE_LINE * s.get SLP_CFG_LINE_EN + 16 * Nat.land (s.get SLP_WAKE_LIVE_CAN) (s.get SLP_CFG_CAN_EN)
    + 2 ^ 16 * Nat.land (s.get SLP_WAKE_LIVE_WAKE) (s.get SLP_CFG_WAKE_EN)
    + 2 ^ 20 * (s.get SLP_WAKE_LIVE_TIMER * s.get SLP_CFG_TIMER_EN) + 2 ^ 21 * s.get SLP_WAKE_LIVE_TAMPER

/-- Every member of the stack that the master has seen is ready (R392, R470). -/
def State.stackReady (s : State) : Bool :=
  !s.flag STK_CFG_EN || andNot (s.get STK_PRESENT_PRESENT) (s.get STK_READY_READY) == 0

/-- The node itself is ready for sleep: what it shows in the READY bits of beacons (R463, R470). -/
def State.selfReady (s : State) : Bool := s.flag SLP_CTRL_READY && s.liveSources == 0

/-- The node votes yes (R392). -/
def State.votesYes (s : State) : Bool := s.selfReady && s.stackReady

/-! ### Frames (R394) -/

/-- A SLEEP payload. -/
def sleepBytes (m : SleepMsg) : Bytes :=
  le 1 m.kind ++ le 1 m.code ++ le 2 m.voteId ++ le 2 m.topo ++ le 2 m.pos ++ le 4 m.sleepAt ++ zeros 4

/-- The head of the sequence: the head of the train, or a node without line ports, a train of one vehicle (R402). -/
def State.sleepHead (s : State) : Bool := (s.isHead || s.noLines) && !s.stackMember

/-- The positions that vote with this node: its own, and those of its block (R392). -/
def State.ownVoters (s : State) : List Nat :=
  s.position :: (if s.mode = modeBorder then (List.range s.ina.blockL).map (fun k => s.legacyPos (k + 1)) else [])

/-- The positions of which the head needs a vote. -/
def State.allVoters (s : State) : List Nat := if s.noLines then [s.position] else positions (Nat.max 1 s.trainLen)

/-- A SLEEP frame of a kind and code from a position. -/
def State.sendSleep (s : State) (kind code pos : Nat) : State :=
  let toHead := kind == 1 || kind == 3
  let m : SleepMsg := ⟨kind, code, if kind = 1 then 0 else s.get SLP_STATUS_VOTE_ID, s.topo, pos,
    if kind = 4 then s.get SLP_SLEEP_AT_CYCLE else 0⟩
  s.originate (controlFrame 7 (if toHead then 0 else groupAll) (sleepBytes m)) none

/-! ### Ends and confirmations (R395, R398, R401) -/

/-- A vote or commit of the sleep sequence ends with a RESULT; the false-wake watch goes on (R393–R395). -/
def State.sleepEnds (s : State) (result : Nat) : State :=
  let s := s.load [(SLP_STATUS_STATE, if s.slp.fwRunning then slpWatch else slpIdle), (SLP_STATUS_RESULT, result)]
  s.slpMap (fun p => { p with
    callDue := false, commitDue := none, votes := [], voting := none, commitsLeft := 0, commitCode := 0
    sendNext := [], latched := 0 })

/-- A vote or a commit of the sleep sequence ends at an inauguration commit with RESULT TOPOLOGY (R395). -/
def State.sleepTopology (s : State) : State :=
  if s.slpState = slpVoting ∨ s.slpState = slpCommitted then s.sleepEnds 5 else s

/-- A vote fails (R393). -/
def State.voteFails (s : State) (result : Nat) : State :=
  ((s.sleepEnds result).bump SLP_STAT_VOTE_FAILS).set SLP_EVENT_VOTE_FAIL 1

/-- A commit is cancelled: the node stays awake (R398). -/
def State.sleepCancelled (s : State) : State := (s.sleepEnds 4).set SLP_EVENT_CANCEL 1

/-- A frame leaves in the node's next window. -/
def State.sleepNext (s : State) (kind code : Nat) : State :=
  s.slpMap (fun p => { p with sendNext := p.sendNext.filter (fun e => !(e.1 == kind)) ++ [(kind, code)] })

/-- The wake is confirmed: the false-wake timer stops, and STAY leaves in the next window (R401). -/
def State.confirmWake (s : State) : State :=
  let s := s.load [(SLP_STATUS_CONFIRMED, 1), (SLP_EVENT_CONFIRMED, 1),
    (SLP_STATUS_STATE, if s.slpState = slpWatch then slpIdle else s.slpState)]
  (s.slpMap (fun p => { p with
    fwRunning := false, fwExpired := false, commitDue := if p.commitDue = some 1 then none else p.commitDue })).sleepNext 6 0

/-- The head records a position's vote; a no stands (R393). -/
def State.noteVote (s : State) (pos : Nat) (yes : Bool) : State :=
  let before := match tabFind pos s.slp.votes with | some v => v | none => true
  s.slpMap (fun p => { p with votes := tabPut pos (before && yes) p.votes })

/-- The node's votes: recorded at the head, sent elsewhere. -/
def State.castVotes (s : State) (yes : Bool) : State :=
  s.ownVoters.foldl (fun s q => if s.sleepHead then s.noteVote q yes else s.sendSleep 3 (b2n yes) q) s

/-! ### Wake events (R398) -/

/-- A wake event of a source, while the node is awake: the vote is no, the commit is cancelled, or the wake is
confirmed; in SLEEP and in a commit it is latched. -/
def State.noteWake (s : State) (src : Nat) : State :=
  let latch := fun (s : State) => s.slpMap (fun p => { p with latched := setBitOf p.latched src })
  let s := if s.slp.fwRunning && decide (4 ≤ src) && !(s.mode == modeSleep) then s.confirmWake else s
  if s.mode = modeSleep then latch s
  else if s.slpState = slpVoting then
    (if s.mode = modeStandby ∨ s.stackMember then s
     else if s.sleepHead then s.castVotes false
     else s.sleepNext 3 0)
  else if s.slpState = slpCommitted then
    (if s.mode = modeStandby then latch s else (latch s).sleepNext 5 3)
  else s

/-- READY is written: a change to 0 is a wake event (R398, R401). -/
def State.readyCleared (s : State) : State := s.noteWake wakeHostBit

/-! ### The head's part (R393, R395) -/

/-- The head starts a vote unless one, or a commit, is in progress. -/
def State.startVote (s : State) : State :=
  if s.slpState = slpVoting ∨ s.slpState = slpCommitted then s
  else
    let s := s.load [(SLP_STATUS_VOTE_ID, s.get SLP_STATUS_VOTE_ID + 1), (SLP_STATUS_STATE, slpVoting)]
    s.slpMap (fun p => { p with callDue := true, votes := [], voting := none })

/-- SLEEP_VOTE is accepted: the head acts, another node sends REQ (R393). -/
def State.requestSleep (s : State) : State :=
  if s.sleepHead then s.startVote
  else if s.stackMember then s.sendSleep 1 0 s.position
  else s.sleepNext 1 0

/-- The CALL leaves in the window of this cycle, and the head takes its own votes. -/
def State.sendCall (s : State) : State :=
  let s := s.sendSleep 2 0 s.position
  let s := s.slpMap (fun p => { p with callDue := false, voting := some (s.get CYC_CYCLE_CYCLE) })
  s.castVotes s.votesYes

/-- The first COMMIT leaves: the head is committed, and its detectors are armed (R395). -/
def State.sendCommit (s : State) (code : Nat) : State :=
  let s := s.load [(SLP_STATUS_STATE, slpCommitted), (SLP_SLEEP_AT_CYCLE, s.get CYC_CYCLE_CYCLE + 16)]
  let s := s.slpMap (fun p => { p with
    commitDue := none, voting := none, commitsLeft := 3, commitCode := code, latched := 0 })
  s.sendSleep 4 code s.position

/-- What the head sends at the opening of its window. -/
def State.headSleeps (s : State) : State :=
  if s.slp.callDue then s.sendCall
  else match s.slp.commitDue with
    | some code => s.sendCommit code
    | none =>
      if s.slpState = slpCommitted ∧ 0 < s.slp.commitsLeft then
        (s.sendSleep 4 s.slp.commitCode s.position).slpMap (fun p => { p with commitsLeft := p.commitsLeft - 1 })
      else s

/-- A frame that waited for this window. Votes are cast as they stand now; the sender of a LOCAL_WAKE stays awake. -/
def State.sendWaiting (s : State) (e : Nat × Nat) : State :=
  if e.1 = 3 then (if s.slpState = slpVoting then s.castVotes (e.2 == 1 && s.votesYes) else s)
  else if e.1 = 5 ∧ e.2 = 3 then
    (let s := s.sendSleep 5 3 s.position
     if s.slpState = slpCommitted then s.sleepCancelled else s)
  else s.sendSleep e.1 e.2 s.position

/-- At the opening of the node's message window the frames of the sequence that wait for it are queued. -/
def State.sleepWindowOpen (s : State) : State :=
  if !(s.inaSends || s.noLines || s.stackMember) then s
  else
    let l := s.slp.sendNext
    let s := l.foldl State.sendWaiting (s.slpMap (fun p => { p with sendNext := [] }))
    if s.sleepHead then s.headSleeps else s

/-- The head's count at the end of the window of cycle k + 8 (R393). -/
def State.countVotes (s : State) : State :=
  let yes := s.allVoters.all (fun q => tabFind q s.slp.votes == some true)
  let no := s.slp.votes.any (fun e => !e.2)
  if yes then s.slpMap (fun p => { p with commitDue := some 0, voting := none })
  else (s.voteFails (if no then 2 else 3)).sleepNext 5 (if no then 1 else 2)

/-- At the end of the node's message window. -/
def State.sleepWindowEnd (s : State) : State :=
  match s.slp.voting with
  | some k =>
    if s.sleepHead && s.slpState == slpVoting && (s.noLines || cycleReached (s.get CYC_CYCLE_CYCLE) ((k + 8) % 2 ^ 32))
      then s.countVotes else s
  | none => s

end Sys2Proof.Machine
end

