-- ==== Sys2Proof/Machine/Msg.lean ====
section
/-! DEFINITION. The message switch: windows, reception, policing, the duplicate filter, transmission, and what
an epoch and a commit do to it (R149–R158). -/

namespace Sys2Proof.Machine

open Reg

/-! ### Windows (R149, R150) -/

/-- The end of a port was linked at the last commit, and is (R110). -/
def State.portLinked (s : State) (p : Nat) : Bool :=
  (if portEnd p = 1 then s.ina.topo.linked1 else s.ina.topo.linked2) && s.endUp (portEnd p) && s.nelmin p

/-- The node's message window opens: t_close of this cycle (R149). -/
def State.windowTimes (s : State) : State :=
  let tt := s.trainTime
  let t := s.basicCycle
  let guard : Int := (s.guard : Int) * 100 * nsUnit
  let next := (Int.fdiv tt t + 1) * t
  let close : Int :=
    if s.isHead || s.get INA_STATUS_ROLE == roleNone then next - guard
    else match s.cyc.hdrAt with
      | some h => h + t - guard
      | none => next + ((s.position : Int) - 2) * 224 * nsUnit - guard
  (s.msgMap (fun m => { m with openedAt := tt, close := some close, closed := false })).pollSidebands.sleepWindowOpen

/-- A port opens its window 70 ns after the epoch. -/
def State.windowOpens (s : State) (p : Nat) : State :=
  if !s.inaRuns || decide (4 ≤ p) || s.cyc.headerLost then s
  else
    let s := if s.msg.open_ = 0 then s.windowTimes else s
    s.msgMap (fun m => { m with open_ := setBitOf m.open_ p })

def execMsgWindowOpen (port : Nat) (s : State) : Host.Outcome State Fault Refusal := finish (s.windowOpens port)

/-- The node's window is over: its length, the head's maps, and flows that the commit left unresolved (R131,
R149, R256). -/
def State.windowOver (s : State) : State :=
  if s.msg.closed then s
  else
    let s := (s.msgMap (fun m => { m with closed := true })).cycMap (fun c => { c with hdrAt := none })
    let s := s.set CYC_WINDOW_NS (Int.fdiv (s.trainTime - s.msg.openedAt) nsUnit).toNat
    let s := s.mapAtWindowEnd.absentFlows.absentWindows.sleepWindowEnd
    s.msgMap (fun m => { m with returned := m.returned.filter (fun q =>
      match q.owner with
      | some f => s.flowStatus f == flowResolving
      | none => false) })

/-- A port's window closes. -/
def State.windowCloses (s : State) (p : Nat) : State :=
  if !s.inaRuns || decide (4 ≤ p) || s.cyc.headerLost then s
  else
    let s := s.msgMap (fun m => { m with open_ := clearBitOf m.open_ p })
    if s.msg.open_ = 0 then s.windowOver else s

def execMsgWindowClose (port : Nat) (s : State) : Host.Outcome State Fault Refusal := finish (s.windowCloses port)

/-- No cycle-frame header for two basic cycles: the window stays open (R87, R150). -/
def execHeaderLossTimeout (s : State) : Host.Outcome State Fault Refusal :=
  finish (if s.inaRuns && !s.isHead then
    (s.cycMap (fun c => { c with headerLost := true, hdrAt := none })).msgMap (fun m => { m with close := none }) else s)

/-- The window of a port is open now. -/
def State.windowOpen (s : State) (p : Nat) : Bool := s.cyc.headerLost || hasBit s.msg.open_ p

/-- A frame's /T/ plus 70 ns falls at or before t_close (R149). -/
def State.fitsWindow (s : State) (f : MsgFrame) : Bool :=
  s.cyc.headerLost || (match s.msg.close with
    | none => true
    | some c => decide (s.trainTime + (5 * (msgCodeGroups f : Int) + 70) * nsUnit ≤ c))

/-! ### Transmission (R99, R150, R156) -/

/-- A port is sending a message frame. -/
def State.portBusy (s : State) (p : Nat) : Bool :=
  match tabFind p s.msg.sending with
  | some (_, t) => decide (s.uptime < t)
  | none => false

/-- A message frame in transmission ends with /E/; it is sent again in full (R99, R150). -/
def State.abortSending (s : State) (p : Nat) : State :=
  match tabFind p s.msg.sending with
  | some (q, t) =>
    if s.uptime < t then
      let s := s.msgMap (fun m => { m with sending := tabErase p m.sending })
      let s := (s.emit (.messageAbort p)).bump MSG_STAT3_ABORT_RESEND
      s.setMsgQueue p q.frame.prio (q :: s.msgQueue p q.frame.prio)
    else s
  | none => s

/-- The frame that a port starts next: the oldest of the highest class that fits. -/
def State.nextToSend (s : State) (p : Nat) : Option Queued :=
  [7, 6, 5, 4, 3, 2, 1, 0].findSome? (fun c =>
    match s.msgQueue p c with
    | q :: _ => if s.fitsWindow q.frame then some q else none
    | [] => none)

/-- The port takes a frame from its queue and sends it. -/
def State.startFrame (s : State) (p : Nat) (q : Queued) : State :=
  let c := q.frame.prio
  let s := s.setMsgQueue p c (s.msgQueue p c).tail
  let s := s.msgMap (fun m => { m with sending := tabPut p (q, s.uptime + 5 * msgCodeGroups q.frame + 70) m.sending })
  let s := s.emit (.message p q.frame)
  match bridgeOwner q with
  | some (w, b) => s.brgCopySent w b
  | none => s

/-- A free port in its window starts a frame (R156). -/
def State.transmitStart (s : State) (p : Nat) : State :=
  if s.inaSends && s.transmitterOn p && s.lineUp p && s.portLinked p && s.windowOpen p && !s.portBusy p then
    match s.nextToSend p with
    | some q => s.startFrame p q
    | none => s
  else s

def execMsgTransmitStart (port : Nat) (s : State) : Host.Outcome State Fault Refusal := finish (s.transmitStart port)

/-- The oldest frame of a queue has waited AGE basic cycles (R156). -/
def execMsgQueueAgeExpiry (port cls : Nat) (s : State) : Host.Outcome State Fault Refusal :=
  finish (match s.msgQueue port cls with
    | q :: t => if port < 4 ∧ cls < 8 then (s.setMsgQueue port cls t).queueDrop q else s
    | [] => s)

/-! ### Policing (R158) -/

/-- RATE and BURST of a class, bytes. -/
def State.polRate (s : State) (c : Nat) : Nat := if c = 7 then 24576 else 64 * s.msgCfg (MSG_POL_RATE c)
def State.polBurst (s : State) (c : Nat) : Nat := if c = 7 then 24576 else 64 * s.msgCfg (MSG_POL_BURST c)

/-- Fill of a port's bucket of a class. -/
def State.bucket (s : State) (p c : Nat) : Nat := Nat.min (s.polBurst c) (tabGet (s.polBurst c) s.msg.buckets (8 * p + c))

/-- A received frame is charged, or discarded and counted: whether it passes, and the state after. -/
def State.police (s : State) (p c groups : Nat) : Bool × State :=
  let b := s.bucket p c
  if b < groups then
    let s := s.bump (MSG_POL_CNT_DISCARDS (8 * p + c))
    let l := (8 * p + c) :: s.msg.discarded.filter (fun k => !(k == 8 * p + c))
    (false, s.msgMap (fun m => { m with discarded := l }))
  else (true, s.msgMap (fun m => { m with buckets := tabPut (8 * p + c) (b - groups) m.buckets }))

/-- Ports and classes as bucket keys. -/
def bucketKeys : List Nat := List.range 32

/-- The alarm of a port and class that had discards in 16 epochs in a row. -/
def State.policeAlarm (s : State) (k : Nat) : State :=
  let p := k / 8
  let s := s.setBit MSG_EVENT_POLICE_ALARM p
  match s.rateCheck 4 p 0 tenMs with
  | (true, sup, s) => s.record 0xC000 0x3005 (le 2 sup)
  | (false, _, s) => s

/-- Buckets fill, and runs of discards are counted, at an epoch. -/
def State.policeEpoch (s : State) : State :=
  let fill := fun (k : Nat) => Nat.min (s.polBurst (k % 8)) (s.bucket (k / 8) (k % 8) + s.polRate (k % 8))
  let buckets := (bucketKeys.filter (fun k => decide (fill k < s.polBurst (k % 8)))).map (fun k => (k, fill k))
  let runs := (bucketKeys.filter s.msg.discarded.contains).map (fun k => (k, Nat.min 16 (tabGet 0 s.msg.runs k + 1)))
  let s := s.msgMap (fun m => { m with buckets := buckets, runs := runs, discarded := [] })
  let alarms := (runs.filter (fun e => e.2 == 16)).map (·.1)
  (alarms.foldl State.policeAlarm s).line 39 (!alarms.isEmpty)

/-- The MSG_ configuration fields take effect (R160). -/
def State.msgConfigEpoch (s : State) : State :=
  let isCfg := fun (k : Nat) => decide (8 * 0xC000 ≤ k ∧ k < 8 * 0xC080) || decide (8 * 0xC800 ≤ k ∧ k < 8 * 0xD000)
  s.msgMap (fun m => { m with cfg := s.regs.filter (fun e => isCfg e.1) })

/-! ### The duplicate filter (R155) -/

/-- a is newer than b as serial numbers of w bits: at exactly half the range the larger is (R103). -/
def serialNewer (w a b : Nat) : Bool :=
  let d := subMod w a b
  decide (0 < d ∧ d < 2 ^ (w - 1)) || (d == 2 ^ (w - 1) && decide (b < a))

/-- A record after the acceptance of SEQ. -/
def dupAccept (r : DupRecord) (seq : Nat) : DupRecord :=
  if serialNewer 16 seq r.high then
    let d := subMod 16 seq r.high
    { r with high := seq, bitmap := if 32 < d then 0 else (r.bitmap * 2 ^ d + 2 ^ (d - 1)) % 2 ^ 32 }
  else { r with bitmap := setBitOf r.bitmap (subMod 16 r.high seq - 1) }

/-- A record takes a copy with SEQ. -/
def dupTakes (r : DupRecord) (seq : Nat) : Bool :=
  let d := subMod 16 r.high seq
  serialNewer 16 seq r.high || (decide (1 ≤ d ∧ d ≤ 32) && !hasBit r.bitmap (d - 1))

/-- A copy for delivery: whether it is the first, and the state after. -/
def State.dupCheck (s : State) (f : MsgFrame) : Bool × State :=
  match s.msg.dups.find? (fun r => r.src == f.src && r.prio == f.prio) with
  | none => (true, s.msgMap (fun m => { m with dups := ⟨f.src, f.prio, f.seq, 0⟩ :: m.dups }))
  | some r =>
    if dupTakes r f.seq then
      (true, s.msgMap (fun m => { m with dups := m.dups.map (fun x => if x == r then dupAccept r f.seq else x) }))
    else (false, s.bump MSG_STAT_DUP_DISCARD)

/-- A record unused for 64 basic cycles lapses. -/
def execDupRecordLapse (src prio : Nat) (s : State) : Host.Outcome State Fault Refusal :=
  finish (s.msgMap (fun m => { m with dups := m.dups.filter (fun r => !(r.src == src && r.prio == prio)) }))

/-! ### Reception (R115, R151–R154) -/

/-- Types of control payloads and SLEEP, class 7 only (Table 5.5). -/
def isControlType (t : Nat) : Bool := t == 2 || t == 3 || t == 4 || t == 7

/-- A frame is well formed (R151, R152). -/
def msgWellFormed (f : MsgFrame) (groups : Nat) : Bool :=
  f.crc == msgCrc f && f.len == f.payload.length && decide (f.len ≤ 2048) && decide (groups ≤ 2070)
    && decide (f.type < 8) && !(isControlType f.type && !(f.prio == 7))

/-- A frame bears the present counter. -/
def State.presentTopo (s : State) (t : Nat) : Bool := t == s.topo

/-- A frame that bears the previous counter is accepted in GRACE (R115). -/
def State.graceTakes (s : State) (f : MsgFrame) : Bool :=
  s.flag INA_STATUS_GRACE && f.topo == s.ina.prev.counter && decide (addrPos f.src ≤ s.keptLen)
    && (addrGroup f.dst || decide (addrPos f.dst ≤ s.keptLen))

/-- A frame reaches this node's vehicle: own position, group member, or a legacy position of the block. -/
def State.localDelivery (s : State) (ch : Nat) (f : MsgFrame) (acts : Bool) : State :=
  let take := fun (s : State) => if acts then s.deliver ch f else s
  if addrGroup f.dst then
    let s := if s.inGroup (addrGroupNo f.dst) then take s else s
    if s.flag STK_CFG_EN && !s.stackMember then s.stackRelay f else s
  else match s.legacyAt (addrPos f.dst) with
    | some k => if acts then s.deliverLegacy ch k f else s
    | none =>
      if addrStk f.dst == s.stackPos then take s
      else if s.stackHas (addrStk f.dst) then s.stackRelay f
      else s.unroutable

/-- The port by which a transit copy leaves, where it leaves. -/
def State.transitPort (s : State) (p : Nat) (f : MsgFrame) : Option Nat :=
  if addrGroup f.dst then some (portAcross p)
  else
    let e := if addrPos f.dst < s.position then s.headEnd else s.tailEnd
    (endPorts e).find? (fun x => x % 2 == p % 2)

/-- A transit copy is queued on the same line of the outgoing end, or discarded (R154). -/
def State.forward (s : State) (p : Nat) (f : MsgFrame) : State :=
  match s.transitPort p f with
  | none => s
  | some o =>
    if s.inaSends && s.portLinked o && s.lineUp o then s.enqueue o ⟨f, false, none, none⟩
    else s

/-- The position lies beyond the end of the train that this node closes: a tail cannot deliver it. -/
def State.tailCannot (s : State) (f : MsgFrame) : Bool :=
  !addrGroup f.dst && decide (s.position < addrPos f.dst) && !s.portLinked (if s.tailEnd = 1 then 0 else 2)

/-- A valid, accepted frame is routed (R154). -/
def State.route (s : State) (p : Nat) (f : MsgFrame) (acts : Bool) : State :=
  let here := addrGroup f.dst || s.inBlock (addrPos f.dst)
  if addrLocal f.dst && !addrGroup f.dst then s
  else
    let s := if here then
        match s.dupCheck f with
        | (true, s) => s.localDelivery (0x10 + p) f acts
        | (false, s) => s
      else s
    if addrGroup f.dst then (if addrLocal f.dst then s else s.forward p f)
    else if here then s
    else if s.tailCannot f then s.unroutable
    else s.forward p f

/-- A message frame arrives on a port. -/
def State.msgReceive (s : State) (p : Nat) (f : MsgFrame) (groups : Nat) : State :=
  if !s.inaRuns || !s.receiverOn p || !s.lineUp p || !s.portLinked p || f.type == 1 then s
  else match s.police p (f.prio % 8) groups with
    | (false, s) => s
    | (true, s) =>
      if !msgWellFormed f groups then s.bump MSG_STAT2_FRAME_ERR
      else if s.presentTopo f.topo then s.route p f true
      else if s.graceTakes f then (s.bump INA_STAT2_GRACE_ACCEPT).route p f (!isControlType f.type)
      else s.bump INA_STAT2_OLD_DISCARD

def execMsgFrameReceive (port : Nat) (frame : MsgFrame) (codeGroups : Nat) (s : State) :
    Host.Outcome State Fault Refusal := finish (s.msgReceive port frame codeGroups)

/-! ### Commit (R155, R157) -/

/-- A frame of the node's own origin that a flow has sent. -/
def flowOwner (q : Queued) : Option Nat :=
  match q.owner with
  | some f => if q.own && decide (f < 1024) then some f else none
  | none => none

/-- The own flow frames in the queues, one of each SEQ, oldest first. -/
def State.ownFlowFrames (s : State) (p : Queued → Bool) : List Queued :=
  (s.msg.queues.map (fun e => e.2)).flatten.foldl (fun l q =>
    if (flowOwner q).isSome && p q
        && !l.any (fun x => x.frame.prio == q.frame.prio && x.frame.seq == q.frame.seq) then l ++ [q] else l) []

/-- The queues without some frames. -/
def State.dropQueued (s : State) (p : Queued → Bool) : State :=
  s.msgMap (fun m => { m with queues :=
    (m.queues.map (fun e => (e.1, e.2.filter (fun q => !p q)))).filter (fun e => !e.2.isEmpty) })

/-- An own frame of a flow is formed afresh under the present counter, epoch and position, and routed (R157,
R451). -/
def State.reform (s : State) (q : Queued) : State :=
  match flowOwner q with
  | none => s
  | some f =>
    let dst := if s.get (FCTX_BIND f) = 0 then q.frame.dst
      else addrOf (s.get (FCTX_RES_POS f)) (addrStk q.frame.dst)
    let m := { q.frame with topo := s.topo, src := s.ownAddr, dst := dst }
    match q.text with
    | none => s.routeOwn m (some f)
    | some text =>
      match s.keyFor (flowSlot (s.get (FCTX_KEY_SLOT f)) s.flowEpoch) purposeFlow with
      | none => s.authFail f
      | some key =>
        match s.takeIv with
        | (none, s) => s.exhaustKeys
        | (some iv, s) =>
          let m := { m with payload := protect key s.ownUid iv s.flowEpoch (s.get (FCTX_AUTH f)) m text }
          (s.routeOwn m (some f) (some text)).exhaustKeys

/-- A returned frame as its flow treats it (R114): sent again, kept until the flow resolves, or dropped. -/
def State.returnFrame (s : State) (q : Queued) : State :=
  match flowOwner q with
  | none => s
  | some f =>
    let st := s.flowStatus f
    if st = flowResolving then s.msgMap (fun m => { m with returned := m.returned ++ [q] })
    else if flowCounts st || st == flowShed then s.reform q
    else s

/-- Frames whose flows have resolved since leave (R114, R256). -/
def State.releaseReturned (s : State) : State :=
  let l := s.msg.returned
  l.foldl State.returnFrame (s.msgMap (fun m => { m with returned := [] }))

/-- A transit frame that a commit keeps. -/
def State.transitKept (s : State) (kept : Bool) (prev : Nat) (f : MsgFrame) : Bool :=
  kept && f.topo == prev &&
    (addrGroup f.dst || (decide (addrPos f.src ≤ s.keptLen) && decide (addrPos f.dst ≤ s.keptLen)))

/-- The frames of the switch at a commit (R155, R157). `cont` says which bridge windows continue. -/
def State.msgCommit (s : State) (kept : Bool) (prev : Nat) (cont : Nat → Bool) : State :=
  let s := s.msgMap (fun m => { m with
    dups := if kept then m.dups.filter (fun r => decide (addrPos r.src ≤ s.keptLen)) else [] })
  let old := fun (q : Queued) =>
    if q.own then (bridgeOwner q).isNone && (flowOwner q).isNone
      && !((q.frame.type == 5 || q.frame.type == 6) && kept && decide (addrPos q.frame.dst ≤ s.keptLen))
    else !s.transitKept kept prev q.frame
  let n := ((s.msg.queues.map (fun e => (e.2.filter old).length))).sum
  let s := (s.dropQueued old).add MSG_STAT3_OLD_TOPO n
  let gone := fun (q : Queued) => match bridgeOwner q with | some (w, _) => !cont w | none => false
  let lost := (s.msg.queues.map (fun e => e.2.filter gone)).flatten
  let s := lost.foldl (fun s q => s.msgDropped q brgTopoChanged) (s.dropQueued gone)
  let own := s.ownFlowFrames (fun _ => true)
  let s := s.dropQueued (fun q => (flowOwner q).isSome)
  let stamp := fun (q : Queued) => if q.own then
      { q with frame := msgSeal (bit q.frame.flags 0) { q.frame with topo := s.topo, src := s.ownAddr } } else q
  let s := s.msgMap (fun m => { m with queues := m.queues.map (fun e => (e.1, e.2.map stamp)) })
  (own ++ s.msg.returned).foldl State.returnFrame (s.msgMap (fun m => { m with returned := [] }))

/-- At the switch point of FLOW the own authenticated frames still queued are formed afresh (R451). -/
def State.reformQueued (s : State) : State :=
  let own := s.ownFlowFrames (fun q => q.text.isSome)
  own.foldl State.reform (s.dropQueued (fun q => (flowOwner q).isSome && q.text.isSome))

end Sys2Proof.Machine
end

