-- ==== Sys2Proof/Machine/Cycle.lean ====
section
/-! DEFINITION. The cycle frame: the head's emission, the outbound and inbound pass, and the slot map's
commands and control frames (R122–R148, R153, R159). -/

namespace Sys2Proof.Machine

open Reg

/-! ### What a node writes into a frame -/

/-- The own area as it stands in frame `cycle`: stamp and publication data (R127, Table 5.2). -/
def areaBytes (size cycle : Nat) (pub : Bytes) (seq flags : Nat) : Bytes :=
  fit (16 * size) (le 2 cycle ++ le 1 seq ++ le 1 flags ++ pub.drop 4)

/-- An area that its owner has not written (R127). -/
def blankArea (size cycle : Nat) : Bytes := fit (16 * size) (le 2 (Nat.xor (cycle % 65536) 0xFFFF))

/-- The publication image is latched for frame `cycle`; the copies of the frame are counted anew (R139). -/
def State.latchFrame (s : State) (cycle : Nat) : State :=
  s.cycMap (fun c => { c with
    latched := some (cycle, c.pub, c.pubSeq, b2n c.degraded)
    done := [], copies := 0, verified := 0, inbound := 0, notCarried := 0 })

/-- The own area of the frame for which an image is latched. -/
def State.ownArea (s : State) : Bytes :=
  match s.cyc.latched with
  | some (cycle, pub, seq, flags) => areaBytes (s.cyc.map.size s.position) cycle pub seq flags
  | none => []

/-- After a variant B take-over the own area is not written until every publication flow is fresh or cycle k_D + 7 has
ended (R380). -/
def State.areaWithheld (s : State) : Bool :=
  !s.pair.variantBOver && s.enabledFlows.any (fun f => s.get (FCTX_DST_CH f) == chSlot && s.notFresh f)

/-- The slot region with the own area written (R134). -/
def State.writeOwn (s : State) (slots : Bytes) : Bytes :=
  if s.cyc.map.size s.position = 0 || s.areaWithheld then slots
  else splice (s.cyc.map.offset s.position) s.ownArea slots |>.take slots.length

/-! ### Staging and commit (R144–R146) -/

/-- The area of one position is committed from a verified copy; one whose stamp is not current keeps its
previous value (R145). -/
def State.commitArea (f : CycleFrame) (m : SlotMap) (s : State) (q : Nat) : State :=
  if s.inBlock q || m.size q == 0 || s.cyc.done.contains q then s
  else
    let a := m.area q f.slots
    let s := s.cycMap (fun c => { c with done := q :: c.done })
    if a.take 2 == le 2 f.cycle then
      (s.cycMap (fun c => { c with rx := tabPut q a c.rx, refreshed := q :: c.refreshed })).offer chSlot
        { ch := chSlot, sel := q, data := a }
    else s

/-- The trailer of a copy has been checked. -/
def State.copyChecked (s : State) (ok : Bool) : State :=
  let s := s.cycMap (fun c => { c with copies := c.copies + 1, verified := c.verified + b2n ok })
  if ok then s else (s.bump CYC_ERR_TAG_FAIL).set CYC_EVENT_TAG_FAIL 1

/-- A verified copy: the epoch in force, the receive checks of a pair member, and the areas it carries final
values for (R144, R383, R450). -/
def State.copyVerified (s : State) (f : CycleFrame) (m : Option SlotMap) (qs : List Nat) : State :=
  let s := if cycAuth f then s.takeFrameEpoch (cycEpoch f) else s
  match m with
  | some m => qs.foldl (State.commitArea f m) s
  | none => s

/-! ### The head (R122, R125, R127, R165) -/

/-- The header and slot region of the frame that the head sends at a basic-cycle instant on line l. -/
def State.headFrame (s : State) (line : Nat) (late : Int) : CycleFrame :=
  let t := s.basicCycle
  let at_ := Int.fdiv (2 * s.trainTime + t) (2 * t) * t
  let m := s.cyc.map
  let cycle := s.cyc.nextCycle
  let slots := (positions s.trainLen).map (fun q =>
    if q = s.position ∧ !s.areaWithheld then s.ownArea else blankArea (m.size q) cycle)
  cycSealHead
    { topo := s.topo, cycle := cycle
      flags := 2 * line + 4 * s.get KEY_EPOCH_FRAME_ACTIVE + 8 * b2n s.authOn + 16 * s.get TIM_STATUS_TIME_VALID
      mapSeq := m.seq, bcycle := s.get CYC_CFG_BC_N, slotLen := m.len, timeS := ttSec at_, timeNs := ttNs at_
      corr := late, hcrc := 0, slots := slots.flatten, trailer := [] }

/-- A port sends an outbound copy: its timestamp, and the /D/ that follows (R79). -/
def State.sendOutbound (s : State) (p : Nat) (f : CycleFrame) (tx : Int) (aborted : Bool) : State :=
  let s := (s.abortSending p).emit (.cycleFrame p f aborted)
  let s := s.portMap p (fun l => { l with t1 := some tx, t4 := none })
  if (s.port p).noticeDue then
    (s.portMap p (fun l => { l with noticeDue := false })).emit (.hopNotice p (sealNotice
      { delay := s.get (LN_DELAY_DELAY p), topo := s.topo, flags := s.get (LN_DELAY_VALID p),
        samples := s.get (LN_DELAY_SAMPLES p), crc := 0, codeError := false }))
  else s

/-- The head sends one line's copy (R122). -/
def State.emitLine (s : State) (p : Nat) (late : Int) : State :=
  if !s.lineUp p || !s.portLinked p then s
  else
    let f := s.headFrame (p % 2) late
    let (tag, s) := s.cycTrailer (cycIv (s.get INA_HASH_HASH) (s.position - 1) f) f
    s.sendOutbound p { f with trailer := tag } (s.uptimeFine + late) false

/-- A head in a sleep commit has sent its last frame: it does not send the frame of the sleep instant (R161). -/
def State.sleepHolds (s : State) : Bool :=
  s.get SLP_STATUS_STATE == 2 && cycleReached s.cyc.nextCycle (s.get SLP_SLEEP_AT_CYCLE)

/-- At a basic-cycle instant the head sends the cycle frame on both lines of its linked end. -/
def State.emitCycle (s : State) (lateA lateB : Int) : State :=
  if !s.emitsCycles || s.sleepHolds then s
  else
    let cycle := s.cyc.nextCycle
    let s := if s.cyc.latest.seq ≠ s.cyc.map.seq ∧ cycleReached cycle s.cyc.latest.eff then s.useMap s.cyc.latest else s
    let s := s.latchFrame cycle
    let s := match endPorts s.tailEnd with
      | [a, b] => (s.emitLine a lateA).emitLine b lateB
      | _ => s
    let s := s.load [(CYC_CYCLE_CYCLE, cycle), (CYC_STATUS_MAP_SEQ, s.cyc.map.seq), (CYC_STATUS_MAP_HELD, 1),
      (CYC_STATUS_EPOCH, s.get KEY_EPOCH_FRAME_ACTIVE), (CYC_STATUS_BC_IN_USE, s.get CYC_CFG_BC_N)]
    let s := s.cycMap (fun c => { c with nextCycle := (cycle + 1) % 2 ^ 32 })
    if cycle = 0xFFFFFF00 then s.inaTrigger else s

def execCycleFrameEmit (lateA lateB : Int) (s : State) : Host.Outcome State Fault Refusal :=
  finish (s.emitCycle lateA lateB)

/-! ### Header checks (R110, R136, R137) -/

/-- The topology under which a header is handled: the present one, or in GRACE the previous one. -/
def State.frameTopology (s : State) (f : CycleFrame) : Option Topology :=
  if f.topo = s.ina.topo.counter then some s.ina.topo
  else if s.flag INA_STATUS_GRACE && f.topo == s.ina.prev.counter then some s.ina.prev
  else none

/-- End e was linked in a topology. -/
def Topology.linked (t : Topology) (e : Nat) : Bool := if e = 1 then t.linked1 else t.linked2

/-- The end that faces the head in a topology. -/
def Topology.headEnd (t : Topology) : Nat := if t.orient = 0 then 1 else 2

/-- A node whose receive pairs carry cycle frames to it. -/
def State.hearsCycles (s : State) (p : Nat) : Bool :=
  (s.inaRuns || (s.mode == modeStandby && !s.stackMember)) && s.receiverOn p && s.lineUp p

/-- The checks of R136 but that of TOPO: HCRC, AUTH, DIR against the port, and a linked end. -/
def State.headerSound (s : State) (f : CycleFrame) (outbound : Bool) : Bool :=
  f.hcrc == cycHcrc f && cycAuth f == s.authOn && cycDir f == !outbound

/-- A header passes, or is counted (R115, R136). -/
def State.checkHeader (s : State) (p : Nat) (f : CycleFrame) (outbound : Bool) : Option Topology × State :=
  match s.frameTopology f with
  | none =>
    let s := s.bump CYC_ERR_HDR_ERR
    (none, if s.headerSound f outbound then s.bump INA_STAT2_OLD_DISCARD else s)
  | some t =>
    let e := portEnd p
    let onUpstream := e == t.headEnd
    if s.headerSound f outbound && onUpstream == outbound && t.linked e && decide (0 < t.n) then (some t, s)
    else (none, s.bump CYC_ERR_HDR_ERR)

/-! ### Outbound (R134, R139, R141, R166, R167) -/

/-- What an accepted outbound header shows in the registers (R122, R133). -/
def State.noteHeader (s : State) (f : CycleFrame) : State :=
  let s := if bits f.bcycle 0 9 = s.get CYC_CFG_BC_N then s else s.set CYC_EVENT_BC_MISMATCH 1
  s.load [(CYC_CYCLE_CYCLE, f.cycle), (CYC_STATUS_MAP_SEQ, f.mapSeq), (CYC_STATUS_EPOCH, cycEpoch f),
    (CYC_STATUS_BC_IN_USE, bits f.bcycle 0 9)]

/-- The first header of a frame under the present counter: arrival time, image, map in force. -/
def State.firstHeader (s : State) (f : CycleFrame) (rx : Int) : State :=
  let s := (s.latchFrame f.cycle).cycMap (fun c => { c with hdrAt := some (ttAt s.tim rx), headerLost := false })
  let s := s.noteHeader f
  match s.namedMap f.mapSeq f.cycle with
  | some m =>
    let s := s.set CYC_STATUS_MAP_HELD 1
    if m = s.cyc.map then s else s.useMap m
  | none => s.set CYC_STATUS_MAP_HELD 0

/-- A header of a frame: the first of its cycle, or its other line's. -/
def State.takeHeader (s : State) (f : CycleFrame) (rx : Int) : State :=
  match s.cyc.latched with
  | some (k, _) => if k = f.cycle then s else s.firstHeader f rx
  | none => s.firstHeader f rx

/-- The frame as it leaves: DIR at a tail, CORR, the own area, HCRC. -/
def State.changedFrame (s : State) (p : Nat) (f : CycleFrame) (rx tx : Int) (turn write : Bool) : CycleFrame :=
  cycSealHead { f with
    flags := if turn then setBitOf f.flags 0 else f.flags
    corr := f.corr + s.hopDelay p + s.scaled (tx - rx)
    slots := if write then s.writeOwn f.slots else f.slots }

/-- The /H/ that a node sends upstream after an inbound /T/ (R78). -/
def State.sendReport (s : State) (p : Nat) (t3 : Int) : State :=
  match (s.port p).t2 with
  | none => s
  | some t2 =>
    let s := s.portMap p (fun l => { l with t2 := none })
    s.emit (.hopReport p (sealReport
      { residence := wrapInt 32 (fdiv (s.scaled (t3 - t2)) 256), topo := s.topo,
        flags := s.get TIM_STATUS_RATE_VALID, reserved := 0, crc := 0, codeError := false }))

/-- The sample of a verified outbound copy waits for the epoch of its frame (R167, R168). -/
def State.noteSample (s : State) (p : Nat) (f : CycleFrame) (rx : Int) : State :=
  if !s.flag (LN_STATUS_CAL_LOCK p) || s.isHead || s.cyc.epochOf == some f.cycle then s
  else
    let v := ttOf f.timeS f.timeNs + f.corr + s.hopDelay p
    s.timMap (fun t => if p % 2 = 0 then { t with sampleA := some (v, rx, cycTimeValid f) }
      else { t with sampleB := some (v, rx, cycTimeValid f) })

/-- The map that lays out a frame's slot region for this node, and the positions it may commit: under the
previous counter those of the kept numbering (R115, R133, R137). -/
def State.frameMap (s : State) (f : CycleFrame) (present : Bool) : Option SlotMap :=
  if present then s.namedMap f.mapSeq f.cycle
  else if f.mapSeq = s.cyc.prevMap.seq then some s.cyc.prevMap else none

/-- The copy leaves by the same line of the other end, or turns around at the tail. -/
def State.passOn (s : State) (p : Nat) (f : CycleFrame) (t : Topology) (rx tx : Int) (write aborted : Bool) : State :=
  let out := portAcross p
  let line := p % 2
  let ended := !(t.linked (portEnd out) && s.endUp (portEnd out) && s.nelmin out)
  let sends := s.running && s.permission
  let g := s.changedFrame p f rx tx ended write
  let ivIn := cycIv t.hash (t.pos - 2) f
  let ivOut := cycIv t.hash (if ended then t.n - 1 else t.pos - 1) g
  let (tag, s) := s.cycRetag ivIn ivOut f g
  let g := { g with trailer := tag }
  let s := s.portMap p (fun l => { l with t2 := some rx })
  if ended then
    let s := s.cycMap (fun c => { c with inbound := setBitOf c.inbound line })
    if sends then ((s.abortSending p).emit (.cycleFrame p g aborted)).sendReport p tx else s
  else if sends && s.lineUp out then s.sendOutbound out g tx aborted
  else s

/-- An outbound copy of line p mod 2 arrives on upstream port p. -/
def State.cycleOutbound (s : State) (p : Nat) (f : CycleFrame) (rx tx : Int) (errorAt : Option Nat) : State :=
  if !s.hearsCycles p then s
  else match s.checkHeader p f true with
    | (none, s) => s
    | (some t, s) =>
      let present := f.topo == s.ina.topo.counter
      let s := if present then s.takeHeader f rx else s
      let m := s.frameMap f present
      let s := if present && m.isNone then s.bump CYC_ERR2_MAP_MISS else s
      let s := if errorAt.isSome then s.bump CYC_ERR2_ABORTS else s
      let ok := s.cycVerifies (cycIv t.hash (t.pos - 2) f) f
      let s := s.passOn p f t rx tx (present && m.isSome) errorAt.isSome
      if errorAt.isSome then s
      else
        let s := s.copyChecked ok
        let s := s.cycMap (fun c => { c with crcs := tabPut p (crc32 (cycBytes f)) c.crcs })
        if ok then
          let last := if present then s.position - 1 else Nat.min s.keptLen (s.position - 1)
          (s.copyVerified f m (positions last)).noteSample p f rx
        else s

def execCycleFrameOutbound (port : Nat) (frame : CycleFrame) (rx tx : Int) (errorAt : Option Nat) (s : State) :
    Host.Outcome State Fault Refusal := finish (s.cycleOutbound port frame rx tx errorAt)

/-! ### Inbound (R134, R144) -/

/-- The inbound copy goes on upstream unchanged, followed by the /H/; the head consumes it. -/
def State.passBack (s : State) (p : Nat) (f : CycleFrame) (rx tx : Int) (aborted : Bool) : State :=
  let s := s.portMap p (fun l => { l with t4 := some rx })
  let out := portAcross p
  if s.isHead then s
  else if s.running && s.permission && s.lineUp out then
    ((s.abortSending out).emit (.cycleFrame out f aborted)).sendReport out tx
  else s

/-- At a standby of the head's vehicle no outbound copy arrives: the inbound copies give it the frame's CYCLE (R383). -/
def State.shadowFrame (s : State) (f : CycleFrame) : State :=
  let seen := match s.cyc.latched with
    | some (k, _) => k == f.cycle
    | none => false
  if seen || !s.isHead || !(s.mode == modeStandby) then s
  else ((s.latchFrame f.cycle).noteHeader f).cycMap (fun c => { c with nextCycle := (f.cycle + 1) % 2 ^ 32 })

/-- An inbound copy of line p mod 2 arrives on downstream port p. -/
def State.cycleInbound (s : State) (p : Nat) (f : CycleFrame) (rx tx : Int) (errorAt : Option Nat) : State :=
  if !s.hearsCycles p then s
  else match s.checkHeader p f false with
    | (none, s) => s
    | (some t, s) =>
      let present := f.topo == s.ina.topo.counter
      let m := s.frameMap f present
      let s := (s.shadowFrame f).passBack p f rx tx errorAt.isSome
      let s := s.cycMap (fun c => { c with inbound := setBitOf c.inbound (p % 2) })
      if errorAt.isSome then s.bump CYC_ERR2_ABORTS
      else
        let ok := s.cycVerifies (cycIv t.hash (t.n - 1) f) f
        let s := s.copyChecked ok
        let s := s.cycMap (fun c => { c with crcs := tabPut p (crc32 (cycBytes f)) c.crcs })
        if ok then s.copyVerified f m (positions (if present then s.trainLen else s.keptLen)) else s

def execCycleFrameInbound (port : Nat) (frame : CycleFrame) (rx tx : Int) (errorAt : Option Nat) (s : State) :
    Host.Outcome State Fault Refusal := finish (s.cycleInbound port frame rx tx errorAt)

/-! ### Slot map and declarations (R130–R133, R153, R159) -/

/-- A control frame taken from the switch. -/
def State.takeInbox (s : State) (f : MsgFrame) : State :=
  s.msgMap (fun m => { m with inbox := m.inbox.erase f })

/-- A control payload acts only under the present counter (R153). -/
def State.controlActs (s : State) (f : MsgFrame) (type : Nat) : Bool :=
  (s.inaRuns || s.stackMember) && f.type == type && f.topo == s.topo

def cmdDeclare : CmdSpec :=
  { base := 0xB000, code := 1, accepted := fun s => s.inModes [modeNative, modeBorder], run := fun _ s => s.sendDecl }

def execDeclare (path : Path) (arg : Nat) (s : State) : Host.Outcome State Fault Refusal :=
  finish (s.command cmdDeclare path arg)

/-- Every 16 basic cycles, until a map gives the own position its declared size. -/
def execSlotDeclRepeat (s : State) : Host.Outcome State Fault Refusal :=
  finish (if s.inaSends && s.cyc.declOpen then s.sendDecl else s)

/-- The head receives a SLOT_DECL; one above 64 is counted as a frame error (R153). -/
def State.slotDecl (s : State) (f : MsgFrame) : State :=
  let s := s.takeInbox f
  let q := ofLe (slice 0 2 f.payload)
  let size := ofLe (slice 2 1 f.payload)
  if !s.controlActs f 3 || !s.isHead then s
  else if 64 < size then s.bump MSG_STAT2_FRAME_ERR
  else if 1 ≤ q ∧ q ≤ s.trainLen then s.takeDecl q size
  else s

def execSlotDeclReceive (frame : MsgFrame) (s : State) : Host.Outcome State Fault Refusal :=
  finish (s.slotDecl frame)

/-- A SLOT_MAP is held until a frame names it; one that gives the declared size ends the declarations. -/
def State.slotMap (s : State) (f : MsgFrame) : State :=
  let s := s.takeInbox f
  let n := ofLe (slice 2 2 f.payload)
  if !s.controlActs f 4 || s.isHead || !(n == s.trainLen) then s
  else
    let m : SlotMap := ⟨ofLe (slice 0 1 f.payload), ofLe (slice 4 4 f.payload), (slice 8 n f.payload).map BitVec.toNat⟩
    let s := s.holdMap m
    if 1 ≤ m.seq ∧ m.size s.position = s.ownSize then s.cycMap (fun c => { c with declOpen := false }) else s

def execSlotMapReceive (frame : MsgFrame) (s : State) : Host.Outcome State Fault Refusal := finish (s.slotMap frame)

/-- Every 1,024 basic cycles the head repeats the latest map. -/
def execMapRepeat (s : State) : Host.Outcome State Fault Refusal :=
  finish (if s.inaSends && s.get INA_STATUS_ROLE == roleHead then s.reissueMap else s)

def cmdMapReissue : CmdSpec :=
  { base := 0xB000, code := 2, accepted := fun s => s.inModes [modeNative, modeBorder]
    cond := fun s _ => if s.isHead then .ok else .badArg, run := fun _ s => s.reissueMap }

def execMapReissue (path : Path) (arg : Nat) (s : State) : Host.Outcome State Fault Refusal :=
  finish (s.command cmdMapReissue path arg)

end Sys2Proof.Machine
end

