-- ==== Sys2Proof/Machine/Time.lean ====
section
/-! DEFINITION. The train time unit's commands and events: holdover, PPS, steps, the latching read (R171–R184). -/

namespace Sys2Proof.Machine

open Reg

/-- The node runs a follower's servo (R171, R182). -/
def State.follows (s : State) : Bool := s.inModes [modeNative, modeBorder, modeStandby, modeSafe] && !s.isHead

/-- No usable sample for 2 basic cycles: a LOCKED follower enters HOLDOVER. -/
def execHoldoverEntry (s : State) : Host.Outcome State Fault Refusal :=
  finish (if s.follows && s.timState == timLocked then s.setTimState timHoldover else s)

/-- 10 s of HOLDOVER are over (R175). -/
def execHoldoverExpiry (s : State) : Host.Outcome State Fault Refusal :=
  finish (if s.timState = timHoldover then
    (s.load [(TIM_STATUS_HOLD_OK, 0), (TIM_EVENT_HOLD_EXPIRED, 1)]).assertLine 40 else s)

/-! ### PPS (R177, R178) -/

/-- Offset of a train time from the nearest full second. -/
def secondOffset (t : Int) : Int :=
  let r := t % secUnit
  if 2 * r < secUnit then r else r - secUnit

/-- k from the PPS_IN edges held (R177). -/
def State.reformPps (s : State) : State := s.reformRate s.tim.ppsEdges

/-- A PPS_IN edge at uptime t steers the head's sub-second time. -/
def State.steerPps (s : State) (t : Int) : State :=
  let tt := ttAt s.tim t
  let err := secondOffset tt
  let first := s.tim.ppsEdges.isEmpty
  let nominal := match s.tim.ppsEdges with
    | (n, u) :: _ => n + Int.fdiv (2 * (ttAt s.tim t - ttAt s.tim u) + secUnit) (2 * secUnit) * secUnit
    | [] => Int.fdiv tt secUnit * secUnit
  let s := s.timMap (fun m => { m with ppsEdges := ((nominal, t) :: m.ppsEdges).take 17 })
  let s := s.reformPps
  if first ∨ microsecond ≤ absInt err then s.timJump (Int.fdiv tt secUnit * secUnit) t causePpsIn true
  else s.timMap (fun m => { rebase m s.uptimeFine with
    slew := -err, slewFrom := s.uptimeFine, slewLen := 125000000 * 65536 })

/-- A PPS_IN rising edge at uptime t. -/
def State.ppsIn (s : State) (t : Int) : State :=
  let tt := ttAt s.tim t
  let s := s.load [(TIM_PPS_IN_TS_SEC_LO, ttSec tt), (TIM_PPS_IN_TS_NS, ttNs tt),
    (TIM_PPS_IN_ERR_ERR, satInt 32 (fdiv (secondOffset tt) 16384))]
  if s.flag TIM_CFG_PPS_IN_EN && s.isHead && s.running then
    (((s.set TIM_STATUS_PPS_IN_LOST 0).dropLine 41).steerPps t).showTime
  else s

def execPpsInEdge (t : Int) (s : State) : Host.Outcome State Fault Refusal :=
  finish (if s.mode = modeSleep then s else s.ppsIn t)

def execPpsInLost (s : State) : Host.Outcome State Fault Refusal :=
  finish (if s.flag TIM_CFG_PPS_IN_EN && s.isHead && s.running then
    (s.load [(TIM_STATUS_PPS_IN_LOST, 1), (TIM_EVENT_PPS_IN_LOST, 1)]).assertLine 41 else s)

/-- PPS_OUT is active (R178). -/
def State.ppsActive (s : State) : Bool :=
  match s.get TIM_PPS_CFG_MODE with
  | 1 => s.timState == timLocked || s.timState == timMaster || (s.timState == timHoldover && s.flag TIM_STATUS_HOLD_OK)
  | 2 => true
  | _ => false

/-- Local train time reaches TIME_NS = 0, shifted: PPS_OUT rises, unless the edge falls less than 500 ms after
the previous one. -/
def State.ppsRise (s : State) : State :=
  let tooSoon := match s.tim.ppsLast with
    | some t => decide (s.uptime < t + 500000000)
    | none => false
  if !s.ppsActive || tooSoon || s.mode == modeSleep then s
  else (s.timMap (fun m => { m with ppsOut := true, ppsLast := some s.uptime })).emit (.ppsOut true)

def execPpsOutEdge (s : State) : Host.Outcome State Fault Refusal := finish s.ppsRise

def execPpsOutPulseEnd (s : State) : Host.Outcome State Fault Refusal :=
  finish (if s.tim.ppsOut then (s.timMap (fun m => { m with ppsOut := false })).emit (.ppsOut false) else s)

/-! ### Commands (R180, R184) -/

/-- STEP holds V until its basic-cycle instant; a second STEP replaces the first. -/
def cmdStep : CmdSpec :=
  { base := 0x5000, code := 1, accepted := fun s => s.inModes [modeNative, modeBorder]
    argOk := fun s _ => decide (s.get TIM_STEP_NS_NS ≤ 999999999)
    cond := fun s _ => if s.isHead then .ok else .badArg
    run := fun _ s => s.timMap (fun m => { m with
      step := some (ttOf (s.get TIM_STEP_S_SEC) (s.get TIM_STEP_NS_NS), s.uptime) }) }

def execStep (path : Path) (arg : Nat) (s : State) : Host.Outcome State Fault Refusal :=
  finish (s.command cmdStep path arg)

/-- A basic-cycle instant: a STEP accepted at least 10 µs before is applied. -/
def State.stepApply (s : State) : State :=
  match s.tim.step with
  | none => s
  | some (v, t) =>
    if !s.isHead then s.timMap (fun m => { m with step := none })
    else if s.uptime < t + 10000 then s
    else
      let s := (s.timMap (fun m => { m with step := none })).timJump v s.uptimeFine causeCommand true
      (s.load [(TIM_STATUS_TIME_VALID, 1), (TIM_EVENT_STEP, 1)]).showTime

def execStepApply (s : State) : Host.Outcome State Fault Refusal := finish s.stepApply

def cmdClearValid : CmdSpec :=
  { base := 0x5000, code := 2, accepted := fun s => s.inModes [modeNative, modeBorder]
    cond := fun s _ => if s.isHead then .ok else .badArg
    run := fun _ s => s.set TIM_STATUS_TIME_VALID 0 }

def execClearValid (path : Path) (arg : Nat) (s : State) : Host.Outcome State Fault Refusal :=
  finish (s.command cmdClearValid path arg)

/-! ### The latching read (R183) -/

/-- Time spent in the present holdover, ms (TIM_HOLD). -/
def State.holdMs (s : State) : Nat := satNat 32 ((s.uptime - s.tim.holdFrom) / 1000000)

/-- The fraction, seconds and uptime are latched with the nanoseconds. -/
def State.latchNow (s : State) : State :=
  let t := s.trainTime
  s.load [(TIM_NOW_NS_NS, ttNs t), (TIM_NOW_FRAC_FRAC, ttFrac t), (TIM_NOW_S_SEC, ttSec t), (TIM_NOW_UPTIME_NS, s.uptime)]

/-- A read of TIM_NOW_NS latches the other words; in SCRAPPED it returns 0 (R56). -/
def State.readNow (s : State) (req : Requester) : State :=
  if s.lc = lcScrapped then s.emit (.readValue req 0x5010 0)
  else s.latchNow.emit (.readValue req 0x5010 (ttNs s.trainTime))

def execTimNowNsRead (req : Requester) (s : State) : Host.Outcome State Fault Refusal := finish (s.readNow req)

end Sys2Proof.Machine
end

