-- ==== Sys2Proof/Machine/Hrg.lean ====
section
/-! DEFINITION. The host rings (chapter 11): polls and fetches, enabling and disabling a ring, event entries,
MSI-X, and the link events of Table 11.3. -/

namespace Sys2Proof.Machine

open Reg

/-! ### Groups -/

/-- The state with the host interface's hidden state changed. -/
def State.hrgMap (s : State) (f : HrgState → HrgState) : State := { s with hrg := f s.hrg }

/-- Rings are polled in these modes (Table 11.4). -/
def State.ringsPolled (s : State) : Bool := s.inModes [modeNative, modeBorder, modeStandby, modeSafe]

/-- Transmit and receive rings of a group. -/
def groupData (g : Nat) : List Nat := (List.range 16).map (16 * g + ·) ++ (List.range 16).map (64 + 16 * g + ·)

/-- Offset of a ring's word in the doorbell page (Table 11.5). -/
def doorbellOffset (k : Nat) : Nat := if k < 64 then 4 * (k % 16) else if k < 128 then 0x40 + 4 * (k % 16) else 0x80

/-- The fetch in progress for a group. -/
def State.fetch (s : State) (g : Nat) : Option (List (Nat × List (Option Descriptor))) :=
  s.hrg.fetching.getD g none

/-- The state with a group's fetch in progress set. -/
def State.setFetch (s : State) (g : Nat) (f : Option (List (Nat × List (Option Descriptor)))) : State :=
  s.hrgMap (fun h => { h with fetching := h.fetching.set g f })

/-- The waiting requests of functions that may issue them go out (Table 11.3). -/
def State.flushHeld (s : State) : State :=
  let go := s.hrg.held.filter (fun e => s.mayRequest e.1)
  let s := s.hrgMap (fun h => { h with held := h.held.filter (fun e => !s.mayRequest e.1) })
  go.foldl (fun s e => s.emit e.2) s

/-! ### Starting and stopping a ring (R306, R319) -/

/-- The CAUSE with which a ring cannot run, 0 where it can (R319). -/
def State.ringCheck (s : State) (k : Nat) : Nat :=
  let size := s.get (HRG_RING_CTRL_SIZE_EXP k)
  if !s.flag (HRG_GRP_CFG_EN (ringGroup k)) then 5
  else if s.get (HRG_RING_BASE_BASE k) % Nat.min (32 * 2 ^ size) 4096 ≠ 0 then 1
  else if size < 4 ∨ 12 < size then 2
  else 0

/-- A ring with EN = 1 is checked, and runs or is in error. Transmit and receive rings start at index 0. -/
def State.ringStart_ (s : State) (k : Nat) : State :=
  let cause := s.ringCheck k
  if cause ≠ 0 then s.ringError k cause 0
  else
    let s := s.load [(HRG_RING_STATUS_STATE k, 1), (HRG_RING_STATUS_CAUSE k, 0)]
    if k < 128 then
      (s.set (HRG_RING_STATUS_INDEX k) 0).setRing k { s.ring k with pi := 0, fetchIdx := 0, fetched := [], silent := 0 }
    else s

/-- A ring has nothing of a fetch left in the node. -/
def State.ringIdle (s : State) (k : Nat) : Bool :=
  (s.ring k).fetched.isEmpty && !(((s.fetch (ringGroup k)).getD []).any (fun e => e.1 == k))

/-- The fetched descriptors of a STOPPING ring have completed: STOPPED, or started again where EN has been
raised meanwhile (notes/assumptions/23.md). -/
def State.ringStopped (s : State) (k : Nat) : State :=
  if !(s.get (HRG_RING_STATUS_STATE k) == 2) || !s.ringIdle k then s
  else
    let s := (s.writeBack k).load [(HRG_RING_STATUS_STATE k, 0), (HRG_RING_STATUS_CAUSE k, 0)]
    let s := s.setRing k { s.ring k with waiting := [], evLost := 0, unsignalled := 0 }
    if s.flag (HRG_RING_CTRL_EN k) then s.ringStart_ k else s

/-- A write of a ring's CTRL register (R319): SIZE_EXP and VECTOR only while EN = 0 and STOPPED. -/
def State.writeRingCtrl (s : State) (k v : Nat) : State :=
  let was := s.flag (HRG_RING_CTRL_EN k)
  let en := hasBit v 31
  let free := !was && s.get (HRG_RING_STATUS_STATE k) == 0
  let differs := bits v 26 4 ≠ s.get (HRG_RING_CTRL_SIZE_EXP k) ∨ bits v 20 6 ≠ s.get (HRG_RING_CTRL_VECTOR k)
  let s := s.load [(HRG_RING_CTRL_EN k, b2n en), (HRG_RING_CTRL_IRQ_EN k, bit v 30),
    (HRG_RING_CTRL_COAL_TIME k, bits v 10 10), (HRG_RING_CTRL_COAL_CNT k, bits v 0 8)]
  let s := if free then s.load [(HRG_RING_CTRL_SIZE_EXP k, bits v 26 4), (HRG_RING_CTRL_VECTOR k, bits v 20 6)]
    else if differs then s.set HRG_EVENT_CFG_IGNORED 1 else s
  if was = en then s
  else if en then (if s.get (HRG_RING_STATUS_STATE k) = 2 then s else s.ringStart_ k)
  else if s.get (HRG_RING_STATUS_STATE k) = 0 then s
  else s.set (HRG_RING_STATUS_STATE k) 2

/-- A write of a ring's BASE register (R319). -/
def State.writeRingBase (s : State) (k v : Nat) : State :=
  if !s.flag (HRG_RING_CTRL_EN k) && s.get (HRG_RING_STATUS_STATE k) == 0 then s.set (HRG_RING_BASE_BASE k) v
  else s.set HRG_EVENT_CFG_IGNORED 1

/-- PF1 owns a group's registers (R304); PF0 writes them in every case. -/
def State.ownsGroup (s : State) (req : Requester) (g : Nat) : Bool :=
  match req with
  | .pf0 => !s.pf0ReadOnly
  | .pf1 => s.groupOwner g == 1
  | _ => true

def execRingEnable (req : Requester) (ring value : Nat) (s : State) : Host.Outcome State Fault Refusal :=
  finish (if ring < 132 ∧ s.ownsGroup req (ringGroup ring) then
    s.writeRingCtrl ring (setBitOf (value % 2 ^ 32) 31) else s)

def execRingDisable (req : Requester) (ring value : Nat) (s : State) : Host.Outcome State Fault Refusal :=
  finish (if ring < 132 ∧ s.ownsGroup req (ringGroup ring) then
    s.writeRingCtrl ring (clearBitOf (value % 2 ^ 32) 31) else s)

def execRingStopDone (ring : Nat) (s : State) : Host.Outcome State Fault Refusal :=
  finish (if ring < 132 then s.ringStopped ring else s)

/-! ### Polls (R306, R309) -/

/-- Read requests for n descriptors from entry i of a ring, 16 at a time. -/
def State.askEntries (f k : Nat) : Nat → Nat → Nat → State → State
  | 0, _, _, s => s
  | fuel + 1, i, n, s =>
    if n = 0 then s
    else State.askEntries f k fuel (i + Nat.min 16 n) (n - Nat.min 16 n)
      (s.emit (.hostRead f (s.ringEntry k i) (32 * Nat.min 16 n)))

/-- The buffer reads of new DATA descriptors. -/
def State.askBuffers (s : State) (f : Nat) (l : List (Option Descriptor)) : State :=
  l.foldl (fun s d => match d with
    | some d => if descKind d = 1 then s.emit (.hostRead f (ofLe (slice 0 8 d.bytes)) (ofLe (slice 8 2 d.bytes))) else s
    | none => s) s

/-- One ring at a poll: an overrun, or its new descriptors are read (R306, R309). -/
def State.pollRing (f : Nat) (page : Bytes) (read : List (Nat × List (Option Descriptor)))
    (acc : State × List (Nat × List (Option Descriptor))) (k : Nat) :
    State × List (Nat × List (Option Descriptor)) :=
  let (s, l) := acc
  if !s.ringRuns k then acc
  else
    let pi := ofLe (slice (doorbellOffset k) 2 page)
    if s.ringSize k < subMod 16 pi (s.get (HRG_RING_STATUS_INDEX k)) then (s.ringError k 3 pi, l)
    else
      let s := s.setRing k { s.ring k with pi := pi }
      let new := ((tabFind k read).getD []).take (subMod 16 pi (s.ring k).fetchIdx)
      if new.isEmpty then (s, l)
      else
        let s := State.askEntries f k 256 (s.ring k).fetchIdx new.length s
        (if k < 64 then s.askBuffers f new else s, l ++ [(k, new)])

/-- A failed doorbell read skips the poll; the third in a row puts the enabled rings of the group in error. -/
def State.pollFailed (s : State) (g : Nat) : State :=
  let n := s.hrg.dbFails.getD g 0 + 1
  let s := s.set HRG_EVENT_HOST_ERROR 1
  if n < 3 then s.hrgMap (fun h => { h with dbFails := h.dbFails.set g n })
  else
    let s := s.hrgMap (fun h => { h with dbFails := h.dbFails.set g 0 })
    ((groupRings g).filter (fun k => s.flag (HRG_RING_CTRL_EN k))).foldl (fun s k => s.ringError k 4 0) s

/-- One poll of a group: the doorbell page as read, or none where the read failed, and the descriptors that
the fetch reads from each ring, with their buffers. -/
def State.poll (s : State) (g : Nat) (page : Option Bytes) (read : List (Nat × List (Option Descriptor))) : State :=
  let f := s.groupOwner g
  if !s.ringsPolled || !s.flag (HRG_GRP_CFG_EN g) || !((groupRings g).any s.ringRuns) || !s.mayRequest f
      || (s.fetch g).isSome then s
  else
    let s := s.emit (.hostRead f (256 * s.get (HRG_GRP_DB_ADDR g)) 256)
    match page with
    | none => s.pollFailed g
    | some page =>
      let s := s.hrgMap (fun h => { h with dbFails := h.dbFails.set g 0 })
      let (s, l) := (groupData g).foldl (State.pollRing f page read) (s, [])
      let s := s.setFetch g (some l)
      let s := s.setRing (128 + g) { s.ring (128 + g) with pi := ofLe (slice 0x80 2 page) }
      State.evDrain g 18 s

def execDoorbellPoll (group : Nat) (page : Option Bytes) (read : List (Nat × List (Option Descriptor))) (s : State) :
    Host.Outcome State Fault Refusal := finish (if group < 4 then s.poll group page read else s)

/-- Descriptors of a ring become ready; a failed descriptor read puts the ring in error (R309). -/
def State.takeRead (k : Nat) : List (Option Descriptor) → State → State
  | [], s => s
  | none :: _, s => (s.set HRG_EVENT_HOST_ERROR 1).ringError k 4 (s.ring k).fetchIdx
  | some d :: t, s =>
    let r := s.ring k
    let s := s.setRing k { r with fetched := r.fetched ++ [d], fetchIdx := (r.fetchIdx + 1) % 65536 }
    let s := if k < 64 ∧ descKind d = 1 ∧ d.buffer.isNone then s.set HRG_EVENT_HOST_ERROR 1 else s
    State.takeRead k t s

/-- The fetch of a group ends: its descriptors become ready. -/
def State.fetchDone (s : State) (g : Nat) : State :=
  let l := (s.fetch g).getD []
  (l.foldl (fun s e => if s.ringRuns e.1 || s.get (HRG_RING_STATUS_STATE e.1) == 2 then State.takeRead e.1 e.2 s else s)
    s).setFetch g none

def execFetchComplete (group : Nat) (s : State) : Host.Outcome State Fault Refusal :=
  finish (if group < 4 then s.fetchDone group else s)

/-! ### Events and MSI-X (R316–R318) -/

/-- An event comes up for a group's event ring, or waiting entries are written. -/
def execEventEntryWrite (group : Nat) (event : Option HostEv) (s : State) : Host.Outcome State Fault Refusal :=
  finish (if 4 ≤ group then s
    else match event with
      | some e => s.groupEvent group e.code e.payload
      | none => State.evDrain group 18 s)

/-- COAL_TIME has passed since the first completion not yet signalled. -/
def execMsixCoalesceTimeout (ring : Nat) (s : State) : Host.Outcome State Fault Refusal :=
  finish (if ring < 132 ∧ s.flag (HRG_RING_CTRL_IRQ_EN ring) ∧ s.get (HRG_RING_CTRL_COAL_TIME ring) ≠ 0 ∧
    0 < (s.ring ring).unsignalled then s.signalNow ring else s)

/-- MSI-X is enabled in a function. -/
def State.msixOn (s : State) (f : Nat) : Bool := if f = 0 then s.flag HRG_STATUS_MSIX0 else s.flag HRG_STATUS_MSIX1

/-- A vector is unmasked; a pending message is sent. -/
def State.unmaskVector (s : State) (f v : Nat) : State :=
  let s := s.set (MSIX_MASK f v) 0
  if s.flag (MSIX_PBA f v) && s.msixOn f then (s.set (MSIX_PBA f v) 0).hostPost f (.msix f v) else s

def execMsixUnmask (function vector : Nat) (s : State) : Host.Outcome State Fault Refusal :=
  finish (if function < 2 ∧ vector < 64 then s.unmaskVector function vector else s)

/-! ### Link events (Table 11.3) -/

/-- The registers of a group at their reset values, except OWNER. -/
def State.resetGroup (s : State) (g : Nat) : State :=
  let reset := fun (s : State) (f : Field) => s.set f f.reset
  let s := [HRG_GRP_CFG_EN g, HRG_GRP_CFG_POLL g, HRG_GRP_DB_ADDR g, HRG_GRP_WB_ADDR g, HRG_EVRING_MASK_MASK g].foldl reset s
  let s := s.setFetch g none
  (groupRings g).foldl (fun s k =>
    let s := [HRG_RING_CTRL_EN k, HRG_RING_CTRL_IRQ_EN k, HRG_RING_CTRL_SIZE_EXP k, HRG_RING_CTRL_VECTOR k,
      HRG_RING_CTRL_COAL_TIME k, HRG_RING_CTRL_COAL_CNT k, HRG_RING_BASE_BASE k, HRG_RING_STATUS_INDEX k,
      HRG_RING_STATUS_CAUSE k, HRG_RING_STATUS_STATE k, HRG_RING_STAT_DROPS k, HRG_RING_STAT_DONE k].foldl reset s
    let f := (s.ring k).fetched
    s.setRing k { fetched := if k < 64 then f else [], silent := if k < 64 then f.length else 0 }) s

/-- The MSI-X state of a function at its reset values. -/
def State.resetMsix (s : State) (f : Nat) : State :=
  let s := s.set (if f = 0 then HRG_STATUS_MSIX0 else HRG_STATUS_MSIX1) 0
  (List.range 64).foldl (fun s v => s.load [(MSIX_MASK f v, (MSIX_MASK f v).reset), (MSIX_PBA f v, 0),
    (MSIX_ADDR f v, 0), (MSIX_DATA f v, 0)]) s

/-- A function's configuration state at its reset values; its waiting requests are gone. -/
def State.resetFunction (s : State) (f : Nat) : State :=
  let s := s.set (if f = 0 then HRG_STATUS_BME0 else HRG_STATUS_BME1) 0
  (s.resetMsix f).hrgMap (fun h => { h with held := h.held.filter (fun e => !(e.1 == f)), d3 := h.d3.set f false })

/-- Link down: both functions, all groups and rings. -/
def State.linkReset (s : State) : State :=
  let s := (s.resetFunction 0).resetFunction 1
  let s := [0, 1, 2, 3].foldl State.resetGroup s
  (s.hrgMap (fun h => { h with dbFails := [0, 0, 0, 0] })).load
    [(HRG_STATUS_LINK_UP, 0), (HRG_STATUS_SPEED, 0), (HRG_STATUS_WIDTH, 0)]

def execPcieLinkDown (s : State) : Host.Outcome State Fault Refusal :=
  finish (if s.flag HRG_STATUS_LINK_UP then s.linkReset.set HRG_EVENT_LINK_DOWN 1 else s)

def execPcieHotReset (s : State) : Host.Outcome State Fault Refusal :=
  finish (if s.flag HRG_STATUS_LINK_UP then s.linkReset.set HRG_EVENT_HOT_RESET 1 else s)

/-- FLR of PF1: the groups it owns, and its MSI-X state. -/
def State.flr (s : State) : State :=
  let s := s.resetFunction 1
  (([0, 1, 2, 3].filter (fun g => s.groupOwner g == 1)).foldl State.resetGroup s).set HRG_EVENT_FLR 1

def execPf1Flr (s : State) : Host.Outcome State Fault Refusal :=
  finish (if s.flag HRG_STATUS_LINK_UP && !(s.mode == modeGtn) then s.flr else s)

def execBusMasterDisable (function : Nat) (s : State) : Host.Outcome State Fault Refusal :=
  finish (if function = 0 then s.set HRG_STATUS_BME0 0 else if function = 1 then s.set HRG_STATUS_BME1 0 else s)

/-- Bus Master Enable and MSI-X Enable of a function, as the host sets them in its configuration space. -/
def State.busMaster (s : State) (f : Nat) (msix : Bool) : State :=
  if !s.flag HRG_STATUS_LINK_UP || (f == 1 && s.mode == modeGtn) then s
  else if f = 0 then (s.load [(HRG_STATUS_BME0, 1), (HRG_STATUS_MSIX0, b2n msix)]).flushHeld
  else if f = 1 then (s.load [(HRG_STATUS_BME1, 1), (HRG_STATUS_MSIX1, b2n msix)]).flushHeld
  else s

def execBusMasterEnable (function : Nat) (msix : Bool) (s : State) : Host.Outcome State Fault Refusal :=
  finish (s.busMaster function msix)

def execD3hotEntry (function : Nat) (s : State) : Host.Outcome State Fault Refusal :=
  finish (s.hrgMap (fun h => { h with d3 := h.d3.set function true }))

def execD0Return (function : Nat) (s : State) : Host.Outcome State Fault Refusal :=
  finish (s.hrgMap (fun h => { h with d3 := h.d3.set function false })).flushHeld

/-- PE_PERST_N low: fundamental reset of the endpoint, with the effect of link down (R484). -/
def State.perstLow (s : State) : State :=
  let s := { s with glb := { s.glb with perst := true } }
  if s.flag HRG_STATUS_LINK_UP then s.linkReset.set HRG_EVENT_LINK_DOWN 1 else s

def execPePerstAssert (s : State) : Host.Outcome State Fault Refusal := finish s.perstLow

def execPePerstDeassert (s : State) : Host.Outcome State Fault Refusal :=
  finish { s with glb := { s.glb with perst := false } }

/-- Link training completes, and the endpoint answers (R302). -/
def State.endpointReady (s : State) (speed width : Nat) : State :=
  if s.hrg.trained && !s.glb.perst && !s.glb.held && !s.flag HRG_STATUS_LINK_UP && !(s.mode == modeSleep) then
    s.load [(HRG_STATUS_LINK_UP, 1), (HRG_STATUS_SPEED, clamp 1 3 speed), (HRG_STATUS_WIDTH, clamp 1 2 width)]
  else s

def execPcieEndpointReady (speed width : Nat) (s : State) : Host.Outcome State Fault Refusal :=
  finish (s.endpointReady speed width)

end Sys2Proof.Machine
end

