-- ==== Sys2Proof/Machine/Access.lean ====
section
/-! DEFINITION. Register accesses by address: finding the register, reading and writing it by the access types
of Table 0.4, the PRV judgement of R16, the halves of 64-bit registers and the words of wide ones (R14–R20,
R301, R499). -/

namespace Sys2Proof.Machine

open Reg

/-! ### Finding a register -/

/-- The registers that are not in the block tables: MSI-X tables of PF0 and PF1, and the flow contexts (R253,
R300). PF1's registers of its own lie at 0x30_0000. -/
def memTable : List RegRow :=
  ([0, 1].map (fun fn =>
    [⟨"MSIX_ADDR", msixEntry fn 0, 64, 16, 1, 0, 64, [⟨.rw, false, fun i _ => MSIX_ADDR fn i⟩]⟩,
      ⟨"MSIX_DATA", msixEntry fn 0 + 8, 64, 16, 1, 0, 32, [⟨.rw, false, fun i _ => MSIX_DATA fn i⟩]⟩,
      ⟨"MSIX_CTRL", msixEntry fn 0 + 12, 64, 16, 1, 0, 32, [⟨.rw, false, fun i _ => MSIX_MASK fn i⟩]⟩,
      ⟨"MSIX_PBA", (if fn = 0 then 0x3B800 else 0x303800), 1, 0, 1, 0, 64,
        (List.range 64).map (fun v => ⟨.ro, false, fun _ _ => MSIX_PBA fn v⟩)⟩])).flatten
  ++ [⟨"FCTX_CTRL", 0x40000, 1024, 128, 1, 0, 32, [⟨.ro, true, fun f _ => FCTX_EN f⟩, ⟨.rw, true, fun f _ => FCTX_CRIT f⟩,
        ⟨.rw, true, fun f _ => FCTX_BIND f⟩, ⟨.rw, true, fun f _ => FCTX_STALE_ACT f⟩, ⟨.rw, true, fun f _ => FCTX_AUTH f⟩,
        ⟨.rw, true, fun f _ => FCTX_TUBE f⟩, ⟨.rw, true, fun f _ => FCTX_ONE_SHOT f⟩]⟩,
      ⟨"FCTX_CH", 0x40004, 1024, 128, 1, 0, 32, [⟨.rw, true, fun f _ => FCTX_SRC_CH f⟩, ⟨.rw, true, fun f _ => FCTX_DST_CH f⟩,
        ⟨.rw, true, fun f _ => FCTX_STREAM f⟩]⟩,
      ⟨"FCTX_SRC_SEL", 0x40008, 1024, 128, 1, 0, 64, [⟨.rw, true, fun f _ => FCTX_SRC_SEL f⟩]⟩,
      ⟨"FCTX_DST_SEL", 0x40010, 1024, 128, 1, 0, 64, [⟨.rw, true, fun f _ => FCTX_DST_SEL f⟩]⟩,
      ⟨"FCTX_BIND_UID", 0x40018, 1024, 128, 1, 0, 64, [⟨.rw, true, fun f _ => FCTX_BIND_UID f⟩]⟩,
      ⟨"FCTX_BIND_POS", 0x40020, 1024, 128, 1, 0, 32, [⟨.rw, true, fun f _ => FCTX_BIND_POS f⟩, ⟨.rw, true, fun f _ => FCTX_KEY_SLOT f⟩]⟩,
      ⟨"FCTX_POL", 0x40024, 1024, 128, 1, 0, 32, [⟨.rw, true, fun f _ => FCTX_RATE f⟩, ⟨.rw, true, fun f _ => FCTX_BURST f⟩]⟩,
      ⟨"FCTX_SAFE_VAL", 0x40028, 1024, 128, 1, 0, 128, [⟨.rw, true, fun f _ => FCTX_SAFE_VAL f⟩]⟩,
      ⟨"FCTX_RESERVED", 0x40038, 1024, 128, 1, 0, 64, [⟨.rw, true, fun f _ => flowField f 0x38 0 0⟩]⟩,
      ⟨"FCTX_STATUS", 0x40040, 1024, 128, 1, 0, 32, [⟨.ro, true, fun f _ => FCTX_STATUS f⟩, ⟨.ro, true, fun f _ => FCTX_RES_POS f⟩]⟩,
      ⟨"FCTX_BUCKET", 0x40044, 1024, 128, 1, 0, 32, [⟨.ro, true, fun f _ => FCTX_BUCKET f⟩]⟩,
      ⟨"FCTX_ITEMS", 0x40048, 1024, 128, 1, 0, 32, [⟨.ro, true, fun f _ => FCTX_ITEMS f⟩]⟩,
      ⟨"FCTX_DROPS", 0x4004C, 1024, 128, 1, 0, 32, [⟨.ro, true, fun f _ => FCTX_POL_DROP f⟩, ⟨.ro, true, fun f _ => FCTX_AUTH_FAIL f⟩]⟩,
      ⟨"FCTX_REPLAY", 0x40050, 1024, 128, 1, 0, 192, [⟨.ro, true, fun f _ => FCTX_REPLAY_UID f 0⟩, ⟨.ro, true, fun f _ => FCTX_REPLAY_IV f 0⟩,
        ⟨.ro, true, fun f _ => FCTX_REPLAY_UID f 1⟩, ⟨.ro, true, fun f _ => FCTX_REPLAY_IV f 1⟩]⟩,
      ⟨"FCTX_LAST_TIME", 0x40068, 1024, 128, 1, 0, 64, [⟨.ro, true, fun f _ => FCTX_LAST_TIME f⟩]⟩]

/-- A register found by address: row, instance numbers, the register's own address, and the word at the
address. -/
structure RegHit where
  row : RegRow
  i : Nat
  j : Nat
  base : Nat
  word : Nat

/-- The register of a row that holds a byte address. -/
def RegRow.hit (r : RegRow) (a : Nat) : Option RegHit :=
  if a < r.addr then none
  else
    let off := a - r.addr
    let i := if r.outer ≤ 1 then 0 else off / r.outerStride
    let off := off - i * r.outerStride
    let j := if r.inner ≤ 1 then 0 else off / r.innerStride
    let off := off - j * r.innerStride
    if i < r.outer ∧ j < r.inner ∧ off < r.width / 8 then some ⟨r, i, j, a - off, off / 4⟩ else none

/-- The register that holds a byte address of PF0. -/
def findReg (a : Nat) : Option RegHit := (regTable ++ memTable).findSome? (fun r => r.hit a)

/-- The fields of a register with their access types. -/
def RegHit.fields (h : RegHit) : List (Access × Bool × Field) :=
  h.row.fields.map (fun f => (f.acc, f.prv, f.field h.i h.j))

/-- Lowest bit of a field within its register. -/
def RegHit.lo (h : RegHit) (f : Field) : Nat := f.key - 8 * h.base

/-! ### Reading -/

/-- The whole register as a read returns it: WO fields and reserved bits read as 0. -/
def State.regValue (s : State) (h : RegHit) : Nat :=
  (h.fields.map (fun f => if f.1 = .wo then 0 else s.get f.2.2 * 2 ^ h.lo f.2.2)).sum

/-- A word of a register. -/
def State.regWord (s : State) (h : RegHit) (w : Nat) : Nat := bits (s.regValue h) (32 * w) 32

/-- A field has a bit in a word of its register. -/
def RegHit.inWords (h : RegHit) (f : Field) (w n : Nat) : Bool :=
  decide (h.lo f < 32 * (w + n) ∧ 32 * w < h.lo f + f.width)

/-- RC fields in n words from w on are cleared by a read (Table 0.4). -/
def State.readClear (s : State) (h : RegHit) (w n : Nat) : State :=
  h.fields.foldl (fun s f => if f.1 = .rc ∧ h.inWords f.2.2 w n then s.set f.2.2 0 else s) s

/-- BRG_TGT_LOCK.REMAIN now. -/
def State.lockRemain (s : State) : Nat :=
  match s.brg.lock with
  | some (_, t) => (t + 500000 - s.uptime) / 1000
  | none => 0

/-- Registers that follow time are brought up to the present before a read. -/
def State.refreshLive (s : State) : State :=
  let up := if s.glb.bootStep = 6 ∨ s.flag GLB_BOOT_STATUS_WAKE_BOOT then satNat 32 ((s.uptime - s.ina.upFrom) / 1000000) else 0
  let s := canChannels.foldl State.showCycleTime s
  s.load [(INA_UPTIME_MS, up), (TIM_HOLD_MS, if s.timState = timHoldover then s.holdMs else s.get TIM_HOLD_MS),
    (BRG_TGT_LOCK_REMAIN, s.lockRemain), (SLP_AON_TIME_TICKS, (s.elapsed - s.slp.aonFrom) * 32768 / 1000000000)]

/-- A final bridge status is collected by the first read of BRG_APp_STATUS that returns it: the data goes to
BRG_APp_DATA (R282). -/
def State.collectRead (s : State) (p : Nat) : State :=
  match tabFind p s.brg.arrived with
  | none => s
  | some (data, _, _) =>
    (s.set (BRG_AP_DATA_DATA p) data).brgMap (fun b => { b with arrived := tabErase p b.arrived })

/-- What a read of a word does beside returning it: collecting a bridge read (R282), advancing the log (R436). -/
def State.readEffect (s : State) (h : RegHit) (w n : Nat) : State :=
  if h.row.name = "BRG_AP_STATUS" then s.collectRead h.i
  else if h.row.name = "REC_RD_DATA" ∧ h.i = 7 ∧ w + n = 2 then s.copyRecord (s.readNext (s.get REC_RD_IDX_IDX))
  else s

/-- The words of a wide read-only register that a read of word 0 latches (R499). -/
def State.latchWide (s : State) (h : RegHit) : State :=
  let words := (List.range (h.row.width / 32 - 1)).map (fun k => (k + 1, s.regWord h (k + 1)))
  { s with latch := { s.latch with wide := (h.base, words) :: s.latch.wide.filter (fun e => !(e.1 == h.base)) } }

/-- A wide register whose reads latch: one of those of R499. -/
def RegHit.latches (h : RegHit) : Bool := decide (64 < h.row.width) && decide (h.base < 0x40000)

/-- The latched value of a word, and the latch without it. -/
def State.takeWide (s : State) (h : RegHit) (w : Nat) : Option Nat × State :=
  match s.latch.wide.find? (fun e => e.1 == h.base) with
  | none => (none, s)
  | some (b, l) =>
    match l.find? (fun e => e.1 == w) with
    | none => (none, s)
    | some (_, v) =>
      let rest := l.filter (fun e => !(e.1 == w))
      let others := s.latch.wide.filter (fun e => !(e.1 == b))
      (some v, { s with latch := { s.latch with wide := if rest.isEmpty then others else (b, rest) :: others } })

/-- The upper word latched by a requester's read of the lower word (R19). -/
def State.takeUpper (s : State) (req : Requester) (h : RegHit) : Option Nat × State :=
  match s.latch.upper.find? (fun e => e.1 == req && e.2.1 == h.base) with
  | none => (none, s)
  | some e => (some e.2.2, { s with latch := { s.latch with upper := s.latch.upper.filter (fun x => !(x == e)) } })

/-- A 32-bit read of a register word. -/
def State.readWord (s : State) (req : Requester) (h : RegHit) : Nat × State :=
  let s := s.refreshLive
  if h.row.width = 64 then
    if h.word = 0 then
      let v := s.regWord h 0
      let up := s.regWord h 1
      let s := { s with latch := { s.latch with
        upper := (req, h.base, up) :: s.latch.upper.filter (fun e => !(e.1 == req && e.2.1 == h.base)) } }
      (v, (s.readClear h 0 1).readEffect h 0 1)
    else
      let (l, s) := s.takeUpper req h
      (l.getD (s.regWord h 1), (s.readClear h 1 1).readEffect h 1 1)
  else if h.latches then
    if h.word = 0 then (s.regWord h 0, s.latchWide h)
    else
      let (l, s) := s.takeWide h h.word
      (l.getD (s.regWord h h.word), s)
  else if h.row.name = "TIM_NOW_NS" then (ttNs s.trainTime, s.latchNow)
  else (s.regWord h h.word, (s.readClear h h.word 1).readEffect h h.word 1)

/-- An aligned 64-bit read, where R19 or R499 allows it. -/
def State.readPair (s : State) (req : Requester) (h : RegHit) : Nat × State :=
  if h.row.width = 64 then
    let s := s.refreshLive
    (s.regValue h, (s.readClear h 0 2).readEffect h 0 2)
  else
    let (a, s) := s.readWord req h
    let (b, s) := s.readWord req { h with word := h.word + 1 }
    (a + 2 ^ 32 * b, s)

/-- The access is one that R20 performs: 32 bits aligned, or 64 bits aligned at a register that takes them. -/
def RegHit.takes (h : RegHit) (addr size : Nat) : Bool :=
  (size == 4 && addr % 4 == 0) ||
    (size == 8 && addr % 8 == 0 && ((h.row.width == 64 && h.word == 0)
      || (decide (64 < h.row.width) && decide (h.word + 1 < h.row.width / 32))))

/-! ### Writing -/

/-- The bits of a value that a write of n words from w on gives a field, the field's present bits elsewhere. -/
def State.newField (s : State) (h : RegHit) (f : Field) (v w n : Nat) : Nat :=
  let old := s.get f * 2 ^ h.lo f
  let lowPart := old % 2 ^ (32 * w)
  let mid := (v % 2 ^ (32 * n)) * 2 ^ (32 * w)
  let highPart := old / 2 ^ (32 * (w + n)) * 2 ^ (32 * (w + n))
  bits (lowPart + mid + highPart) (h.lo f) f.width

/-- The bits of a write that fall on a field; none elsewhere. -/
def onField (h : RegHit) (f : Field) (v w n : Nat) : Nat :=
  bits ((v % 2 ^ (32 * n)) * 2 ^ (32 * w)) (h.lo f) f.width

/-- A write to one field by its access type (Table 0.4). -/
def State.writeField (s : State) (h : RegHit) (v w n : Nat) (f : Access × Bool × Field) : State :=
  if !h.inWords f.2.2 w n then s
  else match f.1 with
    | .rw | .wo => s.set f.2.2 (s.newField h f.2.2 v w n)
    | .rwl => if s.flag GLB_LOCK_LOCK then s else s.set f.2.2 (s.newField h f.2.2 v w n)
    | .w1c => s.set f.2.2 (andNot (s.get f.2.2) (onField h f.2.2 v w n))
    | .ro | .rc => s

/-- A write to every field of a register. -/
def State.writeFields (s : State) (h : RegHit) (v w n : Nat) : State := h.fields.foldl (fun s f => s.writeField h v w n f) s

/-- A write would change a PRV field. -/
def State.changesPrv (s : State) (h : RegHit) (v w n : Nat) : Bool :=
  h.fields.any (fun f => f.2.1 && h.inWords f.2.2 w n &&
    (match f.1 with
      | .w1c => !(Nat.land (s.get f.2.2) (onField h f.2.2 v w n) == 0)
      | .wo => true
      | _ => !(s.newField h f.2.2 v w n == s.get f.2.2)))

/-- The register holds only PRV and reserved fields. -/
def RegHit.onlyPrv (h : RegHit) : Bool := h.fields.all (fun f => f.2.1)

/-- R16 refuses a write that does not come from the local PF0. -/
def State.prvRefuses (s : State) (req : Requester) (h : RegHit) (v w n : Nat) : Bool :=
  match req with
  | .pf0 => s.pf0ReadOnly
  | _ => h.onlyPrv || s.changesPrv h v w n

/-- CAN registers that take a write only while the channel is STOPPED (R242). -/
def canStoppedOnly : List String :=
  ["CAN_CFG", "CAN_NBT", "CAN_DBT", "CAN_TDC", "CAN_RXQCFG", "CAN_TTCFG", "CAN_TTREF", "CAN_WIN"]

/-- Window registers that take a write only in the states DISABLED, UID_ABSENT and TOPOLOGY_CHANGED (R275). -/
def windowHeld : List String := ["BRG_WIN_CTRL", "BRG_WIN_DST", "BRG_WIN_UID", "BRG_WIN_BASE"]

/-- Statuses in which host software may write a flow context (R253). -/
abbrev contextWritable : List Nat := [flowDisabled, flowUidAbsent, flowTopoChanged, flowSrcRetired, flowDstRetired, flowKeyExhausted]

/-- A write to the flow context memory: bytes 0x00 to 0x3F in the statuses that take it, nothing elsewhere (R253). -/
def State.writeContext (s : State) (h : RegHit) (v w n : Nat) : State :=
  if 0x40 ≤ h.base % 128 then s
  else if contextWritable.contains (s.flowStatus h.i) then s.writeFields h v w n
  else s.bump FLW_STAT2_WRITE_IGNORED

/-- Greatest TIMER of a fixed major source, µs (R411). -/
abbrev fixedTimerMax : Nat := 7900

/-- What R411 makes of the configuration of a source: the severity of a fixed source stays, and its TIMER while it is
major is at most 7,900 µs. `sev` is the severity before. -/
def State.fixSource (s : State) (n sev : Nat) : State :=
  if !s.flag (FLT_SRC_CFG_FIXED n) then s
  else
    let s := s.set (FLT_SRC_CFG_SEVERITY n) sev
    if s.fltSeverity n = 1 ∧ fixedTimerMax < s.get (FLT_SRC_CFG_TIMER n) then s.set (FLT_SRC_CFG_TIMER n) fixedTimerMax else s

/-- A write to SLP_CTRL: clearing READY is a wake event (R398). -/
def State.writeReady (s : State) (h : RegHit) (v w n : Nat) : State :=
  let was := s.flag SLP_CTRL_READY
  let s := s.writeFields h v w n
  if was && !s.flag SLP_CTRL_READY then s.readyCleared else s

/-- The effect of a write that has passed R16: rings, MSI-X masks, the collector, the log's read pointer
and READY have rules of their own (R318, R319, R398, R406–R411, R436). -/
def State.performWrite (s : State) (h : RegHit) (v w n : Nat) : State :=
  if h.row.name = "HRG_RING_CTRL" then s.writeRingCtrl h.i v
  else if h.row.name = "HRG_RING_BASE" then s.writeRingBase h.i (s.newField h (HRG_RING_BASE_BASE h.i) v w n)
  else if h.row.name = "MSIX_CTRL" then
    let f := if h.base < 0x300000 then 0 else 1
    if v % 2 = 0 then s.unmaskVector f h.i else s.set (MSIX_MASK f h.i) 1
  else if 0x40000 ≤ h.base ∧ h.base < 0x60000 then s.writeContext h v w n
  else if h.row.name = "FLT_RAW" then s.clearWritten (onField h FLT_RAW_RAW v w n)
  else if h.row.name = "FLT_FORCE" then s.force (s.newField h FLT_FORCE_FORCE v w n)
  else if h.row.name = "FLT_SRC_CFG" then (s.writeFields h v w n).fixSource h.i (s.get (FLT_SRC_CFG_SEVERITY h.i))
  else if h.row.name = "REC_RD_IDX" then s.copyRecord (v % 65536)
  else if h.row.name = "SLP_CTRL" then s.writeReady h v w n
  else if canStoppedOnly.contains h.row.name && !(s.canState h.i == canStopped) then s.set (CAN_EVENT_CFG_IGNORED h.i) 1
  else if windowHeld.contains h.row.name && !([0, 3, 4].contains (s.get (BRG_WIN_STATUS_STATE h.i))) then s
  else s.writeFields h v w n

/-- A write of n words at word w of a register: its status, and the state after; a refusal is recorded (R16). -/
def State.writeWords (s : State) (req : Requester) (h : RegHit) (v w n : Nat) : Status × State :=
  if s.prvRefuses req h v w n then
    (.accessDenied, s.recordDenied (.reg req) (h.base + 4 * w) v (4 * n))
  else (.ok, s.performWrite h v w n)

/-- The pending lower word of a requester, and the state without it. -/
def State.takeLower (s : State) (req : Requester) (h : RegHit) : Option Nat × State :=
  let v := (s.latch.lower.find? (fun e => e.1 == req && e.2.1 == h.base)).map (fun e => e.2.2)
  (v, { s with latch := { s.latch with lower := s.latch.lower.filter (fun e => !(e.1 == req && e.2.1 == h.base)) } })

/-- A lower-word write is held for its requester (R19). -/
def State.holdLower (s : State) (req : Requester) (h : RegHit) (v : Nat) : State :=
  let (_, s) := s.takeLower req h
  { s with latch := { s.latch with lower := (req, h.base, v % 2 ^ 32) :: s.latch.lower } }

/-- The whole value that an upper-word write gives a 64-bit register (R19). -/
def State.wholeValue (s : State) (req : Requester) (h : RegHit) (v : Nat) : Nat × State :=
  let (l, s) := s.takeLower req h
  (l.getD (bits ((h.fields.map (fun f => s.get f.2.2 * 2 ^ h.lo f.2.2)).sum) 0 32) + 2 ^ 32 * (v % 2 ^ 32), s)

/-- A write of 4 or 8 bytes at an address of a register that takes it. -/
def State.writeReg (s : State) (req : Requester) (h : RegHit) (size v : Nat) : Status × State :=
  if h.row.width = 64 then
    if size = 8 then let (_, s) := s.takeLower req h; s.writeWords req h v 0 2
    else if h.word = 0 then (.ok, s.holdLower req h v)
    else let (x, s) := s.wholeValue req h v; s.writeWords req h x 0 2
  else s.writeWords req h v h.word (size / 4)

/-! ### PF1's view, and accesses that are not performed -/

/-- The PF0 address of an address of PF1's BAR0: the group and ring registers of groups that PF1 owns, and its
MSI-X table (R300, R304). -/
def State.pf1Addr (s : State) (a : Nat) : Option Nat :=
  let grp := if 0x100 ≤ a ∧ a < 0x180 then some ((a - 0x100) / 0x20)
    else if 0x1000 ≤ a ∧ a < 0x2080 then some (ringGroup ((a - 0x1000) / 0x20)) else none
  match grp with
  | some g => if s.groupOwner g = 1 then some (0x38000 + a) else none
  | none => if 0x3000 ≤ a ∧ a < 0x3808 then some (0x300000 + a) else none

/-- The register that a requester's address reaches. -/
def State.reach (s : State) (req : Requester) (a : Nat) : Option RegHit :=
  match req with
  | .pf1 => (s.pf1Addr a).bind findReg
  | _ => if a < 0x300000 then findReg a else none

/-- An access over PCIe that is not performed is counted and captured (R301). -/
def State.badAccess (s : State) (req : Requester) (write : Bool) (a be : Nat) : State :=
  let fn := match req with | .pf0 => some 0 | .pf1 => some 1 | _ => none
  match fn with
  | none => s
  | some fn =>
    let s := (s.bump HRG_BAD_CNT_COUNT).set HRG_EVENT_BAD_ACCESS 1
    if s.flag HRG_BAD_ACC_VALID then s
    else s.load [(HRG_BAD_ACC_VALID, 1), (HRG_BAD_ACC_WRITE, b2n write), (HRG_BAD_ACC_FUNC, fn), (HRG_BAD_ACC_BE, be),
      (HRG_BAD_ACC_OFFSET, a)]

/-- What SCRAPPED still answers: GLB_ID, GLB_REV, GLB_UID and GLB_LC (R56). -/
def scrappedReads (a : Nat) : Bool := decide (a < 0x10) || decide (0x28 ≤ a ∧ a < 0x2C)

/-- A write of 4 or 8 bytes by a requester to a register without a command of its own: its status, and the state
after. SCRAPPED refuses every write (R56). -/
def State.write (s : State) (req : Requester) (a size v : Nat) : Status × State :=
  if s.lc = lcScrapped then (.accessDenied, s)
  else match s.reach req a with
  | none => (.ok, s.badAccess req true a 0xF)
  | some h =>
    if !h.takes a size then (.ok, s.badAccess req true a 0xF)
    else s.writeReg req h size v

/-- A write as a step: its path is told the status. -/
def State.writeStep (s : State) (req : Requester) (a size v : Nat) : State :=
  let (st, s) := s.write req a size v
  s.emit (.pathStatus (.reg req) a st)

/-- A read of 4 or 8 bytes by a requester: the value returned, and the state after. -/
def State.read (s : State) (req : Requester) (a size : Nat) : Nat × State :=
  if s.lc = lcScrapped ∧ !scrappedReads a then (0, s)
  else match s.reach req a with
  | none => (0, s.badAccess req false a 0xF)
  | some h =>
    if !h.takes a size then (0, s.badAccess req false a 0xF)
    else if size = 8 then s.readPair req h else s.readWord req h

/-- A read as a step: the value goes back to its requester. -/
def State.readStep (s : State) (req : Requester) (a size : Nat) : State :=
  let (v, s) := s.read req a size
  s.emit (.readValue req a v)

/-- A write to a CAN register that only a STOPPED channel takes (R242). -/
def execCanCfgWrite (req : Requester) (addr size value : Nat) (s : State) : Host.Outcome State Fault Refusal :=
  finish (match s.reach req addr with
    | some h => if canStoppedOnly.contains h.row.name then s.writeStep req addr size value else s
    | none => s)

/-- A write to the flow context memory (R253). -/
def execFlowContextWrite (req : Requester) (addr size value : Nat) (s : State) : Host.Outcome State Fault Refusal :=
  finish (if 0x40000 ≤ addr ∧ addr < 0x60000 then s.writeStep req addr size value else s)

def execReg64LowerWordRead (req : Requester) (addr : Nat) (s : State) : Host.Outcome State Fault Refusal :=
  finish (s.readStep req addr 4)

def execWideRegisterWord0Read (req : Requester) (addr : Nat) (s : State) : Host.Outcome State Fault Refusal :=
  finish (s.readStep req addr 4)

def execReadClearAccess (req : Requester) (addr size : Nat) (s : State) : Host.Outcome State Fault Refusal :=
  finish (s.readStep req addr size)

/-- A narrow, misaligned or spanning access: a write has no effect, a read returns 0 (R20). -/
def execUnperformedAccess (req : Requester) (write : Bool) (addr byteEnables : Nat) (s : State) :
    Host.Outcome State Fault Refusal :=
  let s := s.badAccess req write addr byteEnables
  finish (if write then s else s.emit (.readValue req addr 0))

end Sys2Proof.Machine
end

