-- ==== Sys2Proof/Machine/Switch.lean ====
section
/-! DEFINITION. The switch of key epochs at its switch point (R449–R451). -/

namespace Sys2Proof.Machine

open Reg

/-- REPLAY of a flow is cleared (Table 9.4). -/
def State.clearReplay (s : State) (f : Nat) : State :=
  s.load [(FCTX_REPLAY_UID f 0, 0), (FCTX_REPLAY_IV f 0, 0), (FCTX_REPLAY_UID f 1, 0), (FCTX_REPLAY_IV f 1, 0)]

/-- The FLOW epoch changes at this node: IVCNT and its reservation, exhausted flows, REPLAY (R451). -/
def State.flipFlow (s : State) : State :=
  let s := s.load [(KEY_EPOCH_FLOW_ACTIVE, 1 - s.flowEpoch), (FLW_IVCNT_IVCNT, 0)]
  let s := { s with mram := { s.mram with ivReserved := 0 }, flw := { s.flw with ivDone := false } }
  let s := (s.enabledFlows.filter (fun f => s.flowStatus f == flowKeyExhausted)).foldl
    (fun s f => s.setFlowStatus f flowActive) s
  allFlows.foldl State.clearReplay s

/-- The FRAME epoch changes; a node that is no longer head has no frame to mark (R450). -/
def State.flipFrame (s : State) : State :=
  if s.isHead then s.takeFrameEpoch (1 - s.get KEY_EPOCH_FRAME_ACTIVE) else s

/-- The switches that are pending take effect. Whether FLOW did. -/
def State.keySwitch (s : State) : Bool × State :=
  let flow := s.key.switchFlow
  let frame := s.key.switchFrame
  let s := { s with key := { s.key with switchFlow := false, switchFrame := false } }
  let s := if frame then s.flipFrame else s
  (flow, if flow then s.flipFlow else s)

/-- A calibration epoch: the switch point of what is pending, once CYC_CYCLE has reached KEY_SW_CYCLE (R449). -/
def State.switchPoint (s : State) : State :=
  if !(s.key.switchFlow || s.key.switchFrame) || !cycleReached (s.get CYC_CYCLE_CYCLE) (s.get KEY_SW_CYCLE_CYCLE) then s
  else match s.keySwitch with
    | (true, s) => s.reformQueued
    | (false, s) => s

/-- A calibration epoch at which a switch is pending (R451). -/
def execKeySwitchPoint (s : State) : Host.Outcome State Fault Refusal := finish s.switchPoint

end Sys2Proof.Machine
end

