-- ==== Sys2Proof/Machine/Inaug.lean ====
section
/-! DEFINITION. Inauguration: triggers, the run, the commit, and the hop delay table (R91–R121, R358). -/

namespace Sys2Proof.Machine

open Reg

/-! ### Claims (R92) -/

/-- Claim a is better than claim b. -/
def Claim.better (a b : Claim) : Bool :=
  if a.cab ≠ b.cab then a.cab
  else if a.prio ≠ b.prio then decide (b.prio < a.prio)
  else if a.uptime ≠ b.uptime then decide (b.uptime < a.uptime)
  else decide (a.uid < b.uid)

/-- The claim that a DISC or RET carries. -/
def inaClaim (f : InaFrame) : Claim := ⟨hasBit f.flags 0, bits f.flags 1 3, f.uptime, f.uid⟩

/-- INA_UPTIME, ms (R92). -/
def State.inaUptime (s : State) : Nat := satNat 32 ((s.uptime - s.ina.upFrom) / 1000000)

/-- CAB_ACTIVE, debounced. -/
def State.cabActive (s : State) : Bool := s.flag INA_SENSE_CAB_DEB

/-- The node's own claim. -/
def State.ownClaim (s : State) : Claim := ⟨s.cabActive, s.cabPrio, s.inaUptime, s.trainUid⟩

/-- Claim bits of FLAGS. -/
def claimFlags (c : Claim) : Nat := b2n c.cab + 2 * c.prio

/-! ### Ends and positions -/

/-- The only linked end, the node being a candidate (R91, R92). -/
def State.onlyEnd (s : State) : Option Nat :=
  match s.endUp 1, s.endUp 2 with
  | true, false => some 1
  | false, true => some 2
  | _, _ => none

/-- Both ends are linked. -/
def State.bothEnds (s : State) : Bool := s.endUp 1 && s.endUp 2

/-- The UID in the last HELLO of an end. -/
def State.nbrUid (s : State) (e : Nat) : Nat := if e = 1 then s.ina.nbr1 else s.ina.nbr2

/-- The orientation of a head (R94): 0 FORWARD, 1 REVERSE. -/
def State.headOrient (s : State) : Nat :=
  match s.onlyEnd with
  | some e => 2 - e
  | none => s.get INA_CFG_CAB_END

/-- The topology hash goes on over a UID (R101). -/
def hashOn (h uid : Nat) : Nat := Nat.xor ((le 8 uid).foldl (crcByteLsb 0xEDB88320) (Nat.xor h 0xFFFFFFFF)) 0xFFFFFFFF

/-- The UID of legacy position k of the block (R358). -/
def State.legacyUid (s : State) (k : Nat) : Nat := 0x47544E00 * 2 ^ 32 + s.get (INA_BDR_LVID_VID (k - 1))

/-- Legacy vehicles of the block now (R118): 0 but in BORDER. -/
def State.legacyCount (s : State) : Nat := if s.mode = modeBorder then s.get INA_BDR_STATUS_L else 0

/-- The members of the block in position order under an orientation: 0 the node itself, k legacy position k
(R357). -/
def State.blockMembers (s : State) (orient : Nat) : List Nat :=
  let legacy := (List.range s.legacyCount).map (· + 1)
  if orient = 0 then legacy.reverse ++ [0] else 0 :: legacy

/-- The UID of a member of the block. -/
def State.memberUid (s : State) (m : Nat) : Nat := if m = 0 then s.trainUid else s.legacyUid m

/-- What one run gives a member: position, prefix hash, orientation, upstream UID. -/
abbrev Place := Nat × Nat × Nat × Nat

/-- What the last commit stored for a member (R108). -/
def State.storedPlace (s : State) (m : Nat) : Option Place :=
  if !s.ina.lastValid then none
  else if m = 0 then some (s.ina.lastPos, s.ina.lastHash, s.ina.lastOrient, s.ina.lastUp)
  else s.ina.lastBlock[m - 1]?

/-- The places of the members from a position on, a hash and an upstream UID before it. -/
def State.places (s : State) (orient : Nat) : Nat → Nat → Nat → List Nat → List (Nat × Place)
  | _, _, _, [] => []
  | pos, hash, up, m :: t =>
    let h := hashOn hash (s.memberUid m)
    (m, pos, h, orient, up) :: State.places s orient (pos + 1) h (s.memberUid m) t

/-- The lowest position among the places that differ from what is stored, 257 without one (R103). -/
def State.lowestChanged (s : State) (l : List (Nat × Place)) : Nat :=
  l.foldl (fun k e => if s.storedPlace e.1 = some e.2 then k else Nat.min k e.2.1) 257

/-- The last place of a list. -/
def lastPlace (l : List (Nat × Place)) : Place :=
  match l.getLast? with
  | some (_, p) => p
  | none => (0, 0, 0, 0)

/-- The place of a member. -/
def placeOf (l : List (Nat × Place)) (m : Nat) : Place := tabGet (0, 0, 0, 0) l m

/-! ### Sending (R98, R99) -/

/-- An inauguration frame leaves on both lines of an end; message frames in transmission there end. -/
def State.sendIna (s : State) (e : Nat) (f : InaFrame) : State :=
  if !s.inaSends || !s.endUp e || (s.mode == modeBorder && e == 1) then s
  else ((endPorts e).foldl State.abortSending s).emit (.ina e f)

/-- An ALERT with the node's own fields (Table 4.2). -/
def State.alertFrame (s : State) (e : Nat) : InaFrame :=
  { kind := 2, attempt := s.ina.attempt, topo := s.topo, uid := s.trainUid, pos := s.position, flags := (e - 1) + 2 }

/-- The places of a run that the node heads. -/
def State.headPlaces (s : State) : List (Nat × Place) :=
  s.places s.headOrient 1 0 0 (s.blockMembers s.headOrient)

/-- KEPT of the DISC that a candidate builds (R104). -/
def State.headKept (s : State) : Nat :=
  if s.legacyCount = 0 then
    if s.ina.lastValid && s.ina.lastPos == 1 && s.ina.lastOrient == s.headOrient then 257 else 1
  else s.lowestChanged s.headPlaces

/-- The DISC that a candidate builds (R104). -/
def State.ownDisc (s : State) : InaFrame :=
  let (pos, hash, _) := lastPlace s.headPlaces
  { kind := 3, attempt := s.ina.attempt, topo := s.topo, uid := s.trainUid, hash := hash, pos := pos
    kept := s.headKept, flags := claimFlags s.ownClaim, uptime := s.inaUptime }

/-- The run takes the places of a DISC at this node, with its entry end. -/
def State.takePlaces (s : State) (l : List (Nat × Place)) (e : Nat) : State :=
  let (pos, hash, orient, _) := placeOf l 0
  s.inaMap (fun i => { i with
    runPos := pos, runHash := hash, runOrient := orient, runEnd := e
    runBlock := (List.range s.legacyCount).map (fun k => placeOf l (k + 1)) })

/-- A candidate sends its own DISC and waits for the RET. -/
def State.claimHead (s : State) (e : Nat) : State :=
  let d := s.ownDisc
  let s := (s.takePlaces s.headPlaces 0).inaMap (fun i => { i with best := some s.ownClaim, mark := true })
  (s.set INA_STATUS_STATE inaHeadWait).sendIna e d

/-! ### The commit (R105, R106, R108, R113–R117) -/

/-- The commit of one topology at this node: counter, hash, N, KEPT_LEN, FLAGS, head's UID, role. -/
structure Commit where
  counter : Nat
  hash : Nat
  n : Nat
  kept : Nat
  flags : Nat
  head : Nat
  role : Nat
  deriving DecidableEq, Repr

/-- Ends that the run joined to the train: a head's and a tail's one end, both of an intermediate node's. -/
def State.joinedEnd (s : State) (role e : Nat) : Bool :=
  s.endUp e && (role == roleMid || (role == roleHead && e == 2 - s.ina.runOrient)
    || (role == roleTail && e == s.ina.runEnd))

/-- The upstream neighbour's UID of this run: that of the entry end, or of the last legacy vehicle ahead. -/
def State.runUp (s : State) : Nat :=
  if s.ina.runEnd ≠ 0 then s.nbrUid s.ina.runEnd
  else if s.ina.runOrient = 0 ∧ 0 < s.legacyCount then s.legacyUid 1
  else 0

/-- The topology that a commit brings into force, and the values the next run compares against (R108). -/
def State.takeTopology (s : State) (c : Commit) : State :=
  let l1 := s.joinedEnd c.role 1
  let l2 := s.joinedEnd c.role 2
  let up := s.runUp
  let s := s.inaMap (fun i => { i with
    prev := i.topo
    topo := ⟨c.counter, c.hash, i.runPos, c.n, i.runOrient, c.role, c.kept, l1, l2⟩
    lastValid := true, lastPos := i.runPos, lastHash := i.runHash, lastOrient := i.runOrient, lastUp := up
    blockL := i.runBlock.length, lastBlock := i.runBlock, mark := false, best := none, ret := none, restartWait := false, restarts := 0
    firstTrigger := none, hopPending := [] })
  { s with mram := { s.mram with topo := c.counter } }

/-- What a commit shows in the INA_ registers. -/
def State.showCommit (s : State) (c : Commit) (kept : Bool) (since : Nat) : State :=
  let i := s.ina
  let s := s.load [(INA_TOPO_PREV_COUNTER, i.prev.counter), (INA_TOPO_COUNTER, c.counter), (INA_POS_POSITION, i.topo.pos),
    (INA_POS_VEH_COUNT, c.n), (INA_HASH_HASH, c.hash), (INA_KEPT_KEPT_LEN, c.kept), (INA_HEAD_UID_UID, c.head),
    (INA_NBR1_UID_UID, if i.topo.linked1 then i.nbr1 else 0), (INA_NBR2_UID_UID, if i.topo.linked2 then i.nbr2 else 0),
    (INA_STATUS_ORIENT, i.topo.orient), (INA_STATUS_ROLE, c.role), (INA_STATUS_NUMBERING_KEPT, b2n kept),
    (INA_STATUS_GRACE, b2n kept), (INA_STATUS_TWO_CABS, bit c.flags 5), (INA_STATUS_NO_CAB, bit c.flags 6),
    (INA_STATUS_CAB_NOT_AT_END, bit c.flags 4), (INA_STATUS_FAILED, 0), (INA_TIME_US, since / 1000), (INA_EVENT_DONE, 1)]
  let s := if kept then s.set INA_EVENT_KEPT 1 else s
  let s := if hasBit c.flags 5 then s.set INA_EVENT_TWO_CABS 1 else s
  let s := if hasBit c.flags 6 then s.set INA_EVENT_NO_CAB 1 else s
  let s := if hasBit c.flags 4 then s.set INA_EVENT_CAB_NOT_AT_END 1 else s
  let s := (s.bump INA_STAT_INAUGURATIONS).dropLine 35
  s.line 36 (decide (bits c.flags 4 3 ≠ 0))

/-- The hop delay table is cleared (R117). -/
def State.clearHops (s : State) : State :=
  (List.range 256).foldl (fun s i => s.load [(INA_HOPDLY_VALID i, 0), (INA_HOPDLY_RCVD i, 0), (INA_HOPDLY_DELAY i, 0)]) s

/-- The UID table that a commit leaves: the head's position, the own one, and those of the own block (R256). -/
def State.startUids (s : State) (c : Commit) : State :=
  let own := tabPut s.position s.trainUid (tabPut 1 c.head [])
  let all := (List.range s.ina.blockL).foldl (fun t k => tabPut (s.legacyPos (k + 1)) (s.legacyUid (k + 1)) t) own
  s.inaMap (fun i => { i with uids := all })

/-- The INAUGURATION record and event, and the head's CAB_EVENT (R93, R116, Tables 11.9 and 17.5). -/
def State.recordCommit (s : State) (c : Commit) (kept : Bool) : State :=
  let two := bit c.flags 5
  let no := bit c.flags 6
  let mid := bit c.flags 4
  let o := s.get INA_STATUS_ORIENT
  let s := s.record 0xA000 0x2001 (le 2 s.ina.prev.counter ++ le 2 c.counter ++ le 2 s.position ++ le 2 c.n
    ++ le 1 (o + 2 * b2n kept + 4 * two + 8 * no + 16 * mid) ++ le 1 s.ina.attempt ++ le 2 c.kept ++ le 4 c.hash
    ++ le 8 c.head)
  let s := s.hostEvent 0x01 (le 2 s.ina.prev.counter ++ le 2 s.position ++ le 2 c.n ++ le 2 c.kept
    ++ le 1 (b2n kept + 2 * o + 4 * c.role + 32 * two + 64 * no + 128 * mid) ++ zeros 3 ++ le 4 c.hash)
  if s.isHead && !(two + no + mid == 0) then
    s.record 0xA000 0x2002 (le 1 (two + 2 * no + 4 * mid) ++ zeros 1 ++ le 2 c.counter ++ le 2 c.n ++ zeros 2 ++ le 8 c.head)
  else s

/-- A commit is applied in one cycle: topology, registers, slot map, flows, bridge, message switch, train time
(R106, R114–R116, R129, R157, R172, R291). -/
def State.applyCommit (s : State) (c : Commit) : State :=
  let since := s.uptime - s.ina.firstTrigger.getD s.uptime
  let old := s
  let s := s.takeTopology c
  let kept := decide (s.ina.topo.pos ≤ c.kept)
  let s := ((s.showCommit c kept since).clearHops.startUids c).recordCommit c kept
  let s := linePorts.foldl State.delayAnew s
  let s := { s with slp := { s.slp with holdEnd1 := false, holdEnd2 := false } }
  let s := (s.cycCommit kept).keySwitch.2
  let s := (s.flowsAtCommit kept c.kept).brgCommit kept c.kept
  let s := s.msgCommit kept s.ina.prev.counter (fun w => old.winContinues kept c.kept w)
  s.timCommit.sleepTopology

/-! ### Starting and joining a run (R97, R102, R107) -/

/-- Position range of a DISC: N is at most 256 (R118). -/
abbrev maxTrain : Nat := 256

/-- A node without a linked end commits alone (R106). -/
def State.commitAlone (s : State) : State :=
  let l := s.headPlaces
  let (n, hash, _) := lastPlace l
  let k := s.headKept
  let s := s.takePlaces l 0
  let c := (s.topo + 1) % 65536
  (s.applyCommit
    { counter := if c = 0 then 1 else c, hash := hash, n := n, kept := if k = 257 then n else k - 1
      flags := claimFlags s.ownClaim + 64 * b2n !s.cabActive, head := s.trainUid, role := roleSingle }).set INA_STATUS_STATE inaIdle

/-- The node is in a run with an attempt, before it has handled a DISC. -/
def State.enterRun (s : State) (a : Nat) : State :=
  let s := s.inaMap (fun i => { i with
    attempt := a, best := none, mark := false, ret := none, restartWait := false, committed := false
    firstTrigger := some (i.firstTrigger.getD s.uptime) })
  s.load [(INA_STATUS_STATE, inaRelay), (INA_STATUS_ATTEMPT, a)]

/-- The node starts a run at the end of SETTLE (R97). -/
def State.startRun (s : State) (a : Nat) : State :=
  let s := s.enterRun a
  match s.onlyEnd with
  | some e => s.claimHead e
  | none =>
    if s.bothEnds then (s.sendIna 1 (s.alertFrame 1)).sendIna 2 (s.alertFrame 2)
    else s.commitAlone

/-- The node joins a run that reached it by end e: a candidate sends its own DISC (Table 4.3). -/
def State.joinRun (s : State) (a : Nat) : State :=
  let s := s.enterRun a
  match s.onlyEnd with
  | some e => s.claimHead e
  | none => s

/-- A frame of attempt a leads the node into a run it is not in: from IDLE and SETTLE, and out of an older
run (R97, R103, R107, R109). -/
def State.joins (s : State) (a : Nat) : Bool :=
  if s.inRun then serialNewer 8 a s.ina.attempt
  else !(s.inaState == inaSettle && s.ina.restartWait && serialNewer 8 s.ina.attempt a)

/-! ### Receiving (R98, R103, R105) -/

/-- A copy of an inauguration frame on a port: acted on, or the second copy of the same frame (R98). -/
def State.firstCopy (s : State) (p kind : Nat) (f : InaFrame) : Bool × State :=
  if !s.inaRuns || !s.receiverOn p || !s.lineUp p || !(f.kind == kind) then (false, s)
  else
    let e := portEnd p
    let seen := if e = 1 then s.ina.seen1 else s.ina.seen2
    let put := fun (s : State) (x : Option (Nat × InaFrame)) =>
      s.inaMap (fun i => if e = 1 then { i with seen1 := x } else { i with seen2 := x })
    match seen with
    | some (line, g) => if line ≠ p % 2 ∧ g = f then (false, put s none) else (true, put s (some (p % 2, f)))
    | none => (true, put s (some (p % 2, f)))

/-- An ALERT on end e: the node joins the run, and relays it where it is no candidate. -/
def State.takeAlert (s : State) (e : Nat) (f : InaFrame) : State :=
  if !s.joins f.attempt then s
  else
    let s := s.joinRun f.attempt
    if s.bothEnds then s.sendIna (3 - e) (s.alertFrame (3 - e)) else s

def execAlertReceive (port : Nat) (frame : InaFrame) (s : State) : Host.Outcome State Fault Refusal :=
  finish (match s.firstCopy port 2 frame with
    | (true, s) => s.takeAlert (portEnd port) frame
    | (false, s) => s)

/-- Whether the first of two 16-bit counters is the greater as serial numbers, and that greater one. -/
def serialMax (a b : Nat) : Nat := if serialNewer 16 b a then b else a

/-- R103, from the claim test on: the DISC of the best claim takes this node's places, and goes on or is
answered. -/
def State.passDisc (s : State) (e : Nat) (d : InaFrame) : State :=
  let orient := e - 1
  let l := s.places orient (d.pos + 1) d.hash (s.nbrUid e) (s.blockMembers orient)
  let (pos, hash, _) := lastPlace l
  let wasCab := !s.bothEnds && s.cabActive
  let d := { d with
    kind := 3, topo := serialMax d.topo s.topo, hash := hash, pos := pos, kept := Nat.min d.kept (s.lowestChanged l)
    flags := if s.cabActive && s.bothEnds then setBitOf d.flags 4 else d.flags }
  let s := (s.takePlaces l e).inaMap (fun i => { i with best := some (inaClaim d), mark := true })
  if s.endUp (3 - e) then (s.set INA_STATUS_STATE inaRelay).sendIna (3 - e) d
  else
    let r := { d with kind := 4, flags := if wasCab then setBitOf d.flags 5 else d.flags }
    ((s.inaMap (fun i => { i with ret := some r })).set INA_STATUS_STATE inaTailWait).sendIna e r

/-- A DISC on end e. -/
def State.takeDisc (s : State) (e : Nat) (d : InaFrame) : State :=
  if maxTrain < d.pos + 1 + s.legacyCount then s
  else
    let s := if s.joins d.attempt then s.joinRun d.attempt else s
    if !s.inRun || !(d.attempt == s.ina.attempt) then s
    else match s.ina.best with
      | some b => if b.better (inaClaim d) then s else s.passDisc e d
      | none => s.passDisc e d

def execDiscReceive (port : Nat) (frame : InaFrame) (s : State) : Host.Outcome State Fault Refusal :=
  finish (match s.firstCopy port 3 frame with
    | (true, s) => s.takeDisc (portEnd port) frame
    | (false, s) => s)

/-- The frame belongs to the run of the best claim at this node. -/
def State.ofRun (s : State) (f : InaFrame) : Bool :=
  s.inRun && f.attempt == s.ina.attempt && (match s.ina.best with | some b => b.uid == f.uid | none => false)

/-- The head answers a RET with its COMMIT, applied at once (R105, R106). -/
def State.answerRet (s : State) (e : Nat) (r : InaFrame) : State :=
  let c := (serialMax r.topo s.topo + 1) % 65536
  let counter := if c = 0 then 1 else c
  let kept := if r.kept = 257 then r.pos else r.kept - 1
  let flags := bits r.flags 0 6 + 64 * b2n !(hasBit r.flags 0)
  let f : InaFrame := { kind := 5, attempt := r.attempt, topo := counter, uid := s.trainUid, hash := r.hash, pos := r.pos, kept := kept, flags := flags }
  let s := s.applyCommit ⟨counter, r.hash, r.pos, kept, flags, s.trainUid, roleHead⟩
  (s.inaMap (fun i => { i with committed := true })).sendIna e f

/-- A RET on end e: recorded and relayed, or answered by the head. -/
def State.takeRet (s : State) (e : Nat) (r : InaFrame) : State :=
  if !s.ofRun r then s
  else if s.inaState = inaHeadWait then s.answerRet e r
  else if s.inaState = inaRelay then (s.inaMap (fun i => { i with ret := some r })).sendIna (3 - e) r
  else s

def execRetReceive (port : Nat) (frame : InaFrame) (s : State) : Host.Outcome State Fault Refusal :=
  finish (match s.firstCopy port 4 frame with
    | (true, s) => s.takeRet (portEnd port) frame
    | (false, s) => s)

/-- A COMMIT on end e is applied and sent on; the tail answers with DONE (R106). -/
def State.takeCommit (s : State) (e : Nat) (f : InaFrame) : State :=
  if !s.ofRun f || !(s.inaState == inaRelay || s.inaState == inaTailWait) then s
  else
    let tail := s.inaState == inaTailWait
    let s := (s.applyCommit ⟨f.topo, f.hash, f.pos, f.kept, f.flags, f.uid, if tail then roleTail else roleMid⟩).set INA_STATUS_STATE inaIdle
    if tail then s.sendIna e { f with kind := 6 } else s.sendIna (3 - e) f

def execInaugCommitReceive (port : Nat) (frame : InaFrame) (s : State) : Host.Outcome State Fault Refusal :=
  finish (match s.firstCopy port 5 frame with
    | (true, s) => s.takeCommit (portEnd port) frame
    | (false, s) => s)

/-- DONE goes toward the head, which returns to IDLE (Table 4.3). -/
def State.takeDone (s : State) (e : Nat) (f : InaFrame) : State :=
  if !(f.topo == s.topo) then s
  else if s.ina.committed then (s.inaMap (fun i => { i with committed := false })).set INA_STATUS_STATE inaIdle
  else if s.inaState == inaIdle && s.get INA_STATUS_ROLE == roleMid then s.sendIna (3 - e) f
  else s

def execDoneReceive (port : Nat) (frame : InaFrame) (s : State) : Host.Outcome State Fault Refusal :=
  finish (match s.firstCopy port 6 frame with
    | (true, s) => s.takeDone (portEnd port) frame
    | (false, s) => s)

/-! ### Triggers and timers (R95–R97, R107, R109) -/

/-- An end has stayed not linked for DOWN_HOLD; after a wake boot that trigger is suppressed (R95, R400). -/
def State.endHoldOver (s : State) (e : Nat) : State :=
  let quiet := if e = 1 then s.slp.holdEnd1 else s.slp.holdEnd2
  if s.inaRuns && s.ina.hold e && !quiet && (e == 1 || e == 2) then (s.inaMap (fun i => i.setHold e false)).inaTrigger else s

def execEndNotLinkedHold (side : Nat) (s : State) : Host.Outcome State Fault Refusal := finish (s.endHoldOver side)

/-- The neighbour UID recorded for an end at the last commit. -/
def State.recordedNbr (s : State) (e : Nat) : Nat := s.get (if e = 1 then INA_NBR1_UID_UID else INA_NBR2_UID_UID)

/-- The not-linked trigger of an end is no longer suppressed (R400). -/
def State.endHeard (s : State) (e : Nat) : State :=
  { s with slp := if e = 1 then { s.slp with holdEnd1 := false } else { s.slp with holdEnd2 := false } }

/-- A HELLO on a port: on an end that came back it is a trigger unless neighbour and counter match (R95, R96). -/
def State.takeHello (s : State) (p : Nat) (f : InaFrame) : State :=
  let e := portEnd p
  let fresh := s.ina.fresh e
  let same := f.uid == s.recordedNbr e && f.topo == s.topo
  let s := s.portMap p (fun l => { l with helloSeen := true })
  let s := s.inaMap (fun i => (if e = 1 then { i with nbr1 := f.uid } else { i with nbr2 := f.uid }).setFresh e false)
  if !fresh then s else if same then s.endHeard e else s.inaTrigger

def execHelloReceive (port : Nat) (frame : InaFrame) (s : State) : Host.Outcome State Fault Refusal :=
  finish (if s.inaRuns && s.receiverOn port && s.lineUp port && frame.kind == 1 then s.takeHello port frame else s)

/-- Every 10 ms, until a HELLO has been received (R96). -/
def execHelloRepeat (port : Nat) (s : State) : Host.Outcome State Fault Refusal :=
  finish (if port < 4 ∧ s.lineUp port ∧ !(s.port port).helloSeen then s.sendHello port else s)

/-- COUPLE_SENSE of an end has a new level after its debounce time. -/
def State.coupleSense (s : State) (e : Nat) (level : Bool) : State :=
  let (raw, deb) := if e = 1 then (INA_SENSE_CS1_RAW, INA_SENSE_CS1_DEB) else (INA_SENSE_CS2_RAW, INA_SENSE_CS2_DEB)
  let was := s.get deb
  let s := s.load [(raw, b2n level), (deb, b2n level)]
  if was = b2n level then s else s.inaTrigger

def execCoupleSenseDebounced (side : Nat) (level : Bool) (s : State) : Host.Outcome State Fault Refusal :=
  finish (if side = 1 ∨ side = 2 then s.coupleSense side level else s)

/-- CAB_ACTIVE has a new level after its debounce time. -/
def State.cabSense (s : State) (level : Bool) : State :=
  let was := s.cabActive
  let s := s.load [(INA_SENSE_CAB_RAW, b2n level), (INA_SENSE_CAB_DEB, b2n level)]
  if was = level then s else s.inaTrigger

def execCabActiveDebounced (level : Bool) (s : State) : Host.Outcome State Fault Refusal := finish (s.cabSense level)

def cmdInaugurate : CmdSpec :=
  { base := 0xA000, code := 1, accepted := fun s => s.inModes [modeNative, modeBorder], run := fun _ s => s.inaTrigger }

def execInaugurate (path : Path) (arg : Nat) (s : State) : Host.Outcome State Fault Refusal :=
  finish (s.command cmdInaugurate path arg)

/-- SETTLE is over: the run starts with ATTEMPT 0 (R97). -/
def execSettleEnd (s : State) : Host.Outcome State Fault Refusal :=
  finish (if s.inaRuns && s.inaState == inaSettle && !s.ina.restartWait then s.startRun 0 else s)

/-- The wait of a restart is over (R107). -/
def execRunRestartWaitEnd (s : State) : Host.Outcome State Fault Refusal :=
  finish (if s.inaRuns && s.inaState == inaSettle && s.ina.restartWait && !s.flag INA_STATUS_FAILED then s.startRun s.ina.attempt
    else s)

/-- 6 ms in a run without COMMIT (R107). -/
def execRunTimeout (s : State) : Host.Outcome State Fault Refusal :=
  finish (if s.inaRuns && s.inRun then s.abandonRun else s)

/-- 100 ms after an attempt was abandoned while FAILED is set (R109). -/
def execFailedRetry (s : State) : Host.Outcome State Fault Refusal :=
  finish (if s.inaRuns && s.inaState == inaSettle && s.ina.restartWait && s.flag INA_STATUS_FAILED then s.startRun s.ina.attempt
    else s)

/-- Two basic cycles after the commit (R115). -/
def execGraceEnd (s : State) : Host.Outcome State Fault Refusal := finish (s.set INA_STATUS_GRACE 0)

/-! ### Hop delay table (R117) -/

/-- LN_DELAY of a port, as a register. -/
def State.delayWord (s : State) (p : Nat) : Nat :=
  s.get (LN_DELAY_DELAY p) + 2 ^ 24 * s.get (LN_DELAY_SAMPLES p) + 2 ^ 30 * s.get (LN_DELAY_SRC p)
    + 2 ^ 31 * s.get (LN_DELAY_VALID p)

/-- The upstream port whose LN_DELAY is sent. -/
def State.hopPort (s : State) : Nat :=
  let a := if s.headEnd = 1 then 0 else 2
  let va := s.flag (LN_DELAY_VALID a)
  let vb := s.flag (LN_DELAY_VALID (a + 1))
  if va && vb then (if s.get (LN_DELAY_DELAY a) < s.get (LN_DELAY_DELAY (a + 1)) then a + 1 else a)
  else if va then a
  else if vb then a + 1
  else if (s.port a).held then a
  else a + 1

/-- Payload of HOPDLY (Table 5.6). -/
def hopPayload (pos topo word uid : Nat) : Bytes := le 2 pos ++ le 2 topo ++ le 4 word ++ le 8 uid

/-- A node other than the head sends its HOPDLY; a border node one for each legacy position of its block too. -/
def State.sendHops (s : State) : State :=
  if !s.inaSends || s.position == 0 then s
  else
    let s := if s.isHead then s
      else s.originate (controlFrame 2 groupAll (hopPayload s.position s.topo (s.delayWord s.hopPort) s.trainUid)) none
    if s.mode = modeBorder then
      (List.range s.ina.blockL).foldl (fun s k =>
        s.originate (controlFrame 2 groupAll (hopPayload (s.legacyPos (k + 1)) s.topo 0 (s.legacyUid (k + 1)))) none) s
    else s

def execHopdlySend (s : State) : Host.Outcome State Fault Refusal := finish s.sendHops

/-- A HOPDLY under the present counter: its delay waits for the next epoch, its UID is known at once (R117,
R256). -/
def State.takeHop (s : State) (f : MsgFrame) : State :=
  let s := s.takeInbox f
  let q := ofLe (slice 0 2 f.payload)
  let word := ofLe (slice 4 4 f.payload)
  let uid := ofLe (slice 8 8 f.payload)
  if !s.controlActs f 2 || !(ofLe (slice 2 2 f.payload) == s.topo) || q == 0 || decide (s.trainLen < q) then s
  else
    let s := if q = 1 then s
      else s.inaMap (fun i => { i with hopPending := i.hopPending ++ [(q - 2, bits word 0 20, hasBit word 31)] })
    let s := s.inaMap (fun i => { i with uids := tabPut q uid i.uids })
    s.resolveFlows.resolveWindows.releaseReturned

def execHopdlyReceive (frame : MsgFrame) (s : State) : Host.Outcome State Fault Refusal := finish (s.takeHop frame)

/-- The values received since the last epoch enter the table (R117). -/
def State.hopEpoch (s : State) : State :=
  let l := s.ina.hopPending
  l.foldl (fun s (i, d, v) => s.load [(INA_HOPDLY_DELAY i, d), (INA_HOPDLY_RCVD i, 1), (INA_HOPDLY_VALID i, b2n v)])
    (s.inaMap (fun i => { i with hopPending := [] }))

end Sys2Proof.Machine
end

