-- ==== Sys2Proof/Machine/Consist.lean ====
section
/-! DEFINITION. The consist network: schedule, frames, the controller, the guardian, links and commands
(R186–R213). Times are in ns of local uptime. -/

namespace Sys2Proof.Machine

open Reg

/-! ### The schedule (R190, R191) -/

/-- T_CC, the lengths of a slot and a minislot, ns. -/
def State.tcc (s : State) : Nat := 125000 * (s.get CST_SCHED2_BC_N + 1) / 2 ^ s.get CST_SCHED0_FRACTION
def State.slotNs (s : State) : Nat := 8 * s.get CST_SCHED0_L_SLOT
def State.miniNs (s : State) : Nat := 8 * s.get CST_SCHED1_MS_LEN

/-- Start and end of the dynamic segment, from the cycle start. -/
def State.dynStart (s : State) : Nat := s.get CST_SCHED0_S * s.slotNs
def State.dynEnd (s : State) : Nat := s.dynStart + s.get CST_SCHED1_M * s.miniNs

/-- No owner. -/
abbrev noOwner : Nat := 15

/-- The owner of static slot i in a cycle with counter c. -/
def State.slotOwner (s : State) (c i : Nat) : Nat :=
  if 1 ≤ i ∧ i ≤ s.get CST_SCHED0_S ∧ c % 2 ^ s.get (CST_SLOT_REP (i - 1)) = s.get (CST_SLOT_BASE (i - 1)) then
    s.get (CST_SLOT_OWNER (i - 1))
  else noOwner

/-- The owner of dynamic ID i. -/
def State.dynOwner (s : State) (i : Nat) : Nat :=
  if 1 ≤ i ∧ i ≤ s.get CST_SCHED1_M then bits (s.get (CST_DYN_OWNERS ((i - 1) / 8))) (4 * ((i - 1) % 8)) 4 else noOwner

/-- The owner of a FRAME_ID in a cycle. -/
def State.frameOwner (s : State) (c id : Nat) : Nat := if id ≤ 64 then s.slotOwner c id else s.dynOwner (id - 64)

/-- Own number, and the cycle counter. -/
def State.spoke (s : State) : Nat := s.get CST_STATUS_SPOKE
def State.cstCycle (s : State) : Nat := s.get CST_STATUS_CYCLE

/-- The slot in which the node may start the cycle (R208). -/
def State.coldSlot (s : State) : Option Nat :=
  (positions (s.get CST_SCHED0_S)).find? (fun i => s.flag (CST_SLOT_COLD_SLOT (i - 1)) && s.get (CST_SLOT_OWNER (i - 1)) == s.spoke)

/-- The star follows its own train time (R202). -/
def State.lockBc (s : State) : Bool := s.flag CST_STATUS_LOCK_BC && s.isStar

/-- A nominal interval in local uptime, and back: scaled by an accumulated rate correction, or at a star with
LOCK_BC by the rate ratio k (R201, R202). -/
def State.toLocal (s : State) (rate d : Int) : Int :=
  if s.lockBc then Int.fdiv (d * s.tim.kDen) s.tim.kNum else d + Int.fdiv (d * rate) 100000000
def State.toNominal (s : State) (rate d : Int) : Int :=
  if s.lockBc then Int.fdiv (d * s.tim.kNum) s.tim.kDen else Int.fdiv (d * 100000000) (100000000 + rate)

/-- The controller's accumulated rate correction, 0.01 ppm. -/
def State.cstRate (s : State) : Int := signed 16 (s.get CST_SYNC_RATE)

/-- Action point of a static slot, from the cycle start. -/
def State.slotAp (s : State) (i : Nat) : Int := ((i - 1) * s.slotNs + 400 : Nat)

/-! ### Frames (R189) -/

/-- Header bytes 0–5. -/
def cstHead (f : ConsistFrame) : Bytes :=
  le 2 f.frameId ++ le 1 f.sender ++ le 1 f.cycle ++ le 1 f.len ++ le 1 f.flags
def cstHeader (f : ConsistFrame) : Bytes := cstHead f ++ le 2 f.hcrc

/-- Check sequences. -/
def cstHeaderOk (f : ConsistFrame) : Bool := f.hcrc == crc16 (cstHead f)
def cstFrameOk (f : ConsistFrame) : Bool :=
  cstHeaderOk f && f.crc == crc32 (cstHeader f ++ f.payload) && f.len == f.payload.length && decide (f.len ≤ 254)

/-- FLAGS COLD, REF, NULL. -/
def isCold (f : ConsistFrame) : Bool := hasBit f.flags 0
def isRefFrame (f : ConsistFrame) : Bool := hasBit f.flags 1
def isNull (f : ConsistFrame) : Bool := hasBit f.flags 2

/-- Sender and cycle of a header. -/
def cstSender (f : ConsistFrame) : Nat := f.sender % 16
def cstCount (f : ConsistFrame) : Nat := f.cycle % 64

/-- A frame with its check sequences. -/
def cstSeal (f : ConsistFrame) : ConsistFrame :=
  let f := { f with hcrc := crc16 (cstHead f) }
  { f with crc := crc32 (cstHeader f ++ f.payload) }

/-! ### Counting dynamic IDs (R195) -/

/-- Minislots of a frame of p payload bytes. -/
def State.minislots (s : State) (p : Nat) : Nat := ceilDiv (800 + (p + 14) * 80) (Nat.max 1 s.miniNs)

/-- The count moved on to the instant x by empty minislots. -/
def State.dynAt (s : State) (c : DynCount) (x : Int) : DynCount :=
  let n := if x < c.t then 0 else (fdiv (x - c.t) (Nat.max 1 s.miniNs)).toNat
  { c with id := c.id + n, t := c.t + n * s.miniNs }

/-- The count at the start of a dynamic segment. -/
def State.dynReset (s : State) : DynCount := { t := s.dynStart }

/-- A frame that starts at x is counted where it starts in the window of an ID. -/
def State.dynTake (s : State) (c : DynCount) (x : Int) (headerOk : Bool) (len : Nat) : Bool × DynCount :=
  let c := s.dynAt c x
  if absInt (x - c.t - 400) ≤ 200 ∧ c.t + s.miniNs ≤ s.dynEnd then
    (true, { c with id := c.id + 1, t := c.t + s.minislots (if headerOk then len else 0) * s.miniNs, dead := c.dead || !headerOk })
  else (false, c)

/-! ### Outgoing frames (R194, R198, R203) -/

/-- Ports on which the node's drivers send: those of R210, without the ones the guardian keeps idle. -/
def State.cstOpenPorts (s : State) : Nat :=
  andNot s.cstDrivers ((List.range 8).map (fun n => if s.get (CST_PSTATUS_GUARD n) = 0 then 0 else 2 ^ n)).sum

/-- The node puts consist frames on its wires. -/
def State.cstSends (s : State) : Bool := s.mode == modeNative && s.permission

/-- The guardian enters RUN on a grid (R207). -/
def State.anchorGuard (s : State) (start : Int) (count : Nat) : State :=
  let s := s.cstMap (fun c => { c with
    gStart := start, gCycle := count, gDevs := [], gLastDevs := [], gRate := 0, gNitOffset := 0, gDyn := s.dynReset })
  (s.load [(CST_STATUS_GSTATE, guardRun), (CST_EVENT_RUN, 1)]).record 0x10000 0x4003 []

/-- A star's own frame passes its guardian: in RUN at most one COLD frame a cycle, in STARTUP only a COLD frame
on an unlocked star (R207). -/
def State.starPasses (s : State) (cold : Bool) : Bool :=
  !s.isStar || (if s.get CST_STATUS_GSTATE = guardRun then !cold || !s.cst.coldThisCycle else cold && s.cst.locked.isNone)

/-- One own frame leaves, `offset` ns after its action point at the star's pins. -/
def State.consistSend (s : State) (id : Nat) (payload : Bytes) (null_ : Bool) (offset : Int) : State :=
  let cold := s.get CST_STATUS_STATE == cstColdstart
  let ref := s.lockBc && id == 1
  let f := cstSeal { frameId := id, sender := s.spoke, cycle := s.cstCycle, len := payload.length
                     flags := b2n cold + 2 * b2n ref + 4 * b2n null_, hcrc := 0, payload := payload, crc := 0 }
  let pass := s.starPasses cold
  let s := if s.isStar && pass && cold then
      (if s.get CST_STATUS_GSTATE = guardRun then s else s.anchorGuard s.cst.start s.cstCycle).cstMap (fun c => { c with coldThisCycle := true })
    else s
  let s := s.cstMap (fun c => { c with devs := ⟨s.spoke, 0, decide (id ≤ 64), false⟩ :: c.devs })
  if s.cstSends && pass then s.emit (.consistFrame s.cstOpenPorts (offset - s.get CST_SCHED2_LINK_DLY) f) else s

/-- The content committed at least 2 µs ago and not yet sent, which counts as sent now (R198). -/
def State.takeContent (s : State) (id : Nat) : Option Bytes × State :=
  let (sent, l) := tabGet ([], []) s.cst.tx id
  match l.find? (fun e => decide (e.2 + 2000 ≤ s.uptime)) with
  | some (d, _) =>
    let young := l.filter (fun e => decide (s.uptime < e.2 + 2000))
    (some d, s.cstMap (fun c => { c with tx := tabPut id (d, young) c.tx }))
  | none => (none, s.cstMap (fun c => { c with tx := tabPut id (sent, l) c.tx }))

/-- The frame of an own static slot. -/
def State.sendStatic (s : State) (id : Nat) (offset : Int) : State :=
  let n := s.get CST_SCHED1_P_S
  match s.takeContent id with
  | (some d, s) => s.consistSend id (fit n d) false offset
  | (none, s) => s.consistSend id (fit n (tabGet ([], []) s.cst.tx id).1) true offset

/-- The frame of an own dynamic ID, where content waits and its minislots fit (R195). -/
def State.sendDynamic (s : State) (id : Nat) (offset : Int) : State :=
  let i := id - 64
  let c := s.cst.dyn
  let t : Int := c.t + ((i : Int) - c.id) * s.miniNs
  let len := match (tabGet ([], []) s.cst.tx id).2.find? (fun e => decide (e.2 + 2000 ≤ s.uptime)) with
    | some (d, _) => Nat.min 254 d.length
    | none => 255
  if i < c.id || c.dead || len == 255 || decide ((s.dynEnd : Int) < t + s.minislots len * s.miniNs) then s
  else match s.takeContent id with
    | (some d, s) =>
      let s := s.consistSend id (d.take 254) false offset
      s.cstMap (fun k => { k with dyn := { k.dyn with id := i + 1, t := t + s.minislots len * s.miniNs } })
    | (none, s) => s

/-- The mean deviation of the valid frames received in this cycle, where there are two (R203). -/
def State.meanDev (s : State) : Option Int :=
  let l := (s.cst.devs.filter (fun d => !(d.sender == s.spoke))).map (·.dev)
  if l.length < 2 then none else some (fdiv (l.foldl (· + ·) 0) l.length)

/-- The self-check of an ACTIVE spoke: whether it may send, and the state after (R203). -/
def State.selfCheck (s : State) : Bool × State :=
  if s.isStar then (true, s)
  else match s.meanDev with
    | none => (true, s)
    | some eo =>
      if absInt eo ≤ 100 then (true, s)
      else if absInt eo ≤ 180 then (true, (s.cstMap (fun c => { c with shift := eo })).bump CST_STAT_SELF_RESYNC)
      else (false, s.bump CST_STAT_SELF_SUPPRESS)

/-! ### Phase lock (R202) -/

/-- The star can lock its phase now. -/
def State.phaseUsable (s : State) : Bool :=
  (s.timState == timLocked || s.timState == timMaster) && s.get CST_SCHED2_BC_N == s.get CYC_STATUS_BC_IN_USE

/-- CST_PHASE, in 2⁻¹⁶ ns. -/
def State.phaseTarget (s : State) : Int := signed 32 (s.get CST_PHASE_TARGET) * 8 * nsUnit

/-- φ, ns: the cycle start minus the nearest target instant. -/
def State.phase (s : State) : Int :=
  let t : Int := s.tcc * nsUnit
  let r := (ttAt s.tim (s.cst.start * nsUnit) - s.phaseTarget) % t
  fdiv (if 2 * r < t then r else r - t) 65536

/-- φ clamped to ±100 ns. -/
def State.phaseStep (s : State) : Int :=
  if s.lockBc && s.phaseUsable then (let p := s.phase; if p < -100 then -100 else if 100 < p then 100 else p) else 0

/-- PHASE_LOCK and φ at the start of a star's cycle. -/
def State.showPhase (s : State) : State :=
  if !s.lockBc then s
  else if s.phaseUsable then
    let p := s.phase
    let on := decide (absInt p ≤ 100)
    let was := s.flag CST_STATUS_PHASE_LOCK
    let s := s.load [(CST_PHASE_ERR_ERR, satInt 32 (fdiv p 8)), (CST_STATUS_PHASE_LOCK, b2n on)]
    if on && !was then s.set CST_EVENT_PHASE_LOCK 1 else s
  else
    let s := s.set CST_STATUS_PHASE_LOCK 0
    if s.get CST_SCHED2_BC_N = s.get CYC_STATUS_BC_IN_USE then s else s.set CST_EVENT_BC_MISMATCH 1

/-- The local uptime at which the next target instant falls (R208). -/
def State.nextTarget (s : State) : Int :=
  let t : Int := s.tcc * nsUnit
  let tt := s.trainTime
  let next := (Int.fdiv (tt - s.phaseTarget) t + 1) * t + s.phaseTarget
  s.uptime + Int.fdiv ((next - tt) * s.tim.kDen) (s.tim.kNum * nsUnit)

/-! ### The controller (Table 7.4) -/

/-- ACTIVE is entered. -/
def State.cstActivate (s : State) : State :=
  ((s.load [(CST_STATUS_STATE, cstActive), (CST_EVENT_ACTIVE, 1)]).dropLine 44).cstMap (fun c => { c with
    silent := 0, heardSinceActive := false, heardThisCycle := false })

/-- Synchronization is lost (R206). -/
def State.syncLost (s : State) : State :=
  ((s.cstEnterListen.bump CST_STAT_SYNC_LOST).set CST_EVENT_SYNC_LOST 1 |>.record 0x10000 0x4004 []).assertLine 44

/-- An own action point: FRAME_ID. -/
def State.actionPoint (s : State) (id : Nat) : State :=
  let st := s.get CST_STATUS_STATE
  if !s.cstRuns || !(s.frameOwner s.cstCycle id == s.spoke) then s
  else if st = cstColdstart then
    if s.coldSlot = some id ∧ 0 < s.cst.coldLeft then
      (s.cstMap (fun c => { c with coldLeft := c.coldLeft - 1 })).sendStatic id 0
    else s
  else if st = cstActive then
    match s.selfCheck with
    | (false, s) => s
    | (true, s) =>
      let offset := s.cst.shift - (if id = 1 then s.phaseStep else 0)
      if id ≤ 64 then s.sendStatic id offset else s.sendDynamic id offset
  else s

def execConsistActionPoint (frameId : Nat) (s : State) : Host.Outcome State Fault Refusal := finish (s.actionPoint frameId)

/-- A node takes a frame as its grid (R205, Table 7.4). -/
def State.integrate (s : State) (f : ConsistFrame) (at_ : Int) : State :=
  (s.load [(CST_STATUS_STATE, cstIntegrate), (CST_STATUS_CYCLE, cstCount f), (CST_SYNC_RATE, 0)]).cstMap (fun c => { c with
    start := at_ - s.slotAp f.frameId, devs := [⟨cstSender f, 0, true, isRefFrame f⟩], lastDevs := [], nitOffset := 0, shift := 0
    dyn := s.dynReset, fullCycle := false, validSeen := false, mismatch := false, coldLeft := 0, silent := 0
    heardThisCycle := true })

/-- A valid frame with new data goes to its flows; its slot is fresh (R199). -/
def State.consistData (s : State) (p : Nat) (f : ConsistFrame) : State :=
  if isNull f then s
  else
    let id := f.frameId
    let s := s.cstMap (fun c => { c with missed := tabErase id c.missed })
    let s := if id ≤ 64 ∧ s.bitAt (CST_STALE_STALE ((id - 1) / 32)) ((id - 1) % 32) then
        (s.clearBit (CST_STALE_STALE ((id - 1) / 32)) ((id - 1) % 32)).consistFlowsStale id false else s
    s.offer (0x20 + p) { ch := 0x20 + p, sel := id, data := f.payload, head := cstHeader f }

/-- The checks of R199 that need no grid, of a static frame. -/
def State.gridFree (s : State) (f : ConsistFrame) : Bool :=
  cstFrameOk f && decide (1 ≤ f.frameId ∧ f.frameId ≤ s.get CST_SCHED0_S) && f.len == s.get CST_SCHED1_P_S
    && cstSender f == s.slotOwner (cstCount f) f.frameId

/-- A frame at a node with a grid: x is its start from the cycle start at the star's pins, nominal. -/
def State.onGrid (s : State) (p : Nat) (f : ConsistFrame) (x : Int) : State :=
  let dynamic := decide ((s.dynStart : Int) ≤ x)
  let c := s.dynAt s.cst.dyn x
  let id := if dynamic then c.id else f.frameId
  let dev := if dynamic then x - c.t - 400 else x - s.slotAp f.frameId
  let s := if dynamic then s.cstMap (fun k => { k with dyn := (s.dynTake k.dyn x (cstHeaderOk f) f.len).2 }) else s
  let fits := if dynamic then f.frameId == 64 + id else decide (1 ≤ f.frameId ∧ f.frameId ≤ s.get CST_SCHED0_S) && f.len == s.get CST_SCHED1_P_S
  let sound := cstFrameOk f && fits && cstSender f == s.frameOwner s.cstCycle f.frameId && decide (absInt dev ≤ 400)
  if !sound then s
  else if !(cstCount f == s.cstCycle) then s.cstMap (fun k => { k with mismatch := true })
  else
    let s := s.cstMap (fun k => { k with
      devs := ⟨cstSender f, dev, !dynamic, isRefFrame f⟩ :: k.devs
      validSeen := true, heardThisCycle := true, heardSinceActive := true })
    s.consistData p f

/-- Delay from the star's pins to this node's: none at the star (R200). -/
def State.cstFar (s : State) : Int := if s.isStar then 0 else s.get CST_SCHED2_LINK_DLY + 160

/-- A complete frame reaches the controller. -/
def State.controllerTakes (s : State) (p : Nat) (f : ConsistFrame) (rx : Int) : State :=
  let at_ := rx - s.cstFar
  let st := s.get CST_STATUS_STATE
  if st = cstListen then (if s.gridFree f then (s.integrate f at_).consistData p f else s)
  else if st = cstColdstart then
    if s.gridFree f && isCold f && !(cstSender f == s.spoke) then (s.integrate f at_).consistData p f else s
  else if st = cstIntegrate ∨ st = cstActive then s.onGrid p f (s.toNominal s.cstRate (at_ - s.cst.start))
  else s

/-! ### The guardian (R194–R197, R207) -/

/-- The hidden state of a consist port. -/
def State.cstPort (s : State) (p : Nat) : CstPort := tabGet {} s.cst.ports p
def State.cstPortMap (s : State) (p : Nat) (f : CstPort → CstPort) : State :=
  s.cstMap (fun c => { c with ports := tabPut p (f (s.cstPort p)) c.ports })

/-- Base of a port's block. -/
def cstPortBase (p : Nat) : Nat := 0x1_1000 + 0x400 * p

/-- A port's third time out of sync within 1 s isolates it (R197). -/
def State.isolate (s : State) (p : Nat) : State :=
  ((s.set (CST_PSTATUS_GUARD p) 2).setBit CST_EVENT_PORT_ISO p |>.record (cstPortBase p) 0x4002 []).assertLine 43

/-- A port is out of sync: blanked for the two full cycles that follow (R196). -/
def State.outOfSync (s : State) (p : Nat) : State :=
  let oos := s.uptime :: (s.cstPort p).oos.filter (fun t => decide (s.uptime ≤ t + 1000000000))
  let s := s.cstPortMap p (fun c => { c with violations := 0, oos := oos.take 3 })
  let s := ((s.set (CST_PSTATUS_GUARD p) 1).setBit CST_EVENT_PORT_OOS p).cstMap (fun c => { c with blanked := tabPut p 3 c.blanked })
  if 3 ≤ oos.length then s.isolate p else s

/-- A violation of a port; one whose windows are closed already is only counted (R196). -/
def State.violation (s : State) (p : Nat) (count : Field) : State :=
  let s := s.bump count
  let s := match s.rateCheck 5 p 0 tenMs with
    | (true, sup, s) => s.record (cstPortBase p) 0x4001 (le 2 sup)
    | (false, _, s) => s
  if !(s.get (CST_PSTATUS_GUARD p) == 0) then s
  else
    let n := (s.cstPort p).violations + 1
    if 2 ≤ n then s.outOfSync p else s.cstPortMap p (fun c => { c with violations := n })

/-- The guardian forwards a frame of port p to every other open port. -/
def State.forwardFrom (s : State) (p id : Nat) : State :=
  let s := s.cstMap (fun c => { c with forwarding := some (p, id) })
  if s.cstSends then s.emit (.consistForward (clearBitOf s.cstOpenPorts p)) else s

/-- A frame of port p is cut with /H/. -/
def State.cutFrom (s : State) (p : Nat) : State :=
  let s := s.cstMap (fun c => { c with forwarding := none, locked := if c.locked = some p then none else c.locked })
  if s.cstSends then s.emit (.consistCut p) else s

/-- A frame start at a guardian in STARTUP. -/
def State.startupStart (s : State) (p : Nat) (f : ConsistFrame) (rx : Int) : State :=
  match s.cst.locked with
  | some _ => if cstHeaderOk f && isCold f then s.bump (CST_PVIOL_COLD_BLOCKED p) else s
  | none =>
    let s := (s.cstMap (fun c => { c with locked := some p })).forwardFrom p f.frameId
    if !cstHeaderOk f || !isCold f then (s.cutFrom p).bump (CST_PVIOL_END_HDR p)
    else if s.gridFree f && cstSender f == p then
      (s.anchorGuard (rx - s.slotAp f.frameId) (cstCount f)).cstMap (fun c => { c with coldThisCycle := true })
    else s

/-- A frame start at a guardian in RUN: x from the cycle start, nominal. -/
def State.runStart (s : State) (p : Nat) (f : ConsistFrame) (x : Int) : State :=
  let dynamic := decide ((s.dynStart : Int) ≤ x)
  let i := if x < 0 then 0 else (fdiv x (Nat.max 1 s.slotNs)).toNat + 1
  let c := s.dynAt s.cst.gDyn x
  let open_ := if dynamic then decide (absInt (x - c.t - 400) ≤ 200 ∧ c.t + s.miniNs ≤ s.dynEnd) && s.dynOwner c.id == p
    else decide (absInt (x - s.slotAp i) ≤ 200) && s.slotOwner s.cst.gCycle i == p
  if !open_ || !(s.get (CST_PSTATUS_GUARD p) == 0) then s.violation p (CST_PVIOL_START p)
  else
    let ok := cstHeaderOk f
    let s := if dynamic then s.cstMap (fun k => { k with gDyn := (s.dynTake k.gDyn x ok f.len).2 }) else s
    let s := s.forwardFrom p f.frameId
    if ok && isCold f then
      if s.cst.coldThisCycle then (s.cutFrom p).bump (CST_PVIOL_COLD_BLOCKED p)
      else s.cstMap (fun k => { k with coldThisCycle := true })
    else if dynamic && (!ok || decide ((s.dynEnd : Int) < c.t + s.minislots f.len * s.miniNs)) then
      (s.cutFrom p).violation p (CST_PVIOL_END_HDR p)
    else s

/-- A transmission starts on a port of the star at uptime rx. -/
def State.guardStart (s : State) (p : Nat) (f : ConsistFrame) (rx : Int) : State :=
  if !s.cstRuns || !s.isStar || decide (8 ≤ p) || !(s.get (CST_PSTATUS_LINK p) == 2) then s
  else if s.get CST_STATUS_GSTATE = guardRun then s.runStart p f (s.toNominal s.cst.gRate (rx - s.cst.gStart))
  else if s.get (CST_PSTATUS_GUARD p) = 0 then s.startupStart p f rx
  else s.violation p (CST_PVIOL_START p)

def execGuardianFrameStart (port : Nat) (frame : ConsistFrame) (rx : Int) (s : State) : Host.Outcome State Fault Refusal :=
  finish (s.guardStart port frame rx)

/-- A window ends while a forwarded frame still runs. -/
def execGuardianCut (port : Nat) (s : State) : Host.Outcome State Fault Refusal :=
  finish (match s.cst.forwarding with
    | some (p, _) => if p = port then (s.cutFrom p).violation p (CST_PVIOL_END_HDR p) else s
    | none => s)

/-- Two full cycles of blanking are over. -/
def execGuardianBlankEnd (port : Nat) (s : State) : Host.Outcome State Fault Refusal :=
  finish (if s.get (CST_PSTATUS_GUARD port) = 1 ∧ port < 8 ∧ tabGet 0 s.cst.blanked port = 0 then
    (s.set (CST_PSTATUS_GUARD port) 0).cstMap (fun c => { c with blanked := tabErase port c.blanked }) else s)

/-- 2 × T_CC without a valid frame from any port. -/
def execGuardianIdleTimeout (s : State) : Host.Outcome State Fault Refusal :=
  finish (if s.get CST_STATUS_GSTATE = guardRun then
    (s.set CST_STATUS_GSTATE guardStartup).cstMap (fun c => { c with locked := none, forwarding := none }) else s)

/-- A complete frame has passed the guardian: a correctly timed frame of its port, and a deviation. -/
def State.guardDone (s : State) (p : Nat) (f : ConsistFrame) (rx : Int) : State :=
  let x := s.toNominal s.cst.gRate (rx - s.cst.gStart)
  let dev := x - s.slotAp f.frameId
  let s := s.cstPortMap p (fun c => { c with violations := 0 })
  s.cstMap (fun c => { c with
    forwarding := none, locked := if c.locked = some p then none else c.locked
    gDevs := if s.get CST_STATUS_GSTATE = guardRun ∧ s.gridFree f ∧ absInt dev ≤ 400 then
        ⟨cstSender f, dev, true, isRefFrame f⟩ :: c.gDevs else c.gDevs })

/-- A frame has been received on a port in full. At a star only a frame that the guardian forwards reaches the
controller. -/
def State.consistReceive (s : State) (p : Nat) (f : ConsistFrame) (rx : Int) : State :=
  if !s.cstRuns || decide (8 ≤ p) || (!s.isStar && !(p == 0)) || !(s.get (CST_PSTATUS_LINK p) == 2) then s
  else
    let s := s.wrapUp (CST_PFRM_FRAMES p)
    if !s.isStar then s.controllerTakes p f rx
    else match s.cst.forwarding with
      | some (q, _) => if q = p then (s.guardDone p f rx).controllerTakes p f rx else s
      | none => s

def execConsistFrameReceive (port : Nat) (frame : ConsistFrame) (rx : Int) (s : State) : Host.Outcome State Fault Refusal :=
  finish (s.consistReceive port frame rx)

/-! ### Correction (R201, R206) -/

/-- An integer into a rising list. -/
def insertInt (x : Int) : List Int → List Int
  | [] => [x]
  | y :: t => if x ≤ y then x :: y :: t else y :: insertInt x t

/-- The fault-tolerant midpoint (R201). -/
def midpoint (l : List Int) : Int :=
  let m := l.foldr insertInt []
  let m := if 3 ≤ m.length then m.tail.dropLast else m
  match m.head?, m.getLast? with
  | some a, some b => fdiv (a + b) 2
  | _, _ => 0

/-- Offset and rate change of one cycle's static frames, and whether a REF frame gave them. -/
def corrections (now last : List Deviation) : Int × Int × Bool :=
  let now := now.filter (·.static_)
  let change := fun (d : Deviation) => (last.find? (fun e => e.static_ && e.sender == d.sender)).map (fun e => d.dev - e.dev)
  match now.find? (·.isRef) with
  | some r => (r.dev, (change r).getD 0, true)
  | none => (midpoint (now.map (·.dev)), midpoint (now.filterMap change), false)

/-- A change of deviation per cycle as a rate, 0.01 ppm. -/
def State.rateStep (s : State) (d : Int) : Int := fdiv (d * 100000000) (Nat.max 1 s.tcc)

/-- The silence count at the end of a cycle's frames (R206). -/
def State.silence (s : State) : State :=
  s.cstMap (fun c => { c with silent := if c.heardThisCycle then 0 else c.silent + 1, heardThisCycle := false })

/-- The controller's correction at the NIT. -/
def State.controllerNit (s : State) : State :=
  let st := s.get CST_STATUS_STATE
  if !(st == cstIntegrate || st == cstActive) then s
  else
    let s := s.silence
    if s.lockBc then s.cstMap (fun c => { c with nitOffset := -s.phaseStep })
    else
      let (off, change, ref) := corrections s.cst.devs s.cst.lastDevs
      let rate := s.cstRate + s.rateStep change
      let silent := st = cstActive ∧ 2 ≤ s.cst.silent ∧ s.cst.heardSinceActive
      if 400 < absInt off ∨ 6000 < absInt rate ∨ silent then s.syncLost
      else
        (s.load [(CST_SYNC_OFFSET, satInt 16 off), (CST_SYNC_RATE, satInt 16 rate), (CST_STATUS_REF_SRC, b2n ref)]).cstMap
          (fun c => { c with nitOffset := off })

/-- The guardian's correction at the NIT. -/
def State.guardNit (s : State) : State :=
  if !(s.get CST_STATUS_GSTATE == guardRun) then s
  else if s.lockBc then s.cstMap (fun c => { c with gNitOffset := -s.phaseStep })
  else
    let (off, change, _) := corrections s.cst.gDevs s.cst.gLastDevs
    s.cstMap (fun c => { c with gNitOffset := off, gRate := c.gRate + s.rateStep change })

def execConsistNitCorrection (s : State) : Host.Outcome State Fault Refusal :=
  finish (if s.cstRuns then s.guardNit.controllerNit else s)

/-! ### Cycle start (R199, R209) -/

/-- Static slots with a foreign owner in the cycle with counter c. -/
def State.watchedSlots (s : State) (c : Nat) : List Nat :=
  (positions (s.get CST_SCHED0_S)).filter (fun i => !(s.slotOwner c i == noOwner) && !(s.slotOwner c i == s.spoke))

/-- A slot without new data for STALE_LIM owned cycles is stale. -/
def State.staleSlot (s : State) (i : Nat) : State :=
  let f := CST_STALE_STALE ((i - 1) / 32)
  if Nat.max 1 (s.get CST_CFG_STALE_LIM) ≤ tabGet 0 s.cst.missed i ∧ !s.bitAt f ((i - 1) % 32) then
    ((s.setBit f ((i - 1) % 32)).set CST_EVENT_STALE 1).consistFlowsStale i true
  else s

/-- The owned cycles of the cycle that starts count as missed until a frame arrives. -/
def State.countSlots (s : State) : State :=
  let s := (positions (s.get CST_SCHED0_S)).foldl State.staleSlot s
  (s.watchedSlots s.cstCycle).foldl (fun s i =>
    s.cstMap (fun c => { c with missed := tabPut i (Nat.min 16 (tabGet 0 c.missed i + 1)) c.missed })) s

/-- The controller's cycle starts. -/
def State.controllerCycle (s : State) : State :=
  let st := s.get CST_STATUS_STATE
  if !(st == cstColdstart || st == cstIntegrate || st == cstActive) then s
  else
    let s := s.set CST_STATUS_CYCLE (s.cstCycle + 1)
    let pass := s.cst.fullCycle && s.cst.validSeen && !s.cst.mismatch
    let s := s.cstMap (fun c => { c with
      start := c.start + s.toLocal s.cstRate s.tcc + c.nitOffset, nitOffset := 0, shift := 0
      lastDevs := c.devs, devs := [], dyn := s.dynReset, fullCycle := true, validSeen := false, mismatch := false })
    let s := s.countSlots.showPhase
    if (st = cstColdstart ∧ s.cst.coldLeft = 0) ∨ (st = cstIntegrate ∧ pass) then s.cstActivate else s

/-- The guardian's cycle starts. -/
def State.guardCycle (s : State) : State :=
  if !(s.get CST_STATUS_GSTATE == guardRun) then s
  else s.cstMap (fun c => { c with
    gStart := c.gStart + s.toLocal c.gRate s.tcc + c.gNitOffset, gNitOffset := 0, gCycle := (c.gCycle + 1) % 64
    gLastDevs := c.gDevs, gDevs := [], gDyn := s.dynReset, coldThisCycle := false
    blanked := c.blanked.map (fun e => (e.1, e.2 - 1)) })

def execConsistCycleStart (s : State) : Host.Outcome State Fault Refusal :=
  finish (if s.cstRuns then s.guardCycle.controllerCycle else s)

/-! ### Start-up (R208) -/

/-- The listen timer expires at a node with COLDSTART: its first COLD frame leaves at once; a star that follows
train time starts its cycle on its next target instant. -/
def State.listenExpiry (s : State) : State :=
  match s.coldSlot with
  | none => s
  | some i =>
    if !s.cstRuns || !(s.get CST_STATUS_STATE == cstListen) || !s.flag CST_STATUS_COLDSTART then s
    else
      let s := (s.bump CST_STAT_COLD_ATTEMPTS).load [(CST_STATUS_STATE, cstColdstart), (CST_STATUS_CYCLE, 0)]
      let timed := s.lockBc && s.flag TIM_STATUS_TIME_VALID
      let start : Int := if timed then s.nextTarget else s.uptime + s.get CST_SCHED2_LINK_DLY - s.slotAp i
      let s := s.cstMap (fun c => { c with
        start := start, coldLeft := if timed then 4 else 3, devs := [], lastDevs := [], dyn := s.dynReset, nitOffset := 0 })
      if timed then s else s.sendStatic i 0

def execListenTimerExpiry (s : State) : Host.Outcome State Fault Refusal := finish s.listenExpiry

/-! ### Links (R188, R211) -/

/-- The schedule gives a port of the star an owner. -/
def State.portOwned (s : State) (p : Nat) : Bool :=
  (positions (s.get CST_SCHED0_S)).any (fun i => s.get (CST_SLOT_OWNER (i - 1)) == p)
    || (positions (s.get CST_SCHED1_M)).any (fun i => s.dynOwner i == p)

/-- The link of a port is reported (R211). -/
def State.linkReported (s : State) (p : Nat) : Bool :=
  s.cstRuns && (if s.isStar then s.portOwned p else p == 0)

/-- A change of a reported port: its record, at most one per 10 ms, and the line. -/
def State.reportLink (s : State) (p : Nat) : State :=
  if !s.linkReported p then s
  else
    let s := match s.rateCheck 6 p 0 tenMs with
      | (true, sup, s) => s.record (cstPortBase p) 0x4005 (le 2 sup)
      | (false, _, s) => s
    s.line 45 ((List.range 8).any (fun q => s.linkReported q && s.get (CST_PSTATUS_LINK q) == 0))

/-- The link of a port goes DOWN. -/
def State.consistDown (s : State) (p : Nat) : State :=
  let s := s.cstPortMap p (fun c => { c with codeErrs := [] })
  if s.get (CST_PSTATUS_LINK p) = 0 then s
  else ((s.set (CST_PSTATUS_LINK p) 0).bump (CST_PERR_LINK_DOWNS p)).reportLink p

/-- A code error; the sixteenth within 1,024 code groups (40.96 µs) takes the link DOWN. -/
def State.consistCodeError (s : State) (p : Nat) : State :=
  let l := noteCodeError s.uptime 40960 (s.cstPort p).codeErrs
  let s := (s.bump (CST_PERR_CODE_ERRORS p)).cstPortMap p (fun c => { c with codeErrs := l })
  if 16 ≤ l.length then s.consistDown p else s

/-- 1 µs without a transition, or a code error. -/
def execConsistLinkDown (port : Nat) (codeError : Bool) (s : State) : Host.Outcome State Fault Refusal :=
  finish (if 8 ≤ port then s
    else if codeError then s.consistCodeError port
    else (s.set (CST_PSTATUS_SIG_DET port) 0).consistDown port)

/-- 64 consecutive valid /I/. -/
def execConsistLinkUp (port : Nat) (s : State) : Host.Outcome State Fault Refusal :=
  finish (if 8 ≤ port ∨ s.get (CST_PSTATUS_LINK port) = 2 then s
    else (s.load [(CST_PSTATUS_LINK port, 2), (CST_PSTATUS_SIG_DET port, 1)]).reportLink port)

/-! ### Commands (R212) -/

def cmdRejoin : CmdSpec :=
  { base := 0x10000, code := 1, accepted := fun s => s.mode == modeNative
    run := fun _ s => if s.cstRuns then s.cstEnterListen else s }

def execCstRejoin (path : Path) (arg : Nat) (s : State) : Host.Outcome State Fault Refusal :=
  finish (s.command cmdRejoin path arg)

/-- One port of a PORT_RESET. -/
def State.portReset (s : State) (p : Nat) : State :=
  (s.set (CST_PSTATUS_GUARD p) 0).cstPortMap p (fun c => { c with violations := 0, oos := [] })
    |>.cstMap (fun c => { c with blanked := tabErase p c.blanked })

def cmdPortReset : CmdSpec :=
  { base := 0x10000, code := 2, accepted := fun s => s.mode == modeNative
    cond := fun s _ => if s.isStar then .ok else .badArg
    run := fun arg s =>
      let s := (maskBits 8 arg).foldl State.portReset s
      s.line 43 ((List.range 8).any (fun p => s.get (CST_PSTATUS_GUARD p) == 2)) }

def execPortReset (path : Path) (arg : Nat) (s : State) : Host.Outcome State Fault Refusal :=
  finish (s.command cmdPortReset path arg)

end Sys2Proof.Machine
end

