-- ==== Sys2Proof/Machine/Can.lean ====
section
/-! DEFINITION. The CAN FD channels: fault confinement, bus faults, the receive path, transmission, commands
and time-triggered operation (R214–R243). -/

namespace Sys2Proof.Machine

open Reg

/-- Base address of channel n's block. -/
def canBase (n : Nat) : Nat := 0x20000 + 0x1000 * n

/-- Channel n is a legacy channel now (R336). -/
def State.isLegacyCan (s : State) (n : Nat) : Bool := s.inGtn && decide (n < 2)

/-- Channel n has left integration and takes part in the bus. -/
def State.canActive (s : State) (n : Nat) : Bool :=
  !(s.chan n).waitIdle &&
    (if s.isLegacyCan n then s.flag (GTN_CCR_RUN n) && !(s.get (CAN_STATUS_CONF n) == 2) && !s.flag (CAN_FAULT_LIVE_DOM n)
      else s.canState n == canRunning)

/-- Channel n is in listen-only (R232, R336). -/
def State.canListens (s : State) (n : Nat) : Bool :=
  if s.isLegacyCan n then s.flag (GTN_CCR_LOM n) else s.canState n == canListen && !(s.chan n).waitIdle

/-- Channel n receives frames. -/
def State.canReceives (s : State) (n : Nat) : Bool := s.canActive n || (!s.isLegacyCan n && s.canListens n)

/-- Channel n may start a frame: it takes part, holds the permission, and sends nothing. -/
def State.canMayStart (s : State) (n : Nat) : Bool :=
  s.canActive n && s.canMayDrive n && (s.chan n).sending.isNone && !(s.chan n).sendingRef && !(s.chan n).stopping

/-- STATE of a channel; a legacy channel shows LEGACY throughout. -/
def State.canPutState (s : State) (n st : Nat) : State :=
  if s.isLegacyCan n then s else s.set (CAN_STATUS_STATE n) st

/-! ### Fault confinement (R229, R230) -/

/-- CONF that the counters give: 0 error-active, 1 error-passive, 2 bus-off. -/
def canConf (tec rec_ : Nat) : Nat := if 256 ≤ tec then 2 else if 128 ≤ tec ∨ 128 ≤ rec_ then 1 else 0

/-- A record of bus-off or recovery, at most one of each per channel per 10 ms. -/
def State.canRecord (s : State) (n code : Nat) : State :=
  match s.rateCheck 7 n code tenMs with
  | (true, sup, s) => s.record (canBase n) code (le 2 sup)
  | (false, _, s) => s

/-- The line "CAN bus-off" follows the channels. -/
def State.busOffLine (s : State) : State :=
  s.line 46 (canChannels.any (fun n => s.get (CAN_STATUS_CONF n) == 2))

/-- CxECR of a legacy channel. -/
def State.ecr (s : State) (n : Nat) : Nat := s.get (CAN_ERRCNT_TEC n) + 65536 * s.get (CAN_ERRCNT_REC n)

/-- Entry into bus-off (R230). -/
def State.canEnterBusOff (s : State) (n : Nat) : State :=
  let s := ((s.load [(CAN_STATUS_BOR_CNT n, 0), (CAN_EVENT_BUS_OFF n, 1)]).bump (CAN_ERRSTAT2_BUS_OFFS n)).canPutState n canBusOff
  let s := (s.canRecord n 0x4006).busOffLine
  if s.isLegacyCan n then s.legacyLog (canBase n) 0x20 n (s.ecr n) else s

/-- What a legacy channel's registers show of the counters and the error state; a change of error state sets
its bits (Tables 12.4 and 12.5). -/
def State.showLegacyErr (s : State) (n : Nat) (changed : Bool) : State :=
  if !s.isLegacyCan n then s
  else
    let s := s.load [(GTN_CECR_TEC n, s.get (CAN_ERRCNT_TEC n)), (GTN_CECR_REC n, s.get (CAN_ERRCNT_REC n)),
      (GTN_CSR_CAN_CONF n, s.get (CAN_STATUS_CONF n)), (GTN_CSR_CAN_WARN n, s.get (CAN_STATUS_WARN n))]
    let off := s.get (CAN_STATUS_CONF n) = 2
    let s := if off then s.setBit GTN_SSR_BOFF n else s.clearBit GTN_SSR_BOFF n
    if changed then
      let s := s.setSsr (17 + n)
      if s.flag (GTN_CCR_ERR_IE n) then s.setIsr (19 + n) else s
    else s

/-- The error counters take values, and the error state follows (R229). -/
def State.canSetErr (s : State) (n tec rec_ : Nat) : State :=
  let old := s.get (CAN_STATUS_CONF n)
  let oldWarn := s.flag (CAN_STATUS_WARN n)
  let conf := canConf tec rec_
  let warn := decide (96 ≤ tec ∨ 96 ≤ rec_)
  let s := s.load [(CAN_ERRCNT_TEC n, satNat 9 tec), (CAN_ERRCNT_REC n, satNat 9 rec_), (CAN_STATUS_CONF n, conf),
    (CAN_STATUS_WARN n, b2n warn)]
  let s := if warn && !oldWarn then s.set (CAN_EVENT_WARN n) 1 else s
  let s := if conf = 1 ∧ old ≠ 1 then s.set (CAN_EVENT_PASSIVE n) 1 else s
  let s := if conf = 2 ∧ old ≠ 2 then s.canEnterBusOff n else s
  s.showLegacyErr n (!(conf == old))

/-- Counters raised by what ISO 11898-1 gives for an error; they stand still in listen-only (R232). -/
def State.canAddErr (s : State) (n tec rec_ : Nat) : State :=
  if s.canListens n then s else s.canSetErr n (s.get (CAN_ERRCNT_TEC n) + tec) (s.get (CAN_ERRCNT_REC n) + rec_)

/-- A successful reception lowers the receive counter: by 1, or from above 127 to a value from 119 to 127 that
ISO 11898-1 leaves open (notes/assumptions/4.md). -/
def State.canRxOk (s : State) (n : Nat) : State :=
  let r := s.get (CAN_ERRCNT_REC n)
  let t := s.get (CAN_ERRCNT_TEC n)
  if s.canListens n ∨ r = 0 then s
  else if r ≤ 127 then s.canSetErr n t (r - 1)
  else let (v, s) := s.draw 4; s.canSetErr n t (119 + v % 9)

/-- A successful transmission lowers the transmit counter by 1. -/
def State.canTxOk (s : State) (n : Nat) : State :=
  if s.get (CAN_ERRCNT_TEC n) = 0 then s else s.canSetErr n (s.get (CAN_ERRCNT_TEC n) - 1) (s.get (CAN_ERRCNT_REC n))

/-- An error of a kind is counted: 0 bit, 1 stuff, 2 form, 3 CRC, 4 acknowledge. Legacy channels keep the last
error in CxLEC (a bit error sent recessive shows as 4). -/
def State.canCountErr (s : State) (n kind : Nat) : State :=
  let s := match kind with
    | 0 => s.bump (CAN_ERRSTAT_BIT n)
    | 1 => s.bump (CAN_ERRSTAT_STUFF n)
    | 2 => s.bump (CAN_ERRSTAT_FORM n)
    | 3 => s.bump (CAN_ERRSTAT_CRC n)
    | _ => s.bump (CAN_ERRSTAT2_ACK n)
  if s.isLegacyCan n then s.set (GTN_CLEC_CODE n) ([4, 1, 2, 6, 3].getD kind 3) else s

/-- The 128th occurrence of 11 recessive bits: error-active with both counters 0 (R230). -/
def State.canRecover (s : State) (n : Nat) : State :=
  let s := ((s.canSetErr n 0 0).set (CAN_EVENT_RECOVERED n) 1).canPutState n canRunning
  let s := (s.canRecord n 0x4007).busOffLine
  if s.isLegacyCan n then s.legacyLog (canBase n) 0x21 n 0 else s

/-! ### Bus faults (Table 8.6, R233, R234) -/

abbrev canDom : Nat := 0
abbrev canLoop : Nat := 1
abbrev canSwap : Nat := 2

/-- Live and sticky bit of a condition. -/
def canLiveField (n cond : Nat) : Field :=
  match cond with | 0 => CAN_FAULT_LIVE_DOM n | 1 => CAN_FAULT_LIVE_LOOP n | _ => CAN_FAULT_LIVE_SWAP n
def canStickyField (n cond : Nat) : Field :=
  match cond with | 0 => CAN_FAULT_DOM_TIMEOUT n | 1 => CAN_FAULT_LOOP n | _ => CAN_FAULT_SWAP n

/-- A live bit is set on some channel. -/
def State.canFaultLive (s : State) : Bool :=
  canChannels.any (fun n => s.flag (canLiveField n 0) || s.flag (canLiveField n 1) || s.flag (canLiveField n 2))

/-- A CAN_FAULT record: channel, condition, both counters, error state, suppressed count. -/
def State.canFaultRecord (s : State) (n cond : Nat) : State :=
  match s.rateCheck 8 n cond tenMs with
  | (true, sup, s) => s.record (canBase n) 0x4008 (le 1 n ++ le 1 cond ++ le 2 (s.get (CAN_ERRCNT_TEC n))
      ++ le 2 (s.get (CAN_ERRCNT_REC n)) ++ le 1 (s.get (CAN_STATUS_CONF n)) ++ le 2 sup)
  | (false, _, s) => s

/-- A condition of Table 8.6 is detected, or clears. -/
def State.canCondition (s : State) (n cond : Nat) (on : Bool) : State :=
  if s.flag (canLiveField n cond) = on then s
  else
    let s := s.setB (canLiveField n cond) on
    let s := if on then s.load [(canStickyField n cond, 1), (CAN_EVENT_FAULT n, 1)] else s
    (s.canFaultRecord n cond).line 47 s.canFaultLive

/-! ### Receive path (R220–R223) -/

/-- Filter pair i matches a frame. -/
def State.pairMatches (s : State) (n : Nat) (f : CanFrame) (i : Nat) : Bool :=
  let w := if f.ide then 29 else 11
  !(s.get (CAN_FLT_ACTION n i) == 0) && f.ide == s.flag (CAN_FLT_IDE n i)
    && Nat.land (Nat.xor f.id (s.get (CAN_FLT_ID n i))) (s.get (CAN_FLT_MASK n i)) % 2 ^ w == 0
    && (!s.flag (CAN_FLT_TYPE_EN n i) || f.fdf == s.flag (CAN_FLT_TYPE n i))

/-- What the filters decide: 1 RXQ0, 2 RXQ1, 3 reject; and the index of the pair. -/
def State.canFilter (s : State) (n : Nat) (f : CanFrame) : Nat × Nat :=
  match (List.range 64).find? (s.pairMatches n f) with
  | some i => (s.get (CAN_FLT_ACTION n i), i)
  | none =>
    let a := s.get (CAN_CFG_NOMATCH n)
    (if a = 1 ∨ a = 2 then a else 3, 0x3F)

/-- A frame that finds its queue full is counted (R222). -/
def State.canOverrun (s : State) (n q : Nat) : State :=
  (s.bump (if q = 0 then CAN_RXOVR_OVERRUN0 n else CAN_RXOVR_OVERRUN1 n)).set (CAN_EVENT_RXQ_OVERRUN n) 1

/-- An element enters receive queue q (R222). -/
def State.canStore (s : State) (n q : Nat) (e : Bytes) : State :=
  let depth := s.get (if q = 0 then CAN_RXQCFG_DEPTH0 n else CAN_RXQCFG_DEPTH1 n) + 1
  let ovw := s.flag (if q = 0 then CAN_RXQCFG_OVW0 n else CAN_RXQCFG_OVW1 n)
  let k := s.flw.arrivals
  let put := fun (s : State) (l : List (Nat × Bytes)) =>
    (s.chanMap n (fun c => if q = 0 then { c with rxq0 := l } else { c with rxq1 := l })).flwMap
      (fun w => { w with arrivals := k + 1 })
  let l := if q = 0 then (s.chan n).rxq0 else (s.chan n).rxq1
  if l.length < depth then put s (l ++ [(k, e)])
  else if ovw then put (s.canOverrun n q) (l.drop 1 ++ [(k, e)])
  else s.canOverrun n q

/-- A frame becomes valid for receivers: counters, swap suspect, filters and queue (R220, R221, R233). -/
def State.canReceive (s : State) (n : Nat) (f : CanFrame) (sof : Nat) : State :=
  let s := ((s.canRxOk n).chanMap n (fun c => { c with swaps := 0 })).canCondition n canSwap false
  let s := s.bump (CAN_RXSTAT_FRAMES n)
  let (action, i) := s.canFilter n f
  if action = 3 then s.bump (CAN_RXSTAT_FILTERED n)
  else
    let len := if f.rtr && !f.fdf then 0 else dlcBytes f.fdf f.dlc
    let (rest, s) := s.draw (8 * (64 - len))
    s.canStore n (action - 1) (elemOf f i (action - 1) (sof / 8 * 8) rest)

/-! ### Time-triggered operation: synchronization (R235, R238, R239) -/

/-- TT_STATE values. -/
abbrev ttOff : Nat := 0
abbrev ttWait : Nat := 1
abbrev ttFollower : Nat := 2
abbrev ttMaster : Nat := 3
def State.ttState (s : State) (n : Nat) : Nat := s.get (CAN_TTSTATUS_TT_STATE n)

/-- CAN cycles of the matrix cycle: CYCLES_EXP 7 is taken as 6. -/
def State.ttCycles (s : State) (n : Nat) : Nat := 2 ^ Nat.min 6 (s.get (CAN_TTCFG_CYCLES_EXP n))

/-- A frame that channel n takes as a reference. -/
def State.isReference (s : State) (n : Nat) (f : CanFrame) : Bool :=
  s.flag (CAN_CFG_TT_EN n) && !f.ide && bits f.id 3 8 == bits (s.get (CAN_TTREF_REF_ID n)) 3 8

/-- The line "CAN time-triggered sync lost": a channel in TT_WAIT that has had a reference. -/
def State.ttLine (s : State) : State :=
  s.line 48 (canChannels.any (fun n => s.ttState n == ttWait && (s.chan n).refSeen))

/-- A sync mark of channel n at uptime `at_` with a cycle count, in a TT_STATE. -/
def State.ttSync (s : State) (n at_ count st : Nat) : State :=
  ((s.load [(CAN_TTSTATUS_CYCLE n, count % 64), (CAN_TTSTATUS_MISSED n, 0), (CAN_TTSTATUS_TT_STATE n, st)]).chanMap n
    (fun c => { c with syncAt := at_, refSeen := true, entries := c.entries.map (fun e => { e with offered := false }) })).ttLine

/-- A frame arrives: a reference sets the sync mark as well (R238). -/
def State.canFrameIn (s : State) (n : Nat) (f : CanFrame) (sof : Nat) : State :=
  if 12 ≤ n ∨ !s.canReceives n ∨ (f.fdf && !s.flag (CAN_CFG_FD_EN n)) then s
  else
    let s := s.canReceive n f sof
    if s.isReference n f then s.ttSync n sof (ofLe (slice 0 1 f.data) % 64) ttFollower else s

def execCanTtReferenceReceive (channel : Nat) (frame : CanFrame) (sof : Nat) (s : State) :
    Host.Outcome State Fault Refusal :=
  finish (if s.isReference channel frame then s.canFrameIn channel frame sof else s)

/-- A receive error; 16 frames in a row that end in a form or stuff error before the CRC delimiter raise the
swap suspect (R229, R233). -/
def State.canRxError (s : State) (n kind add : Nat) (early : Bool) : State :=
  if 12 ≤ n ∨ !s.canReceives n then s
  else
    let s := (s.canCountErr n kind).canAddErr n 0 add
    let k := if early ∧ (kind = 1 ∨ kind = 2) then (s.chan n).swaps + 1 else 0
    let s := s.chanMap n (fun c => { c with swaps := k })
    if 16 ≤ k then s.canCondition n canSwap true else s

def execCanRxError (channel kind add : Nat) (early : Bool) (s : State) : Host.Outcome State Fault Refusal :=
  finish (s.canRxError channel kind add early)

/-- A protocol exception event, with PXE = 1 (R216). -/
def execCanProtocolException (channel : Nat) (s : State) : Host.Outcome State Fault Refusal :=
  finish (if 12 ≤ channel ∨ !s.canReceives channel ∨ s.isLegacyCan channel ∨ !s.flag (CAN_CFG_PXE channel) then s
    else (s.bump (CAN_ERRSTAT2_PROTO_EXC channel)).chanMap channel (fun c => { c with waitIdle := true }))

/-! ### Windows (R235–R237) -/

/-- Window w is active in a cycle. -/
def State.windowActive (s : State) (n w c : Nat) : Bool :=
  !(s.get (CAN_WIN_KIND n w) == 0) && c % 2 ^ s.get (CAN_WIN_REP n w) == s.get (CAN_WIN_BASE n w)

/-- A free window is open and its rest holds a duration. -/
def State.freeHolds (s : State) (n ntu : Nat) : Bool :=
  let t := s.cycleTime n
  let c := s.get (CAN_TTSTATUS_CYCLE n)
  (List.range 32).any (fun w => s.get (CAN_WIN_KIND n w) == 3 && s.windowActive n w c
    && decide (s.get (CAN_WIN_START n w) ≤ t)
    && decide (t + ntu ≤ s.get (CAN_WIN_START n w) + s.get (CAN_WIN_LEN n w)))

/-- An event-triggered entry may start now (R237). -/
def State.eventMayStart (s : State) (n : Nat) (e : CanEntry) : Bool :=
  if s.flag (CAN_CFG_TT_EN n) then
    (s.ttState n == ttFollower || s.ttState n == ttMaster) && s.freeHolds n (s.worstNtu n e.element)
  else true

/-! ### Selection (R225, R231) -/

/-- Bus priority of an element: the lower value wins. -/
def busPriority (e : Bytes) : Nat :=
  let id := elemId e
  if elemIde e then (bits id 18 11 * 2 + 1) * 2 ^ 18 + bits id 0 18 else (id * 2) * 2 ^ 18

/-- The first entry of the lowest priority value. -/
def bestEntry : List CanEntry → Option CanEntry
  | [] => none
  | e :: t =>
    match bestEntry t with
    | some x => if busPriority x.element < busPriority e.element then some x else some e
    | none => some e

/-- The entry that channel n selects: one offered in its window, else the pinned one, else the event-triggered
entry of highest bus priority. -/
def State.canChoice (s : State) (n : Nat) : Option CanEntry :=
  let c := s.chan n
  match c.entries.find? (fun e => elemTt e.element && e.offered) with
  | some e => some e
  | none =>
    let pick := match c.pinned with
      | some k => c.entries.find? (fun (e : CanEntry) => e.order == k)
      | none => bestEntry (c.entries.filter (fun e => !elemTt e.element))
    pick.filter (s.eventMayStart n)

/-- The channel starts an entry's frame. -/
def State.canSend (s : State) (n : Nat) (e : CanEntry) : State :=
  (s.chanMap n (fun c => { c with
    sending := some e.order, sofAt := s.uptime,
    entries := c.entries.map (fun x => if x.order == e.order then { x with offered := false } else x) })).emit
    (.canFrame n e.element)

/-- The selection point. -/
def State.canSelect (s : State) (n : Nat) : State :=
  if !s.canMayStart n then s
  else match s.canChoice n with
    | some e => s.canSend n e
    | none => s

/-! ### The end of an attempt (R226–R231, R236) -/

/-- The entry in transmission. -/
def State.canCurrent (s : State) (n : Nat) : Option CanEntry :=
  let c := s.chan n
  c.sending.bind (fun k => c.entries.find? (fun e => e.order == k))

/-- An exclusive or arbitrating window's entry is not sent. -/
def State.slotMiss (s : State) (n : Nat) (e : CanEntry) : State :=
  ((s.bump (CAN_TTSTAT_SLOT_MISS n)).set (CAN_EVENT_SLOT_MISS n) 1).canComplete n e canNotSent

/-- The occurrences that an arbitrating window gives an entry are used up. -/
def State.triesUsed (s : State) (n : Nat) (e : CanEntry) : Bool :=
  !(s.get (CAN_WIN_KIND n (elemWin e.element)) == 2) || decide (s.get (CAN_TTCFG_ARB_RETRY n) < e.tries)

/-- An attempt that did not succeed ends; `pin`: the channel is error-passive or bus-off after an error. -/
def State.canAttemptFails (s : State) (n : Nat) (e : CanEntry) (pin : Bool) : State :=
  let s := s.chanMap n (fun c => { c with sending := none })
  if e.cancelled then s.canComplete n e canCancelled
  else if elemTt e.element then
    if pin || s.triesUsed n e then s.slotMiss n e else s
  else if elemOneShot e.element then s.canComplete n e canOneShotFail
  else if pin then s.chanMap n (fun c => { c with pinned := some e.order })
  else s

/-- The channel is STOPPED: TXD recessive, nothing pending (R241). -/
def State.canToStopped (s : State) (n : Nat) : State :=
  ((s.canStopEntries n).load [(CAN_STATUS_STATE n, canStopped), (CAN_TTSTATUS_TT_STATE n, ttOff)]).ttLine

/-- STOP takes effect at the end of an attempt. -/
def State.canStopDue (s : State) (n : Nat) : State := if (s.chan n).stopping then s.canToStopped n else s

/-- The loop check of an attempt: the third mismatch in a row raises the condition (Table 8.6). -/
def State.canLoopCheck (s : State) (n : Nat) (mismatch : Bool) : State :=
  let k := if mismatch then (s.chan n).loops + 1 else 0
  let s := s.chanMap n (fun c => { c with loops := k })
  if 3 ≤ k then s.canCondition n canLoop true else if k = 0 then s.canCondition n canLoop false else s

/-- The delay measured in an FD frame with BRS (R218). -/
def State.canMeasure (s : State) (n : Nat) (e : Bytes) (tdcv : Nat) : State :=
  if elemFdf e && elemBrs e then
    let s := s.set (CAN_TDC_TDCV n) (Nat.min 127 tdcv)
    if 127 ≤ tdcv then s.set (CAN_EVENT_TDC_SAT n) 1 else s
  else s

/-- An attempt ends in an error: counters, loop check, and what becomes of its entry (R226, R229, R231). -/
def State.canTxError (s : State) (n kind add tdcv : Nat) (mismatch : Bool) : State :=
  if (s.chan n).sendingRef then
    let s := (s.chanMap n (fun c => { c with sendingRef := false })).canCountErr n kind
    ((s.canAddErr n add 0).canLoopCheck n mismatch).canStopDue n
  else match s.canCurrent n with
    | none => s
    | some e =>
      let s := ((s.canMeasure n e.element tdcv).canCountErr n kind).canAddErr n add 0
      let s := s.canLoopCheck n mismatch
      (s.canAttemptFails n e (!(s.get (CAN_STATUS_CONF n) == 0))).canStopDue n

/-- Uptime of the sample point of SOF of the frame in transmission. -/
def State.sofSample (s : State) (n : Nat) : Nat :=
  (s.chan n).sofAt + (s.get (CAN_NBT_BRP n) + 1) * (2 + s.get (CAN_NBT_TSEG1 n)) * 25 / 2

/-- The reference in transmission carries this cycle count: the next one, or 0 for the first. -/
def State.refCount (s : State) (n : Nat) : Nat :=
  if (s.chan n).refSeen then (s.get (CAN_TTSTATUS_CYCLE n) + 1) % s.ttCycles n else 0

/-- The own reference is sent: the channel is master from its sync mark on (R238, R239). -/
def State.refSent (s : State) (n : Nat) : State :=
  let was := s.ttState n
  let s := s.ttSync n (s.sofSample n) (s.refCount n) ttMaster
  let s := s.chanMap n (fun c => { c with sendingRef := false })
  if was = ttMaster then s
  else ((s.bump (CAN_TTSTAT_TAKEOVER n)).set (CAN_EVENT_MASTER n) 1).record (canBase n) 0x4009 []

/-- No error by the last bit of EOF. The bit checks of a frame with a saturated delay measurement fail (R218). -/
def State.canTxSuccess (s : State) (n tdcv : Nat) : State :=
  if (s.chan n).sendingRef then (((s.canTxOk n).canLoopCheck n false).refSent n).canStopDue n
  else match s.canCurrent n with
    | none => s
    | some e =>
      if elemFdf e.element && elemBrs e.element && decide (127 ≤ tdcv) then s.canTxError n 0 8 tdcv false
      else
        let s := ((s.canMeasure n e.element tdcv).canTxOk n).canLoopCheck n false
        (s.canComplete n e (if e.cancelled then canSentLate else canSent)).canStopDue n

/-- Arbitration is lost. A reference is never sent again (R226, R238). -/
def State.canArbLost (s : State) (n : Nat) : State :=
  if (s.chan n).sendingRef then ((s.chanMap n (fun c => { c with sendingRef := false })).canLoopCheck n false).canStopDue n
  else match s.canCurrent n with
    | none => s
    | some e => ((s.canLoopCheck n false).canAttemptFails n e false).canStopDue n

/-! ### Integration, bus-off recovery, dominant timeout (R230, R233) -/

/-- Integration as at START: listen-only where CANn_CFG or Table 8.1 says so, bus-off where it has not been
recovered. -/
def State.canStartUp (s : State) (n : Nat) : State :=
  let st := if s.flag (CAN_CFG_LISTEN_ONLY n) || s.canForced n then canListen
    else if s.get (CAN_STATUS_CONF n) = 2 then canBusOff else canIntegrating
  (s.canPutState n st).chanMap n (fun c => { c with waitIdle := true, forced := s.canForced n })

/-- 11 consecutive recessive bits. -/
def State.canRecessive (s : State) (n : Nat) : State :=
  if 12 ≤ n then s
  else
    let legacy := s.isLegacyCan n
    if s.get (CAN_STATUS_CONF n) = 2 ∧ (s.canState n = canBusOff ∨ (legacy ∧ s.flag (GTN_CCR_RUN n))) then
      let k := s.get (CAN_STATUS_BOR_CNT n) + 1
      let s := (s.set (CAN_STATUS_BOR_CNT n) k).chanMap n (fun c => { c with waitIdle := false })
      if k = 128 then s.canRecover n else s
    else if s.canState n = canIntegrating then
      (s.set (CAN_STATUS_STATE n) canRunning).chanMap n (fun c => { c with waitIdle := false })
    else s.chanMap n (fun c => { c with waitIdle := false })

def execCanRecessive11 (channel : Nat) (s : State) : Host.Outcome State Fault Refusal := finish (s.canRecessive channel)

/-- RXD has been dominant for 2 ms: HELD; the attempt in progress ends without success. -/
def State.canHold (s : State) (n : Nat) : State :=
  let on := if s.isLegacyCan n then s.flag (GTN_CCR_RUN n)
    else [canIntegrating, canRunning, canBusOff, canListen].contains (s.canState n)
  if 12 ≤ n ∨ !on then s
  else
    let s := match s.canCurrent n with
      | some e => s.canAttemptFails n e false
      | none => s
    let s := (s.chanMap n (fun c => { c with sending := none, sendingRef := false })).canPutState n canHeld
    (s.canCondition n canDom true).canStopDue n

def execCanDominantTimeout (channel : Nat) (s : State) : Host.Outcome State Fault Refusal := finish (s.canHold channel)

def execCanDominantClear (channel : Nat) (s : State) : Host.Outcome State Fault Refusal :=
  finish (if 12 ≤ channel ∨ !s.flag (CAN_FAULT_LIVE_DOM channel) then s
    else
      let s := s.canCondition channel canDom false
      if s.canState channel = canHeld ∨ s.isLegacyCan channel then s.canStartUp channel else s)

/-! ### Commands (R217, R228, R235, R241) -/

/-- The bit timing lies within the limits of R217. -/
def State.timingOk (s : State) (n : Nat) : Bool :=
  decide (1 ≤ s.get (CAN_NBT_TSEG1 n)) && decide (s.get (CAN_NBT_SJW n) ≤ s.get (CAN_NBT_TSEG2 n))
    && decide (s.get (CAN_DBT_SJW n) ≤ s.get (CAN_DBT_TSEG2 n))
    && decide (80 ≤ s.nomBit n) && decide (10 ≤ s.dataBit n)
    && (!s.flag (CAN_CFG_FD_EN n) || decide (s.dataBit n ≤ s.nomBit n))

/-- One window meets R235. -/
def State.windowOk (s : State) (n w : Nat) : Bool :=
  s.get (CAN_WIN_KIND n w) == 0 ||
    (decide (70 ≤ s.get (CAN_WIN_START n w))
      && decide (s.get (CAN_WIN_START n w) + s.get (CAN_WIN_LEN n w) ≤ s.get (CAN_TTCFG_CYCLE_LEN n))
      && decide (2 ^ s.get (CAN_WIN_REP n w) ≤ s.ttCycles n)
      && decide (s.get (CAN_WIN_BASE n w) < 2 ^ s.get (CAN_WIN_REP n w)))

/-- Two windows are active in one cycle and overlap. -/
def State.windowsClash (s : State) (n v w : Nat) : Bool :=
  let m := 2 ^ Nat.min (s.get (CAN_WIN_REP n v)) (s.get (CAN_WIN_REP n w))
  !(s.get (CAN_WIN_KIND n v) == 0) && !(s.get (CAN_WIN_KIND n w) == 0)
    && s.get (CAN_WIN_BASE n v) % m == s.get (CAN_WIN_BASE n w) % m
    && decide (s.get (CAN_WIN_START n v) < s.get (CAN_WIN_START n w) + s.get (CAN_WIN_LEN n w))
    && decide (s.get (CAN_WIN_START n w) < s.get (CAN_WIN_START n v) + s.get (CAN_WIN_LEN n v))

/-- The windows meet R235. -/
def State.windowsOk (s : State) (n : Nat) : Bool :=
  !s.flag (CAN_CFG_TT_EN n) ||
    ((List.range 32).all (fun w => s.windowOk n w)
      && (List.range 32).all (fun w => (List.range w).all (fun v => !s.windowsClash n v w)))

/-- START from STOPPED. -/
def State.canStart (s : State) (n : Nat) : State :=
  if s.canState n = canStopped then
    ((s.canStartUp n).set (CAN_TTSTATUS_TT_STATE n) (if s.flag (CAN_CFG_TT_EN n) then ttWait else ttOff)).chanMap n
      (fun c => { c with refSeen := false, stopping := false })
      |>.load [(CAN_TTSTATUS_MISSED n, 0), (CAN_TTSTATUS_CYCLE n, 0), (CAN_TTSTATUS_CYCLE_TIME n, 0)]
  else s

def cmdCanStart (n : Nat) : CmdSpec :=
  { base := canBase n, code := 1, accepted := State.running
    argOk := fun s _ => !(s.canState n == canStopped) || (s.timingOk n && s.windowsOk n)
    run := fun _ s => s.canStart n }

/-- STOP: what is not in transmission completes with STOPPED at once, the rest at the end of its attempt. -/
def State.canStop (s : State) (n : Nat) : State :=
  if s.canState n = canStopped ∨ s.canState n = canRetired ∨ (s.chan n).forced then s
  else if (s.chan n).sending.isSome ∨ (s.chan n).sendingRef then
    let c := s.chan n
    (s.canCompleteAll n canStoppedStatus (c.entries.filter (fun e => !(c.sending == some e.order)))).chanMap n
      (fun c => { c with stopping := true })
  else s.canToStopped n

def cmdCanStop (n : Nat) : CmdSpec :=
  { base := canBase n, code := 2, accepted := State.running, run := fun _ s => s.canStop n }

/-- The pending entries with a TAG. -/
def State.tagged (s : State) (n tag : Nat) : List CanEntry := (s.chan n).entries.filter (fun e => elemTag e.element == tag % 256)

/-- CANCEL of one entry (R228). -/
def State.canCancelOne (n : Nat) (s : State) (e : CanEntry) : State :=
  if (s.chan n).sending = some e.order then
    s.chanMap n (fun c => { c with entries := c.entries.map (fun x => if x.order == e.order then { x with cancelled := true } else x) })
  else s.canComplete n e canCancelled

def cmdCanCancel (n : Nat) : CmdSpec :=
  { base := canBase n, code := 3, accepted := State.running
    cond := fun s arg => if (s.tagged n arg).isEmpty then .badArg else .ok
    run := fun arg s => (s.tagged n arg).foldl (State.canCancelOne n) s }

def execCanStart (path : Path) (channel arg : Nat) (s : State) : Host.Outcome State Fault Refusal :=
  finish (if 12 ≤ channel then s else s.command (cmdCanStart channel) path arg)

def execCanStop (path : Path) (channel arg : Nat) (s : State) : Host.Outcome State Fault Refusal :=
  finish (if 12 ≤ channel then s else s.command (cmdCanStop channel) path arg)

def execCanCancel (path : Path) (channel arg : Nat) (s : State) : Host.Outcome State Fault Refusal :=
  finish (if 12 ≤ channel then s else s.command (cmdCanCancel channel) path arg)

/-! ### References and windows (R236–R240) -/

/-- Element of the own reference message: classical base data frame, DLC 1. -/
def State.refElement (s : State) (n : Nat) : Bytes :=
  le 4 (s.get (CAN_TTREF_REF_ID n)) ++ le 4 1 ++ zeros 8 ++ le 1 (s.refCount n) ++ zeros 63

/-- The channel may send a reference as a potential master. -/
def State.refMayStart (s : State) (n : Nat) : Bool :=
  s.flag (CAN_CFG_TT_EN n) && s.flag (CAN_TTCFG_MASTER_EN n) && s.canMayStart n && !s.isLegacyCan n

/-- The own reference starts. -/
def State.refSend (s : State) (n : Nat) : State :=
  (s.chanMap n (fun c => { c with sendingRef := true, sofAt := s.uptime })).emit (.canFrame n (s.refElement n))

/-- The acting master at CYCLE_LEN, or a potential master after the third missing reference at its free-running
cycle start. -/
def execCanTtReferenceSend (channel : Nat) (s : State) : Host.Outcome State Fault Refusal :=
  finish (if decide (channel < 12) && s.refMayStart channel && (s.ttState channel == ttMaster ||
      ((s.chan channel).refSeen && decide (3 ≤ s.get (CAN_TTSTATUS_MISSED channel)))) then s.refSend channel else s)

/-- A potential master that has seen no reference since START sends the first one (R239). -/
def execCanTtFirstReference (channel : Nat) (s : State) : Host.Outcome State Fault Refusal :=
  finish (if decide (channel < 12) && s.refMayStart channel && !(s.chan channel).refSeen then s.refSend channel else s)

/-- TT_WAIT at the eighth missing reference: TT entries complete with NOT_SENT (R239). -/
def State.ttLose (s : State) (n : Nat) : State :=
  let s := s.canCompleteAll n canNotSent ((s.chan n).entries.filter (fun e => elemTt e.element))
  (s.load [(CAN_TTSTATUS_TT_STATE n, ttWait), (CAN_EVENT_TT_SYNC_LOST n, 1)]).ttLine

/-- No valid reference by CYCLE_LEN + 64 NTU: the cycle goes on as though a sync mark had fallen at CYCLE_LEN. -/
def State.refMissing (s : State) (n : Nat) : State :=
  if s.ttState n = ttOff ∨ !(s.chan n).refSeen then s
  else
    let k := Nat.min 8 (s.get (CAN_TTSTATUS_MISSED n) + 1)
    let step := s.ntuNs n (s.get (CAN_TTCFG_CYCLE_LEN n))
    let s := (s.bump (CAN_TTSTAT_REF_MISS n)).load [(CAN_TTSTATUS_MISSED n, k),
      (CAN_TTSTATUS_CYCLE n, (s.get (CAN_TTSTATUS_CYCLE n) + 1) % s.ttCycles n)]
    let s := s.chanMap n (fun c => { c with syncAt := c.syncAt + step })
    if k = 8 ∧ s.ttState n = ttFollower then s.ttLose n else s

def execCanTtReferenceMissing (channel : Nat) (s : State) : Host.Outcome State Fault Refusal :=
  finish (if 12 ≤ channel then s else s.refMissing channel)

/-- An exclusive or arbitrating window starts: its bound entry is offered, and starts when the bus is free. -/
def State.windowStart (s : State) (n w : Nat) (busFree : Bool) : State :=
  let kind := s.get (CAN_WIN_KIND n w)
  let on := (s.ttState n == ttFollower || s.ttState n == ttMaster) && (kind == 1 || kind == 2)
    && s.windowActive n w (s.get (CAN_TTSTATUS_CYCLE n))
  if !on then s
  else match canBound (s.chan n) w with
    | none => s
    | some e =>
      let s := s.chanMap n (fun c => { c with
        entries := c.entries.map (fun x => if x.order == e.order then { x with offered := true, tries := x.tries + 1 } else x) })
      if busFree && s.canMayStart n then s.canSend n { e with offered := true, tries := e.tries + 1 } else s

def execCanTtWindowStart (channel window : Nat) (busFree : Bool) (s : State) : Host.Outcome State Fault Refusal :=
  finish (if 12 ≤ channel ∨ 32 ≤ window then s else s.windowStart channel window busFree)

/-- START + TXEN_WIN of a window passes: an entry offered and not started has missed it (Table 8.7, R231, R240). -/
def State.windowMissed (s : State) (n w : Nat) : State :=
  match canBound (s.chan n) w with
  | none => s
  | some e =>
    if !e.offered then s
    else
      let s := s.chanMap n (fun c => { c with
        entries := c.entries.map (fun x => if x.order == e.order then { x with offered := false } else x) })
      if s.get (CAN_STATUS_CONF n) = 2 ∨ s.triesUsed n e then s.slotMiss n e else s

def execCanTtTxenExpiry (channel window : Nat) (s : State) : Host.Outcome State Fault Refusal :=
  finish (if 12 ≤ channel ∨ 32 ≤ window then s else s.windowMissed channel window)

end Sys2Proof.Machine
end

