-- ==== Sys2Proof/Machine/GlnOps.lean ====
section
/-! DEFINITION. The border node's translation between native frames and G-line telegrams (R360, R361). -/

namespace Sys2Proof.Machine

open Reg

/-- Telegram types (Table 13.2). -/
abbrev tgClaim : Nat := 0x01
abbrev tgName : Nat := 0x02
abbrev tgNameAck : Nat := 0x03
abbrev tgTopology : Nat := 0x04
abbrev tgPeriod : Nat := 0x05
abbrev tgPdPoll : Nat := 0x06
abbrev tgPdData : Nat := 0x07
abbrev tgMsgPoll : Nat := 0x08
abbrev tgMsg : Nat := 0x09
abbrev tgMsgAck : Nat := 0x0A
abbrev tgNone : Nat := 0x0B
abbrev tgReset : Nat := 0x0C

/-- LEN limit of a TYPE (Table 13.2); none: the TYPE is not listed. -/
def tgLimit (type : Nat) : Option Nat :=
  match type with
  | 0x01 => some 4
  | 0x02 => some 0
  | 0x03 => some 21
  | 0x04 => some 131
  | 0x05 => some 0
  | 0x06 => some 1
  | 0x07 => some 65
  | 0x08 => some 0
  | 0x09 => some 224
  | 0x0A => some 0
  | 0x0B => some 0
  | 0x0C => some 0
  | _ => none

/-- A telegram of a listed TYPE within its LEN limit (R346). -/
def tgValid (t : Telegram) : Bool :=
  match tgLimit t.type with
  | some n => decide (t.data.length ≤ n)
  | none => false

/-- A telegram from TYPE to the last data byte, as a tube of KIND 3 wraps it (R360). -/
def tgBytes (t : Telegram) : Bytes :=
  le 1 t.type ++ le 1 t.dest ++ le 1 t.src ++ le 1 t.flags ++ le 1 t.data.length ++ t.data

/-- The telegram that wrapped bytes hold. -/
def tgOf (w : Bytes) : Telegram :=
  { type := ofLe (slice 0 1 w), dest := ofLe (slice 1 1 w), src := ofLe (slice 2 1 w), flags := ofLe (slice 3 1 w),
    data := slice 5 (ofLe (slice 4 1 w)) w }

/-- A discard of the border translation is counted. -/
def State.bdrDrop (s : State) : State := s.bump INA_BDR_STAT_DROP

/-- VID of legacy position k as the last TOPOLOGY gave it. -/
def State.legacyVid (s : State) (k : Nat) : Nat := if k = 0 then s.get INA_BDR_VID_VID else s.get (INA_BDR_LVID_VID (k - 1))

/-- Legacy source ports of the border node; 0xFF is none (INA_BDR_PORTS). -/
def State.bdrPorts (s : State) : List Nat :=
  ((List.range 16).map (fun j => bits (s.get (INA_BDR_PORTS_PORT (j / 4))) (8 * (j % 4)) 8)).filter (fun p => !(p == 0xFF))

/-- A MSG telegram to legacy position k waits for the border node's own turn; a full queue discards it (R361). -/
def State.bdrQueue (s : State) (k : Nat) (t : Telegram) : State :=
  if 32 ≤ s.gln.queue.length then s.bdrDrop
  else s.glnMap (fun g => { g with queue := g.queue ++ [{ dest := k, vid := s.legacyVid k, telegram := t }] })

/-- A PD_DATA from the native side is held one deep per port (Table 13.3). -/
def State.bdrHold (s : State) (t : Telegram) : State :=
  let port := ofLe (slice 0 1 t.data)
  if s.bdrPorts.contains port then s.glnMap (fun g => { g with pdHeld := tabPut port t g.pdHeld }) else s.bdrDrop

/-- The telegram in a tube of KIND 3, where the tube is whole. -/
def tubeTelegram (payload : Bytes) : Option Telegram :=
  let n := bits (ofLe (slice 2 2 payload)) 0 12
  let w := slice 4 n payload
  if bits (ofLe (slice 0 1 payload)) 0 4 = 3 ∧ 4 + n ≤ payload.length ∧ 5 ≤ n ∧ 5 + ofLe (slice 4 1 w) ≤ n then some (tgOf w)
  else none

/-- A native DATA frame to legacy position k of the block, 0 being the border node itself, is translated
(Table 13.3). -/
def State.translate (s : State) (k : Nat) (f : MsgFrame) : State :=
  let tube := hasBit f.flags 2
  if k = 0 then
    match tubeTelegram f.payload with
    | some t => if t.type = tgPdData ∧ tgValid t then s.bdrHold t else s.bdrDrop
    | none => s.bdrDrop
  else if addrStk f.dst ≠ 0 ∨ hasBit f.flags 1 then s.bdrDrop
  else if tube then
    match tubeTelegram f.payload with
    | some t => if t.type = tgMsg ∧ tgValid t then s.bdrQueue k { t with dest := k, src := 0 } else s.bdrDrop
    | none => s.bdrDrop
  else if 224 < f.payload.length then s.bdrDrop
  else s.bdrQueue k { type := tgMsg, dest := k, src := 0, data := f.payload }

end Sys2Proof.Machine
end

