-- ==== Sys2Proof/Machine/Flow.lean ====
section
/-! DEFINITION. The flow engine: slices, commands, stale runs, channel tests, the lockstep comparator (R244–R270,
R416, R419). -/

namespace Sys2Proof.Machine

open Reg

/-! ### Work units (R248, R251, R252) -/

/-- A slot item is cut to the flow's range; an area that does not hold it gives none (R148, R258). -/
def State.slotItem (s : State) (f : Nat) (i : Item) : Option Item :=
  if i.ch = chSlot then
    let (off, len) := slotRange (s.get (FCTX_SRC_SEL f))
    if off + len ≤ i.data.length then some { i with data := slice off len i.data } else none
  else some i

/-- One flow takes an item. -/
def State.flowTakes (i : Item) (s : State) (f : Nat) : State :=
  match s.slotItem f i with
  | some i => s.runFlow f i
  | none => s

/-- One work unit of an item: at most four of its flows, in ascending number; the rest stays in work. -/
def State.workUnit (s : State) (ch : Nat) (i : Item) (flows : List Nat) : State :=
  let rest := flows.drop 4
  let s := s.flwMap (fun w => { w with work := if rest.isEmpty then tabErase ch w.work else tabPut ch (i, rest) w.work })
  (flows.take 4).foldl (State.flowTakes i) s

/-- The item next in turn on a channel: the head of its ingress queue, or the oldest frame of RXQ0 before RXQ1. -/
def State.frontItem (s : State) (ch : Nat) : Option Item :=
  if chClass ch = 3 then
    let c := s.chan (chIndex ch)
    match c.rxq0, c.rxq1 with
    | (a, e) :: _, _ => some { ch := ch, sel := 0, data := e, arrival := a }
    | [], (a, e) :: _ => some { ch := ch, sel := 1, data := e, arrival := a }
    | [], [] => none
  else (s.ingress ch).head?

/-- The state without the front item of a channel. -/
def State.popItem (s : State) (ch : Nat) : State :=
  if chClass ch = 3 then
    s.chanMap (chIndex ch) (fun c => if c.rxq0.isEmpty then { c with rxq1 := c.rxq1.tail } else { c with rxq0 := c.rxq0.tail })
  else
    let q := (s.ingress ch).tail
    s.flwMap (fun w => { w with ingress := if q.isEmpty then tabErase ch w.ingress else tabPut ch q w.ingress })

/-- The frame buffer word that holds an item has met an ECC error: 1 corrected, 2 uncorrectable (R245). -/
def State.bufferEcc (s : State) (ecc : Nat) : State :=
  if ecc = 1 then s.bump FLW_ECC_CORR
  else if ecc = 2 then ((s.bump FLW_ECC_UNCORR).set FLW_EVENT_ECC_UNCORR 1).pulse 9
  else s

/-- One work unit of a channel. -/
def State.serveChannel (s : State) (ch ecc : Nat) : State :=
  match tabFind ch s.flw.work with
  | some (i, flows) => s.workUnit ch i flows
  | none =>
    match s.frontItem ch with
    | none => s
    | some i =>
      let s := (s.popItem ch).bufferEcc ecc
      if ecc = 2 then s
      else match i.frame, chClass i.ch == 1 && decide (i.ch < chSlot) with
        | some m, true => s.translate i.sel m
        | _, _ =>
          match s.matching i with
          | [] => s.bump FLW_STAT_UNMATCHED
          | flows => s.workUnit ch i flows

/-- Channels whose items wait for slices. -/
abbrev queuedChannels : List Nat :=
  [0x10, 0x11, 0x12, 0x13, 0x14, 0x20, 0x21, 0x22, 0x23, 0x24, 0x25, 0x26, 0x27, 0x30, 0x31, 0x32, 0x33, 0x34, 0x35,
   0x36, 0x37, 0x38, 0x39, 0x3A, 0x3B, 0x70, 0x80]

/-- The work unit next in turn on a channel: arrival number of its item, and its flows. -/
def State.nextUnit (s : State) (ch : Nat) : Option (Nat × List Nat) :=
  match tabFind ch s.flw.work with
  | some (i, flows) => some (i.arrival, flows.take 4)
  | none => (s.frontItem ch).map (fun i => (i.arrival, (s.matching i).take 4))

/-- The channel with the oldest waiting unit that belongs to no shed flow (R252). -/
def State.oldestUnit (s : State) : Option Nat :=
  (queuedChannels.foldl (fun (best : Option (Nat × Nat)) ch =>
    match s.nextUnit ch with
    | none => best
    | some (a, flows) =>
      if flows.any (fun f => s.flowStatus f == flowShed) then best
      else match best with
        | some (b, _) => if a < b then some (a, ch) else best
        | none => some (a, ch)) none).map (·.2)

/-! ### GPIO (R265, Table 16.3) -/

/-- A driven pin that differs from its latch in three consecutive slices asserts source 22. -/
def State.gpioReadback (s : State) (pins : Nat) : State :=
  let (drive, level) := s.gpioPins
  let k := if Nat.land drive (Nat.xor pins level) = 0 then 0 else s.flw.gpioBad + 1
  (s.flwMap (fun w => { w with gpioBad := Nat.min 3 k })).line 22 (decide (3 ≤ k))

/-- One scan: an input changes when two consecutive samples agree on the new level; a change is an item. -/
def State.gpioScan (s : State) (pins : Nat) : State :=
  let pins := pins % 2 ^ 32
  let s := s.gpioReadback pins
  let agreed := andNot (2 ^ 32 - 1) (Nat.xor pins s.flw.gpioLast)
  let changed := Nat.land agreed (Nat.xor pins (s.get FLW_GPIO_IN_IN))
  let s := s.flwMap (fun w => { w with gpioLast := pins })
  if changed = 0 then s
  else
    let s := s.set FLW_GPIO_IN_IN (Nat.xor (s.get FLW_GPIO_IN_IN) changed)
    s.offer chGpio { ch := chGpio, sel := changed, data := le 4 (s.get FLW_GPIO_IN_IN) }

/-- In REFEREE mode the GPIO slices watch ALIVE on GPIO0 and GPIO1: a change of level is an edge (R375, R385). -/
def State.aliveEdges (s : State) (pins : Nat) : State :=
  let moved := fun (m : Nat) => hasBit pins m != hasBit s.flw.gpioLast m
  let s := if moved 0 then ({ s with pair := { s.pair with aliveStopped0 := false } }).set PAIR_REF_STATUS_ALIVE0 1 else s
  let s := if moved 1 then ({ s with pair := { s.pair with aliveStopped1 := false } }).set PAIR_REF_STATUS_ALIVE1 1 else s
  s.flwMap (fun w => { w with gpioLast := pins % 2 ^ 32 })

/-! ### Slices (R246–R248) -/

/-- Owner of a slice. -/
def State.sliceOwner (s : State) (slice : Nat) : Nat := bits (s.get (FLW_SLICE_ENTRY (slice / 4))) (8 * (slice % 4)) 8

/-- A MAINT slice gives the collector a heartbeat (R416). -/
def State.maintStep (s : State) : State := { s with flt := { s.flt with heartbeat := true } }

/-- The engine does work at all: not halted, and not in BOOT or SLEEP (R246). -/
def State.engineAlive (s : State) : Bool := !s.flag FLW_STATUS_HALTED && !s.inModes [modeBoot, modeSleep]

/-- One slice. HOST, BRIDGE and RECORDER slices are served by the steps of their blocks. -/
def State.serveSlice (s : State) (slice pins ecc : Nat) : State :=
  if !s.engineAlive then s
  else
    let ch := s.sliceOwner slice
    if ch = chMaint then s.maintStep
    else if s.mode = modeReferee then (if ch = chGpio then s.aliveEdges pins else s)
    else if !s.engineRuns then s
    else if ch = 0 then
      (if s.flag FLW_CFG_SPARE_USE then match s.oldestUnit with
        | some c => s.serveChannel c ecc
        | none => s
      else s)
    else if ch = chGpio then (s.gpioScan pins).serveChannel ch ecc
    else if queuedChannels.contains ch then s.serveChannel ch ecc
    else s

def execSliceService (slice pins ecc : Nat) (s : State) : Host.Outcome State Fault Refusal :=
  finish (if slice < 64 then s.serveSlice slice pins ecc else s)

/-! ### ENABLE and DISABLE (R254–R256, R271) -/

/-- Channel codes that Table 9.1 allows as a flow's source or destination. -/
def flowChannel (c : Nat) : Bool :=
  c == chSlot || c == chMsg || decide (0x20 ≤ c ∧ c ≤ 0x27) || decide (0x30 ≤ c ∧ c ≤ 0x3B) || c == chHost || c == chGpio
    || c == chStack

/-- A FRAME_ID of the consist schedule. -/
def State.frameIdOk (s : State) (id : Nat) : Bool :=
  decide (1 ≤ id ∧ id ≤ s.get CST_SCHED0_S) || decide (65 ≤ id ∧ id ≤ 64 + s.get CST_SCHED1_M)

/-- A FRAME_ID that the node owns: a static slot of it, in whatever cycles, or a dynamic ID. -/
def State.ownsFrameId (s : State) (id : Nat) : Bool :=
  s.frameIdOk id && (if id ≤ 64 then s.get (CST_SLOT_OWNER (id - 1)) == s.spoke else s.dynOwner (id - 64) == s.spoke)

/-- The source selector lies within its range and the area in force. A UID binding not yet resolved has no area to
check. -/
def State.srcSelOk (s : State) (f : Nat) : Bool :=
  let ch := s.get (FCTX_SRC_CH f)
  let sel := s.get (FCTX_SRC_SEL f)
  if ch = chSlot then
    let (off, len) := slotRange sel
    s.get (FCTX_BIND f) == 2 || !s.rangeMissing (s.get (FCTX_BIND_POS f)) (off + len)
  else match chClass ch with
    | 2 => s.frameIdOk (bits sel 0 10)
    | 3 => !(bits sel 30 2 == 3)
    | _ => true

/-- The destination selector lies within its range and the own area. -/
def State.dstSelOk (s : State) (f : Nat) : Bool :=
  let ch := s.get (FCTX_DST_CH f)
  let sel := s.get (FCTX_DST_SEL f)
  if ch = chSlot then
    let (off, len) := slotRange sel
    decide (4 ≤ off ∧ off + len ≤ 16 * s.get CYC_CFG_SLOT_SIZE)
  else if ch = chMsg then !(bits sel 0 3 == 7)
  else match chClass ch with
    | 2 => s.ownsFrameId (bits sel 0 10)
    | _ => true

/-- An item of the flow can carry a CAN identifier, or USE_ID gives one (Table 9.5). -/
def State.canIdOk (s : State) (f : Nat) : Bool :=
  let src := s.get (FCTX_SRC_CH f)
  !(chClass (s.get (FCTX_DST_CH f)) == 3) || hasBit (s.get (FCTX_DST_SEL f)) 14
    || chClass src == 3 || chClass src == 4 || (src == chMsg && s.get (FCTX_TUBE f) == 2)

/-- The checks of R254 on a context. -/
def State.contextOk (s : State) (f : Nat) : Bool :=
  let src := s.get (FCTX_SRC_CH f)
  let dst := s.get (FCTX_DST_CH f)
  let bind := s.get (FCTX_BIND f)
  let auth := s.get (FCTX_AUTH f)
  let tube := s.get (FCTX_TUBE f)
  let either := fun (c : Nat) => src == c || dst == c
  flowChannel src && flowChannel dst
    && !(s.get (FCTX_CRIT f) == 3) && !(bind == 3) && !(s.get (FCTX_STALE_ACT f) == 3) && !(auth == 3) && !(tube == 3)
    && s.srcSelOk f && s.dstSelOk f
    && (!(bind == 1) || decide (1 ≤ s.get (FCTX_BIND_POS f) ∧ s.get (FCTX_BIND_POS f) ≤ 256))
    && (bind == 0 || either chSlot || either chMsg)
    && (auth == 0 || either chMsg)
    && (!(tube == 1) || dst == chMsg) && (!(tube == 2) || src == chMsg)
    && (auth == 0 || s.slotPurpose (flowSlot (s.get (FCTX_KEY_SLOT f)) s.flowEpoch) == purposeFlow)
    && s.canIdOk f

/-- The status in which an enabled flow starts. -/
def State.startStatus (s : State) (f : Nat) : Nat :=
  if s.isRetired (s.get (FCTX_SRC_CH f)) then flowSrcRetired
  else if s.isRetired (s.get (FCTX_DST_CH f)) then flowDstRetired
  else if !(s.get (FCTX_AUTH f) == 0) && s.flw.ivDone then flowKeyExhausted
  else if s.get (FCTX_BIND f) = 2 then flowResolving
  else flowActive

/-- A checked context starts: bucket full, bound, and resolved where its UID is known (R254, R256). -/
def State.startFlow (s : State) (f : Nat) : State :=
  let s := (s.set (FCTX_EN f) 1).set (FCTX_BUCKET f) (16 * s.get (FCTX_BURST f))
  let s := s.set (FCTX_RES_POS f) (if s.get (FCTX_BIND f) = 1 then s.get (FCTX_BIND_POS f) else 0)
  let s := s.setFlowStatus f (s.startStatus f)
  let s := if s.flowStatus f = flowResolving then s.resolveFlow f else s
  if s.flag FLW_STATUS_SHEDDING && s.sheddable f then s.setFlowStatus f flowShed else s

/-- Modes that accept the commands of Table 9.8. -/
def State.flowModes (s : State) : Bool := s.inModes [modeNative, modeBorder, modeStandby]

def cmdFlowEnable : CmdSpec :=
  { base := 0xC000, code := 1, accepted := State.flowModes
    argOk := fun s arg => decide (arg < 1024) && s.contextOk arg
    run := fun arg s => s.startFlow arg }

def execFlowEnable (path : Path) (arg : Nat) (s : State) : Host.Outcome State Fault Refusal :=
  finish (s.command cmdFlowEnable path arg)

/-- What a flow has queued is discarded: its share of items in work, and its frames not yet in transmission. -/
def State.discardItems (s : State) (f : Nat) : State :=
  let work := (s.flw.work.map (fun e => (e.1, e.2.1, e.2.2.filter (fun x => !(x == f))))).filter (fun e => !e.2.2.isEmpty)
  let s := s.flwMap (fun w => { w with work := work })
  let s := s.dropQueued (fun q => flowOwner q == some f)
  s.msgMap (fun m => { m with returned := m.returned.filter (fun q => !(flowOwner q == some f)) })

/-- A flow stops (R271). -/
def State.stopFlow (s : State) (f : Nat) : State :=
  ((s.discardItems f).putFlowStatus f flowDisabled).load [(FCTX_EN f, 0), (FCTX_RES_POS f, 0)]
    |>.flwMap (fun w => { w with last := tabErase f w.last })

def cmdFlowDisable : CmdSpec :=
  { base := 0xC000, code := 2, accepted := State.flowModes
    argOk := fun _ arg => decide (arg < 1024)
    run := fun arg s => s.stopFlow arg }

def execFlowDisable (path : Path) (arg : Nat) (s : State) : Host.Outcome State Fault Refusal :=
  finish (s.command cmdFlowDisable path arg)

/-! ### The slice table (R249, R269) -/

/-- Channel codes that Table 9.1 allows in the slice table. -/
def sliceCode (c : Nat) : Bool :=
  c == 0 || decide (0x10 ≤ c ∧ c ≤ 0x14) || decide (0x20 ≤ c ∧ c ≤ 0x27) || decide (0x30 ≤ c ∧ c ≤ 0x3B)
    || decide (0x40 ≤ c ∧ c ≤ 0x43) || c == chBridge || c == chRecorder || c == chGpio || c == chStack || c == chMaint

/-- Entry i of the shadow table. -/
def State.shadowEntry (s : State) (i : Nat) : Nat := bits (s.get (FLW_SLICE_SH_ENTRY (i / 4))) (8 * (i % 4)) 8

/-- Number of shadow slices of a channel. -/
def State.shadowCount (s : State) (c : Nat) : Nat := ((List.range 64).filter (fun i => s.shadowEntry i == c)).length

/-- The slice owner that a flow's channel needs: a host ring its group, slots SLOT, messages the lines. -/
def State.slicesOfFlow (s : State) (f : Nat) : List Nat :=
  let src := s.get (FCTX_SRC_CH f)
  let dst := s.get (FCTX_DST_CH f)
  let one := fun (c : Nat) => if c = chMsg ∨ chClass c = 4 then [] else [c]
  one src ++ one dst ++ (if src = chHost then [0x40 + ringGroup (bits (s.get (FCTX_SRC_SEL f)) 0 6)] else [])

/-- A channel that the configuration enables: a line port, the ring in a stack, what an enabled flow names; a
retired one is not. -/
def State.enabledChannels (s : State) : List Nat :=
  let used := [0x10, 0x11, 0x12, 0x13] ++ (if s.flag STK_CFG_EN then [chStack] else [])
    ++ (s.enabledFlows.map s.slicesOfFlow).flatten
  used.filter (fun c => !s.isRetired c)

/-- The shadow table passes R249 and R269. -/
def State.shadowOk (s : State) : Bool :=
  (List.range 64).all (fun i => sliceCode (s.shadowEntry i) && !s.isRetired (s.shadowEntry i))
    && s.enabledChannels.all (fun c => decide (0 < s.shadowCount c))
    && decide (2 ≤ s.shadowCount chSlot) && decide (3 ≤ s.shadowCount chMaint)

def cmdSliceApply : CmdSpec :=
  { base := 0xC000, code := 3, accepted := State.flowModes
    argOk := fun s _ => s.shadowOk
    run := fun _ s => s.flwMap (fun w => { w with applyDue := true }) }

def execSliceApply (path : Path) (arg : Nat) (s : State) : Host.Outcome State Fault Refusal :=
  finish (s.command cmdSliceApply path arg)

/-- The wheel starts: a checked shadow table becomes active. -/
def execSliceTableSwap (s : State) : Host.Outcome State Fault Refusal :=
  finish (if s.flw.applyDue && s.engineAlive then
    ((List.range 16).foldl (fun s w => s.set (FLW_SLICE_ENTRY w) (s.get (FLW_SLICE_SH_ENTRY w))) s).flwMap
      (fun w => { w with applyDue := false })
  else s)

/-! ### Stale flows (R258) -/

/-- The last committed value of a stale flow's source. -/
def State.heldItem (s : State) (f : Nat) : Option Item :=
  if s.get (FCTX_SRC_CH f) = chSlot then
    let q := s.get (FCTX_RES_POS f)
    (tabFind q s.cyc.rx).bind (fun a => s.slotItem f { ch := chSlot, sel := q, data := a })
  else tabFind f s.flw.last

/-- Length of what a stale flow runs on: the slot range, or that of the last item. -/
def State.staleLen (s : State) (f : Nat) : Nat :=
  if s.get (FCTX_SRC_CH f) = chSlot then (slotRange (s.get (FCTX_SRC_SEL f))).2
  else match tabFind f s.flw.last with
    | some i => i.data.length
    | none => 16

/-- A STALE flow runs as STALE_ACT gives: 0 HOLD, 1 SAFE, 2 SUPPRESS. -/
def State.runStale (s : State) (f : Nat) : State :=
  if !s.engineRuns || !(s.flowStatus f == flowStale) then s
  else match s.get (FCTX_STALE_ACT f) with
    | 0 =>
      match s.heldItem f with
      | some i => s.policeItem f i .hold
      | none => s
    | 1 => s.policeItem f { ch := s.get (FCTX_SRC_CH f), sel := 0, data := fit (s.staleLen f) (le 16 (s.get (FCTX_SAFE_VAL f))) } .safe
    | _ => s

def execStaleFlowRun (flow : Nat) (s : State) : Host.Outcome State Fault Refusal :=
  finish (if flow < 1024 then s.runStale flow else s)

/-! ### In-service tests, and the comparator (R244, R419) -/

/-- The loopback test of one retirable channel: two consecutive failures retire it. -/
def State.testChannel (s : State) (ch : Nat) (pass : Bool) : State :=
  if !s.engineAlive || !retirable.contains ch || s.isRetired ch then s
  else if pass then s.flwMap (fun w => { w with testFails := tabErase ch w.testFails })
  else if tabGet 0 s.flw.testFails ch = 0 then s.flwMap (fun w => { w with testFails := tabPut ch 1 w.testFails })
  else (s.flwMap (fun w => { w with testFails := tabErase ch w.testFails })).retire ch 1

def execChannelTest (channel : Nat) (pass : Bool) (s : State) : Host.Outcome State Fault Refusal :=
  finish (s.testChannel channel pass)

/-- The outputs of the two cores differ: both halt. -/
def execLockstepMismatch (s : State) : Host.Outcome State Fault Refusal :=
  finish (if s.engineAlive then (s.load [(FLW_STATUS_HALTED, 1), (FLW_EVENT_HALTED, 1)]).assertLine 0 else s)

end Sys2Proof.Machine
end

