-- ==== Sys2Proof/Machine/Gline.lean ====
section
/-! DEFINITION. The G-line: telegrams, legacy inauguration, the 16 ms period, lines A and B, and the border node
(R344–R363). -/

namespace Sys2Proof.Machine

open Reg

/-! ### The node on the G-line -/

/-- The G-line runs: on all ports in GTN, on end 1 in BORDER. -/
def State.gRuns (s : State) : Bool := s.inGtn || s.mode == modeBorder

def State.gBorder (s : State) : Bool := s.mode == modeBorder

/-- The node takes part: a border node always, a GTN node with CSR.NODE_EN = 1. -/
def State.gTakesPart (s : State) : Bool := s.gBorder || s.flag GTN_CSR_NODE_EN

/-- The node may become master. -/
def State.gMayMaster (s : State) : Bool := s.gBorder || (s.flag GTN_CSR_NODE_EN && s.flag GTN_CSR_MASTER_EN)

/-- The node is G-line master. -/
def State.gMaster (s : State) : Bool := s.gln.stage == 3

/-- Own VID. -/
def State.gVid (s : State) : Nat := if s.gBorder then s.get INA_BDR_VID_VID else s.get GTN_VID_VID

/-- Ends on which the node runs the G-line. -/
def State.gEnds (s : State) : List Nat := if s.gBorder then [1] else [1, 2]

/-- SRC of own telegrams: the legacy position, 0xFF while unnamed. -/
def State.gSrc (s : State) : Nat := if s.gln.named then s.gln.pos else 0xFF

/-- A telegram leaves by both lines of an end (R355). -/
def State.gSendEnd (s : State) (e : Nat) (t : Telegram) : State :=
  (endPorts e).foldl (fun s p => if s.get (LN_TRX_STATE p) = trxNormal ∧ s.permission then s.emit (.telegram p t) else s) s

/-- A telegram leaves by every end. -/
def State.gSend (s : State) (t : Telegram) : State := s.gEnds.foldl (fun s e => s.gSendEnd e t) s

/-- A telegram of this node without data. -/
def State.gBare (s : State) (type dest : Nat) : Telegram := { type := type, dest := dest, src := s.gSrc }

/-- Active line of an end. -/
def GlnState.active (g : GlnState) (e : Nat) : Nat := if e = 1 then g.active1 else g.active2

/-- A telegram arrives on a port of a repeating node: it goes onto the same line of the other end (R344). A border
node stands at the end of its segment. -/
def State.gRepeat (s : State) (p : Nat) (t : Telegram) : State :=
  if s.inGtn && (s.gln.repeating || !s.flag GTN_CSR_NODE_EN) && s.get (LN_TRX_STATE (portAcross p)) == trxNormal
      && s.permission then s.emit (.telegram (portAcross p) t)
  else s

/-- LSR and SSR.LINKED show the lines that are UP. -/
def State.gShowLines (s : State) : State :=
  s.load [(GTN_LSR_UP, s.gln.up), (GTN_LSR_ACTIVE1, s.gln.active1), (GTN_LSR_ACTIVE2, s.gln.active2),
    (GTN_SSR_LINKED, b2n !(s.gln.up == 0)), (INA_BDR_STATUS_ACTIVE_LINE, s.gln.active1)]

/-- A valid telegram arrives on a port: it is repeated, and the port is UP. -/
def State.gHear (s : State) (p : Nat) (t : Telegram) : State :=
  ((s.gRepeat p t).glnMap (fun g => { g with up := setBitOf g.up p })).gShowLines

/-- The node takes a telegram: valid, on a port of its own, on the active line of the end, while it takes part. -/
def State.gTakes (s : State) (p : Nat) (type : Nat) (t : Telegram) : Bool :=
  s.gRuns && decide (p < 4) && s.gEnds.contains (portEnd p) && t.type == type && tgValid t && s.gTakesPart
    && s.gln.active (portEnd p) == p % 2

/-- A telegram of a type as a step: heard by the port, and acted on where the node takes it. -/
def State.gStep (s : State) (p type : Nat) (t : Telegram) (act : State → State) : State :=
  if !s.gRuns || !decide (p < 4) || !s.gEnds.contains (portEnd p) || !(t.type == type) || !tgValid t then s
  else
    let takes := s.gTakes p type t
    let s := s.gHear p t
    if takes then act s else s

/-- A big-endian number in a telegram's data. -/
def tgNum (t : Telegram) (off n : Nat) : Nat := ofBe (slice off n t.data)

/-! ### Legacy inauguration: start and contest (R348, R349) -/

/-- At RESET, or at its own trigger: the position is dropped, the inauguration runs, and candidates back off. -/
def State.gStart (s : State) : State :=
  let s := s.glnMap (fun g => { g with
    named := false, pos := 0, repeating := true, stage := if s.gMayMaster then 1 else 0, slice := 0, members := [], nextPos := 1,
    missed1 := false, missed2 := false, polls := [], waiting := none, pollIdx := 0, turn := 1, misses := [], periods := 0,
    probes := [], attempts := [], excess := false })
  s.load [(GTN_POS_VALID, 0), (GTN_SSR_INAUG, 1), (GTN_SSR_MASTER, 0), (INA_BDR_STATUS_INAUG, b2n s.gBorder),
    (INA_BDR_STATUS_VALID, if s.gBorder then 0 else s.get INA_BDR_STATUS_VALID)]

/-- A trigger at this node: the master first sends RESET on both lines of each end it has named. -/
def State.gTrigger (s : State) : State :=
  let t := s.gBare tgReset 0xFF
  let s := if s.gMaster then
      (s.gEnds.filter (fun e => s.gln.members.any (fun m => m.side == e))).foldl (fun s e => s.gSendEnd e t) s
    else s
  s.gStart

/-- The candidate withdraws. -/
def State.gWithdraw (s : State) : State := s.glnMap (fun g => { g with stage := 0 })

/-- A CLAIM: one backing off withdraws; one whose CLAIM is out withdraws before a lower VID. -/
def execClaimReceive (port : Nat) (telegram : Telegram) (s : State) : Host.Outcome State Fault Refusal :=
  finish (s.gStep port tgClaim telegram (fun s =>
    if s.gln.stage = 1 ∨ (s.gln.stage = 2 ∧ tgNum telegram 0 4 < s.gVid) then s.gWithdraw else s))

/-- The backoff ends: CLAIM with the own VID. -/
def execClaimBackoffExpiry (s : State) : Host.Outcome State Fault Refusal :=
  finish (if s.gRuns ∧ s.gln.stage = 1 then
    (s.gSend { s.gBare tgClaim 0xFF with data := be 4 s.gVid }).glnMap (fun g => { g with stage := 2 })
  else s)

/-- A discarded telegram is counted by port; within 100 µs of the own CLAIM it is a collision (R346, R349). -/
def State.gDiscard (s : State) (p : Nat) (t : Telegram) : State :=
  if !s.gRuns || !decide (p < 4) || !s.gEnds.contains (portEnd p) then s
  else
    let s := (s.gRepeat p t).bump (LN_ERR_CNT_CODE_ERRORS p)
    let s := if s.inGtn then s.bump (GTN_LEC_CHECK p) else s
    if s.gln.stage = 2 then s.glnMap (fun g => { g with stage := 1, slice := Nat.min 2 (g.slice + 1) }) else s

def execGTelegramDiscard (port : Nat) (telegram : Telegram) (s : State) : Host.Outcome State Fault Refusal :=
  finish (s.gDiscard port telegram)

/-! ### Naming (R350–R352) -/

/-- NAME with a position offered, or the probe 0x20, at an end. -/
def State.gName (s : State) (e pos : Nat) (second : Bool) : State :=
  (s.gSendEnd e (s.gBare tgName pos)).glnMap (fun g => { g with waiting := some (.name e pos second) })

/-- Own legacy source ports: the border node's, or those of the PD_SRC mailboxes. -/
def State.gPorts (s : State) : List Nat :=
  if s.gBorder then s.bdrPorts
  else (allMboxes.filter (fun n => s.mboxKind n == mbPdSrc)).map (fun n => s.get (GTN_MBC_PARAM n))

/-- The legacy topology is in force at this node: position, count and VIDs (R351, R359). -/
def State.gTopology (s : State) (pos orient : Nat) (vids : List Nat) : State :=
  let count := vids.length
  let s := s.load [(GTN_POS_POS, pos), (GTN_POS_COUNT, count), (GTN_POS_ORIENT, orient), (GTN_POS_VALID, 1)]
  let s := ((s.wrapUp GTN_TCR_COUNT).set GTN_SSR_INAUG 0).setSsr 19 |>.setIsr 17
  let s := s.legacyLog 0xA000 0x10 (256 * count + pos) (s.get GTN_TCR_COUNT)
  if !s.gBorder then s
  else
    let l := count - 1
    let changed := !(l == s.get INA_BDR_STATUS_L) || (List.range l).any (fun k => !(s.get (INA_BDR_LVID_VID k) == vids.getD (k + 1) 0))
    let s := (s.wrapUp INA_BDR_STATUS_TCR).load [(INA_BDR_STATUS_L, l), (INA_BDR_STATUS_VALID, 1), (INA_BDR_STATUS_INAUG, 0)]
    let s := (List.range 31).foldl (fun s k => s.set (INA_BDR_LVID_VID k) (vids.getD (k + 1) 0)) s
    let s := s.line 57 s.gln.excess
    if changed then s.inaTrigger else s

/-- Poll pairs beyond the 64th are counted. -/
def State.gExcess (s : State) (n : Nat) : State :=
  if n = 0 then s else if s.gBorder then s.add INA_BDR_STAT_EXCESS n else s.add GTN_PEC_COUNT n

/-- Naming ends: TOPOLOGY on every end, the poll list, and the topology at the master itself. -/
def State.gFinishNaming (s : State) : State :=
  let vids := s.gVid :: s.gln.members.map (fun m => m.vid)
  let all := (s.gPorts.map (fun p => (0, p))) ++ (s.gln.members.map (fun m => m.ports.map (fun p => (m.pos, p)))).flatten
  let tcr := (s.get (if s.gBorder then INA_BDR_STATUS_TCR else GTN_TCR_COUNT) + 1) % 65536
  let s := s.gSend { s.gBare tgTopology 0xFF with data := be 1 vids.length ++ (vids.map (be 4)).flatten ++ be 2 tcr }
  let s := s.glnMap (fun g => { g with polls := all.take 64, waiting := none, pollIdx := 0, turn := 1, misses := [], periods := 0 })
  (s.gExcess (all.length - 64)).gTopology 0 0 vids

/-- The naming of an end has ended: the next end, or the end of naming. -/
def State.gNextEnd (s : State) (e : Nat) : State :=
  if e = 1 ∧ s.gEnds.contains 2 ∧ s.gln.nextPos ≤ 31 then s.gName 2 s.gln.nextPos false else s.gFinishNaming

/-- The next NAME at an end. After position 31 a border node finds a further vehicle by one NAME to 0x20. -/
def State.gNameOn (s : State) (e : Nat) : State :=
  if s.gln.nextPos ≤ 31 then s.gName e s.gln.nextPos false
  else if s.gBorder then s.gName e 0x20 false
  else s.gFinishNaming

/-- 100 µs after its CLAIM a candidate that has not withdrawn is master, at position 0. -/
def execClaimWinExpiry (s : State) : Host.Outcome State Fault Refusal :=
  finish (if s.gRuns ∧ s.gln.stage = 2 then
    ((s.glnMap (fun g => { g with stage := 3, named := true, pos := 0 })).set GTN_SSR_MASTER 1).gNameOn 1
  else s)

/-- An unnamed node takes the position offered, or answers a probe (R350, R352). -/
def State.gTakeName (s : State) (p : Nat) (t : Telegram) : State :=
  if s.gln.named ∨ s.gBorder then s
  else
    let ports := (s.gPorts).take 16
    let ack := fun (s : State) => s.gSend { s.gBare tgNameAck 0 with
      data := be 4 s.gVid ++ be 1 ports.length ++ (ports.map (be 1)).flatten }
    if t.dest = 0x20 then ack (s.glnMap (fun g => { g with repeating := false }))
    else if 1 ≤ t.dest ∧ t.dest ≤ 31 then
      ack ((s.glnMap (fun g => { g with named := true, pos := t.dest, repeating := true, stage := 0 })).set GTN_POS_ORIENT
        (if portEnd p = 1 then 0 else 1))
    else s

/-- A node without a position does not repeat the NAME that names it. -/
def execNameReceive (port : Nat) (telegram : Telegram) (s : State) : Host.Outcome State Fault Refusal :=
  let s := if s.gTakes port tgName telegram ∧ !s.gln.named then s.glnMap (fun g => { g with repeating := false }) else s
  finish (s.gStep port tgName telegram (fun s => s.gTakeName port telegram))

/-- The named vehicle is recorded and the next position named. -/
def State.gNamed (s : State) (e pos : Nat) (t : Telegram) : State :=
  let n := tgNum t 4 1
  let m : GMember := ⟨pos, e, tgNum t 0 4, (List.range (Nat.min 16 n)).map (fun i => tgNum t (5 + i) 1)⟩
  (s.glnMap (fun g => { g with members := g.members ++ [m], nextPos := pos + 1, waiting := none })).gNameOn e

/-- A 32nd legacy vehicle answers: it stays unnamed and is reported (Table 13.4). -/
def State.gTooMany (s : State) : State :=
  ((s.glnMap (fun g => { g with excess := true, waiting := none })).bump INA_BDR_STAT_EXCESS).assertLine 57

/-! ### Polls (R347, R353, R354) -/

/-- A poll without an answer, of a vehicle: the third in a row is a trigger. -/
def State.gMiss (s : State) (pos : Nat) : Bool × State :=
  let k := tabGet 0 s.gln.misses pos + 1
  (decide (3 ≤ k), s.glnMap (fun g => { g with misses := tabPut pos k g.misses, waiting := none }))

/-- A vehicle has answered. -/
def State.gAnswered (s : State) (pos : Nat) : State :=
  s.glnMap (fun g => { g with misses := tabErase pos g.misses, waiting := none })

/-- Own process data for a port: the copy of the PD_SRC mailbox, or what the border node holds for it. -/
def State.gOwnData (s : State) (port : Nat) : Option Telegram :=
  if s.gBorder then (tabFind port s.gln.pdHeld).map (fun t => { t with dest := 0xFF, src := s.gSrc })
  else if !s.flag GTN_PDC_PD_EN then none
  else (allMboxes.find? (fun n => s.mboxKind n == mbPdSrc && s.get (GTN_MBC_PARAM n) == port)).map (fun n =>
    { s.gBare tgPdData 0xFF with flags := s.get GTN_SSR_PD_VALID, data := be 1 port ++ tabGet [] s.gtn.copies n })

/-- The answer to a poll of an own port. -/
def State.gSendData (s : State) (port : Nat) : State :=
  match s.gOwnData port with
  | none => s
  | some t =>
    let s := (s.gSend t).gtnMap (fun g => { g with ownSent := true })
    if s.gBorder then s.glnMap (fun g => { g with pdHeld := tabErase port g.pdHeld }) else s

/-- MSG of a mailbox as it is sent: RETRY from the second attempt on. -/
def State.gMailTelegram (s : State) (n : Nat) : Telegram :=
  { s.gBare tgMsg (s.ramWord (mbDest n) % 256) with
    flags := if tabGet 0 s.gln.attempts n = 0 then 0 else 2, data := s.mboxBytes n (s.ramWord (mbLen n)) }

/-- An MSG_TX mailbox completes. -/
def State.gMailDone (s : State) (n status : Nat) : State :=
  (s.glnMap (fun g => { g with attempts := tabErase n g.attempts })).gtnMap (fun g => { g with
    msgOrder := g.msgOrder.filter (fun x => !(x == n)) })
    |>.releaseMbox n status

/-- The oldest pending MSG_TX mailbox with something to send; those that cannot be sent complete on the way
(Tables 12.9, 12.10). -/
def State.gNextMail : Nat → State → Option Nat × State
  | 0, s => (none, s)
  | k + 1, s =>
    match s.gtn.msgOrder with
    | [] => (none, s)
    | n :: _ =>
      let len := s.ramWord (mbLen n)
      if len = 0 then State.gNextMail k (s.gMailDone n mbOk)
      else if 224 < len then State.gNextMail k (s.gMailDone n mbBadLen)
      else if 4 ≤ tabGet 0 s.gln.attempts n then State.gNextMail k (s.gMailDone n mbNotDelivered)
      else if s.gln.up = 0 then State.gNextMail k (s.gMailDone n mbNoLine)
      else (some n, s)

/-- The mailbox's MSG is sent once more. -/
def State.gSendMail (s : State) (n : Nat) : State :=
  (s.gSend (s.gMailTelegram n)).glnMap (fun g => { g with attempts := tabPut n (tabGet 0 g.attempts n + 1) g.attempts })

/-- The border node's next telegram: one whose destination holds another VID, or that has been sent four times, is
discarded and counted (R361). -/
def State.gNextQueued : Nat → State → Option GQueued × State
  | 0, s => (none, s)
  | k + 1, s =>
    match s.gln.queue with
    | [] => (none, s)
    | q :: rest =>
      if q.attempts < 4 ∧ s.legacyVid q.dest = q.vid ∧ 1 ≤ q.dest ∧ q.dest ≤ s.get INA_BDR_STATUS_L then (some q, s)
      else State.gNextQueued k ((s.glnMap (fun g => { g with queue := rest })).bdrDrop)

/-- The own turn: whether a MSG was sent. -/
def State.gOwnTurn (s : State) : Bool × State :=
  if s.gBorder then
    match s.gNextQueued 33 with
    | (none, s) => (false, s)
    | (some q, s) =>
      let s := s.gSend { q.telegram with flags := if q.attempts = 0 then 0 else 2 }
      (true, s.glnMap (fun g => { g with
        waiting := some (.ack 0)
        queue := { q with attempts := q.attempts + 1 } :: g.queue.tail }))
  else
    match s.gNextMail 17 with
    | (none, s) => (false, s)
    | (some n, s) => (true, (s.gSendMail n).glnMap (fun g => { g with waiting := some (.ack 0) }))

/-- 300 µs remain before the next PERIOD. -/
def State.gTimeLeft (s : State) : Bool := decide (s.uptime + 300000 ≤ s.gln.periodAt + 16000000)

/-- The next exchange of the message phase: a probe that is due, the next vehicle, or the own turn after the
last. An own turn with nothing to send passes on. -/
def State.gNextMessage (s : State) : State :=
  match s.gln.probes with
  | e :: rest => (s.glnMap (fun g => { g with probes := rest })).gName e 0x20 false
  | [] =>
    if !s.gTimeLeft then s
    else
      let n := s.gln.members.length
      let poll := fun (s : State) (q : Nat) => (s.gSend (s.gBare tgMsgPoll q)).glnMap (fun g => { g with
        turn := q + 1, waiting := some (.msgPoll q) })
      if 1 ≤ s.gln.turn ∧ s.gln.turn ≤ n then poll s s.gln.turn
      else
        match s.gOwnTurn with
        | (true, s) => s.glnMap (fun g => { g with turn := 1 })
        | (false, s) => if 1 ≤ n then poll s 1 else s

/-- The next poll of the data phase; own ports are answered at once. Then the message phase. -/
def State.gNextPoll : Nat → State → State
  | 0, s => s
  | k + 1, s =>
    match s.gln.polls[s.gln.pollIdx]? with
    | none => s.gNextMessage
    | some (pos, port) =>
      let s := s.glnMap (fun g => { g with pollIdx := g.pollIdx + 1 })
      if pos = 0 then State.gNextPoll k (s.gSendData port)
      else (s.gSend { s.gBare tgPdPoll pos with data := be 1 port }).glnMap (fun g => { g with waiting := some (.pd pos port) })

/-- The master goes on. -/
def State.gGoOn (s : State) : State := if s.gMaster then s.gNextPoll 65 else s

/-- The answer to a NAME: the next position, a trigger after a probe, or a vehicle too many. -/
def execNameAckReceive (port : Nat) (telegram : Telegram) (s : State) : Host.Outcome State Fault Refusal :=
  finish (s.gStep port tgNameAck telegram (fun s =>
    match s.gln.waiting with
    | some (.name e pos _) =>
      if pos ≠ 0x20 then s.gNamed e pos telegram
      else if s.flag GTN_SSR_INAUG then (s.gTooMany).gNextEnd e
      else s.gTrigger
    | _ => s))

/-- No SD within 60 µs of the master's ED (R347, R348, R350). -/
def State.gTimeout (s : State) : State :=
  let count := fun (s : State) =>
    let s := s.bump GTN_PEC_COUNT
    if s.gBorder then s.bump INA_BDR_STAT_POLL_ERR else s
  let missPoll := fun (s : State) (pos : Nat) =>
    match (count s).gMiss pos with
    | (true, s) => s.gTrigger
    | (false, s) => s.gGoOn
  match s.gln.waiting with
  | some (.name e pos second) =>
    let s := count s
    if pos = 0x20 then
      let s := s.glnMap (fun g => { g with waiting := none })
      if s.flag GTN_SSR_INAUG then s.gNextEnd e else s.gGoOn
    else if !second then s.gName e pos true
    else
      let s := s.glnMap (fun g => if e = 1 then { g with missed1 := true, waiting := none } else { g with missed2 := true, waiting := none })
      s.gNextEnd e
  | some (.pd pos _) => missPoll s pos
  | some (.msgPoll pos) => missPoll s pos
  | some (.ack pos) => ((if pos = 0 then count s else s).glnMap (fun g => { g with waiting := none })).gGoOn
  | none => s

def execAnswerTimeout (s : State) : Host.Outcome State Fault Refusal :=
  finish (if s.gRuns && s.gMaster then s.gTimeout else s)

/-- TOPOLOGY at a named vehicle. -/
def execTopologyReceive (port : Nat) (telegram : Telegram) (s : State) : Host.Outcome State Fault Refusal :=
  finish (s.gStep port tgTopology telegram (fun s =>
    if s.gln.named && !s.gMaster then
      s.gTopology s.gln.pos (s.get GTN_POS_ORIENT) ((List.range (tgNum telegram 0 1)).map (fun i => tgNum telegram (1 + 4 * i) 4))
    else s))

/-! ### The period (R353) -/

/-- Process data as a telegram brings it into a PD_SINK mailbox (Table 12.9). -/
def State.gWriteSink (s : State) (n : Nat) (t : Telegram) (status : Nat) : State :=
  let data := t.data.drop 1
  let s := State.setMboxBytes n 0 data s
  ((s.setRam (mbLen n) data.length).setRam (mbSrc n) t.src).releaseMbox n status

/-- A PD_SINK takes a telegram of its port, or holds it one deep. -/
def State.gSink (t : Telegram) (s : State) (n : Nat) : State :=
  let s := (s.bump GTN_PDS_SINKS).gtnMap (fun g => { g with sinkSeen := n :: g.sinkSeen })
  if s.flag (GTN_MBC_OWN n) then s.gWriteSink n t mbOk
  else s.gtnMap (fun g => { g with sinks := tabPut n (t, (tabFind n g.sinks).isSome) g.sinks })

/-- The PD_SINK mailboxes of a port. -/
def State.gSinks (s : State) (port : Nat) : List Nat :=
  if s.inGtn && s.flag GTN_PDC_PD_EN then
    allMboxes.filter (fun n => s.mboxKind n == mbPdSink && s.get (GTN_MBC_PARAM n) == port)
  else []

/-- A PD_SRC mailbox is copied and released at the start of a period; more than 64 bytes are BAD_LEN. -/
def State.gCopySource (s : State) (n : Nat) : State :=
  let len := s.ramWord (mbLen n)
  if 64 < len then s.releaseMbox n mbBadLen
  else (s.gtnMap (fun g => { g with copies := tabPut n (s.mboxBytes n len) g.copies })).releaseMbox n mbOk

/-- What the period that ends has missed: PD_SINK mailboxes not served, the own telegram not sent. -/
def State.gAccount (s : State) : State :=
  let missing := (allMboxes.filter (fun n => s.mboxKind n == mbPdSink && !s.gtn.sinkSeen.contains n)).length
  let s := s.add GTN_PDS_MISSING missing
  if !s.gtn.ownSent && allMboxes.any (fun n => s.mboxKind n == mbPdSrc) then s.setSsr 21 else s

/-- A process-data period starts at the node. -/
def State.gPeriod (s : State) : State :=
  let s := if s.inGtn then
      let s := s.setIsr 16
      let s := if s.flag GTN_PDC_PD_EN then
          let s := if s.gln.periodAt = 0 then s else s.gAccount
          (s.ownedMboxes mbPdSrc).foldl State.gCopySource s
        else s
      s.gtnMap (fun g => { g with sinkSeen := [], ownSent := false })
    else s
  s.glnMap (fun g => { g with periodAt := s.uptime })

def execPeriodReceive (port : Nat) (telegram : Telegram) (s : State) : Host.Outcome State Fault Refusal :=
  finish (s.gStep port tgPeriod telegram (fun s => if s.gMaster then s else s.gPeriod))

/-- Ends to probe: those whose naming ended with a missed NAME, and own ends without a named vehicle (R352). -/
def State.gProbeEnds (s : State) : List Nat :=
  s.gEnds.filter (fun e => (if e = 1 then s.gln.missed1 else s.gln.missed2) || !s.gln.members.any (fun m => m.side == e))

/-- Every 16 ms the master starts a period; every 64 periods it probes. -/
def State.gStartPeriod (s : State) : State :=
  let k := s.gln.periods + 1
  let probes := if k % 64 = 0 then s.gProbeEnds else []
  let s := (s.gSend (s.gBare tgPeriod 0xFF)).gPeriod
  (s.glnMap (fun g => { g with periods := k, pollIdx := 0, waiting := none, probes := probes })).gGoOn

def execPeriodTimer (s : State) : Host.Outcome State Fault Refusal :=
  finish (if s.gRuns && s.gMaster && s.flag GTN_POS_VALID then s.gStartPeriod else s)

/-- 50 ms without a PERIOD at a node that holds a position. -/
def execPeriodMissingTimeout (s : State) : Host.Outcome State Fault Refusal :=
  finish (if s.gRuns && s.gln.named && !s.gMaster then s.gTrigger else s)

def execGResetReceive (port : Nat) (telegram : Telegram) (s : State) : Host.Outcome State Fault Refusal :=
  finish (s.gStep port tgReset telegram (fun s => if s.gMaster then s else s.gStart))

/-- The owner of the polled port answers. -/
def execPdPollReceive (port : Nat) (telegram : Telegram) (s : State) : Host.Outcome State Fault Refusal :=
  finish (s.gStep port tgPdPoll telegram (fun s =>
    if s.gln.named ∧ telegram.dest = s.gln.pos ∧ !s.gMaster then s.gSendData (tgNum telegram 0 1) else s))

/-- A tube of KIND 3 from legacy position k, as received on a port (Table 13.3). Its STREAM is an open value
(notes/assumptions/4.md). -/
def State.gTube (s : State) (p k dst prio : Nat) (t : Telegram) : State :=
  let w := tgBytes t
  let payload := le 1 3 ++ le 1 (0x10 + p) ++ le 2 w.length ++ w
  let (stream, s) := s.draw 16
  let (m, s) := s.stampFrame { topo := 0, dst := dst, src := 0, type := 0, prio := Nat.min 6 prio, flags := 4, len := payload.length,
                               stream := stream, payload := payload }
  s.routeOwn { m with src := addrOf (s.legacyPos k) 0 } none

/-- PD_DATA: into the sinks of its port, and at the border into a tube. -/
def execPdDataReceive (port : Nat) (telegram : Telegram) (s : State) : Host.Outcome State Fault Refusal :=
  finish (s.gStep port tgPdData telegram (fun s =>
    let s := (s.gSinks (tgNum telegram 0 1)).foldl (State.gSink telegram) s
    let s := if s.gBorder ∧ 1 ≤ telegram.src ∧ telegram.src ≤ s.get INA_BDR_STATUS_L then
        s.gTube port telegram.src (s.get INA_BDR_DST_PD_DST) (s.get INA_BDR_CFG_PD_CLASS) telegram
      else s
    match s.gln.waiting with
    | some (.pd pos _) => if pos = telegram.src then (s.gAnswered pos).gGoOn else s
    | _ => s))

/-! ### Messages (R354, R360) -/

/-- The polled vehicle answers with its oldest pending message, or with NONE. -/
def execMsgPollReceive (port : Nat) (telegram : Telegram) (s : State) : Host.Outcome State Fault Refusal :=
  finish (s.gStep port tgMsgPoll telegram (fun s =>
    if s.gln.named ∧ telegram.dest = s.gln.pos ∧ !s.gMaster then
      match s.gNextMail 17 with
      | (some n, s) => s.gSendMail n
      | (none, s) => s.gSend (s.gBare tgNone 0)
    else s))

/-- The message queues that a frame to an address would enter have room. -/
def State.gRoom (s : State) (dst prio len : Nat) : Bool :=
  (s.outEnds dst).all (fun e => (endPorts e).all (fun p =>
    decide (((s.msgQueue p prio).map (fun x => msgStored x.frame)).sum + 16 + len ≤ s.msgDepth prio)))

/-- A message telegram for this vehicle goes to the lowest-numbered MSG_RX mailbox that takes its source. -/
def State.gDeliver (s : State) (t : Telegram) : State :=
  match (s.ownedMboxes mbMsgRx).find? (fun n => s.get (GTN_MBC_PARAM n) == 0 || s.get (GTN_MBC_PARAM n) == t.src) with
  | none => s
  | some n =>
    let s := State.setMboxBytes n 0 t.data s
    ((s.setRam (mbLen n) t.data.length).setRam (mbSrc n) t.src).releaseMbox n mbOk

/-- The destination answers MSG_ACK; a border node with a full message queue does not. -/
def State.gMessage (s : State) (p : Nat) (t : Telegram) : State :=
  let ack := fun (s : State) => s.gSend (s.gBare tgMsgAck t.src)
  if t.dest = 0xFF ∨ t.dest = 0x20 ∨ !s.gln.named ∨ t.dest ≠ s.gln.pos then s
  else if s.gBorder then
    let dst := s.get INA_BDR_DST_MSG_DST
    let prio := Nat.min 6 (s.get INA_BDR_CFG_MSG_CLASS)
    if !(decide (1 ≤ t.src ∧ t.src ≤ s.get INA_BDR_STATUS_L) && s.gRoom dst prio (9 + t.data.length)) then s
    else (ack s).gTube p t.src dst prio t
  else (ack s).gDeliver t

def execGMsgReceive (port : Nat) (telegram : Telegram) (s : State) : Host.Outcome State Fault Refusal :=
  finish (s.gStep port tgMsg telegram (fun s =>
    let s := s.gMessage port telegram
    match s.gln.waiting with
    | some (.msgPoll pos) =>
      if pos = telegram.src then
        let s := s.gAnswered pos
        if telegram.dest = s.gln.pos then s.gGoOn else s.glnMap (fun g => { g with waiting := some (.ack pos) })
      else s
    | _ => s))

/-- A MSG_ACK completes the sender's mailbox in work, or the border node's telegram. -/
def execMsgAckReceive (port : Nat) (telegram : Telegram) (s : State) : Host.Outcome State Fault Refusal :=
  finish (s.gStep port tgMsgAck telegram (fun s =>
    let s := if s.gln.named ∧ telegram.dest = s.gln.pos then
        if s.gBorder then s.glnMap (fun g => { g with queue := g.queue.tail })
        else match s.gtn.msgOrder with
          | n :: _ => if 0 < tabGet 0 s.gln.attempts n then s.gMailDone n mbOk else s
          | [] => s
      else s
    match s.gln.waiting with
    | some (.ack _) => (s.glnMap (fun g => { g with waiting := none })).gGoOn
    | _ => s))

def execNoneReceive (port : Nat) (telegram : Telegram) (s : State) : Host.Outcome State Fault Refusal :=
  finish (s.gStep port tgNone telegram (fun s =>
    match s.gln.waiting with
    | some (.msgPoll pos) => if pos = telegram.src then (s.gAnswered pos).gGoOn else s
    | _ => s))

/-! ### Lines A and B (R355) -/

/-- SW_MODE in use: 3 is taken as 0. -/
def State.gSwMode (s : State) : Nat :=
  let m := s.get (if s.gBorder then INA_BDR_CFG_SW_MODE else GTN_LCR_SW_MODE)
  if m = 3 then 0 else m

/-- The active line of an end changes. -/
def State.gSwitch (s : State) (e line : Nat) : State :=
  let s := (s.glnMap (fun g => if e = 1 then { g with active1 := line } else { g with active2 := line })).gShowLines
  let s := ((s.bump (if e = 1 then GTN_LSC_END1 else GTN_LSC_END2)).setSsr 20).setIsr 18
  let base := lnBase (2 * (e - 1) + line)
  (s.legacyLog base 0x11 (256 * (e - 1) + line) 0).record base 0x3006 []

/-- The active line has been silent for 2 ms while the other carries telegrams. -/
def execGLineSwitch (side : Nat) (s : State) : Host.Outcome State Fault Refusal :=
  finish (if s.gRuns ∧ s.gEnds.contains side ∧ s.gSwMode = 0 then s.gSwitch side (1 - s.gln.active side) else s)

/-- Forced lines take effect on every end. -/
def State.gForce (s : State) : State :=
  if s.gSwMode = 0 ∨ !s.gRuns then s
  else s.gEnds.foldl (fun s e => if s.gln.active e = s.gSwMode - 1 then s else s.gSwitch e (s.gSwMode - 1)) s

/-- 50 ms without a valid telegram. -/
def execGPortDown (port : Nat) (s : State) : Host.Outcome State Fault Refusal :=
  finish (if s.gRuns ∧ port < 4 then (s.glnMap (fun g => { g with up := clearBitOf g.up port })).gShowLines else s)

/-- A legacy inauguration is incomplete 50 ms after its trigger, or 100 ms after the last retry (Table 13.4). -/
def execBorderNamingTimeout (s : State) : Host.Outcome State Fault Refusal :=
  finish (if s.gBorder && s.flag INA_BDR_STATUS_INAUG then (s.assertLine 57).gTrigger else s)

end Sys2Proof.Machine
end

