-- ==== Sys2Proof/Machine/Gtn.lean ====
section
/-! DEFINITION. GTN mode's host view: the legacy host bus, the register file, mailboxes, the watchdog, legacy CAN
(R321–R342); and the CAN steps that a legacy channel shares with a native one. -/

namespace Sys2Proof.Machine

open Reg

/-! ### Registers as the bus reads them (Table 12.3, R327) -/

/-- Words 2 k and 2 k + 1 of the log entry that ELP names. -/
def State.eld (s : State) (k : Nat) : Nat :=
  match s.gtn.log[s.get GTN_ELP_PTR]? with
  | some e => 65536 * e.words.getD (2 * k) 0 + e.words.getD (2 * k + 1) 0
  | none => 0

/-- A legacy register as it stands. -/
def State.gtnReg (s : State) (r : Nat) : Nat :=
  if r = 0x05 then s.irqTop.getD 0xFF
  else if r = 0x0C then s.gtnTmr
  else if r = 0x51 then s.gtn.log.length
  else if 0x53 ≤ r ∧ r ≤ 0x56 then s.eld (r - 0x53)
  else ((gtnFields r).map (fun f => if f.1 = .wo then 0 else s.get f.2 * 2 ^ (f.2.key - 8 * (0x200000 + 4 * r)))).sum

/-- Lowest bit of a field in its legacy register. -/
def gtnLo (r : Nat) (f : Field) : Nat := f.key - 8 * (0x200000 + 4 * r)

/-- RC fields that lie in the word read are cleared: a field that spans both words by the less significant one. SSR
has a rule of its own. -/
def State.gtnClear (s : State) (r : Nat) (high : Bool) : State :=
  if r = 2 then s
  else (gtnFields r).foldl (fun s f =>
    if f.1 = .rc ∧ decide (16 ≤ gtnLo r f.2) = high then s.set f.2 0 else s) s

/-- What a read of a register's less significant word does beside returning it: SSR, IVR, ELD3 (R328–R330,
R340). `high` is the word that a preceding read of the other word returned. -/
def State.gtnLowEffect (s : State) (r value : Nat) (high : Option Nat) : State :=
  if r = 2 then
    match high with
    | some h => s.set GTN_SSR_STICKY (andNot (s.get GTN_SSR_STICKY) (h % 256))
    | none => s.set GTN_SSR_STICKY 0
  else if r = 5 then
    if value % 256 = 0xFF then s
    else (s.clearBit GTN_ISR_BITS (value % 256)).gtnMap (fun g => { g with irqReleased := true })
  else if r = 0x56 then s.set GTN_ELP_PTR ((s.get GTN_ELP_PTR + 1) % 128)
  else s.gtnClear r false

/-- A read of a word in GTN mode: the value, and the state after (R324). -/
def State.gtnRead (s : State) (a : Nat) : Nat × State :=
  if 0xC0 ≤ a then (s.ramWord a, s)
  else
    let r := a / 2
    let v := s.gtnReg r
    if a % 2 = 0 then
      (v / 65536, (s.gtnMap (fun g => { g with latched := tabPut r (v / 65536, v % 65536) g.latched })).gtnClear r true)
    else
      let held := tabFind r s.gtn.latched
      let low := match held with | some (_, l) => l | none => v % 65536
      let s := s.gtnMap (fun g => { g with latched := tabErase r g.latched })
      (low, s.gtnLowEffect r low (held.map (·.1)))

/-! ### Writes that do more than store (R321, R332, R333, R336, R340, R348) -/

/-- A write of CSR with SRST: BOOT with the BOOTSEL last sampled (R321). -/
def State.softReset (s : State) : State := s.startBoot .warm 10 none

/-- CSR.NODE_EN changes: rising is a trigger; at 0 the node repeats, holds no position and sends nothing. -/
def State.nodeEnable (s : State) (on : Bool) : State :=
  if on then s.gTrigger
  else (s.glnMap (fun g => { g with named := false, repeating := true, stage := 0, waiting := none })).load
    [(GTN_POS_VALID, 0), (GTN_SSR_INAUG, 0), (GTN_SSR_MASTER, 0)]

/-- A write to CSR. -/
def State.writeCsr (s : State) (v : Nat) : State :=
  if hasBit v 0 then s.softReset
  else
    let was := s.flag GTN_CSR_NODE_EN
    let s := s.load [(GTN_CSR_NODE_EN, bit v 1), (GTN_CSR_MASTER_EN, bit v 2), (GTN_CSR_IRQ_EN, bit v 3),
      (GTN_CSR_TICK_EN, bit v 4)]
    if hasBit v 1 = was then s else s.nodeEnable (hasBit v 1)

/-- A write to WDR restarts the watchdog and sets PD_VALID. -/
def State.writeWdr (s : State) (v : Nat) : State := s.load [(GTN_WDR_TIMEOUT, v), (GTN_SSR_PD_VALID, 1)]

/-- A write to ELC. -/
def State.writeElc (s : State) (v : Nat) : State :=
  if hasBit v 0 then (s.gtnMap (fun g => { g with log := [] })).load [(GTN_ELP_PTR, 0), (GTN_SSR_LOG_FULL, 0)] else s

/-- The node takes over a mailbox: a PD_SINK gets what is held for it, an MSG_TX queues (Table 12.9). -/
def State.takeMbox (s : State) (n : Nat) : State :=
  let k := s.mboxKind n
  if k = mbPdSink then
    match tabFind n s.gtn.sinks with
    | some (t, replaced) =>
      (s.gtnMap (fun g => { g with sinks := tabErase n g.sinks })).gWriteSink n t (if replaced then mbOverrun else mbOk)
    | none => s
  else if k = mbMsgTx then s.gtnMap (fun g => { g with msgOrder := g.msgOrder ++ [n] })
  else s

/-- A write to MBCn: ignored whole while the node owns the mailbox (R333). -/
def State.writeMbc (s : State) (n v : Nat) : State :=
  if s.flag (GTN_MBC_OWN n) then s.setSsr 22
  else
    let s := s.load [(GTN_MBC_OWN n, bit v 15), (GTN_MBC_IE n, bit v 14), (GTN_MBC_KIND n, bits v 8 4), (GTN_MBC_PARAM n, bits v 0 8)]
    if hasBit v 15 then s.takeMbox n else s

/-- The legacy bit time lies between 1,000 ns and 100 µs (R336, R337): BRP × 62.5 ns × (1 + TSEG1 + TSEG2). -/
def State.legacyTimingOk (s : State) (x : Nat) : Bool :=
  let t := 125 * (s.get (GTN_CBTR_BRP x) + 1) * (3 + s.get (GTN_CBTR_TSEG1 x) + s.get (GTN_CBTR_TSEG2 x))
  decide (2000 ≤ t ∧ t ≤ 200000)

/-- RUN of a legacy channel is set, where the bit time allows it, or cleared. -/
def State.setRun (s : State) (x : Nat) (on : Bool) : State :=
  if on then
    if s.flag (GTN_CCR_RUN x) then s
    else if s.legacyTimingOk x then
      (s.load [(GTN_CCR_RUN x, 1), (GTN_CSR_CAN_RUNNING x, 1), (GTN_CSR_CAN_CFG_ERR x, 0)]).chanMap x
        (fun c => { c with waitIdle := true, sending := none })
    else s.set (GTN_CSR_CAN_CFG_ERR x) 1
  else
    let s := (s.load [(GTN_CCR_RUN x, 0), (GTN_CSR_CAN_RUNNING x, 0)]).chanMap x (fun c => { c with sending := none })
    (s.gtnMap (fun g => { g with canCur := tabErase x g.canCur })).stopCanMboxes x

/-- A write to CxCR. -/
def State.writeCcr (s : State) (x v : Nat) : State :=
  (s.load [(GTN_CCR_LOM x, bit v 1), (GTN_CCR_ERR_IE x, bit v 2)]).setRun x (hasBit v 0)

/-- A legacy register's writable fields take a value. -/
def State.gtnStore (s : State) (r v : Nat) : State :=
  (gtnFields r).foldl (fun s f => if f.1 = .rw then s.set f.2 (bits v (gtnLo r f.2) f.2.width)
    else if f.1 = .w1c then s.set f.2 (andNot (s.get f.2) (bits v (gtnLo r f.2) f.2.width)) else s) s

/-- The CAN channel of a register that takes a write only while RUN = 0: CxBTR, CxAMR, CxACRk. -/
def runLocked (r : Nat) : Option Nat :=
  if r = 0x22 ∨ r = 0x24 then some 0
  else if r = 0x2A ∨ r = 0x2C then some 1
  else if 0x30 ≤ r ∧ r < 0x40 then some 0
  else if 0x40 ≤ r ∧ r < 0x50 then some 1
  else none

/-- A whole write to a legacy register. -/
def State.gtnWriteReg (s : State) (r v : Nat) : State :=
  if r = 0x01 then s.writeCsr v
  else if r = 0x09 then (s.gtnStore r v).gForce
  else if r = 0x0D then s.writeWdr v
  else if 0x10 ≤ r ∧ r < 0x20 then s.writeMbc (r - 0x10) v
  else if r = 0x20 then s.writeCcr 0 v
  else if r = 0x28 then s.writeCcr 1 v
  else if r = 0x50 then s.writeElc v
  else match runLocked r with
    | some x => if s.flag (GTN_CCR_RUN x) then s else s.gtnStore r v
    | none => s.gtnStore r v

/-- The mailbox that a word of mailbox RAM belongs to. -/
def ramMbox (a : Nat) : Nat := if a < 0x7C0 then (a - 0xC0) / 0x70 else (a - 0x7C0) / 4

/-- A write of a word in GTN mode (R324, R333). -/
def State.gtnWrite (s : State) (a v : Nat) : State :=
  let v := v % 65536
  if 0x800 ≤ a then s
  else if 0xC0 ≤ a then (if s.flag (GTN_MBC_OWN (ramMbox a)) then s.setSsr 22 else s.setRam a v)
  else
    let r := a / 2
    if a % 2 = 0 then s.gtnMap (fun g => { g with upper := tabPut r v g.upper })
    else
      let up := match tabFind r s.gtn.upper with | some u => u | none => s.gtnReg r / 65536
      (s.gtnMap (fun g => { g with upper := tabErase r g.upper })).gtnWriteReg r (65536 * up + v)

/-! ### The bus by mode (R322, R325, R326) -/

/-- What the bus reads in BOOT: IDR, and 0. -/
def bootWord (a : Nat) : Nat := if a = 0 then 0x0120 else if a = 1 then 0x0307 else 0

/-- SAFE entered from GTN. -/
def State.safeAfterGtn (s : State) : Bool := s.mode == modeSafe && s.get GLB_MODE_PREV_MODE == modeGtn

/-- A read strobe that is held until GH_RDY: the word goes out. -/
def State.ghRead (s : State) (a : Nat) : State :=
  if 0x800 ≤ a then s
  else if s.inGtn then let (v, s) := s.gtnRead a; s.emit (.ghWord a v)
  else if s.mode = modeBoot then s.emit (.ghWord a (bootWord a))
  else if s.safeAfterGtn then s.emit (.ghWord a (s.gtnRead a).1)
  else s

/-- A write strobe that is held until GH_RDY. -/
def State.ghWrite (s : State) (a v : Nat) : State := if s.inGtn then s.gtnWrite a v else s

/-- A strobe within 0.5 ms of the rising edge of RESET_N is held not ready (R326). -/
def State.ghHeld (s : State) : Bool :=
  s.mode == modeBoot && s.glb.bootKind == 0 && decide (s.uptime < 500000)

/-- The node answers strobes at all. -/
def State.ghAnswers (s : State) : Bool := s.inGtn || s.mode == modeBoot || s.safeAfterGtn

/-- A strobe; one that ends early has no effect, and the data of a read is open (R325). -/
def State.ghStrobe (s : State) (write : Bool) (a v : Nat) (early : Bool) : State :=
  if !s.ghAnswers then s
  else if early then
    if write then s else let (x, s) := s.draw 16; s.emit (.ghWord a x)
  else if s.ghHeld then s.gtnMap (fun g => { g with strobe := some (write, a, v) })
  else if write then s.ghWrite a v else s.ghRead a

def execGhBusRead (addr : Nat) (early : Bool) (s : State) : Host.Outcome State Fault Refusal :=
  finish (s.ghStrobe false addr 0 early)

def execGhHighWordRead (addr : Nat) (early : Bool) (s : State) : Host.Outcome State Fault Refusal :=
  finish (if addr < 0xC0 ∧ addr % 2 = 0 then s.ghStrobe false addr 0 early else s)

def execGhBusWrite (addr value : Nat) (early : Bool) (s : State) : Host.Outcome State Fault Refusal :=
  finish (s.ghStrobe true addr value early)

def execGhHighWordWrite (addr value : Nat) (early : Bool) (s : State) : Host.Outcome State Fault Refusal :=
  finish (if addr < 0xC0 ∧ addr % 2 = 0 then s.ghStrobe true addr value early else s)

def execGhLowWordWrite (addr value : Nat) (early : Bool) (s : State) : Host.Outcome State Fault Refusal :=
  finish (if addr < 0xC0 ∧ addr % 2 = 1 then s.ghStrobe true addr value early else s)

def execSsrLowWordRead (early : Bool) (s : State) : Host.Outcome State Fault Refusal :=
  finish (s.ghStrobe false 0x005 0 early)

def execIvrLowWordRead (early : Bool) (s : State) : Host.Outcome State Fault Refusal :=
  finish (s.ghStrobe false 0x00B 0 early)

def execEld3LowWordRead (early : Bool) (s : State) : Host.Outcome State Fault Refusal :=
  finish (s.ghStrobe false 0x0AD 0 early)

/-- CSR is written with SRST = 1. -/
def execLegacySoftReset (lower : Nat) (s : State) : Host.Outcome State Fault Refusal :=
  finish (if hasBit lower 0 then s.ghStrobe true 0x003 lower false else s)

/-- CSR is written with SRST = 0: NODE_EN may rise. -/
def execNodeEnableWrite (lower : Nat) (s : State) : Host.Outcome State Fault Refusal :=
  finish (if hasBit lower 0 then s else s.ghStrobe true 0x003 lower false)

def execElogClear (lower : Nat) (s : State) : Host.Outcome State Fault Refusal :=
  finish (s.ghStrobe true 0x0A1 lower false)

def execWdrWrite (lower : Nat) (s : State) : Host.Outcome State Fault Refusal :=
  finish (s.ghStrobe true 0x01B lower false)

def execMbcHandover (mailbox lower : Nat) (s : State) : Host.Outcome State Fault Refusal :=
  finish (if mailbox < 16 then s.ghStrobe true (0x021 + 2 * mailbox) lower false else s)

def execGtnCanRunWrite (channel lower : Nat) (s : State) : Host.Outcome State Fault Refusal :=
  finish (if channel < 2 then s.ghStrobe true (0x041 + 0x10 * channel) lower false else s)

/-- A strobe held since RESET_N completes at 0.5 ms. -/
def execGhBootHoldEnd (s : State) : Host.Outcome State Fault Refusal :=
  finish (match s.gtn.strobe with
    | none => s
    | some (write, a, v) =>
      let s := s.gtnMap (fun g => { g with strobe := none })
      if write then s.ghWrite a v else s.ghRead a)

/-! ### Timers of GTN mode (R330, R332) -/

/-- The WDR timeout expires without a write. -/
def execGtnWatchdogExpiry (s : State) : Host.Outcome State Fault Refusal :=
  finish (if s.inGtn && !(s.get GTN_WDR_TIMEOUT == 0) then
    (((s.setIsr 23).setSsr 16).set GTN_SSR_PD_VALID 0).legacyLog 0 0x40 0 (s.get GTN_WDR_TIMEOUT)
  else s)

def execGhIrqReleaseEnd (s : State) : Host.Outcome State Fault Refusal :=
  finish (s.gtnMap (fun g => { g with irqReleased := false }))

def execGtnTick (s : State) : Host.Outcome State Fault Refusal :=
  finish (if s.inGtn && s.flag GTN_CSR_TICK_EN then s.setIsr 22 else s)

/-! ### Legacy CAN (R336–R339) -/

/-- CxACRk accepts a frame. -/
def State.acrMatches (s : State) (x : Nat) (f : CanFrame) (k : Nat) : Bool :=
  s.flag (GTN_CACR_EN x k) && s.flag (GTN_CACR_IDE x k) == f.ide
    && Nat.land (Nat.xor f.id (s.get (GTN_CACR_CODE x k))) (s.get (GTN_CAMR_MASK x)) % 2 ^ (if f.ide then 29 else 11) == 0

/-- The legacy filter; with no code enabled every frame passes. -/
def State.legacyAccepts (s : State) (x : Nat) (f : CanFrame) : Bool :=
  let ks := (List.range 16).filter (fun k => s.flag (GTN_CACR_EN x k))
  ks.isEmpty || ks.any (s.acrMatches x f)

/-- A frame is written into a CANx_RX mailbox; words of data bytes that the frame does not carry stay as they are. -/
def State.putCanMbox (s : State) (n : Nat) (f : CanFrame) (tmr : Nat) : State :=
  let v := f.id % 2 ^ 29 + 2 ^ 30 * b2n f.rtr + 2 ^ 31 * b2n f.ide
  let s := ((s.setRam (mbData n 0) (v / 65536)).setRam (mbData n 1) v).setRam (mbData n 2) (f.dlc % 16)
  let s := State.setMboxBytes n 3 (f.data.take 8) s
  let s := (s.setRam (mbData n 7) (tmr / 65536)).setRam (mbData n 8) tmr
  (s.setRam (mbLen n) 18).releaseMbox n mbOk

/-- A valid frame on a legacy channel: counters, filter, mailbox. -/
def State.legacyReceive (s : State) (x : Nat) (f : CanFrame) (sof : Nat) : State :=
  if !s.canActive x ∨ f.fdf then s
  else
    let s := ((s.canRxOk x).chanMap x (fun c => { c with swaps := 0 })).canCondition x canSwap false
    let s := s.bump (CAN_RXSTAT_FRAMES x)
    if !s.legacyAccepts x f then s.bump (CAN_RXSTAT_FILTERED x)
    else
      let s := s.bump (GTN_CFRC_ACCEPTED x)
      match s.ownedMboxes (mbCanRx x) with
      | n :: _ => s.putCanMbox n f ((sof - s.gtn.tmrFrom) / 1000 % 2 ^ 32)
      | [] => s.bump (GTN_COVR_COUNT x)

def execGtnCanRx (channel : Nat) (frame : CanFrame) (sof : Nat) (s : State) : Host.Outcome State Fault Refusal :=
  finish (if s.isLegacyCan channel then s.legacyReceive channel frame sof else s)

/-- The mailbox that a legacy channel attempts: the one in work, else the lowest-numbered it owns. -/
def State.legacyChoice (s : State) (x : Nat) : Option Nat :=
  match tabFind x s.gtn.canCur with
  | some n => if s.flag (GTN_MBC_OWN n) then some n else (s.ownedMboxes (mbCanTx x)).head?
  | none => (s.ownedMboxes (mbCanTx x)).head?

/-- The element of a mailbox's frame: classical, data bytes from words 3 to 6. -/
def State.mboxElement (s : State) (n : Nat) : Bytes :=
  let v := 65536 * s.ramWord (mbData n 0) + s.ramWord (mbData n 1)
  le 4 (v % 2 ^ 29 + 2 ^ 29 * bit v 31 + 2 ^ 30 * bit v 30) ++ le 4 (s.ramWord (mbData n 2) % 16) ++ zeros 8
    ++ fit 64 (slice 6 8 (s.mboxBytes n 14))

/-- The selection point of a legacy channel. -/
def State.legacySelect (s : State) (x : Nat) : State :=
  if !s.canMayStart x then s
  else match s.legacyChoice x with
    | none => s
    | some n =>
      let s := s.gtnMap (fun g => { g with canCur := tabPut x n g.canCur })
      (s.chanMap x (fun c => { c with sending := some n, sofAt := s.uptime })).emit (.canFrame x (s.mboxElement n))

/-- The mailbox in transmission is sent: released with OK. -/
def State.legacySent (s : State) (x : Nat) : State :=
  match (s.chan x).sending with
  | none => s
  | some n =>
    let s := ((s.canTxOk x).canLoopCheck x false).chanMap x (fun c => { c with sending := none })
    let s := (s.gtnMap (fun g => { g with canCur := tabErase x g.canCur })).bump (GTN_CFRC_SENT x)
    (s.bump (CAN_TXSTAT_SENT x)).releaseMbox n mbOk

def execGtnCanTxDone (channel : Nat) (s : State) : Host.Outcome State Fault Refusal :=
  finish (if s.isLegacyCan channel then s.legacySent channel else s)

/-- An attempt of a legacy channel ends without success; the mailbox is attempted again. -/
def State.legacyFails (s : State) (x : Nat) (err : Option (Nat × Nat × Bool)) : State :=
  if (s.chan x).sending.isNone then s
  else
    let s := s.chanMap x (fun c => { c with sending := none })
    match err with
    | none => s.canLoopCheck x false
    | some (kind, add, mismatch) => ((s.canCountErr x kind).canAddErr x add 0).canLoopCheck x mismatch

/-! ### CAN steps of native and legacy channels -/

def execCanFrameReceive (channel : Nat) (frame : CanFrame) (sof : Nat) (s : State) : Host.Outcome State Fault Refusal :=
  finish (if s.isLegacyCan channel then s.legacyReceive channel frame sof else s.canFrameIn channel frame sof)

def execCanTxSelect (channel : Nat) (s : State) : Host.Outcome State Fault Refusal :=
  finish (if 12 ≤ channel then s else if s.isLegacyCan channel then s.legacySelect channel else s.canSelect channel)

def execCanTxSuccess (channel tdcv : Nat) (s : State) : Host.Outcome State Fault Refusal :=
  finish (if 12 ≤ channel then s else if s.isLegacyCan channel then s.legacySent channel else s.canTxSuccess channel tdcv)

def execCanTxArbLost (channel : Nat) (s : State) : Host.Outcome State Fault Refusal :=
  finish (if 12 ≤ channel then s else if s.isLegacyCan channel then s.legacyFails channel none else s.canArbLost channel)

def execCanTxError (channel kind add tdcv : Nat) (loop : Bool) (s : State) : Host.Outcome State Fault Refusal :=
  finish (if 12 ≤ channel then s
    else if s.isLegacyCan channel then s.legacyFails channel (some (kind, add, loop))
    else s.canTxError channel kind add tdcv loop)

end Sys2Proof.Machine
end

