-- ==== Sys2Proof/Machine/Recorder.lean ====
section
/-! DEFINITION. The event recorder: arriving events, writing with its read-back, the BOOT scan, the read window and the
clear (R423–R440). -/

namespace Sys2Proof.Machine

open Reg

/-- An event arrives from the block at a base address (R429, R430). -/
def execRecorderEventEnqueue (base code : Nat) (payload : Bytes) (s : State) : Host.Outcome State Fault Refusal :=
  finish (s.record base code payload)

/-! ### Writing (R431, R432) -/

/-- A record read back other than it was written: no mark, the next index, source 13 (R432). -/
def State.writeFailed (s : State) : State :=
  (((s.recAdvance.bump REC_STAT_WRITE_FAIL).set REC_EVENT_WRITE_FAIL 1)).unmarkNext

/-- The second write of an event has failed too: it counts as lost in its class (R432). -/
def State.eventLost (s : State) (e : RecEvent) : State :=
  let first := s.rcd.lost.all (· == 0)
  { s with rcd := { s.rcd with
      lost := bumpAt s.rcd.lost (recClass e.code), lostFirst := if first then s.uptime else s.rcd.lostFirst
      lostLast := s.uptime } }

/-- The write in progress ends (R431, R432). -/
def State.writeEnds (s : State) (ok : Bool) : State :=
  match s.rcd.writing with
  | none => s
  | some (e, second) =>
    if s.mram.wp then s
    else if ok then ((s.putRecord e).recWritten e).recTake
    else
      let s := s.writeFailed
      if second then ({ s.eventLost e with rcd := { (s.eventLost e).rcd with writing := none } }.pulse 13).recTake
      else ({ s with rcd := { s.rcd with writing := some (e, true) } }).pulse 13

def execRecordWriteDone (readBackOk : Bool) (s : State) : Host.Outcome State Fault Refusal :=
  finish (s.writeEnds readBackOk)

/-- The queue is written out, as before core power is removed (R396, R478); n bounds the number of records. -/
def State.drainLog : Nat → State → State
  | 0, s => s
  | n + 1, s => if s.rcd.writing.isSome then State.drainLog n (s.writeEnds true) else s

/-! ### The BOOT scan (R434, R438) -/

/-- a is above b as 32-bit serial numbers. -/
def seqAbove (a b : Nat) : Bool := !(subMod 32 a b == 0) && decide (subMod 32 a b < 2 ^ 31)

/-- The newest record of a list of positions: index and SEQ. -/
def newestOf (l : List (Nat × RecCell)) : Option (Nat × Nat) :=
  l.foldl (fun best e =>
    if !(e.2.mark == 0xA5 && cellCrcOk e.2) then best
    else match best with
      | some (i, q) => if seqAbove (cellSeq e.2) q then some (e.1, cellSeq e.2) else some (i, q)
      | none => some (e.1, cellSeq e.2)) none

/-- The fills and the write position that the marks show. -/
def State.scanMarks (s : State) : State :=
  let marked := s.mram.cells.filter (fun e => e.2.mark == 0xA5)
  let ring := marked.filter (fun e => decide (ringFirst ≤ e.1))
  match newestOf ring with
  | some (i, _) =>
    let wrapped := ring.any (fun e => decide (i < e.1))
    s.load [(REC_FILL_FIRST_FILL, ringFirst), (REC_FILL_RING_FILL, if wrapped then 61440 else i + 1 - ringFirst),
      (REC_STATUS_NEXT_IDX, nextWrite i)]
  | none =>
    let fill := (marked.map (fun e => e.1 + 1)).foldl Nat.max 0
    s.load [(REC_FILL_FIRST_FILL, fill), (REC_FILL_RING_FILL, 0), (REC_STATUS_NEXT_IDX, fill)]

/-- REC_NEXT_SEQ: one above the newest record, or the value held in MRAM where that is higher. -/
def State.scanSeq (s : State) : State :=
  let seq := match newestOf s.mram.cells with
    | some (_, q) => if seqAbove s.mram.nextSeq ((q + 1) % 2 ^ 32) then s.mram.nextSeq else (q + 1) % 2 ^ 32
    | none => s.mram.nextSeq
  ({ s with mram := { s.mram with nextSeq := seq } }).set REC_NEXT_SEQ_SEQ seq

/-- The scan, with the completion of a clear that a loss of power cut off. -/
def State.bootScan (s : State) : State :=
  let s := s.scanMarks.scanSeq
  let s := match s.mram.clearPending with
    | some arg => s.finishClear arg (s.get REC_CFG_KEY_SLOT)
    | none => s
  (s.set REC_STATUS_READY 1).recTake

def execRecorderBootScan (s : State) : Host.Outcome State Fault Refusal :=
  finish (if s.recorderRuns && s.mode == modeBoot && !s.flag REC_STATUS_READY && !s.glb.held then s.bootScan else s)

/-! ### Reading (R436) -/

def execRecRdIdxWrite (req : Requester) (index : Nat) (s : State) : Host.Outcome State Fault Refusal :=
  finish (s.writeStep req 0x3014 4 index)

def execRecRdData7HighRead (req : Requester) (s : State) : Host.Outcome State Fault Refusal :=
  finish (s.readStep req 0x307C 4)

/-! ### Clearing (R437, R438) -/

/-- CLEAR (Table 17.3). -/
def cmdRecClear : CmdSpec :=
  { base := 0x3000, code := 1
    argOk := fun s arg => (arg == 1 || arg == 3) &&
      (!(s.lc == lcPersonalized || s.lc == lcField) || s.slotUsable (s.get REC_CFG_KEY_SLOT) purposeRecorder)
    busy := fun s => s.rcd.clearing.isSome
    accepted := fun s => s.inBoot subHostWait || s.inModes [modeNative, modeBorder, modeStandby, modeReferee, modeSafe]
    lcOk := fun s => !(s.lc == lcReturn)
    auth := fun s => !(s.lc == lcMaker)
    authKey := fun s => s.keyFor (s.get REC_CFG_KEY_SLOT) purposeRecorder
    pends := true
    run := fun arg s =>
      let s := { s with mram := { s.mram with clearPending := some arg } }
      ({ s with rcd := { s.rcd with clearing := some (arg, s.get REC_CFG_KEY_SLOT) } }).set REC_STATUS_CLEARING 1 }

def execRecClear (path : Path) (arg : Nat) (s : State) : Host.Outcome State Fault Refusal :=
  finish (s.command cmdRecClear path arg)

/-- The areas are erased: CLEARED is the next record. -/
def execRecClearDone (s : State) : Host.Outcome State Fault Refusal :=
  finish (match s.rcd.clearing with
    | some (arg, slot) =>
      if s.rcd.writing.isSome then s else ((s.finishClear arg slot).endCmd 0x3000 1 .ok).recTake
    | none => s)

end Sys2Proof.Machine
end

