-- ==== Sys2Proof/Machine/Images.lean ====
section
/-! DEFINITION. Configuration images: what an image may load, the checks of R47 and R193, and the two banks (R47, R48,
R192, R193). -/

namespace Sys2Proof.Machine

open Reg

/-! ### What an image loads -/

/-- A configuration field by its place: RW or RWL in the register map. -/
def isConfigKey (k : Nat) : Bool :=
  match findReg (k / 8) with
  | some h => h.fields.any (fun f => f.2.2.key == k && (f.1 == .rw || f.1 == .rwl))
  | none => false

/-- A field that only the consist section sets (Table 7.3). -/
def isScheduleKey (k : Nat) : Bool :=
  let a := k / 8
  [CST_STATUS_EN, CST_STATUS_COLDSTART, CST_STATUS_LOCK_BC, CST_STATUS_SPOKE].any (fun f => f.key == k)
    || decide (0x1000C ≤ a ∧ a < 0x10018) || decide (0x10400 ≤ a ∧ a < 0x10500) || decide (0x10800 ≤ a ∧ a < 0x10900)

/-- Configuration that no image loads: the GLB_ block, recorder but REC_CFG, host rings and MSI-X, forces, what a flow
context holds from 0x40 on (R320, R408, R440). -/
def neverLoaded (k : Nat) : Bool :=
  let a := k / 8
  decide (a < 0x1000) || decide (0x3004 ≤ a ∧ a < 0x4000) || decide (0x38000 ≤ a ∧ a < 0x3C000) || k == FLT_FORCE_FORCE.key
    || decide (0x40000 ≤ a ∧ a < 0x60000 ∧ 0x40 ≤ a % 128) || decide (0x60000 ≤ a)

/-- An image may load the field: configuration, the consist schedule, and the legacy VID (R192, Table 12.3). -/
def loadable (f : Field) : Bool :=
  isScheduleKey f.key || f.key == GTN_VID_VID.key || (isConfigKey f.key && !neverLoaded f.key)

/-- The loads that take effect. -/
def imageLoads (i : Image) : List (Field × Nat) := i.loads.filter (fun e => loadable e.1)

/-- The image's configuration alone, over reset values. -/
def imageAlone (i : Image) : State :=
  ({ : State }).load (imageLoads i ++ [(CST_STATUS_ROLE, i.role)])

/-! ### Checks (R47) -/

/-- The image as bytes, with given CRC and TAG. -/
def imageBytes (i : Image) (crc : Nat) (tag : Bytes) : Bytes :=
  le 4 i.magic ++ le 2 i.version ++ le 1 i.targetMode ++ le 1 i.role ++ le 4 i.length ++ le 4 i.serial ++ le 4 crc
    ++ le 1 i.keySlot ++ fit 11 i.reserved ++ tag ++ i.body

/-- The header's own values: magic, version, length, SERIAL, TARGET_MODE. -/
def imageHeaderOk (i : Image) : Bool :=
  i.magic == 0x43574E4F && i.version == 1 && decide (64 ≤ i.length ∧ i.length ≤ 2097152)
    && i.length == 64 + i.body.length && decide (1 ≤ i.serial ∧ i.serial ≤ 0xFFFFFFFE)
    && decide (1 ≤ i.targetMode ∧ i.targetMode ≤ 5)

/-- The CRC-32 over the image with CRC and TAG zero. -/
def imageCrcOk (i : Image) : Bool := i.crc == crc32 (imageBytes i 0 (zeros 32))

/-- Target modes that a BOOTSEL value allows (Table 2.3). -/
def targetAllowed (bootsel target : Nat) : Bool :=
  if bootsel = 4 then target == modeGtn else if bootsel ≤ 2 then decide (2 ≤ target ∧ target ≤ 5) else false

/-- Tags are checked: PERSONALIZED and FIELD. -/
def State.checksTags (s : State) : Bool := s.lc == lcPersonalized || s.lc == lcField

/-- The HMAC tag matches under the slot that the header names. -/
def State.imageTagOk (s : State) (i : Image) : Bool :=
  match s.keyFor i.keySlot purposeConfig with
  | some key => fit 32 (Config.hmacSha256 key (imageBytes i i.crc (zeros 32))) == i.tag
  | none => false

/-! ### The consist section (R193) -/

/-- COLD_SLOTs have REP 0, one per owner at most. -/
def State.coldSlotsOk (t : State) : Bool :=
  let l := (positions (t.get CST_SCHED0_S)).filter (fun i => t.flag (CST_SLOT_COLD_SLOT (i - 1)))
  l.all (fun i => t.get (CST_SLOT_REP (i - 1)) == 0)
    && (l.map (fun i => t.get (CST_SLOT_OWNER (i - 1)))).all (fun o =>
      decide ((l.filter (fun i => t.get (CST_SLOT_OWNER (i - 1)) == o)).length ≤ 1))

/-- No owner value lies between 9 and 14. -/
def State.ownersOk (t : State) : Bool :=
  let ok := fun (o : Nat) => decide (o ≤ 8) || o == noOwner
  (positions (t.get CST_SCHED0_S)).all (fun i => ok (t.get (CST_SLOT_OWNER (i - 1))))
    && (List.range 64).all (fun w => (List.range 8).all (fun j => ok (bits (t.get (CST_DYN_OWNERS w)) (4 * j) 4)))

/-- R193 on a configuration; without a section, S is 0. -/
def State.scheduleOk (t : State) : Bool :=
  t.get CST_SCHED0_S == 0 ||
    (decide (t.dynEnd + 2000 ≤ t.tcc) && t.get CST_SCHED2_BC_N == t.get CYC_CFG_BC_N
      && decide ((t.get CST_SCHED1_P_S + 14) * 80 + 800 ≤ t.slotNs) && decide (800 ≤ t.miniNs) && t.ownersOk
      && (!t.flag CST_STATUS_LOCK_BC || (t.get (CST_SLOT_OWNER 0) == 8 && t.get (CST_SLOT_REP 0) == 0))
      && t.coldSlotsOk && (!t.flag CST_STATUS_COLDSTART || t.coldSlot.isSome))

/-! ### The outcome of the checks -/

/-- Results of GLB_BOOT_STATUS. -/
abbrev resultSelftest : Nat := 1
abbrev resultImage : Nat := 2
abbrev resultAuth : Nat := 3
abbrev resultStrap : Nat := 4
abbrev resultTampered : Nat := 5
abbrev resultDebug : Nat := 6
abbrev resultVault : Nat := 7

/-- The result of checking an image: 0, IMAGE_INVALID or AUTH_FAIL. With a BOOTSEL value, the target mode is checked
against it. -/
def State.checkImage (s : State) (i : Image) (bootsel : Option Nat) : Nat :=
  let target := match bootsel with | some b => targetAllowed b i.targetMode | none => true
  if !(imageHeaderOk i && target && imageCrcOk i) then resultImage
  else if s.checksTags && !decide (i.keySlot < 64) then resultImage
  else if s.checksTags && !s.imageTagOk i then resultAuth
  else if !(imageAlone i).scheduleOk then resultImage
  else 0

/-- The status that reports a result (R46). -/
def imageStatus (r : Nat) : Status := if r = 0 then .ok else if r = resultAuth then .authFail else .imageInvalid

/-! ### The two banks (R48) -/

/-- What a bank holds. -/
def State.imageBank (s : State) (b : Nat) : Option Image := if b = 0 then s.mram.bank0 else s.mram.bank1

/-- The state with a bank replaced. -/
def State.setImageBank (s : State) (b : Nat) (i : Option Image) : State :=
  { s with mram := if b = 0 then { s.mram with bank0 := i } else { s.mram with bank1 := i } }

/-- The banks that hold an image, the higher SERIAL first. -/
def State.bankOrder (s : State) : List (Nat × Image) :=
  match s.mram.bank0, s.mram.bank1 with
  | some a, some b => if a.serial < b.serial then [(1, b), (0, a)] else [(0, a), (1, b)]
  | some a, none => [(0, a)]
  | none, some b => [(1, b)]
  | none, none => []

/-- The image bank in use: the one that BOOT ran from, or the valid one with the higher SERIAL. -/
def State.imageInUse (s : State) : Option (Nat × Image) :=
  let src := s.get GLB_BOOT_STATUS_CFG_SRC
  let used := s.bankOrder.find? (fun e => e.1 + 1 == src)
  match used with
  | some e => some e
  | none => s.bankOrder.find? (fun e => s.checkImage e.2 none == 0)

/-- The bank that a store writes. -/
def State.storeBank (s : State) : Nat :=
  match s.imageInUse with
  | some (b, _) => 1 - b
  | none => 0

end Sys2Proof.Machine
end

