-- ==== Sys2Proof/Machine/Bridge.lean ====
section
/-! DEFINITION. The far-window bridge (chapter 10): access ports, the target, responses and notices at the
origin, timers, and the window commands. -/

namespace Sys2Proof.Machine

open Reg

/-! ### Access ports (R276, R279, R282, R286) -/

/-- The write of BRG_APp_REQ is refused: it comes from another path than the local PF0 (R16, R275). -/
def State.apDenied (s : State) (req : Requester) (p v : Nat) : State :=
  (s.recordDenied (.reg req) (0x30100 + 0x20 * p) v 4).emit (.pathStatus (.reg req) (0x30100 + 0x20 * p) .accessDenied)

/-- A write of BRG_APp_REQ with an OP issues a request (R276). -/
def State.apRequest (s : State) (req : Requester) (p v op : Nat) : State :=
  if !(req == .pf0) || s.pf0ReadOnly then s.apDenied req p v
  else if s.get (BRG_AP_STATUS_STATUS p) = brgRetry then s.set BRG_EVENT_AP_OVERRUN 1
  else
    let s := (s.set (BRG_AP_STATUS_TAG p) (bits v 16 16)).brgMap (fun b => { b with arrived := tabErase p b.arrived })
    let r : BrgReq := { who := p, win := bits v 8 5, bseq := 0, tag := bits v 16 16, op := op, lock := hasBit v 4
                        unlock := hasBit v 5, width := widthOf (bits v 6 2), offset := s.get (BRG_AP_OFFSET_OFFSET p)
                        data := s.get (BRG_AP_DATA_DATA p) }
    (s.issueRequest r).2

def execApReqWr (req : Requester) (port value : Nat) (s : State) : Host.Outcome State Fault Refusal :=
  finish (if port < 8 then s.apRequest req port value opWr else s)

def execApReqRd (req : Requester) (port value : Nat) (s : State) : Host.Outcome State Fault Refusal :=
  finish (if port < 8 then s.apRequest req port value opRd else s)

def execApReqUnlock (req : Requester) (port value : Nat) (s : State) : Host.Outcome State Fault Refusal :=
  finish (if port < 8 then s.apRequest req port value opUnlock else s)

def execApStatusRead (req : Requester) (port : Nat) (s : State) : Host.Outcome State Fault Refusal :=
  finish (if port < 8 then s.readStep req (0x30104 + 0x20 * port) 4 else s)

/-- Writes that wait take the entries that are free (R279); n bounds the number tried. -/
def State.admitWaiting : Nat → State → State
  | 0, s => s
  | n + 1, s =>
    match s.brg.waiting with
    | [] => s
    | r :: rest =>
      if s.brg.posted.length < 256 then
        State.admitWaiting n ((s.brgMap (fun b => { b with waiting := rest })).sendWrite r)
      else s

/-- Entries whose copies have all been sent or discarded leave the posted store. -/
def State.freePosted (s : State) : State :=
  let s := (s.brgMap (fun b => { b with posted := b.posted.filter (fun r => !(r.left == 0)) })).showPosted
  State.admitWaiting s.brg.waiting.length s

def execPostedEntryFree (s : State) : Host.Outcome State Fault Refusal := finish s.freePosted

/-! ### The target (R274, R278, R286, R287) -/

/-- The bridge takes a frame; in a mode in which it does not run it is discarded and counted (R294). -/
def State.brgTake (s : State) (f : MsgFrame) : Bool × State :=
  let s := s.takeInbox f
  if s.running then (true, s) else (false, s.bump BRG_STAT4_RX_DISCARD)

/-- A response to a request goes back in its class (R277). -/
def State.respond (s : State) (f : MsgFrame) (op : Nat) (data : Bytes) (status : Nat) : State :=
  s.originate (brgFrame 5 f.src f.prio (brgPayload32 op (brgFlags f) (ofLe (slice 2 1 f.payload)) (brgWin f)
    (brgBseq f) (brgTag f) (brgAddr f) data status (ofLe (slice 26 2 f.payload)))) none

/-- A FAULT notice for a request. -/
def State.sendNotice (s : State) (f : MsgFrame) (status : Nat) : State :=
  (s.bump BRG_STAT4_NOTICES).originate (brgFrame 6 f.src f.prio (brgPayload32 opFault (brgFlags f)
    (ofLe (slice 2 1 f.payload)) (brgWin f) (brgBseq f) (brgTag f) (brgAddr f) [] status (ofLe (slice 26 2 f.payload)))) none

/-- A request fails at the far node: ERR for a read; for a write a FAULT notice, dropped when the counter under
which it was received is no longer in force (R280, R285). -/
def State.failRequest (s : State) (f : MsgFrame) (status : Nat) : State :=
  if brgOp f = opRd then s.respond f opErr [] status
  else if brgOp f ≠ opWr then s
  else if f.topo = s.topo then s.sendNotice f status
  else (s.bump BRG_STAT2_ORPHANED).set BRG_EVENT_ORPHANED 1

/-- The origin is in the node's own vehicle (R274). -/
def State.inVehicle (s : State) (a : Nat) : Bool := addrLocal a || addrPos a == s.position

/-- The status with which the target turns a request away before it performs it; OK where it goes on (R274,
Table 10.2). -/
def State.targetCheck (s : State) (f : MsgFrame) : Nat :=
  let t := brgTarget f
  let a := brgAddr f
  let w := brgWidth f
  let isWr := brgOp f == opWr
  if !addrLocal f.dst && !addrGroup f.dst && (s.legacyAt (addrPos f.dst)).isSome then brgNoTarget
  else if t = 0 then
    let may := s.get BRG_CFG_PF0_TGT
    if may = 0 ∨ may = 3 ∨ (may = 1 ∧ isWr) then brgAccessDenied
    else if 2 ^ 20 < a + w then brgRange
    else match findReg a with
      | none => if (w == 4 && a % 4 == 0) then brgOk else brgNotPerformed
      | some h => if h.takes a w then brgOk else brgNotPerformed
  else if 8 < t then brgNoTarget
  else
    let e := t - 1
    if !s.flag (BRG_EXP_CTRL_EN e) || (s.flag (BRG_EXP_CTRL_SCOPE e) && !s.inVehicle f.src) then brgNoTarget
    else if 2 ^ s.get (BRG_EXP_CTRL_SIZE_EXP e) < a + w then brgRange
    else if (isWr && !s.flag (BRG_EXP_CTRL_WR_OK e)) || (!isWr && !s.flag (BRG_EXP_CTRL_RD_OK e))
        || (brgLockFlag f && !s.flag (BRG_EXP_CTRL_LOCK_OK e)) then brgPerm
    else brgOk

/-- Host address of an offset of the export that a request names. -/
def State.exportAddr (s : State) (f : MsgFrame) : Nat :=
  4096 * s.get (BRG_EXP_ADDR_ADDR (brgTarget f - 1)) + brgAddr f

/-- A request that has passed its checks is performed: `dma` is what host memory gave, none where the DMA failed
(R274). -/
def State.performRequest (s : State) (f : MsgFrame) (dma : Option Nat) : State :=
  let a := brgAddr f
  let w := brgWidth f
  if brgTarget f = 0 then
    let req := Requester.bridge f.src (brgWin f)
    if brgOp f = opWr then
      match findReg a with
      | none => s
      | some h =>
        match s.writeReg req h w (ofLe (fit w (brgData f))) with
        | (.accessDenied, s) => s.failRequest f brgAccessDenied
        | (_, s) => s
    else
      let (v, s) := s.read req a w
      s.respond f opRdData (le w v) brgOk
  else if !s.mayRequest 1 then s.failRequest f brgHostError
  else
    let s := if brgOp f = opWr then s.emit (.hostWrite 1 (s.exportAddr f) (fit w (brgData f)))
      else s.emit (.hostRead 1 (s.exportAddr f) w)
    match dma with
    | none => s.failRequest f brgHostError
    | some v => if brgOp f = opWr then s else s.respond f opRdData (le w v) brgOk

/-- The request holds the target's lock: holder's address and window (R286). -/
def State.isHolder (s : State) (f : MsgFrame) : Bool :=
  match s.brg.lock with
  | some (g, _) => g.src == f.src && brgWin g == brgWin f
  | none => false

/-- The target grants its lock. -/
def State.grantLock (s : State) (f : MsgFrame) : State :=
  ((s.brgMap (fun b => { b with lock := some (f, s.uptime) })).set BRG_STATUS_TGT_LOCKED 1).set BRG_TGT_LOCK_HOLDER f.src

/-- A lock request is refused with LOCK_RETRY, and its origin recorded, the oldest of 16 dropped (R287). -/
def State.refuseLock (s : State) (f : MsgFrame) : State :=
  let r := (f.src, brgWin f, f.prio)
  let s := s.brgMap (fun b => { b with
    refused := (b.refused.filter (fun x => !(x.1 == f.src && x.2.1 == brgWin f)) ++ [r]).drop
      ((b.refused.filter (fun x => !(x.1 == f.src && x.2.1 == brgWin f))).length - 15) })
  s.respond f opLockRetry [] brgOk

/-- Order state of a pair, and its executed number noted (R278). -/
def State.orderOf (s : State) (f : MsgFrame) : Option BrgOrder :=
  s.brg.orders.find? (fun o => o.origin == f.src && o.win == brgWin f)

def State.noteOrder (s : State) (f : MsgFrame) : State :=
  s.brgMap (fun b =>
    let others := b.orders.filter (fun o => !(o.origin == f.src && o.win == brgWin f))
    let oldest := others.foldl (fun m o => Nat.min m o.used) b.uses
    let others := if 64 ≤ others.length then others.filter (fun o => !(o.used == oldest)) else others
    { b with orders := others ++ [{ origin := f.src, win := brgWin f, last := brgBseq f, used := b.uses }], uses := b.uses + 1 })

/-- A request is held, or refused with BUSY where the store of 32 is full. -/
def State.holdRequest (s : State) (f : MsgFrame) (gap : Bool) : State :=
  if s.brg.held.length < 32 then s.brgMap (fun b => { b with held := b.held ++ [⟨f, gap⟩] }) else s.failRequest f brgBusy

/-- A held request that now follows without a gap runs next (R278). -/
def State.releaseNext (s : State) (f : MsgFrame) : State :=
  s.releaseHeld (fun h => h.gap && h.frame.src == f.src && brgWin h.frame == brgWin f &&
    brgBseq h.frame == (brgBseq f + 1) % 65536)

/-- The request runs in its place in the order: its lock, its access, its unlock. -/
def State.runRequest (s : State) (f : MsgFrame) (dma : Option Nat) : State :=
  let st := s.targetCheck f
  let s :=
    if st ≠ brgOk then (s.noteOrder f).failRequest f st
    else if brgInLock f && !s.isHolder f then (s.noteOrder f).failRequest f brgLockLost
    else ((if brgLockFlag f then s.grantLock f else s).noteOrder f).performRequest f dma
  let s := if brgUnlockFlag f && s.isHolder f then s.unlockTarget else s
  s.releaseNext f

/-- A read or write request at the target (R278, R286, R287). -/
def State.atTarget (s : State) (f : MsgFrame) (dma : Option Nat) : State :=
  let d := match s.orderOf f with
    | some o => subMod 16 (brgBseq f) o.last
    | none => 1
  if d = 0 ∨ 2 ^ 15 ≤ d then (s.bump BRG_STAT3_ORDER_LATE).failRequest f brgLate
  else if s.brg.lock.isSome ∧ !s.isHolder f then (if brgLockFlag f then s.refuseLock f else s.holdRequest f false)
  else if s.isHolder f ∧ !brgInLock f ∧ !brgLockFlag f then s.holdRequest f false
  else if 2 ≤ d ∧ d ≤ 32 then s.holdRequest f true
  else if brgLockFlag f && s.targetCheck f == brgOk && !s.isHolder f && !s.wouldGrant f.src then s.refuseLock f
  else s.runRequest f dma

/-- A request row: the frame is taken where the bridge runs. -/
def State.takeRequest (s : State) (f : MsgFrame) (op : Nat) (act : State → State) : State :=
  if f.type ≠ 5 ∨ brgOp f ≠ op then s
  else match s.brgTake f with
    | (true, s) => act s
    | (false, s) => s

def execBrgWrRequest (frame : MsgFrame) (dma : Option Nat) (s : State) : Host.Outcome State Fault Refusal :=
  finish (s.takeRequest frame opWr (fun s => s.atTarget frame dma))

def execBrgRdRequest (frame : MsgFrame) (dma : Option Nat) (s : State) : Host.Outcome State Fault Refusal :=
  finish (s.takeRequest frame opRd (fun s => s.atTarget frame dma))

/-- An UNLOCK request ends the lock of its holder. -/
def execBrgUnlockRequest (frame : MsgFrame) (s : State) : Host.Outcome State Fault Refusal :=
  finish (s.takeRequest frame opUnlock (fun s => if s.isHolder frame then s.unlockTarget else s))

/-- A fault source of a severity is set in FLT_STATUS. -/
def State.severitySet (s : State) (sev : Nat) : Bool :=
  (maskBits 64 (s.get FLT_STATUS_STATUS)).any (fun n => s.fltSeverity n == sev)

/-- The present sideband word, bits 58:0 (BRG_WINn_SB). -/
def State.sidebandWord (s : State) : Nat :=
  let dir := s.pins.gpioDrive
  let gpio := Nat.lor (Nat.land (s.get FLW_GPIO_OUT_OUT) dir) (andNot (s.get FLW_GPIO_IN_IN) dir)
  gpio % 2 ^ 32 + 2 ^ 48 * b2n (s.severitySet 0) + 2 ^ 49 * b2n (s.severitySet 1) + 2 ^ 50 * b2n (s.severitySet 2)
    + 2 ^ 55 * s.get FLT_ALIVE_CFG_RUN + 2 ^ 56 * s.mode

/-- An SB_POLL is answered with the sideband word of this moment (R290). -/
def execSbPollReceive (frame : MsgFrame) (s : State) : Host.Outcome State Fault Refusal :=
  finish (s.takeRequest frame opSbPoll (fun s => s.respond frame opSbData (le 8 s.sidebandWord) brgOk))

/-! ### Responses at the origin (R282–R288) -/

/-- The open read or lock write that a response answers. -/
def State.openRequest (s : State) (f : MsgFrame) : Option BrgReq :=
  s.brg.reads.find? (fun r => r.win == brgWin f && r.bseq == brgBseq f && r.tag == brgTag f)

/-- The window offset of an address. -/
def State.winOffset (s : State) (w a : Nat) : Nat := subMod 64 a (s.get (BRG_WIN_BASE_BASE w))

/-- A response that finds no open request (R283). -/
def State.lateResponse (s : State) (f : MsgFrame) : State :=
  let w := brgWin f
  let s := s.bump BRG_STAT2_LATE_RESP
  let s := if s.flag (BRG_WIN_CTRL_RSE w) then s.set BRG_EVENT_RSE_LOST 1 else s
  if brgOp f = opErr then s.hostEvent 0x07 (brgPayload w (brgStatus f) (brgTag f) (s.winOffset w (brgAddr f))) else s

/-- Read data arrives for its request (R282). -/
def State.readData (s : State) (f : MsgFrame) : State :=
  match s.openRequest f with
  | none => s.lateResponse f
  | some r =>
    if r.op ≠ opRd then s.lateResponse f
    else
      let v := s.laneValue r.win r.width (brgData f)
      let s := if r.lock && s.brg.lockWin == r.win then s.set BRG_STATUS_LOCK_OUT 2 else s
      let s := s.finishRequest r brgOk v
      let s := if 8 ≤ r.who then s
        else s.brgMap (fun b => { b with arrived := tabPut r.who (v, s.get (BRG_WIN_CTRL_RSE r.win), r.lock) b.arrived })
      if r.lock && r.unlock then s.endLockOf r.win else s

def execRdDataReceive (frame : MsgFrame) (s : State) : Host.Outcome State Fault Refusal :=
  finish (s.takeRequest frame opRdData (fun s => s.readData frame))

/-- An ERR completes its read with the far status, or comes too late (R283, R285). -/
def State.readError (s : State) (f : MsgFrame) : State :=
  match s.openRequest f with
  | some r => if r.op = opRd then s.finishRequest r (brgStatus f) 0 else s.lateResponse f
  | none => s.lateResponse f

def execErrReceive (frame : MsgFrame) (s : State) : Host.Outcome State Fault Refusal :=
  finish (s.takeRequest frame opErr (fun s => s.readError frame))

/-- LOCK_TRIES in force: 0 is taken as 1. -/
def State.lockTries (s : State) : Nat := Nat.max 1 (s.get BRG_CFG_LOCK_TRIES)

/-- A lock request has failed for good (R288). -/
def State.lockFailed (s : State) (r : BrgReq) : State :=
  if r.op = opRd then s.finishRequest r brgLockFail 0
  else (s.endLockOf r.win).postedFault r.who r.win brgLockFail r.tag r.offset

/-- A LOCK_RETRY: the request waits, or has been refused too often (R288). -/
def State.lockRetried (s : State) (f : MsgFrame) : State :=
  match s.openRequest f with
  | none => s.lateResponse f
  | some r =>
    if !r.lock then s
    else
      let s := s.bump BRG_STAT3_LOCK_RETRY
      if s.lockTries ≤ r.tries + 1 then s.lockFailed r
      else (s.readMap r.win r.bseq (fun x => { x with tries := x.tries + 1 })).set BRG_STATUS_LOCK_OUT 1

def execLockRetryReceive (frame : MsgFrame) (s : State) : Host.Outcome State Fault Refusal :=
  finish (s.takeRequest frame opLockRetry (fun s => s.lockRetried frame))

/-- A refused lock request goes again, under the number it has (R278, R288). -/
def State.resendLock (s : State) (r : BrgReq) : State :=
  if !r.lock || r.tries == 0 || !(s.get BRG_STATUS_LOCK_OUT == 1) then s
  else
    let s := s.readMap r.win r.bseq (fun x => { x with left := s.requestCopies x, sent := false })
    let s := if r.op = opWr then s.set BRG_STATUS_LOCK_OUT 2 else s
    s.sendRequest { r with topo := s.topo }

def execLockFreeReceive (frame : MsgFrame) (s : State) : Host.Outcome State Fault Refusal :=
  finish (s.takeRequest frame opLockFree (fun s =>
    match s.brg.reads.find? (fun r => r.win == brgWin frame && r.lock) with
    | some r => s.resendLock r
    | none => s))

/-- The request of a requester, window and BSEQ. -/
def State.requestOf (s : State) (who win bseq : Nat) : Option BrgReq :=
  s.brg.reads.find? (fun r => r.who == who && r.win == win && r.bseq == bseq)

def execLockRetryTimer (who window bseq : Nat) (s : State) : Host.Outcome State Fault Refusal :=
  finish (match s.requestOf who window bseq with
    | some r => s.resendLock r
    | none => s)

/-- An SB_DATA answer goes into BRG_WINn_SB (R290). -/
def State.sidebandData (s : State) (f : MsgFrame) : State :=
  let w := brgWin f
  let d := ofLe (brgData f)
  s.load [(BRG_WIN_SB_GPIO w, bits d 0 32), (BRG_WIN_SB_MINOR w, bit d 48), (BRG_WIN_SB_MAJOR w, bit d 49),
    (BRG_WIN_SB_CRIT w, bit d 50), (BRG_WIN_SB_ALIVE_RUN w, bit d 55), (BRG_WIN_SB_MODE w, bits d 56 3),
    (BRG_WIN_SB_AGE w, 0), (BRG_WIN_SB_VALID w, 1)]

def execSbDataReceive (frame : MsgFrame) (s : State) : Host.Outcome State Fault Refusal :=
  finish (s.takeRequest frame opSbData (fun s => s.sidebandData frame))

/-- A FAULT notice: a POSTED_FAULT entry, and with LOCK_LOST the end of the lock (R280, R286). -/
def State.faultNotice (s : State) (f : MsgFrame) : State :=
  match s.brgTake f with
  | (false, s) => s
  | (true, s) =>
    let w := brgWin f
    let s := if brgStatus f = brgLockLost then s.endLockOf w else s
    let who := tabGet 0 s.brg.sources (65536 * w + brgBseq f)
    s.postedFault who w (brgStatus f) (brgTag f) (s.winOffset w (brgAddr f))

def execFaultNoticeReceive (frame : MsgFrame) (s : State) : Host.Outcome State Fault Refusal :=
  finish (if frame.type = 6 ∧ brgOp frame = opFault then s.faultNotice frame else s)

/-! ### Timers (R278, R283, R284, R286) -/

/-- A gap still open at the end of the second window is skipped: the requests held behind it run in order. -/
def State.skipGap (s : State) (origin win : Nat) : State :=
  let mine := fun (h : BrgHeld) => h.gap && h.frame.src == origin && brgWin h.frame == win
  let last := ((s.brg.orders.find? (fun o => o.origin == origin && o.win == win)).map (·.last)).getD 0
  match s.brg.held.filter mine with
  | [] => s
  | h :: t =>
    let dist := fun (x : BrgHeld) => subMod 16 (brgBseq x.frame) last
    let first := t.foldl (fun (m : BrgHeld) x => if dist x < dist m then x else m) h
    let b := (brgBseq first.frame + 65535) % 65536
    let s := s.brgMap (fun g => { g with orders := g.orders.map (fun o =>
      if o.origin == origin && o.win == win then { o with last := b } else o) })
    s.releaseHeld (fun h => mine h && brgBseq h.frame == brgBseq first.frame)

def execBseqGapExpiry (origin window : Nat) (s : State) : Host.Outcome State Fault Refusal :=
  finish (s.skipGap origin window)

/-- Order state of a pair unused for 64 basic cycles lapses. -/
def execOrderStateLapse (origin window : Nat) (s : State) : Host.Outcome State Fault Refusal :=
  finish (s.brgMap (fun b => { b with orders := b.orders.filter (fun o => !(o.origin == origin && o.win == window)) }))

/-- No response within RSP_TMO of the last frame sent for a read. -/
def State.responseTimeout (s : State) (who win bseq : Nat) : State :=
  match s.requestOf who win bseq with
  | none => s
  | some r =>
    if r.op ≠ opRd then s
    else ((s.bump BRG_STAT_TIMEOUTS).set BRG_EVENT_TIMEOUT 1).finishRequest r brgTimeout 0

def execResponseTimeout (who window bseq : Nat) (s : State) : Host.Outcome State Fault Refusal :=
  finish (s.responseTimeout who window bseq)

/-- Read data that nobody has collected is discarded (R284). -/
def State.discardRead (s : State) (p : Nat) : State :=
  match tabFind p s.brg.arrived with
  | none => s
  | some (_, rse, lock) =>
    let s := s.brgMap (fun b => { b with arrived := tabErase p b.arrived })
    let s := (s.set (BRG_AP_STATUS_STATUS p) brgDiscarded).bump BRG_STAT_DISCARDS
    let s := if rse = 1 then (s.set BRG_EVENT_RSE_LOST 1).record 0x30000 0x5002 [] else s
    if lock && s.get BRG_STATUS_LOCK_OUT == 2 then
      let w := s.brg.lockWin
      let r : BrgReq := { who := 8, win := w, bseq := 0, tag := s.get (BRG_AP_STATUS_TAG p), op := opUnlock
                          addr := s.get (BRG_WIN_BASE_BASE w) }
      s.sendUnlock r
    else s

def execReadDiscardTimeout (port : Nat) (s : State) : Host.Outcome State Fault Refusal :=
  finish (if port < 8 then s.discardRead port else s)

/-- The target's lock ends 500 µs after its grant, and the holder is sent LOCK_LOST (R286). -/
def State.lockExpires (s : State) : State :=
  match s.brg.lock with
  | none => s
  | some (f, _) =>
    let s := (s.bump BRG_STAT3_LOCK_TIMEOUT).set BRG_EVENT_LOCK_TIMEOUT 1
    (s.sendNotice f brgLockLost).unlockTarget

def execTargetLockTimeout (s : State) : Host.Outcome State Fault Refusal := finish s.lockExpires

/-! ### Commands (R275, R295) -/

/-- WIN_ENABLE: the window becomes ACTIVE, or RESOLVING until its UID is known (R275, R278). -/
def State.enableWindow (s : State) (w : Nat) : State :=
  let s := s.set (BRG_WIN_STATUS_BSEQ w) 0
  let dst := s.get (BRG_WIN_DST_ADDR w)
  if s.get (BRG_WIN_CTRL_BIND w) = 0 then
    s.putWin w winActive (if addrLocal dst then s.position else addrPos dst)
  else (s.putWin w winResolving 0).resolveWindow w

def cmdWinEnable : CmdSpec :=
  { base := 0x30000, code := 1, argOk := fun s a => decide (a < 32) && !s.winBad a
    accepted := fun s => s.inModes [modeNative, modeBorder, modeStandby], run := fun a s => s.enableWindow a }

def execWinEnable (path : Path) (arg : Nat) (s : State) : Host.Outcome State Fault Refusal :=
  finish (s.command cmdWinEnable path arg)

def cmdWinDisable : CmdSpec :=
  { base := 0x30000, code := 2, argOk := fun _ a => decide (a < 32)
    accepted := fun s => s.inModes [modeNative, modeBorder, modeStandby]
    run := fun a s => (s.putWin a winDisabled 0).closeRequests a brgTopoChanged }

def execWinDisable (path : Path) (arg : Nat) (s : State) : Host.Outcome State Fault Refusal :=
  finish (s.command cmdWinDisable path arg)

end Sys2Proof.Machine
end

