-- ==== Sys2Proof/Machine/PairOps.lean ====
section
/-! DEFINITION. The pair unit as other blocks use it: selection, the health report as an epoch forms it, what the
acting member sends, and the standby's SYNC states (R366–R374, R380–R383). -/

namespace Sys2Proof.Machine

open Reg

/-- SYNC states of a standby (PAIR_STATUS.SYNC). -/
abbrev syncUnsynced : Nat := 0
abbrev syncResync : Nat := 1
abbrev syncSynced : Nat := 2
abbrev syncTesting : Nat := 3

/-- The SYNC state. -/
def State.syncState (s : State) : Nat := s.get PAIR_STATUS_SYNC

/-- The state with the pair unit's hidden state changed. -/
def State.pairMap (s : State) (f : PairState → PairState) : State := { s with pair := f s.pair }

/-- The REF_SW level that the member has taken selects it (R367). -/
def State.pairSelected (s : State) : Bool :=
  s.pairMember && s.pair.taken && s.get PAIR_STATUS_REF_SW == s.get PAIR_CFG_MEMBER

/-- The member acts: NATIVE, with the permission. -/
def State.pairActs (s : State) : Bool := s.pairMember && s.mode == modeNative && s.permission

/-! ### Health report (R373, Table 14.4) -/

/-- Byte 15 of the report: results of the latent-fault tests. -/
def State.latentBits (s : State) : Nat :=
  s.get FLT_LATENT_LOCKSTEP + 2 * s.get FLT_LATENT_ECC + 4 * s.get FLT_LATENT_CLOCK + 8 * s.get FLT_LATENT_SUPPLY
    + 16 * s.get FLT_LATENT_COLLECTOR

/-- The report from the values of this calibration epoch. Self-test progress and scrub position are free values
(notes/assumptions/4.md). -/
def State.formReport (s : State) : State :=
  let (progress, s) := s.draw 16
  let (scrub, s) := s.draw 32
  let r : Report :=
    { member := s.get PAIR_CFG_MEMBER, mode := s.mode, permission := s.permission
      interlock := s.pair.partnerLow || s.pair.driving
      sync := if s.pairActs then syncSynced else s.syncState, linkUp := s.flag PAIR_STATUS_LINK
      lockstepOk := !s.flag FLW_STATUS_HALTED, minor := s.severitySet 0, major := s.severitySet 1
      critical := s.severitySet 2, safe := s.mode == modeSafe, seq := 0, cycle := s.cyc.epochOf.getD 0, topo := s.topo
      progress := progress % 101, latent := s.latentBits, scrub := scrub, rxChecks := s.pair.rxChecks
      status := s.get FLT_STATUS_STATUS }
  s.pairMap (fun p => { p with formed := some r })

/-- The report as it is sent: MODE, PERMISSION, INTERLOCK and the faults of this moment, and its number. -/
def State.sentReport (s : State) (r : Report) : Report :=
  { r with mode := s.mode, permission := s.flag PAIR_STATUS_PERMISSION, interlock := s.pair.partnerLow || s.pair.driving
           minor := s.severitySet 0, major := s.severitySet 1, critical := s.severitySet 2, safe := s.mode == modeSafe
           seq := s.pair.rptSeq, status := s.get FLT_STATUS_STATUS }

/-- Bytes 0–37 of a report. -/
def reportBody (r : Report) : Bytes :=
  le 1 r.member ++ le 1 (r.mode % 8 + 8 * b2n r.permission + 16 * b2n r.interlock)
    ++ le 1 (r.sync % 4 + 4 * b2n r.linkUp + 8 * b2n r.lockstepOk)
    ++ le 1 (b2n r.minor + 2 * b2n r.major + 4 * b2n r.critical + 8 * b2n r.safe)
    ++ le 4 r.seq ++ le 4 r.cycle ++ le 2 r.topo ++ le 1 r.progress ++ le 1 r.latent ++ le 4 r.scrub ++ le 2 r.rxChecks
    ++ zeros 2 ++ le 8 r.status ++ zeros 6

/-- The 40 bytes of a report. -/
def reportBytes (r : Report) : Bytes := reportBody r ++ le 2 (crc16 (reportBody r))

/-! ### What the pair link carries (Table 14.10) -/

/-- The dynamic fields of a flow context, bytes 0x40 to 0x7F. -/
def flowDynamic (f : Nat) : List Field :=
  [FCTX_STATUS f, FCTX_RES_POS f, FCTX_BUCKET f, FCTX_ITEMS f, FCTX_POL_DROP f, FCTX_AUTH_FAIL f, FCTX_REPLAY_UID f 0,
    FCTX_REPLAY_IV f 0, FCTX_REPLAY_UID f 1, FCTX_REPLAY_IV f 1, FCTX_LAST_TIME f]

/-- The delay and asymmetry fields of a port. -/
def delayFields (p : Nat) : List Field :=
  [LN_DELAY_VALID p, LN_DELAY_SRC p, LN_DELAY_SAMPLES p, LN_DELAY_DELAY p, LN_ASYM_ASYM p]

/-- The state fields of a bridge window. -/
def windowFields (w : Nat) : List Field := [BRG_WIN_STATUS_STATE w, BRG_WIN_STATUS_RES_POS w, BRG_WIN_STATUS_BSEQ w]

/-- The fields that a per-cycle update carries. -/
def State.updateFields (s : State) : List Field :=
  (s.enabledFlows.map flowDynamic).flatten ++ ((linePorts.filter s.isDownstream).map delayFields).flatten
    ++ ((List.range 32).map windowFields).flatten

/-- The acting member's update of this basic cycle (R381, R383). -/
def State.sendUpdate (s : State) : State :=
  let u : PairUpdate :=
    { loads := s.updateFields.map (fun f => (f, s.get f)), publication := some s.cyc.pub, gpio := s.get FLW_GPIO_OUT_OUT
      uids := s.ina.uids, crcs := s.cyc.crcs, time := if s.isHead then some s.trainTime else none }
  (s.emit (.pairUpdate u)).cycMap (fun c => { c with crcs := [] })

/-- What a calibration epoch does at a pair member (R373, R381). -/
def State.pairEpoch (s : State) : State :=
  if !s.pairMember then s
  else
    let s := s.formReport
    if s.pairActs && s.flag PAIR_STATUS_LINK then s.sendUpdate else s

/-! ### SYNC states (R381, R382) -/

/-- A change of the SYNC state: entry into SYNCED is recorded, exit other than into TESTING noted, and the full
transfer asked for at each entry into RESYNC. -/
def State.setSync (s : State) (st : Nat) : State :=
  let old := s.syncState
  let s := s.set PAIR_STATUS_SYNC st
  let s := if old = syncSynced ∧ st ≠ syncSynced ∧ st ≠ syncTesting then s.set PAIR_EVENT_SYNC_LOST 1 else s
  if st = syncSynced ∧ old ≠ syncSynced then (s.set PAIR_EVENT_SYNCED 1).record 0x3C000 0x6004 []
  else if st = syncResync then (s.bump PAIR_STAT_RESYNCS).emit .pairTransferStart
  else s

/-- The standby is out of step: UNSYNCED, and RESYNC at once while the pair link is UP; a selected member starts no
transfer. -/
def State.pairOutOfStep (s : State) : State :=
  let s := s.setSync syncUnsynced
  if s.flag PAIR_STATUS_LINK && !s.pairSelected then s.setSync syncResync else s

/-- The standby starts UNSYNCED at the end of BOOT (R381). -/
def State.standbyStart (s : State) : State :=
  if s.mode = modeStandby ∧ s.pairMember then s.pairOutOfStep else s

/-- A latent-fault test that alters engine state puts a SYNCED standby in TESTING (R382). -/
def State.testStep (s : State) : State :=
  if s.mode = modeStandby ∧ s.syncState = syncSynced then s.setSync syncTesting else s

end Sys2Proof.Machine
end

