-- ==== Sys2Proof/Machine/Epoch.lean ====
section
/-! DEFINITION. Calibration epochs: what one instant applies at all four ports and in every block that counts
epochs (R79, R85, R87, R88, R117, R123, R124, R148, R158, R160, R168, R257, R290, R449). -/

namespace Sys2Proof.Machine

open Reg

/-- Epochs are kept in NATIVE, BORDER and STANDBY, at the owner of the line ports and at a node without any
(R119, R123). -/
def State.keepsEpochs (s : State) : Bool := s.inModes [modeNative, modeBorder, modeStandby] && !s.stackMember

/-- Free epochs take the place of those of R85: no header has been seen (R87). -/
def State.freeEpochs (s : State) : Bool := s.cyc.headerLost && !s.isHead && !s.noLines

/-- The port of a line whose inbound copies the node counts: at the head the one that receives them, elsewhere
the one that sends them upstream (R85). -/
def State.inboundPort (s : State) (line : Nat) : Nat :=
  let e := if s.isHead then s.tailEnd else s.headEnd
  2 * (e - 1) + line

/-- The inbound copy of a line has ended, or the line does not carry the frame. -/
def State.lineEnded (s : State) (line : Nat) : Bool :=
  hasBit s.cyc.inbound line || hasBit s.cyc.notCarried line
    || !(s.lineUp (s.inboundPort line) && s.portLinked (s.inboundPort line))

/-- The epoch of the present frame falls due: every carried inbound copy has ended, or none has begun. -/
def State.epochDue (s : State) : Bool :=
  s.cyc.inbound == 0 || (s.lineEnded 0 && s.lineEnded 1)

/-- A flow's token bucket fills (R257). -/
def State.fillBucket (s : State) (f : Nat) : State :=
  if s.get (FCTX_RATE f) = 0 then s
  else s.set (FCTX_BUCKET f) (Nat.min (16 * s.get (FCTX_BURST f)) (s.get (FCTX_BUCKET f) + 16 * s.get (FCTX_RATE f)))

/-- Once per basic cycle a PERIODIC flow from the GPIO inputs gets an item (Table 9.5). -/
def State.gpioPeriodic (s : State) : State :=
  if s.enabledFlows.any (fun f => s.get (FCTX_SRC_CH f) == chGpio && hasBit (s.get (FCTX_SRC_SEL f)) 32) then
    s.offer chGpio { ch := chGpio, sel := 0, data := le 4 (s.get FLW_GPIO_IN_IN) }
  else s

/-- What counts epochs outside calibration: configuration, freshness, policing, buckets, sideband words, the head's
budget, the stack's EPOCH mark, key switches, the pair's report and update; at a node that owns no line
ports the sleep sequence, which has no message window there. -/
def State.countEpoch (s : State) : State :=
  let s := s.msgConfigEpoch.freshEpoch.policeEpoch
  let s := (s.enabledFlows.foldl State.fillBucket s).sidebandEpoch.budgetCheck
  let s := { s with stk := { s.stk with epochDue := true } }
  let s := if s.noLines || s.stackMember then s.sleepWindowOpen.sleepWindowEnd else s
  s.gpioPeriodic.switchPoint.pairEpoch

/-- After an epoch a /D/ follows the next outbound frame on a downstream port that holds an average (R79). -/
def State.noticesDue (s : State) : State :=
  linePorts.foldl (fun s p =>
    if s.isDownstream p && s.lineUp p && !(s.get (LN_DELAY_SAMPLES p) == 0) then s.portMap p (fun l => { l with noticeDue := true })
    else s) s

/-- The own declaration that a commit made due leaves in the window that follows (R130). -/
def State.declEpoch (s : State) : State := if s.cyc.declDue && s.inaSends then s.sendDecl else s

/-- One epoch. `receiving` are the ports on which a frame is being received (R86). -/
def State.epoch (s : State) (receiving : Nat) : State :=
  (((s.epochPorts receiving).timEpoch.hopEpoch).countEpoch).noticesDue.declEpoch

/-- The epoch of frame k (R85, R168). -/
def State.calibrationEpoch (s : State) (receiving : Nat) : State :=
  if !s.keepsEpochs || s.freeEpochs || !s.epochDue then s
  else
    let s := (s.frameOutcome).epoch receiving
    s.cycMap (fun c => { c with
      epochOf := if c.hdrAt.isSome || s.isHead then c.latched.map (·.1) else c.epochOf
      inbound := 0, notCarried := 0, copies := 0, verified := 0 })

def execCalibrationEpoch (receiving : Nat) (s : State) : Host.Outcome State Fault Refusal :=
  finish (s.calibrationEpoch receiving)

/-- A line whose inbound copy has not begun does not carry the frame (R85). -/
def execLateLineTimeout (line : Nat) (s : State) : Host.Outcome State Fault Refusal :=
  finish (if line < 2 ∧ s.cyc.inbound ≠ 0 ∧ !hasBit s.cyc.inbound line then
    s.cycMap (fun c => { c with notCarried := setBitOf c.notCarried line }) else s)

/-- Without headers, every 125 µs at an /I/ boundary (R87). -/
def execFreeEpoch (s : State) : Host.Outcome State Fault Refusal :=
  finish (if s.keepsEpochs && s.freeEpochs then s.epoch 0 else s)

end Sys2Proof.Machine
end

