-- ==== Sys2Proof/Machine/Pair.lean ====
section
/-! DEFINITION. The redundant pair and the referee: REF_SW, the token, take-over, the referee's decision, the standby's
transfer and updates (R364–R387). -/

namespace Sys2Proof.Machine

open Reg

/-! ### Selection and the token (R367–R370, R374, R378, R380) -/

/-- Queued frames, open bridge requests and posted writes of a deselected member are lost; the pending CAN entries
end with the mode (R380). -/
def State.dropTraffic (s : State) : State :=
  let s := s.msgMap (fun m => { m with queues := [], sending := [], returned := [] })
  (s.brgMap (fun b => { b with
    reads := [], posted := [], waiting := [], parked := [], arrived := [], sources := [] })).showPosted.endOutLock

/-- The level taken stops selecting the member (R368, R378). -/
def State.deselected (s : State) : State :=
  let s := (s.dropLine 23).pairMap (fun p => { p with variantBOver := true })
  let s := s.set PAIR_STATUS_PENDING 0
  if s.mode = modeNative then ((s.abortTransitions .fault).dropTraffic).enterSafeMode 9
  else if s.mode = modeStandby then s.pairOutOfStep
  else s

/-- A decision for a standby that is not SYNCED: variant B of Table 14.7. A test or transfer is abandoned, and the
outputs keep the levels on their nets. -/
def State.variantB (s : State) : State :=
  let dir := s.get FLW_GPIO_DIR_DIR
  let s := s.load [(PAIR_STATUS_SYNC, syncUnsynced), (PAIR_STATUS_PENDING, b2n !s.enabledFlows.isEmpty),
    (FLW_GPIO_OUT_OUT, Nat.lor (andNot (s.get FLW_GPIO_OUT_OUT) dir) (Nat.land (s.get FLW_GPIO_IN_IN) dir))]
  let s := s.pairMap (fun p => { p with
    decidedB := true, freshFrom := s.flw.arrivals, freshFlows := [], outputsFresh := 0, variantBOver := false })
  s.cycMap (fun c => { c with degraded := s.areaDegraded })

/-- The level taken begins to select the member: its SYNC state decides the variant (R380). -/
def State.selected (s : State) : State :=
  if s.mode = modeStandby ∧ s.syncState ≠ syncSynced then s.variantB
  else s.pairMap (fun p => { p with decidedB := false })

/-- The referee link reaches the node: a pair member, or a node in BOOT that may become one. -/
def State.hearsReferee (s : State) : Bool :=
  (s.pairMember || s.mode == modeBoot) && !s.inModes [modeSleep, modeReferee]

/-- A REF_SW level held for 1.0 µs is taken while the referee link is valid (R374). -/
def State.takeRefSw (s : State) (level : Nat) : State :=
  if !s.hearsReferee || !s.pair.syncOk then s
  else
    let was := s.pairSelected
    let moved := !s.pair.taken || !(s.get PAIR_STATUS_REF_SW == level % 2)
    let s := s.pairMap (fun p => { p with taken := true, swAt := if moved then s.uptime - 1000 else p.swAt })
    let s := s.set PAIR_STATUS_REF_SW level
    if was && !s.pairSelected then s.deselected
    else if !was && s.pairSelected then s.selected
    else s

def execRefSwTake (level : Nat) (s : State) : Host.Outcome State Fault Refusal := finish (s.takeRefSw level)

/-- The member drives INTERLOCK_N and holds the permission (R367). -/
def State.claimToken (s : State) : State :=
  let s := s.pairMap (fun p => { p with driving := true, partnerLow := false })
  ((s.bump PAIR_STAT_TAKEOVERS).load [(PAIR_STATUS_PERMISSION, 1), (PAIR_EVENT_TAKEOVER, 1),
    (PAIR_TAKEOVER_NS, satNat 16 (s.uptime - s.pair.swAt))]).dropLine 23

/-- The standby takes over: NATIVE, and MASTER at a head (R378, R182). -/
def State.takeOver (s : State) : State :=
  let s := (s.claimToken.setB PAIR_TAKEOVER_VARIANT_B s.pair.decidedB).setMode modeNative 9
  if s.isHead then (s.timMap (fun t => { t with masterFromLocked := s.timState == timLocked })).setTimState timMaster
  else s

/-- A selected member has seen INTERLOCK_N high for 1.0 µs: in STANDBY it takes over, in the final step of BOOT it
claims (R367, R384). -/
def execInterlockClaim (s : State) : Host.Outcome State Fault Refusal :=
  finish (if !s.pairSelected || s.pair.driving then s
    else if s.mode = modeStandby then s.takeOver
    else if s.mode = modeBoot ∧ s.glb.bootStep = 7 then s.claimToken
    else s)

/-- A selected member finds INTERLOCK_N low for 100 µs (R369). -/
def execInterlockFault (s : State) : Host.Outcome State Fault Refusal :=
  finish (if s.pairSelected && !s.pair.driving && s.inModes [modeBoot, modeStandby, modeNative] then
    ((s.pairMap (fun p => { p with partnerLow := true })).set PAIR_EVENT_INTERLOCK_FAULT 1).assertLine 23
  else s)

/-- SAFE_VAL stands in the range of every publication flow that is not yet fresh (R380). -/
def State.safeRanges (s : State) : State :=
  (s.enabledFlows.filter (fun f => s.get (FCTX_DST_CH f) == chSlot && s.notFresh f)).foldl
    (fun s f => s.publish f (le 16 (s.get (FCTX_SAFE_VAL f)))) s

/-- Cycle k_D + 7 has ended: outputs not yet taken go to their safe levels, and the own area is written (R380). -/
def State.deadlineB (s : State) : State :=
  let late := andNot (s.get FLW_GPIO_DIR_DIR) s.pair.outputsFresh
  let level := Nat.lor (andNot (s.get FLW_GPIO_OUT_OUT) late) (Nat.land (s.get FLW_GPIO_SAFE_SAFE) late)
  let s := s.set FLW_GPIO_OUT_OUT level
  let s := if late = 0 then s else (s.set PAIR_EVENT_OUTPUTS_SAFE 1).record 0x3C000 0x6005 []
  let s := s.safeRanges.pairMap (fun p => { p with variantBOver := true })
  s.cycMap (fun c => { c with degraded := s.areaDegraded })

def execVariantBDeadline (s : State) : Host.Outcome State Fault Refusal :=
  finish (if s.pairMember && s.mode == modeNative && !s.pair.variantBOver then s.deadlineB else s)

/-! ### The referee link at a member (R371–R374) -/

/-- The referee is lost (R374). -/
def State.refereeLost (s : State) : State :=
  ((s.pairMap (fun p => { p with syncOk := false })).load [(PAIR_STATUS_REF_LOST, 1), (PAIR_EVENT_REF_LOST, 1)]).assertLine 54

/-- A member sends its report in its slot (R373). -/
def State.replyReport (s : State) : State :=
  if !s.pairMember then s
  else
    let s := if s.pair.formed.isSome then s else s.formReport
    match s.pair.formed with
    | some r => (s.emit (.report (s.sentReport r))).pairMap (fun p => { p with rptSeq := (p.rptSeq + 1) % 2 ^ 32 })
    | none => s

/-- A valid SYNC (R372, R374, R376). -/
def State.takeSync (s : State) (f : SyncFrame) : State :=
  let s := s.pairMap (fun p => { p with syncOk := !f.adopt, syncMissed := 0 })
  let partner := if s.get PAIR_CFG_MEMBER = 0 then f.elig1 else f.elig0
  ((s.load [(PAIR_STATUS_ADOPT, b2n f.adopt), (PAIR_STATUS_PARTNER_OK, b2n partner), (PAIR_STATUS_REF_LOST, 0)]).dropLine
    54).replyReport

/-- A SYNC that is missing or invalid; the second in a row loses the referee (R374). -/
def State.missSync (s : State) : State :=
  let n := Nat.min 2 (s.pair.syncMissed + 1)
  let s := s.pairMap (fun p => { p with syncOk := false, syncMissed := n })
  if s.pairMember && n == 2 && !s.flag PAIR_STATUS_REF_LOST then s.refereeLost else s

def execSyncReceive (sync : Option SyncFrame) (s : State) : Host.Outcome State Fault Refusal :=
  finish (if !s.hearsReferee then s else match sync with
    | some f => s.takeSync f
    | none => s.missSync)

/-- REF_CLK has stopped, or two SYNCs in a row are missing (R374). -/
def execRefLost (s : State) : Host.Outcome State Fault Refusal :=
  finish (if s.pairMember && s.hearsReferee then s.refereeLost
    else s.pairMap (fun p => { p with syncOk := false }))

/-! ### The referee (R371, R375–R377, R385, R386) -/

/-- ELIG of a member. -/
def eligField (m : Nat) : Field := if m = 0 then PAIR_REF_STATUS_ELIG0 else PAIR_REF_STATUS_ELIG1

/-- The last report of a member. -/
def State.reportOf (s : State) (m : Nat) : Option Report := if m = 0 then s.pair.rpt0 else s.pair.rpt1

/-- A report makes its member eligible (R375). -/
def reportEligible (r : Report) : Bool := r.mode == modeStandby && !r.major && !r.critical && !r.safe

/-- The referee takes what a member's slot held (R375). -/
def State.takeHealth (s : State) (m : Nat) (r : ReportIn) : State :=
  let put := fun (s : State) (x : Option Report) =>
    s.pairMap (fun p => if m = 0 then { p with rpt0 := x } else { p with rpt1 := x })
  let missed := if m = 0 then PAIR_REF_STATUS_MISSED0 else PAIR_REF_STATUS_MISSED1
  let miss := fun (s : State) => (put s none).load [(missed, Nat.min 2 (s.get missed + 1)), (eligField m, 0)]
  match r with
  | .missing => miss s
  | .invalid => (miss s).bump (if m = 0 then PAIR_REF_STAT_CRC_ERR0 else PAIR_REF_STAT_CRC_ERR1)
  | .report r => (put s (some r)).load [(missed, 0), (eligField m, b2n (reportEligible r)),
      (PAIR_REF_RPT_REPORT m, ofLe (reportBytes r))]

/-- A criterion of Table 14.5 holds against a member. -/
def State.criterion (s : State) (m : Nat) : Bool :=
  let fault := match s.reportOf m with
    | some r => r.major || r.critical || r.safe
    | none => false
  let missed := s.get (if m = 0 then PAIR_REF_STATUS_MISSED0 else PAIR_REF_STATUS_MISSED1) == 2
  let stopped := s.flag PAIR_REF_CFG_ALIVE_EN && (if m = 0 then s.pair.aliveStopped0 else s.pair.aliveStopped1)
  fault || missed || stopped

/-- The referee switches to a member (R375). The record names the criterion, both reports and SYNC, which 32 bytes do
not hold: its payload is a free value (notes/assumptions/4.md). -/
def State.switchTo (s : State) (m : Nat) : State :=
  let s := ((s.load [(PAIR_REF_STATUS_SEL, m), (PAIR_REF_STATUS_STATE, 1)]).bump PAIR_REF_STAT_SWITCHES).emit (.refSw m)
  let (x, s) := s.draw 256
  s.record 0x3C000 0x6001 (le 32 x)

/-- A criterion that begins to hold against the member not selected is recorded (R376). -/
def State.noteCriteria (s : State) : State :=
  let other := 1 - s.get PAIR_REF_STATUS_SEL
  let was := if other = 0 then s.pair.lost0 else s.pair.lost1
  let s := if s.criterion other && !was then s.record 0x3C000 0x6003 [] else s
  s.pairMap (fun p => { p with lost0 := s.criterion 0, lost1 := s.criterion 1 })

/-- The referee's decision (R375, R376). -/
def State.judge (s : State) : State :=
  if s.get PAIR_REF_STATUS_STATE = 0 then s
  else
    let m := s.get PAIR_REF_STATUS_SEL
    let s := s.noteCriteria
    if !s.criterion m then s.set PAIR_REF_STATUS_STATE 1
    else if s.flag (eligField (1 - m)) then s.switchTo (1 - m)
    else s.set PAIR_REF_STATUS_STATE 2

def execRefereeEvaluate (report0 report1 : ReportIn) (s : State) : Host.Outcome State Fault Refusal :=
  finish (if s.mode = modeReferee then ((s.takeHealth 0 report0).takeHealth 1 report1).judge else s)

/-- SYNC of this referee period (R371, R372, R377). -/
def State.sendSync (s : State) : State :=
  let adopt := s.get PAIR_REF_STATUS_STATE == 0
  let f : SyncFrame := ⟨s.get PAIR_REF_STATUS_SEL, adopt, s.get PAIR_REF_STATUS_STATE, s.flag PAIR_REF_STATUS_ELIG0,
    s.flag PAIR_REF_STATUS_ELIG1, s.pair.frame⟩
  (s.emit (.sync f)).pairMap (fun p => { p with
    frame := (p.frame + 1) % 65536, adoptLeft := if adopt then p.adoptLeft - 1 else p.adoptLeft })

def execRefereeSyncSend (s : State) : Host.Outcome State Fault Refusal :=
  finish (if s.mode = modeReferee then s.sendSync else s)

/-- GPIOm has shown no edge for 2.0 ms (R375). -/
def State.aliveStops (s : State) (m : Nat) : State :=
  let s := s.set (if m = 0 then PAIR_REF_STATUS_ALIVE0 else PAIR_REF_STATUS_ALIVE1) 0
  (s.pairMap (fun p => if m = 0 then { p with aliveStopped0 := true } else { p with aliveStopped1 := true })).judge

def execAliveWatchTimeout (member : Nat) (s : State) : Host.Outcome State Fault Refusal :=
  finish (if s.mode = modeReferee ∧ member < 2 then s.aliveStops member else s)

/-- The member that a starting referee adopts: the one that reports PERMISSION, else the lower eligible one, else
member 0 (R377). -/
def State.adopted (s : State) : Nat :=
  let holds := fun (m : Nat) => match s.reportOf m with | some r => r.permission | none => false
  if holds 0 then 0 else if holds 1 then 1
  else if s.flag PAIR_REF_STATUS_ELIG0 then 0 else if s.flag PAIR_REF_STATUS_ELIG1 then 1 else 0

/-- The referee has sent two frames with ADOPT = 1 (R377). -/
def execRefereeAdoptEnd (report0 report1 : ReportIn) (s : State) : Host.Outcome State Fault Refusal :=
  finish (if s.mode = modeReferee ∧ s.get PAIR_REF_STATUS_STATE = 0 ∧ s.pair.adoptLeft = 0 then
    let s := (s.takeHealth 0 report0).takeHealth 1 report1
    ((s.load [(PAIR_REF_STATUS_SEL, s.adopted), (PAIR_REF_STATUS_STATE, 1)]).emit (.refSw s.adopted)).record 0x3C000 0x6002 []
  else s)

/-- The member that SELECT names is eligible, SYNCED and not selected (R386). -/
def State.selectable (s : State) (m : Nat) : Bool :=
  s.flag (eligField m) && !(s.get PAIR_REF_STATUS_SEL == m)
    && (match s.reportOf m with | some r => r.sync == syncSynced | none => false)

def cmdSelect : CmdSpec :=
  { base := 0x3C000, code := 2, accepted := fun s => s.mode == modeReferee
    cond := fun s arg => if s.selectable (arg % 2) then .ok else .badArg
    run := fun arg s => s.switchTo (arg % 2) }

def execSelect (path : Path) (arg : Nat) (s : State) : Host.Outcome State Fault Refusal :=
  finish (s.command cmdSelect path arg)

/-! ### The standby (R381–R383) -/

def cmdResync : CmdSpec :=
  { base := 0x3C000, code := 1, accepted := fun s => s.mode == modeStandby, run := fun _ s => s.setSync syncResync }

def execResync (path : Path) (arg : Nat) (s : State) : Host.Outcome State Fault Refusal :=
  finish (s.command cmdResync path arg)

/-- The pair link is lost (R381). -/
def State.pairLinkLost (s : State) : State :=
  let s := ((s.set PAIR_STATUS_LINK 0).bump PAIR_STAT_LINK_LOSSES).assertLine 55
  if s.mode = modeStandby then s.pairOutOfStep else s

def execPairLinkDown (s : State) : Host.Outcome State Fault Refusal :=
  finish (if s.pairMember && s.flag PAIR_STATUS_LINK && !(s.mode == modeSleep) then s.pairLinkLost else s)

def execPairLinkUp (s : State) : Host.Outcome State Fault Refusal :=
  finish (if s.pairMember && !s.flag PAIR_STATUS_LINK && !(s.mode == modeSleep) then
    let s := (s.set PAIR_STATUS_LINK 1).dropLine 55
    if s.mode = modeStandby ∧ s.syncState = syncUnsynced then s.pairOutOfStep else s
  else s)

/-- A load that the pair link may carry: a flow context byte from `first` on, delays of downstream ports, window states,
the GPIO latches (Table 14.10). -/
def State.pairLoad (s : State) (first : Nat) (e : Field × Nat) : Bool :=
  let k := e.1.key
  (decide (8 * 0x4_0000 ≤ k ∧ k < 8 * 0x6_0000) && decide (8 * first ≤ k % 1024))
    || (linePorts.filter s.isDownstream).any (fun p => (delayFields p).contains e.1)
    || (List.range 32).any (fun w => (windowFields w).contains e.1)
    || e.1 == FLW_GPIO_OUT_OUT

/-- What follows from loaded contexts and delays: FLW_STATUS.ACTIVE, DEGRADED, delays held. -/
def State.afterLoads (s : State) : State :=
  let s := s.set FLW_STATUS_ACTIVE (s.enabledFlows.filter (fun f => flowCounts (s.flowStatus f))).length
  let s := s.cycMap (fun c => { c with degraded := s.areaDegraded })
  linePorts.foldl (fun s p => if s.isDownstream p
    then s.portMap p (fun l => { l with held := decide (0 < s.get (LN_DELAY_SAMPLES p)) }) else s) s

/-- The full transfer is complete: SYNCED (R381). -/
def State.takeTransfer (s : State) (t : PairTransfer) : State :=
  let s := s.load (t.loads.filter (s.pairLoad 0))
  let s := s.cycMap (fun c => { c with pub := t.publication })
  let s := s.inaMap (fun i => { i with uids := t.uids.foldl (fun u e => tabPut e.1 e.2 u) [] })
  s.afterLoads.setSync syncSynced

def execStateTransferDone (state : PairTransfer) (s : State) : Host.Outcome State Fault Refusal :=
  finish (if s.mode = modeStandby ∧ s.syncState = syncResync then s.takeTransfer state else s)

/-- The ports whose copies agree with the acting member's (R383). -/
def State.checksPassed (s : State) (crcs : List (Nat × Nat)) : Nat :=
  ((List.range 12).map (fun p => match tabFind p s.cyc.crcs, tabFind p crcs with
    | some a, some b => if a = b then 2 ^ p else 0
    | _, _ => 0)).sum

/-- A standby whose vehicle is head takes train time from the acting member and holds LOCKED (R383). -/
def State.takePairTime (s : State) (t : Int) : State :=
  ((s.timMap (fun m => { m with tt0 := t, u0 := s.uptimeFine, slew := 0, slewLen := 0 })).setTimState timLocked).showTime

/-- A per-cycle update (R381, R383). -/
def State.takeUpdate (s : State) (u : PairUpdate) : State :=
  let checks := s.checksPassed u.crcs
  let s := (s.load (u.loads.filter (s.pairLoad 0x40))).set FLW_GPIO_OUT_OUT u.gpio
  let s := match u.publication with
    | some b => s.cycMap (fun c => { c with pub := b })
    | none => s
  let s := s.inaMap (fun i => { i with uids := u.uids.foldl (fun t e => tabPut e.1 e.2 t) i.uids })
  let s := (s.pairMap (fun p => { p with rxChecks := checks })).cycMap (fun c => { c with crcs := [] })
  let s := match u.time with
    | some t => if s.isHead then s.takePairTime t else s
    | none => s
  s.afterLoads

def execPairUpdateReceive (update : Option PairUpdate) (s : State) : Host.Outcome State Fault Refusal :=
  finish (if !(s.mode == modeStandby) || decide (s.syncState < syncSynced) then s
    else match update with
      | some u => s.takeUpdate u
      | none => s.pairOutOfStep)

def execPairTestStepEnd (s : State) : Host.Outcome State Fault Refusal :=
  finish (if s.mode = modeStandby ∧ s.syncState = syncTesting then s.setSync syncSynced else s)

end Sys2Proof.Machine
end

