-- ==== Sys2Proof/Machine/StkOps.lean ====
section
/-! DEFINITION. The stack ring as other blocks use it: the master's beacon (R462). -/

namespace Sys2Proof.Machine

open Reg

/-- The state with the stack unit's hidden state changed. -/
def State.stkMap (s : State) (f : StkState → StkState) : State := { s with stk := f s.stk }

/-- The master's beacon (Table 19.2): CORR starts with what TIME_NS leaves of train time. -/
def State.beaconNow (s : State) (asleep : Bool) : Beacon :=
  { topo := s.topo, pos := s.position, orient := s.get INA_STATUS_ORIENT, kept := s.flag INA_STATUS_NUMBERING_KEPT
    grace := s.flag INA_STATUS_GRACE, role := s.get INA_STATUS_ROLE, n := s.trainLen, keptLen := s.keptLen
    epoch := s.stk.epochDue, timeValid := s.flag TIM_STATUS_TIME_VALID, sleep := asleep, tstate := s.timState
    count := s.stk.count, timeS := ttSec s.trainTime, timeNs := ttNs s.trainTime, corr := ttFrac s.trainTime
    masterUid := s.ownUid, present := 1, ready := b2n s.selfReady, crcOk := true }

/-- The master sends a beacon. -/
def State.sendBeacon (s : State) (asleep : Bool) : State :=
  (s.emit (.beacon (s.beaconNow asleep))).stkMap (fun k => { k with
    count := (k.count + 1) % 2 ^ 32, outstanding := true, epochDue := false, sentAt := s.uptime })

end Sys2Proof.Machine
end

