-- ==== Sys2Proof/Machine/Sleep.lean ====
section
/-! DEFINITION. Sleep and wake: frames of the sequence, the sleep instant, the resume area, wake sources, and the
false-wake watch (R388–R403). -/

namespace Sys2Proof.Machine

open Reg

/-! ### Frames (R393–R395, R398, R401) -/

/-- The frame of a message leaves the switch. -/
def State.takeSleep (s : State) (m : SleepMsg) : State :=
  s.msgMap (fun q => { q with inbox := q.inbox.eraseP (fun f => f.type == 7 && f.payload.take 12 == (sleepBytes m).take 12) })

/-- The message acts at this node: its TOPO is the node's own, and its VOTE_ID the vote's (R394). -/
def State.sleepActs (s : State) (m : SleepMsg) (kind : Nat) : Bool :=
  (s.inaRuns || s.stackMember) && m.kind == kind && m.topo == s.topo
    && (kind == 1 || kind == 2 || m.voteId == s.get SLP_STATUS_VOTE_ID)

/-- A row of the sequence: the frame is taken, and acts where it belongs. -/
def State.onSleep (s : State) (m : SleepMsg) (kind : Nat) (act : State → State) : State :=
  let s := s.takeSleep m
  if s.sleepActs m kind then act s else s

def execSleepReqReceive (msg : SleepMsg) (s : State) : Host.Outcome State Fault Refusal :=
  finish (s.onSleep msg 1 (fun s => if s.sleepHead && s.running then s.startVote else s))

/-- CALL: the vote is this one, and a voting node answers in its next window. -/
def State.takeCall (s : State) (m : SleepMsg) : State :=
  if s.sleepHead then s
  else
    let s := s.load [(SLP_STATUS_VOTE_ID, m.voteId), (SLP_STATUS_STATE, slpVoting)]
    if s.inaSends then s.sleepNext 3 1 else s

def execSleepCallReceive (msg : SleepMsg) (s : State) : Host.Outcome State Fault Refusal :=
  finish (s.onSleep msg 2 (fun s => s.takeCall msg))

def execSleepVoteReceive (msg : SleepMsg) (s : State) : Host.Outcome State Fault Refusal :=
  finish (s.onSleep msg 3 (fun s =>
    if s.sleepHead && s.slpState == slpVoting then s.noteVote msg.pos (msg.code == 1) else s))

/-- The first COMMIT arms the node; one that has confirmed its wake cancels a FALSE_WAKE (R395, R401). -/
def State.takeSleepCommit (s : State) (m : SleepMsg) : State :=
  if s.sleepHead || s.slpState == slpCommitted then s
  else if m.code = 1 ∧ s.flag SLP_STATUS_CONFIRMED ∧ !s.slp.fwRunning then s.sleepNext 5 3
  else
    (s.load [(SLP_STATUS_STATE, slpCommitted), (SLP_SLEEP_AT_CYCLE, m.sleepAt), (SLP_EVENT_COMMIT, 1)]).slpMap
      (fun p => { p with latched := 0, commitCode := m.code })

def execSleepCommitReceive (msg : SleepMsg) (s : State) : Host.Outcome State Fault Refusal :=
  finish (s.onSleep msg 4 (fun s => s.takeSleepCommit msg))

/-- CANCEL ends the vote or the commit: 1 VOTE_NO, 2 VOTE_MISSING, 3 LOCAL_WAKE. -/
def State.takeCancel (s : State) (code : Nat) : State :=
  if !(s.slpState == slpVoting || s.slpState == slpCommitted) then s
  else if code = 1 then s.voteFails 2
  else if code = 2 then s.voteFails 3
  else s.sleepCancelled

def execSleepCancelReceive (msg : SleepMsg) (s : State) : Host.Outcome State Fault Refusal :=
  finish (s.onSleep msg 5 (fun s => s.takeCancel msg.code))

def execSleepStayReceive (msg : SleepMsg) (s : State) : Host.Outcome State Fault Refusal :=
  finish (s.onSleep msg 6 (fun s => if s.slp.fwRunning then s.confirmWake else s))

/-! ### The resume area (R49, R108, R161, R272, R296, R457) -/

/-- Part of a flow context that the resume area holds: configuration and REPLAY. -/
def contextSaved (off : Nat) : Bool := decide (off < 0x40) || decide (0x50 ≤ off ∧ off < 0x68)

/-- Channels retired: retirement lasts until the next full BOOT (R267). -/
def retiredFields : List Field := [FLW_RETIRED_GPIO, FLW_RETIRED_STACK, FLW_RETIRED_CAN, FLW_RETIRED_CONSIST, FLW_RETIRED_LINE]

/-- A register field that entry into SLEEP saves. -/
def resumeKept (k : Nat) : Bool :=
  let a := k / 8
  if isScheduleKey k || k == CLK_CFG_VBAT_EN.key || retiredFields.any (fun f => f.key == k) then true
  else if a < 0x1000 then k == GLB_LOCK_LOCK.key || k == GLB_MODE_ROLE.key || k == GLB_LC_DATA_UID.key
  else if a < 0x2000 ∨ (0x3000 ≤ a ∧ a < 0x4000) then false
  else if a < 0x3000 then isConfigKey k && k != FLT_FORCE_FORCE.key
  else if a < 0x5000 then decide (0x400C ≤ a ∧ a < 0x4014)
  else if 0xA000 ≤ a ∧ a < 0xB000 then true
  else if 0xD100 ≤ a ∧ a < 0xD140 then true
  else if 0x30400 ≤ a ∧ a < 0x30C00 ∧ 0x18 ≤ (a - 0x30400) % 0x40 ∧ (a - 0x30400) % 0x40 < 0x1C then true
  else if 0x38000 ≤ a ∧ a < 0x3C000 then false
  else if 0x3F000 ≤ a ∧ a < 0x40000 then false
  else if 0x40000 ≤ a ∧ a < 0x60000 then contextSaved (a % 128)
  else if 0x60000 ≤ a then false
  else isConfigKey k

/-- The resume area for a mode left at a cycle. -/
def State.resumeArea (s : State) (cycle : Nat) : Resume :=
  { mode := s.mode, regs := s.regs.filter (fun e => resumeKept e.1), time := s.trainTime
    timeValid := s.get TIM_STATUS_TIME_VALID, elapsed := s.elapsed, ina := s.ina, map := s.cyc.map, held := s.cyc.held
    cycle := cycle }

/-! ### Entry (R396, R401) -/

/-- Every channel that is not retired is STOPPED. -/
def State.stopCan (s : State) : State :=
  canChannels.foldl (fun s n => if s.canState n = canRetired then s
    else (s.canStopEntries n).set (CAN_STATUS_STATE n) canStopped) s

/-- The sleep instant: a stack master tells its members (R470), functions stop, SLEEP_ENTER is written, the PCIe link goes
down (R37), the resume area is saved; the mode is SLEEP (R396). -/
def State.enterSleep (s : State) (cause cycle : Nat) : State :=
  let s := if s.stackRuns && !s.stackMember then s.sendBeacon true else s
  let s := s.stopCan.record 0x3F000 0x6006 []
  let s := if s.flag HRG_STATUS_LINK_UP then s.linkReset else s
  let s := { s with resume := some (s.resumeArea cycle) }
  let s := s.flwMap (fun w => { w with gpioBoot := s.gpioSafe })
  let s := (s.releaseInterlock.bump SLP_STAT_SLEEPS).set SLP_STATUS_RESULT 1
  let s := if cause = 8 then (s.bump SLP_STAT_FALSE_WAKES).set SLP_EVENT_FALSE_WAKE 1 else s
  let s := s.slpMap (fun p => { p with entered := false, fwRunning := false, fwExpired := false, sendNext := [] })
  s.setModeSleep cause

/-- The modes that a sleep commit takes to SLEEP (Table 2.2). -/
def State.maySleep (s : State) : Bool := s.inModes [modeNative, modeBorder, modeStandby]

def execSleepInstant (s : State) : Host.Outcome State Fault Refusal :=
  finish (if s.maySleep && !s.stackMember && s.slpState == slpCommitted then
    s.enterSleep (if s.slp.commitCode = 1 then 8 else 7) (s.get SLP_SLEEP_AT_CYCLE)
  else s)

/-- Wake sources that have woken the node show in SLP_WAKE_SRC. -/
def State.showWakeSrc (s : State) : State :=
  let m := s.slp.latched
  s.load [(SLP_WAKE_SRC_LINE, Nat.lor (s.get SLP_WAKE_SRC_LINE) (bits m wakeLineBit 4)),
    (SLP_WAKE_SRC_CAN, Nat.lor (s.get SLP_WAKE_SRC_CAN) (bits m wakeCanBit 12)),
    (SLP_WAKE_SRC_WAKE, Nat.lor (s.get SLP_WAKE_SRC_WAKE) (bits m wakePinBit 4)),
    (SLP_WAKE_SRC_TIMER, Nat.lor (s.get SLP_WAKE_SRC_TIMER) (bit m wakeTimerBit)),
    (SLP_WAKE_SRC_TAMPER, Nat.lor (s.get SLP_WAKE_SRC_TAMPER) (bit m wakeTamperBit))]

/-- A latched wake source starts the wake boot once entry is complete (R396, R398). -/
def State.wakeIfLatched (s : State) : State :=
  if s.mode = modeSleep ∧ s.slp.entered ∧ s.slp.latched ≠ 0 then s.showWakeSrc.startBoot .wake 6 none else s

/-- Entry is complete: what the recorder still holds is written, and core power is removed. -/
def execSleepEntryDone (s : State) : Host.Outcome State Fault Refusal :=
  finish (if s.mode = modeSleep ∧ !s.slp.entered then
    ((State.drainLog 256 s).slpMap (fun p => { p with entered := true })).wakeIfLatched
  else s)

/-! ### Wake sources (R397) -/

/-- A wake event of a source. -/
def State.wake (s : State) (src : Nat) : State := (s.noteWake src).wakeIfLatched

def execWakeLineActivity (port : Nat) (s : State) : Host.Outcome State Fault Refusal :=
  finish (if port < 4 ∧ s.portArmed port then s.wake (wakeLineBit + port) else s)

def execWakeCanPattern (channel : Nat) (s : State) : Host.Outcome State Fault Refusal :=
  finish (if channel < 12 ∧ s.bitAt SLP_CFG_CAN_EN channel then s.wake (wakeCanBit + channel) else s)

/-- A WAKE input has held its active level for DEB ticks, or has left it. A level-triggered input stays live (R397). -/
def State.wakePin (s : State) (i : Nat) (active : Bool) : State :=
  if !active then s.clearBit SLP_WAKE_LIVE_WAKE i
  else if !s.bitAt SLP_CFG_WAKE_EN i then s
  else (if s.bitAt SLP_WAKE_CFG_EDGE i then s else s.setBit SLP_WAKE_LIVE_WAKE i).wake (wakePinBit + i)

def execWakePin (pin : Nat) (active : Bool) (s : State) : Host.Outcome State Fault Refusal :=
  finish (if pin < 4 then s.wakePin pin active else s)

def execWakeTimer (s : State) : Host.Outcome State Fault Refusal :=
  finish (if s.mode = modeSleep ∧ s.flag SLP_CFG_TIMER_EN then s.wake wakeTimerBit else s)

/-! ### The false-wake watch (R400, R401) -/

/-- FW_TMO without confirmation: the head commits the train to SLEEP; elsewhere nothing starts. -/
def execFalseWakeTimeout (s : State) : Host.Outcome State Fault Refusal :=
  finish (if s.slp.fwRunning && !s.slp.fwExpired then
    s.slpMap (fun p => { p with
      fwExpired := true, commitDue := if s.sleepHead && s.running then some 1 else p.commitDue })
  else s)

/-- 2 × FW_TMO without COMMIT or confirmation: a node other than the head enters SLEEP alone. -/
def execFalseWakeFallback (s : State) : Host.Outcome State Fault Refusal :=
  finish (if s.slp.fwRunning && s.slp.fwExpired && !s.sleepHead && s.maySleep
      && !(s.slpState == slpCommitted) then s.enterSleep 8 (s.get CYC_CYCLE_CYCLE)
  else s)

/-- The wake bound has passed: an end that is still not linked is a trigger again (R400). -/
def State.releaseHold (s : State) (e : Nat) : State :=
  let quiet := if e = 1 then s.slp.holdEnd1 else s.slp.holdEnd2
  let s := s.endHeard e
  if quiet && !s.endUp e then s.endHoldOver e else s

def execWakeLinkHoldEnd (s : State) : Host.Outcome State Fault Refusal := finish ((s.releaseHold 1).releaseHold 2)

end Sys2Proof.Machine
end

