-- ==== Sys2Proof/Machine/Keys.lean ====
section
/-! DEFINITION. Key vault and tamper: WRITE, ERASE, SWITCH, TAMPER_CLEAR, zeroize and tamper alarms (R441–R457). -/

namespace Sys2Proof.Machine

open Reg

/-- The state with the vault's hidden state changed. -/
def State.keyMap (s : State) (f : KeyState → KeyState) : State := { s with key := f s.key }

/-- KEY_STATUS and the slot registers show the vault (R447). -/
def State.showVault (s : State) : State :=
  let st := (List.range 64).map s.slotState
  s.showSlots.load [(KEY_STATUS_CORRUPT, b2n (st.contains slotCorrupt)), (KEY_STATUS_INTERRUPTED, b2n (st.contains slotInterrupted))]

/-! ### WRITE and ERASE (R445, R446) -/

/-- Flows whose FLOW pair is in use (R446). -/
def State.authFlows (s : State) : List Nat := s.enabledFlows.filter (fun f => !(s.get (FCTX_AUTH f) == 0))

/-- A slot is protected (R446). -/
def State.slotProtected (s : State) (slot : Nat) : Bool :=
  slot == s.frameSlot (s.get KEY_EPOCH_FRAME_ACTIVE)
    || s.authFlows.any (fun f => flowSlot (s.get (FCTX_KEY_SLOT f)) s.flowEpoch == slot)

/-- Purposes that GLB_LOCK holds. -/
def lockedPurpose (p : Nat) : Bool := p == purposeDebug || p == purposeLifecycle || p == purposeRecorder

/-- The bank that a write takes: the one not in use. -/
def State.writeBank (s : State) (slot : Nat) : Nat :=
  match s.bankInUse slot with
  | some b => 1 - b
  | none => 0

/-- GEN of the key that a write stores. -/
def State.nextGen (s : State) (slot : Nat) : Nat :=
  match s.bankInUse slot with
  | some b => ((s.keyBank slot b).gen + 1) % 2 ^ 32
  | none => 1

/-- A commit record with its CRC. -/
def sealBank (k : KeyBank) : KeyBank := { k with crc := crc32 (bankRecord k) }

/-- Step 1 of a write: the commit record is PENDING. -/
def State.startKeyWrite (s : State) (slot : Nat) : State :=
  let key := s.get KEY_DATA_KEY
  let purpose := s.get KEY_WRITE_CFG_PURPOSE
  let b := s.writeBank slot
  let k : KeyBank := { s.keyBank slot b with gen := s.nextGen slot, purpose := purpose, state := bankPending, kcv := kcvOf key }
  (s.setBank slot b (sealBank k)).keyMap (fun v => { v with op := some (slot, some purpose, key, b) })

/-- Modes that accept WRITE and ERASE (Table 18.3). -/
def State.vaultModes (s : State) : Bool :=
  s.inBoot subHostWait || s.inBoot subTest || s.inModes [modeNative, modeBorder, modeStandby, modeSafe]

def cmdKeyWrite : CmdSpec :=
  { base := 0x4000, code := 1
    argOk := fun s _ => decide (1 ≤ s.get KEY_WRITE_CFG_PURPOSE ∧ s.get KEY_WRITE_CFG_PURPOSE ≤ 6)
    busy := fun s => s.key.op.isSome
    accepted := State.vaultModes
    cond := fun s arg =>
      let slot := arg % 64
      if s.slotProtected slot then .badArg
      else if s.flag GLB_LOCK_LOCK && (lockedPurpose (s.slotPurpose slot) || lockedPurpose (s.get KEY_WRITE_CFG_PURPOSE)) then .badArg
      else .ok
    pends := true
    run := fun arg s => s.startKeyWrite (arg % 64) }

def execKeyWrite (path : Path) (arg : Nat) (s : State) : Host.Outcome State Fault Refusal :=
  finish (s.command cmdKeyWrite path arg)

/-- Steps 2 and 3 of a write are done: the key takes effect. -/
def State.endKeyWrite (s : State) (slot key b : Nat) : State :=
  let k := s.keyBank slot b
  let done := sealBank { k with state := bankCommitted, data := Nat.xor key (s.storageKey slot b k.gen) }
  let s := (s.setBank slot b done).keyMap (fun v => { v with op := none })
  ((s.showVault.set KEY_DATA_KEY 0).bump KEY_STAT_WRITES).endCmd 0x4000 1 .ok

def execKeyWriteDone (s : State) : Host.Outcome State Fault Refusal :=
  finish (match s.key.op with
    | some (slot, some _, key, b) => s.endKeyWrite slot key b
    | _ => s)

def cmdKeyErase : CmdSpec :=
  { base := 0x4000, code := 2
    busy := fun s => s.key.op.isSome
    accepted := State.vaultModes
    cond := fun s arg =>
      if s.slotProtected (arg % 64) || (s.flag GLB_LOCK_LOCK && lockedPurpose (s.slotPurpose (arg % 64))) then .badArg else .ok
    pends := true
    run := fun arg s => s.keyMap (fun v => { v with op := some (arg % 64, none, 0, 0) }) }

def execKeyErase (path : Path) (arg : Nat) (s : State) : Host.Outcome State Fault Refusal :=
  finish (s.command cmdKeyErase path arg)

/-- Both banks of a slot are zero. -/
def State.endKeyErase (s : State) (slot : Nat) : State :=
  let s := ((s.setBank slot 0 zeroBank).setBank slot 1 zeroBank).keyMap (fun v => { v with op := none })
  (s.showVault.bump KEY_STAT_WRITES).endCmd 0x4000 2 .ok

def execKeyEraseDone (s : State) : Host.Outcome State Fault Refusal :=
  finish (match s.key.op with
    | some (slot, none, _, _) => s.endKeyErase slot
    | _ => s)

/-! ### SWITCH (R449, R450) -/

/-- The new epoch can be used. -/
def State.switchUsable (s : State) (flow : Bool) : Bool :=
  if flow then s.authFlows.all (fun f => s.slotUsable (flowSlot (s.get (FCTX_KEY_SLOT f)) (1 - s.flowEpoch)) purposeFlow)
  else s.isHead && s.slotUsable (s.frameSlot (1 - s.get KEY_EPOCH_FRAME_ACTIVE)) purposeFrame

def cmdKeySwitch : CmdSpec :=
  { base := 0x4000, code := 3
    accepted := State.running
    cond := fun s arg => if s.switchUsable (hasBit arg 0) then .ok else .badArg
    run := fun arg s => s.keyMap (fun v => if hasBit arg 0 then { v with switchFlow := true } else { v with switchFrame := true }) }

def execKeySwitch (path : Path) (arg : Nat) (s : State) : Host.Outcome State Fault Refusal :=
  finish (s.command cmdKeySwitch path arg)

/-! ### Zeroize and tamper (R452–R455) -/

/-- Every key, commit record and KEY_DATA is zero (R453). -/
def State.zeroize (s : State) : State :=
  let s := { s with mram := { s.mram with banks := [] } }
  (s.showVault.load [(KEY_DATA_KEY, 0), (KEY_STATUS_ZEROIZED, 1)]).bump KEY_STAT_ZEROIZES

/-- A WRITE or ERASE in progress ends with a status. -/
def State.abortVault (s : State) (st : Status) : State :=
  match s.key.op with
  | none => s
  | some (_, p, _, _) =>
    (s.keyMap (fun v => { v with op := none })).endCmd 0x4000 (if p.isSome then 1 else 2) st

/-- The core has no power: VIN is absent or the input switch open, with the regulators stopped. -/
def State.coreDark (s : State) : Bool := !s.pwr.regulators

/-- Payload of a TAMPER record (Table 17.5). -/
def tamperPayload (sources mode flags : Nat) : Bytes := le 1 sources ++ le 1 mode ++ le 1 flags

/-- The sources of an alarm that are enabled: TAMPERn by KEY_TAMPER_CFG, the others always (R452). -/
def State.tamperEnabled (s : State) (sources : Nat) : Nat :=
  let pin := fun (i : Nat) => s.flag (KEY_TAMPER_CFG_EN i) ||
    (i % 2 == 1 && s.flag (KEY_TAMPER_CFG_EN (i - 1)) && s.flag (KEY_TAMPER_CFG_MESH (i - 1)))
  Nat.land sources (0x70 + ([0, 1, 2, 3].map (fun i => if pin i then 2 ^ i else 0)).sum)

/-- The sources live now show in KEY_TAMPER_STATUS and SLP_WAKE_LIVE. -/
def State.showTamperLive (s : State) (live : Nat) : State :=
  (s.keyMap (fun v => { v with live := live })).load [(KEY_TAMPER_STATUS_LIVE, live), (SLP_WAKE_LIVE_TAMPER, b2n (live != 0))]

/-- Zeroize, TAMPERED and the sources, in every mode (R453). -/
def State.tamperLatch (s : State) (sources : Nat) : State :=
  let vbat := s.coreDark
  let s := (s.abortVault .tampered).zeroize
  let s := s.showTamperLive (Nat.lor s.key.live sources)
  let s := (s.keyMap (fun v => { v with tamperedAon := true })).set KEY_TAMPER_STATUS_LATCHED (sources + 128 * b2n vbat)
  if vbat || (s.mode == modeSleep && s.slp.entered) then s else { s with mram := { s.mram with tampered := true } }

/-- The outcome of an alarm (R454, Table 18.5). -/
def State.tamperOutcome (s : State) : State :=
  let latched := s.get KEY_TAMPER_STATUS_LATCHED
  if s.coreDark then s.keyMap (fun v => { v with deferred := some (latched, 0xFF) })
  else if s.mode = modeSleep then
    (s.keyMap (fun v => { v with deferred := some (latched, modeSleep) })).wake wakeTamperBit
  else
    let was := s.mode
    let s := s.abortTransitions .tampered
    let s := s.record 0x4000 0x0004 (tamperPayload latched was 0)
    if s.glb.held || s.lc == lcScrapped then s
    else if was = modeBoot then (s.countSafe).bootToSafe 5 5
    else if was = modeSafe then s.enterSafeMode 5
    else (s.countSafe).enterSafeMode 5

/-- A tamper alarm, while the always-on domain runs. -/
def State.tamperAlarm (s : State) (sources : Nat) : State :=
  let on := s.tamperEnabled sources
  if on = 0 ∨ !s.pwr.aon then s
  else
    let s := s.tamperLatch on
    let s := s.tamperOutcome
    s.assertLine 8

def execTamperAlarm (sources : Nat) (s : State) : Host.Outcome State Fault Refusal := finish (s.tamperAlarm sources)

/-- Line 8 drops: no tamper source is live any longer (R453, R455). -/
def State.tamperOver (s : State) : State := s.showTamperLive 0

/-- TAMPER_CLEAR (R455). -/
def cmdTamperClear : CmdSpec :=
  { base := 0x4000, code := 4
    accepted := fun s => s.mode == modeSafe
    cond := fun s _ => if s.key.live = 0 then .ok else .badArg
    run := fun _ s =>
      let s := { s with key := { s.key with tamperedAon := false }, mram := { s.mram with tampered := false } }
      s.record 0x4000 0x0004 (tamperPayload (s.get KEY_TAMPER_STATUS_LATCHED) s.mode 1) }

def execTamperClear (path : Path) (arg : Nat) (s : State) : Host.Outcome State Fault Refusal :=
  finish (s.command cmdTamperClear path arg)

end Sys2Proof.Machine
end

