-- ==== Sys2Proof/Machine/Faults.lean ====
section
/-! DEFINITION. The fault collector's own events: lines, timers, forces, ALIVE and the latent-fault tests (R404–R422). -/

namespace Sys2Proof.Machine

open Reg

/-- CLK_STATUS follows the lines of clocks and supplies; a loss of the 32.768 kHz clock is noted (Table 16.3, R484). -/
def State.showClocks (s : State) : State :=
  let on := hasBit s.flt.lines
  let s := if on 60 && s.flag CLK_STATUS_X32_OK then s.set CLK_EVENT_X32_LOSS 1 else s
  s.load [(CLK_STATUS_PLL_LOCK, b2n !(on 3)), (CLK_STATUS_XTAL_OK, b2n !(on 4)), (CLK_STATUS_PGOOD, b2n !(on 6 || on 17)),
    (CLK_STATUS_X32_OK, b2n !(on 60)), (CLK_STATUS_OV, s.get CLK_STATUS_OV * b2n (on 18))]

/-- The lines of a mask are asserted, of sources whose blocks have no step of their own (Table 16.3). -/
def State.latchLines (s : State) (mask : Nat) : State :=
  let mask := mask % 2 ^ 64
  let new := andNot mask s.flt.lines
  (({ s with flt := { s.flt with lines := Nat.lor s.flt.lines mask } }).raiseLines new).showClocks

def execFaultLatch (lines : Nat) (s : State) : Host.Outcome State Fault Refusal := finish (s.latchLines lines)

def execFaultLineDeassert (source : Nat) (s : State) : Host.Outcome State Fault Refusal :=
  finish (if source = 8 then s.tamperOver.dropLine 8 else if source < 64 then (s.dropLine source).showClocks else s)

/-- A running reaction timer expires: FLT_TIMER_RUN falls, and the node escalates (R409, R410). -/
def State.timerExpires (s : State) (n : Nat) : State :=
  if !s.collectorRuns || !(s.flt.timers.any (fun e => e.1 == n)) then s
  else
    let s := { s with flt := { s.flt with timers := s.flt.timers.filter (fun e => !(e.1 == n)) } }
    (s.clearBit FLT_TIMER_RUN_RUN n).askEscalate n 1 1

def execReactionTimerExpiry (source : Nat) (s : State) : Host.Outcome State Fault Refusal := finish (s.timerExpires source)

def execFltForceWrite (req : Requester) (value : Nat) (s : State) : Host.Outcome State Fault Refusal :=
  finish (s.writeStep req 0x2010 8 value)

def execFltRawClear (req : Requester) (mask : Nat) (s : State) : Host.Outcome State Fault Refusal :=
  finish (s.writeStep req 0x2008 8 mask)

/-- A half period of ALIVE is over: an edge after a heartbeat, line 16 without one (R416). -/
def State.halfPeriod (s : State) : State :=
  if !s.inModes [modeGtn, modeNative, modeBorder, modeStandby, modeReferee] then s
  else
    let beat := s.flt.heartbeat
    let s := { s with flt := { s.flt with heartbeat := false } }
    if beat then ({ s with pins := { s.pins with alive := !s.pins.alive } }).dropLine 16 else s.assertLine 16

def execAliveHalfPeriod (s : State) : Host.Outcome State Fault Refusal := finish s.halfPeriod

/-- The result field of a checker (Table 16.4, in the order of FLT_LATENT). -/
def latentField (c : Nat) : Field :=
  match c with
  | 0 => FLT_LATENT_LOCKSTEP
  | 1 => FLT_LATENT_ECC
  | 2 => FLT_LATENT_CLOCK
  | 3 => FLT_LATENT_SUPPLY
  | _ => FLT_LATENT_COLLECTOR

/-- A latent-fault test of one checker; the last of the five completes a pass (R382, R420). -/
def State.latentTest (s : State) (c : Nat) (pass : Bool) : State :=
  let s := if c = 0 then s.testStep else s
  let s := s.setB (latentField c) pass
  let s := if c = 4 then s.set FLT_LATENT_PASSES (s.get FLT_LATENT_PASSES + 1) else s
  if pass then s else ((s.bump FLT_STAT_LATENT_FAILS).set FLT_EVENT_LATENT_FAIL 1).pulse 14

def execLatentTest (checker : Nat) (pass : Bool) (s : State) : Host.Outcome State Fault Refusal :=
  finish (if checker < 5 ∧ s.engineAlive then s.latentTest checker pass else s)

end Sys2Proof.Machine
end

