-- ==== Sys2Proof/Machine/Power.lean ====
section
/-! DEFINITION. Supplies, brown-out, hold of reset, and the thermal governor (R473–R484, R493, R494). -/

namespace Sys2Proof.Machine

open Reg

/-- The state with the supplies' hidden state changed. -/
def State.pwrMap (s : State) (f : PwrState → PwrState) : State := { s with pwr := f s.pwr }

/-- The core has power: the regulators run, and the node does not sleep. -/
def State.corePowered (s : State) : Bool := s.pwr.regulators && !(s.mode == modeSleep && s.slp.entered)

/-! ### Inputs (R473, R474, R476, R477) -/

/-- CLK_VIN.VIN shows a voltage. -/
def State.showVin (s : State) (mv : Nat) : State := s.set CLK_VIN_VIN (Nat.min 32767 mv)

/-- VIN above 6.0 V for 2 µs. -/
def State.overvoltage (s : State) (mv : Nat) : State :=
  let s := ((s.showVin mv).load [(CLK_STATUS_OV, 1), (CLK_EVENT_OV, 1)]).bump CLK_STAT_OV_EVENTS
  s.assertLine 18

def execVinOvervoltage (millivolts : Nat) (s : State) : Host.Outcome State Fault Refusal :=
  finish (if s.pwr.regulators ∧ 6000 < millivolts then s.overvoltage millivolts else s)

def execVinSwitchOpen (millivolts : Nat) (s : State) : Host.Outcome State Fault Refusal :=
  finish ((s.showVin millivolts).pwrMap (fun p => { p with switchOpen := true }))

def execVinSwitchClose (millivolts : Nat) (s : State) : Host.Outcome State Fault Refusal :=
  finish (if s.pwr.switchOpen then (s.showVin millivolts).pwrMap (fun p => { p with switchOpen := false }) else s)

def execRegulatorLimit (regulator : Nat) (s : State) : Host.Outcome State Fault Refusal :=
  finish (if regulator < 4 ∧ s.pwr.regulators then
    ((s.setBit CLK_REG_FAULT_REG regulator).set CLK_EVENT_REG_FAULT 1).assertLine 19
  else s)

/-- VBAT below 2.0 V for 1 ms; without VBAT_EN no source is raised. -/
def State.vbatFalls (s : State) (mv : Nat) : State :=
  let s := s.load [(CLK_VIN_VBAT, mv), (CLK_STATUS_VBAT_OK, 0)]
  if s.flag CLK_CFG_VBAT_EN then (s.set CLK_EVENT_VBAT_LOW 1).assertLine 61 else s

def execVbatLow (millivolts : Nat) (s : State) : Host.Outcome State Fault Refusal :=
  finish (if s.pwr.regulators ∧ millivolts < 2000 then s.vbatFalls millivolts else s)

def execVbatSwitchover (s : State) : Host.Outcome State Fault Refusal :=
  finish (s.pwrMap (fun p => { p with onVbat := true }))

/-! ### Hold of reset (R478, R479, R484) -/

/-- A store in progress leaves the bank under write invalid (R48). -/
def State.cutStore (s : State) : State :=
  if s.glb.running.any (fun r => r.1 == 0 && r.2.1 == 0x06) then s.setImageBank s.storeBank none else s

/-- Every command in progress ends, and what it was doing is abandoned; the next BOOT completes it (R438, R447, R48). -/
def State.abandonAll (s : State) : State :=
  let s := s.cutStore
  let s := s.glb.running.foldl (fun s r => s.endCmd r.1 r.2.1 .fault) s
  { s with key := { s.key with op := none, program := none }, rcd := { s.rcd with clearing := none } }.set REC_STATUS_CLEARING 0

/-- Reset is held: the mode is BOOT, drivers are off, functions stop, the PCIe link is down. -/
def State.holdReset (s : State) (cause : Nat) : State :=
  let s := if s.corePowered then s.setMode modeBoot cause else s.putMode modeBoot cause
  let s := { s with glb := { s.glb with held := true, bootStep := 0 } }
  (if s.flag HRG_STATUS_LINK_UP then s.linkReset else s).releaseInterlock.abandonAll

/-- The queue and the LOST record of what was refused are written (Table 20.2). -/
def State.drainAll (s : State) : State :=
  let s := State.drainLog 80 s
  if s.flag REC_STATUS_READY then State.drainLog 2 s.pushLost.recTake else s

/-- Payload of a BROWN_OUT record (Table 17.5). -/
def State.brownPayload (s : State) : Bytes :=
  le 1 s.mode ++ zeros 1 ++ le 2 (s.get CLK_VIN_VIN) ++ le 1 (s.get REC_STATUS_QUEUE)

/-- Brown-out (Table 20.2): its event is the last that the queue takes, the queue is written, and MRAM is protected. -/
def State.brownsOut (s : State) : State :=
  let s := s.bump CLK_STAT_BROWN_OUTS
  let s := if s.corePowered then s.record 0x1000 0x0006 s.brownPayload else s
  let s := { s with rcd := { s.rcd with onlyBrownOut := true } }
  let s := (s.holdReset 11).drainAll
  let s := s.pwrMap (fun p => { p with brownOut := true, windowMasked := true })
  { s with glb := { s.glb with afterBrownOut := true }, mram := { s.mram with wp := true } }

def execBrownOut (s : State) : Host.Outcome State Fault Refusal :=
  finish (if s.pwr.regulators && !s.pwr.brownOut then s.brownsOut else s)

def execBrownOutRecovery (s : State) : Host.Outcome State Fault Refusal :=
  finish (if s.pwr.regulators then s.pwrMap (fun p => { p with brownOut := false }) else s)

/-- VHOLD falls below 2.20 V: the regulators stop. -/
def execUvlo (s : State) : Host.Outcome State Fault Refusal :=
  finish (({ s with glb := { s.glb with held := true } }).pwrMap (fun p => { p with regulators := false, brownOut := false }))

/-- RESET_N low for 1 µs (R484). -/
def execResetNAssert (s : State) : Host.Outcome State Fault Refusal :=
  finish (if s.pwr.regulators then (s.holdReset 1).drainAll else s)

/-- Fields that the always-on domain alone holds. -/
def State.loseAlwaysOn (s : State) : State := keptAlways.foldl (fun s f => s.set f f.reset) s

/-- VIN and VBAT are both lost: what the always-on domain held is gone (R403, R453, R457, R494). -/
def State.alwaysOnLost (s : State) : State :=
  let s := { s.loseAlwaysOn with
    key := { s.key with tamperedAon := false, deferred := none, live := 0 }
    slp := { s.slp with latched := 0 }
    glb := { s.glb with held := true, afterBrownOut := false } }
  s.pwrMap (fun p => { p with aon := false, regulators := false, brownOut := false, onVbat := false })

def execAlwaysOnPowerLoss (s : State) : Host.Outcome State Fault Refusal := finish s.alwaysOnLost

/-- VHOLD rises through 2.70 V: the power-up sequence (Table 20.4). The node stays held until its end. -/
def State.powersUp (s : State) : State :=
  let s := if s.pwr.aon then s else { s with slp := { s.slp with aonFrom := s.elapsed } }
  let s := s.pwrMap (fun p => { p with
    regulators := true, aon := true, brownOut := false, windowMasked := false, onVbat := false, switchOpen := false })
  ({ s with glb := { s.glb with held := true } }).load [(GLB_MODE_MODE, modeBoot), (GLB_MODE_LAST_CAUSE, 0)]

def execPowerOn (s : State) : Host.Outcome State Fault Refusal := finish (if s.pwr.regulators then s else s.powersUp)

/-! ### Thermal governor (R493, Table 20.12). Temperatures in 0.125 °C. -/

/-- A threshold with its hysteresis: on from `on`, off below `off`. -/
def hysteresis (was : Bool) (on off t : Int) : Bool := decide (on ≤ t) || (was && decide (off ≤ t))

/-- The two readings, the peak, and their difference. -/
def State.showTemps (s : State) (t0 t1 : Int) : State :=
  let t := max t0 t1
  let s := s.load [(CLK_TEMP_T0, satInt 16 t0), (CLK_TEMP_T1, satInt 16 t1)]
  let s := if signed 16 (s.get CLK_TEMP_PEAK_PEAK) < t then s.set CLK_TEMP_PEAK_PEAK (satInt 16 t) else s
  let diff := decide (40 < absInt (t0 - t1))
  let s := if diff && !hasBit s.flt.lines 20 then s.set CLK_EVENT_SENSOR_DIFF 1 else s
  s.line 20 diff

/-- Shedding starts and ends; its time counts from the end of BOOT (R270, R494). -/
def State.governShedding (s : State) (shed : Bool) : State :=
  let was := s.flag FLW_STATUS_SHEDDING
  let s := if shed && !was then (s.shedFlows.bump CLK_STAT_SHEDS).set CLK_EVENT_SHED_START 1
    else if was && !shed then s.unshedFlows.set CLK_EVENT_SHED_END 1 else s
  let n := if shed && !(s.mode == modeBoot) then s.pwr.shedTicks + 1 else s.pwr.shedTicks
  (s.pwrMap (fun p => { p with shedTicks := n })).set CLK_SHED_TIME_MS (satNat 32 (n / 10))

/-- The governor acts on the higher reading. SHUTDOWN stands until the next BOOT. -/
def State.govern (s : State) (t : Int) : State :=
  let warn := hysteresis (hasBit s.flt.lines 58) 960 936 t
  let shed := hysteresis (hasBit s.flt.lines 59) 976 944 t
  let down := decide (1080 ≤ t)
  let s := if warn && !hasBit s.flt.lines 58 then s.set CLK_EVENT_WARN 1 else s
  let s := s.governShedding shed
  let gov := if down ∨ s.get CLK_STATUS_GOV = 3 then 3 else if shed then 2 else b2n warn
  (((s.set CLK_STATUS_GOV gov).line 58 warn).line 59 shed).line 7 down

def execThermalMeasure (t0 t1 : Int) (s : State) : Host.Outcome State Fault Refusal :=
  finish (if s.corePowered && !s.glb.held then (s.showTemps t0 t1).govern (max t0 t1) else s)

end Sys2Proof.Machine
end

