-- ==== Sys2Proof/Machine/Stack.lean ====
section
/-! DEFINITION. The stack ring: beacons, membership, what members take from the master, frames, lanes and the bypass
(R458–R472). -/

namespace Sys2Proof.Machine

open Reg

/-- States of the ring at a node (STK_STATUS.STATE). -/
abbrev stkJoining : Nat := 1
abbrev stkActive : Nat := 2
abbrev stkBroken : Nat := 3
abbrev stkOrphan : Nat := 4

/-- The state of the ring. -/
def State.ringState (s : State) : Nat := s.get STK_STATUS_STATE

/-! ### The master (R462, R466) -/

/-- The master runs the ring. -/
def State.ringMaster (s : State) : Bool := s.stackRuns && !s.stackMember

/-- A beacon is missing; the third in a row breaks the ring (R466). -/
def State.beaconMissing (s : State) : State :=
  let n := Nat.min 3 (s.stk.missing + 1)
  let s := (s.bump STK_STAT_BEACON_MISS).stkMap (fun k => { k with missing := n })
  if n = 3 ∧ s.ringState ≠ stkBroken then (s.load [(STK_STATUS_STATE, stkBroken), (STK_EVENT_RING_BROKEN, 1)]).assertLine 56 else s

def execBeaconSend (s : State) : Host.Outcome State Fault Refusal :=
  finish (if s.ringMaster then (if s.stk.outstanding then s.beaconMissing else s).sendBeacon false else s)

/-- DUP: the node closes its bypass (R461, R463). -/
def State.stackDup (s : State) : State := (s.load [(STK_STATUS_DUP, 1), (STK_EVENT_DUP, 1)]).dropLine 56

/-- The membership that a returned beacon gives (R466). -/
def State.takeMembers (s : State) (b : Beacon) : State :=
  let old := s.get STK_PRESENT_PRESENT
  let s := s.load [(STK_PRESENT_PRESENT, b.present), (STK_READY_READY, b.ready), (STK_MASTER_UID_UID, b.masterUid)]
  let s := if clearBitOf (andNot old b.present) 0 = 0 then s else s.set STK_EVENT_MEMBER_LOST 1
  if clearBitOf (andNot b.present old) 0 = 0 then s else s.set STK_EVENT_MEMBER_JOINED 1

/-- The ring is healed by the first returned beacon (R466). -/
def State.ringHealed (s : State) : State :=
  if s.ringState = stkBroken then ((s.set STK_EVENT_RING_HEALED 1).bump STK_STAT2_HEALS).dropLine 56 else s

/-- A member that is no longer ready takes back the vehicle's yes during a vote (R392, R398). -/
def State.readyWithdrawn (s : State) : State :=
  if s.slpState = slpVoting ∧ !s.stackReady then (if s.sleepHead then s.castVotes false else s.sleepNext 3 0) else s

/-- The master's own beacon returns. Beacons leave every 8 µs, so its number tells when it left. -/
def State.ownBeacon (s : State) (b : Beacon) : State :=
  let age := subMod 32 (s.stk.count + 2 ^ 32 - 1) b.count
  let s := (s.ringHealed.takeMembers b).load [(STK_STATUS_STATE, stkActive), (STK_RING_TIME_NS, s.uptime - s.stk.sentAt + 8000 * age)]
  (s.stkMap (fun k => { k with outstanding := k.outstanding && age != 0, missing := 0 })).readyWithdrawn

/-- A beacon reaches the master's STK_IN (R463, R466). -/
def State.beaconBack (s : State) (b : Beacon) : State :=
  if !b.crcOk then s.bump STK_STAT_CRC_ERR
  else if b.masterUid = s.ownUid then s.ownBeacon b
  else if b.masterUid < s.ownUid then s.stackDup
  else s

def execBeaconReturn (beacon : Beacon) (s : State) : Host.Outcome State Fault Refusal :=
  finish (if s.ringMaster then s.beaconBack beacon else s)

/-! ### A member (R463, R467–R470) -/

/-- A member runs the ring. -/
def State.ringMember (s : State) : Bool := s.stackRuns && s.stackMember

/-- HOP_DLY in 2⁻¹⁶ ns. -/
def State.stackHop (s : State) : Int := (s.get STK_CFG_HOP_DLY : Int) * 4096

/-- The beacon as the member sends it on. -/
def State.passBeacon (s : State) (b : Beacon) (rx tx : Int) : Beacon :=
  { b with
    corr := b.corr + s.stackHop + s.scaled (tx - rx), present := setBitOf b.present s.stackPos
    ready := if s.selfReady then setBitOf b.ready s.stackPos else b.ready }

/-- The topology of the beacon takes the place of the member's (R468). -/
def State.memberTopology (s : State) (b : Beacon) : State :=
  let s := s.inaMap (fun i => { i with
    prev := i.topo
    topo := { i.topo with counter := b.topo, pos := b.pos, n := b.n, orient := b.orient, kept := b.keptLen, linked1 := false, linked2 := false }
    lastValid := true, lastPos := b.pos, lastOrient := b.orient, blockL := 0 })
  { s with mram := { s.mram with topo := b.topo } }

/-- The member commits what the beacon carries (R106, R114–R116, R291, R468). -/
def State.memberCommit (s : State) (b : Beacon) : State :=
  let old := s
  let c : Commit := ⟨b.topo, s.get INA_HASH_HASH, b.n, b.keptLen, 0, s.get INA_HEAD_UID_UID, s.get INA_STATUS_ROLE⟩
  let s := ((s.memberTopology b).showCommit c b.kept 0).clearHops
  let s := (s.inaMap (fun i => { i with uids := tabPut b.pos b.masterUid [] })).recordCommit c b.kept
  let s := (s.cycCommit b.kept).keySwitch.2
  let s := (s.flowsAtCommit b.kept b.keptLen).brgCommit b.kept b.keptLen
  let s := s.msgCommit b.kept s.ina.prev.counter (fun w => old.winContinues b.kept b.keptLen w)
  s.timCommit.sleepTopology

/-- The member's calibration epoch, with the beacon's sample of train time (R469). -/
def State.memberEpoch (s : State) (b : Beacon) (rx : Int) : State :=
  let sample := ttOf b.timeS b.timeNs + b.corr + s.stackHop
  ((s.timMap (fun t => { t with sampleA := some (sample, rx, b.timeValid), sampleB := none })).timEpoch.hopEpoch).countEpoch

/-- What the member takes from a valid beacon (R467–R470). -/
def State.takeBeacon (s : State) (b : Beacon) (rx : Int) : State :=
  let s := (s.load [(STK_STATUS_STATE, stkActive), (STK_MASTER_UID_UID, b.masterUid)]).dropLine 56
  let s := if b.topo = s.topo then s else s.memberCommit b
  let s := s.setB INA_STATUS_GRACE b.grace
  let s := if b.epoch then s.memberEpoch b rx else s
  if b.sleep then s.enterSleep (if s.slpState = slpCommitted ∧ s.slp.commitCode = 1 then 8 else 7) (s.get SLP_SLEEP_AT_CYCLE) else s

/-- A beacon reaches a member's STK_IN. -/
def State.forwardBeacon (s : State) (b : Beacon) (rx tx : Int) : State :=
  if !b.crcOk then (s.bump STK_STAT_CRC_ERR).emit (.beacon b)
  else if hasBit b.present s.stackPos then s.stackDup
  else
    let out := s.passBeacon b rx tx
    ((s.emit (.beacon out)).load [(STK_PRESENT_PRESENT, out.present), (STK_READY_READY, out.ready)]).takeBeacon b rx

def execBeaconForward (beacon : Beacon) (rx tx : Int) (s : State) : Host.Outcome State Fault Refusal :=
  finish (if s.ringMember then s.forwardBeacon beacon rx tx else s)

/-- 24 µs without a valid beacon, three beacons: ORPHAN (R467). -/
def State.orphaned (s : State) : State :=
  let s := ((s.add STK_STAT_BEACON_MISS 3).load [(STK_STATUS_STATE, stkOrphan), (STK_EVENT_ORPHAN, 1)]).assertLine 56
  s.flowsStale (fun f => s.get (FCTX_SRC_CH f) == chStack && bits (s.get (FCTX_SRC_SEL f)) 0 6 == 0) true

def execStackOrphanTimeout (s : State) : Host.Outcome State Fault Refusal :=
  finish (if s.ringMember && !(s.ringState == stkOrphan) then s.orphaned else s)

/-! ### Frames (R464, R465) -/

/-- An individual address within the node's vehicle. -/
def State.stackInside (s : State) (a : Nat) : Bool := addrLocal a || addrPos a == addrPos s.ownAddr

/-- The node takes a stack frame: data into the ingress queue of channel STACK, anything else to its block. -/
def State.stackTake (s : State) (f : MsgFrame) : State :=
  if f.type = 0 then
    let sel := if s.stackInside f.src then addrStk f.src else 64
    s.offer chStack { ch := chStack, sel := sel, data := f.payload, frame := some f }
  else s.deliver chStack f

/-- A group frame is copied where the node takes part in the group. -/
def State.stackCopy (s : State) (f : MsgFrame) (acts : Bool) : State :=
  if !s.inGroup (addrGroupNo f.dst) then s
  else match s.dupCheck f with
    | (true, s) => if acts then s.stackTake f else s
    | (false, s) => s

/-- The master hands a member's frame to its message switch. -/
def State.stackToLines (s : State) (f : MsgFrame) (acts : Bool) : State :=
  if addrGroup f.dst then (s.outEnds f.dst).foldl (fun s e => s.sendEnd e ⟨f, false, none, none⟩) s
  else match s.legacyAt (addrPos f.dst) with
    | some k => if acts then s.deliverLegacy 0x10 k f else s
    | none =>
      if s.trainLen < addrPos f.dst then s.unroutable
      else (s.outEnds f.dst).foldl (fun s e => s.sendEnd e ⟨f, false, none, none⟩) s

/-- A frame that has come back to the node that put it on the ring (R464). -/
def State.stackStrip (s : State) (f : MsgFrame) : State := if addrGroup f.dst then s else s.bump STK_STAT2_UNDELIVERED

/-- An accepted stack frame at the master: what it relayed itself comes back with a source outside the vehicle. -/
def State.masterFrame (s : State) (f : MsgFrame) (acts : Bool) : State :=
  if !s.stackInside f.src then s.stackStrip f
  else if addrGroup f.dst then ((s.stackCopy f acts).stackToLines f acts).stackRelay f
  else if !s.stackInside f.dst then s.stackToLines f acts
  else if addrStk f.dst = s.stackPos then (if acts then s.stackTake f else s)
  else if s.stackHas (addrStk f.dst) then s.stackRelay f
  else s.unroutable

/-- An accepted stack frame at a member. -/
def State.memberFrame (s : State) (f : MsgFrame) (acts : Bool) : State :=
  if addrGroup f.dst then (s.stackCopy f acts).stackRelay f
  else if s.stackInside f.dst && addrStk f.dst == s.stackPos then (if acts then s.stackTake f else s)
  else if s.ringState = stkOrphan ∧ !s.stackInside f.dst then s.unroutable
  else s.stackRelay f

/-- A frame arrives on STK_IN; the counter it bears is judged as on a line (R115, R151). -/
def State.stackFrame (s : State) (f : MsgFrame) : State :=
  let route := fun (s : State) (acts : Bool) => if s.stackMember then s.memberFrame f acts else s.masterFrame f acts
  if !msgWellFormed f (msgCodeGroups f) then s.bump MSG_STAT2_FRAME_ERR
  else if f.src = s.ownAddr then s.stackStrip f
  else if s.presentTopo f.topo then route s true
  else if s.graceTakes f then route (s.bump INA_STAT2_GRACE_ACCEPT) (!isControlType f.type)
  else s.bump INA_STAT2_OLD_DISCARD

def execStackFrameReceive (frame : MsgFrame) (s : State) : Host.Outcome State Fault Refusal :=
  finish (if s.stackRuns then s.stackFrame frame else s)

/-! ### Lanes, bypass, wake (R460, R461, R470, R471) -/

def execStackLaneDown (s : State) : Host.Outcome State Fault Refusal :=
  finish (if s.stackMode then s.set STK_STATUS_LINK_IN 0 else s)

def execStackLaneUp (s : State) : Host.Outcome State Fault Refusal :=
  finish (if s.stackMode then s.set STK_STATUS_LINK_IN 2 else s)

def cmdBypass : CmdSpec :=
  { base := 0x3E000, code := 1, accepted := State.running
    run := fun _ s => (s.stkMap (fun k => { k with bypass := true })).dropLine 56 }

def execBypass (path : Path) (arg : Nat) (s : State) : Host.Outcome State Fault Refusal :=
  finish (s.command cmdBypass path arg)

def cmdStkRejoin : CmdSpec :=
  { base := 0x3E000, code := 2, accepted := State.running
    run := fun _ s => (s.set STK_STATUS_DUP 0).stkMap (fun k => { k with bypass := false, outstanding := false, missing := 0 }) }

def execStkRejoin (path : Path) (arg : Nat) (s : State) : Host.Outcome State Fault Refusal :=
  finish (s.command cmdStkRejoin path arg)

/-- Activity on the armed STK_IN of a sleeping stack node. -/
def execStackWakeActivity (s : State) : Host.Outcome State Fault Refusal :=
  finish (if s.mode = modeSleep ∧ s.flag STK_CFG_EN ∧ !s.pairMember then s.wake wakeStackBit else s)

end Sys2Proof.Machine
end

