-- ==== Sys2Proof/Machine/Boot.lean ====
section
/-! DEFINITION. The BOOT sequence, from the release of reset to the target mode, and the wake boot (R43–R49, R384,
R500, R501). -/

namespace Sys2Proof.Machine

open Reg

/-- A step of a full BOOT's sequence is due. -/
def State.bootAt (s : State) (step : Nat) : Bool :=
  s.mode == modeBoot && !s.glb.held && s.glb.bootStep == step && !s.flag GLB_BOOT_STATUS_WAKE_BOOT

/-- The state at a step of the BOOT sequence. -/
def State.bootGo (s : State) (step : Nat) : State := { s with glb := { s.glb with bootStep := step } }

/-- BOOT waits in a sub-state. -/
def State.bootWait (s : State) (sub : Nat) : State := (s.bootGo 4).set GLB_MODE_SUBSTATE sub

/-- TEST is entered (R57). -/
def State.goTest (s : State) : State := (s.bootWait subTest).record 0 0x1003 []

/-! ### Release of reset and OTP (R44, R483, R45, R55, R56) -/

/-- The kind of the full BOOT that LAST_CAUSE names. -/
def bootKindOf (cause : Nat) : BootKind := if cause = 0 then .powerOn else if cause = 1 then .resetN else .warm

/-- The internal release of reset: BOOT starts and the straps are sampled. -/
def State.releaseReset (s : State) (straps : Nat) : State :=
  let cause := s.get GLB_MODE_LAST_CAUSE
  let brown := s.glb.afterBrownOut
  let s := s.startBoot (bootKindOf cause) cause (some straps)
  if brown then s.set CLK_EVENT_BROWN_OUT 1 else s

def execInternalResetRelease (straps : Nat) (s : State) : Host.Outcome State Fault Refusal :=
  finish (if s.glb.held && s.pwr.regulators && !s.pwr.brownOut then s.releaseReset straps else s)

/-- Keys and device root are zero. -/
def State.rootsClear (s : State) : Bool := s.mram.banks.isEmpty && s.otp.root == 0

/-- Keys and device root are zeroized (R54, R56). -/
def State.zeroizeAll (s : State) : State :=
  let s := s.zeroize
  { s with otp := { s.otp with root := 0 } }

/-- GLB_LC and GLB_UID show the OTP (R51, R501). -/
def State.showOtp (s : State) : State :=
  let lc := s.otp.lifeCycle
  s.load [(GLB_LC_STATE, lc), (GLB_LC_PARTIAL, s.otp.partialFields), (GLB_UID_UID, if lc = lcMaker then 0 else s.otp.uid)]

/-- The OTP has been read: SCRAPPED stops here, RETURN makes sure that no key is left. -/
def State.otpRead (s : State) : State :=
  let s := s.showOtp
  let s := if s.get GLB_LC_PARTIAL = 0 then s else s.pulse 62
  if s.lc = lcScrapped then
    ({ s with hrg := { s.hrg with trained := true }, rcd := { s.rcd with queue := [] } }.showQueue).bootGo 5
  else (if s.lc = lcReturn ∧ !s.rootsClear then s.zeroizeAll else s).bootGo 1

def execBootOtpReadDone (s : State) : Host.Outcome State Fault Refusal := finish (if s.bootAt 0 then s.otpRead else s)

/-! ### Self-test and key vault check (R45, R267, R447, R453) -/

/-- An alarm of a time without core power is recorded, and TAMPERED goes to MRAM (R453, R454). -/
def State.readTamper (s : State) : State :=
  let s := if s.key.tamperedAon then { s with mram := { s.mram with tampered := true } } else s
  match s.key.deferred with
  | none => s
  | some (sources, mode) =>
    (s.record 0x4000 0x0004 (tamperPayload sources mode 2)).keyMap (fun k => { k with deferred := none })

/-- The key vault check: the RESULT that stops BOOT, 0 where BOOT goes on. -/
def State.vaultCheck (s : State) (recordEcc : Bool) : Nat × State :=
  let s := (s.showVault.set KEY_STATUS_READY 1).readTamper
  let bad := s.flag KEY_STATUS_CORRUPT || recordEcc
  let s := if bad then s.pulse 25 else s
  let s := if recordEcc then s.pulse 12 else s
  let tampered := s.key.tamperedAon || s.mram.tampered
  (if tampered then resultTampered else if bad then resultVault else 0, s)

/-- Where a full BOOT goes after the checks (Table 2.3). -/
def State.afterVault (s : State) : State :=
  match s.get GLB_BOOT_STATUS_BOOTSEL with
  | 2 => s.bootWait subHostWait
  | 3 => s.bootGo 3
  | 5 | 6 => s.bootToSafe resultStrap 3
  | 7 =>
    if s.lc = lcMaker ∨ s.lc = lcReturn then s.goTest
    else if s.lc = lcPersonalized then s.bootWait subDebugWait
    else s.bootToSafe resultDebug 3
  | _ => s.bootGo 2

/-- The self-test ends. Its failed channels are retired; link training may start. -/
def State.selfTested (s : State) (pass : Bool) (failed : List Nat) (recordEcc : Bool) : State :=
  let s := failed.foldl (fun s ch => s.retire ch 0) s
  let s := { s with hrg := { s.hrg with trained := true } }
  if !pass then s.bootToSafe resultSelftest 3
  else
    let (r, s) := s.vaultCheck recordEcc
    if r = 0 then s.afterVault else s.bootToSafe r 3

def execBootSelftestDone (pass : Bool) (failedChannels : List Nat) (recordEcc : Bool) (s : State) :
    Host.Outcome State Fault Refusal :=
  finish (if s.bootAt 1 then s.selfTested pass failedChannels recordEcc else s)

/-! ### The image (R47, R48) -/

/-- BOOT goes on with a verified image. -/
def State.takeImage (s : State) (i : Image) (src : Nat) : State :=
  let s := (s.load [(GLB_BOOT_STATUS_CFG_SRC, src), (GLB_BOOT_STATUS_RESULT, 0)]).bootGo 3
  { s with glb := { s.glb with bootImage := some i } }

/-- The image of MRAM has failed (Table 2.3). -/
def State.imageFails (s : State) (result : Nat) : State :=
  if s.get GLB_BOOT_STATUS_BOOTSEL = 1 then (s.set GLB_BOOT_STATUS_RESULT result).bootWait subHostWait
  else s.bootToSafe result 3

/-- The bank with the higher SERIAL, then the other (R48). -/
def State.verifyImages (s : State) : State :=
  let check := fun (i : Image) => s.checkImage i (some (s.get GLB_BOOT_STATUS_BOOTSEL))
  match s.bankOrder with
  | [] => s.imageFails resultImage
  | (b, i) :: rest =>
    if check i = 0 then s.takeImage i (b + 1)
    else match rest with
      | (b2, i2) :: _ =>
        if check i2 = 0 then (s.pulse 63).takeImage i2 (b2 + 1) else s.imageFails (check i)
      | [] => s.imageFails (check i)

def execBootImageVerified (s : State) : Host.Outcome State Fault Refusal :=
  finish (if s.bootAt 2 then s.verifyImages else s)

/-! ### The end of BOOT (R45, R70, R384, R411, R501) -/

/-- The configuration of an image is applied; the legacy VID survives a legacy soft reset (R340, R411). -/
def State.applyImage (s : State) (i : Image) : State :=
  let before := s
  let keepVid := s.gtn.softReset
  let l := (imageLoads i).filter (fun e => !(keepVid && e.1.key == GTN_VID_VID.key))
  let s := s.load l
  let s := (List.range 64).foldl (fun s n => s.fixSource n (before.get (FLT_SRC_CFG_SEVERITY n))) s
  let role := if i.targetMode = modeNative ∨ i.targetMode = modeStandby then i.role else 0
  (s.load [(GLB_MODE_ROLE, role), (CST_STATUS_ROLE, role)]).msgConfigEpoch

/-- GTN mode starts: CAN0 and CAN1 serve the legacy channels, and the log gets its first entry (R321, R340, Table 12.11). -/
def State.startGtn (s : State) : State :=
  let s := s.gtnMap (fun g => { g with tmrFrom := s.uptime })
  let s := [0, 1].foldl (fun s n => if s.canState n = canRetired then s else s.set (CAN_STATUS_STATE n) canLegacy) s
  if s.gtn.softReset then ((s.setSsr 23).legacyLog 0 0x02 0 0).gtnMap (fun g => { g with softReset := false })
  else s.legacyLog 0 0x01 (s.get GTN_RSR_CAUSE) 0

/-- What starts with a mode. -/
def State.startMode (s : State) (m : Nat) : State :=
  if m = modeGtn then s.startGtn
  else if m = modeBorder then s.gStart.gForce
  else if m = modeStandby then s.standbyStart
  else s

/-- BOOT ends in its target mode. -/
def State.endBoot (s : State) (m : Nat) : State :=
  let uid := if s.lc = lcMaker then s.get GLB_LC_DATA_UID else 0
  let s := { s with glb := { s.glb with makerUid := uid } }
  (((s.set GLB_BOOT_STATUS_RESULT 0).setMode m 3).startMode m).closeBoot

/-- The configuration is applied; a pair member that names STANDBY goes on to its final step (R384). -/
def State.applyBoot (s : State) : State :=
  match s.glb.bootImage with
  | none => s.endBoot modeGtn
  | some i =>
    let s := s.applyImage i
    if i.targetMode = modeStandby ∧ s.pairMember then (s.set GLB_MODE_SUBSTATE subSequence).bootGo 7
    else s.endBoot i.targetMode

def execBootEnd (s : State) : Host.Outcome State Fault Refusal := finish (if s.bootAt 3 then s.applyBoot else s)

end Sys2Proof.Machine
end

