-- ==== Sys2Proof/Machine/WakeBoot.lean ====
section
/-! DEFINITION. The wake boot, which restores the resume area, and the final step of a pair member's BOOT (R49, R108, R161,
R185, R213, R243, R272, R296, R384, R400, R401). -/

namespace Sys2Proof.Machine

open Reg

/-- Ticks of 1/32,768 s that the always-on domain has counted since the resume area was saved. -/
def State.asleepTicks (s : State) (r : Resume) : Nat := (s.elapsed - r.elapsed) * 32768 / 1000000000

/-- A register store with the entries of another put over it. -/
def putAll (l t : List (Nat × Nat)) : List (Nat × Nat) := l.foldl (fun u e => tabPut e.1 e.2 u) t

/-- Registers, inauguration values and slot maps of the resume area (R108, R161, R400). -/
def State.restoreArea (s : State) (r : Resume) : State :=
  let s := { s with
    regs := putAll r.regs s.regs
    ina := { r.ina with linked1 := false, linked2 := false, hold1 := false, hold2 := false, fresh1 := false, fresh2 := false, seen1 := none, seen2 := none, hopPending := [] } }
  let s := s.slpMap (fun p => { p with holdEnd1 := r.ina.topo.linked1, holdEnd2 := r.ina.topo.linked2 })
  let s := s.cycMap (fun c => { c with
    map := r.map, held := r.held, latest := r.map, issued := !(r.map.seq == 0), nextCycle := r.cycle, headerLost := !s.isHead })
  ((s.showMap 0).set CYC_CYCLE_CYCLE r.cycle).msgConfigEpoch

/-- Train time goes on from the always-on count, with TIME_VALID as it was (Table 6.1). -/
def State.restoreTime (s : State) (r : Resume) : State :=
  let now := r.time + (s.asleepTicks r : Int) * 2000000000
  (s.timMap (fun t => { t with tt0 := now, u0 := s.uptimeFine, everUsable := true })).set TIM_STATUS_TIME_VALID r.timeValid

/-- The servo starts in ACQUIRE, or in MASTER at a head (Table 6.1, R182). -/
def State.startServo (s : State) (m : Nat) : State :=
  s.set TIM_STATUS_STATE (if s.isHead && !(m == modeStandby) then timMaster else timAcquire)

/-- Enabled flows start again, and enabled windows; retired CAN channels stay retired (R267, R272, R296). -/
def State.restoreFlows (s : State) : State :=
  let s := s.enabledFlows.foldl State.startFlow s
  let s := allWindows.foldl (fun s w =>
    if s.winState w = winDisabled then s
    else if s.get (BRG_WIN_CTRL_BIND w) = 0 then
      let dst := s.get (BRG_WIN_DST_ADDR w)
      s.putWin w winActive (if addrLocal dst then s.position else addrPos dst)
    else (s.putWin w winResolving 0).resolveWindow w) s
  canChannels.foldl (fun s n => if s.bitAt FLW_RETIRED_CAN n then s.set (CAN_STATUS_STATE n) canRetired else s) s

/-- Wake sources other than line activity that have woken the node. -/
def State.otherWake (s : State) : Bool := !(bits s.slp.latched wakeCanBit 18 == 0) || !(s.liveSources / 16 == 0)

/-- The false-wake watch starts; a source other than line activity confirms at once (R401). -/
def State.startWatch (s : State) : State :=
  let s := s.load [(SLP_STATUS_STATE, slpWatch), (SLP_EVENT_WOKE, 1)]
  let s := if hasBit s.slp.latched wakeStackBit then s.set STK_EVENT_WAKE 1 else s
  let other := s.otherWake
  let s := s.slpMap (fun p => { p with fwRunning := true, fwExpired := false, latched := 0, entered := false })
  if other then s.confirmWake else s

/-- The wake boot ends in a mode. -/
def State.endWake (s : State) (m : Nat) : State := ((s.startServo m).endBoot m).startWatch

/-- The resume area is restored; a pair member goes on to its final step. -/
def State.resumeFrom (s : State) (r : Resume) : State :=
  let s := ((s.restoreArea r).restoreTime r).restoreFlows
  if s.pairMember then s.bootGo 7 else s.endWake r.mode

/-- The resume area fails its CRC: a full BOOT by the BOOTSEL last sampled (R49). -/
def State.bootInstead (s : State) : State :=
  let gpio := s.flw.gpioBoot
  let prev := s.get GLB_MODE_PREV_MODE
  let s := (s.startBoot .warm (s.get GLB_MODE_LAST_CAUSE) none).set GLB_MODE_PREV_MODE prev
  s.flwMap (fun w => { w with gpioBoot := gpio })

/-- The wake boot: reduced self-test, vault and tamper latch, then the resume area (R43, R49). -/
def State.wakeBoot (s : State) (selftestPass crcOk : Bool) : State :=
  let s := { s with hrg := { s.hrg with trained := true } }
  if !selftestPass then s.bootToSafe resultSelftest 3
  else
    let (result, s) := s.vaultCheck false
    if result ≠ 0 then s.bootToSafe result 3
    else match s.resume, crcOk with
      | some r, true => s.resumeFrom r
      | _, _ => s.bootInstead

def execWakeBootEnd (selftestPass resumeCrcOk : Bool) (s : State) : Host.Outcome State Fault Refusal :=
  finish (if s.mode == modeBoot && !s.glb.held && s.flag GLB_BOOT_STATUS_WAKE_BOOT && s.glb.bootStep == 0 then
    s.wakeBoot selftestPass resumeCrcOk
  else s)

/-! ### The final step of a pair member's BOOT (R384) -/

/-- BOOT, or a wake boot, ends in a mode. -/
def State.endAnyBoot (s : State) (m : Nat) : State :=
  if s.flag GLB_BOOT_STATUS_WAKE_BOOT then s.endWake m else s.endBoot m

/-- 10 µs into the final step: NATIVE with the permission, STANDBY without. -/
def State.finalStep (s : State) (interlockFree : Bool) : State :=
  if s.pair.driving then s.endAnyBoot modeNative
  else if s.pairSelected && interlockFree then s.claimToken.endAnyBoot modeNative
  else s.releaseInterlock.endAnyBoot modeStandby

def execPairBootFinalStep (interlockFree : Bool) (s : State) : Host.Outcome State Fault Refusal :=
  finish (if s.mode = modeBoot ∧ !s.glb.held ∧ s.glb.bootStep = 7 then s.finalStep interlockFree else s)

end Sys2Proof.Machine
end

