-- ==== Sys2Proof/Machine/Glb.lean ====
section
/-! DEFINITION. The commands of the GLB_ block, configuration from the host, debug, and the life cycle (R34–R38, R46–R58,
R393, R500). -/

namespace Sys2Proof.Machine

open Reg

/-! ### Modes (Table 2.1) -/

/-- RESTART. `straps` are the levels on BOOTSEL when it samples them (R44). -/
def cmdRestart (straps : Nat) : CmdSpec :=
  { base := 0, code := 0x01
    accepted := fun s => s.inBoot subHostWait || s.inBoot subTest
      || s.inModes [modeNative, modeBorder, modeStandby, modeReferee, modeSafe]
    cond := fun s _ => if s.flag GLB_ESC_CNT_SAFE_LATCH then .restartLimit else .ok
    run := fun _ s => s.startBoot .warm 2 (some straps) }

def execRestart (path : Path) (arg straps : Nat) (s : State) : Host.Outcome State Fault Refusal :=
  finish (s.command (cmdRestart straps) path arg)

/-- SAFE by command; from HOST_WAIT it ends the BOOT. -/
def State.safeByCommand (s : State) : State :=
  let inBoot := s.mode == modeBoot
  let s := s.enterSafeMode 2
  if inBoot then s.closeBoot else s

def cmdEnterSafe : CmdSpec :=
  { base := 0, code := 0x02
    accepted := fun s => s.inBoot subHostWait || s.inModes [modeNative, modeBorder, modeStandby, modeReferee]
    run := fun _ s => s.safeByCommand }

def execEnterSafe (path : Path) (arg : Nat) (s : State) : Host.Outcome State Fault Refusal :=
  finish (s.command cmdEnterSafe path arg)

/-- ENTER_TEST. -/
def cmdEnterTest : CmdSpec :=
  { base := 0, code := 0x04, accepted := fun s => s.inBoot subHostWait
    lcOk := fun s => s.testOpen
    run := fun _ s => s.goTest }

def execEnterTest (path : Path) (arg : Nat) (s : State) : Host.Outcome State Fault Refusal :=
  finish (s.command cmdEnterTest path arg)

/-- SLEEP_VOTE (R393). -/
def cmdSleepVote : CmdSpec :=
  { base := 0, code := 0x05, accepted := State.running, run := fun _ s => s.requestSleep }

def execSleepVote (path : Path) (arg : Nat) (s : State) : Host.Outcome State Fault Refusal :=
  finish (s.command cmdSleepVote path arg)

/-! ### Images from the host (R46–R48) -/

/-- GLB_CFG_ADDR is 64-byte aligned, and GLB_CFG_LEN 64 B to 2 MiB. -/
def State.cfgArgsOk (s : State) : Bool :=
  s.get GLB_CFG_ADDR_ADDR % 64 == 0 && decide (64 ≤ s.get GLB_CFG_LEN_LEN ∧ s.get GLB_CFG_LEN_LEN ≤ 2097152)

def cmdConfigDone : CmdSpec :=
  { base := 0, code := 0x03, argOk := fun s _ => s.cfgArgsOk, accepted := fun s => s.inBoot subHostWait
    pends := true, run := fun _ s => s }

def execConfigDone (path : Path) (arg : Nat) (s : State) : Host.Outcome State Fault Refusal :=
  finish (s.command cmdConfigDone path arg)

/-- A command of the GLB_ block is in progress. -/
def State.glbRuns (s : State) (code : Nat) : Bool := s.glb.running.any (fun r => r.1 == 0 && r.2.1 == code)

/-- The result of the image that a fetch brings; a failed read is IMAGE_INVALID (R46). -/
def State.fetchResult (s : State) (image : Option Image) (bootsel : Option Nat) : Nat :=
  match image with
  | some i => s.checkImage i bootsel
  | none => resultImage

/-- CONFIG_DONE ends: the image is applied and its target mode entered, or the node stays in HOST_WAIT. -/
def State.configFetched (s : State) (image : Option Image) : State :=
  let r := s.fetchResult image (some (s.get GLB_BOOT_STATUS_BOOTSEL))
  let s := s.endCmd 0 0x03 (imageStatus r)
  match image, r with
  | some i, 0 => (s.takeImage i 3).applyBoot
  | _, _ => s.set GLB_BOOT_STATUS_RESULT r

def execConfigFetchDone (image : Option Image) (s : State) : Host.Outcome State Fault Refusal :=
  finish (if s.glbRuns 0x03 && s.inBoot subHostWait then s.configFetched image else s)

def cmdConfigStore : CmdSpec :=
  { base := 0, code := 0x06, argOk := fun s _ => s.cfgArgsOk
    busy := fun s => s.glbRuns 0x06
    accepted := fun s => s.inBoot subHostWait || s.inBoot subTest
      || s.inModes [modeNative, modeBorder, modeStandby, modeReferee, modeSafe]
    pends := true, run := fun _ s => s }

def execConfigStore (path : Path) (arg : Nat) (s : State) : Host.Outcome State Fault Refusal :=
  finish (s.command cmdConfigStore path arg)

/-- SERIAL is not above that of the bank in use. -/
def State.serialStale (s : State) (i : Image) : Bool :=
  match s.imageInUse with
  | some (_, u) => decide (i.serial ≤ u.serial)
  | none => false

/-- CONFIG_STORE ends: the bank not in use takes the image, or both stand. -/
def State.configStored (s : State) (image : Option Image) : State :=
  match image, s.fetchResult image none with
  | some i, 0 =>
    if s.serialStale i then s.endCmd 0 0x06 .badArg
    else (s.setImageBank s.storeBank (some i)).endCmd 0 0x06 .ok
  | _, r => s.endCmd 0 0x06 (imageStatus r)

def execConfigStoreDone (image : Option Image) (s : State) : Host.Outcome State Fault Refusal :=
  finish (if s.glbRuns 0x06 then s.configStored image else s)

/-! ### Debug (R34, R50, R58) -/

def cmdDebugOpen : CmdSpec :=
  { base := 0, code := 0x10, accepted := fun s => s.inBoot subDebugWait
    lcOk := fun s => s.lc == lcPersonalized
    auth := fun _ => true
    authKey := fun s => (s.slotOf purposeDebug).bind (fun i => s.keyFor i purposeDebug)
    run := fun _ s => ((s.set GLB_LC_DEBUG_OPEN 1).showVault).goTest }

/-- DEBUG_OPEN: a failed tag ends BOOT in SAFE (R58). -/
def State.debugOpen (s : State) (path : Path) (arg : Nat) : State :=
  let (st, s) := s.runCmd cmdDebugOpen path (arg % 65536)
  let s := if st = .authFail then s.bootToSafe resultDebug 3 else s
  match path with
  | .ring _ => s
  | _ => s.emit (.pathStatus path (cmdAddr 0) st)

def execDebugOpen (path : Path) (arg : Nat) (s : State) : Host.Outcome State Fault Refusal := finish (s.debugOpen path arg)

/-- DBG_TOKEN presents the tag of DEBUG_OPEN; GLB_AUTH_RESP keeps its own. -/
def State.dbgToken (s : State) (tag : Nat) : State :=
  let old := s.get GLB_AUTH_RESP_TAG
  ((s.set GLB_AUTH_RESP_TAG tag).debugOpen .dbgToken 0).set GLB_AUTH_RESP_TAG old

def execDbgToken (tag : Nat) (s : State) : Host.Outcome State Fault Refusal :=
  finish (if s.inBoot subDebugWait then s.dbgToken tag else s)

def execDebugWaitTimeout (s : State) : Host.Outcome State Fault Refusal :=
  finish (if s.inBoot subDebugWait then s.bootToSafe resultDebug 3 else s)

/-- 1 s has passed since the AUTH_FAIL (R50). -/
def execAuthBusyEnd (s : State) : Host.Outcome State Fault Refusal :=
  finish { s with glb := { s.glb with authBusy := false } }

/-! ### Life cycle (R50–R56, R500) -/

/-- A life-cycle command in progress programs its fuse field. -/
def State.startProgram (s : State) (code : Nat) : State := s.keyMap (fun k => { k with program := some code })

/-- A unique ID that can be given. -/
def uidValid (uid : Nat) : Bool := !(uid == 0) && !(uid == 2 ^ 64 - 1)

/-- LC_PERSONALIZE programs UID and device root; a root that stands programmed is kept (R51, R52). -/
def State.personalize (s : State) : State :=
  let (root, t) := s.random 256
  let t := { t with otp := { t.otp with uid := t.get GLB_LC_DATA_UID, root := if t.otp.root = 0 then root else t.otp.root } }
  t.startProgram 0x11

def cmdLcPersonalize : CmdSpec :=
  { base := 0, code := 0x11, argOk := fun s _ => uidValid (s.get GLB_LC_DATA_UID)
    accepted := fun s => s.inBoot subTest, lcOk := fun s => s.lc == lcMaker
    pends := true, run := fun _ s => s.personalize }

def execLcPersonalize (path : Path) (arg : Nat) (s : State) : Host.Outcome State Fault Refusal :=
  finish (s.command cmdLcPersonalize path arg)

def cmdLcField : CmdSpec :=
  { base := 0, code := 0x12, accepted := fun s => s.inBoot subHostWait || s.mode == modeNative
    lcOk := fun s => s.lc == lcPersonalized && !s.flag GLB_LC_DEBUG_OPEN
    pends := true, run := fun _ s => s.startProgram 0x12 }

def execLcField (path : Path) (arg : Nat) (s : State) : Host.Outcome State Fault Refusal :=
  finish (s.command cmdLcField path arg)

/-- The key that verifies LC_RETURN and LC_SCRAP. -/
def State.lifecycleKey (s : State) : Option Nat := (s.slotOf purposeLifecycle).bind (fun i => s.keyFor i purposeLifecycle)

/-- LC_RETURN and LC_SCRAP: key operations end, keys and root are zeroized (R54, R56). -/
def State.wipe (s : State) : State := (s.abortVault .fault).zeroizeAll

def cmdLcReturn : CmdSpec :=
  { base := 0, code := 0x13, accepted := fun s => s.inBoot subHostWait || s.mode == modeSafe
    lcOk := fun s => s.lc == lcPersonalized || s.lc == lcField
    auth := fun _ => true, authKey := State.lifecycleKey
    pends := true, run := fun _ s => s.wipe.startProgram 0x13 }

def execLcReturn (path : Path) (arg : Nat) (s : State) : Host.Outcome State Fault Refusal :=
  finish (s.command cmdLcReturn path arg)

/-- The recorder with its SEQ, both image banks and the topology counter are erased (R56, R108). -/
def State.eraseStores (s : State) : State :=
  let s := { s with
    mram := { s.mram with cells := [], nextSeq := 0, clearPending := none, bank0 := none, bank1 := none, topo := 0 }
    rcd := { s.rcd with queue := [], writing := none } }
  (s.load [(REC_FILL_FIRST_FILL, 0), (REC_FILL_RING_FILL, 0), (REC_STATUS_NEXT_IDX, 0), (REC_NEXT_SEQ_SEQ, 0)]).showQueue

def cmdLcScrap : CmdSpec :=
  { base := 0, code := 0x14
    accepted := fun s => s.inBoot subHostWait || s.inBoot subTest || s.mode == modeSafe
    lcOk := fun s => !(s.lc == lcScrapped)
    auth := fun s => s.lc == lcPersonalized || s.lc == lcField
    authKey := State.lifecycleKey
    pends := true, run := fun _ s => s.wipe.eraseStores.startProgram 0x14 }

def execLcScrap (path : Path) (arg : Nat) (s : State) : Host.Outcome State Fault Refusal :=
  finish (s.command cmdLcScrap path arg)

/-- The fuse field of a life-cycle command with cells programmed; no cell is ever unprogrammed (R51). -/
def OtpState.program (o : OtpState) (code cells : Nat) : OtpState :=
  let n := Nat.min 8 cells
  match code with
  | 0x11 => { o with pers := Nat.max o.pers n }
  | 0x12 => { o with field := Nat.max o.field n }
  | 0x13 => { o with ret := Nat.max o.ret n }
  | _ => { o with scrap := Nat.max o.scrap n }

/-- The cells of a life-cycle command's fuse field. -/
def OtpState.cellsOf (o : OtpState) (code : Nat) : Nat :=
  match code with
  | 0x11 => o.pers
  | 0x12 => o.field
  | 0x13 => o.ret
  | _ => o.scrap

/-- The field is set: the state changes, and BOOT follows for every command but LC_FIELD (R53, R500). -/
def State.programmed (s : State) (code straps : Nat) : State :=
  let s := s.endCmd 0 code .ok
  let s := if code = 0x13 then s.record 0 0x1002 [] else s
  if code = 0x12 then s.showOtp else s.showOtp.startBoot .warm 2 (some straps)

/-- Programming and verification end (R51). -/
def State.programEnds (s : State) (code cells straps : Nat) : State :=
  let s := { s.keyMap (fun k => { k with program := none }) with otp := s.otp.program code cells }
  if 5 ≤ s.otp.cellsOf code then s.programmed code straps
  else (s.set GLB_LC_PARTIAL s.otp.partialFields).endCmd 0 code .programFail

def execLcProgramDone (cells straps : Nat) (s : State) : Host.Outcome State Fault Refusal :=
  finish (match s.key.program with
    | some code => s.programEnds code cells straps
    | none => s)

/-! ### Test instructions (R46, R57, R67) -/

/-- A private test instruction or scan shift in TEST: the port states it directs, and whether a shift is in progress. -/
def execJtagTestInstruction (ports : List (Nat × Nat)) (scan : Bool) (s : State) : Host.Outcome State Fault Refusal :=
  finish (if s.inBoot subTest && s.testOpen then
    { s with glb := { s.glb with testPorts := ports.filter (fun e => decide (e.1 < 4)), scanShift := scan } }
  else s)

end Sys2Proof.Machine
end

