-- ==== Sys2Proof/Machine/Rings.lean ====
section
/-! DEFINITION. Every command of every block by base address and code, and the transmit descriptors of the host rings
(R34, R305, R307, R312, R313). -/

namespace Sys2Proof.Machine

open Reg

/-! ### Commands by block and code (R34, R305) -/

/-- The commands of the GLB_ block (Table 2.1). -/
def glbCommands (straps : Nat) : List CmdSpec :=
  [cmdRestart straps, cmdEnterSafe, cmdConfigDone, cmdEnterTest, cmdSleepVote, cmdConfigStore, cmdDebugOpen, cmdLcPersonalize,
    cmdLcField, cmdLcReturn, cmdLcScrap]

/-- The commands of a line port and of a CAN channel. -/
def lnCommands (p : Nat) : List CmdSpec := [cmdRecalibrate p, cmdSetDelayBase p, cmdEchoReset p, cmdKaTest p]
def canCommands (n : Nat) : List CmdSpec := [cmdCanStart n, cmdCanStop n, cmdCanCancel n]

/-- The commands of the other blocks. -/
def blockCommands : List CmdSpec :=
  [cmdRecClear, cmdKeyWrite, cmdKeyErase, cmdKeySwitch, cmdTamperClear, cmdStep, cmdClearValid, cmdInaugurate, cmdDeclare,
    cmdMapReissue, cmdFlowEnable, cmdFlowDisable, cmdSliceApply, cmdRejoin, cmdPortReset, cmdWinEnable, cmdWinDisable,
    cmdResync, cmdSelect, cmdBypass, cmdStkRejoin]

/-- Every command. -/
def allCommands (straps : Nat) : List CmdSpec :=
  glbCommands straps ++ (linePorts.map lnCommands).flatten ++ (canChannels.map canCommands).flatten ++ blockCommands

/-- The command of a block and a code. -/
def findCommand (straps base code : Nat) : Option CmdSpec :=
  (allCommands straps).find? (fun c => c.base == base && c.code == code)

/-- A command by block, code and argument: its status, and the state after (R34–R37). -/
def State.issue (s : State) (path : Path) (straps base code arg : Nat) : Status × State :=
  match findCommand straps base code with
  | some c => s.runCmd c path arg
  | none => s.unknownCmd path base code arg

/-! ### Transmit descriptors (R312, R313, Tables 11.6 and 11.7) -/

/-- FLAGS reserved bits, and a byte range, are 0. -/
def flagsOk (d : Descriptor) : Bool := ofLe (slice 0x0B 1 d.bytes) / 4 == 0
def zeroBytes (d : Descriptor) (off n : Nat) : Bool := ofLe (slice off n d.bytes) == 0

/-- The descriptor is formed as its KIND asks. -/
def descOk (d : Descriptor) : Bool :=
  flagsOk d && (match descKind d with
    | 1 =>
      let n := ofLe (slice 0x08 2 d.bytes)
      decide (1 ≤ n ∧ n ≤ 2048) && decide (ofLe (slice 0x10 1 d.bytes) < 16) && zeroBytes d 0x11 7
    | 2 => zeroBytes d 0x08 2 && zeroBytes d 0x15 1
    | 3 => decide (ofLe (slice 0x08 1 d.bytes) < 32) && decide (ofLe (slice 0x09 1 d.bytes) < 64)
    | _ => false)

/-- The transmit ring completes its oldest descriptor with STOPPED: the ring stops, or the mode takes no DATA (Table 11.4). -/
def State.descStopped (s : State) (k : Nat) (d : Descriptor) : Bool :=
  s.get (HRG_RING_STATUS_STATE k) == 2 || (descKind d == 1 && s.mode == modeSafe)

/-- The item of a DATA descriptor (R312). -/
def State.descItem (s : State) (k : Nat) (d : Descriptor) (data : Bytes) : Item :=
  let kind := ofLe (slice 0x10 1 d.bytes)
  { ch := chHost + k / 16, sel := k, data := data.take (ofLe (slice 0x08 2 d.bytes))
    report := if descReport d then some (k, descTag d) else none
    tubeKind := if kind = 0 then 4 else kind, arrival := s.flw.arrivals }

/-- A DATA item is handed to every matching flow. -/
def State.handItem (s : State) (k : Nat) (i : Item) : State :=
  let flows := s.matching i
  let s := s.flwMap (fun w => { w with arrivals := w.arrivals + 1 })
  if flows.isEmpty then s.completeTx k txNoFlow 0 0
  else (flows.foldl (State.flowTakes i) s).completeTx k txDone (Nat.min 255 flows.length) 0

/-- A DATA descriptor. -/
def State.dataDesc (s : State) (k : Nat) (d : Descriptor) : State :=
  match d.buffer with
  | none => s.completeTx k txHostError 0 0
  | some data => s.handItem k (s.descItem k d data)

/-- A CMD descriptor: the command by BLOCK, CODE and ARG (R305). -/
def State.cmdDesc (s : State) (k : Nat) (d : Descriptor) : State :=
  let pf1 := s.groupOwner (ringGroup k) == 1
  let (st, s) := s.issue (.ring pf1) 0 (ofLe (slice 0x10 4 d.bytes)) (ofLe (slice 0x14 1 d.bytes)) (ofLe (slice 0x16 2 d.bytes))
  s.completeTx k txDone 0 (statusCode st)

/-- The bridge request of a BRIDGE descriptor. -/
def bridgeRequest (k : Nat) (d : Descriptor) : BrgReq :=
  let b := ofLe (slice 0x09 1 d.bytes)
  { who := 8 + k, win := ofLe (slice 0x08 1 d.bytes) % 32, bseq := 0, tag := descTag d % 65536, op := b % 4, lock := hasBit b 4
    unlock := hasBit b 5, width := widthOf (bits b 2 2), offset := ofLe (slice 0 8 d.bytes), data := ofLe (slice 0x10 8 d.bytes) }

/-- A BRIDGE descriptor; a write waits while the posted store is full (R313). -/
def State.bridgeDesc (s : State) (k : Nat) (d : Descriptor) : State :=
  let r := bridgeRequest k d
  if r.op = 0 then s.completeTx k txDone 0 brgBadArg
  else if s.running ∧ r.op = opWr ∧ 256 ≤ s.brg.posted.length then s
  else
    let (st, s) := s.issueRequest r
    s.completeTx k txDone 0 st

/-- The oldest fetched descriptor of a transmit ring is processed, where its KIND is that of the row. -/
def State.txDesc (s : State) (k kind : Nat) (act : Descriptor → State) : State :=
  if 64 ≤ k ∨ !s.ringsPolled then s
  else match (s.ring k).fetched with
    | [] => s
    | d :: _ =>
      let kd := descKind d
      if !(kd == kind || (kind == 1 && !(kd == 2 || kd == 3))) then s
      else if !(1 ≤ kd && kd ≤ 3) then s.completeTx k txBadDesc 0 0
      else if s.descStopped k d then s.completeTx k txStopped 0 0
      else if !descOk d then s.completeTx k txBadDesc 0 0
      else act d

def execTxDescData (ring : Nat) (s : State) : Host.Outcome State Fault Refusal :=
  finish (s.txDesc ring 1 (s.dataDesc ring))

def execTxDescCmd (ring : Nat) (s : State) : Host.Outcome State Fault Refusal :=
  finish (s.txDesc ring 2 (s.cmdDesc ring))

def execTxDescBridge (ring : Nat) (s : State) : Host.Outcome State Fault Refusal :=
  finish (s.txDesc ring 3 (s.bridgeDesc ring))

end Sys2Proof.Machine
end

