-- ==== Sys2Proof/Machine/Registers.lean ====
section
/-! DEFINITION. Register writes by address, command registers and access ports among them (R14–R20, R34, R276, R346). -/

namespace Sys2Proof.Machine

open Reg

/-- Base addresses of the blocks that have a command register. -/
def commandBases : List Nat :=
  [0, 0x3000, 0x4000, 0x5000, 0xA000, 0xB000, 0xC000, 0x10000, 0x30000, 0x3C000, 0x3E000] ++ linePorts.map lnBase
    ++ canChannels.map canBase

/-- The block whose command register lies at an address. -/
def commandAt (a : Nat) : Option Nat := commandBases.find? (fun b => cmdAddr b == a)

/-- The access port whose BRG_APp_REQ lies at an address. -/
def accessPortAt (a : Nat) : Option Nat := (List.range 8).find? (fun p => 0x30100 + 0x20 * p == a)

/-- A write of a command register issues the command (R34). A RESTART samples the straps as they stand. -/
def State.commandWrite (s : State) (req : Requester) (base v : Nat) : State :=
  let code := v % 256
  let arg := bits v 16 16
  if base = 0 ∧ code = 0x10 then s.debugOpen (.reg req) arg
  else
    let (st, s) := s.issue (.reg req) s.glb.bootselPins base code arg
    s.emit (.pathStatus (.reg req) (cmdAddr base) st)

/-- A write of BRG_APp_REQ; OP 0 is ignored (R276). -/
def State.accessPortWrite (s : State) (req : Requester) (p v : Nat) : State :=
  if v % 4 = 0 ∧ req = .pf0 ∧ !s.pf0ReadOnly then s else s.apRequest req p v (v % 4)

/-- A write by address. PF1's addresses are its own (R304). -/
def State.writeAt (s : State) (req : Requester) (a size v : Nat) : State :=
  if req = .pf1 ∨ size ≠ 4 then s.writeStep req a size v
  else match commandAt a, accessPortAt a with
    | some base, _ => s.commandWrite req base v
    | none, some p => s.accessPortWrite req p v
    | none, none =>
      let s := s.writeStep req a size v
      if a = INA_BDR_CFG_SW_MODE.key / 32 * 4 then s.gForce else s

def execRegisterWrite (req : Requester) (addr size value : Nat) (s : State) : Host.Outcome State Fault Refusal :=
  finish (s.writeAt req addr size value)

/-- The 64-bit register whose lower (word 0) or upper (word 1) word lies at an address. -/
def State.reg64At (s : State) (req : Requester) (a word : Nat) : Bool :=
  match s.reach req a with
  | some h => h.row.width == 64 && h.word == word && a % 4 == 0
  | none => false

def execReg64LowerWordWrite (req : Requester) (addr value : Nat) (s : State) : Host.Outcome State Fault Refusal :=
  finish (if s.reg64At req addr 0 then s.writeStep req addr 4 value else s)

def execReg64UpperWordWrite (req : Requester) (addr value : Nat) (s : State) : Host.Outcome State Fault Refusal :=
  finish (if s.reg64At req addr 1 then s.writeStep req addr 4 value else s)

end Sys2Proof.Machine
end

