-- ==== Sys2Proof/Machine/Dispatch.lean ====
section
/-! DEFINITION. Every command of the table and the meaning it has. -/

namespace Sys2Proof.Machine

/-- The effect of a command on everything but the queue. -/
def exec (i : Instr) (s : State) : Host.Outcome State Fault Refusal :=
  match i with
  | .registerWrite req addr size value => Sys2Proof.Machine.execRegisterWrite req addr size value s
  | .reg64LowerWordWrite req addr value => Sys2Proof.Machine.execReg64LowerWordWrite req addr value s
  | .reg64UpperWordWrite req addr value => Sys2Proof.Machine.execReg64UpperWordWrite req addr value s
  | .reg64LowerWordRead req addr => Sys2Proof.Machine.execReg64LowerWordRead req addr s
  | .wideRegisterWord0Read req addr => Sys2Proof.Machine.execWideRegisterWord0Read req addr s
  | .readClearAccess req addr size => Sys2Proof.Machine.execReadClearAccess req addr size s
  | .unperformedAccess req write addr byteEnables => Sys2Proof.Machine.execUnperformedAccess req write addr byteEnables s
  | .restart path arg straps => Sys2Proof.Machine.execRestart path arg straps s
  | .enterSafe path arg => Sys2Proof.Machine.execEnterSafe path arg s
  | .configDone path arg => Sys2Proof.Machine.execConfigDone path arg s
  | .configFetchDone image => Sys2Proof.Machine.execConfigFetchDone image s
  | .enterTest path arg => Sys2Proof.Machine.execEnterTest path arg s
  | .sleepVote path arg => Sys2Proof.Machine.execSleepVote path arg s
  | .configStore path arg => Sys2Proof.Machine.execConfigStore path arg s
  | .configStoreDone image => Sys2Proof.Machine.execConfigStoreDone image s
  | .debugOpen path arg => Sys2Proof.Machine.execDebugOpen path arg s
  | .dbgToken tag => Sys2Proof.Machine.execDbgToken tag s
  | .authBusyEnd => Sys2Proof.Machine.execAuthBusyEnd s
  | .lcPersonalize path arg => Sys2Proof.Machine.execLcPersonalize path arg s
  | .lcField path arg => Sys2Proof.Machine.execLcField path arg s
  | .lcReturn path arg => Sys2Proof.Machine.execLcReturn path arg s
  | .lcScrap path arg => Sys2Proof.Machine.execLcScrap path arg s
  | .powerOn => Sys2Proof.Machine.execPowerOn s
  | .resetNAssert => Sys2Proof.Machine.execResetNAssert s
  | .internalResetRelease straps => Sys2Proof.Machine.execInternalResetRelease straps s
  | .bootOtpReadDone => Sys2Proof.Machine.execBootOtpReadDone s
  | .bootSelftestDone pass failedChannels recordEcc => Sys2Proof.Machine.execBootSelftestDone pass failedChannels recordEcc s
  | .pcieEndpointReady speed width => Sys2Proof.Machine.execPcieEndpointReady speed width s
  | .bootImageVerified => Sys2Proof.Machine.execBootImageVerified s
  | .bootEnd => Sys2Proof.Machine.execBootEnd s
  | .debugWaitTimeout => Sys2Proof.Machine.execDebugWaitTimeout s
  | .recorderBootScan => Sys2Proof.Machine.execRecorderBootScan s
  | .wakeBootEnd selftestPass resumeCrcOk => Sys2Proof.Machine.execWakeBootEnd selftestPass resumeCrcOk s
  | .linkLossOfSignal port => Sys2Proof.Machine.execLinkLossOfSignal port s
  | .linkCodeError port alignmentLost => Sys2Proof.Machine.execLinkCodeError port alignmentLost s
  | .signalDetect port => Sys2Proof.Machine.execSignalDetect port s
  | .acquireSettingTimer port eye => Sys2Proof.Machine.execAcquireSettingTimer port eye s
  | .acquireTimeout port => Sys2Proof.Machine.execAcquireTimeout port s
  | .rxPolarityDetect port => Sys2Proof.Machine.execRxPolarityDetect port s
  | .linkUp port => Sys2Proof.Machine.execLinkUp port s
  | .shadowUpdate port ctle taps eye => Sys2Proof.Machine.execShadowUpdate port ctle taps eye s
  | .calTimeout port => Sys2Proof.Machine.execCalTimeout port s
  | .prelockEqStep port => Sys2Proof.Machine.execPrelockEqStep port s
  | .keepalivePulse port => Sys2Proof.Machine.execKeepalivePulse port s
  | .keepaliveTimeout port => Sys2Proof.Machine.execKeepaliveTimeout port s
  | .pairShortDetect port shield dist rho => Sys2Proof.Machine.execPairShortDetect port shield dist rho s
  | .pairOpenDetect port dist rho => Sys2Proof.Machine.execPairOpenDetect port dist rho s
  | .pairSwapDetect port => Sys2Proof.Machine.execPairSwapDetect port s
  | .commonModeDetect port vcm => Sys2Proof.Machine.execCommonModeDetect port vcm s
  | .pairFaultClear port condition => Sys2Proof.Machine.execPairFaultClear port condition s
  | .echoScanDone port dist rho => Sys2Proof.Machine.execEchoScanDone port dist rho s
  | .hopReportReceive port report => Sys2Proof.Machine.execHopReportReceive port report s
  | .hopNoticeReceive port notice => Sys2Proof.Machine.execHopNoticeReceive port notice s
  | .calibrationEpoch receiving => Sys2Proof.Machine.execCalibrationEpoch receiving s
  | .lateLineTimeout line => Sys2Proof.Machine.execLateLineTimeout line s
  | .freeEpoch => Sys2Proof.Machine.execFreeEpoch s
  | .deferredRxChange port => Sys2Proof.Machine.execDeferredRxChange port s
  | .recalibrate path port arg => Sys2Proof.Machine.execRecalibrate path port arg s
  | .setDelayBase path port arg => Sys2Proof.Machine.execSetDelayBase path port arg s
  | .echoReset path port arg => Sys2Proof.Machine.execEchoReset path port arg s
  | .kaTest path port arg => Sys2Proof.Machine.execKaTest path port arg s
  | .kaTestEnd port reachedSleep => Sys2Proof.Machine.execKaTestEnd port reachedSleep s
  | .endNotLinkedHold side => Sys2Proof.Machine.execEndNotLinkedHold side s
  | .helloReceive port frame => Sys2Proof.Machine.execHelloReceive port frame s
  | .helloRepeat port => Sys2Proof.Machine.execHelloRepeat port s
  | .coupleSenseDebounced side level => Sys2Proof.Machine.execCoupleSenseDebounced side level s
  | .cabActiveDebounced level => Sys2Proof.Machine.execCabActiveDebounced level s
  | .inaugurate path arg => Sys2Proof.Machine.execInaugurate path arg s
  | .settleEnd => Sys2Proof.Machine.execSettleEnd s
  | .alertReceive port frame => Sys2Proof.Machine.execAlertReceive port frame s
  | .discReceive port frame => Sys2Proof.Machine.execDiscReceive port frame s
  | .retReceive port frame => Sys2Proof.Machine.execRetReceive port frame s
  | .inaugCommitReceive port frame => Sys2Proof.Machine.execInaugCommitReceive port frame s
  | .doneReceive port frame => Sys2Proof.Machine.execDoneReceive port frame s
  | .runRestartWaitEnd => Sys2Proof.Machine.execRunRestartWaitEnd s
  | .runTimeout => Sys2Proof.Machine.execRunTimeout s
  | .failedRetry => Sys2Proof.Machine.execFailedRetry s
  | .graceEnd => Sys2Proof.Machine.execGraceEnd s
  | .hopdlySend => Sys2Proof.Machine.execHopdlySend s
  | .hopdlyReceive frame => Sys2Proof.Machine.execHopdlyReceive frame s
  | .cycleFrameEmit lateA lateB => Sys2Proof.Machine.execCycleFrameEmit lateA lateB s
  | .cycleFrameOutbound port frame rx tx errorAt => Sys2Proof.Machine.execCycleFrameOutbound port frame rx tx errorAt s
  | .cycleFrameInbound port frame rx tx errorAt => Sys2Proof.Machine.execCycleFrameInbound port frame rx tx errorAt s
  | .declare path arg => Sys2Proof.Machine.execDeclare path arg s
  | .slotDeclRepeat => Sys2Proof.Machine.execSlotDeclRepeat s
  | .slotDeclReceive frame => Sys2Proof.Machine.execSlotDeclReceive frame s
  | .slotMapReceive frame => Sys2Proof.Machine.execSlotMapReceive frame s
  | .mapRepeat => Sys2Proof.Machine.execMapRepeat s
  | .mapReissue path arg => Sys2Proof.Machine.execMapReissue path arg s
  | .msgWindowOpen port => Sys2Proof.Machine.execMsgWindowOpen port s
  | .msgWindowClose port => Sys2Proof.Machine.execMsgWindowClose port s
  | .headerLossTimeout => Sys2Proof.Machine.execHeaderLossTimeout s
  | .msgFrameReceive port frame codeGroups => Sys2Proof.Machine.execMsgFrameReceive port frame codeGroups s
  | .msgTransmitStart port => Sys2Proof.Machine.execMsgTransmitStart port s
  | .msgQueueAgeExpiry port cls => Sys2Proof.Machine.execMsgQueueAgeExpiry port cls s
  | .dupRecordLapse src prio => Sys2Proof.Machine.execDupRecordLapse src prio s
  | .holdoverEntry => Sys2Proof.Machine.execHoldoverEntry s
  | .holdoverExpiry => Sys2Proof.Machine.execHoldoverExpiry s
  | .ppsInEdge t => Sys2Proof.Machine.execPpsInEdge t s
  | .ppsInLost => Sys2Proof.Machine.execPpsInLost s
  | .ppsOutEdge => Sys2Proof.Machine.execPpsOutEdge s
  | .ppsOutPulseEnd => Sys2Proof.Machine.execPpsOutPulseEnd s
  | .step path arg => Sys2Proof.Machine.execStep path arg s
  | .stepApply => Sys2Proof.Machine.execStepApply s
  | .clearValid path arg => Sys2Proof.Machine.execClearValid path arg s
  | .timNowNsRead req => Sys2Proof.Machine.execTimNowNsRead req s
  | .consistFrameReceive port frame rx => Sys2Proof.Machine.execConsistFrameReceive port frame rx s
  | .consistActionPoint frameId => Sys2Proof.Machine.execConsistActionPoint frameId s
  | .guardianFrameStart port frame rx => Sys2Proof.Machine.execGuardianFrameStart port frame rx s
  | .guardianCut port => Sys2Proof.Machine.execGuardianCut port s
  | .guardianBlankEnd port => Sys2Proof.Machine.execGuardianBlankEnd port s
  | .guardianIdleTimeout => Sys2Proof.Machine.execGuardianIdleTimeout s
  | .consistNitCorrection => Sys2Proof.Machine.execConsistNitCorrection s
  | .consistCycleStart => Sys2Proof.Machine.execConsistCycleStart s
  | .listenTimerExpiry => Sys2Proof.Machine.execListenTimerExpiry s
  | .consistLinkDown port codeError => Sys2Proof.Machine.execConsistLinkDown port codeError s
  | .consistLinkUp port => Sys2Proof.Machine.execConsistLinkUp port s
  | .cstRejoin path arg => Sys2Proof.Machine.execCstRejoin path arg s
  | .portReset path arg => Sys2Proof.Machine.execPortReset path arg s
  | .canFrameReceive channel frame sof => Sys2Proof.Machine.execCanFrameReceive channel frame sof s
  | .canRxError channel kind add early => Sys2Proof.Machine.execCanRxError channel kind add early s
  | .canProtocolException channel => Sys2Proof.Machine.execCanProtocolException channel s
  | .canTxSelect channel => Sys2Proof.Machine.execCanTxSelect channel s
  | .canTxSuccess channel tdcv => Sys2Proof.Machine.execCanTxSuccess channel tdcv s
  | .canTxArbLost channel => Sys2Proof.Machine.execCanTxArbLost channel s
  | .canTxError channel kind add tdcv loop => Sys2Proof.Machine.execCanTxError channel kind add tdcv loop s
  | .canRecessive11 channel => Sys2Proof.Machine.execCanRecessive11 channel s
  | .canStart path channel arg => Sys2Proof.Machine.execCanStart path channel arg s
  | .canStop path channel arg => Sys2Proof.Machine.execCanStop path channel arg s
  | .canCancel path channel arg => Sys2Proof.Machine.execCanCancel path channel arg s
  | .canCfgWrite req addr size value => Sys2Proof.Machine.execCanCfgWrite req addr size value s
  | .canDominantTimeout channel => Sys2Proof.Machine.execCanDominantTimeout channel s
  | .canDominantClear channel => Sys2Proof.Machine.execCanDominantClear channel s
  | .canTtReferenceReceive channel frame sof => Sys2Proof.Machine.execCanTtReferenceReceive channel frame sof s
  | .canTtReferenceSend channel => Sys2Proof.Machine.execCanTtReferenceSend channel s
  | .canTtReferenceMissing channel => Sys2Proof.Machine.execCanTtReferenceMissing channel s
  | .canTtWindowStart channel window busFree => Sys2Proof.Machine.execCanTtWindowStart channel window busFree s
  | .canTtTxenExpiry channel window => Sys2Proof.Machine.execCanTtTxenExpiry channel window s
  | .sliceService slice pins ecc => Sys2Proof.Machine.execSliceService slice pins ecc s
  | .lockstepMismatch => Sys2Proof.Machine.execLockstepMismatch s
  | .flowEnable path arg => Sys2Proof.Machine.execFlowEnable path arg s
  | .flowDisable path arg => Sys2Proof.Machine.execFlowDisable path arg s
  | .sliceApply path arg => Sys2Proof.Machine.execSliceApply path arg s
  | .sliceTableSwap => Sys2Proof.Machine.execSliceTableSwap s
  | .flowContextWrite req addr size value => Sys2Proof.Machine.execFlowContextWrite req addr size value s
  | .staleFlowRun flow => Sys2Proof.Machine.execStaleFlowRun flow s
  | .channelTest channel pass => Sys2Proof.Machine.execChannelTest channel pass s
  | .thermalMeasure t0 t1 => Sys2Proof.Machine.execThermalMeasure t0 t1 s
  | .apReqWr req port value => Sys2Proof.Machine.execApReqWr req port value s
  | .apReqRd req port value => Sys2Proof.Machine.execApReqRd req port value s
  | .apReqUnlock req port value => Sys2Proof.Machine.execApReqUnlock req port value s
  | .apStatusRead req port => Sys2Proof.Machine.execApStatusRead req port s
  | .postedEntryFree => Sys2Proof.Machine.execPostedEntryFree s
  | .brgWrRequest frame dma => Sys2Proof.Machine.execBrgWrRequest frame dma s
  | .brgRdRequest frame dma => Sys2Proof.Machine.execBrgRdRequest frame dma s
  | .brgUnlockRequest frame => Sys2Proof.Machine.execBrgUnlockRequest frame s
  | .sbPollReceive frame => Sys2Proof.Machine.execSbPollReceive frame s
  | .rdDataReceive frame => Sys2Proof.Machine.execRdDataReceive frame s
  | .errReceive frame => Sys2Proof.Machine.execErrReceive frame s
  | .lockRetryReceive frame => Sys2Proof.Machine.execLockRetryReceive frame s
  | .lockFreeReceive frame => Sys2Proof.Machine.execLockFreeReceive frame s
  | .sbDataReceive frame => Sys2Proof.Machine.execSbDataReceive frame s
  | .faultNoticeReceive frame => Sys2Proof.Machine.execFaultNoticeReceive frame s
  | .bseqGapExpiry origin window => Sys2Proof.Machine.execBseqGapExpiry origin window s
  | .orderStateLapse origin window => Sys2Proof.Machine.execOrderStateLapse origin window s
  | .responseTimeout who window bseq => Sys2Proof.Machine.execResponseTimeout who window bseq s
  | .readDiscardTimeout port => Sys2Proof.Machine.execReadDiscardTimeout port s
  | .targetLockTimeout => Sys2Proof.Machine.execTargetLockTimeout s
  | .lockRetryTimer who window bseq => Sys2Proof.Machine.execLockRetryTimer who window bseq s
  | .winEnable path arg => Sys2Proof.Machine.execWinEnable path arg s
  | .winDisable path arg => Sys2Proof.Machine.execWinDisable path arg s
  | .doorbellPoll group page read => Sys2Proof.Machine.execDoorbellPoll group page read s
  | .fetchComplete group => Sys2Proof.Machine.execFetchComplete group s
  | .txDescData ring => Sys2Proof.Machine.execTxDescData ring s
  | .txDescCmd ring => Sys2Proof.Machine.execTxDescCmd ring s
  | .txDescBridge ring => Sys2Proof.Machine.execTxDescBridge ring s
  | .eventEntryWrite group event => Sys2Proof.Machine.execEventEntryWrite group event s
  | .msixCoalesceTimeout ring => Sys2Proof.Machine.execMsixCoalesceTimeout ring s
  | .msixUnmask function vector => Sys2Proof.Machine.execMsixUnmask function vector s
  | .ringEnable req ring value => Sys2Proof.Machine.execRingEnable req ring value s
  | .ringDisable req ring value => Sys2Proof.Machine.execRingDisable req ring value s
  | .ringStopDone ring => Sys2Proof.Machine.execRingStopDone ring s
  | .pcieLinkDown => Sys2Proof.Machine.execPcieLinkDown s
  | .pcieHotReset => Sys2Proof.Machine.execPcieHotReset s
  | .pf1Flr => Sys2Proof.Machine.execPf1Flr s
  | .busMasterDisable function => Sys2Proof.Machine.execBusMasterDisable function s
  | .d3hotEntry function => Sys2Proof.Machine.execD3hotEntry function s
  | .pePerstAssert => Sys2Proof.Machine.execPePerstAssert s
  | .ghBusRead addr early => Sys2Proof.Machine.execGhBusRead addr early s
  | .ghHighWordRead addr early => Sys2Proof.Machine.execGhHighWordRead addr early s
  | .ghBusWrite addr value early => Sys2Proof.Machine.execGhBusWrite addr value early s
  | .ghHighWordWrite addr value early => Sys2Proof.Machine.execGhHighWordWrite addr value early s
  | .ghLowWordWrite addr value early => Sys2Proof.Machine.execGhLowWordWrite addr value early s
  | .ssrLowWordRead early => Sys2Proof.Machine.execSsrLowWordRead early s
  | .ivrLowWordRead early => Sys2Proof.Machine.execIvrLowWordRead early s
  | .eld3LowWordRead early => Sys2Proof.Machine.execEld3LowWordRead early s
  | .legacySoftReset lower => Sys2Proof.Machine.execLegacySoftReset lower s
  | .nodeEnableWrite lower => Sys2Proof.Machine.execNodeEnableWrite lower s
  | .elogClear lower => Sys2Proof.Machine.execElogClear lower s
  | .wdrWrite lower => Sys2Proof.Machine.execWdrWrite lower s
  | .mbcHandover mailbox lower => Sys2Proof.Machine.execMbcHandover mailbox lower s
  | .gtnCanRunWrite channel lower => Sys2Proof.Machine.execGtnCanRunWrite channel lower s
  | .gtnWatchdogExpiry => Sys2Proof.Machine.execGtnWatchdogExpiry s
  | .ghIrqReleaseEnd => Sys2Proof.Machine.execGhIrqReleaseEnd s
  | .gtnTick => Sys2Proof.Machine.execGtnTick s
  | .ghBootHoldEnd => Sys2Proof.Machine.execGhBootHoldEnd s
  | .gtnCanRx channel frame sof => Sys2Proof.Machine.execGtnCanRx channel frame sof s
  | .gtnCanTxDone channel => Sys2Proof.Machine.execGtnCanTxDone channel s
  | .claimReceive port telegram => Sys2Proof.Machine.execClaimReceive port telegram s
  | .nameReceive port telegram => Sys2Proof.Machine.execNameReceive port telegram s
  | .nameAckReceive port telegram => Sys2Proof.Machine.execNameAckReceive port telegram s
  | .topologyReceive port telegram => Sys2Proof.Machine.execTopologyReceive port telegram s
  | .periodReceive port telegram => Sys2Proof.Machine.execPeriodReceive port telegram s
  | .pdPollReceive port telegram => Sys2Proof.Machine.execPdPollReceive port telegram s
  | .pdDataReceive port telegram => Sys2Proof.Machine.execPdDataReceive port telegram s
  | .msgPollReceive port telegram => Sys2Proof.Machine.execMsgPollReceive port telegram s
  | .gMsgReceive port telegram => Sys2Proof.Machine.execGMsgReceive port telegram s
  | .msgAckReceive port telegram => Sys2Proof.Machine.execMsgAckReceive port telegram s
  | .noneReceive port telegram => Sys2Proof.Machine.execNoneReceive port telegram s
  | .gResetReceive port telegram => Sys2Proof.Machine.execGResetReceive port telegram s
  | .claimBackoffExpiry => Sys2Proof.Machine.execClaimBackoffExpiry s
  | .claimWinExpiry => Sys2Proof.Machine.execClaimWinExpiry s
  | .answerTimeout => Sys2Proof.Machine.execAnswerTimeout s
  | .periodTimer => Sys2Proof.Machine.execPeriodTimer s
  | .periodMissingTimeout => Sys2Proof.Machine.execPeriodMissingTimeout s
  | .gLineSwitch side => Sys2Proof.Machine.execGLineSwitch side s
  | .gPortDown port => Sys2Proof.Machine.execGPortDown port s
  | .borderNamingTimeout => Sys2Proof.Machine.execBorderNamingTimeout s
  | .refSwTake level => Sys2Proof.Machine.execRefSwTake level s
  | .interlockClaim => Sys2Proof.Machine.execInterlockClaim s
  | .interlockFault => Sys2Proof.Machine.execInterlockFault s
  | .refereeSyncSend => Sys2Proof.Machine.execRefereeSyncSend s
  | .syncReceive sync => Sys2Proof.Machine.execSyncReceive sync s
  | .refereeEvaluate report0 report1 => Sys2Proof.Machine.execRefereeEvaluate report0 report1 s
  | .aliveWatchTimeout member => Sys2Proof.Machine.execAliveWatchTimeout member s
  | .refereeAdoptEnd report0 report1 => Sys2Proof.Machine.execRefereeAdoptEnd report0 report1 s
  | .refLost => Sys2Proof.Machine.execRefLost s
  | .select path arg => Sys2Proof.Machine.execSelect path arg s
  | .resync path arg => Sys2Proof.Machine.execResync path arg s
  | .pairLinkDown => Sys2Proof.Machine.execPairLinkDown s
  | .pairLinkUp => Sys2Proof.Machine.execPairLinkUp s
  | .stateTransferDone state => Sys2Proof.Machine.execStateTransferDone state s
  | .pairUpdateReceive update => Sys2Proof.Machine.execPairUpdateReceive update s
  | .pairTestStepEnd => Sys2Proof.Machine.execPairTestStepEnd s
  | .variantBDeadline => Sys2Proof.Machine.execVariantBDeadline s
  | .pairBootFinalStep interlockFree => Sys2Proof.Machine.execPairBootFinalStep interlockFree s
  | .sleepReqReceive msg => Sys2Proof.Machine.execSleepReqReceive msg s
  | .sleepCallReceive msg => Sys2Proof.Machine.execSleepCallReceive msg s
  | .sleepVoteReceive msg => Sys2Proof.Machine.execSleepVoteReceive msg s
  | .sleepCommitReceive msg => Sys2Proof.Machine.execSleepCommitReceive msg s
  | .sleepCancelReceive msg => Sys2Proof.Machine.execSleepCancelReceive msg s
  | .sleepStayReceive msg => Sys2Proof.Machine.execSleepStayReceive msg s
  | .sleepInstant => Sys2Proof.Machine.execSleepInstant s
  | .sleepEntryDone => Sys2Proof.Machine.execSleepEntryDone s
  | .wakeLineActivity port => Sys2Proof.Machine.execWakeLineActivity port s
  | .wakeCanPattern channel => Sys2Proof.Machine.execWakeCanPattern channel s
  | .wakePin pin active => Sys2Proof.Machine.execWakePin pin active s
  | .wakeTimer => Sys2Proof.Machine.execWakeTimer s
  | .falseWakeTimeout => Sys2Proof.Machine.execFalseWakeTimeout s
  | .falseWakeFallback => Sys2Proof.Machine.execFalseWakeFallback s
  | .wakeLinkHoldEnd => Sys2Proof.Machine.execWakeLinkHoldEnd s
  | .faultLatch lines => Sys2Proof.Machine.execFaultLatch lines s
  | .faultLineDeassert source => Sys2Proof.Machine.execFaultLineDeassert source s
  | .reactionTimerExpiry source => Sys2Proof.Machine.execReactionTimerExpiry source s
  | .fltForceWrite req value => Sys2Proof.Machine.execFltForceWrite req value s
  | .fltRawClear req mask => Sys2Proof.Machine.execFltRawClear req mask s
  | .aliveHalfPeriod => Sys2Proof.Machine.execAliveHalfPeriod s
  | .latentTest checker pass => Sys2Proof.Machine.execLatentTest checker pass s
  | .recorderEventEnqueue base code payload => Sys2Proof.Machine.execRecorderEventEnqueue base code payload s
  | .recordWriteDone readBackOk => Sys2Proof.Machine.execRecordWriteDone readBackOk s
  | .recRdIdxWrite req index => Sys2Proof.Machine.execRecRdIdxWrite req index s
  | .recRdData7HighRead req => Sys2Proof.Machine.execRecRdData7HighRead req s
  | .recClear path arg => Sys2Proof.Machine.execRecClear path arg s
  | .recClearDone => Sys2Proof.Machine.execRecClearDone s
  | .keyWrite path arg => Sys2Proof.Machine.execKeyWrite path arg s
  | .keyWriteDone => Sys2Proof.Machine.execKeyWriteDone s
  | .keyErase path arg => Sys2Proof.Machine.execKeyErase path arg s
  | .keyEraseDone => Sys2Proof.Machine.execKeyEraseDone s
  | .keySwitch path arg => Sys2Proof.Machine.execKeySwitch path arg s
  | .keySwitchPoint => Sys2Proof.Machine.execKeySwitchPoint s
  | .tamperAlarm sources => Sys2Proof.Machine.execTamperAlarm sources s
  | .tamperClear path arg => Sys2Proof.Machine.execTamperClear path arg s
  | .beaconSend => Sys2Proof.Machine.execBeaconSend s
  | .beaconForward beacon rx tx => Sys2Proof.Machine.execBeaconForward beacon rx tx s
  | .beaconReturn beacon => Sys2Proof.Machine.execBeaconReturn beacon s
  | .stackOrphanTimeout => Sys2Proof.Machine.execStackOrphanTimeout s
  | .stackFrameReceive frame => Sys2Proof.Machine.execStackFrameReceive frame s
  | .stackLaneDown => Sys2Proof.Machine.execStackLaneDown s
  | .stackLaneUp => Sys2Proof.Machine.execStackLaneUp s
  | .bypass path arg => Sys2Proof.Machine.execBypass path arg s
  | .stkRejoin path arg => Sys2Proof.Machine.execStkRejoin path arg s
  | .vinOvervoltage millivolts => Sys2Proof.Machine.execVinOvervoltage millivolts s
  | .vinSwitchOpen millivolts => Sys2Proof.Machine.execVinSwitchOpen millivolts s
  | .regulatorLimit regulator => Sys2Proof.Machine.execRegulatorLimit regulator s
  | .vbatLow millivolts => Sys2Proof.Machine.execVbatLow millivolts s
  | .vbatSwitchover => Sys2Proof.Machine.execVbatSwitchover s
  | .brownOut => Sys2Proof.Machine.execBrownOut s
  | .brownOutRecovery => Sys2Proof.Machine.execBrownOutRecovery s
  | .uvlo => Sys2Proof.Machine.execUvlo s
  | .lcProgramDone cells straps => Sys2Proof.Machine.execLcProgramDone cells straps s
  | .pePerstDeassert => Sys2Proof.Machine.execPePerstDeassert s
  | .d0Return function => Sys2Proof.Machine.execD0Return function s
  | .busMasterEnable function msix => Sys2Proof.Machine.execBusMasterEnable function msix s
  | .vinSwitchClose millivolts => Sys2Proof.Machine.execVinSwitchClose millivolts s
  | .alwaysOnPowerLoss => Sys2Proof.Machine.execAlwaysOnPowerLoss s
  | .gTelegramDiscard port telegram => Sys2Proof.Machine.execGTelegramDiscard port telegram s
  | .stackWakeActivity => Sys2Proof.Machine.execStackWakeActivity s
  | .canTtFirstReference channel => Sys2Proof.Machine.execCanTtFirstReference channel s
  | .jtagTestInstruction ports scan => Sys2Proof.Machine.execJtagTestInstruction ports scan s

end Sys2Proof.Machine
end

