-- ==== Sys2Proof/Safety.lean ====
section
/-! DEFINITION. What counts as a safe run, in the terms that statements use: how a command answers, what no
command undoes, and when nothing of a step's end falls due. -/

namespace Sys2Proof.Machine

/-- A command's effect: exec answers the settled state of some u, and P holds of u. `State.settled` is the end
of the step, the same for every command: the overflow line, an escalation, ports and pins. -/
def Gives (c : Instr) (s : State) (P : State → Prop) : Prop := ∃ u, exec c s = .next u.settled ∧ P u

/-- No cell of a life-cycle fuse field is unprogrammed (R51). -/
def OtpState.cellsKept (a b : OtpState) : Prop :=
  a.pers ≤ b.pers ∧ a.field ≤ b.field ∧ a.ret ≤ b.ret ∧ a.scrap ≤ b.scrap

/-- The register store lists its fields in rising order, each once. -/
abbrev State.regsSorted (s : State) : Prop := tabSorted s.regs = true

/-- The registers in which the recorder, the fault collector and the rings of the host interface show reports: the
FLT_ and REC_ blocks, the ring registers and the MSI-X pending bits. -/
def reportField (f : Field) : Bool := [0x2, 0x3, 0x39, 0x3A, 0x3B, 0x303].contains (f.key / 32768)

/-- From a to b only reports were made: events into the recorder's queue, lines of the fault collector, entries and
completions on host rings. Every other register, and everything else that the state holds, is as it was. -/
structure Reports (a b : State) : Prop where
  get : ∀ f, reportField f = false → b.get f = a.get f
  rest : b = { a with regs := b.regs, mram := { a.mram with cells := b.mram.cells }, rcd := b.rcd, rates := b.rates, flt := b.flt, hrg := { a.hrg with rings := b.hrg.rings, held := b.hrg.held }, out := b.out }

/-- A command answers, up to reports, the state t, settled: t says every other effect, and with it the frame. -/
def Does (c : Instr) (s t : State) : Prop := Gives c s (Reports t)

/-- The bit addresses of the fields listed. -/
def named (l : List Field) (k : Nat) : Bool := l.any (fun f => f.key == k)

/-- The bit addresses of the bytes from a up to b. -/
def within (a b k : Nat) : Bool := decide (8 * a ≤ k) && decide (k < 8 * b)

/-- The fields listed, of instances 0 to n - 1. -/
def forEach (n : Nat) (l : List (Nat → Field)) : List Field := (List.range n).flatMap (fun i => l.map (fun f => f i))

/-- A frame: beside reports, only registers at the bit addresses r changed from s to u, and all else is as in t, which is s with
the parts that may change taken from u. -/
structure Frame (s u : State) (r : Nat → Bool) (t : State) : Prop where
  get : ∀ f, reportField f = false → r f.key = false → u.get f = s.get f
  rest : u = { t with regs := u.regs, mram := { t.mram with cells := u.mram.cells }, rcd := u.rcd, rates := u.rates, flt := u.flt, hrg := { t.hrg with rings := u.hrg.rings, held := u.hrg.held }, out := u.out }

/-- The state in which an accepted command takes effect: after its checks, its code and status reported, a command
that pends listed among those in progress (R34, R35, R50). -/
def State.begun (s : State) (c : CmdSpec) (path : Path) (arg : Nat) : State :=
  ((s.afterAuth c .ok).acceptCmd { c with run := fun _ t => t } path (arg % 65536)).2

/-- The checks of R35 pass. -/
abbrev State.accepts (s : State) (c : CmdSpec) (path : Path) (arg : Nat) : Prop := s.checkCmd c path (arg % 65536) = .ok

/-- Neither the overflow line nor an escalation is due at the end of the step. -/
abbrev State.calm (s : State) : Prop := s.rcd.overflow = false ∧ s.flt.escalate = none

end Sys2Proof.Machine
end

