-- ==== Sys2Proof/WellFormed.lean ====
section
/-! DEFINITION. Which commands are well formed: every operand lies in the range its port number, register, pin
or frame field can hold. A frame that is damaged or unexpected is well formed; one whose field is wider than the
field is not. The meanings are total: on an operand out of range the machine is as it was. -/

namespace Sys2Proof

/-- A bridge origin is a train address and a window number (R19). -/
def reqWf : Requester → Bool
  | .pf0 => true
  | .pf1 => true
  | .flow => true
  | .bridge origin window => decide (origin < 2 ^ 16) && decide (window < 32)

def pathWf : Path → Bool
  | .reg r => reqWf r
  | .ring _ => true
  | .dbgToken => true

/-- Table 4.2. -/
def InaFrame.wf (f : InaFrame) : Bool :=
  decide (f.kind < 2 ^ 8) && decide (f.attempt < 2 ^ 8) && decide (f.topo < 2 ^ 16) && decide (f.uid < 2 ^ 64)
    && decide (f.hash < 2 ^ 32) && decide (f.pos < 2 ^ 16) && decide (f.kept < 2 ^ 16) && decide (f.flags < 2 ^ 8)
    && decide (f.uptime < 2 ^ 32)

/-- Table 3.9. -/
def HopReport.wf (h : HopReport) : Bool :=
  decide (h.residence < 2 ^ 32) && decide (h.topo < 2 ^ 16) && decide (h.flags < 2 ^ 8)
    && decide (h.reserved < 2 ^ 8) && decide (h.crc < 2 ^ 8)

/-- Table 3.9. -/
def HopNotice.wf (d : HopNotice) : Bool :=
  decide (d.delay < 2 ^ 32) && decide (d.topo < 2 ^ 16) && decide (d.flags < 2 ^ 8)
    && decide (d.samples < 2 ^ 8) && decide (d.crc < 2 ^ 8)

/-- Table 5.1. -/
def CycleFrame.wf (f : CycleFrame) : Bool :=
  decide (f.topo < 2 ^ 16) && decide (f.cycle < 2 ^ 32) && decide (f.flags < 2 ^ 8) && decide (f.mapSeq < 2 ^ 8)
    && decide (f.bcycle < 2 ^ 16) && decide (f.slotLen < 2 ^ 16) && decide (f.timeS < 2 ^ 48)
    && decide (f.timeNs < 2 ^ 32) && decide (f.hcrc < 2 ^ 16) && decide (-(2 ^ 63) ≤ f.corr)
    && decide (f.corr < 2 ^ 63)

/-- Table 5.4. -/
def MsgFrame.wf (f : MsgFrame) : Bool :=
  decide (f.topo < 2 ^ 16) && decide (f.dst < 2 ^ 16) && decide (f.src < 2 ^ 16) && decide (f.type < 2 ^ 4)
    && decide (f.prio < 2 ^ 3) && decide (f.flags < 2 ^ 8) && decide (f.seq < 2 ^ 16) && decide (f.len < 2 ^ 12)
    && decide (f.stream < 2 ^ 16) && decide (f.crc < 2 ^ 32)

/-- Table 8.3: an 11- or 29-bit identifier, DLC 4 bits, at most 64 bytes. -/
def CanFrame.wf (f : CanFrame) : Bool :=
  decide (f.id < if f.ide then 2 ^ 29 else 2 ^ 11) && decide (f.dlc < 16) && decide (f.data.length ≤ 64)

/-- Table 7.2. -/
def ConsistFrame.wf (f : ConsistFrame) : Bool :=
  decide (f.frameId < 2 ^ 16) && decide (f.sender < 2 ^ 8) && decide (f.cycle < 2 ^ 8) && decide (f.len < 2 ^ 8)
    && decide (f.flags < 2 ^ 8) && decide (f.hcrc < 2 ^ 16) && decide (f.crc < 2 ^ 32)

/-- Table 19.2. -/
def Beacon.wf (b : Beacon) : Bool :=
  decide (b.topo < 2 ^ 16) && decide (b.pos < 2 ^ 9) && decide (b.orient < 2) && decide (b.role < 2 ^ 3)
    && decide (b.n < 2 ^ 16) && decide (b.keptLen < 2 ^ 16) && decide (b.tstate < 2 ^ 8)
    && decide (b.count < 2 ^ 32) && decide (b.timeS < 2 ^ 48) && decide (b.timeNs < 2 ^ 32)
    && decide (b.masterUid < 2 ^ 64) && decide (b.present < 2 ^ 64) && decide (b.ready < 2 ^ 64)

/-- Table 13.1. -/
def Telegram.wf (t : Telegram) : Bool :=
  decide (t.type < 2 ^ 8) && decide (t.dest < 2 ^ 8) && decide (t.src < 2 ^ 8) && decide (t.flags < 2 ^ 8)
    && decide (t.data.length < 2 ^ 8)

/-- Table 15.3. -/
def SleepMsg.wf (m : SleepMsg) : Bool :=
  decide (m.kind < 2 ^ 8) && decide (m.code < 2 ^ 8) && decide (m.voteId < 2 ^ 16) && decide (m.topo < 2 ^ 16)
    && decide (m.pos < 2 ^ 16) && decide (m.sleepAt < 2 ^ 32)

/-- Table 14.3. -/
def SyncFrame.wf (f : SyncFrame) : Bool :=
  decide (f.sel < 2) && decide (f.state < 4) && decide (f.frame < 2 ^ 16)

/-- Table 14.4. -/
def Report.wf (r : Report) : Bool :=
  decide (r.member < 2) && decide (r.mode < 8) && decide (r.sync < 4) && decide (r.seq < 2 ^ 32)
    && decide (r.cycle < 2 ^ 32) && decide (r.topo < 2 ^ 16) && decide (r.progress < 2 ^ 8)
    && decide (r.latent < 2 ^ 8) && decide (r.scrub < 2 ^ 32) && decide (r.rxChecks < 2 ^ 16)
    && decide (r.status < 2 ^ 64)

def reportInWf : ReportIn → Bool
  | .missing => true
  | .invalid => true
  | .report r => r.wf

/-- A value lies within its field. -/
def loadWf (e : Field × Nat) : Bool := decide (e.2 < 2 ^ e.1.width)

/-- Table 14.10. -/
def PairTransfer.wf (t : PairTransfer) : Bool := t.loads.all loadWf

def PairUpdate.wf (u : PairUpdate) : Bool :=
  u.loads.all loadWf && decide (u.gpio < 2 ^ 32) && u.crcs.all (fun e => decide (e.1 < 12 ∧ e.2 < 2 ^ 32))

/-- Table 2.5. -/
def Image.wf (i : Image) : Bool :=
  decide (i.magic < 2 ^ 32) && decide (i.version < 2 ^ 16) && decide (i.targetMode < 2 ^ 8)
    && decide (i.role < 2 ^ 8) && decide (i.length < 2 ^ 32) && decide (i.serial < 2 ^ 32)
    && decide (i.crc < 2 ^ 32) && decide (i.keySlot < 2 ^ 8) && (i.reserved.length == 11)
    && (i.tag.length == 32) && i.loads.all loadWf

/-- An event of R315. -/
def HostEv.wf (e : HostEv) : Bool := decide (e.code < 2 ^ 16) && decide (e.payload.length ≤ 16)

/-- Descriptors read for one ring: 32 bytes each. -/
def descriptorsWf (e : Nat × List (Option Descriptor)) : Bool :=
  decide (e.1 < 64) && e.2.all (fun d => d.all (fun x => x.bytes.length == 32))

/-- The command's operands are in range. -/
def Instr.wf : Instr → Bool
  | .registerWrite req addr size value => reqWf req && decide (addr < 2 ^ 20) && (size == 4 || size == 8) && decide (value < 2 ^ (8 * size))
  | .reg64LowerWordWrite req addr value => reqWf req && decide (addr < 2 ^ 20) && decide (value < 2 ^ 32)
  | .reg64UpperWordWrite req addr value => reqWf req && decide (addr < 2 ^ 20) && decide (value < 2 ^ 32)
  | .reg64LowerWordRead req addr => reqWf req && decide (addr < 2 ^ 20)
  | .wideRegisterWord0Read req addr => reqWf req && decide (addr < 2 ^ 20)
  | .readClearAccess req addr size => reqWf req && decide (addr < 2 ^ 20) && (size == 4 || size == 8)
  | .unperformedAccess req _ addr byteEnables => reqWf req && decide (addr < 2 ^ 20) && decide (byteEnables < 2 ^ 8)
  | .restart path arg straps => pathWf path && decide (arg < 65536) && decide (straps < 8)
  | .enterSafe path arg => pathWf path && decide (arg < 65536)
  | .configDone path arg => pathWf path && decide (arg < 65536)
  | .configFetchDone image => image.all Image.wf
  | .enterTest path arg => pathWf path && decide (arg < 65536)
  | .sleepVote path arg => pathWf path && decide (arg < 65536)
  | .configStore path arg => pathWf path && decide (arg < 65536)
  | .configStoreDone image => image.all Image.wf
  | .debugOpen path arg => pathWf path && decide (arg < 65536)
  | .dbgToken tag => decide (tag < 2 ^ 256)
  | .authBusyEnd => true
  | .lcPersonalize path arg => pathWf path && decide (arg < 65536)
  | .lcField path arg => pathWf path && decide (arg < 65536)
  | .lcReturn path arg => pathWf path && decide (arg < 65536)
  | .lcScrap path arg => pathWf path && decide (arg < 65536)
  | .powerOn => true
  | .resetNAssert => true
  | .internalResetRelease straps => decide (straps < 8)
  | .bootOtpReadDone => true
  | .bootSelftestDone _ failedChannels _ => failedChannels.all (fun c => decide (c < 129))
  | .pcieEndpointReady speed width => (decide (0 < speed) && decide (speed < 4)) && (width == 1 || width == 2)
  | .bootImageVerified => true
  | .bootEnd => true
  | .debugWaitTimeout => true
  | .recorderBootScan => true
  | .wakeBootEnd _ _ => true
  | .linkLossOfSignal port => decide (port < 4)
  | .linkCodeError port _ => decide (port < 4)
  | .signalDetect port => decide (port < 4)
  | .acquireSettingTimer port eye => decide (port < 4) && decide (eye < 256)
  | .acquireTimeout port => decide (port < 4)
  | .rxPolarityDetect port => decide (port < 4)
  | .linkUp port => decide (port < 4)
  | .shadowUpdate port ctle _ eye => decide (port < 4) && decide (ctle < 256) && decide (eye < 256)
  | .calTimeout port => decide (port < 4)
  | .prelockEqStep port => decide (port < 4)
  | .keepalivePulse port => decide (port < 4)
  | .keepaliveTimeout port => decide (port < 4)
  | .pairShortDetect port _ _ _ => decide (port < 4)
  | .pairOpenDetect port _ _ => decide (port < 4)
  | .pairSwapDetect port => decide (port < 4)
  | .commonModeDetect port _ => decide (port < 4)
  | .pairFaultClear port condition => decide (port < 4) && (decide (0 < condition) && decide (condition < 12))
  | .echoScanDone port _ _ => decide (port < 4)
  | .hopReportReceive port report => decide (port < 4) && report.wf
  | .hopNoticeReceive port notice => decide (port < 4) && notice.wf
  | .calibrationEpoch receiving => decide (receiving < 16)
  | .lateLineTimeout line => decide (line < 2)
  | .freeEpoch => true
  | .deferredRxChange port => decide (port < 4)
  | .recalibrate path port arg => pathWf path && decide (port < 4) && decide (arg < 65536)
  | .setDelayBase path port arg => pathWf path && decide (port < 4) && decide (arg < 65536)
  | .echoReset path port arg => pathWf path && decide (port < 4) && decide (arg < 65536)
  | .kaTest path port arg => pathWf path && decide (port < 4) && decide (arg < 65536)
  | .kaTestEnd port _ => decide (port < 4)
  | .endNotLinkedHold side => (side == 1 || side == 2)
  | .helloReceive port frame => decide (port < 4) && frame.wf
  | .helloRepeat port => decide (port < 4)
  | .coupleSenseDebounced side _ => (side == 1 || side == 2)
  | .cabActiveDebounced _ => true
  | .inaugurate path arg => pathWf path && decide (arg < 65536)
  | .settleEnd => true
  | .alertReceive port frame => decide (port < 4) && frame.wf
  | .discReceive port frame => decide (port < 4) && frame.wf
  | .retReceive port frame => decide (port < 4) && frame.wf
  | .inaugCommitReceive port frame => decide (port < 4) && frame.wf
  | .doneReceive port frame => decide (port < 4) && frame.wf
  | .runRestartWaitEnd => true
  | .runTimeout => true
  | .failedRetry => true
  | .graceEnd => true
  | .hopdlySend => true
  | .hopdlyReceive frame => frame.wf
  | .cycleFrameEmit _ _ => true
  | .cycleFrameOutbound port frame _ _ _ => decide (port < 4) && frame.wf
  | .cycleFrameInbound port frame _ _ _ => decide (port < 4) && frame.wf
  | .declare path arg => pathWf path && decide (arg < 65536)
  | .slotDeclRepeat => true
  | .slotDeclReceive frame => frame.wf
  | .slotMapReceive frame => frame.wf
  | .mapRepeat => true
  | .mapReissue path arg => pathWf path && decide (arg < 65536)
  | .msgWindowOpen port => decide (port < 4)
  | .msgWindowClose port => decide (port < 4)
  | .headerLossTimeout => true
  | .msgFrameReceive port frame _ => decide (port < 4) && frame.wf
  | .msgTransmitStart port => decide (port < 4)
  | .msgQueueAgeExpiry port cls => decide (port < 4) && decide (cls < 8)
  | .dupRecordLapse src prio => decide (src < 2 ^ 16) && decide (prio < 8)
  | .holdoverEntry => true
  | .holdoverExpiry => true
  | .ppsInEdge _ => true
  | .ppsInLost => true
  | .ppsOutEdge => true
  | .ppsOutPulseEnd => true
  | .step path arg => pathWf path && decide (arg < 65536)
  | .stepApply => true
  | .clearValid path arg => pathWf path && decide (arg < 65536)
  | .timNowNsRead req => reqWf req
  | .consistFrameReceive port frame _ => decide (port < 8) && frame.wf
  | .consistActionPoint frameId => decide (frameId < 577)
  | .guardianFrameStart port frame _ => decide (port < 8) && frame.wf
  | .guardianCut port => decide (port < 8)
  | .guardianBlankEnd port => decide (port < 8)
  | .guardianIdleTimeout => true
  | .consistNitCorrection => true
  | .consistCycleStart => true
  | .listenTimerExpiry => true
  | .consistLinkDown port _ => decide (port < 8)
  | .consistLinkUp port => decide (port < 8)
  | .cstRejoin path arg => pathWf path && decide (arg < 65536)
  | .portReset path arg => pathWf path && decide (arg < 65536)
  | .canFrameReceive channel frame _ => decide (channel < 12) && frame.wf
  | .canRxError channel kind _ _ => decide (channel < 12) && decide (kind < 5)
  | .canProtocolException channel => decide (channel < 12)
  | .canTxSelect channel => decide (channel < 12)
  | .canTxSuccess channel _ => decide (channel < 12)
  | .canTxArbLost channel => decide (channel < 12)
  | .canTxError channel kind _ _ _ => decide (channel < 12) && decide (kind < 5)
  | .canRecessive11 channel => decide (channel < 12)
  | .canStart path channel arg => pathWf path && decide (channel < 12) && decide (arg < 65536)
  | .canStop path channel arg => pathWf path && decide (channel < 12) && decide (arg < 65536)
  | .canCancel path channel arg => pathWf path && decide (channel < 12) && decide (arg < 65536)
  | .canCfgWrite req addr size value => reqWf req && decide (addr < 2 ^ 20) && (size == 4 || size == 8) && decide (value < 2 ^ (8 * size))
  | .canDominantTimeout channel => decide (channel < 12)
  | .canDominantClear channel => decide (channel < 12)
  | .canTtReferenceReceive channel frame _ => decide (channel < 12) && frame.wf
  | .canTtReferenceSend channel => decide (channel < 12)
  | .canTtReferenceMissing channel => decide (channel < 12)
  | .canTtWindowStart channel window _ => decide (channel < 12) && decide (window < 32)
  | .canTtTxenExpiry channel window => decide (channel < 12) && decide (window < 32)
  | .sliceService slice pins _ => decide (slice < 64) && decide (pins < 2 ^ 32)
  | .lockstepMismatch => true
  | .flowEnable path arg => pathWf path && decide (arg < 65536)
  | .flowDisable path arg => pathWf path && decide (arg < 65536)
  | .sliceApply path arg => pathWf path && decide (arg < 65536)
  | .sliceTableSwap => true
  | .flowContextWrite req addr size value => reqWf req && decide (addr < 2 ^ 20) && (size == 4 || size == 8) && decide (value < 2 ^ (8 * size))
  | .staleFlowRun flow => decide (flow < 1024)
  | .channelTest channel _ => decide (channel < 129)
  | .thermalMeasure _ _ => true
  | .apReqWr req port value => reqWf req && decide (port < 8) && decide (value < 2 ^ 64)
  | .apReqRd req port value => reqWf req && decide (port < 8) && decide (value < 2 ^ 64)
  | .apReqUnlock req port value => reqWf req && decide (port < 8) && decide (value < 2 ^ 64)
  | .apStatusRead req port => reqWf req && decide (port < 8)
  | .postedEntryFree => true
  | .brgWrRequest frame _ => frame.wf
  | .brgRdRequest frame _ => frame.wf
  | .brgUnlockRequest frame => frame.wf
  | .sbPollReceive frame => frame.wf
  | .rdDataReceive frame => frame.wf
  | .errReceive frame => frame.wf
  | .lockRetryReceive frame => frame.wf
  | .lockFreeReceive frame => frame.wf
  | .sbDataReceive frame => frame.wf
  | .faultNoticeReceive frame => frame.wf
  | .bseqGapExpiry origin window => decide (origin < 2 ^ 16) && decide (window < 32)
  | .orderStateLapse origin window => decide (origin < 2 ^ 16) && decide (window < 32)
  | .responseTimeout _ window bseq => decide (window < 32) && decide (bseq < 65536)
  | .readDiscardTimeout port => decide (port < 8)
  | .targetLockTimeout => true
  | .lockRetryTimer _ window bseq => decide (window < 32) && decide (bseq < 65536)
  | .winEnable path arg => pathWf path && decide (arg < 65536)
  | .winDisable path arg => pathWf path && decide (arg < 65536)
  | .doorbellPoll group _ read => decide (group < 4) && read.all descriptorsWf
  | .fetchComplete group => decide (group < 4)
  | .txDescData ring => decide (ring < 64)
  | .txDescCmd ring => decide (ring < 64)
  | .txDescBridge ring => decide (ring < 64)
  | .eventEntryWrite group event => decide (group < 4) && event.all HostEv.wf
  | .msixCoalesceTimeout ring => decide (ring < 132)
  | .msixUnmask function vector => decide (function < 2) && decide (vector < 64)
  | .ringEnable req ring value => reqWf req && decide (ring < 132) && decide (value < 2 ^ 32)
  | .ringDisable req ring value => reqWf req && decide (ring < 132) && decide (value < 2 ^ 32)
  | .ringStopDone ring => decide (ring < 132)
  | .pcieLinkDown => true
  | .pcieHotReset => true
  | .pf1Flr => true
  | .busMasterDisable function => decide (function < 2)
  | .d3hotEntry function => decide (function < 2)
  | .pePerstAssert => true
  | .ghBusRead addr _ => decide (addr < 2 ^ 11)
  | .ghHighWordRead addr _ => decide (addr < 2 ^ 11)
  | .ghBusWrite addr value _ => decide (addr < 2 ^ 11) && decide (value < 2 ^ 16)
  | .ghHighWordWrite addr value _ => decide (addr < 2 ^ 11) && decide (value < 2 ^ 16)
  | .ghLowWordWrite addr value _ => decide (addr < 2 ^ 11) && decide (value < 2 ^ 16)
  | .ssrLowWordRead _ => true
  | .ivrLowWordRead _ => true
  | .eld3LowWordRead _ => true
  | .legacySoftReset lower => decide (lower < 2 ^ 16)
  | .nodeEnableWrite lower => decide (lower < 2 ^ 16)
  | .elogClear lower => decide (lower < 2 ^ 16)
  | .wdrWrite lower => decide (lower < 2 ^ 16)
  | .mbcHandover mailbox lower => decide (mailbox < 16) && decide (lower < 2 ^ 16)
  | .gtnCanRunWrite channel lower => decide (channel < 2) && decide (lower < 2 ^ 16)
  | .gtnWatchdogExpiry => true
  | .ghIrqReleaseEnd => true
  | .gtnTick => true
  | .ghBootHoldEnd => true
  | .gtnCanRx channel frame _ => decide (channel < 2) && frame.wf
  | .gtnCanTxDone channel => decide (channel < 2)
  | .claimReceive port telegram => decide (port < 4) && telegram.wf
  | .nameReceive port telegram => decide (port < 4) && telegram.wf
  | .nameAckReceive port telegram => decide (port < 4) && telegram.wf
  | .topologyReceive port telegram => decide (port < 4) && telegram.wf
  | .periodReceive port telegram => decide (port < 4) && telegram.wf
  | .pdPollReceive port telegram => decide (port < 4) && telegram.wf
  | .pdDataReceive port telegram => decide (port < 4) && telegram.wf
  | .msgPollReceive port telegram => decide (port < 4) && telegram.wf
  | .gMsgReceive port telegram => decide (port < 4) && telegram.wf
  | .msgAckReceive port telegram => decide (port < 4) && telegram.wf
  | .noneReceive port telegram => decide (port < 4) && telegram.wf
  | .gResetReceive port telegram => decide (port < 4) && telegram.wf
  | .claimBackoffExpiry => true
  | .claimWinExpiry => true
  | .answerTimeout => true
  | .periodTimer => true
  | .periodMissingTimeout => true
  | .gLineSwitch side => (side == 1 || side == 2)
  | .gPortDown port => decide (port < 4)
  | .borderNamingTimeout => true
  | .refSwTake level => decide (level < 2)
  | .interlockClaim => true
  | .interlockFault => true
  | .refereeSyncSend => true
  | .syncReceive sync => sync.all SyncFrame.wf
  | .refereeEvaluate report0 report1 => reportInWf report0 && reportInWf report1
  | .aliveWatchTimeout member => decide (member < 2)
  | .refereeAdoptEnd report0 report1 => reportInWf report0 && reportInWf report1
  | .refLost => true
  | .select path arg => pathWf path && decide (arg < 65536)
  | .resync path arg => pathWf path && decide (arg < 65536)
  | .pairLinkDown => true
  | .pairLinkUp => true
  | .stateTransferDone state => state.wf
  | .pairUpdateReceive update => update.all PairUpdate.wf
  | .pairTestStepEnd => true
  | .variantBDeadline => true
  | .pairBootFinalStep _ => true
  | .sleepReqReceive msg => msg.wf
  | .sleepCallReceive msg => msg.wf
  | .sleepVoteReceive msg => msg.wf
  | .sleepCommitReceive msg => msg.wf
  | .sleepCancelReceive msg => msg.wf
  | .sleepStayReceive msg => msg.wf
  | .sleepInstant => true
  | .sleepEntryDone => true
  | .wakeLineActivity port => decide (port < 4)
  | .wakeCanPattern channel => decide (channel < 12)
  | .wakePin pin _ => decide (pin < 4)
  | .wakeTimer => true
  | .falseWakeTimeout => true
  | .falseWakeFallback => true
  | .wakeLinkHoldEnd => true
  | .faultLatch lines => decide (lines < 2 ^ 64)
  | .faultLineDeassert source => decide (source < 64)
  | .reactionTimerExpiry source => decide (source < 64)
  | .fltForceWrite req value => reqWf req && decide (value < 2 ^ 64)
  | .fltRawClear req mask => reqWf req && decide (mask < 2 ^ 64)
  | .aliveHalfPeriod => true
  | .latentTest checker _ => decide (checker < 5)
  | .recorderEventEnqueue base code _ => decide (base < 65536) && decide (code < 65536)
  | .recordWriteDone _ => true
  | .recRdIdxWrite req index => reqWf req && decide (index < 2 ^ 32)
  | .recRdData7HighRead req => reqWf req
  | .recClear path arg => pathWf path && decide (arg < 65536)
  | .recClearDone => true
  | .keyWrite path arg => pathWf path && decide (arg < 65536)
  | .keyWriteDone => true
  | .keyErase path arg => pathWf path && decide (arg < 65536)
  | .keyEraseDone => true
  | .keySwitch path arg => pathWf path && decide (arg < 65536)
  | .keySwitchPoint => true
  | .tamperAlarm sources => decide (sources < 2 ^ 64)
  | .tamperClear path arg => pathWf path && decide (arg < 65536)
  | .beaconSend => true
  | .beaconForward beacon _ _ => beacon.wf
  | .beaconReturn beacon => beacon.wf
  | .stackOrphanTimeout => true
  | .stackFrameReceive frame => frame.wf
  | .stackLaneDown => true
  | .stackLaneUp => true
  | .bypass path arg => pathWf path && decide (arg < 65536)
  | .stkRejoin path arg => pathWf path && decide (arg < 65536)
  | .vinOvervoltage _ => true
  | .vinSwitchOpen _ => true
  | .regulatorLimit regulator => decide (regulator < 4)
  | .vbatLow _ => true
  | .vbatSwitchover => true
  | .brownOut => true
  | .brownOutRecovery => true
  | .uvlo => true
  | .lcProgramDone cells straps => decide (cells < 9) && decide (straps < 8)
  | .pePerstDeassert => true
  | .d0Return function => decide (function < 2)
  | .busMasterEnable function _ => decide (function < 2)
  | .vinSwitchClose _ => true
  | .alwaysOnPowerLoss => true
  | .gTelegramDiscard port telegram => decide (port < 4) && telegram.wf
  | .stackWakeActivity => true
  | .canTtFirstReference channel => decide (channel < 12)
  | .jtagTestInstruction ports _ => ports.all (fun p => decide (p.1 < 4 && p.2 < 8))

end Sys2Proof
end

