-- ==== Sys2Proof/Certificates/Slice0/Obligations.lean ====
section
/-! DEFINITION. The statements about the machine, by family. -/

open Sys2Proof Sys2Proof.Machine Sys2Proof.Machine.Reg


/-! ### The step (block model) -/

/-- The command at the front of the queue takes its effect on the state with the queue's rest. Readings of the model
that clauses rest on: notes/assumptions/1. -/
def Obligations.StepRunsFrontCommand : Prop :=
  ∀ (c : Instr) (rest : List Instr) (s : State),
    step { s with pending := c :: rest } = exec c { s with pending := rest }

/-- Every command completes, no command waits longer than its turn, and none passes time of its own or adds to the
queue. Readings of the model that clauses rest on: notes/assumptions/1, 10. -/
def Obligations.EveryCommandCompletesInOrder : Prop :=
  ∀ (c : Instr) (rest : List Instr) (s : State),
    ∃ t, step { s with pending := c :: rest } = .next t ∧ t.pending = rest ∧ t.elapsed = s.elapsed

/-- The life-cycle state never returns to an earlier state. No fuse cell of a life-cycle field is unprogrammed by any
step. Readings of the model that clauses rest on: notes/assumptions/21. -/
def Obligations.LifeCycleNeverReturns : Prop :=
  (∀ s t : State, step s = .next t → s.otp.lifeCycle ≤ t.otp.lifeCycle) ∧
  (∀ s t : State, step s = .next t → s.otp.cellsKept t.otp)

/-- The register store keeps its canonical order in every step. Readings of the model that clauses rest on:
notes/assumptions/2. -/
def Obligations.RegisterStoreStaysSorted : Prop :=
  ∀ s t : State, s.regsSorted → step s = .next t → t.regsSorted

/-- The machine right after reset: BOOT, the registers whose reset value the spec states, an empty queue, a register
store in order. Readings of the model that clauses rest on: notes/assumptions/2, 3. -/
def Obligations.ResetLeaves : Prop :=
  State.reset.mode = modeBoot ∧ State.reset.pending = [] ∧ State.reset.regsSorted ∧ State.reset.otp.lifeCycle = lcMaker ∧
    State.reset.get GLB_ID_VENDOR_CODE = 0x0D4A ∧ State.reset.get GLB_ID_DEVICE = 0x7480 ∧
    State.reset.get GLB_MODE_LAST_CAUSE = 0 ∧ State.reset.get FLT_STATUS_STATUS = 0 ∧ State.reset.calm

/-! ### Register accesses (R14–R20, R34, R242, R253, R499) -/

/-- The register has no rule of its own for writes: each of its fields follows its access type. -/
def plainRegister (h : RegHit) : Bool :=
  !(["HRG_RING_CTRL", "HRG_RING_BASE", "MSIX_CTRL", "FLT_RAW", "FLT_FORCE", "FLT_SRC_CFG", "REC_RD_IDX", "SLP_CTRL"]
      ++ canStoppedOnly ++ windowHeld).contains h.row.name && !(decide (0x40000 ≤ h.base ∧ h.base < 0x60000))

/-- The fields of a register lie within it, and no two share a bit. -/
abbrev Sys2Proof.Machine.RegHit.fieldsApart (h : RegHit) : Prop :=
  (∀ f ∈ h.fields, 8 * h.base ≤ f.2.2.key) ∧
    h.fields.Pairwise (fun f g => f.2.2.key + f.2.2.width ≤ g.2.2.key ∨ g.2.2.key + g.2.2.width ≤ f.2.2.key)

/-- A 32-bit write to a plain 32-bit register that R16 does not refuse is applied to each field by its access type,
and its path is told OK; nothing else changes. A write that would change a PRV field from a path other than local PF0
changes nothing, is recorded, and its path is told ACCESS_DENIED. The lower word of a 64-bit register is held for its
requester alone, and the upper word commits the whole value with it: the pair of writes acts as one 64-bit write. A
read returns each field its value, a WO field as 0, and clears the RC fields read. Readings of the model that clauses
rest on: notes/assumptions/12, 17. -/
def Obligations.RegisterWritesFollowAccessTypes : Prop :=
  (∀ (req : Requester) (a v : Nat) (s : State) (h : RegHit), s.lc ≠ lcScrapped → s.reach req a = some h →
    h.takes a 4 = true → h.row.width = 32 → plainRegister h = true → s.prvRefuses req h v h.word 1 = false →
    req ≠ .pf1 → commandAt a = none → accessPortAt a = none → a ≠ INA_BDR_CFG_SW_MODE.key / 32 * 4 →
    exec (.registerWrite req a 4 v) s
      = .next ((s.writeFields h v h.word 1).emit (.pathStatus (.reg req) a .ok)).settled) ∧
  (∀ (s : State) (h : RegHit) (v w n : Nat) (prv : Bool) (f : Field), h.inWords f w n = true →
    (s.writeField h v w n (.rw, prv, f)).get f = s.newField h f v w n % 2 ^ f.width ∧
    (s.writeField h v w n (.wo, prv, f)).get f = s.newField h f v w n % 2 ^ f.width ∧
    (s.writeField h v w n (.w1c, prv, f)).get f = andNot (s.get f) (onField h f v w n) % 2 ^ f.width ∧
    s.writeField h v w n (.ro, prv, f) = s ∧ s.writeField h v w n (.rc, prv, f) = s ∧
    (s.flag GLB_LOCK_LOCK = true → s.writeField h v w n (.rwl, prv, f) = s) ∧
    (s.flag GLB_LOCK_LOCK = false → (s.writeField h v w n (.rwl, prv, f)).get f = s.newField h f v w n % 2 ^ f.width)) ∧
  (∀ (s : State) (h : RegHit) (v w n : Nat) (acc : Access) (prv : Bool) (f g : Field), f.key ≠ g.key →
    (s.writeField h v w n (acc, prv, f)).get g = s.get g) ∧
  (∀ (req : Requester) (a v : Nat) (s : State) (h : RegHit), s.lc ≠ lcScrapped → s.reach req a = some h →
    h.takes a 4 = true → h.row.width = 32 → s.prvRefuses req h v h.word 1 = true → req ≠ .pf0 → req ≠ .pf1 →
    commandAt a = none → accessPortAt a = none → a ≠ INA_BDR_CFG_SW_MODE.key / 32 * 4 →
    Gives (.registerWrite req a 4 v) s (fun u => Reports s u ∧ .pathStatus (.reg req) a .accessDenied ∈ u.out)) ∧
  (∀ (req : Requester) (a v : Nat) (s : State) (h : RegHit), s.lc ≠ lcScrapped → s.reach req a = some h →
    h.row.width = 64 → h.word = 0 → a % 4 = 0 →
    Gives (.reg64LowerWordWrite req a v) s (fun u =>
      u.latch.lower.find? (fun e => e.1 == req && e.2.1 == h.base) = some (req, h.base, v % 2 ^ 32) ∧
      u.regs = s.regs ∧ (∀ e ∈ s.latch.lower, (e.1 == req && e.2.1 == h.base) = false → e ∈ u.latch.lower))) ∧
  (∀ (req : Requester) (a v low : Nat) (s : State) (h : RegHit), s.lc ≠ lcScrapped → s.reach req a = some h →
    h.row.width = 64 → h.word = 1 → a % 4 = 0 →
    s.latch.lower.find? (fun e => e.1 == req && e.2.1 == h.base) = some (req, h.base, low) →
    Gives (.reg64UpperWordWrite req a v) s (fun u =>
      ∃ t : State, t = { s with latch := { s.latch with
          lower := s.latch.lower.filter (fun e => !(e.1 == req && e.2.1 == h.base)) } } ∧
        u = (t.writeWords req h (low + 2 ^ 32 * (v % 2 ^ 32)) 0 2).2.emit
          (.pathStatus (.reg req) a (t.writeWords req h (low + 2 ^ 32 * (v % 2 ^ 32)) 0 2).1))) ∧
  (∀ (s : State) (h : RegHit) (f : Access × Bool × Field), h.fieldsApart → f ∈ h.fields →
    bits (s.regValue h) (h.lo f.2.2) f.2.2.width = (if f.1 = .wo then 0 else s.get f.2.2)) ∧
  (∀ (s : State) (h : RegHit) (w n : Nat) (f : Access × Bool × Field), f ∈ h.fields → f.1 = .rc →
    h.inWords f.2.2 w n = true → (s.readClear h w n).get f.2.2 = 0)

/-- A narrow, misaligned or spanning access is not performed: a read returns 0, a write has no effect; over PCIe it is
counted and, unless a capture stands, captured. A CAN configuration register takes a write only while its channel is
STOPPED: otherwise the write is ignored and CAN_EVENT.CFG_IGNORED is set; a flow context takes a write in its writable
bytes and statuses only, and another write is counted in FLW_STAT2.WRITE_IGNORED. Readings of the model that clauses
rest on: notes/assumptions/12. -/
def Obligations.AccessesAreGated : Prop :=
  (∀ (write : Bool) (a be : Nat) (s : State), be < 16 → a < 2 ^ 20 →
    Gives (.unperformedAccess .pf0 write a be) s (fun u =>
      u.get HRG_BAD_CNT_COUNT = satNat 32 (s.get HRG_BAD_CNT_COUNT + 1) ∧ u.get HRG_EVENT_BAD_ACCESS = 1 ∧
      (s.flag HRG_BAD_ACC_VALID = false → u.get HRG_BAD_ACC_OFFSET = a ∧ u.get HRG_BAD_ACC_BE = be ∧
        u.get HRG_BAD_ACC_WRITE = b2n write ∧ u.get HRG_BAD_ACC_FUNC = 0 ∧ u.get HRG_BAD_ACC_VALID = 1) ∧
      (write = false → .readValue .pf0 a 0 ∈ u.out) ∧
      (∀ f, f.key < 8 * 0x38004 ∨ 8 * 0x38010 ≤ f.key → u.get f = s.get f) ∧
      u = { s with regs := u.regs, out := u.out })) ∧
  (∀ (req : Requester) (a v : Nat) (s : State) (h : RegHit), s.lc ≠ lcScrapped → s.reach req a = some h →
    h.takes a 4 = true → h.row.width = 32 → canStoppedOnly.contains h.row.name = true → h.i < 12 →
    s.prvRefuses req h v h.word 1 = false →
    Gives (.canCfgWrite req a 4 v) s (fun u =>
      (s.canState h.i = canStopped → h.base < 0x40000 →
        u = (s.writeFields h v h.word 1).emit (.pathStatus (.reg req) a .ok)) ∧
      (s.canState h.i ≠ canStopped → h.base < 0x40000 →
        u = (s.set (CAN_EVENT_CFG_IGNORED h.i) 1).emit (.pathStatus (.reg req) a .ok)))) ∧
  (∀ (req : Requester) (a v : Nat) (s : State) (h : RegHit), s.lc ≠ lcScrapped → s.reach req a = some h →
    h.takes a 4 = true → h.row.width = 32 → 0x40000 ≤ a → a < 0x60000 → 0x40000 ≤ h.base → h.base < 0x60000 →
    (["HRG_RING_CTRL", "HRG_RING_BASE", "MSIX_CTRL"].contains h.row.name) = false → s.prvRefuses req h v h.word 1 = false →
    Gives (.flowContextWrite req a 4 v) s (fun u =>
      (0x40 ≤ h.base % 128 → u = s.emit (.pathStatus (.reg req) a .ok)) ∧
      (h.base % 128 < 0x40 → contextWritable.contains (s.flowStatus h.i) = true →
        u = (s.writeFields h v h.word 1).emit (.pathStatus (.reg req) a .ok)) ∧
      (h.base % 128 < 0x40 → contextWritable.contains (s.flowStatus h.i) = false →
        u = (s.bump FLW_STAT2_WRITE_IGNORED).emit (.pathStatus (.reg req) a .ok))))

/-- A read of the lower word returns it and latches the upper word for the same requester's next read of the upper
word; a read of word 0 of a wide register latches its other words; a read of TIM_NOW_NS latches its companions; an RC
field read is cleared after its value is returned. Registers that follow time show the present (`State.refreshLive`).
A read of TIM_NOW_NS returns the nanoseconds of train time and latches seconds, fraction and uptime at the same tick.
Reads of these registers return what it latched. Readings of the model that clauses rest on: notes/assumptions/12. -/
def Obligations.ReadsLatchAndClear : Prop :=
  (∀ (req : Requester) (a : Nat) (s : State) (h : RegHit), s.lc ≠ lcScrapped → s.reach req a = some h →
    h.row.width = 64 → h.word = 0 → a % 4 = 0 → h.takes a 4 = true → h.row.name ≠ "BRG_AP_STATUS" → h.row.name ≠ "REC_RD_DATA" →
    Gives (.reg64LowerWordRead req a) s (fun u => .readValue req a (s.refreshLive.regWord h 0) ∈ u.out ∧
      (req, h.base, s.refreshLive.regWord h 1) ∈ u.latch.upper)) ∧
  (∀ (req : Requester) (a : Nat) (s : State) (h : RegHit), s.lc ≠ lcScrapped → s.reach req a = some h →
    h.latches = true → h.word = 0 → h.takes a 4 = true →
    Gives (.wideRegisterWord0Read req a) s (fun u => .readValue req a (s.refreshLive.regWord h 0) ∈ u.out ∧
      (∃ l, (h.base, l) ∈ u.latch.wide ∧ l = (List.range (h.row.width / 32 - 1)).map (fun k =>
        (k + 1, s.refreshLive.regWord h (k + 1)))) ∧ u.regs = s.refreshLive.regs)) ∧
  (∀ (req : Requester) (a : Nat) (s : State) (h : RegHit), s.lc ≠ lcScrapped → s.reach req a = some h →
    h.row.width = 32 → h.takes a 4 = true → h.row.name ≠ "TIM_NOW_NS" → h.row.name ≠ "BRG_AP_STATUS" →
    h.row.name ≠ "REC_RD_DATA" →
    Gives (.readClearAccess req a 4) s (fun u => .readValue req a (s.refreshLive.regWord h h.word) ∈ u.out ∧
      u = (s.refreshLive.readClear h h.word 1).emit (.readValue req a (s.refreshLive.regWord h h.word)))) ∧
  (∀ (s : State) (h : RegHit) (w n : Nat) (f : Access × Bool × Field), f ∈ h.fields → f.1 = .rc →
    h.inWords f.2.2 w n = true → (s.readClear h w n).get f.2.2 = 0) ∧
  (∀ (req : Requester) (s : State), s.lc ≠ lcScrapped →
    exec (.timNowNsRead req) s = .next ((s.load [(TIM_NOW_NS_NS, ttNs s.trainTime), (TIM_NOW_FRAC_FRAC, ttFrac s.trainTime),
      (TIM_NOW_S_SEC, ttSec s.trainTime), (TIM_NOW_UPTIME_NS, s.uptime)]).emit
        (.readValue req (TIM_NOW_NS_NS.key / 8) (ttNs s.trainTime))).settled) ∧
  (∀ s : State, s.refreshLive.get TIM_NOW_FRAC_FRAC = s.get TIM_NOW_FRAC_FRAC ∧ s.refreshLive.get TIM_NOW_S_SEC = s.get TIM_NOW_S_SEC ∧
    s.refreshLive.get TIM_NOW_UPTIME_NS = s.get TIM_NOW_UPTIME_NS)

/-! ### Modes and BOOT (R38–R49, R58, R483, R484) -/

/-- A command that R35 rejects has no effect but its report; WRONG_STATE is counted (R36). For every command of every
block that is not authenticated. The checks of a command in their order: privilege, argument, busy, mode, life cycle,
tag, conditions. An accepted command reports its code, and OK or PENDING, in GLB_CMD_STATUS by every path but a CMD
descriptor, whose status goes into its descriptor. Readings of the model that clauses rest on: notes/assumptions/17,
18. -/
def Obligations.CommandsAreCheckedAndReported : Prop :=
  (∀ (c : CmdSpec) (path : Path) (arg : Nat) (s : State), c.auth s = false → s.checkCmd c path arg ≠ .ok →
    (s.runCmd c path arg).1 = s.checkCmd c path arg ∧
    Reports (if s.checkCmd c path arg = .wrongState
        then (s.report path c.code .wrongState).bump GLB_CMD_REJECT_CNT_COUNT
        else s.report path c.code (s.checkCmd c path arg))
      (s.runCmd c path arg).2) ∧
  (∀ (c : CmdSpec) (path : Path) (arg : Nat) (s : State),
    let busy := s.flag GLB_MODE_BUSY || (c.auth s && s.glb.authBusy) || c.busy s
    (s.mayCommand path c.base c.code = false → s.checkCmd c path arg = .accessDenied) ∧
    (s.mayCommand path c.base c.code = true → c.argOk s arg = false → s.checkCmd c path arg = .badArg) ∧
    (s.mayCommand path c.base c.code = true → c.argOk s arg = true → busy = true → s.checkCmd c path arg = .busy) ∧
    (s.mayCommand path c.base c.code = true → c.argOk s arg = true → busy = false → c.accepted s = false →
      s.checkCmd c path arg = .wrongState) ∧
    (s.mayCommand path c.base c.code = true → c.argOk s arg = true → busy = false → c.accepted s = true →
      c.lcOk s = false → s.checkCmd c path arg = .lcDenied) ∧
    (s.mayCommand path c.base c.code = true → c.argOk s arg = true → busy = false → c.accepted s = true →
      c.lcOk s = true → c.auth s = true → s.tagPasses (c.authKey s) c.code arg = false → s.checkCmd c path arg = .authFail) ∧
    (s.checkCmd c path arg = .ok → s.mayCommand path c.base c.code = true ∧ c.argOk s arg = true ∧ busy = false ∧
      c.accepted s = true ∧ c.lcOk s = true ∧ c.cond s arg = .ok)) ∧
  (∀ (c : CmdSpec) (path : Path) (arg : Nat) (s : State), c.auth s = false → c.code < 256 →
    (reportsStatus path = true → (s.begun c path arg).get GLB_CMD_STATUS_CODE = c.code ∧
      (s.begun c path arg).get GLB_CMD_STATUS_STATUS = (if c.pends then 0xFF else 0) ∧
      (s.begun c path arg).get GLB_CMD_STATUS_SEQ = (s.get GLB_CMD_STATUS_SEQ + 1) % 256) ∧
    (reportsStatus path = false → (s.begun c path arg).get GLB_CMD_STATUS_CODE = s.get GLB_CMD_STATUS_CODE ∧
      (s.begun c path arg).get GLB_CMD_STATUS_STATUS = s.get GLB_CMD_STATUS_STATUS) ∧
    (c.pends = true → ∃ q, (c.base, c.code, arg % 65536, q) ∈ (s.begun c path arg).glb.running) ∧
    (c.pends = false → (s.begun c path arg).glb = s.glb))

/-- RESTART, the end of a hold of reset, and a legacy soft reset enter BOOT: its sequence starts at its first step,
uptime at 0, with the cause and the mode before, and the straps sampled or, for the legacy soft reset, kept. The BOOT
sequence: OTP, self-test and vault, image, target mode; each step leads to the next, or to the end that Table 2.3
names. Readings of the model that clauses rest on: notes/assumptions/15, 19, 20, 22. -/
def Obligations.BootEntryAndSequence : Prop :=
  (∀ (path : Path) (arg straps : Nat) (s : State), s.accepts (cmdRestart straps) path arg → s.glb.held = false →
    Gives (.restart path arg straps) s (fun u => u.mode = modeBoot ∧ u.get GLB_MODE_LAST_CAUSE = 2 ∧
      u.get GLB_MODE_PREV_MODE = s.mode ∧ u.get GLB_BOOT_STATUS_BOOTSEL = straps % 8 ∧ u.glb.bootStep = 0 ∧
      u.glb.held = false ∧ u.uptime = 0 ∧ u.get GLB_BOOT_STATUS_WAKE_BOOT = 0)) ∧
  (∀ (straps : Nat) (s : State), s.glb.held = true → s.pwr.regulators = true → s.pwr.brownOut = false →
    Gives (.internalResetRelease straps) s (fun u => u.mode = modeBoot ∧ u.glb.held = false ∧ u.glb.bootStep = 0 ∧
      u.get GLB_BOOT_STATUS_BOOTSEL = straps % 8 ∧ u.uptime = 0 ∧
      u.get GLB_MODE_LAST_CAUSE = s.get GLB_MODE_LAST_CAUSE)) ∧
  (∀ (lower : Nat) (s : State), s.mode = modeGtn → hasBit lower 0 = true → lower < 2 ^ 16 →
    Gives (.legacySoftReset lower) s (fun u => u.mode = modeBoot ∧ u.get GLB_MODE_LAST_CAUSE = 10 ∧
      u.get GLB_BOOT_STATUS_BOOTSEL = s.get GLB_BOOT_STATUS_BOOTSEL ∧ u.glb.bootStep = 0 ∧ u.uptime = 0)) ∧
  (∀ s : State, s.bootAt 0 = true →
    Gives .bootOtpReadDone s (fun u => u.lc = s.otp.lifeCycle ∧
      u.glb.bootStep = (if s.otp.lifeCycle = lcScrapped then 5 else 1) ∧
      (s.otp.lifeCycle ≠ lcMaker → u.get GLB_UID_UID = s.otp.uid % 2 ^ 64))) ∧
  (∀ (recordEcc : Bool) (failed : List Nat) (s : State), s.bootAt 1 = true →
    Gives (.bootSelftestDone false failed recordEcc) s (fun u => u.mode = modeSafe ∧ u.get GLB_BOOT_STATUS_RESULT = 1)) ∧
  (∀ s : State, s.bootAt 1 = true → (({ s with hrg := { s.hrg with trained := true } }).vaultCheck false).1 = 0 →
    s.get GLB_BOOT_STATUS_BOOTSEL = 2 →
    Gives (.bootSelftestDone true [] false) s (fun u => u.mode = modeBoot ∧ u.get GLB_MODE_SUBSTATE = subHostWait)) ∧
  (∀ (b : Nat) (i : Image) (s : State), s.bootAt 2 = true → s.bankOrder.head? = some (b, i) →
    s.checkImage i (some (s.get GLB_BOOT_STATUS_BOOTSEL)) = 0 → b < 2 →
    Gives .bootImageVerified s (fun u => u = { (s.load [(GLB_BOOT_STATUS_CFG_SRC, b + 1), (GLB_BOOT_STATUS_RESULT, 0)]) with
      glb := { s.glb with bootStep := 3, bootImage := some i } })) ∧
  (∀ s : State, s.bootAt 2 = true → s.bankOrder = [] → s.get GLB_BOOT_STATUS_BOOTSEL ≠ 1 →
    Gives .bootImageVerified s (fun u => u.mode = modeSafe ∧ u.get GLB_BOOT_STATUS_RESULT = 2)) ∧
  (∀ (i : Image) (s : State), s.bootAt 3 = true → s.glb.bootImage = some i → i.targetMode = modeNative ∨ i.targetMode = modeReferee →
    Gives .bootEnd s (fun u => u.mode = i.targetMode ∧ u.get GLB_MODE_LAST_CAUSE = 3 ∧ u.get GLB_BOOT_STATUS_RESULT = 0 ∧
      u.glb.bootStep = 6 ∧ u.glb.bootImage = none)) ∧
  (∀ s : State, s.bootAt 3 = true → s.glb.bootImage = none →
    Gives .bootEnd s (fun u => u.mode = modeGtn ∧ u.get GLB_MODE_LAST_CAUSE = 3 ∧ u.glb.bootStep = 6))

/-- Configuration from the host: CONFIG_DONE starts the fetch; a verified image takes the node to its target mode, a
failed one leaves it in HOST_WAIT with the result; a store writes the bank not in use and leaves the other.
ENTER_SAFE, ENTER_TEST and SLEEP_VOTE, the wake boot, and the time that ends DEBUG_WAIT. A head's SLEEP_VOTE starts a
vote; a node that is neither head nor stack member queues a REQ for its next window. Readings of the model that
clauses rest on: notes/assumptions/6, 16, 19, 20, 22. -/
def Obligations.ConfigurationAndModeCommands : Prop :=
  (∀ (path : Path) (arg : Nat) (s : State), s.accepts cmdConfigDone path arg →
    Does (.configDone path arg) s (s.begun cmdConfigDone path arg)) ∧
  (∀ (path : Path) (arg : Nat) (s : State), s.accepts cmdConfigStore path arg →
    Does (.configStore path arg) s (s.begun cmdConfigStore path arg)) ∧
  (∀ (i : Image) (s : State), s.glbRuns 0x03 = true → s.inBoot subHostWait = true →
    s.checkImage i (some (s.get GLB_BOOT_STATUS_BOOTSEL)) = 0 → i.targetMode = modeNative ∨ i.targetMode = modeReferee →
    Gives (.configFetchDone (some i)) s (fun u => u.mode = i.targetMode ∧ u.get GLB_BOOT_STATUS_CFG_SRC = 3 ∧
      u.get GLB_MODE_LAST_CAUSE = 3)) ∧
  (∀ (i : Image) (s : State), s.glbRuns 0x03 = true → s.inBoot subHostWait = true →
    s.checkImage i (some (s.get GLB_BOOT_STATUS_BOOTSEL)) ≠ 0 →
    Gives (.configFetchDone (some i)) s (fun u => u.inBoot subHostWait = true ∧
      u.get GLB_BOOT_STATUS_RESULT = s.checkImage i (some (s.get GLB_BOOT_STATUS_BOOTSEL)))) ∧
  (∀ (i : Image) (s : State), s.glbRuns 0x06 = true → s.checkImage i none = 0 → s.serialStale i = false →
    Gives (.configStoreDone (some i)) s (fun u => u.imageBank s.storeBank = some i ∧
      (∀ b, b < 2 → b ≠ s.storeBank → u.imageBank b = s.imageBank b))) ∧
  (∀ (i : Image) (s : State), s.glbRuns 0x06 = true → s.checkImage i none ≠ 0 →
    Gives (.configStoreDone (some i)) s (fun u => u.imageBank 0 = s.imageBank 0 ∧ u.imageBank 1 = s.imageBank 1)) ∧
  (∀ (path : Path) (arg : Nat) (s : State), s.accepts cmdEnterSafe path arg →
    Gives (.enterSafe path arg) s (fun u => u.mode = modeSafe ∧ u.get GLB_MODE_LAST_CAUSE = 2 ∧ u.pair.driving = false ∧
      u.get PAIR_STATUS_PERMISSION = 0)) ∧
  (∀ (path : Path) (arg : Nat) (s : State), s.accepts cmdEnterTest path arg →
    Does (.enterTest path arg) s (((s.begun cmdEnterTest path arg).bootGo 4).set GLB_MODE_SUBSTATE subTest)) ∧
  (∀ (path : Path) (arg : Nat) (s : State), s.accepts cmdSleepVote path arg → s.sleepHead = false → s.stackMember = false →
    Does (.sleepVote path arg) s ((s.begun cmdSleepVote path arg).sleepNext 1 0)) ∧
  (∀ (crc : Bool) (s : State), s.mode = modeBoot → s.glb.held = false → s.flag GLB_BOOT_STATUS_WAKE_BOOT = true → s.glb.bootStep = 0 →
    Gives (.wakeBootEnd false crc) s (fun u => u.mode = modeSafe ∧ u.get GLB_BOOT_STATUS_RESULT = 1)) ∧
  (∀ (r : Resume) (s t : State), s.mode = modeBoot → s.glb.held = false → s.flag GLB_BOOT_STATUS_WAKE_BOOT = true →
    s.glb.bootStep = 0 → ({ s with hrg := { s.hrg with trained := true } }).vaultCheck false = (0, t) → t.resume = some r →
    (((t.restoreArea r).restoreTime r).restoreFlows).pairMember = false → r.mode = modeNative →
    Gives (.wakeBootEnd true true) s (fun u => u.mode = r.mode ∧ u.get GLB_MODE_LAST_CAUSE = 3 ∧
      (u.slp.fwRunning = true ∨ u.flag SLP_STATUS_CONFIRMED = true))) ∧
  (∀ s : State, s.inBoot subDebugWait = true →
    Gives .debugWaitTimeout s (fun u => u.mode = modeSafe ∧ u.get GLB_BOOT_STATUS_RESULT = resultDebug))

/-! ### Life cycle and debug (R50–R58, R500) -/

/-- The life-cycle commands, accepted: personalization takes UID and a fresh device root, return and scrap zeroize
keys and root, scrap erases the recorder, both image banks and the topology counter; each starts programming its fuse
field. Programming ends: with 5 cells or more the state is reached, GLB_LC shows it, and BOOT follows for every
command but LC_FIELD; with fewer the command ends and GLB_LC.PARTIAL shows the field. Without a command in progress
nothing happens. Readings of the model that clauses rest on: notes/assumptions/21. -/
def Obligations.LifeCycleCommandsProgram : Prop :=
  (∀ (path : Path) (arg : Nat) (s : State), s.accepts cmdLcPersonalize path arg →
    Gives (.lcPersonalize path arg) s (fun u => u.key.program = some 0x11 ∧ u.otp.uid = s.get GLB_LC_DATA_UID ∧
      u.otp.root = (if s.otp.root = 0 then Config.randomDraw s.free % 2 ^ 256 else s.otp.root) ∧ u.lc = s.lc ∧
      u.get GLB_MODE_BUSY = 1)) ∧
  (∀ (path : Path) (arg : Nat) (s : State), s.accepts cmdLcField path arg →
    Gives (.lcField path arg) s (fun u => u.key.program = some 0x12 ∧ u.otp = s.otp ∧ u.mram = s.mram ∧ u.lc = s.lc ∧
      u.get GLB_MODE_BUSY = 1)) ∧
  (∀ (path : Path) (arg : Nat) (s : State), s.accepts cmdLcReturn path arg →
    Gives (.lcReturn path arg) s (fun u => u.key.program = some 0x13 ∧ u.mram.banks = [] ∧ u.otp.root = 0 ∧
      u.otp = { s.otp with root := 0 })) ∧
  (∀ (path : Path) (arg : Nat) (s : State), s.accepts cmdLcScrap path arg →
    Gives (.lcScrap path arg) s (fun u => u.key.program = some 0x14 ∧ u.mram.banks = [] ∧ u.otp = { s.otp with root := 0 } ∧
      u.mram.cells = [] ∧ u.mram.nextSeq = 0 ∧ u.mram.bank0 = none ∧ u.mram.bank1 = none ∧ u.mram.topo = 0 ∧
      u.rcd.queue = [])) ∧
  (∀ (cells straps : Nat) (s : State), s.key.program = none → exec (.lcProgramDone cells straps) s = .next s.settled) ∧
  (∀ (code cells straps : Nat) (s : State), s.key.program = some code → code ≠ 0x12 → 5 ≤ (s.otp.program code cells).cellsOf code →
    Gives (.lcProgramDone cells straps) s (fun u => u.otp = s.otp.program code cells ∧ u.mode = modeBoot ∧
      u.get GLB_MODE_LAST_CAUSE = 2 ∧ u.glb.bootStep = 0 ∧ u.key.program = none ∧
      u.lc = (s.otp.program code cells).lifeCycle)) ∧
  (∀ (cells straps : Nat) (s : State), s.key.program = some 0x12 → 5 ≤ (s.otp.program 0x12 cells).field →
    Gives (.lcProgramDone cells straps) s (fun u => u.otp = s.otp.program 0x12 cells ∧ u.mode = s.mode ∧
      u.lc = (s.otp.program 0x12 cells).lifeCycle ∧ u.key.program = none ∧ u.mram = s.mram)) ∧
  (∀ (code cells straps : Nat) (s : State), s.key.program = some code → (s.otp.program code cells).cellsOf code < 5 →
    Gives (.lcProgramDone cells straps) s (fun u => u.otp = s.otp.program code cells ∧ u.mode = s.mode ∧ u.lc = s.lc ∧
      u.get GLB_LC_PARTIAL = (s.otp.program code cells).partialFields ∧ u.key.program = none)) ∧
  (∀ (o : OtpState) (code cells : Nat), (o.program code cells).cellsOf code = Nat.max (o.cellsOf code) (Nat.min 8 cells)) ∧
  (∀ (o : OtpState) (code cells : Nat), o.cellsKept (o.program code cells))

/-- Debug access: an accepted DEBUG_OPEN opens test access and enters TEST; a failed tag ends BOOT in SAFE with
DEBUG_FAIL, counts, and starts the busy period; DBG_TOKEN presents the tag and leaves GLB_AUTH_RESP as it was; the
busy period ends; a test instruction acts in TEST alone. Readings of the model that clauses rest on:
notes/assumptions/21, 59. -/
def Obligations.DebugAccess : Prop :=
  (∀ (path : Path) (arg : Nat) (s : State), s.accepts cmdDebugOpen path arg →
    Gives (.debugOpen path arg) s (fun u => u.get GLB_LC_DEBUG_OPEN = 1 ∧ u.get GLB_MODE_SUBSTATE = subTest ∧
      u.mode = modeBoot ∧ u.glb.bootStep = 4)) ∧
  (∀ (path : Path) (arg : Nat) (s : State), s.checkCmd cmdDebugOpen path (arg % 65536) = .authFail →
    Gives (.debugOpen path arg) s (fun u => u.mode = modeSafe ∧ u.get GLB_BOOT_STATUS_RESULT = resultDebug ∧
      u.glb.authBusy = true ∧ u.get GLB_LC_DBG_FAIL_CNT = satNat GLB_LC_DBG_FAIL_CNT.width (s.get GLB_LC_DBG_FAIL_CNT + 1))) ∧
  (∀ (tag : Nat) (s : State), s.inBoot subDebugWait = true →
    exec (.dbgToken tag) s = .next (((s.set GLB_AUTH_RESP_TAG tag).debugOpen .dbgToken 0).set GLB_AUTH_RESP_TAG
      (s.get GLB_AUTH_RESP_TAG)).settled) ∧
  (∀ (tag : Nat) (s : State), s.inBoot subDebugWait = false → exec (.dbgToken tag) s = .next s.settled) ∧
  (∀ s : State, exec .authBusyEnd s = .next { s with glb := { s.glb with authBusy := false } }.settled) ∧
  (∀ (ports : List (Nat × Nat)) (scan : Bool) (s : State), exec (.jtagTestInstruction ports scan) s = .next (State.settled
    (if s.inBoot subTest = true ∧ s.testOpen = true
      then { s with glb := { s.glb with testPorts := ports.filter (fun e => decide (e.1 < 4)), scanShift := scan } }
      else s)))

/-! ### Supplies and reset (R43, R44, R473–R484, R493, R494) -/

/-- Power-up holds the node in reset with cause 0, RESET_N with cause 1, a brown-out with cause 11; the mode is BOOT,
the interlock is released, no command stays in progress. Below UVLO the regulators stop; without VIN and VBAT the
always-on domain is lost. Readings of the model that clauses rest on: notes/assumptions/2, 55. -/
def Obligations.ResetsAndSupplyLoss : Prop :=
  (∀ s : State, s.pwr.regulators = false →
    exec .powerOn s = .next (State.settled (({ s with
        slp := if s.pwr.aon then s.slp else { s.slp with aonFrom := s.elapsed }
        pwr := { s.pwr with regulators := true, aon := true, brownOut := false, windowMasked := false, onVbat := false, switchOpen := false }
        glb := { s.glb with held := true } }).load [(GLB_MODE_MODE, modeBoot), (GLB_MODE_LAST_CAUSE, 0)]))) ∧
  (∀ s : State, s.pwr.regulators = true →
    Gives .resetNAssert s (fun u => u.mode = modeBoot ∧ u.get GLB_MODE_LAST_CAUSE = 1 ∧ u.glb.held = true ∧ u.glb.bootStep = 0 ∧
      u.pair.driving = false ∧ u.get PAIR_STATUS_PERMISSION = 0 ∧ u.key.op = none ∧ u.key.program = none ∧
      u.rcd.clearing = none ∧ u.otp = s.otp)) ∧
  (∀ s : State, s.pwr.regulators = true → s.pwr.brownOut = false →
    Gives .brownOut s (fun u => u.mode = modeBoot ∧ u.get GLB_MODE_LAST_CAUSE = 11 ∧ u.glb.held = true ∧ u.mram.wp = true ∧
      u.pwr.brownOut = true ∧ u.pair.driving = false ∧ u.rcd.onlyBrownOut = true ∧ u.otp = s.otp ∧
      u.get CLK_STAT_BROWN_OUTS = satNat CLK_STAT_BROWN_OUTS.width (s.get CLK_STAT_BROWN_OUTS + 1))) ∧
  (∀ s : State, exec .brownOutRecovery s = .next (State.settled
    (if s.pwr.regulators then { s with pwr := { s.pwr with brownOut := false } } else s))) ∧
  (∀ s : State, exec .uvlo s = .next (State.settled { s with glb := { s.glb with held := true }, pwr := { s.pwr with regulators := false, brownOut := false } })) ∧
  (∀ s : State, Gives .alwaysOnPowerLoss s (fun u => u.glb.held = true ∧ u.pwr.aon = false ∧ u.pwr.regulators = false ∧
    u.key.tamperedAon = false ∧ u.key.live = 0 ∧ u.slp.latched = 0 ∧ u.mram = s.mram ∧ u.otp = s.otp ∧
    ∀ f ∈ keptAlways, u.get f = f.reset % 2 ^ f.width))

/-- Supply monitors: an over-voltage latches source 18 and is counted, the input switch's state is kept, a regulator
at its limit latches source 19, a low VBAT raises source 61 where VBAT_EN is 1. The thermal governor follows the
higher sensor: SHUTDOWN from 135 °C until the next BOOT, shedding from 122 °C to 118 °C, a warning from 120 °C to 117
°C; the readings are shown (in 0.125 °C). Readings of the model that clauses rest on: notes/assumptions/55, 56. -/
def Obligations.SupplyAndThermalMonitors : Prop :=
  (∀ (mv : Nat) (s : State), s.pwr.regulators = true → 6000 < mv →
    Does (.vinOvervoltage mv) s (((s.set CLK_VIN_VIN (Nat.min 32767 mv)).load [(CLK_STATUS_OV, 1), (CLK_EVENT_OV, 1)]).bump
      CLK_STAT_OV_EVENTS)) ∧
  (∀ (mv : Nat) (s : State), exec (.vinSwitchOpen mv) s = .next (State.settled
    { s.set CLK_VIN_VIN (Nat.min 32767 mv) with pwr := { s.pwr with switchOpen := true } })) ∧
  (∀ (mv : Nat) (s : State), exec (.vinSwitchClose mv) s = .next (State.settled (if s.pwr.switchOpen
    then { s.set CLK_VIN_VIN (Nat.min 32767 mv) with pwr := { s.pwr with switchOpen := false } } else s))) ∧
  (∀ (r : Nat) (s : State), r < 4 → s.pwr.regulators = true →
    Does (.regulatorLimit r) s ((s.setBit CLK_REG_FAULT_REG r).set CLK_EVENT_REG_FAULT 1)) ∧
  (∀ (mv : Nat) (s : State), s.pwr.regulators = true → mv < 2000 → s.flag CLK_CFG_VBAT_EN = true →
    Does (.vbatLow mv) s ((s.load [(CLK_VIN_VBAT, mv), (CLK_STATUS_VBAT_OK, 0)]).set CLK_EVENT_VBAT_LOW 1)) ∧
  (∀ (mv : Nat) (s : State), s.pwr.regulators = true → mv < 2000 → s.flag CLK_CFG_VBAT_EN = false →
    exec (.vbatLow mv) s = .next (s.load [(CLK_VIN_VBAT, mv), (CLK_STATUS_VBAT_OK, 0)]).settled) ∧
  (∀ s : State, exec .vbatSwitchover s = .next (State.settled { s with pwr := { s.pwr with onVbat := true } })) ∧
  (∀ (t0 t1 : Int) (s : State), s.corePowered = true → s.glb.held = false → s.get CLK_STATUS_GOV ≠ 3 →
    Gives (.thermalMeasure t0 t1) s (fun u =>
      (1080 ≤ max t0 t1 → u.get CLK_STATUS_GOV = 3) ∧
      (max t0 t1 < 1080 → 976 ≤ max t0 t1 → u.get CLK_STATUS_GOV = 2) ∧
      (max t0 t1 < 936 → u.get CLK_STATUS_GOV = 0) ∧
      (976 ≤ max t0 t1 → u.get FLW_STATUS_SHEDDING = 1) ∧
      (max t0 t1 < 936 → u.get FLW_STATUS_SHEDDING = 0) ∧ u.mode = s.mode ∧
      u.get CLK_TEMP_T0 = satInt 16 t0 % 2 ^ 16 ∧ u.get CLK_TEMP_T1 = satInt 16 t1 % 2 ^ 16))

/-! ### Fault collector (R404–R422) -/

/-- An escalation takes a node that is neither held, in SAFE, in SLEEP nor SCRAPPED to SAFE with cause 4, releases the
interlock, and captures source, severity and cause; the third within 60 s latches SAFE_LATCH. The collector's own
commands: lines that latch, a line that deasserts, a reaction timer that expires, forces and clears by register, half
periods of ALIVE, and latent-fault tests. Readings of the model that clauses rest on: notes/assumptions/9, 51. -/
def Obligations.CollectorCommands : Prop :=
  (∀ (n sev cause : Nat) (s : State), n < 64 → sev < 4 → cause < 2 → s.flt.escalate = some (n, sev, cause) → s.escalationLapses = false →
    (s.escalateStep).mode = modeSafe ∧ (s.escalateStep).get GLB_MODE_LAST_CAUSE = 4 ∧
    (s.escalateStep).get GLB_MODE_PREV_MODE = s.mode ∧
    (s.escalateStep).get PAIR_STATUS_PERMISSION = 0 ∧ (s.escalateStep).pair.driving = false ∧
    (s.escalateStep).get FLT_ESC_SOURCE = n ∧ (s.escalateStep).get FLT_ESC_SEVERITY = sev ∧ (s.escalateStep).get FLT_ESC_CAUSE = cause ∧
    (s.escalateStep).flag FLT_ESC_VALID = true ∧
    (s.escalateStep).get GLB_ESC_CNT_COUNT = satNat GLB_ESC_CNT_COUNT.width (s.get GLB_ESC_CNT_COUNT + 1) ∧
    (2 ≤ (s.glb.safeEntries.filter (fun t => decide (s.elapsed ≤ t + 60000000000))).length →
      (s.escalateStep).flag GLB_ESC_CNT_SAFE_LATCH = true)) ∧
  (∀ (x : Nat × Nat × Nat) (s : State), s.flt.escalate = some x → s.escalationLapses = true →
    s.escalateStep = { s with flt := { s.flt with escalate := none } }) ∧
  (∀ s : State, s.flt.escalate = none → s.escalateStep = s) ∧
  (∀ (lines : Nat) (s : State), s.collectorRuns = true → Gives (.faultLatch lines) s (fun u =>
    u.flt.lines = Nat.lor s.flt.lines (lines % 2 ^ 64) ∧
    ∀ n, n < 64 → hasBit lines n = true → hasBit s.flt.lines n = false → u.bitAt FLT_RAW_RAW n = true)) ∧
  (∀ (n : Nat) (s : State), n < 64 → n ≠ 8 → Gives (.faultLineDeassert n) s (fun u => hasBit u.flt.lines n = false ∧
    (s.ackA n = true → s.collectorRuns = true → u.bitAt FLT_RAW_RAW n = false) ∧
    (s.ackA n = false → u.get FLT_RAW_RAW = s.get FLT_RAW_RAW))) ∧
  (∀ (n : Nat) (s : State), s.collectorRuns = true → s.flt.timers.any (fun e => e.1 == n) = true → s.flt.escalate = none → n < 64 →
    Gives (.reactionTimerExpiry n) s (fun u => u.flt.escalate = some (n, 1, 1) ∧ u.bitAt FLT_TIMER_RUN_RUN n = false)) ∧
  (∀ (req : Requester) (v : Nat) (s : State), exec (.fltForceWrite req v) s = .next (s.writeStep req 0x2010 8 v).settled) ∧
  (∀ (req : Requester) (v : Nat) (s : State), exec (.fltRawClear req v) s = .next (s.writeStep req 0x2008 8 v).settled) ∧
  (∀ s : State, s.inModes [modeGtn, modeNative, modeBorder, modeStandby, modeReferee] = true → s.flt.heartbeat = true →
    Gives .aliveHalfPeriod s (fun u => u.pins.alive = !s.pins.alive ∧ u.flt.heartbeat = false ∧ hasBit u.flt.lines 16 = false)) ∧
  (∀ s : State, s.inModes [modeGtn, modeNative, modeBorder, modeStandby, modeReferee] = true → s.flt.heartbeat = false →
    Gives .aliveHalfPeriod s (fun u => u.pins = s.pins ∧ hasBit u.flt.lines 16 = true)) ∧
  (∀ s : State, s.inModes [modeGtn, modeNative, modeBorder, modeStandby, modeReferee] = false →
    exec .aliveHalfPeriod s = .next s.settled) ∧
  (∀ (c : Nat) (pass : Bool) (s : State), c < 5 → s.engineAlive = true →
    Gives (.latentTest c pass) s (fun u => u.get (latentField c) = b2n pass ∧
      (c = 4 → u.get FLT_LATENT_PASSES = (s.get FLT_LATENT_PASSES + 1) % 2 ^ FLT_LATENT_PASSES.width) ∧
      (pass = false → u.get FLT_EVENT_LATENT_FAIL = 1)))

/-- A line that a block asserts is held until it drops; a running collector latches it in FLT_RAW and shows it in
FLT_STATUS, and the first latch is captured. A deasserted line of a source that acts as ACK = A clears its latch; with
ACK = H the latch stands. A write to FLT_FORCE sets FLT_FORCED and FLT_STATUS at once; a write to FLT_RAW clears the
latches whose lines are deasserted and no other. Readings of the model that clauses rest on: notes/assumptions/51. -/
def Obligations.FaultLinesLatchAndClear : Prop :=
  (∀ (n : Nat) (s : State), n < 64 → s.collectorRuns = true → hasBit s.flt.lines n = false →
    (s.assertLine n).bitAt FLT_RAW_RAW n = true ∧ (s.assertLine n).bitAt FLT_STATUS_STATUS n = true ∧
    hasBit (s.assertLine n).flt.lines n = true ∧
    (∀ m, m < 64 → m ≠ n → (s.assertLine n).bitAt FLT_RAW_RAW m = s.bitAt FLT_RAW_RAW m) ∧
    (s.bitAt FLT_RAW_RAW n = false → s.bitAt FLT_STATUS_STATUS n = false → s.flag FLT_FIRST_VALID = false →
      (s.assertLine n).get FLT_FIRST_SOURCE = n ∧ (s.assertLine n).flag FLT_FIRST_VALID = true ∧
      (s.assertLine n).get FLT_FIRST_SEVERITY = s.fltSeverity n)) ∧
  (∀ (n : Nat) (s : State), n < 64 → s.collectorRuns = true → s.ackA n = true →
    (s.dropLine n).bitAt FLT_RAW_RAW n = false ∧ hasBit (s.dropLine n).flt.lines n = false) ∧
  (∀ (n : Nat) (s : State), n < 64 → s.ackA n = false →
    s.dropLine n = { s with flt := { s.flt with lines := clearBitOf s.flt.lines n } }) ∧
  (∀ (n : Nat) (s : State), s.collectorRuns = true → n < 64 → s.bitAt FLT_RAW_RAW n = false → s.bitAt FLT_STATUS_STATUS n = false → s.fltSeverity n = 2 →
    hasBit s.flt.lines n = false → s.flt.escalate = none → (s.assertLine n).flt.escalate = some (n, 2, 0)) ∧
  (∀ (v : Nat) (s : State), (s.force v).get FLT_FORCED_FORCED = v % 2 ^ 64 ∧ (s.force v).get FLT_FORCE_FORCE = v % 2 ^ 64 ∧
    (s.force v).get FLT_STATUS_STATUS = Nat.lor (s.get FLT_RAW_RAW) (v % 2 ^ 64) ∧ (s.force v).get FLT_RAW_RAW = s.get FLT_RAW_RAW ∧
    (s.force v).flt.lines = s.flt.lines) ∧
  (∀ (mask n : Nat) (s : State), n < 64 → (s.clearWritten mask).bitAt FLT_RAW_RAW n =
    (s.bitAt FLT_RAW_RAW n && !(hasBit mask n && !hasBit s.flt.lines n))) ∧
  (∀ (mask : Nat) (s : State), (s.clearWritten mask).get FLT_STATUS_STATUS =
    Nat.lor ((s.clearWritten mask).get FLT_RAW_RAW) (s.get FLT_FORCED_FORCED)) ∧
  (∀ (mask : Nat) (s : State), s.lc ≠ lcScrapped → s.pf0ReadOnly = false → Gives (.fltRawClear .pf0 mask) s (fun u =>
    ∀ n, n < 64 → u.bitAt FLT_RAW_RAW n = (s.bitAt FLT_RAW_RAW n && !(hasBit mask n && !hasBit s.flt.lines n))))

/-! ### Recorder (R423–R440) -/

/-- An event enters the queue, stamped, or the write engine where that is free; a refused event is counted in its
class and raises the overflow line. A full queue takes events of class 0 up to 64 entries, and others up to 60. A
write that reads back well puts the record with its mark at NEXT_IDX and moves SEQ on; one that does not leaves no
mark there, moves on, and is tried once more. Readings of the model that clauses rest on: notes/assumptions/28, 29. -/
def Obligations.RecorderTakesAndWrites : Prop :=
  (∀ (base code : Nat) (p : Bytes) (s : State), exec (.recorderEventEnqueue base code p) s = .next (s.record base code p).settled) ∧
  (∀ (base code : Nat) (p : Bytes) (s : State), s.recorderRuns = true → s.queueTakes code = true → s.rcd.writing.isSome = true →
    (s.record base code p).rcd = { s.rcd with queue := s.rcd.queue ++ [s.stamp base code p] } ∧
    (s.record base code p).get REC_STATUS_QUEUE = (s.rcd.queue.length + 1) % 2 ^ REC_STATUS_QUEUE.width) ∧
  (∀ (base code : Nat) (p : Bytes) (s : State), s.recorderRuns = true → s.queueTakes code = true → s.rcd.writing = none →
    s.rcd.queue = [] → s.flag REC_STATUS_READY = true → s.flag REC_STATUS_CLEARING = false →
    (s.record base code p).rcd.writing = some (s.stamp base code p, false)) ∧
  (∀ (base code : Nat) (p : Bytes) (s : State), s.recorderRuns = true → s.queueTakes code = false →
    (s.record base code p).rcd.queue = s.rcd.queue ∧ (s.record base code p).rcd.overflow = true ∧
    (s.record base code p).rcd.lost = bumpAt s.rcd.lost (recClass code) ∧ (s.record base code p).get REC_EVENT_LOST = 1) ∧
  (∀ (base code : Nat) (p : Bytes) (s : State), s.recorderRuns = false → s.record base code p = s) ∧
  (∀ (e : RecEvent) (second : Bool) (s : State), s.rcd.writing = some (e, second) → s.mram.wp = false → s.rcd.queue = [] →
    Gives (.recordWriteDone true) s (fun u =>
      u.mram.nextSeq = (s.mram.nextSeq + 1) % 2 ^ 32 ∧ u.get REC_NEXT_SEQ_SEQ = (s.mram.nextSeq + 1) % 2 ^ 32 ∧
      u.mram.cells = tabPut (s.get REC_STATUS_NEXT_IDX) ⟨recBytes s.mram.nextSeq (s.stepsBack e) e, 0xA5, false⟩ s.mram.cells ∧
      u.get REC_STATUS_NEXT_IDX = nextWrite (s.get REC_STATUS_NEXT_IDX) % 2 ^ REC_STATUS_NEXT_IDX.width ∧ u.rcd.writing = none)) ∧
  (∀ (e : RecEvent) (s : State), s.rcd.writing = some (e, false) → s.mram.wp = false →
    Gives (.recordWriteDone false) s (fun u => u.rcd.writing = some (e, true) ∧ u.mram.nextSeq = s.mram.nextSeq ∧
      u.get REC_EVENT_WRITE_FAIL = 1)) ∧
  (∀ (ok : Bool) (s : State), s.rcd.writing = none → exec (.recordWriteDone ok) s = .next s.settled) ∧
  (∀ (ok : Bool) (s : State), s.mram.wp = true → exec (.recordWriteDone ok) s = .next s.settled)

/-- The BOOT scan, the read window and the clear. Readings of the model that clauses rest on: notes/assumptions/28,
29. -/
def Obligations.RecorderScanReadAndClear : Prop :=
  (∀ s : State, s.recorderRuns = true → s.mode = modeBoot → s.flag REC_STATUS_READY = false → s.glb.held = false →
    Gives .recorderBootScan s (fun u => u.get REC_STATUS_READY = 1 ∧ (s.mram.clearPending = none → s.mram.cells = [] →
      u.get REC_FILL_FIRST_FILL = 0 ∧ u.get REC_FILL_RING_FILL = 0 ∧ u.get REC_STATUS_NEXT_IDX = 0 ∧ u.mram.nextSeq = s.mram.nextSeq))) ∧
  (∀ (req : Requester) (i : Nat) (s : State), exec (.recRdIdxWrite req i) s = .next (s.writeStep req 0x3014 4 i).settled) ∧
  (∀ (req : Requester) (s : State), exec (.recRdData7HighRead req) s = .next (s.readStep req 0x307C 4).settled) ∧
  (∀ (i : Nat) (c : RecCell) (s : State), i < 65536 → s.cell i = some c →
    (s.copyRecord i).get REC_RD_IDX_IDX = i ∧ (s.copyRecord i).get REC_RD_STATUS_IDX = i ∧
    (s.copyRecord i).get REC_RD_STATUS_VALID = b2n (c.mark == 0xA5) ∧
    ∀ w, w < 8 → (s.copyRecord i).get (REC_RD_DATA_DATA w) = ofLe (slice (8 * w) 8 (fit 63 c.bytes ++ le 1 c.mark)) % 2 ^ 64) ∧
  (∀ (path : Path) (arg : Nat) (s : State), s.accepts cmdRecClear path arg →
    Gives (.recClear path arg) s (fun u => u.get REC_STATUS_CLEARING = 1 ∧ u.mram.clearPending = some (arg % 65536) ∧
      u.rcd.clearing = some (arg % 65536, s.get REC_CFG_KEY_SLOT) ∧ u.mram.cells = s.mram.cells)) ∧
  (∀ (arg slot : Nat) (s : State), s.rcd.clearing = some (arg, slot) → s.rcd.writing = none → s.flag REC_STATUS_READY = true →
    Gives .recClearDone s (fun u => u.rcd.clearing = none ∧ u.mram.clearPending = none ∧ u.mram.clrCnt = satNat 32 (s.mram.clrCnt + 1) ∧
      (∀ i, clearNames arg i = true → tabFind i u.mram.cells = none) ∧
      u.rcd.writing = some (s.stamp 0x3000 0x1001 (s.clearedPayload arg slot), false) ∧ u.get REC_EVENT_CLEARED = 1)) ∧
  (∀ s : State, s.rcd.clearing = none → exec .recClearDone s = .next s.settled)

/-! ### Line ports (R64–R90) -/

/-- The equalizer: the sweep of ACQUIRE keeps the best of its settings; the adaptation writes the shadow set; the
applied set follows by one step before CAL_LOCK, and at the end of a frame that held a change back; CAL_LOCK missing
at its timeout is reported. Pair faults: each sets its sticky bit and its live condition and raises its source; a
short or an open at fault takes the link DOWN; an open at the coupler of an uncoupled end is the normal state; a
condition absent for 100 ms is no longer live, its sticky bit stands. Readings of the model that clauses rest on:
notes/assumptions/9, 36. -/
def Obligations.EqualizerAndPairFaults : Prop :=
  (∀ (p eye : Nat) (s : State), s.get (LN_STATUS_LINK p) = linkAcquire → (s.port p).sweepDone = false → (s.port p).sweep < 15 →
    exec (.acquireSettingTimer p eye) s = .next (State.settled (s.portMap p (fun l => { l with
      sweep := l.sweep + 1
      best := if l.sweep = 0 ∨ l.bestEye < eye then l.sweep else l.best
      bestEye := if l.sweep = 0 ∨ l.bestEye < eye then eye else l.bestEye })))) ∧
  (∀ (p eye : Nat) (s : State), p < 4 → s.get (LN_STATUS_LINK p) = linkAcquire → (s.port p).sweepDone = false → (s.port p).sweep = 15 →
    (s.port p).bestEye < eye → eye < 128 →
    Gives (.acquireSettingTimer p eye) s (fun u => (u.port p).sweepDone = true ∧ u.get (LN_EQ2_CTLE p) = 15 ∧ u.get (LN_EQ2_EYE p) = eye ∧
      (u.port p).shCtle = 15 ∧ (u.port p).shTaps = [0, 0, 0, 0, 0])) ∧
  (∀ (p ctle : Nat) (taps : List Int) (eye : Nat) (s : State), p < 4 → s.lineUp p = true →
    Gives (.shadowUpdate p ctle taps eye) s (fun u => (u.port p).shCtle = Nat.min 15 ctle ∧ u.get (LN_EQ2_CTLE p) = s.get (LN_EQ2_CTLE p) ∧
      u.taps p = s.taps p ∧ u.get (LN_STATUS_LINK p) = linkUp)) ∧
  (∀ (p : Nat) (s : State), p < 4 → s.lineUp p = true → s.flag (LN_STATUS_CAL_LOCK p) = false → (s.port p).shCtle ≤ 15 →
    Gives (.prelockEqStep p) s (fun u => u.get (LN_EQ2_CTLE p) =
        (stepToward (s.get (LN_EQ2_CTLE p)) (s.port p).shCtle).toNat % 2 ^ (LN_EQ2_CTLE p).width ∧
      ((u.get (LN_EQ2_CTLE p) : Int) - s.get (LN_EQ2_CTLE p)).natAbs ≤ 1)) ∧
  (∀ (p : Nat) (s : State), p < 4 → s.flag (LN_STATUS_CAL_LOCK p) = true → exec (.prelockEqStep p) s = .next s.settled) ∧
  (∀ (p : Nat) (s : State), p < 4 → (s.port p).deferred = true → s.lineUp p = true → Gives (.deferredRxChange p) s (fun u =>
    (u.port p).deferred = false ∧ u.get (LN_EQ2_CTLE p) =
      (stepToward (s.get (LN_EQ2_CTLE p)) (s.port p).shCtle).toNat % 2 ^ (LN_EQ2_CTLE p).width)) ∧
  (∀ (p : Nat) (s : State), (s.port p).deferred = false → exec (.deferredRxChange p) s = .next s.settled) ∧
  (∀ (p : Nat) (s : State), p < 4 → s.lineUp p = true → s.flag (LN_STATUS_CAL_LOCK p) = false →
    Does (.calTimeout p) s ((s.set (LN_FAULT_CAL_TIMEOUT p) 1).portMap p (fun l => { l with live := setBitOf l.live 11 }))) ∧
  (∀ (p : Nat) (shield : Bool) (dist : Nat) (rho : Int) (s : State), s.transmitterOn p = true → shield = true ∨ rho ≤ -77 →
    Gives (.pairShortDetect p shield dist rho) s (fun u => u.get (lnFaultField (if shield then 2 else 1) p) = 1 ∧
      hasBit (u.port p).live (if shield then 2 else 1) = true ∧ hasBit u.flt.lines 29 = true ∧ u.get (LN_STATUS_LINK p) = linkDown)) ∧
  (∀ (p : Nat) (dist : Nat) (rho : Int) (s : State), s.transmitterOn p = true → rho > -77 →
    exec (.pairShortDetect p false dist rho) s = .next s.settled) ∧
  (∀ (p dist : Nat) (rho : Int) (s : State), s.transmitterOn p = true → 77 ≤ rho →
    s.beforeCoupler p dist = true ∨ (s.atCoupler p dist = true ∧ s.coupled (portEnd p) = true) →
    Gives (.pairOpenDetect p dist rho) s (fun u => u.get (LN_FAULT_OPEN p) = 1 ∧ hasBit (u.port p).live 3 = true ∧
      hasBit u.flt.lines 30 = true ∧ u.get (LN_STATUS_LINK p) = linkDown)) ∧
  (∀ (p dist : Nat) (rho : Int) (s : State), s.transmitterOn p = true → 77 ≤ rho →
    s.beforeCoupler p dist = false → s.atCoupler p dist = true → s.coupled (portEnd p) = false →
    exec (.pairOpenDetect p dist rho) s = .next (State.settled
      ((s.portMap p (fun l => { l with echo := some (dist, rho) })).set (LN_ECHO_CLASS p) 4))) ∧
  (∀ (p : Nat) (s : State), s.transmitterOn p = true →
    Does (.pairSwapDetect p) s ((s.set (LN_FAULT_PAIR_SWAP p) 1).portMap p (fun l => { l with live := setBitOf l.live 5 }))) ∧
  (∀ (p : Nat) (vcm : Int) (s : State), p < 4 → Gives (.commonModeDetect p vcm) s (fun u =>
    u.get (LN_CM_VCM p) = satInt 16 vcm % 2 ^ 16 ∧ (4500 ≤ vcm.natAbs → u.get (LN_FAULT_COMMON_MODE p) = 1 ∧ hasBit u.flt.lines 33 = true) ∧
    (vcm.natAbs < 4500 → u.port p = s.port p ∧ u.flt = s.flt))) ∧
  (∀ (p c : Nat) (s : State), p < 4 → 1 ≤ c → c ≤ 11 → hasBit (s.port p).live c = true →
    Gives (.pairFaultClear p c) s (fun u => hasBit (u.port p).live c = false ∧ u.get (lnFaultField c p) = s.get (lnFaultField c p))) ∧
  (∀ (p dist : Nat) (rho : Int) (s : State), s.transmitterOn p = true → s.nelmin p = true →
    exec (.echoScanDone p dist rho) s = .next (State.settled
      ((s.portMap p (fun l => { l with echo := some (dist, rho) })).wrapUp (LN_ECHO_SCANS p))))

/-- Link states: a loss of signal, a timeout of ACQUIRE, a loss of alignment or 16 code errors in a window take a port
DOWN; a signal takes it from DOWN to ACQUIRE with the DFE off; 64 idles take it from ACQUIRE to UP, with a HELLO where
the node sends them. The links of the other ports stay. Keep-alive, and the commands of a line port. Readings of the
model that clauses rest on: notes/assumptions/9, 36. -/
def Obligations.LinkStatesChange : Prop :=
  (∀ (p : Nat) (s : State), p < 4 → Gives (.linkLossOfSignal p) s (fun u => u.get (LN_STATUS_SIG_DET p) = 0 ∧
    u.get (LN_STATUS_LINK p) = linkDown ∧ (∀ q, q < 4 → q ≠ p → u.get (LN_STATUS_LINK q) = s.get (LN_STATUS_LINK q)) ∧
    (s.lineUp p = true → u.get (LN_ERR_CNT_LINK_DOWNS p) = satNat (LN_ERR_CNT_LINK_DOWNS p).width (s.get (LN_ERR_CNT_LINK_DOWNS p) + 1)))) ∧
  (∀ (p : Nat) (al : Bool) (s : State), s.receiverOn p = true → s.nelmin p = true → s.get (LN_STATUS_LINK p) ≠ linkDown →
    Gives (.linkCodeError p al) s (fun u =>
      u.get (LN_ERR_CNT_CODE_ERRORS p) = satNat (LN_ERR_CNT_CODE_ERRORS p).width (s.get (LN_ERR_CNT_CODE_ERRORS p) + 1) ∧
      (al = true ∨ 16 ≤ (noteCodeError s.uptime codeGroupWindow (s.port p).codeErrs).length → u.get (LN_STATUS_LINK p) = linkDown) ∧
      (al = false → (noteCodeError s.uptime codeGroupWindow (s.port p).codeErrs).length < 16 →
        u.get (LN_STATUS_LINK p) = s.get (LN_STATUS_LINK p)))) ∧
  (∀ (p : Nat) (s : State), s.receiverOn p = true → s.get (LN_STATUS_LINK p) = linkDown →
    Gives (.signalDetect p) s (fun u => u.get (LN_STATUS_LINK p) = linkAcquire ∧ u.get (LN_STATUS_SIG_DET p) = 1 ∧
      u.taps p = [0, 0, 0, 0, 0] ∧ (u.port p).sweep = 0 ∧ (u.port p).sweepDone = false)) ∧
  (∀ (p : Nat) (s : State), p < 4 → s.get (LN_STATUS_LINK p) = linkAcquire →
    Gives (.acquireTimeout p) s (fun u => u.get (LN_STATUS_LINK p) = linkDown)) ∧
  (∀ (p : Nat) (s : State), s.get (LN_STATUS_LINK p) = linkAcquire → s.receiverOn p = true →
    Gives (.linkUp p) s (fun u => u.get (LN_STATUS_LINK p) = linkUp ∧ u.get (LN_STATUS_CAL_LOCK p) = 0 ∧ (u.port p).upAt = s.uptime ∧
      (s.inaSends = true → .hello p (s.helloFrame (portEnd p)) ∈ u.out) ∧ u.mode = s.mode)) ∧
  (∀ (p : Nat) (s : State), p < 4 → s.get (LN_STATUS_LINK p) = linkAcquire → s.flag (LN_STATUS_RX_INV p) = true →
    exec (.rxPolarityDetect p) s = .next (s.set (LN_STATUS_RX_INV p) 0).settled) ∧
  (∀ (p : Nat) (s : State), p < 4 → s.get (LN_STATUS_LINK p) = linkAcquire → s.flag (LN_STATUS_RX_INV p) = false →
    Does (.rxPolarityDetect p) s (((s.set (LN_STATUS_RX_INV p) 1).set (LN_FAULT_POLARITY p) 1).portMap p
      (fun l => { l with live := setBitOf l.live 4 }))) ∧
  (∀ (p : Nat) (s : State), p < 4 → s.glb.held = false → ¬(s.mode = modeSleep ∧ s.slp.entered = true) → s.flag (LN_TRX_KA_TEST p) = false →
    exec (.keepalivePulse p) s = .next (State.settled ((s.emit (.keepAlive p)).portMap p (fun l => { l with failSafe := false })))) ∧
  (∀ (p : Nat) (s : State), p < 4 → s.mode ≠ modeSleep →
    exec (.keepaliveTimeout p) s = .next (State.settled ((s.portMap p (fun l => { l with failSafe := true })).set (LN_TRX_FS_SLEEP p) 1))) ∧
  (∀ (path : Path) (p arg : Nat) (s : State), p < 4 → s.accepts (cmdKaTest p) path arg →
    Does (.kaTest path p arg) s ((s.begun (cmdKaTest p) path arg).set (LN_TRX_KA_TEST p) 1)) ∧
  (∀ (p : Nat) (reached : Bool) (s : State), p < 4 → s.flag (LN_TRX_KA_TEST p) = true →
    Gives (.kaTestEnd p reached) s (fun u => u.get (LN_TRX_KA_TEST p) = 0 ∧ (u.port p).failSafe = false ∧
      (reached = true → u.get (LN_TRX_FS_SLEEP p) = 1) ∧ (reached = false → u.get (LN_TRX_FS_SLEEP p) = s.get (LN_TRX_FS_SLEEP p)) ∧
      .keepAlive p ∈ u.out)) ∧
  (∀ (path : Path) (p arg : Nat) (s : State), p < 4 → s.accepts (cmdRecalibrate p) path arg →
    Gives (.recalibrate path p arg) s (fun u => u.get (LN_EQ2_CTLE p) = 8 ∧ u.taps p = [0, 0, 0, 0, 0] ∧ (u.port p).shCtle = 8 ∧
      u.get (LN_STATUS_LINK p) ≠ linkUp)) ∧
  (∀ (path : Path) (p arg : Nat) (s : State), p < 4 → s.accepts (cmdSetDelayBase p) path arg →
    Does (.setDelayBase path p arg) s (((s.begun (cmdSetDelayBase p) path arg).set (LN_DELAY_BASE_BASE p) (s.get (LN_DELAY_DELAY p))).portMap p
      (fun l => { l with baseLoaded := true }))) ∧
  (∀ (path : Path) (p arg : Nat) (s : State), p < 4 → s.accepts (cmdEchoReset p) path arg →
    Does (.echoReset path p arg) s (((s.begun (cmdEchoReset p) path arg).load
      [(LN_ECHO_CLASS p, 0), (LN_ECHO_RHO p, 0), (LN_ECHO_DIST p, 0)]).portMap p (fun l => { l with echo := none })))

/-! ### Inauguration (R91–R121) -/

/-- The state after a trigger that is recognized outside a run: SETTLE, its time noted. -/
def Sys2Proof.Machine.State.triggered (s : State) : State :=
  (s.set INA_STATUS_STATE inaSettle).inaMap (fun i => { i with firstTrigger := some s.uptime, restartWait := false, committed := false })

/-- A trigger would start SETTLE. -/
abbrev Sys2Proof.Machine.State.quiet (s : State) : Prop := s.inaRuns = true ∧ s.inRun = false ∧ s.inaState ≠ inaSettle

/-- Triggers of Table 4.1 start SETTLE: a change of COUPLE_SENSE or CAB_ACTIVE, INAUGURATE, an end that has stayed not
linked, and a HELLO of another neighbour or counter on an end that came back. A level that stays, and a HELLO that
matches, are no triggers. A run starts at the end of SETTLE with ATTEMPT 0, and after the wait of a restart with the
next attempt: a node with one linked end claims and waits as a head, a node with two sends ALERT both ways, a node
with none commits alone under the next counter; an ALERT draws a node into its run. Readings of the model that clauses
rest on: notes/assumptions/9, 37. -/
def Obligations.RunsStart : Prop :=
  (∀ (side : Nat) (level : Bool) (s : State), s.quiet → side = 1 → s.get INA_SENSE_CS1_DEB ≠ b2n level →
    exec (.coupleSenseDebounced side level) s = .next (State.triggered
      (s.load [(INA_SENSE_CS1_RAW, b2n level), (INA_SENSE_CS1_DEB, b2n level)])).settled) ∧
  (∀ (side : Nat) (level : Bool) (s : State), side = 2 → s.get INA_SENSE_CS2_DEB = b2n level →
    exec (.coupleSenseDebounced side level) s = .next
      (s.load [(INA_SENSE_CS2_RAW, b2n level), (INA_SENSE_CS2_DEB, b2n level)]).settled) ∧
  (∀ (level : Bool) (s : State), s.quiet → s.cabActive ≠ level →
    exec (.cabActiveDebounced level) s = .next (State.triggered
      (s.load [(INA_SENSE_CAB_RAW, b2n level), (INA_SENSE_CAB_DEB, b2n level)])).settled) ∧
  (∀ (level : Bool) (s : State), s.cabActive = level →
    exec (.cabActiveDebounced level) s = .next (s.load [(INA_SENSE_CAB_RAW, b2n level), (INA_SENSE_CAB_DEB, b2n level)]).settled) ∧
  (∀ (path : Path) (arg : Nat) (s : State), s.accepts cmdInaugurate path arg → (s.begun cmdInaugurate path arg).quiet →
    Does (.inaugurate path arg) s (s.begun cmdInaugurate path arg).triggered) ∧
  (∀ s : State, s.quiet → s.ina.hold1 = true → s.slp.holdEnd1 = false →
    exec (.endNotLinkedHold 1) s = .next (State.triggered { s with ina := { s.ina with hold1 := false } }).settled) ∧
  (∀ (p : Nat) (f : InaFrame) (s : State), s.quiet → s.receiverOn p = true → s.lineUp p = true → f.kind = 1 →
    s.ina.fresh (portEnd p) = true → ¬(f.uid = s.recordedNbr (portEnd p) ∧ f.topo = s.topo) →
    Gives (.helloReceive p f) s (fun u => u.inaState = inaSettle ∧ u.ina.firstTrigger = some s.uptime ∧ u.ina.fresh (portEnd p) = false ∧
      (u.port p).helloSeen = true ∧ u.nbrUid (portEnd p) = f.uid)) ∧
  (∀ (p : Nat) (f : InaFrame) (s : State), s.inaRuns = true → s.receiverOn p = true → s.lineUp p = true → f.kind = 1 →
    s.ina.fresh (portEnd p) = false → Gives (.helloReceive p f) s (fun u => u.inaState = s.inaState ∧ u.nbrUid (portEnd p) = f.uid ∧
      (u.port p).helloSeen = true ∧ u.regs = s.regs)) ∧
  (∀ (p : Nat) (s : State), exec (.helloRepeat p) s = .next (State.settled
    (if p < 4 ∧ s.lineUp p = true ∧ (s.port p).helloSeen = false then s.sendHello p else s))) ∧
  (∀ s : State, exec .settleEnd s = .next (State.settled
    (if s.inaRuns = true ∧ s.inaState = inaSettle ∧ s.ina.restartWait = false then s.startRun 0 else s))) ∧
  (∀ s : State, exec .runRestartWaitEnd s = .next (State.settled
    (if s.inaRuns = true ∧ s.inaState = inaSettle ∧ s.ina.restartWait = true ∧ s.flag INA_STATUS_FAILED = false then s.startRun s.ina.attempt
      else s))) ∧
  (∀ s : State, exec .failedRetry s = .next (State.settled
    (if s.inaRuns = true ∧ s.inaState = inaSettle ∧ s.ina.restartWait = true ∧ s.flag INA_STATUS_FAILED = true then s.startRun s.ina.attempt
      else s))) ∧
  (∀ (a e : Nat) (s : State), a < 256 → s.onlyEnd = some e → (s.startRun a).inaState = inaHeadWait ∧ (s.startRun a).ina.attempt = a ∧
    (s.startRun a).ina.best = some s.ownClaim ∧ (s.startRun a).get INA_STATUS_ATTEMPT = a ∧
    (s.inaSends = true → s.mode ≠ modeBorder → ∃ f, .ina e f ∈ (s.startRun a).out ∧ f.kind = 3 ∧ f.attempt = a ∧ f.uid = s.trainUid)) ∧
  (∀ (a : Nat) (s : State), a < 256 → s.bothEnds = true → (s.startRun a).inaState = inaRelay ∧ (s.startRun a).ina.attempt = a ∧
    (s.inaSends = true → s.mode ≠ modeBorder → (∃ f, .ina 1 f ∈ (s.startRun a).out ∧ f.kind = 2 ∧ f.attempt = a) ∧
      ∃ f, .ina 2 f ∈ (s.startRun a).out ∧ f.kind = 2 ∧ f.attempt = a)) ∧
  (∀ (a : Nat) (s : State), s.endUp 1 = false → s.endUp 2 = false → s.topo < 65535 → s.mode = modeNative →
    (s.startRun a).inaState = inaIdle ∧ (s.startRun a).get INA_TOPO_COUNTER = s.topo + 1 ∧
    (s.startRun a).get INA_POS_VEH_COUNT = 1 ∧ (s.startRun a).get INA_POS_POSITION = 1 ∧ (s.startRun a).get INA_STATUS_ROLE = roleSingle ∧
    (s.startRun a).mram.topo = s.topo + 1) ∧
  (∀ (p : Nat) (f : InaFrame) (s : State), (s.firstCopy p 2 f).1 = true → s.inaState = inaIdle → s.bothEnds = true → f.attempt < 256 →
    Gives (.alertReceive p f) s (fun u => u.inaState = inaRelay ∧ u.ina.attempt = f.attempt ∧
      (s.inaSends = true → s.mode ≠ modeBorder → portEnd p = 1 → ∃ g, .ina 2 g ∈ u.out ∧ g.kind = 2)))

/-- The frames of a run: a DISC of a claim that is not beaten gives the node the next position and the hash continued,
and goes on, or is answered with a RET at the other end of the train; the RET goes back to the head, which commits
under a counter above both; a COMMIT of the run is applied and passed on; DONE returns the head to IDLE. The topology
hash is the CRC-32 of the unique IDs in order, each as 8 bytes, little-endian. Readings of the model that clauses rest
on: notes/assumptions/34, 37. -/
def Obligations.RunFramesCommit : Prop :=
  (∀ (p : Nat) (d : InaFrame) (s : State), (s.firstCopy p 3 d).1 = true → s.inRun = true → d.attempt = s.ina.attempt → s.legacyCount = 0 →
    d.pos < 256 → (s.ina.best = none ∨ ∃ b, s.ina.best = some b ∧ b.better (inaClaim d) = false) →
    Gives (.discReceive p d) s (fun u => u.ina.runPos = d.pos + 1 ∧ u.ina.runHash = hashOn d.hash s.trainUid ∧ u.ina.runEnd = portEnd p ∧
      u.ina.best = some (inaClaim d) ∧ u.inaState = (if s.endUp (3 - portEnd p) then inaRelay else inaTailWait) ∧ u.topo = s.topo)) ∧
  (∀ (p : Nat) (d : InaFrame) (b : Claim) (s : State), (s.firstCopy p 3 d).1 = true → s.inRun = true → d.attempt = s.ina.attempt →
    s.ina.best = some b → b.better (inaClaim d) = true → exec (.discReceive p d) s = .next (s.firstCopy p 3 d).2.settled) ∧
  (∀ (p : Nat) (r : InaFrame) (s : State), (s.firstCopy p 4 r).1 = true → s.ofRun r = true → s.inaState = inaHeadWait →
    r.pos ≤ 256 → r.hash < 2 ^ 32 → (serialMax r.topo s.topo + 1) % 65536 ≠ 0 →
    Gives (.retReceive p r) s (fun u => u.get INA_TOPO_COUNTER = (serialMax r.topo s.topo + 1) % 65536 ∧
      u.get INA_POS_VEH_COUNT = r.pos ∧ u.get INA_HASH_HASH = r.hash ∧ u.get INA_STATUS_ROLE = roleHead ∧ u.ina.committed = true ∧
      u.get INA_EVENT_DONE = 1 ∧ u.mram.topo = (serialMax r.topo s.topo + 1) % 65536)) ∧
  (∀ (p : Nat) (r : InaFrame) (s : State), (s.firstCopy p 4 r).1 = true → s.ofRun r = true → s.inaState = inaRelay →
    Gives (.retReceive p r) s (fun u => u.ina.ret = some r ∧ u.inaState = inaRelay ∧ u.topo = s.topo)) ∧
  (∀ (p : Nat) (f : InaFrame) (s : State), (s.firstCopy p 5 f).1 = true → s.ofRun f = true →
    s.inaState = inaRelay ∨ s.inaState = inaTailWait → f.topo < 65536 → f.pos ≤ 256 → f.hash < 2 ^ 32 →
    Gives (.inaugCommitReceive p f) s (fun u => u.inaState = inaIdle ∧ u.get INA_TOPO_COUNTER = f.topo ∧ u.get INA_POS_VEH_COUNT = f.pos ∧
      u.get INA_HASH_HASH = f.hash ∧ u.get INA_STATUS_ROLE = (if s.inaState = inaTailWait then roleTail else roleMid) ∧
      u.get INA_POS_POSITION = s.ina.runPos % 2 ^ INA_POS_POSITION.width ∧ u.mram.topo = f.topo)) ∧
  (∀ (p : Nat) (f : InaFrame) (s : State), (s.firstCopy p 6 f).1 = true → f.topo = s.topo → s.ina.committed = true →
    Gives (.doneReceive p f) s (fun u => u.inaState = inaIdle ∧ u.ina.committed = false ∧ u.topo = s.topo)) ∧
  (∀ s : State, s.inaRuns = true → s.inRun = true → s.flag INA_STATUS_FAILED = false → Gives .runTimeout s (fun u =>
    u.inaState = inaSettle ∧ u.ina.restartWait = true ∧ u.ina.attempt = (s.ina.attempt + 1) % 256 ∧
    u.get INA_EVENT_RESTART = 1 ∧ (3 ≤ s.ina.restarts → u.get INA_STATUS_FAILED = 1 ∧ hasBit u.flt.lines 35 = true) ∧
    (s.ina.restarts < 3 → u.get INA_STATUS_FAILED = 0))) ∧
  (∀ s : State, exec .graceEnd s = .next (s.set INA_STATUS_GRACE 0).settled) ∧
  (∀ (p : Nat) (d : InaFrame) (s : State), (s.firstCopy p 3 d).1 = true → s.inRun = true → d.attempt = s.ina.attempt → s.legacyCount = 0 →
    d.pos < 256 → (s.ina.best = none ∨ ∃ b, s.ina.best = some b ∧ b.better (inaClaim d) = false) →
    s.inaSends = true → s.mode ≠ modeBorder → s.endUp (3 - portEnd p) = true →
    Gives (.discReceive p d) s (fun u => ∃ g, .ina (3 - portEnd p) g ∈ u.out ∧ g.kind = 3 ∧ g.attempt = d.attempt ∧ g.uid = d.uid ∧
      g.pos = d.pos + 1 ∧ g.hash = hashOn d.hash s.trainUid)) ∧
  (∀ l : List Nat, l.foldl hashOn 0 = crc32 (l.flatMap (le 8)))

/-- Hop delay and calibration epochs: reports and notices that are damaged or of another topology are counted and
discarded; a sample enters the average of at most 16; an epoch applies what is ready, once every carried copy of the
frame has ended. The hop delay table: a node that is not the head sends its own delay; what arrives under the present
counter waits for the epoch, its unique ID is known at once. Readings of the model that clauses rest on:
notes/assumptions/36. -/
def Obligations.HopDelayAndEpochs : Prop :=
  (∀ (p : Nat) (h : HopReport) (s : State), s.receiverOn p = true → s.lineUp p = true →
    s.hopBad h.crc h.topo h.codeError (hopReportBytes h) = true →
    exec (.hopReportReceive p h) s = .next (s.bump (LN_DELAY_STAT_DISCARDS p)).settled) ∧
  (∀ (p : Nat) (h : HopReport) (t1 t4 : Int) (s : State), s.receiverOn p = true → s.lineUp p = true →
    s.hopBad h.crc h.topo h.codeError (hopReportBytes h) = false → s.isDownstream p = true → hasBit h.flags 0 = true →
    s.flag (LN_STATUS_CAL_LOCK p) = true → (s.port p).t1 = some t1 → (s.port p).t4 = some t4 → s.flag (LN_DELAY_VALID p) = false →
    Gives (.hopReportReceive p h) s (fun u => (u.port p).samples = (s.hopSample p t1 t4 h.residence :: (s.port p).samples).take 16 ∧
      (u.port p).t1 = none ∧ (u.port p).t4 = none ∧ (u.port p).ready.isSome = true ∧ u.regs = s.regs)) ∧
  (∀ (p : Nat) (d : HopNotice) (s : State), s.receiverOn p = true → s.lineUp p = true →
    s.hopBad d.crc d.topo d.codeError (hopNoticeBytes d) = true →
    exec (.hopNoticeReceive p d) s = .next (s.bump (LN_DELAY_STAT_DISCARDS p)).settled) ∧
  (∀ (p : Nat) (d : HopNotice) (s : State), s.receiverOn p = true → s.lineUp p = true →
    s.hopBad d.crc d.topo d.codeError (hopNoticeBytes d) = false → s.isUpstream p = true →
    exec (.hopNoticeReceive p d) s = .next (State.settled
      (s.portMap p (fun l => { l with ready := some (d.delay % 2 ^ 20, hasBit d.flags 0, d.samples) })))) ∧
  (∀ (p d n : Nat) (valid : Bool) (s : State), p < 4 → (s.port p).ready = some (d, valid, n) → d < 2 ^ 20 →
    (s.applyDelay p).get (LN_DELAY_DELAY p) = d ∧ (s.applyDelay p).get (LN_DELAY_VALID p) = b2n valid ∧
    ((s.applyDelay p).port p).ready = none ∧
    (valid = true → (s.port p).baseLoaded = false → (s.applyDelay p).get (LN_DELAY_BASE_BASE p) = d) ∧
    ((s.port p).baseLoaded = true → (s.applyDelay p).get (LN_DELAY_BASE_BASE p) = s.get (LN_DELAY_BASE_BASE p))) ∧
  (∀ (receiving : Nat) (s : State), s.keepsEpochs = true → s.freeEpochs = false → s.epochDue = true →
    Gives (.calibrationEpoch receiving) s (fun u => u.cyc.inbound = 0 ∧ u.cyc.notCarried = 0 ∧ u.cyc.copies = 0 ∧ u.cyc.verified = 0)) ∧
  (∀ (receiving : Nat) (s : State), s.keepsEpochs = false ∨ s.freeEpochs = true ∨ s.epochDue = false →
    exec (.calibrationEpoch receiving) s = .next s.settled) ∧
  (∀ (line : Nat) (s : State), line < 2 → s.cyc.inbound ≠ 0 → hasBit s.cyc.inbound line = false →
    exec (.lateLineTimeout line) s = .next (State.settled { s with cyc := { s.cyc with notCarried := setBitOf s.cyc.notCarried line } })) ∧
  (∀ s : State, exec .freeEpoch s = .next (State.settled (if s.keepsEpochs && s.freeEpochs then s.epoch 0 else s))) ∧
  (∀ s : State, s.inaSends = true → s.position ≠ 0 → s.isHead = false → s.mode ≠ modeBorder →
    exec .hopdlySend s = .next (s.originate (controlFrame 2 groupAll (hopPayload s.position s.topo (s.delayWord s.hopPort) s.trainUid)) none).settled) ∧
  (∀ s : State, s.inaSends = false → exec .hopdlySend s = .next s.settled) ∧
  (∀ (f : MsgFrame) (q : Nat) (s : State), (s.takeInbox f).controlActs f 2 = true → ofLe (slice 2 2 f.payload) = s.topo →
    ofLe (slice 0 2 f.payload) = q → 1 < q → q ≤ s.trainLen →
    Gives (.hopdlyReceive f) s (fun u => u.ina.uids = tabPut q (ofLe (slice 8 8 f.payload)) s.ina.uids ∧
      u.ina.hopPending = s.ina.hopPending ++ [(q - 2, bits (ofLe (slice 4 4 f.payload)) 0 20, hasBit (ofLe (slice 4 4 f.payload)) 31)] ∧
      ∀ i, u.get (INA_HOPDLY_DELAY i) = s.get (INA_HOPDLY_DELAY i))) ∧
  (∀ (d i : Nat) (v : Bool) (s : State), i < 256 → d < 2 ^ 20 → s.ina.hopPending = [(i, d, v)] →
    s.hopEpoch.get (INA_HOPDLY_DELAY i) = d ∧ s.hopEpoch.get (INA_HOPDLY_RCVD i) = 1 ∧ s.hopEpoch.get (INA_HOPDLY_VALID i) = b2n v ∧
    s.hopEpoch.ina.hopPending = [])

/-! ### Cycle frame (R122–R148) -/

/-- The head sends one frame per line of its linked end at each basic-cycle instant and counts on; outside these
conditions nothing is sent. An outbound copy whose header passes is shown in the registers, goes on with its
correction field raised by hop delay and residence, and commits its areas only when its trailer verifies; one whose
header does not pass is counted and goes no further. An inbound copy whose header passes counts as ended on its line,
goes on upstream unchanged at every node but the head, and commits areas only when its trailer verifies. Readings of
the model that clauses rest on: notes/assumptions/13, 30, 32. -/
def Obligations.CycleFramesRun : Prop :=
  (∀ (lateA lateB : Int) (s : State), s.emitsCycles = true → s.sleepHolds = false → s.cyc.nextCycle < 2 ^ 32 →
    Gives (.cycleFrameEmit lateA lateB) s (fun u => u.cyc.nextCycle = (s.cyc.nextCycle + 1) % 2 ^ 32 ∧
      u.get CYC_CYCLE_CYCLE = s.cyc.nextCycle ∧ u.get CYC_STATUS_BC_IN_USE = s.get CYC_CFG_BC_N ∧
      ∀ p, p ∈ endPorts s.tailEnd → s.lineUp p = true → s.portLinked p = true → ∃ f, .cycleFrame p f false ∈ u.out ∧
        f.cycle = s.cyc.nextCycle ∧ f.topo = s.topo ∧ f.hcrc = cycHcrc f ∧ cycDir f = false)) ∧
  (∀ (lateA lateB : Int) (s : State), s.emitsCycles = false ∨ s.sleepHolds = true →
    exec (.cycleFrameEmit lateA lateB) s = .next s.settled) ∧
  (∀ (p : Nat) (f : CycleFrame) (rx tx : Int) (e : Option Nat) (s : State), s.hearsCycles p = false →
    exec (.cycleFrameOutbound p f rx tx e) s = .next s.settled) ∧
  (∀ (p : Nat) (f : CycleFrame) (rx tx : Int) (e : Option Nat) (s : State), s.hearsCycles p = true → f.hcrc ≠ cycHcrc f →
    s.frameTopology f ≠ none → exec (.cycleFrameOutbound p f rx tx e) s = .next (s.bump CYC_ERR_HDR_ERR).settled) ∧
  (∀ (p : Nat) (f : CycleFrame) (rx tx : Int) (t : Topology) (s : State), s.hearsCycles p = true → s.checkHeader p f true = (some t, s) →
    f.topo = s.ina.topo.counter → s.cyc.latched = none → f.cycle < 2 ^ 32 → f.mapSeq < 256 →
    Gives (.cycleFrameOutbound p f rx tx none) s (fun u => u.get CYC_CYCLE_CYCLE = f.cycle ∧ u.get CYC_STATUS_MAP_SEQ = f.mapSeq ∧
      u.cyc.headerLost = false ∧
      (s.cycVerifies (cycIv t.hash (t.pos - 2) f) f = false → u.get CYC_EVENT_TAG_FAIL = 1 ∧ u.cyc.rx = s.cyc.rx) ∧
      (s.running = true → s.permission = true → t.linked (portEnd (portAcross p)) = true → s.lineUp (portAcross p) = true →
        s.nelmin (portAcross p) = true →
        ∃ g, .cycleFrame (portAcross p) g false ∈ u.out ∧ g.cycle = f.cycle ∧ g.corr = f.corr + s.hopDelay p + s.scaled (tx - rx)))) ∧
  (∀ (f : CycleFrame) (m : SlotMap) (q : Nat) (s : State), s.inBlock q = false → 0 < m.size q → s.cyc.done.contains q = false →
    (m.area q f.slots).take 2 = le 2 f.cycle → tabFind q (State.commitArea f m s q).cyc.rx = some (m.area q f.slots)) ∧
  (∀ (f : CycleFrame) (m : SlotMap) (q : Nat) (s : State), (m.area q f.slots).take 2 ≠ le 2 f.cycle →
    (State.commitArea f m s q).cyc.rx = s.cyc.rx) ∧
  (∀ (p : Nat) (f : CycleFrame) (rx tx : Int) (e : Option Nat) (s : State), s.hearsCycles p = false →
    exec (.cycleFrameInbound p f rx tx e) s = .next s.settled) ∧
  (∀ (p : Nat) (f : CycleFrame) (rx tx : Int) (t : Topology) (s : State), s.hearsCycles p = true → s.checkHeader p f false = (some t, s) →
    s.mode ≠ modeStandby →
    Gives (.cycleFrameInbound p f rx tx none) s (fun u => hasBit u.cyc.inbound (p % 2) = true ∧
      (s.cycVerifies (cycIv t.hash (t.n - 1) f) f = false → u.get CYC_EVENT_TAG_FAIL = 1 ∧ u.cyc.rx = s.cyc.rx ∧
        u.get CYC_ERR_TAG_FAIL = satNat CYC_ERR_TAG_FAIL.width (s.get CYC_ERR_TAG_FAIL + 1)) ∧
      (s.isHead = false → s.running = true → s.permission = true → s.lineUp (portAcross p) = true →
        .cycleFrame (portAcross p) f false ∈ u.out))) ∧
  (∀ (p n : Nat) (f : CycleFrame) (rx tx : Int) (t : Topology) (s : State), s.hearsCycles p = true →
    s.checkHeader p f false = (some t, s) → Gives (.cycleFrameInbound p f rx tx (some n)) s (fun u =>
      hasBit u.cyc.inbound (p % 2) = true ∧ u.cyc.rx = s.cyc.rx ∧
      u.get CYC_ERR2_ABORTS = satNat CYC_ERR2_ABORTS.width (s.get CYC_ERR2_ABORTS + 1)))

/-- Slot maps: a node declares its size to the head; the head takes declarations, assigns sizes in ascending position
up to 1,024 units, and repeats its map; a map that arrives is held until a frame names it. The position at which the
sizes would pass 1,024 units and every later one get 0; MAP_TRUNC is set and recorded. Readings of the model that
clauses rest on: notes/assumptions/33. -/
def Obligations.SlotMapsAndDeclarations : Prop :=
  (∀ (path : Path) (arg : Nat) (s : State), s.accepts cmdDeclare path arg → Does (.declare path arg) s (s.begun cmdDeclare path arg).sendDecl) ∧
  (∀ s : State, exec .slotDeclRepeat s = .next (State.settled (if s.inaSends = true ∧ s.cyc.declOpen = true then s.sendDecl else s))) ∧
  (∀ s : State, s.isHead = false → s.sendDecl =
    ({ s with cyc := { s.cyc with declDue := false } }).originate (controlFrame 3 0 s.declPayload) none) ∧
  (∀ s : State, s.isHead = true → tabFind s.position s.sendDecl.cyc.decls = some s.ownSize ∧ s.sendDecl.msg = s.msg) ∧
  (∀ (f : MsgFrame) (q z : Nat) (s : State), (s.takeInbox f).controlActs f 3 = true → s.isHead = true → ofLe (slice 0 2 f.payload) = q →
    ofLe (slice 2 1 f.payload) = z → z ≤ 64 → 1 ≤ q → q ≤ s.trainLen →
    Gives (.slotDeclReceive f) s (fun u => u.cyc.decls = tabPut q z s.cyc.decls ∧ u.regs = s.regs)) ∧
  (∀ (f : MsgFrame) (s : State), (s.takeInbox f).controlActs f 3 = true → s.isHead = true → 64 < ofLe (slice 2 1 f.payload) →
    exec (.slotDeclReceive f) s = .next ((s.takeInbox f).bump MSG_STAT2_FRAME_ERR).settled) ∧
  (∀ (f : MsgFrame) (s : State), (s.takeInbox f).controlActs f 4 = true → s.isHead = false → ofLe (slice 2 2 f.payload) = s.trainLen →
    Gives (.slotMapReceive f) s (fun u => u.cyc.held.head? = some ⟨ofLe (slice 0 1 f.payload), ofLe (slice 4 4 f.payload),
      (slice 8 s.trainLen f.payload).map BitVec.toNat⟩ ∧ u.cyc.map = s.cyc.map ∧ u.regs = s.regs)) ∧
  (∀ s : State, exec .mapRepeat s = .next (State.settled (if s.inaSends = true ∧ s.get INA_STATUS_ROLE = roleHead then s.reissueMap else s))) ∧
  (∀ (path : Path) (arg : Nat) (s : State), s.accepts cmdMapReissue path arg →
    Does (.mapReissue path arg) s (s.begun cmdMapReissue path arg).reissueMap) ∧
  (∀ l : List Nat, (assignSizes 0 l).sum ≤ 1024 ∧ (assignSizes 0 l).length = l.length) ∧
  (∀ (l : List Nat) (k : Nat), k < l.length → (assignSizes 0 l).getD k 0 = (if (l.take (k + 1)).sum ≤ 1024 then l.getD k 0 else 0)) ∧
  (∀ s : State, s.issueMap.cyc.latest.sizes = assignSizes 0 s.askedSizes ∧
    s.issueMap.get CYC_STATUS_MAP_TRUNC = b2n (decide (1024 < s.askedSizes.sum)) ∧
    (1024 < s.askedSizes.sum → s.issueMap.get CYC_EVENT_MAP_TRUNC = 1)) ∧
  (∀ s : State, 1024 < s.askedSizes.sum → s.recorderRuns = true → s.rcd.writing.isSome = true → s.queueTakes 0x2003 = true →
    ∃ e ∈ s.issueMap.rcd.queue, e.code = 0x2003)

/-! ### Message window and switch (R149–R158) -/

/-- The switch: a frame is policed, checked and judged by its counter before it is routed; transit goes on unchanged
on the same line; a frame is sent when its port is free and it fits the window; a frame that is too old leaves its
queue and is counted. Readings of the model that clauses rest on: notes/assumptions/34, 35, 57. -/
def Obligations.MessageSwitch : Prop :=
  (∀ (p g : Nat) (f : MsgFrame) (s : State), s.inaRuns = true → s.receiverOn p = true → s.lineUp p = true → s.portLinked p = true →
    f.type ≠ 1 → s.bucket p (f.prio % 8) < g → Gives (.msgFrameReceive p f g) s (fun u =>
      u.get (MSG_POL_CNT_DISCARDS (8 * p + f.prio % 8)) =
        satNat (MSG_POL_CNT_DISCARDS (8 * p + f.prio % 8)).width (s.get (MSG_POL_CNT_DISCARDS (8 * p + f.prio % 8)) + 1) ∧
      u.msg.queues = s.msg.queues ∧ u.msg.inbox = s.msg.inbox)) ∧
  (∀ (p g : Nat) (f : MsgFrame) (s : State), s.inaRuns = true → s.receiverOn p = true → s.lineUp p = true → s.portLinked p = true →
    f.type ≠ 1 → g ≤ s.bucket p (f.prio % 8) → msgWellFormed f g = false →
    Gives (.msgFrameReceive p f g) s (fun u => u.msg.queues = s.msg.queues ∧ u.msg.inbox = s.msg.inbox ∧
      u.get MSG_STAT2_FRAME_ERR = satNat MSG_STAT2_FRAME_ERR.width (s.get MSG_STAT2_FRAME_ERR + 1))) ∧
  (∀ (p g : Nat) (f : MsgFrame) (s : State), s.inaRuns = true → s.receiverOn p = true → s.lineUp p = true → s.portLinked p = true →
    f.type ≠ 1 → g ≤ s.bucket p (f.prio % 8) → msgWellFormed f g = true → f.topo ≠ s.topo → s.graceTakes f = false →
    Gives (.msgFrameReceive p f g) s (fun u => u.msg.queues = s.msg.queues ∧ u.msg.inbox = s.msg.inbox ∧
      u.get INA_STAT2_OLD_DISCARD = satNat INA_STAT2_OLD_DISCARD.width (s.get INA_STAT2_OLD_DISCARD + 1))) ∧
  (∀ (p g o : Nat) (f : MsgFrame) (s : State), s.inaRuns = true → s.receiverOn p = true → s.lineUp p = true → s.portLinked p = true →
    f.type ≠ 1 → g ≤ s.bucket p (f.prio % 8) → msgWellFormed f g = true → f.topo = s.topo → addrGroup f.dst = false → addrLocal f.dst = false →
    s.inBlock (addrPos f.dst) = false → s.tailCannot f = false → s.transitPort p f = some o → s.inaSends = true → s.portLinked o = true →
    s.lineUp o = true → ((s.msgQueue o f.prio).map (fun x => msgStored x.frame)).sum + msgStored f ≤ s.msgDepth f.prio →
    Gives (.msgFrameReceive p f g) s (fun u => u.msgQueue o f.prio = s.msgQueue o f.prio ++ [⟨f, false, none, none⟩] ∧ u.regs = s.regs)) ∧
  (∀ (p : Nat) (q : Queued) (s : State), s.inaSends = true → s.transmitterOn p = true → s.lineUp p = true → s.portLinked p = true →
    s.windowOpen p = true → s.portBusy p = false → s.nextToSend p = some q → bridgeOwner q = none →
    Gives (.msgTransmitStart p) s (fun u => .message p q.frame ∈ u.out ∧ u.portBusy p = true ∧
      u.msgQueue p q.frame.prio = (s.msgQueue p q.frame.prio).tail ∧ u.regs = s.regs)) ∧
  (∀ (p : Nat) (s : State), s.windowOpen p = false ∨ s.portBusy p = true ∨ s.inaSends = false → exec (.msgTransmitStart p) s = .next s.settled) ∧
  (∀ (p c : Nat) (q : Queued) (t : List Queued) (s : State), p < 4 → c < 8 → s.msgQueue p c = q :: t → bridgeOwner q = none →
    exec (.msgQueueAgeExpiry p c) s = .next (((s.setMsgQueue p c t).bump MSG_STAT2_QUEUE_DROP).set MSG_EVENT_QUEUE_DROP 1).settled) ∧
  (∀ (src prio : Nat) (s : State), exec (.dupRecordLapse src prio) s = .next (State.settled
    { s with msg := { s.msg with dups := s.msg.dups.filter (fun r => !(r.src == src && r.prio == prio)) } }))

/-- Windows: a port's window opens with the close time of the head, closes, and at the last port the node's window is
over; without headers it stays open. The duplicate filter delivers a sequence number once: a record that has taken it
does not take it again. Readings of the model that clauses rest on: notes/assumptions/35, 38, 57. -/
def Obligations.MessageWindowsAndDuplicates : Prop :=
  (∀ (p : Nat) (s : State), s.inaRuns = true → p < 4 → s.cyc.headerLost = false → s.msg.open_ = 0 → s.isHead = true →
    Gives (.msgWindowOpen p) s (fun u => hasBit u.msg.open_ p = true ∧ u.msg.openedAt = s.trainTime ∧
      u.msg.close = some ((Int.fdiv s.trainTime s.basicCycle + 1) * s.basicCycle - (s.guard : Int) * 100 * nsUnit))) ∧
  (∀ (p : Nat) (s : State), s.inaRuns = true → p < 4 → s.cyc.headerLost = false → s.msg.open_ ≠ 0 →
    exec (.msgWindowOpen p) s = .next (State.settled { s with msg := { s.msg with open_ := setBitOf s.msg.open_ p } })) ∧
  (∀ (p : Nat) (s : State), s.inaRuns = true → p < 4 → s.cyc.headerLost = false → clearBitOf s.msg.open_ p ≠ 0 →
    exec (.msgWindowClose p) s = .next (State.settled { s with msg := { s.msg with open_ := clearBitOf s.msg.open_ p } })) ∧
  (∀ (p : Nat) (s : State), s.inaRuns = true → p < 4 → s.cyc.headerLost = false → clearBitOf s.msg.open_ p = 0 → s.msg.closed = false →
    Gives (.msgWindowClose p) s (fun u => u.msg.open_ = 0 ∧ u.msg.closed = true ∧ u.cyc.hdrAt = none)) ∧
  (∀ s : State, exec .headerLossTimeout s = .next (State.settled (if s.inaRuns = true ∧ s.isHead = false
    then { s with cyc := { s.cyc with headerLost := true, hdrAt := none }, msg := { s.msg with close := none } } else s))) ∧
  (∀ (r : DupRecord) (seq : Nat), dupTakes r seq = true → dupTakes (dupAccept r seq) seq = false) ∧
  (∀ (f : MsgFrame) (s : State), (s.dupCheck f).1 = true → s.msg.dups.find? (fun r => r.src == f.src && r.prio == f.prio) = none →
    ((s.dupCheck f).2.dupCheck f).1 = false)

/-! ### Train time (R162–R184) -/

/-- Train time goes on through an entry into HOLDOVER; a sample in FREE sets it and starts ACQUIRE; a STEP sets it at
its instant and marks it valid; a first PPS_IN edge at the head moves it to the full second. The other events and
commands of train time: the end of holdover, PPS without the input enabled, its loss, PPS_OUT, STEP and CLEAR_VALID.
Readings of the model that clauses rest on: notes/assumptions/30, 31. -/
def Obligations.TrainTime : Prop :=
  (∀ s : State, s.follows = true → s.timState = timLocked → Gives .holdoverEntry s (fun u => u.timState = timHoldover ∧
    u.get TIM_STATUS_HOLD_OK = 1 ∧ u.get TIM_EVENT_HOLDOVER = 1 ∧ u.tim.holdFrom = s.uptime ∧ u.trainTime = s.trainTime)) ∧
  (∀ s : State, s.follows = false ∨ s.timState ≠ timLocked → exec .holdoverEntry s = .next s.settled) ∧
  (∀ (sv rx : Int) (tv b : Bool) (s : State), s.timState = timFree →
    (s.applySample sv rx tv b).timState = timAcquire ∧ ttAt (s.applySample sv rx tv b).tim rx = sv ∧
    (s.applySample sv rx tv b).get TIM_STATUS_TIME_VALID = b2n tv) ∧
  (∀ (v : Int) (t : Nat) (s : State), s.isHead = true → s.tim.step = some (v, t) → t + 10000 ≤ s.uptime →
    Gives .stepApply s (fun u => u.trainTime = v ∧ u.tim.step = none ∧ u.get TIM_STATUS_TIME_VALID = 1 ∧ u.get TIM_EVENT_STEP = 1 ∧
      u.get TIM_STAT_JUMPS = satNat TIM_STAT_JUMPS.width (s.get TIM_STAT_JUMPS + 1))) ∧
  (∀ (v : Int) (t : Nat) (s : State), s.isHead = true → s.tim.step = some (v, t) → s.uptime < t + 10000 →
    exec .stepApply s = .next s.settled) ∧
  (∀ (x : Int × Nat) (s : State), s.isHead = false → s.tim.step = some x →
    exec .stepApply s = .next (State.settled { s with tim := { s.tim with step := none } })) ∧
  (∀ (t : Int) (s : State), s.mode ≠ modeSleep → s.flag TIM_CFG_PPS_IN_EN = true → s.isHead = true → s.running = true →
    s.tim.ppsEdges = [] → Gives (.ppsInEdge t) s (fun u => ttAt u.tim t = Int.fdiv (ttAt s.tim t) secUnit * secUnit ∧
      u.get TIM_STATUS_PPS_IN_LOST = 0 ∧ u.get TIM_PPS_IN_TS_NS = ttNs (ttAt s.tim t) % 2 ^ TIM_PPS_IN_TS_NS.width)) ∧
  (∀ s : State, s.timState = timHoldover →
    Does .holdoverExpiry s (s.load [(TIM_STATUS_HOLD_OK, 0), (TIM_EVENT_HOLD_EXPIRED, 1)])) ∧
  (∀ s : State, s.timState ≠ timHoldover → exec .holdoverExpiry s = .next s.settled) ∧
  (∀ (t : Int) (s : State), s.mode ≠ modeSleep → s.flag TIM_CFG_PPS_IN_EN = false → exec (.ppsInEdge t) s = .next (s.load
    [(TIM_PPS_IN_TS_SEC_LO, ttSec (ttAt s.tim t)), (TIM_PPS_IN_TS_NS, ttNs (ttAt s.tim t)),
      (TIM_PPS_IN_ERR_ERR, satInt 32 (fdiv (secondOffset (ttAt s.tim t)) 16384))]).settled) ∧
  (∀ s : State, s.flag TIM_CFG_PPS_IN_EN = true → s.isHead = true → s.running = true →
    Does .ppsInLost s (s.load [(TIM_STATUS_PPS_IN_LOST, 1), (TIM_EVENT_PPS_IN_LOST, 1)])) ∧
  (∀ s : State, s.ppsActive = true → s.mode ≠ modeSleep → s.tim.ppsLast = none →
    exec .ppsOutEdge s = .next (State.settled (({ s with tim := { s.tim with ppsOut := true, ppsLast := some s.uptime } }).emit (.ppsOut true)))) ∧
  (∀ s : State, s.ppsActive = false → exec .ppsOutEdge s = .next s.settled) ∧
  (∀ s : State, s.tim.ppsOut = true →
    exec .ppsOutPulseEnd s = .next (State.settled (({ s with tim := { s.tim with ppsOut := false } }).emit (.ppsOut false)))) ∧
  (∀ (path : Path) (arg : Nat) (s : State), s.accepts cmdStep path arg → Does (.step path arg) s
    { s.begun cmdStep path arg with tim := { s.tim with
        step := some (ttOf (s.get TIM_STEP_S_SEC) (s.get TIM_STEP_NS_NS), s.uptime) } }) ∧
  (∀ (path : Path) (arg : Nat) (s : State), s.accepts cmdClearValid path arg →
    Does (.clearValid path arg) s ((s.begun cmdClearValid path arg).set TIM_STATUS_TIME_VALID 0))

/-! ### Consist network (R186–R213) -/

/-- The controller: COLDSTART after its listen time, INTEGRATE on the first frame that needs no grid, ACTIVE after a
full cycle of valid frames, LISTEN again when synchronization is lost or on REJOIN; the cycle counter goes up by one
in each cycle. An own static slot of an ACTIVE spoke gets a frame under the node's number and the present cycle; a
slot of another owner gets none; a spoke whose frames lie more than 180 ns off stays silent and counts. Readings of
the model that clauses rest on: notes/assumptions/9, 39, 40. -/
def Obligations.ConsistControllers : Prop :=
  (∀ (i : Nat) (s : State), s.cstRuns = true → s.get CST_STATUS_STATE = cstListen → s.flag CST_STATUS_COLDSTART = true → s.coldSlot = some i →
    Gives .listenTimerExpiry s (fun u => u.get CST_STATUS_STATE = cstColdstart ∧ u.get CST_STATUS_CYCLE = 0 ∧
      u.get CST_STAT_COLD_ATTEMPTS = satNat CST_STAT_COLD_ATTEMPTS.width (s.get CST_STAT_COLD_ATTEMPTS + 1))) ∧
  (∀ s : State, s.coldSlot = none → exec .listenTimerExpiry s = .next s.settled) ∧
  (∀ (f : ConsistFrame) (rx : Int) (s : State), s.cstRuns = true → s.isStar = false → s.get (CST_PSTATUS_LINK 0) = 2 →
    s.get CST_STATUS_STATE = cstListen → s.gridFree f = true →
    Gives (.consistFrameReceive 0 f rx) s (fun u => u.get CST_STATUS_STATE = cstIntegrate ∧ u.get CST_STATUS_CYCLE = cstCount f ∧
      u.get (CST_PFRM_FRAMES 0) = (s.get (CST_PFRM_FRAMES 0) + 1) % 2 ^ (CST_PFRM_FRAMES 0).width)) ∧
  (∀ s : State, s.cstRuns = true → s.get CST_STATUS_STATE = cstColdstart ∨ s.get CST_STATUS_STATE = cstIntegrate ∨ s.get CST_STATUS_STATE = cstActive →
    Gives .consistCycleStart s (fun u => u.get CST_STATUS_CYCLE = (s.cstCycle + 1) % 64 ∧
      (s.get CST_STATUS_STATE = cstIntegrate → s.cst.fullCycle = true → s.cst.validSeen = true → s.cst.mismatch = false →
        u.get CST_STATUS_STATE = cstActive) ∧
      (s.get CST_STATUS_STATE = cstIntegrate → s.cst.mismatch = true → u.get CST_STATUS_STATE = cstIntegrate))) ∧
  (∀ s : State, s.cstRuns = true → s.get CST_STATUS_STATE = cstIntegrate ∨ s.get CST_STATUS_STATE = cstActive → s.lockBc = false →
    400 < (corrections s.cst.devs s.cst.lastDevs).1.natAbs →
    Gives .consistNitCorrection s (fun u => u.get CST_STATUS_STATE = cstListen ∧ u.get CST_EVENT_SYNC_LOST = 1 ∧ hasBit u.flt.lines 44 = true)) ∧
  (∀ (path : Path) (arg : Nat) (s : State), s.accepts cmdRejoin path arg →
    Does (.cstRejoin path arg) s (if (s.begun cmdRejoin path arg).cstRuns then (s.begun cmdRejoin path arg).cstEnterListen
      else s.begun cmdRejoin path arg)) ∧
  (∀ (l : List Int) (b : Int), 0 ≤ b → (∀ x ∈ l, -b ≤ x ∧ x ≤ b) → -b ≤ midpoint l ∧ midpoint l ≤ b) ∧
  (∀ (id : Nat) (s : State), s.cstRuns = true → s.get CST_STATUS_STATE = cstActive → s.isStar = false → id ≤ 64 →
    s.frameOwner s.cstCycle id = s.spoke → s.meanDev = none → s.cstSends = true →
    Gives (.consistActionPoint id) s (fun u => ∃ ports off f, .consistFrame ports off f ∈ u.out ∧ f.frameId = id ∧ f.sender = s.spoke ∧
      f.cycle = s.cstCycle ∧ f.payload.length = s.get CST_SCHED1_P_S ∧ cstHeaderOk f = true)) ∧
  (∀ (id : Nat) (s : State), s.cstRuns = false ∨ s.frameOwner s.cstCycle id ≠ s.spoke →
    exec (.consistActionPoint id) s = .next s.settled) ∧
  (∀ (id : Nat) (eo : Int) (s : State), s.cstRuns = true → s.get CST_STATUS_STATE = cstActive → s.isStar = false →
    s.frameOwner s.cstCycle id = s.spoke → s.meanDev = some eo → 180 < eo.natAbs →
    exec (.consistActionPoint id) s = .next (s.bump CST_STAT_SELF_SUPPRESS).settled)

/-- The guardian of a star: in RUN a frame starts in a window of its own port or is a violation; in STARTUP only a
COLD frame passes; a frame that runs out of its window is cut; the second violation takes the port out of sync, the
third time within 1 s isolates it; blanking and RUN end by their timers. Links of the consist ports, and PORT_RESET.
Readings of the model that clauses rest on: notes/assumptions/9, 39, 40. -/
def Obligations.GuardianAndConsistLinks : Prop :=
  (∀ (p : Nat) (f : ConsistFrame) (rx : Int) (s : State), s.cstRuns = true → s.isStar = true → p < 8 → s.get (CST_PSTATUS_LINK p) = 2 →
    s.get CST_STATUS_GSTATE = guardRun → 0 ≤ s.toNominal s.cst.gRate (rx - s.cst.gStart) →
    s.toNominal s.cst.gRate (rx - s.cst.gStart) < s.dynStart →
    s.slotOwner s.cst.gCycle ((fdiv (s.toNominal s.cst.gRate (rx - s.cst.gStart)) (Nat.max 1 s.slotNs)).toNat + 1) ≠ p →
    Gives (.guardianFrameStart p f rx) s (fun u => u.cst.forwarding = s.cst.forwarding ∧
      u.get (CST_PVIOL_START p) = satNat (CST_PVIOL_START p).width (s.get (CST_PVIOL_START p) + 1))) ∧
  (∀ (p i : Nat) (f : ConsistFrame) (rx : Int) (s : State), s.cstRuns = true → s.isStar = true → p < 8 → s.get (CST_PSTATUS_LINK p) = 2 →
    s.get CST_STATUS_GSTATE = guardRun → 0 ≤ s.toNominal s.cst.gRate (rx - s.cst.gStart) →
    s.toNominal s.cst.gRate (rx - s.cst.gStart) < s.dynStart →
    (fdiv (s.toNominal s.cst.gRate (rx - s.cst.gStart)) (Nat.max 1 s.slotNs)).toNat + 1 = i → s.slotOwner s.cst.gCycle i = p →
    (s.toNominal s.cst.gRate (rx - s.cst.gStart) - s.slotAp i).natAbs ≤ 200 → s.get (CST_PSTATUS_GUARD p) = 0 →
    cstHeaderOk f = true → isCold f = false →
    exec (.guardianFrameStart p f rx) s = .next (s.forwardFrom p f.frameId).settled) ∧
  (∀ (p : Nat) (f : ConsistFrame) (rx : Int) (s : State), s.cstRuns = true → s.isStar = true → p < 8 → s.get (CST_PSTATUS_LINK p) = 2 →
    s.get CST_STATUS_GSTATE ≠ guardRun → s.get (CST_PSTATUS_GUARD p) = 0 → s.cst.locked = none → isCold f = false →
    Gives (.guardianFrameStart p f rx) s (fun u => u.cst.forwarding = none ∧ u.cst.locked = none ∧
      u.get CST_STATUS_GSTATE = s.get CST_STATUS_GSTATE ∧
      u.get (CST_PVIOL_END_HDR p) = satNat (CST_PVIOL_END_HDR p).width (s.get (CST_PVIOL_END_HDR p) + 1))) ∧
  (∀ (p id : Nat) (s : State), p < 8 → s.cst.forwarding = some (p, id) → Gives (.guardianCut p) s (fun u => u.cst.forwarding = none ∧
    u.get (CST_PVIOL_END_HDR p) = satNat (CST_PVIOL_END_HDR p).width (s.get (CST_PVIOL_END_HDR p) + 1) ∧
    (s.cstSends = true → .consistCut p ∈ u.out))) ∧
  (∀ (p : Nat) (s : State), p < 8 → s.get (CST_PSTATUS_GUARD p) = 0 → (s.cstPort p).violations = 1 →
    (s.violation p (CST_PVIOL_START p)).get (CST_PSTATUS_GUARD p) =
      (if 2 ≤ ((s.cstPort p).oos.filter (fun t => decide (s.uptime ≤ t + 1000000000))).length then 2 else 1)) ∧
  (∀ (p : Nat) (s : State), p < 8 → s.get (CST_PSTATUS_GUARD p) = 1 → tabGet 0 s.cst.blanked p = 0 →
    exec (.guardianBlankEnd p) s = .next (State.settled { s.set (CST_PSTATUS_GUARD p) 0 with
      cst := { s.cst with blanked := tabErase p s.cst.blanked } })) ∧
  (∀ s : State, s.get CST_STATUS_GSTATE = guardRun → exec .guardianIdleTimeout s = .next (State.settled
    { s.set CST_STATUS_GSTATE guardStartup with cst := { s.cst with locked := none, forwarding := none } })) ∧
  (∀ (p : Nat) (s : State), p < 8 → Gives (.consistLinkDown p false) s (fun u => u.get (CST_PSTATUS_LINK p) = 0 ∧
    u.get (CST_PSTATUS_SIG_DET p) = 0 ∧ (∀ q, q < 8 → q ≠ p → u.get (CST_PSTATUS_LINK q) = s.get (CST_PSTATUS_LINK q)) ∧
    (s.get (CST_PSTATUS_LINK p) ≠ 0 →
      u.get (CST_PERR_LINK_DOWNS p) = satNat (CST_PERR_LINK_DOWNS p).width (s.get (CST_PERR_LINK_DOWNS p) + 1)))) ∧
  (∀ (p : Nat) (s : State), p < 8 → (noteCodeError s.uptime 40960 (s.cstPort p).codeErrs).length < 16 →
    Gives (.consistLinkDown p true) s (fun u => u.get (CST_PSTATUS_LINK p) = s.get (CST_PSTATUS_LINK p) ∧
      u.get (CST_PERR_CODE_ERRORS p) = satNat (CST_PERR_CODE_ERRORS p).width (s.get (CST_PERR_CODE_ERRORS p) + 1))) ∧
  (∀ (p : Nat) (s : State), p < 8 → s.get (CST_PSTATUS_LINK p) ≠ 2 →
    Does (.consistLinkUp p) s (s.load [(CST_PSTATUS_LINK p, 2), (CST_PSTATUS_SIG_DET p, 1)])) ∧
  (∀ (p : Nat) (s : State), s.get (CST_PSTATUS_LINK p) = 2 → exec (.consistLinkUp p) s = .next s.settled) ∧
  (∀ (path : Path) (arg : Nat) (s : State), s.accepts cmdPortReset path arg → Gives (.portReset path arg) s (fun u =>
    (∀ p, p < 8 → hasBit arg p = true → u.get (CST_PSTATUS_GUARD p) = 0 ∧ (u.cstPort p).violations = 0 ∧ (u.cstPort p).oos = []) ∧
    (∀ p, p < 8 → hasBit arg p = false → u.get (CST_PSTATUS_GUARD p) = s.get (CST_PSTATUS_GUARD p))))

/-! ### CAN FD channels (R214–R243) -/

/-- Fault confinement of a channel outside GTN mode: a receive error raises REC, a transmit error TEC, by what the
error gives, and CONF follows; nothing counts in listen-only; from a TEC of 256 the channel is bus-off, and after 128
times 11 recessive bits it runs again with both counters 0. Readings of the model that clauses rest on:
notes/assumptions/4, 41. -/
def Obligations.CanFaultConfinement : Prop :=
  (∀ (n kind add : Nat) (early : Bool) (s : State), n < 12 → s.inGtn = false → s.canReceives n = true → s.canListens n = false →
    Gives (.canRxError n kind add early) s (fun u => u.get (CAN_ERRCNT_REC n) = satNat 9 (s.get (CAN_ERRCNT_REC n) + add) ∧
      u.get (CAN_ERRCNT_TEC n) = s.get (CAN_ERRCNT_TEC n) ∧
      u.get (CAN_STATUS_CONF n) = canConf (s.get (CAN_ERRCNT_TEC n)) (s.get (CAN_ERRCNT_REC n) + add) ∧
      (kind = 3 → u.get (CAN_ERRSTAT_CRC n) = satNat (CAN_ERRSTAT_CRC n).width (s.get (CAN_ERRSTAT_CRC n) + 1)))) ∧
  (∀ (n kind add : Nat) (early : Bool) (s : State), n < 12 → s.inGtn = false → s.canListens n = true →
    Gives (.canRxError n kind add early) s (fun u => u.get (CAN_ERRCNT_REC n) = s.get (CAN_ERRCNT_REC n) ∧
      u.get (CAN_ERRCNT_TEC n) = s.get (CAN_ERRCNT_TEC n) ∧ u.get (CAN_STATUS_CONF n) = s.get (CAN_STATUS_CONF n))) ∧
  (∀ (n kind add tdcv : Nat) (loop : Bool) (e : CanEntry) (s : State), n < 12 → s.inGtn = false → (s.chan n).sendingRef = false →
    s.canCurrent n = some e → e.cancelled = false → elemTt e.element = false → elemOneShot e.element = false → (s.chan n).stopping = false →
    s.canListens n = false →
    Gives (.canTxError n kind add tdcv loop) s (fun u => u.get (CAN_ERRCNT_TEC n) = satNat 9 (s.get (CAN_ERRCNT_TEC n) + add) ∧
      (u.chan n).sending = none ∧ (u.chan n).entries = (s.chan n).entries ∧
      (u.get (CAN_STATUS_CONF n) ≠ 0 → (u.chan n).pinned = some e.order))) ∧
  (∀ (n tec r : Nat) (s : State), n < 12 → s.inGtn = false → s.get (CAN_STATUS_CONF n) ≠ 2 → 256 ≤ tec →
    (s.canSetErr n tec r).canState n = canBusOff ∧ (s.canSetErr n tec r).get (CAN_STATUS_CONF n) = 2 ∧
    (s.canSetErr n tec r).get (CAN_EVENT_BUS_OFF n) = 1 ∧ hasBit (s.canSetErr n tec r).flt.lines 46 = true) ∧
  (∀ (n : Nat) (s : State), n < 12 → s.inGtn = false → s.canState n = canBusOff → s.get (CAN_STATUS_CONF n) = 2 → s.get (CAN_STATUS_BOR_CNT n) = 127 →
    Gives (.canRecessive11 n) s (fun u => u.canState n = canRunning ∧ u.get (CAN_ERRCNT_TEC n) = 0 ∧ u.get (CAN_ERRCNT_REC n) = 0 ∧
      u.get (CAN_STATUS_CONF n) = 0 ∧ u.get (CAN_EVENT_RECOVERED n) = 1)) ∧
  (∀ (n : Nat) (s : State), n < 12 → s.inGtn = false → s.canState n = canBusOff → s.get (CAN_STATUS_CONF n) = 2 → s.get (CAN_STATUS_BOR_CNT n) < 127 →
    Gives (.canRecessive11 n) s (fun u => u.canState n = canBusOff ∧ u.get (CAN_STATUS_BOR_CNT n) = s.get (CAN_STATUS_BOR_CNT n) + 1)) ∧
  (∀ (n : Nat) (s : State), n < 12 → s.canState n = canIntegrating → s.get (CAN_STATUS_CONF n) ≠ 2 →
    Gives (.canRecessive11 n) s (fun u => u.canState n = canRunning ∧ (u.chan n).waitIdle = false))

/-- The transmit path: the selected entry goes onto the bus, leaves its queue when it is sent and stays pending when
it loses arbitration; CANCEL removes what is not in transmission. Reception: a frame that the filters reject is
counted; one that they take enters its queue as an element, with what the spec leaves open free. Readings of the model
that clauses rest on: notes/assumptions/4, 14, 41. -/
def Obligations.CanFramesSentAndReceived : Prop :=
  (∀ (n : Nat) (e : CanEntry) (s : State), n < 12 → s.inGtn = false → s.canMayStart n = true → s.canChoice n = some e →
    Gives (.canTxSelect n) s (fun u => .canFrame n e.element ∈ u.out ∧ (u.chan n).sending = some e.order ∧ (u.chan n).sofAt = s.uptime)) ∧
  (∀ (n : Nat) (s : State), s.inGtn = false → s.canMayStart n = false ∨ s.canChoice n = none → exec (.canTxSelect n) s = .next s.settled) ∧
  (∀ (n tdcv : Nat) (e : CanEntry) (s : State), n < 12 → s.inGtn = false → (s.chan n).sendingRef = false → s.canCurrent n = some e →
    (elemFdf e.element && elemBrs e.element) = false → e.cancelled = false → (s.chan n).stopping = false →
    Gives (.canTxSuccess n tdcv) s (fun u => u.get (CAN_TXSTAT_SENT n) = satNat (CAN_TXSTAT_SENT n).width (s.get (CAN_TXSTAT_SENT n) + 1) ∧
      (u.chan n).entries = (s.chan n).entries.filter (fun x => !(x.order == e.order)) ∧ (u.chan n).sending = none)) ∧
  (∀ (n : Nat) (e : CanEntry) (s : State), n < 12 → s.inGtn = false → (s.chan n).sendingRef = false → s.canCurrent n = some e →
    e.cancelled = false → elemTt e.element = false → elemOneShot e.element = false → (s.chan n).stopping = false →
    Gives (.canTxArbLost n) s (fun u => (u.chan n).entries = (s.chan n).entries ∧ (u.chan n).sending = none)) ∧
  (∀ (path : Path) (n arg : Nat) (s : State), n < 12 → s.accepts (cmdCanCancel n) path arg →
    Gives (.canCancel path n arg) s (fun u => ∀ e ∈ (s.chan n).entries, elemTag e.element = arg % 256 → (s.chan n).sending ≠ some e.order →
      e ∉ (u.chan n).entries)) ∧
  (∀ (n sof i : Nat) (f : CanFrame) (s : State), n < 12 → s.inGtn = false → s.canReceives n = true →
    (f.fdf = false ∨ s.flag (CAN_CFG_FD_EN n) = true) → s.isReference n f = false → s.canFilter n f = (3, i) →
    Gives (.canFrameReceive n f sof) s (fun u => u.get (CAN_RXSTAT_FILTERED n) = satNat (CAN_RXSTAT_FILTERED n).width (s.get (CAN_RXSTAT_FILTERED n) + 1) ∧
      (u.chan n).rxq0 = (s.chan n).rxq0 ∧ (u.chan n).rxq1 = (s.chan n).rxq1)) ∧
  (∀ (n sof i : Nat) (f : CanFrame) (s : State), n < 12 → s.inGtn = false → s.canReceives n = true →
    (f.fdf = false ∨ s.flag (CAN_CFG_FD_EN n) = true) → s.isReference n f = false → s.canFilter n f = (1, i) →
    (s.chan n).rxq0.length < s.get (CAN_RXQCFG_DEPTH0 n) + 1 →
    Gives (.canFrameReceive n f sof) s (fun u => ∃ rest, (u.chan n).rxq0 = (s.chan n).rxq0 ++ [(s.flw.arrivals, elemOf f i 0 (sof / 8 * 8) rest)])) ∧
  (∀ (n sof i : Nat) (f : CanFrame) (s : State), n < 12 → s.inGtn = false → s.canReceives n = true →
    (f.fdf = false ∨ s.flag (CAN_CFG_FD_EN n) = true) → s.isReference n f = false → s.canFilter n f = (1, i) →
    s.get (CAN_RXQCFG_DEPTH0 n) + 1 ≤ (s.chan n).rxq0.length → s.flag (CAN_RXQCFG_OVW0 n) = false →
    Gives (.canFrameReceive n f sof) s (fun u => (u.chan n).rxq0 = (s.chan n).rxq0 ∧ u.get (CAN_EVENT_RXQ_OVERRUN n) = 1)) ∧
  (∀ (n : Nat) (s : State), n < 12 → s.canReceives n = true → s.inGtn = false → s.flag (CAN_CFG_PXE n) = true →
    Gives (.canProtocolException n) s (fun u => (u.chan n).waitIdle = true ∧
      u.get (CAN_ERRSTAT2_PROTO_EXC n) = satNat (CAN_ERRSTAT2_PROTO_EXC n).width (s.get (CAN_ERRSTAT2_PROTO_EXC n) + 1)))

/-- START integrates, STOP ends with nothing pending, a dominant bus holds the channel until it clears. Time-triggered
operation: a reference sets the cycle and makes a follower; masters send references; missing ones are counted, the
eighth loses synchronization; windows offer their entries, and entries that miss them complete. Readings of the model
that clauses rest on: notes/assumptions/41, 42. -/
def Obligations.CanStartStopAndTriggered : Prop :=
  (∀ (path : Path) (n arg : Nat) (s : State), n < 12 → s.accepts (cmdCanStart n) path arg → s.canState n = canStopped →
    s.flag (CAN_CFG_LISTEN_ONLY n) = false → s.canForced n = false → s.get (CAN_STATUS_CONF n) ≠ 2 →
    Gives (.canStart path n arg) s (fun u => u.canState n = canIntegrating ∧ (u.chan n).waitIdle = true ∧ (u.chan n).refSeen = false ∧
      u.ttState n = (if s.flag (CAN_CFG_TT_EN n) then ttWait else ttOff))) ∧
  (∀ (path : Path) (n arg : Nat) (s : State), n < 12 → s.accepts (cmdCanStop n) path arg → s.canState n ≠ canStopped → s.canState n ≠ canRetired →
    (s.chan n).forced = false → (s.chan n).sending = none → (s.chan n).sendingRef = false →
    Gives (.canStop path n arg) s (fun u => u.canState n = canStopped ∧ (u.chan n).entries = [] ∧ u.ttState n = ttOff)) ∧
  (∀ (n : Nat) (s : State), n < 12 → s.inGtn = false → [canIntegrating, canRunning, canBusOff, canListen].contains (s.canState n) = true →
    (s.chan n).stopping = false → Gives (.canDominantTimeout n) s (fun u => u.canState n = canHeld ∧ u.get (CAN_FAULT_LIVE_DOM n) = 1 ∧
      (u.chan n).sending = none)) ∧
  (∀ (n : Nat) (s : State), n < 12 → s.inGtn = false → s.canState n = canHeld → s.flag (CAN_FAULT_LIVE_DOM n) = true →
    s.flag (CAN_CFG_LISTEN_ONLY n) = false → s.canForced n = false → s.get (CAN_STATUS_CONF n) ≠ 2 →
    Gives (.canDominantClear n) s (fun u => u.canState n = canIntegrating ∧ u.get (CAN_FAULT_LIVE_DOM n) = 0 ∧ (u.chan n).waitIdle = true)) ∧
  (∀ (n sof : Nat) (f : CanFrame) (s : State), n < 12 → s.canReceives n = true → (f.fdf = false ∨ s.flag (CAN_CFG_FD_EN n) = true) →
    s.isReference n f = true → Gives (.canTtReferenceReceive n f sof) s (fun u => u.get (CAN_TTSTATUS_CYCLE n) = ofLe (slice 0 1 f.data) % 64 ∧
      u.get (CAN_TTSTATUS_MISSED n) = 0 ∧ u.ttState n = ttFollower ∧ (u.chan n).syncAt = sof ∧ (u.chan n).refSeen = true)) ∧
  (∀ (n : Nat) (s : State), n < 12 → s.refMayStart n = true → s.ttState n = ttMaster →
    Gives (.canTtReferenceSend n) s (fun u => .canFrame n (s.refElement n) ∈ u.out ∧ (u.chan n).sendingRef = true)) ∧
  (∀ (n : Nat) (s : State), n < 12 → s.refMayStart n = true → (s.chan n).refSeen = false →
    Gives (.canTtFirstReference n) s (fun u => .canFrame n (s.refElement n) ∈ u.out ∧ (u.chan n).sendingRef = true)) ∧
  (∀ (n : Nat) (s : State), n < 12 → s.ttState n ≠ ttOff → (s.chan n).refSeen = true → s.get (CAN_TTSTATUS_MISSED n) < 7 →
    Gives (.canTtReferenceMissing n) s (fun u => u.get (CAN_TTSTATUS_MISSED n) = s.get (CAN_TTSTATUS_MISSED n) + 1 ∧ u.ttState n = s.ttState n ∧
      u.get (CAN_TTSTAT_REF_MISS n) = satNat (CAN_TTSTAT_REF_MISS n).width (s.get (CAN_TTSTAT_REF_MISS n) + 1))) ∧
  (∀ (n : Nat) (s : State), n < 12 → s.ttState n = ttFollower → (s.chan n).refSeen = true → s.get (CAN_TTSTATUS_MISSED n) = 7 →
    Gives (.canTtReferenceMissing n) s (fun u => u.ttState n = ttWait ∧ u.get (CAN_EVENT_TT_SYNC_LOST n) = 1 ∧ hasBit u.flt.lines 48 = true)) ∧
  (∀ (n w : Nat) (e : CanEntry) (s : State), n < 12 → w < 32 → s.ttState n = ttFollower → s.get (CAN_WIN_KIND n w) = 1 →
    s.windowActive n w (s.get (CAN_TTSTATUS_CYCLE n)) = true → canBound (s.chan n) w = some e →
    Gives (.canTtWindowStart n w false) s (fun u => (u.chan n).entries = (s.chan n).entries.map (fun x => if x.order == e.order
      then { x with offered := true, tries := x.tries + 1 } else x) ∧ (u.chan n).sending = (s.chan n).sending)) ∧
  (∀ (n w : Nat) (e : CanEntry) (s : State), n < 12 → w < 32 → canBound (s.chan n) w = some e → e.offered = true → s.triesUsed n e = true →
    Gives (.canTtTxenExpiry n w) s (fun u => u.get (CAN_TTSTAT_SLOT_MISS n) = satNat (CAN_TTSTAT_SLOT_MISS n).width (s.get (CAN_TTSTAT_SLOT_MISS n) + 1) ∧
      ∀ x ∈ (u.chan n).entries, x.order ≠ e.order)) ∧
  (∀ (n w : Nat) (s : State), canBound (s.chan n) w = none → exec (.canTtTxenExpiry n w) s = .next s.settled)

/-! ### Flow engine (R244–R272, R416, R419) -/

/-- ENABLE starts a flow with a full bucket and the status its channels, key, binding and shedding give; DISABLE stops
it and discards what it has queued. A context that fails its checks is not accepted. SLICE_APPLY takes a shadow table
only with a slice for every enabled channel, two for SLOT and three for MAINT; the table becomes active at the next
wheel start. A table that gives a slice to a retired channel is rejected with BAD_ARG. Readings of the model that
clauses rest on: notes/assumptions/44, 45, 57. -/
def Obligations.FlowsAndSliceTable : Prop :=
  (∀ (path : Path) (arg f : Nat) (s : State), s.accepts cmdFlowEnable path arg → arg % 65536 = f → s.isRetired (s.get (FCTX_SRC_CH f)) = true →
    s.flag FLW_STATUS_SHEDDING = false → Gives (.flowEnable path arg) s (fun u => u.get (FCTX_EN f) = 1 ∧
      u.flowStatus f = flowSrcRetired ∧ u.get (FCTX_BUCKET f) = 16 * s.get (FCTX_BURST f))) ∧
  (∀ (path : Path) (arg f : Nat) (s : State), s.accepts cmdFlowEnable path arg → arg % 65536 = f → s.isRetired (s.get (FCTX_SRC_CH f)) = false →
    s.isRetired (s.get (FCTX_DST_CH f)) = false → (s.get (FCTX_AUTH f) = 0 ∨ s.flw.ivDone = false) → s.flag FLW_STATUS_SHEDDING = false →
    Gives (.flowEnable path arg) s (fun u => f < 1024 ∧ u.get (FCTX_EN f) = 1 ∧ u.get (FCTX_BUCKET f) = 16 * s.get (FCTX_BURST f) ∧
      (s.get (FCTX_BIND f) ≠ 2 → u.flowStatus f = flowActive ∧
        u.get (FCTX_RES_POS f) = if s.get (FCTX_BIND f) = 1 then s.get (FCTX_BIND_POS f) else 0) ∧
      (s.get (FCTX_BIND f) = 2 → s.uidPosition (s.get (FCTX_BIND_UID f)) = none → u.flowStatus f = flowResolving ∧ u.get (FCTX_RES_POS f) = 0) ∧
      (∀ q, s.get (FCTX_BIND f) = 2 → s.uidPosition (s.get (FCTX_BIND_UID f)) = some q →
        u.flowStatus f = flowActive ∧ u.get (FCTX_RES_POS f) = q % 2 ^ 16))) ∧
  (∀ (path : Path) (arg : Nat) (s : State), s.accepts cmdFlowDisable path arg →
    Gives (.flowDisable path arg) s (fun u => u.get (FCTX_EN (arg % 65536)) = 0 ∧ u.flowStatus (arg % 65536) = flowDisabled ∧
      u.get (FCTX_RES_POS (arg % 65536)) = 0 ∧ (∀ e ∈ u.flw.work, arg % 65536 ∉ e.2.2) ∧ tabFind (arg % 65536) u.flw.last = none)) ∧
  (∀ (path : Path) (arg : Nat) (s : State), s.accepts cmdFlowEnable path arg → arg % 65536 < 1024 ∧ s.contextOk (arg % 65536) = true) ∧
  (∀ (path : Path) (arg : Nat) (s : State), s.accepts cmdSliceApply path arg → s.shadowOk = true ∧
    Does (.sliceApply path arg) s ((s.begun cmdSliceApply path arg).flwMap (fun w => { w with applyDue := true }))) ∧
  (∀ s : State, s.shadowOk = true → 2 ≤ s.shadowCount chSlot ∧ 3 ≤ s.shadowCount chMaint ∧ ∀ c ∈ s.enabledChannels, 0 < s.shadowCount c) ∧
  (∀ s : State, s.flw.applyDue = true → s.engineAlive = true →
    Gives .sliceTableSwap s (fun u => u.flw = { s.flw with applyDue := false } ∧
      (∀ w, w < 16 → u.get (FLW_SLICE_ENTRY w) = s.get (FLW_SLICE_SH_ENTRY w)) ∧ u.mode = s.mode ∧ u.msg = s.msg)) ∧
  (∀ s : State, s.flw.applyDue = false ∨ s.engineAlive = false → exec .sliceTableSwap s = .next s.settled) ∧
  (∀ (k arg : Nat) (path : Path) (s : State), k < 64 → s.isRetired (s.shadowEntry k) = true → s.mayCommand path 0xC000 3 = true →
    s.checkCmd cmdSliceApply path arg = .badArg)

/-- Slices serve their owner: a MAINT slice gives the heartbeat; a queued channel gives its next item to the flows
that match it, at most four in a slice, the rest in a later one; an item that matches none is counted; an
uncorrectable buffer word is discarded and raises its source; a spare slice without SPARE_USE, a halted engine, BOOT
and SLEEP do nothing. A STALE flow runs as STALE_ACT gives; the second consecutive failed test of a retirable channel
retires it and makes its slices spare; a lockstep mismatch halts the engine and asserts source 0. Readings of the
model that clauses rest on: notes/assumptions/43, 44, 45. -/
def Obligations.SlicesServe : Prop :=
  (∀ (slice pins ecc : Nat) (s : State), 64 ≤ slice ∨ s.engineAlive = false → exec (.sliceService slice pins ecc) s = .next s.settled) ∧
  (∀ (slice pins ecc : Nat) (s : State), slice < 64 → s.engineAlive = true → s.sliceOwner slice = chMaint →
    exec (.sliceService slice pins ecc) s = .next { s with flt := { s.flt with heartbeat := true } }.settled) ∧
  (∀ (slice pins ecc : Nat) (s : State), slice < 64 → s.engineRuns = true → s.sliceOwner slice = 0 → s.flag FLW_CFG_SPARE_USE = false →
    exec (.sliceService slice pins ecc) s = .next s.settled) ∧
  (∀ (slice pins ch : Nat) (i : Item) (s : State), slice < 64 → s.engineRuns = true → s.sliceOwner slice = ch → queuedChannels.contains ch = true →
    ch ≠ chGpio → tabFind ch s.flw.work = none → s.frontItem ch = some i → i.frame = none → (s.popItem ch).matching i = [] →
    exec (.sliceService slice pins 0) s = .next ((s.popItem ch).bump FLW_STAT_UNMATCHED).settled) ∧
  (∀ (slice pins ch : Nat) (i : Item) (s : State), slice < 64 → s.engineRuns = true → s.sliceOwner slice = ch → queuedChannels.contains ch = true →
    ch ≠ chGpio → tabFind ch s.flw.work = none → s.frontItem ch = some i →
    Does (.sliceService slice pins 2) s (((s.popItem ch).bump FLW_ECC_UNCORR).set FLW_EVENT_ECC_UNCORR 1)) ∧
  (∀ (slice pins ecc ch : Nat) (i : Item) (fs : List Nat) (s : State), slice < 64 → s.engineRuns = true → s.sliceOwner slice = ch →
    queuedChannels.contains ch = true → ch ≠ chGpio → tabFind ch s.flw.work = some (i, fs) →
    exec (.sliceService slice pins ecc) s = .next (State.settled ((fs.take 4).foldl (State.flowTakes i) (s.flwMap (fun w =>
      { w with work := if fs.length ≤ 4 then tabErase ch w.work else tabPut ch (i, fs.drop 4) w.work }))))) ∧
  (∀ (f : Nat) (i : Item) (s : State), s.flowStatus f = flowShed → s.runFlow f i = s.bump FLW_STAT_SHED_DROP) ∧
  (∀ (f : Nat) (i : Item) (s : State), s.flowStatus f ≠ flowShed → flowCounts (s.flowStatus f) = false → s.runFlow f i = s) ∧
  (∀ (f : Nat) (i : Item) (k : RunKind) (s : State), s.get (FCTX_RATE f) ≠ 0 → s.get (FCTX_BUCKET f) < i.data.length →
    s.policeItem f i k = (s.bump (FCTX_POL_DROP f)).bump FLW_STAT2_POL_DROP) ∧
  (∀ (f : Nat) (s : State), 1024 ≤ f ∨ s.engineRuns = false ∨ s.flowStatus f ≠ flowStale ∨ s.get (FCTX_STALE_ACT f) = 2 →
    exec (.staleFlowRun f) s = .next s.settled) ∧
  (∀ (f : Nat) (i : Item) (s : State), f < 1024 → s.engineRuns = true → s.flowStatus f = flowStale → s.get (FCTX_STALE_ACT f) = 0 →
    s.heldItem f = some i → exec (.staleFlowRun f) s = .next (s.policeItem f i .hold).settled) ∧
  (∀ (f : Nat) (s : State), f < 1024 → s.engineRuns = true → s.flowStatus f = flowStale → s.get (FCTX_STALE_ACT f) = 1 →
    s.get (FCTX_RATE f) = 0 → s.get (FCTX_TUBE f) ≠ 2 → s.get (FCTX_DST_CH f) = chGpio →
    s.flag PAIR_STATUS_PENDING = false →
    Gives (.staleFlowRun f) s (fun u => u.get FLW_GPIO_OUT_OUT = (s.driveGpio (bits (s.get (FCTX_DST_SEL f)) 0 32)
      (fit (s.staleLen f) (le 16 (s.get (FCTX_SAFE_VAL f))))).get FLW_GPIO_OUT_OUT ∧ u.flowStatus f = flowStale)) ∧
  (∀ (ch : Nat) (s : State), s.engineAlive = true → retirable.contains ch = true → s.isRetired ch = false →
    exec (.channelTest ch true) s = .next (s.flwMap (fun w => { w with testFails := tabErase ch w.testFails })).settled) ∧
  (∀ (ch : Nat) (s : State), s.engineAlive = true → retirable.contains ch = true → s.isRetired ch = false → tabGet 0 s.flw.testFails ch = 0 →
    exec (.channelTest ch false) s = .next (s.flwMap (fun w => { w with testFails := tabPut ch 1 w.testFails })).settled) ∧
  (∀ (ch : Nat) (s : State), s.engineAlive = true → retirable.contains ch = true → s.isRetired ch = false → tabGet 0 s.flw.testFails ch ≠ 0 →
    Gives (.channelTest ch false) s (fun u => u.isRetired ch = true ∧ u.get FLW_EVENT_RETIRED = 1 ∧ (∀ k, k < 64 → u.sliceOwner k ≠ ch) ∧
      ∀ f, s.flag (FCTX_EN f) = true → f < 1024 → s.flowStatus f = flowActive → s.get (FCTX_SRC_CH f) = ch → u.flowStatus f = flowSrcRetired)) ∧
  (∀ s : State, s.engineAlive = true → Does .lockstepMismatch s (s.load [(FLW_STATUS_HALTED, 1), (FLW_EVENT_HALTED, 1)])) ∧
  (∀ s : State, s.engineAlive = false → exec .lockstepMismatch s = .next s.settled)

/-! ### Far-window bridge (R273–R295) -/

/-- The state in which an access port's request is issued: its tag shown, uncollected data of the port dropped. -/
def Sys2Proof.Machine.State.apReady (s : State) (p v : Nat) : State :=
  (s.set (BRG_AP_STATUS_TAG p) (bits v 16 16)).brgMap (fun b => { b with arrived := tabErase p b.arrived })

/-- The request that a write of v to BRG_APp_REQ spells. -/
def Sys2Proof.Machine.State.apCall (s : State) (p v op : Nat) : BrgReq :=
  { who := p, win := bits v 8 5, bseq := 0, tag := bits v 16 16, op := op, lock := hasBit v 4, unlock := hasBit v 5
    width := widthOf (bits v 6 2), offset := s.get (BRG_AP_OFFSET_OFFSET p), data := s.get (BRG_AP_DATA_DATA p)
    addr := (s.get (BRG_WIN_BASE_BASE (bits v 8 5)) + s.get (BRG_AP_OFFSET_OFFSET p)) % 2 ^ 64 }

/-- The access port command of an operation. -/
def Sys2Proof.Machine.apRow (req : Requester) (p v : Nat) : Nat → Instr
  | 1 => .apReqWr req p v
  | 2 => .apReqRd req p v
  | _ => .apReqUnlock req p v

/-- Access ports: another path than the local PF0 is refused; a port with an open read takes no request; a request
that fails its checks shows its status at once; a window that resolves parks it; otherwise a write is posted and shows
ACCEPTED, a read is open and shows RETRY, an UNLOCK leaves without a sequence number. The read of the status collects
the data. The posted store frees the entries whose copies have left, and shows what stays; writes that wait then take
free entries. A window is enabled ACTIVE where it names a position or a known UID, RESOLVING otherwise, with sequence
number 0; disabling it closes its reads. Readings of the model that clauses rest on: notes/assumptions/24, 43. -/
def Obligations.BridgeRequestsLeave : Prop :=
  (∀ (op p v : Nat) (req : Requester) (s : State), op ∈ [opWr, opRd, opUnlock] → p < 8 → (req ≠ .pf0 ∨ s.pf0ReadOnly = true) →
    Does (apRow req p v op) s s) ∧
  (∀ (op p v : Nat) (s : State), op ∈ [opWr, opRd, opUnlock] → p < 8 → s.pf0ReadOnly = false → s.get (BRG_AP_STATUS_STATUS p) = brgRetry →
    exec (apRow .pf0 p v op) s = .next (s.set BRG_EVENT_AP_OVERRUN 1).settled) ∧
  (∀ (op p v st : Nat) (s : State), op ∈ [opWr, opRd, opUnlock] → p < 8 → s.pf0ReadOnly = false → s.get (BRG_AP_STATUS_STATUS p) ≠ brgRetry →
    (s.apReady p v).refuseRequest (s.apCall p v op) = some st →
    exec (apRow .pf0 p v op) s = .next ((s.apReady p v).set (BRG_AP_STATUS_STATUS p) st).settled) ∧
  (∀ (op p v : Nat) (s : State), op ∈ [opWr, opRd, opUnlock] → p < 8 → s.pf0ReadOnly = false → s.get (BRG_AP_STATUS_STATUS p) ≠ brgRetry →
    (s.apReady p v).refuseRequest (s.apCall p v op) = none → s.winState (bits v 8 5) = winResolving →
    exec (apRow .pf0 p v op) s = .next (State.settled (((s.apReady p v).set (BRG_AP_STATUS_STATUS p) brgRetry).brgMap
      (fun b => { b with parked := b.parked ++ [s.apCall p v op] })))) ∧
  (∀ (p v : Nat) (s : State), p < 8 → s.pf0ReadOnly = false → s.get (BRG_AP_STATUS_STATUS p) ≠ brgRetry →
    (s.apReady p v).refuseRequest (s.apCall p v opWr) = none → s.winState (bits v 8 5) ≠ winResolving →
    s.routable (s.winAddr (bits v 8 5)) = true → s.brg.posted.length < 256 →
    Gives (.apReqWr .pf0 p v) s (fun u => u = (s.apReady p v).sendWrite (s.apCall p v opWr) ∧
      (s.brg.reads = [] → u.get (BRG_AP_STATUS_STATUS p) = brgAccepted) ∧ u.get (BRG_AP_STATUS_TAG p) = bits v 16 16 ∧
      u.get (BRG_WIN_STATUS_BSEQ (bits v 8 5)) = (s.get (BRG_WIN_STATUS_BSEQ (bits v 8 5)) + 1) % 65536 ∧
      u.brg.posted.length = s.brg.posted.length + 1)) ∧
  (∀ (p v : Nat) (s : State), p < 8 → s.pf0ReadOnly = false → s.get (BRG_AP_STATUS_STATUS p) ≠ brgRetry →
    (s.apReady p v).refuseRequest (s.apCall p v opWr) = none → s.winState (bits v 8 5) ≠ winResolving →
    s.routable (s.winAddr (bits v 8 5)) = true → 256 ≤ s.brg.posted.length →
    exec (.apReqWr .pf0 p v) s = .next (State.settled (((s.apReady p v).set (BRG_AP_STATUS_STATUS p) brgRetry).brgMap
      (fun b => { b with waiting := b.waiting ++ [s.apCall p v opWr] })))) ∧
  (∀ (p v : Nat) (s : State), p < 8 → s.pf0ReadOnly = false → s.get (BRG_AP_STATUS_STATUS p) ≠ brgRetry →
    (s.apReady p v).refuseRequest (s.apCall p v opRd) = none → s.winState (bits v 8 5) ≠ winResolving →
    s.routable (s.winAddr (bits v 8 5)) = true →
    Gives (.apReqRd .pf0 p v) s (fun u => u = (s.apReady p v).sendRead (s.apCall p v opRd) ∧
      u.get (BRG_AP_STATUS_TAG p) = bits v 16 16 ∧
      u.get (BRG_WIN_STATUS_BSEQ (bits v 8 5)) = (s.get (BRG_WIN_STATUS_BSEQ (bits v 8 5)) + 1) % 65536)) ∧
  (∀ (p v : Nat) (s : State), p < 8 → s.pf0ReadOnly = false → s.get (BRG_AP_STATUS_STATUS p) ≠ brgRetry →
    (s.apReady p v).refuseRequest (s.apCall p v opUnlock) = none → s.winState (bits v 8 5) ≠ winResolving →
    s.routable (s.winAddr (bits v 8 5)) = true →
    Gives (.apReqUnlock .pf0 p v) s (fun u => (s.brg.reads = [] → u.get (BRG_AP_STATUS_STATUS p) = brgAccepted) ∧
      u.get (BRG_WIN_STATUS_BSEQ (bits v 8 5)) = s.get (BRG_WIN_STATUS_BSEQ (bits v 8 5)) ∧ u.brg.posted.length = s.brg.posted.length ∧
      (s.brg.lockWin = bits v 8 5 → u.get BRG_STATUS_LOCK_OUT = 0))) ∧
  (∀ (req : Requester) (p : Nat) (s : State), p < 8 →
    exec (.apStatusRead req p) s = .next (s.readStep req (0x30104 + 0x20 * p) 4).settled) ∧
  (∀ (p v : Nat) (rse : Nat) (lock : Bool) (s : State), tabFind p s.brg.arrived = some (v, rse, lock) →
    (s.collectRead p).get (BRG_AP_DATA_DATA p) = v % 2 ^ 64 ∧ tabFind p (s.collectRead p).brg.arrived = none) ∧
  (∀ s : State, s.brg.waiting = [] → exec .postedEntryFree s = .next (State.settled
    (s.brgMap (fun b => { b with posted := b.posted.filter (fun r => !(r.left == 0)) })).showPosted)) ∧
  (∀ (r : BrgReq) (s : State), s.brg.waiting = [r] → (s.brg.posted.filter (fun r => !(r.left == 0))).length < 256 →
    exec .postedEntryFree s = .next (State.settled (((s.brgMap (fun b =>
      { b with posted := b.posted.filter (fun r => !(r.left == 0)) })).showPosted.brgMap (fun b => { b with waiting := [] })).sendWrite r))) ∧
  (∀ (path : Path) (arg w : Nat) (s : State), s.accepts cmdWinEnable path arg → arg % 65536 = w → s.get (BRG_WIN_CTRL_BIND w) = 0 →
    Gives (.winEnable path arg) s (fun u => w < 32 ∧ u.winState w = winActive ∧ u.get (BRG_WIN_STATUS_BSEQ w) = 0 ∧
      u.get (BRG_WIN_STATUS_RES_POS w) = (if addrLocal (s.get (BRG_WIN_DST_ADDR w)) then s.position
        else addrPos (s.get (BRG_WIN_DST_ADDR w))) % 2 ^ 9 ∧ u.brg = s.brg)) ∧
  (∀ (path : Path) (arg w : Nat) (s : State), s.accepts cmdWinEnable path arg → arg % 65536 = w → s.get (BRG_WIN_CTRL_BIND w) ≠ 0 →
    s.uidPosition (s.get (BRG_WIN_UID_UID w)) = none →
    Gives (.winEnable path arg) s (fun u => u.winState w = winResolving ∧ u.get (BRG_WIN_STATUS_BSEQ w) = 0 ∧ u.brg = s.brg)) ∧
  (∀ (path : Path) (arg w q : Nat) (s : State), s.accepts cmdWinEnable path arg → arg % 65536 = w → s.get (BRG_WIN_CTRL_BIND w) ≠ 0 →
    s.uidPosition (s.get (BRG_WIN_UID_UID w)) = some q → s.brg.parked = [] →
    Gives (.winEnable path arg) s (fun u => u.winState w = winActive ∧ u.get (BRG_WIN_STATUS_RES_POS w) = q % 2 ^ 9)) ∧
  (∀ (path : Path) (arg : Nat) (s : State), s.accepts cmdWinDisable path arg →
    Gives (.winDisable path arg) s (fun u => u.winState (arg % 65536) = winDisabled ∧
      (∀ r ∈ u.brg.reads, r.win = arg % 65536 → r.op ≠ opRd) ∧ (∀ r ∈ u.brg.waiting, r.win ≠ arg % 65536) ∧ (∀ r ∈ u.brg.parked, r.win ≠ arg % 65536) ∧
      (s.brg.lockWin = arg % 65536 → u.get BRG_STATUS_LOCK_OUT = 0)))

/-- A row of the target takes only frames of its type and operation, and only where the bridge runs; elsewhere the frame is counted. -/
def Sys2Proof.Machine.targetRow (f : MsgFrame) (dma : Option Nat) : Nat → Instr
  | 1 => .brgWrRequest f dma
  | 2 => .brgRdRequest f dma
  | 3 => .brgUnlockRequest f
  | _ => .sbPollReceive f

/-- The target: requests run in the order of their sequence numbers; one too late fails, one ahead is held; the checks
of the export turn a request away before its access; a lock is granted, refused with its origin recorded, ended by
UNLOCK or after its time; a sideband poll is answered with the word of the moment. Readings of the model that clauses
rest on: notes/assumptions/24. -/
def Obligations.BridgeTarget : Prop :=
  (∀ (op : Nat) (f : MsgFrame) (dma : Option Nat) (s : State), op ∈ [opWr, opRd, opUnlock, opSbPoll] → (f.type ≠ 5 ∨ brgOp f ≠ op) →
    exec (targetRow f dma op) s = .next s.settled) ∧
  (∀ (op : Nat) (f : MsgFrame) (dma : Option Nat) (s : State), op ∈ [opWr, opRd, opUnlock, opSbPoll] → f.type = 5 → brgOp f = op →
    s.running = false → exec (targetRow f dma op) s = .next ((s.takeInbox f).bump BRG_STAT4_RX_DISCARD).settled) ∧
  (∀ (op : Nat) (f : MsgFrame) (dma : Option Nat) (o : BrgOrder) (s : State), op ∈ [opWr, opRd] → f.type = 5 → brgOp f = op → s.running = true →
    s.orderOf f = some o → (subMod 16 (brgBseq f) o.last = 0 ∨ 2 ^ 15 ≤ subMod 16 (brgBseq f) o.last) →
    exec (targetRow f dma op) s = .next (((s.takeInbox f).bump BRG_STAT3_ORDER_LATE).failRequest f brgLate).settled) ∧
  (∀ (op : Nat) (f : MsgFrame) (dma : Option Nat) (o : BrgOrder) (s : State), op ∈ [opWr, opRd] → f.type = 5 → brgOp f = op → s.running = true →
    s.brg.lock = none → s.orderOf f = some o → 2 ≤ subMod 16 (brgBseq f) o.last → subMod 16 (brgBseq f) o.last ≤ 32 → s.brg.held.length < 32 →
    exec (targetRow f dma op) s = .next (State.settled ((s.takeInbox f).brgMap (fun b => { b with held := b.held ++ [⟨f, true⟩] })))) ∧
  (∀ (op : Nat) (f : MsgFrame) (dma : Option Nat) (s : State), op ∈ [opWr, opRd] → f.type = 5 → brgOp f = op → s.running = true →
    s.brg.lock = none → brgLockFlag f = false → brgInLock f = false →
    (s.orderOf f = none ∨ ∃ o, s.orderOf f = some o ∧ subMod 16 (brgBseq f) o.last = 1) → s.targetCheck f ≠ brgOk →
    exec (targetRow f dma op) s = .next ((((s.takeInbox f).noteOrder f).failRequest f (s.targetCheck f)).releaseNext f).settled) ∧
  (∀ (op : Nat) (f : MsgFrame) (dma : Option Nat) (s : State), op ∈ [opWr, opRd] → f.type = 5 → brgOp f = op → s.running = true →
    s.brg.lock = none → brgLockFlag f = false → brgInLock f = false → brgUnlockFlag f = false →
    (s.orderOf f = none ∨ ∃ o, s.orderOf f = some o ∧ subMod 16 (brgBseq f) o.last = 1) → s.targetCheck f = brgOk →
    exec (targetRow f dma op) s = .next ((((s.takeInbox f).noteOrder f).performRequest f dma).releaseNext f).settled) ∧
  (∀ (f : MsgFrame) (v : Nat) (s : State), brgTarget f ≠ 0 → s.mayRequest 1 = true →
    (brgOp f = opWr → s.performRequest f (some v) = s.emit (.hostWrite 1 (s.exportAddr f) (fit (brgWidth f) (brgData f)))) ∧
    (brgOp f = opRd → s.performRequest f (some v) =
      (s.emit (.hostRead 1 (s.exportAddr f) (brgWidth f))).respond f opRdData (le (brgWidth f) v) brgOk)) ∧
  (∀ (f : MsgFrame) (dma : Option Nat) (s : State), brgTarget f ≠ 0 → s.mayRequest 1 = false →
    s.performRequest f dma = s.failRequest f brgHostError) ∧
  (∀ (f : MsgFrame) (s : State), (addrLocal f.dst ∨ addrGroup f.dst = true ∨ s.legacyAt (addrPos f.dst) = none) → brgTarget f = 0 →
    (s.get BRG_CFG_PF0_TGT = 0 ∨ s.get BRG_CFG_PF0_TGT = 3 ∨ (s.get BRG_CFG_PF0_TGT = 1 ∧ brgOp f = opWr)) →
    s.targetCheck f = brgAccessDenied) ∧
  (∀ (op : Nat) (f : MsgFrame) (v : Nat) (s : State), op ∈ [opWr, opRd] → f.type = 5 → brgOp f = op → s.running = true → s.brg.lock = none →
    brgLockFlag f = true → brgUnlockFlag f = false → brgInLock f = false → s.wouldGrant f.src = true → brgTarget f ≠ 0 → s.mayRequest 1 = true →
    s.orderOf f = none → s.targetCheck f = brgOk →
    Gives (targetRow f (some v) op) s (fun u => (∃ t, u.brg.lock = some (f, t)) ∧ u.get BRG_STATUS_TGT_LOCKED = 1 ∧
      u.get BRG_TGT_LOCK_HOLDER = f.src % 2 ^ 16)) ∧
  (∀ (op : Nat) (f g : MsgFrame) (t : Nat) (dma : Option Nat) (s : State), op ∈ [opWr, opRd] → f.type = 5 → brgOp f = op → s.running = true →
    s.brg.lock = some (g, t) → g.src ≠ f.src → brgLockFlag f = true → s.orderOf f = none →
    Gives (targetRow f dma op) s (fun u => u.brg.lock = s.brg.lock ∧ (f.src, brgWin f, f.prio) ∈ u.brg.refused)) ∧
  (∀ (f : MsgFrame) (dma : Option Nat) (s : State), f.type = 5 → brgOp f = opUnlock → s.running = true →
    exec (targetRow f dma opUnlock) s = .next (State.settled
      (if s.isHolder f = true then (s.takeInbox f).unlockTarget else s.takeInbox f))) ∧
  (∀ s : State, s.unlockTarget.brg.lock = none ∧ s.unlockTarget.get BRG_STATUS_TGT_LOCKED = 0) ∧
  (∀ (f : MsgFrame) (dma : Option Nat) (s : State), f.type = 5 → brgOp f = opSbPoll → s.running = true →
    exec (targetRow f dma opSbPoll) s = .next ((s.takeInbox f).respond f opSbData (le 8 s.sidebandWord) brgOk).settled) ∧
  (∀ s : State, s.brg.lock = none → exec .targetLockTimeout s = .next s.settled) ∧
  (∀ (f : MsgFrame) (t : Nat) (s : State), s.brg.lock = some (f, t) →
    Gives .targetLockTimeout s (fun u => u.brg.lock = none ∧ u.get BRG_STATUS_TGT_LOCKED = 0 ∧ u.get BRG_EVENT_LOCK_TIMEOUT = 1 ∧
      u.get BRG_STAT3_LOCK_TIMEOUT = satNat BRG_STAT3_LOCK_TIMEOUT.width (s.get BRG_STAT3_LOCK_TIMEOUT + 1))) ∧
  (∀ (origin win : Nat) (s : State), s.brg.held = [] → exec (.bseqGapExpiry origin win) s = .next s.settled) ∧
  (∀ (origin win : Nat) (h : BrgHeld) (s : State), s.brg.held = [h] → h.gap = true → h.frame.src = origin → brgWin h.frame = win →
    Gives (.bseqGapExpiry origin win) s (fun u => u.brg.held = [] ∧ u.msg.inbox = s.msg.inbox ++ [h.frame] ∧
      ∀ o ∈ u.brg.orders, o.origin = origin → o.win = win → o.last = (brgBseq h.frame + 65535) % 65536)) ∧
  (∀ (origin win : Nat) (s : State), exec (.orderStateLapse origin win) s = .next (State.settled
    { s with brg := { s.brg with orders := s.brg.orders.filter (fun o => !(o.origin == origin && o.win == win)) } }))

/-- The origin: data completes its read and waits for collection; ERR completes it with the far status; a response to
no open request is counted late; a refused lock request is tried again up to LOCK_TRIES times; a fault notice is a
POSTED_FAULT entry; no response in time is TIMEOUT; data not collected in time is discarded; sideband data goes to its
register. Readings of the model that clauses rest on: notes/assumptions/9, 24. -/
def Obligations.BridgeOrigin : Prop :=
  (∀ (f : MsgFrame) (s : State), f.type = 5 → brgOp f = opRdData → s.running = true → s.openRequest f = none →
    exec (.rdDataReceive f) s = .next ((s.takeInbox f).lateResponse f).settled) ∧
  (∀ (f : MsgFrame) (r : BrgReq) (s : State), f.type = 5 → brgOp f = opRdData → s.running = true → s.openRequest f = some r → r.op = opRd →
    r.who < 8 → r.lock = false →
    Gives (.rdDataReceive f) s (fun u => u.get (BRG_AP_STATUS_STATUS r.who) = brgOk ∧
      tabFind r.who u.brg.arrived = some (s.laneValue r.win r.width (brgData f), s.get (BRG_WIN_CTRL_RSE r.win), false) ∧
      r ∉ u.brg.reads ∧ u.brg.posted = s.brg.posted)) ∧
  (∀ (f : MsgFrame) (r : BrgReq) (s : State), f.type = 5 → brgOp f = opErr → s.running = true → s.openRequest f = some r → r.op = opRd →
    exec (.errReceive f) s = .next ((s.takeInbox f).finishRequest r (brgStatus f) 0).settled) ∧
  (∀ (f : MsgFrame) (s : State), f.type = 5 → brgOp f = opErr → s.running = true → s.openRequest f = none →
    exec (.errReceive f) s = .next ((s.takeInbox f).lateResponse f).settled) ∧
  (∀ (f : MsgFrame) (s : State), (s.lateResponse f).get BRG_STAT2_LATE_RESP =
    satNat BRG_STAT2_LATE_RESP.width (s.get BRG_STAT2_LATE_RESP + 1) ∧ (s.lateResponse f).brg = s.brg) ∧
  (∀ (f : MsgFrame) (r : BrgReq) (s : State), f.type = 5 → brgOp f = opLockRetry → s.running = true → s.openRequest f = some r → r.lock = true →
    r.tries + 1 < s.lockTries → Gives (.lockRetryReceive f) s (fun u => u.get BRG_STATUS_LOCK_OUT = 1 ∧ (∃ x ∈ u.brg.reads, x.tries = r.tries + 1) ∧
      u.get BRG_STAT3_LOCK_RETRY = satNat BRG_STAT3_LOCK_RETRY.width (s.get BRG_STAT3_LOCK_RETRY + 1))) ∧
  (∀ (f : MsgFrame) (r : BrgReq) (s : State), f.type = 5 → brgOp f = opLockRetry → s.running = true → s.openRequest f = some r → r.lock = true →
    s.lockTries ≤ r.tries + 1 → r.op = opRd → r.who < 8 → Gives (.lockRetryReceive f) s (fun u =>
      u.get (BRG_AP_STATUS_STATUS r.who) = brgLockFail ∧ r ∉ u.brg.reads)) ∧
  (∀ (f : MsgFrame) (s : State), f.type = 5 → brgOp f = opLockFree → s.running = true →
    exec (.lockFreeReceive f) s = .next (State.settled (match s.brg.reads.find? (fun r => r.win == brgWin f && r.lock) with
      | some r => (s.takeInbox f).resendLock r
      | none => s.takeInbox f))) ∧
  (∀ (who w b : Nat) (s : State), exec (.lockRetryTimer who w b) s = .next (State.settled (match s.requestOf who w b with
      | some r => s.resendLock r
      | none => s))) ∧
  (∀ (r : BrgReq) (s : State), r.lock = false ∨ r.tries = 0 ∨ s.get BRG_STATUS_LOCK_OUT ≠ 1 → s.resendLock r = s) ∧
  (∀ (f : MsgFrame) (s : State), f.type = 5 → brgOp f = opSbData → s.running = true →
    Gives (.sbDataReceive f) s (fun u => u.get (BRG_WIN_SB_AGE (brgWin f)) = 0 ∧ u.get (BRG_WIN_SB_VALID (brgWin f)) = 1 ∧
      u.get (BRG_WIN_SB_GPIO (brgWin f)) = bits (ofLe (brgData f)) 0 32 ∧ u.get (BRG_WIN_SB_MODE (brgWin f)) = bits (ofLe (brgData f)) 56 3)) ∧
  (∀ (f : MsgFrame) (s : State), f.type = 6 → brgOp f = opFault → s.running = true → tabGet 0 s.brg.sources (65536 * brgWin f + brgBseq f) < 140 →
    brgStatus f ≠ brgLockLost →
    Does (.faultNoticeReceive f) s ((s.takeInbox f).set BRG_EVENT_POSTED_FAULT 1)) ∧
  (∀ (f : MsgFrame) (s : State), f.type = 6 → brgOp f = opFault → s.running = true → tabGet 0 s.brg.sources (65536 * brgWin f + brgBseq f) < 140 →
    brgStatus f = brgLockLost →
    Does (.faultNoticeReceive f) s (((s.takeInbox f).endLockOf (brgWin f)).set BRG_EVENT_POSTED_FAULT 1)) ∧
  (∀ (who w b : Nat) (r : BrgReq) (s : State), s.requestOf who w b = some r → r.op = opRd → exec (.responseTimeout who w b) s =
    .next (((s.bump BRG_STAT_TIMEOUTS).set BRG_EVENT_TIMEOUT 1).finishRequest r brgTimeout 0).settled) ∧
  (∀ (who w b : Nat) (s : State), s.requestOf who w b = none → exec (.responseTimeout who w b) s = .next s.settled) ∧
  (∀ (r : BrgReq) (st d : Nat) (s : State), r.who < 8 → r.lock = false → s.finishRequest r st d =
    (s.brgMap (fun b => { b with reads := b.reads.filter (fun x =>
      !(x.who == r.who && x.tag == r.tag && x.win == r.win && x.bseq == r.bseq)) })).set (BRG_AP_STATUS_STATUS r.who) st) ∧
  (∀ (p v rse : Nat) (s : State), p < 8 → tabFind p s.brg.arrived = some (v, rse, false) →
    Gives (.readDiscardTimeout p) s (fun u => u.get (BRG_AP_STATUS_STATUS p) = brgDiscarded ∧ tabFind p u.brg.arrived = none ∧
      u.get BRG_STAT_DISCARDS = satNat BRG_STAT_DISCARDS.width (s.get BRG_STAT_DISCARDS + 1) ∧ (rse = 1 → u.get BRG_EVENT_RSE_LOST = 1))) ∧
  (∀ (p : Nat) (s : State), p < 8 → tabFind p s.brg.arrived = none → exec (.readDiscardTimeout p) s = .next s.settled)

/-! ### Host rings and endpoint (R296–R319, R484) -/

/-- A ring that EN raises is checked: RUNNING from index 0, or ERROR with the cause; lowering EN stops it, and it is
STOPPED when what it has fetched has completed. Another requester than the group's owner changes nothing. A poll reads
the doorbell page of an enabled group with a running ring, and the new descriptors; an overrun puts a ring in ERROR 3,
the third failed page read in a row the enabled rings in ERROR 4, a failed descriptor read its ring in ERROR 4; a
fetch that ends makes its descriptors ready. Readings of the model that clauses rest on: notes/assumptions/9, 23, 25,
26. -/
def Obligations.RingsRunAndPoll : Prop :=
  (∀ (req : Requester) (k v : Nat) (s : State), (132 ≤ k ∨ s.ownsGroup req (ringGroup k) = false) →
    exec (.ringEnable req k v) s = .next s.settled ∧ exec (.ringDisable req k v) s = .next s.settled) ∧
  (∀ (req : Requester) (k v : Nat) (s : State), k < 132 → s.ownsGroup req (ringGroup k) = true → s.get (HRG_RING_CTRL_EN k) = 0 →
    s.get (HRG_RING_STATUS_STATE k) = 0 → s.get (HRG_GRP_CFG_EN (ringGroup k)) = 1 →
    s.get (HRG_RING_BASE_BASE k) % Nat.min (32 * 2 ^ bits v 26 4) 4096 = 0 → 4 ≤ bits v 26 4 → bits v 26 4 ≤ 12 →
    Gives (.ringEnable req k v) s (fun u => u.get (HRG_RING_STATUS_STATE k) = 1 ∧ u.get (HRG_RING_CTRL_EN k) = 1 ∧
      u.get (HRG_RING_STATUS_CAUSE k) = 0 ∧ (k < 128 → u.get (HRG_RING_STATUS_INDEX k) = 0) ∧
      u.get (HRG_RING_CTRL_SIZE_EXP k) = bits v 26 4 ∧ u.get (HRG_RING_CTRL_VECTOR k) = bits v 20 6)) ∧
  (∀ (req : Requester) (k v : Nat) (s : State), k < 132 → s.ownsGroup req (ringGroup k) = true → s.get (HRG_RING_CTRL_EN k) = 0 →
    s.get (HRG_RING_STATUS_STATE k) = 0 →
    Gives (.ringEnable req k v) s (fun u =>
      (s.get (HRG_GRP_CFG_EN (ringGroup k)) = 0 → u.get (HRG_RING_STATUS_STATE k) = 3 ∧ u.get (HRG_RING_STATUS_CAUSE k) = 5 ∧ u.get HRG_EVENT_RING_ERROR = 1) ∧
      (s.get (HRG_GRP_CFG_EN (ringGroup k)) = 1 → s.get (HRG_RING_BASE_BASE k) % Nat.min (32 * 2 ^ bits v 26 4) 4096 ≠ 0 →
        u.get (HRG_RING_STATUS_STATE k) = 3 ∧ u.get (HRG_RING_STATUS_CAUSE k) = 1) ∧
      (s.get (HRG_GRP_CFG_EN (ringGroup k)) = 1 → s.get (HRG_RING_BASE_BASE k) % Nat.min (32 * 2 ^ bits v 26 4) 4096 = 0 →
        (bits v 26 4 < 4 ∨ 12 < bits v 26 4) → u.get (HRG_RING_STATUS_STATE k) = 3 ∧ u.get (HRG_RING_STATUS_CAUSE k) = 2))) ∧
  (∀ (req : Requester) (k v : Nat) (s : State), k < 132 → s.ownsGroup req (ringGroup k) = true → s.get (HRG_RING_CTRL_EN k) = 1 →
    s.get (HRG_RING_STATUS_STATE k) ≠ 0 →
    Gives (.ringDisable req k v) s (fun u => u.get (HRG_RING_STATUS_STATE k) = 2 ∧ u.get (HRG_RING_CTRL_EN k) = 0 ∧ u.hrg = s.hrg)) ∧
  (∀ (k : Nat) (s : State), (132 ≤ k ∨ s.get (HRG_RING_STATUS_STATE k) ≠ 2 ∨ s.ringIdle k = false) →
    exec (.ringStopDone k) s = .next s.settled) ∧
  (∀ (k : Nat) (s : State), k < 132 → s.get (HRG_RING_STATUS_STATE k) = 2 → s.ringIdle k = true → s.flag (HRG_RING_CTRL_EN k) = false →
    Gives (.ringStopDone k) s (fun u => u.get (HRG_RING_STATUS_STATE k) = 0 ∧ u.get (HRG_RING_STATUS_CAUSE k) = 0 ∧ (u.ring k).waiting = [])) ∧
  (∀ (k v : Nat) (s : State), s.writeRingBase k v = if s.get (HRG_RING_CTRL_EN k) ≠ 1 ∧ s.get (HRG_RING_STATUS_STATE k) = 0
    then s.set (HRG_RING_BASE_BASE k) v else s.set HRG_EVENT_CFG_IGNORED 1) ∧
  (∀ (g : Nat) (page : Option Bytes) (read : List (Nat × List (Option Descriptor))) (s : State), (4 ≤ g ∨ s.ringsPolled = false ∨
    s.get (HRG_GRP_CFG_EN g) = 0 ∨ (groupRings g).any s.ringRuns = false ∨ s.mayRequest (s.groupOwner g) = false ∨ (s.fetch g).isSome = true) →
    exec (.doorbellPoll g page read) s = .next s.settled) ∧
  (∀ (g : Nat) (read : List (Nat × List (Option Descriptor))) (s : State), g < 4 → s.ringsPolled = true → s.get (HRG_GRP_CFG_EN g) = 1 →
    (groupRings g).any s.ringRuns = true → s.mayRequest (s.groupOwner g) = true → s.fetch g = none →
    Gives (.doorbellPoll g none read) s (fun u => u.get HRG_EVENT_HOST_ERROR = 1 ∧
      .hostRead (s.groupOwner g) (256 * s.get (HRG_GRP_DB_ADDR g)) 256 ∈ u.out ∧
      (s.hrg.dbFails.getD g 0 < 2 → u.hrg.dbFails = s.hrg.dbFails.set g (s.hrg.dbFails.getD g 0 + 1)) ∧
      (2 ≤ s.hrg.dbFails.getD g 0 → ∀ k ∈ groupRings g, s.flag (HRG_RING_CTRL_EN k) = true →
        u.get (HRG_RING_STATUS_STATE k) = 3 ∧ u.get (HRG_RING_STATUS_CAUSE k) = 4))) ∧
  (∀ (g : Nat) (page : Bytes) (read : List (Nat × List (Option Descriptor))) (s : State), g < 4 → s.ringsPolled = true → s.get (HRG_GRP_CFG_EN g) = 1 →
    (groupRings g).any s.ringRuns = true → s.mayRequest (s.groupOwner g) = true → s.fetch g = none → s.hrg.fetching.length = 4 →
    Gives (.doorbellPoll g (some page) read) s (fun u => (u.fetch g).isSome = true ∧
      .hostRead (s.groupOwner g) (256 * s.get (HRG_GRP_DB_ADDR g)) 256 ∈ u.out ∧ u.hrg.dbFails = s.hrg.dbFails.set g 0 ∧
      ∀ k ∈ groupData g, s.ringRuns k = true →
        (s.ringSize k < subMod 16 (ofLe (slice (doorbellOffset k) 2 page)) (s.get (HRG_RING_STATUS_INDEX k)) →
          u.get (HRG_RING_STATUS_STATE k) = 3 ∧ u.get (HRG_RING_STATUS_CAUSE k) = 3) ∧
        (subMod 16 (ofLe (slice (doorbellOffset k) 2 page)) (s.get (HRG_RING_STATUS_INDEX k)) ≤ s.ringSize k →
          (u.ring k).pi = ofLe (slice (doorbellOffset k) 2 page) ∧ u.ringRuns k = true))) ∧
  (∀ (g k : Nat) (d : Descriptor) (s : State), g < 4 → s.fetch g = some [(k, [some d])] → s.ringRuns k = true →
    Gives (.fetchComplete g) s (fun u => (u.ring k).fetched = (s.ring k).fetched ++ [d] ∧ u.fetch g = none ∧
      (u.ring k).fetchIdx = ((s.ring k).fetchIdx + 1) % 65536)) ∧
  (∀ (g k : Nat) (s : State), g < 4 → k < 128 → s.fetch g = some [(k, [none])] → s.ringRuns k = true →
    Gives (.fetchComplete g) s (fun u => u.get (HRG_RING_STATUS_STATE k) = 3 ∧ u.get (HRG_RING_STATUS_CAUSE k) = 4 ∧
      u.get HRG_EVENT_HOST_ERROR = 1 ∧ u.fetch g = none))

/-- The row that processes a descriptor of a KIND. -/
def Sys2Proof.Machine.descRow (k : Nat) : Nat → Instr
  | 1 => .txDescData k
  | 2 => .txDescCmd k
  | _ => .txDescBridge k

/-- The oldest fetched descriptor of a transmit ring completes: STOPPED, BAD_DESC, NO_FLOW, HOST_ERROR or DONE with
its result; its status is written and the index goes on by one. Readings of the model that clauses rest on:
notes/assumptions/25. -/
def Obligations.TransmitDescriptors : Prop :=
  (∀ (kind k : Nat) (s : State), kind ∈ [1, 2, 3] → (64 ≤ k ∨ s.ringsPolled = false ∨ (s.ring k).fetched = []) →
    exec (descRow k kind) s = .next s.settled) ∧
  (∀ (kind k : Nat) (d : Descriptor) (t : List Descriptor) (s : State), kind ∈ [1, 2, 3] → k < 64 → s.ringsPolled = true → (s.ring k).fetched = d :: t →
    descKind d = kind → s.descStopped k d = true → exec (descRow k kind) s = .next (s.completeTx k txStopped 0 0).settled) ∧
  (∀ (kind k : Nat) (d : Descriptor) (t : List Descriptor) (s : State), kind ∈ [1, 2, 3] → k < 64 → s.ringsPolled = true → (s.ring k).fetched = d :: t →
    descKind d = kind → s.descStopped k d = false → descOk d = false → exec (descRow k kind) s = .next (s.completeTx k txBadDesc 0 0).settled) ∧
  (∀ (k : Nat) (d : Descriptor) (t : List Descriptor) (s : State), k < 64 → s.ringsPolled = true → (s.ring k).fetched = d :: t →
    (descKind d = 0 ∨ 3 < descKind d) → exec (.txDescData k) s = .next (s.completeTx k txBadDesc 0 0).settled) ∧
  (∀ (k : Nat) (d : Descriptor) (t : List Descriptor) (s : State), k < 64 → s.ringsPolled = true → (s.ring k).fetched = d :: t → descKind d = 1 →
    s.descStopped k d = false → descOk d = true → d.buffer = none → exec (.txDescData k) s = .next (s.completeTx k txHostError 0 0).settled) ∧
  (∀ (k : Nat) (d : Descriptor) (b : Bytes) (t : List Descriptor) (s : State), k < 64 → s.ringsPolled = true → (s.ring k).fetched = d :: t →
    descKind d = 1 → s.descStopped k d = false → descOk d = true → d.buffer = some b → s.matching (s.descItem k d b) = [] →
    exec (.txDescData k) s = .next ((s.flwMap (fun w => { w with arrivals := w.arrivals + 1 })).completeTx k txNoFlow 0 0).settled) ∧
  (∀ (k : Nat) (d : Descriptor) (b : Bytes) (t : List Descriptor) (s : State), k < 64 → s.ringsPolled = true → (s.ring k).fetched = d :: t →
    descKind d = 1 → s.descStopped k d = false → descOk d = true → d.buffer = some b → s.matching (s.descItem k d b) ≠ [] →
    exec (.txDescData k) s = .next (State.settled (((s.matching (s.descItem k d b)).foldl (State.flowTakes (s.descItem k d b))
      (s.flwMap (fun w => { w with arrivals := w.arrivals + 1 }))).completeTx k txDone (Nat.min 255 (s.matching (s.descItem k d b)).length) 0))) ∧
  (∀ (k : Nat) (d : Descriptor) (t : List Descriptor) (s : State), k < 64 → s.ringsPolled = true → (s.ring k).fetched = d :: t → descKind d = 2 →
    s.descStopped k d = false → descOk d = true →
    Gives (.txDescCmd k) s (fun u => ∃ r : Status × State, r = s.issue (.ring (s.groupOwner (ringGroup k) == 1)) 0 (ofLe (slice 0x10 4 d.bytes))
      (ofLe (slice 0x14 1 d.bytes)) (ofLe (slice 0x16 2 d.bytes)) ∧ u = r.2.completeTx k txDone 0 (statusCode r.1))) ∧
  (∀ (k : Nat) (d : Descriptor) (t : List Descriptor) (s : State), k < 64 → s.ringsPolled = true → (s.ring k).fetched = d :: t → descKind d = 3 →
    s.descStopped k d = false → descOk d = true → (bridgeRequest k d).op = 0 →
    exec (.txDescBridge k) s = .next (s.completeTx k txDone 0 brgBadArg).settled) ∧
  (∀ (k : Nat) (d : Descriptor) (t : List Descriptor) (s : State), k < 64 → s.ringsPolled = true → (s.ring k).fetched = d :: t → descKind d = 3 →
    s.descStopped k d = false → descOk d = true → (bridgeRequest k d).op ≠ 0 →
    (s.running = false ∨ (bridgeRequest k d).op ≠ opWr ∨ s.brg.posted.length < 256) →
    Gives (.txDescBridge k) s (fun u => u = (s.issueRequest (bridgeRequest k d)).2.completeTx k txDone 0 (s.issueRequest (bridgeRequest k d)).1)) ∧
  (∀ (k st fl res : Nat) (d : Descriptor) (t : List Descriptor) (s : State), k < 64 → (s.ring k).fetched = d :: t → (s.ring k).silent = 0 →
    ((s.completeTx k st fl res).ring k).fetched = t ∧
    (s.completeTx k st fl res).get (HRG_RING_STATUS_INDEX k) = (s.get (HRG_RING_STATUS_INDEX k) + 1) % 65536 ∧
    (s.mayRequest (s.groupOwner (ringGroup k)) = true → .hostWrite (s.groupOwner (ringGroup k))
      (s.ringEntry k (s.get (HRG_RING_STATUS_INDEX k)) + 0x18) (le 1 st ++ le 1 fl ++ le 2 res ++ zeros 4) ∈ (s.completeTx k st fl res).out))

/-- Receive rings, event rings and MSI-X: an item fills the oldest fetched descriptor or is dropped and counted; an
event is written while there is room, waits in 16 places, or is lost; coalesced completions are signalled; a pending
vector is sent when it is unmasked. Readings of the model that clauses rest on: notes/assumptions/7, 9. -/
def Obligations.ReceiveEventsAndInterrupts : Prop :=
  (∀ (k ch fl flow : Nat) (item : Bytes) (s : State), (s.ring k).fetched = [] → s.rxFill k ch fl flow item = s.rxDrop k) ∧
  (∀ (k ch fl flow : Nat) (item : Bytes) (d : Descriptor) (t : List Descriptor) (s : State), 64 ≤ k → k < 128 → (s.ring k).fetched = d :: t →
    s.receiveFilled = true → (s.ring k).silent = 0 → item.length ≤ ofLe (slice 8 2 d.bytes) → s.mayRequest (s.groupOwner (ringGroup k)) = true →
    ((s.rxFill k ch fl flow item).ring k).fetched = t ∧
    .hostWrite (s.groupOwner (ringGroup k)) (ofLe (slice 0 8 d.bytes)) item ∈ (s.rxFill k ch fl flow item).out ∧
    (s.rxFill k ch fl flow item).get (HRG_RING_STATUS_INDEX k) = (s.get (HRG_RING_STATUS_INDEX k) + 1) % 65536) ∧
  (∀ (g : Nat) (e : Option HostEv) (s : State), 4 ≤ g → exec (.eventEntryWrite g e) s = .next s.settled) ∧
  (∀ (g : Nat) (e : HostEv) (s : State), g < 4 → s.eventsFilled = true → s.ringRuns (128 + g) = true → (s.ring (128 + g)).waiting = [] →
    (s.ring (128 + g)).evLost = 0 → s.evRoom g = true →
    Gives (.eventEntryWrite g (some e)) s (fun u => u = s.evWrite g (s.eventEntry e) ∧
      u.get (HRG_RING_STATUS_INDEX (128 + g)) = (s.get (HRG_RING_STATUS_INDEX (128 + g)) + 1) % 65536)) ∧
  (∀ (g : Nat) (e : HostEv) (s : State), g < 4 → s.eventsFilled = true → s.ringRuns (128 + g) = true → s.evRoom g = false →
    (s.ring (128 + g)).waiting.length < 16 → Gives (.eventEntryWrite g (some e)) s (fun u =>
      (u.ring (128 + g)).waiting = (s.ring (128 + g)).waiting ++ [s.eventEntry e])) ∧
  (∀ (g : Nat) (e : HostEv) (s : State), g < 4 → s.eventsFilled = true → s.ringRuns (128 + g) = true →
    16 ≤ (s.ring (128 + g)).waiting.length → Gives (.eventEntryWrite g (some e)) s (fun u =>
      (u.ring (128 + g)).evLost = (s.ring (128 + g)).evLost + 1 ∧ (u.ring (128 + g)).waiting = (s.ring (128 + g)).waiting)) ∧
  (∀ (g : Nat) (s : State), g < 4 → exec (.eventEntryWrite g none) s = .next (State.evDrain g 18 s).settled) ∧
  (∀ (k : Nat) (s : State), exec (.msixCoalesceTimeout k) s = .next (State.settled (if k < 132 ∧ s.flag (HRG_RING_CTRL_IRQ_EN k) ∧
    s.get (HRG_RING_CTRL_COAL_TIME k) ≠ 0 ∧ 0 < (s.ring k).unsignalled then s.signalNow k else s))) ∧
  (∀ (f v : Nat) (s : State), f < 2 → v < 64 → s.flag (MSIX_PBA f v) = true → s.msixOn f = true → s.mayRequest f = true →
    exec (.msixUnmask f v) s = .next (State.settled ((s.load [(MSIX_MASK f v, 0), (MSIX_PBA f v, 0)]).emit (.msix f v)))) ∧
  (∀ (f v : Nat) (s : State), f < 2 → v < 64 → (s.flag (MSIX_PBA f v) = false ∨ s.msixOn f = false) →
    exec (.msixUnmask f v) s = .next (s.set (MSIX_MASK f v) 0).settled) ∧
  (∀ (f v : Nat) (s : State), (2 ≤ f ∨ 64 ≤ v) → exec (.msixUnmask f v) s = .next s.settled)

/-- Link events: link down and hot reset put both functions, all groups and rings at their reset values, except the
owners; FLR those of PF1; Bus Master Enable and D3hot gate a function's requests; PE_PERST_N low has the effect of
link down; the endpoint answers after training. Readings of the model that clauses rest on: notes/assumptions/27. -/
def Obligations.EndpointEvents : Prop :=
  (∀ (s : State), s.flag HRG_STATUS_LINK_UP = false → exec .pcieLinkDown s = .next s.settled ∧ exec .pcieHotReset s = .next s.settled) ∧
  (∀ s : State, s.flag HRG_STATUS_LINK_UP = true →
    exec .pcieLinkDown s = .next (s.linkReset.set HRG_EVENT_LINK_DOWN 1).settled ∧
    exec .pcieHotReset s = .next (s.linkReset.set HRG_EVENT_HOT_RESET 1).settled) ∧
  (∀ s : State, s.linkReset.get HRG_STATUS_LINK_UP = 0 ∧ s.linkReset.bme 0 = false ∧ s.linkReset.bme 1 = false ∧
    s.linkReset.msixOn 0 = false ∧ s.linkReset.msixOn 1 = false ∧ (∀ e ∈ s.linkReset.hrg.held, 2 ≤ e.1) ∧
    (∀ k, k < 132 → s.linkReset.get (HRG_RING_STATUS_STATE k) = 0 ∧ s.linkReset.get (HRG_RING_CTRL_EN k) = 0 ∧
      s.linkReset.get (HRG_RING_STATUS_INDEX k) = 0) ∧
    (∀ g, g < 4 → s.linkReset.get (HRG_GRP_CFG_EN g) = 0 ∧ s.linkReset.groupOwner g = s.groupOwner g) ∧ s.linkReset.flw = s.flw) ∧
  (∀ s : State, exec .pf1Flr s = .next (State.settled (if s.flag HRG_STATUS_LINK_UP = true ∧ s.mode ≠ modeGtn then s.flr else s))) ∧
  (∀ s : State, s.flr.get HRG_EVENT_FLR = 1 ∧ s.flr.bme 1 = false ∧ s.flr.bme 0 = s.bme 0 ∧ s.flr.msixOn 1 = false ∧
    (∀ k, k < 132 → s.groupOwner (ringGroup k) = 1 → s.flr.get (HRG_RING_STATUS_STATE k) = 0) ∧
    (∀ k, k < 132 → s.groupOwner (ringGroup k) = 0 → s.flr.get (HRG_RING_STATUS_STATE k) = s.get (HRG_RING_STATUS_STATE k))) ∧
  (∀ s : State, exec (.busMasterDisable 0) s = .next (s.set HRG_STATUS_BME0 0).settled ∧
    exec (.busMasterDisable 1) s = .next (s.set HRG_STATUS_BME1 0).settled) ∧
  (∀ (f : Nat) (msix : Bool) (s : State), f < 2 → s.flag HRG_STATUS_LINK_UP = true → (f = 0 ∨ s.mode ≠ modeGtn) →
    Gives (.busMasterEnable f msix) s (fun u => u.bme f = true ∧ u.msixOn f = msix ∧
      (s.hrg.d3.getD f false = false → (∀ e ∈ u.hrg.held, e.1 ≠ f) ∧ ∀ e ∈ s.hrg.held, e.1 = f → e.2 ∈ u.out))) ∧
  (∀ (f : Nat) (msix : Bool) (s : State), (s.flag HRG_STATUS_LINK_UP = false ∨ 2 ≤ f ∨ (f = 1 ∧ s.mode = modeGtn)) →
    exec (.busMasterEnable f msix) s = .next s.settled) ∧
  (∀ (f : Nat) (s : State), exec (.d3hotEntry f) s = .next (State.settled { s with hrg := { s.hrg with d3 := s.hrg.d3.set f true } })) ∧
  (∀ (f : Nat) (s : State), f < s.hrg.d3.length → s.flag HRG_STATUS_LINK_UP = true → s.bme f = true →
    Gives (.d0Return f) s (fun u => u.hrg.d3 = s.hrg.d3.set f false ∧ (∀ e ∈ u.hrg.held, e.1 ≠ f) ∧
      (∀ e ∈ s.hrg.held, e.1 = f → e.2 ∈ u.out) ∧ u.regs = s.regs)) ∧
  (∀ s : State, Gives .pePerstAssert s (fun u => u.glb.perst = true ∧ u.get HRG_STATUS_LINK_UP = 0 ∧
    (s.flag HRG_STATUS_LINK_UP = true → u.get HRG_EVENT_LINK_DOWN = 1))) ∧
  (∀ s : State, exec .pePerstDeassert s = .next (State.settled { s with glb := { s.glb with perst := false } })) ∧
  (∀ (speed width : Nat) (s : State), exec (.pcieEndpointReady speed width) s = .next (State.settled
    (if s.hrg.trained = true ∧ s.glb.perst = false ∧ s.glb.held = false ∧ s.get HRG_STATUS_LINK_UP ≠ 1 ∧ s.mode ≠ modeSleep then
      s.load [(HRG_STATUS_LINK_UP, 1), (HRG_STATUS_SPEED, clamp 1 3 speed), (HRG_STATUS_WIDTH, clamp 1 2 width)] else s)))

/-! ### Legacy host view (R321–R342) -/

/-- The legacy host bus: strobes are answered in GTN mode, in BOOT with the identification alone, and in SAFE entered
from GTN without effect; a strobe that ends early has no effect, and its read is an open value (R325). A read of a
more significant word latches the other; the reads of SSR, IVR and ELD3 have their own effects. Readings of the model
that clauses rest on: notes/assumptions/4, 46. -/
def Obligations.LegacyBus : Prop :=
  (∀ (a v l n x : Nat) (early : Bool) (s : State), s.ghAnswers = false → ∀ c ∈ [Instr.ghBusRead a early, .ghHighWordRead a early, .ghBusWrite a v early,
    .ghHighWordWrite a v early, .ghLowWordWrite a v early, .ssrLowWordRead early, .ivrLowWordRead early, .eld3LowWordRead early,
    .nodeEnableWrite l, .elogClear l, .wdrWrite l, .mbcHandover n l, .gtnCanRunWrite x l], exec c s = .next s.settled) ∧
  (∀ (a v : Nat) (s : State), s.ghAnswers = true → exec (.ghBusWrite a v true) s = .next s.settled ∧
    exec (.ghHighWordWrite a v true) s = .next s.settled ∧ exec (.ghLowWordWrite a v true) s = .next s.settled ∧
    exec (.ghBusRead a true) s = .next ((s.draw 16).2.emit (.ghWord a (s.draw 16).1)).settled) ∧
  (∀ (a v : Nat) (s : State), s.mode = modeBoot → s.ghHeld = false → exec (.ghBusWrite a v false) s = .next s.settled ∧
    (a < 0x800 → exec (.ghBusRead a false) s = .next (s.emit (.ghWord a (if a = 0 then 0x0120 else if a = 1 then 0x0307 else 0))).settled)) ∧
  (∀ (a : Nat) (s : State), s.mode = modeBoot → s.ghHeld = true →
    exec (.ghBusRead a false) s = .next (s.gtnMap (fun g => { g with strobe := some (false, a, 0) })).settled) ∧
  (∀ s : State, s.gtn.strobe = none → exec .ghBootHoldEnd s = .next s.settled) ∧
  (∀ (a : Nat) (s : State), s.mode = modeBoot → a < 0x800 → s.gtn.strobe = some (false, a, 0) → exec .ghBootHoldEnd s =
    .next ((s.gtnMap (fun g => { g with strobe := none })).emit (.ghWord a (bootWord a))).settled) ∧
  (∀ (a : Nat) (s : State), s.mode = modeSafe → s.get GLB_MODE_PREV_MODE = modeGtn → a < 0x800 →
    exec (.ghBusRead a false) s = .next (s.emit (.ghWord a (s.gtnRead a).1)).settled) ∧
  (∀ (a : Nat) (s : State), s.mode = modeGtn → 0xC0 ≤ a → a < 0x800 → exec (.ghBusRead a false) s = .next (s.emit (.ghWord a (s.ramWord a))).settled) ∧
  (∀ (a : Nat) (s : State), s.mode = modeGtn → a < 0xC0 → a % 2 = 0 → Gives (.ghHighWordRead a false) s (fun u =>
    tabFind (a / 2) u.gtn.latched = some (s.gtnReg (a / 2) / 65536, s.gtnReg (a / 2) % 65536) ∧
    .ghWord a (s.gtnReg (a / 2) / 65536) ∈ u.out)) ∧
  (∀ (a h l : Nat) (s : State), s.mode = modeGtn → a < 0xC0 → a % 2 = 1 → tabFind (a / 2) s.gtn.latched = some (h, l) →
    Gives (.ghBusRead a false) s (fun u => .ghWord a l ∈ u.out ∧ tabFind (a / 2) u.gtn.latched = none)) ∧
  (∀ (s : State), s.mode = modeGtn → tabFind 2 s.gtn.latched = none → Gives (.ssrLowWordRead false) s (fun u =>
    .ghWord 5 (s.gtnReg 2 % 65536) ∈ u.out ∧ u.get GTN_SSR_STICKY = 0)) ∧
  (∀ (h l : Nat) (s : State), s.mode = modeGtn → tabFind 2 s.gtn.latched = some (h, l) → Gives (.ssrLowWordRead false) s (fun u =>
    u.get GTN_SSR_STICKY = andNot (s.get GTN_SSR_STICKY) (h % 256) % 2 ^ 8)) ∧
  (∀ (i : Nat) (s : State), s.mode = modeGtn → tabFind 5 s.gtn.latched = none → s.irqTop = some i → Gives (.ivrLowWordRead false) s (fun u =>
    .ghWord 0x0B i ∈ u.out ∧ u.bitAt GTN_ISR_BITS i = false ∧ u.gtn.irqReleased = true)) ∧
  (∀ (s : State), s.mode = modeGtn → tabFind 5 s.gtn.latched = none → s.irqTop = none → Gives (.ivrLowWordRead false) s (fun u =>
    .ghWord 0x0B 0xFF ∈ u.out ∧ u.regs = s.regs ∧ u.gtn.irqReleased = s.gtn.irqReleased)) ∧
  (∀ (s : State), s.mode = modeGtn → Gives (.eld3LowWordRead false) s (fun u => u.get GTN_ELP_PTR = (s.get GTN_ELP_PTR + 1) % 128))

/-- Legacy writes in GTN mode: mailbox RAM that the node owns refuses; a more significant word waits for the other,
which writes both; CSR, WDR, ELC, MBCn and CxCR act as their rows say. The watchdog, the tick and the release of the
interrupt line. Legacy CAN: a valid classical frame that the filter takes goes to the lowest mailbox of its kind that
the node owns, or counts as an overrun; a sent mailbox is handed back. Readings of the model that clauses rest on:
notes/assumptions/20, 46. -/
def Obligations.LegacyWritesAndCan : Prop :=
  (∀ (a v : Nat) (s : State), s.mode = modeGtn → 0x800 ≤ a → exec (.ghBusWrite a v false) s = .next s.settled) ∧
  (∀ (a v : Nat) (s : State), s.mode = modeGtn → 0xC0 ≤ a → a < 0x800 → exec (.ghBusWrite a v false) s = .next (State.settled
    (if s.flag (GTN_MBC_OWN (ramMbox a)) = true then s.setSsr 22 else s.setRam a (v % 65536)))) ∧
  (∀ (a v : Nat) (s : State), s.mode = modeGtn → a < 0xC0 → a % 2 = 0 → exec (.ghHighWordWrite a v false) s = .next (State.settled
    { s with gtn := { s.gtn with upper := tabPut (a / 2) (v % 65536) s.gtn.upper } })) ∧
  (∀ (a v up : Nat) (s : State), s.mode = modeGtn → a < 0xC0 → a % 2 = 1 → tabFind (a / 2) s.gtn.upper = some up →
    exec (.ghLowWordWrite a v false) s = .next (State.settled
      (({ s with gtn := { s.gtn with upper := tabErase (a / 2) s.gtn.upper } } : State).gtnWriteReg (a / 2) (65536 * up + v % 65536)))) ∧
  (∀ (l : Nat) (s : State), s.mode = modeGtn → tabFind 1 s.gtn.upper = none → hasBit l 0 = false → hasBit l 1 = true → s.flag GTN_CSR_NODE_EN = false →
    Gives (.nodeEnableWrite l) s (fun u => u.get GTN_CSR_NODE_EN = 1 ∧ u.get GTN_CSR_MASTER_EN = bit l 2 ∧ u.get GTN_CSR_IRQ_EN = bit l 3 ∧
      u.get GTN_CSR_TICK_EN = bit l 4 ∧ u.get GTN_SSR_INAUG = 1 ∧ u.gln.named = false)) ∧
  (∀ (l : Nat) (s : State), s.mode = modeGtn → tabFind 1 s.gtn.upper = none → hasBit l 0 = false → hasBit l 1 = false → s.flag GTN_CSR_NODE_EN = true →
    Gives (.nodeEnableWrite l) s (fun u => u.get GTN_CSR_NODE_EN = 0 ∧ u.get GTN_POS_VALID = 0 ∧ u.gln.named = false ∧ u.gln.repeating = true ∧
      u.gln.stage = 0)) ∧
  (∀ (l : Nat) (s : State), s.mode = modeGtn → tabFind 0x50 s.gtn.upper = none → hasBit (l % 65536) 0 = true →
    Gives (.elogClear l) s (fun u => u.gtn.log = [] ∧ u.get GTN_ELP_PTR = 0 ∧ u.get GTN_SSR_LOG_FULL = 0)) ∧
  (∀ (l : Nat) (s : State), s.mode = modeGtn → tabFind 0x0D s.gtn.upper = none →
    Gives (.wdrWrite l) s (fun u => u.get GTN_WDR_TIMEOUT = l % 65536 ∧ u.get GTN_SSR_PD_VALID = 1)) ∧
  (∀ (n l : Nat) (s : State), s.mode = modeGtn → n < 16 → s.flag (GTN_MBC_OWN n) = true → tabFind (0x10 + n) s.gtn.upper = none →
    Gives (.mbcHandover n l) s (fun u => u.bitAt GTN_SSR_STICKY 6 = true ∧ u.get (GTN_MBC_OWN n) = 1 ∧ u.get (GTN_MBC_KIND n) = s.get (GTN_MBC_KIND n))) ∧
  (∀ (n l : Nat) (s : State), s.mode = modeGtn → n < 16 → s.flag (GTN_MBC_OWN n) = false → tabFind (0x10 + n) s.gtn.upper = none →
    hasBit (l % 65536) 15 = true → bits (l % 65536) 8 4 = mbMsgTx →
    Gives (.mbcHandover n l) s (fun u => u.get (GTN_MBC_OWN n) = 1 ∧ u.get (GTN_MBC_PARAM n) = l % 256 ∧ u.gtn.msgOrder = s.gtn.msgOrder ++ [n])) ∧
  (∀ (x l : Nat) (s : State), s.mode = modeGtn → x < 2 → tabFind (0x20 + 8 * x) s.gtn.upper = none → hasBit (l % 65536) 0 = true →
    s.flag (GTN_CCR_RUN x) = false → Gives (.gtnCanRunWrite x l) s (fun u =>
      (s.legacyTimingOk x = true → u.get (GTN_CCR_RUN x) = 1 ∧ u.get (GTN_CSR_CAN_RUNNING x) = 1 ∧ u.get (GTN_CSR_CAN_CFG_ERR x) = 0) ∧
      (s.legacyTimingOk x = false → u.get (GTN_CCR_RUN x) = 0 ∧ u.get (GTN_CSR_CAN_CFG_ERR x) = 1))) ∧
  (∀ (x l : Nat) (s : State), s.mode = modeGtn → x < 2 → tabFind (0x20 + 8 * x) s.gtn.upper = none → hasBit (l % 65536) 0 = false →
    Gives (.gtnCanRunWrite x l) s (fun u => u.get (GTN_CCR_RUN x) = 0 ∧ u.get (GTN_CSR_CAN_RUNNING x) = 0)) ∧
  (∀ s : State, s.mode = modeGtn → s.get GTN_WDR_TIMEOUT ≠ 0 → Gives .gtnWatchdogExpiry s (fun u => u.get GTN_SSR_PD_VALID = 0 ∧
    u.bitAt GTN_ISR_BITS 23 = true ∧ u.bitAt GTN_SSR_STICKY 0 = true ∧ u.get GTN_WDR_TIMEOUT = s.get GTN_WDR_TIMEOUT)) ∧
  (∀ s : State, exec .ghIrqReleaseEnd s = .next (State.settled { s with gtn := { s.gtn with irqReleased := false } })) ∧
  (∀ s : State, exec .gtnTick s = .next (State.settled (if s.mode = modeGtn ∧ s.flag GTN_CSR_TICK_EN = true then s.setIsr 22 else s))) ∧
  (∀ (x sof : Nat) (f : CanFrame) (s : State), s.isLegacyCan x = false → exec (.gtnCanRx x f sof) s = .next s.settled ∧
    exec (.gtnCanTxDone x) s = .next s.settled) ∧
  (∀ (x sof : Nat) (f : CanFrame) (s : State), s.isLegacyCan x = true → (s.canActive x = false ∨ f.fdf = true) →
    exec (.gtnCanRx x f sof) s = .next s.settled) ∧
  (∀ (x sof : Nat) (f : CanFrame) (s : State), s.isLegacyCan x = true → s.canActive x = true → f.fdf = false → s.legacyAccepts x f = false →
    Gives (.gtnCanRx x f sof) s (fun u => u.gtn.ram = s.gtn.ram ∧
      u.get (CAN_RXSTAT_FILTERED x) = satNat (CAN_RXSTAT_FILTERED x).width (s.get (CAN_RXSTAT_FILTERED x) + 1))) ∧
  (∀ (x sof : Nat) (f : CanFrame) (s : State), s.isLegacyCan x = true → s.canActive x = true → f.fdf = false → s.legacyAccepts x f = true →
    s.ownedMboxes (mbCanRx x) = [] → Gives (.gtnCanRx x f sof) s (fun u =>
      u.get (GTN_COVR_COUNT x) = satNat 32 (s.get (GTN_COVR_COUNT x) + 1) ∧ u.gtn.ram = s.gtn.ram)) ∧
  (∀ (x sof n : Nat) (t : List Nat) (f : CanFrame) (s : State), s.isLegacyCan x = true → s.canActive x = true → f.fdf = false →
    s.legacyAccepts x f = true → s.ownedMboxes (mbCanRx x) = n :: t → n < 16 → Gives (.gtnCanRx x f sof) s (fun u =>
      u.get (GTN_MBC_OWN n) = 0 ∧ u.get (GTN_MBC_ERR n) = 0 ∧ u.ramWord (mbLen n) = 18 ∧ u.ramWord (mbStatus n) = 0 ∧
      u.ramWord (mbData n 2) = f.dlc % 16)) ∧
  (∀ (x n : Nat) (s : State), s.isLegacyCan x = true → (s.chan x).sending = some n → n < 16 → Gives (.gtnCanTxDone x) s (fun u =>
    (u.chan x).sending = none ∧ u.get (GTN_MBC_OWN n) = 0 ∧ u.ramWord (mbStatus n) = 0 ∧
    u.get (GTN_CFRC_SENT x) = satNat 16 (s.get (GTN_CFRC_SENT x) + 1))) ∧
  (∀ (x : Nat) (s : State), s.isLegacyCan x = true → (s.chan x).sending = none → exec (.gtnCanTxDone x) s = .next s.settled)

/-! ### G-line (R344–R363) -/

/-- The row of a telegram type. -/
def Sys2Proof.Machine.gRow (p : Nat) (t : Telegram) : Nat → Instr
  | 1 => .claimReceive p t
  | 2 => .nameReceive p t
  | 3 => .nameAckReceive p t
  | 4 => .topologyReceive p t
  | 5 => .periodReceive p t
  | 6 => .pdPollReceive p t
  | 7 => .pdDataReceive p t
  | 8 => .msgPollReceive p t
  | 9 => .gMsgReceive p t
  | 10 => .msgAckReceive p t
  | 11 => .noneReceive p t
  | _ => .gResetReceive p t

/-- The node hears a telegram on a port of its own: repeated, the port is UP. It acts on one of the active line while
it takes part. Readings of the model that clauses rest on: notes/assumptions/47. -/
def Obligations.TelegramsHeard : Prop :=
  (∀ (p ty : Nat) (t : Telegram) (s : State), 1 ≤ ty → ty ≤ 12 → (s.gRuns = false ∨ 4 ≤ p ∨ s.gEnds.contains (portEnd p) = false ∨ t.type ≠ ty ∨
    tgValid t = false) → exec (gRow p t ty) s = .next s.settled) ∧
  (∀ (p ty : Nat) (t : Telegram) (s : State), 1 ≤ ty → ty ≤ 12 → s.gRuns = true → p < 4 → s.gEnds.contains (portEnd p) = true → t.type = ty →
    tgValid t = true → (s.gTakesPart = false ∨ s.gln.active (portEnd p) ≠ p % 2) → exec (gRow p t ty) s = .next (s.gHear p t).settled) ∧
  (∀ (p : Nat) (t : Telegram) (s : State), (s.gHear p t).gln = { s.gln with up := setBitOf s.gln.up p } ∧
    (s.gHear p t).get GTN_SSR_LINKED = 1) ∧
  (∀ (p : Nat) (t : Telegram) (s : State), s.mode = modeGtn → (s.gln.repeating = true ∨ s.flag GTN_CSR_NODE_EN = false) →
    s.get (LN_TRX_STATE (portAcross p)) = trxNormal → s.permission = true → .telegram (portAcross p) t ∈ (s.gHear p t).out) ∧
  (∀ (p : Nat) (t : Telegram) (s : State), s.gRuns = false ∨ 4 ≤ p ∨ s.gEnds.contains (portEnd p) = false →
    exec (.gTelegramDiscard p t) s = .next s.settled) ∧
  (∀ (p : Nat) (t : Telegram) (s : State), s.gRuns = true → p < 4 → s.gEnds.contains (portEnd p) = true →
    Gives (.gTelegramDiscard p t) s (fun u => u.get (LN_ERR_CNT_CODE_ERRORS p) = satNat (LN_ERR_CNT_CODE_ERRORS p).width
        (s.get (LN_ERR_CNT_CODE_ERRORS p) + 1) ∧
      u.gln = if s.gln.stage = 2 then { s.gln with stage := 1, slice := Nat.min 2 (s.gln.slice + 1) } else s.gln)) ∧
  (∀ (p : Nat) (s : State), exec (.gPortDown p) s = .next (State.settled (if s.gRuns = true ∧ p < 4
    then ({ s with gln := { s.gln with up := clearBitOf s.gln.up p } } : State).gShowLines else s))) ∧
  (∀ (e : Nat) (s : State), (s.gRuns = false ∨ s.gEnds.contains e = false ∨ s.gSwMode ≠ 0) → exec (.gLineSwitch e) s = .next s.settled) ∧
  (∀ (e : Nat) (s : State), s.gRuns = true → s.gEnds.contains e = true → s.gSwMode = 0 → s.gln.active e ≤ 1 →
    Gives (.gLineSwitch e) s (fun u => u.gln.active e = 1 - s.gln.active e ∧ u.bitAt GTN_SSR_STICKY 4 = true ∧ u.bitAt GTN_ISR_BITS 18 = true ∧
      u.gln.named = s.gln.named ∧ u.gln.up = s.gln.up))

/-- The legacy inauguration: RESET and triggers start it; a candidate claims when its backoff ends, withdraws before a
claim of a lower VID, and is master 100 µs after its own; the master names end by end; a node takes the position
offered; TOPOLOGY puts the positions in force. Readings of the model that clauses rest on: notes/assumptions/9, 47. -/
def Obligations.LegacyInauguration : Prop :=
  (∀ (p : Nat) (t : Telegram) (s : State), s.gTakes p tgClaim t = true →
    exec (.claimReceive p t) s = .next (State.settled (if s.gln.stage = 1 ∨ (s.gln.stage = 2 ∧ tgNum t 0 4 < s.gVid)
      then (s.gHear p t).gWithdraw else s.gHear p t))) ∧
  (∀ s : State, s.gWithdraw = { s with gln := { s.gln with stage := 0 } }) ∧
  (∀ s : State, s.gRuns = false ∨ s.gln.stage ≠ 1 → exec .claimBackoffExpiry s = .next s.settled) ∧
  (∀ s : State, s.gRuns = true → s.gln.stage = 1 → Gives .claimBackoffExpiry s (fun u => u.gln = { s.gln with stage := 2 } ∧ u.regs = s.regs ∧
    ∀ e ∈ s.gEnds, ∀ p ∈ endPorts e, s.get (LN_TRX_STATE p) = trxNormal → s.permission = true →
      .telegram p { s.gBare tgClaim 0xFF with data := be 4 s.gVid } ∈ u.out)) ∧
  (∀ s : State, s.gRuns = false ∨ s.gln.stage ≠ 2 → exec .claimWinExpiry s = .next s.settled) ∧
  (∀ s : State, s.gRuns = true → s.gln.stage = 2 → s.gln.nextPos ≤ 31 → Gives .claimWinExpiry s (fun u =>
    u.gln = { s.gln with stage := 3, named := true, pos := 0, waiting := some (.name 1 s.gln.nextPos false) } ∧ u.get GTN_SSR_MASTER = 1)) ∧
  (∀ (p : Nat) (t : Telegram) (s : State), s.gTakes p tgName t = true → s.gln.named = true →
    exec (.nameReceive p t) s = .next (s.gHear p t).settled) ∧
  (∀ (p : Nat) (t : Telegram) (s : State), s.gTakes p tgName t = true → s.mode = modeGtn → s.gln.named = false → 1 ≤ t.dest → t.dest ≤ 31 →
    Gives (.nameReceive p t) s (fun u => u.gln.named = true ∧ u.gln.pos = t.dest ∧ u.gln.repeating = true ∧ u.gln.stage = 0 ∧
      u.get GTN_POS_ORIENT = if portEnd p = 1 then 0 else 1)) ∧
  (∀ (p e pos : Nat) (b : Bool) (t : Telegram) (s : State), s.gTakes p tgNameAck t = true → s.gln.waiting = some (.name e pos b) → pos < 31 →
    Gives (.nameAckReceive p t) s (fun u => u.gln.members = s.gln.members ++ [⟨pos, e, tgNum t 0 4,
        (List.range (Nat.min 16 (tgNum t 4 1))).map (fun i => tgNum t (5 + i) 1)⟩] ∧
      u.gln.waiting = some (.name e (pos + 1) false))) ∧
  (∀ (p e : Nat) (b : Bool) (t : Telegram) (s : State), s.gTakes p tgNameAck t = true → s.gln.waiting = some (.name e 0x20 b) →
    s.flag GTN_SSR_INAUG = false → exec (.nameAckReceive p t) s = .next (s.gHear p t).gTrigger.settled) ∧
  (∀ (p : Nat) (t : Telegram) (s : State), s.gTakes p tgNameAck t = true → s.gln.waiting = none →
    exec (.nameAckReceive p t) s = .next (s.gHear p t).settled) ∧
  (∀ (p : Nat) (t : Telegram) (s : State), s.gTakes p tgTopology t = true → s.gln.named = true → s.gMaster = false → s.mode = modeGtn →
    Gives (.topologyReceive p t) s (fun u => u.get GTN_POS_VALID = 1 ∧ u.get GTN_POS_POS = s.gln.pos % 2 ^ 5 ∧
      u.get GTN_POS_COUNT = tgNum t 0 1 % 2 ^ 6 ∧ u.get GTN_TCR_COUNT = (s.get GTN_TCR_COUNT + 1) % 2 ^ 16 ∧ u.get GTN_SSR_INAUG = 0 ∧
      u.bitAt GTN_ISR_BITS 17 = true)) ∧
  (∀ (p : Nat) (t : Telegram) (s : State), s.gTakes p tgTopology t = true → (s.gln.named = false ∨ s.gMaster = true) →
    exec (.topologyReceive p t) s = .next (s.gHear p t).settled) ∧
  (∀ (p : Nat) (t : Telegram) (s : State), s.gTakes p tgReset t = true →
    exec (.gResetReceive p t) s = .next (if s.gMaster = true then s.gHear p t else (s.gHear p t).gStart).settled) ∧
  (∀ s : State, s.gStart.gln.named = false ∧ s.gStart.gln.repeating = true ∧ s.gStart.gln.stage = (if s.gMayMaster = true then 1 else 0) ∧
    s.gStart.gln.members = [] ∧ s.gStart.gln.polls = [] ∧ s.gStart.get GTN_POS_VALID = 0 ∧ s.gStart.get GTN_SSR_INAUG = 1 ∧
    s.gStart.get GTN_SSR_MASTER = 0) ∧
  (∀ s : State, s.gRuns = false ∨ s.gMaster = false ∨ s.gln.waiting = none → exec .answerTimeout s = .next s.settled) ∧
  (∀ (e pos : Nat) (s : State), s.gRuns = true → s.gMaster = true → s.gln.waiting = some (.name e pos false) → pos ≠ 0x20 →
    Gives .answerTimeout s (fun u => u.gln = { s.gln with waiting := some (.name e pos true) } ∧
      u.get GTN_PEC_COUNT = satNat 32 (s.get GTN_PEC_COUNT + 1))) ∧
  (∀ (pos : Nat) (s : State), s.gRuns = true → s.gMaster = true → s.gln.waiting = some (.msgPoll pos) → 2 ≤ tabGet 0 s.gln.misses pos →
    Gives .answerTimeout s (fun u => u.gln.named = false ∧ u.get GTN_SSR_INAUG = 1 ∧ u.get GTN_PEC_COUNT = satNat 32 (s.get GTN_PEC_COUNT + 1))) ∧
  (∀ s : State, exec .periodMissingTimeout s = .next (State.settled
    (if s.gRuns = true ∧ s.gln.named = true ∧ s.gMaster = false then s.gTrigger else s))) ∧
  (∀ s : State, exec .borderNamingTimeout s = .next (State.settled
    (if s.mode = modeBorder ∧ s.flag INA_BDR_STATUS_INAUG = true then (s.assertLine 57).gTrigger else s)))

/-- The period: the master starts one every 16 ms and polls; a polled node answers with its data, its oldest message,
or NONE; data goes to its sinks, a message to its mailbox and is acknowledged; an acknowledgement completes what was
sent. Readings of the model that clauses rest on: notes/assumptions/9, 47. -/
def Obligations.LegacyPeriod : Prop :=
  (∀ s : State, s.gRuns = false ∨ s.gMaster = false ∨ s.flag GTN_POS_VALID = false → exec .periodTimer s = .next s.settled) ∧
  (∀ (pos port : Nat) (s : State), s.gRuns = true → s.gMaster = true → s.flag GTN_POS_VALID = true → s.gln.polls[0]? = some (pos, port) → pos ≠ 0 →
    Gives .periodTimer s (fun u => u.gln.periods = s.gln.periods + 1 ∧ u.gln.periodAt = s.uptime ∧ u.gln.pollIdx = 1 ∧
      u.gln.waiting = some (.pd pos port) ∧ (s.mode = modeGtn → u.bitAt GTN_ISR_BITS 16 = true) ∧
      ∀ e ∈ s.gEnds, ∀ p ∈ endPorts e, s.get (LN_TRX_STATE p) = trxNormal → s.permission = true → .telegram p (s.gBare tgPeriod 0xFF) ∈ u.out)) ∧
  (∀ (p : Nat) (t : Telegram) (s : State), s.gTakes p tgPeriod t = true →
    exec (.periodReceive p t) s = .next (if s.gMaster = true then s.gHear p t else (s.gHear p t).gPeriod).settled) ∧
  (∀ s : State, s.gPeriod.gln = { s.gln with periodAt := s.uptime } ∧ (s.mode = modeGtn → s.gPeriod.bitAt GTN_ISR_BITS 16 = true ∧
    s.gPeriod.gtn.ownSent = false ∧ s.gPeriod.gtn.sinkSeen = [])) ∧
  (∀ (p : Nat) (t : Telegram) (s : State), s.gTakes p tgPdPoll t = true →
    exec (.pdPollReceive p t) s = .next (if s.gln.named = true ∧ t.dest = s.gln.pos ∧ s.gMaster = false
      then (s.gHear p t).gSendData (tgNum t 0 1) else s.gHear p t).settled) ∧
  (∀ (port : Nat) (t : Telegram) (s : State), s.gOwnData port = some t → s.mode = modeGtn → s.gSendData port =
    (s.gSend t).gtnMap (fun g => { g with ownSent := true })) ∧
  (∀ (p n : Nat) (t : Telegram) (s : State), s.gTakes p tgPdData t = true → s.mode = modeGtn → s.gSinks (tgNum t 0 1) = [n] → n < 16 →
    s.flag (GTN_MBC_OWN n) = true → s.gln.waiting = none →
    Gives (.pdDataReceive p t) s (fun u => u.get (GTN_MBC_OWN n) = 0 ∧ u.ramWord (mbLen n) = t.data.length - 1 ∧ u.ramWord (mbStatus n) = 0 ∧
      u.ramWord (mbSrc n) = t.src % 65536)) ∧
  (∀ (p n : Nat) (t : Telegram) (s : State), s.gTakes p tgPdData t = true → s.mode = modeGtn → s.gSinks (tgNum t 0 1) = [n] → n < 16 →
    s.flag (GTN_MBC_OWN n) = false → s.gln.waiting = none →
    Gives (.pdDataReceive p t) s (fun u => tabFind n u.gtn.sinks = some (t, (tabFind n s.gtn.sinks).isSome) ∧ u.gtn.ram = s.gtn.ram)) ∧
  (∀ (p : Nat) (t : Telegram) (s : State), s.gTakes p tgMsgPoll t = true → s.gln.named = true → t.dest = s.gln.pos → s.gMaster = false →
    s.gtn.msgOrder = [] → exec (.msgPollReceive p t) s = .next ((s.gHear p t).gSend (s.gBare tgNone 0)).settled) ∧
  (∀ (p n : Nat) (l : List Nat) (t : Telegram) (s : State), s.gTakes p tgMsgPoll t = true → s.gln.named = true → t.dest = s.gln.pos →
    s.gMaster = false → s.gtn.msgOrder = n :: l → 1 ≤ s.ramWord (mbLen n) → s.ramWord (mbLen n) ≤ 224 → tabGet 0 s.gln.attempts n < 4 →
    Gives (.msgPollReceive p t) s (fun u => u = (s.gHear p t).gSendMail n ∧ tabGet 0 u.gln.attempts n = tabGet 0 s.gln.attempts n + 1)) ∧
  (∀ (p : Nat) (t : Telegram) (s : State), s.gTakes p tgMsg t = true → s.mode = modeGtn → s.gln.named = true → t.dest = s.gln.pos → t.dest ≠ 0xFF →
    t.dest ≠ 0x20 → s.gln.waiting = none → exec (.gMsgReceive p t) s = .next (((s.gHear p t).gSend (s.gBare tgMsgAck t.src)).gDeliver t).settled) ∧
  (∀ (n : Nat) (t : Telegram) (s : State), (s.ownedMboxes mbMsgRx).find? (fun n => s.get (GTN_MBC_PARAM n) == 0 || s.get (GTN_MBC_PARAM n) == t.src)
    = some n → n < 16 → (s.gDeliver t).get (GTN_MBC_OWN n) = 0 ∧ (s.gDeliver t).ramWord (mbSrc n) = t.src % 65536 ∧ (s.gDeliver t).ramWord (mbStatus n) = 0) ∧
  (∀ (p n : Nat) (l : List Nat) (t : Telegram) (s : State), s.gTakes p tgMsgAck t = true → s.mode = modeGtn → s.gln.named = true → t.dest = s.gln.pos →
    s.gtn.msgOrder = n :: l → 0 < tabGet 0 s.gln.attempts n → s.gln.waiting = none →
    exec (.msgAckReceive p t) s = .next ((s.gHear p t).gMailDone n mbOk).settled) ∧
  (∀ (p : Nat) (t : Telegram) (s : State), s.gTakes p tgMsgAck t = true → s.mode = modeBorder → s.gln.named = true → t.dest = s.gln.pos →
    s.gln.waiting = none → Gives (.msgAckReceive p t) s (fun u => u.gln.queue = s.gln.queue.tail)) ∧
  (∀ (p : Nat) (t : Telegram) (s : State), s.gTakes p tgNone t = true → s.gln.waiting = none →
    exec (.noneReceive p t) s = .next (s.gHear p t).settled) ∧
  (∀ (p pos : Nat) (t : Telegram) (s : State), s.gTakes p tgNone t = true → s.gln.waiting = some (.msgPoll pos) → t.src = pos →
    exec (.noneReceive p t) s = .next ((s.gHear p t).gAnswered pos).gGoOn.settled)

/-! ### Redundant pair and referee (R364–R387) -/

/-- REF_SW is taken while the referee link is valid; the selected standby that sees the interlock free takes over,
variant A or B by its SYNC state; the member no longer selected leaves NATIVE for SAFE and drops its traffic; an
interlock that stays low is a fault. Readings of the model that clauses rest on: notes/assumptions/48. -/
def Obligations.TakeOver : Prop :=
  (∀ (level : Nat) (s : State), (s.hearsReferee = false ∨ s.pair.syncOk = false) → exec (.refSwTake level) s = .next s.settled) ∧
  (∀ (level : Nat) (s : State), s.hearsReferee = true → s.pair.syncOk = true → s.pairMember = true → s.pairSelected = true →
    level % 2 ≠ s.get PAIR_CFG_MEMBER → s.mode = modeNative → Gives (.refSwTake level) s (fun u => u.mode = modeSafe ∧ u.get GLB_MODE_LAST_CAUSE = 9 ∧
      u.get PAIR_STATUS_PERMISSION = 0 ∧ u.pair.driving = false ∧ u.get PAIR_STATUS_REF_SW = level % 2 ∧ u.get PAIR_STATUS_PENDING = 0)) ∧
  (∀ (level : Nat) (s : State), s.hearsReferee = true → s.pair.syncOk = true → s.pairMember = true → s.pairSelected = false →
    level % 2 = s.get PAIR_CFG_MEMBER → s.mode = modeStandby → Gives (.refSwTake level) s (fun u => u.get PAIR_STATUS_REF_SW = level % 2 ∧
      u.pair.taken = true ∧ u.mode = modeStandby ∧
      (s.syncState = syncSynced → u.pair.decidedB = false ∧ u.syncState = syncSynced) ∧
      (s.syncState ≠ syncSynced → u.pair.decidedB = true ∧ u.syncState = syncUnsynced ∧ u.pair.freshFlows = [] ∧
        u.get PAIR_STATUS_PENDING = (if s.enabledFlows = [] then 0 else 1)))) ∧
  (∀ s : State, (s.pairSelected = false ∨ s.pair.driving = true) → exec .interlockClaim s = .next s.settled) ∧
  (∀ s : State, s.pairSelected = true → s.pair.driving = false → s.mode = modeStandby → Gives .interlockClaim s (fun u => u.mode = modeNative ∧
    u.get GLB_MODE_LAST_CAUSE = 9 ∧ u.get GLB_MODE_PREV_MODE = modeStandby ∧ u.pair.driving = true ∧ u.get PAIR_STATUS_PERMISSION = 1 ∧
    u.get PAIR_EVENT_TAKEOVER = 1 ∧ u.get PAIR_TAKEOVER_VARIANT_B = b2n s.pair.decidedB ∧
    u.get PAIR_TAKEOVER_NS = satNat 16 (s.uptime - s.pair.swAt))) ∧
  (∀ s : State, s.pairSelected = true → s.pair.driving = false → s.mode = modeBoot → s.glb.bootStep = 7 →
    exec .interlockClaim s = .next s.claimToken.settled) ∧
  (∀ s : State, (s.pairSelected = false ∨ s.pair.driving = true ∨ s.inModes [modeBoot, modeStandby, modeNative] = false) →
    exec .interlockFault s = .next s.settled) ∧
  (∀ s : State, s.pairSelected = true → s.pair.driving = false → s.inModes [modeBoot, modeStandby, modeNative] = true →
    Does .interlockFault s (({ s with pair := { s.pair with partnerLow := true } } : State).set PAIR_EVENT_INTERLOCK_FAULT 1)) ∧
  (∀ s : State, (s.pairMember = false ∨ s.mode ≠ modeNative ∨ s.pair.variantBOver = true) → exec .variantBDeadline s = .next s.settled) ∧
  (∀ s : State, s.pairMember = true → s.mode = modeNative → s.pair.variantBOver = false → Gives .variantBDeadline s (fun u =>
    u.pair.variantBOver = true ∧ u.get FLW_GPIO_OUT_OUT = Nat.lor
      (andNot (s.get FLW_GPIO_OUT_OUT) (andNot (s.get FLW_GPIO_DIR_DIR) s.pair.outputsFresh))
      (Nat.land (s.get FLW_GPIO_SAFE_SAFE) (andNot (s.get FLW_GPIO_DIR_DIR) s.pair.outputsFresh)) % 2 ^ 32 ∧
    (andNot (s.get FLW_GPIO_DIR_DIR) s.pair.outputsFresh ≠ 0 → u.get PAIR_EVENT_OUTPUTS_SAFE = 1))) ∧
  (∀ (free : Bool) (s : State), (s.mode ≠ modeBoot ∨ s.glb.held = true ∨ s.glb.bootStep ≠ 7) →
    exec (.pairBootFinalStep free) s = .next s.settled) ∧
  (∀ (free : Bool) (s : State), s.mode = modeBoot → s.glb.held = false → s.glb.bootStep = 7 → s.pair.driving = true →
    exec (.pairBootFinalStep free) s = .next (s.endAnyBoot modeNative).settled) ∧
  (∀ s : State, s.mode = modeBoot → s.glb.held = false → s.glb.bootStep = 7 → s.pair.driving = false → s.pairSelected = true →
    exec (.pairBootFinalStep true) s = .next (s.claimToken.endAnyBoot modeNative).settled) ∧
  (∀ (free : Bool) (s : State), s.mode = modeBoot → s.glb.held = false → s.glb.bootStep = 7 → s.pair.driving = false →
    (s.pairSelected = false ∨ free = false) → exec (.pairBootFinalStep free) s = .next (s.releaseInterlock.endAnyBoot modeStandby).settled)

/-- The referee counts missing and invalid reports, holds or switches by its criteria, adopts a member at its start,
sends SYNC each period and obeys SELECT. The members follow SYNC, and lose the referee with its clock or the second
SYNC missing in a row. Readings of the model that clauses rest on: notes/assumptions/9, 49. -/
def Obligations.Referee : Prop :=
  (∀ (r0 r1 : ReportIn) (s : State), s.mode ≠ modeReferee → exec (.refereeEvaluate r0 r1) s = .next s.settled ∧
    exec (.refereeAdoptEnd r0 r1) s = .next s.settled ∧ exec .refereeSyncSend s = .next s.settled ∧ exec (.aliveWatchTimeout 0) s = .next s.settled) ∧
  (∀ (r0 r1 : ReportIn) (s : State), s.mode = modeReferee →
    exec (.refereeEvaluate r0 r1) s = .next ((s.takeHealth 0 r0).takeHealth 1 r1).judge.settled) ∧
  (∀ (m : Nat) (r : Report) (s : State), m < 2 → (s.takeHealth m (.report r)).reportOf m = some r ∧
    (s.takeHealth m (.report r)).get (if m = 0 then PAIR_REF_STATUS_MISSED0 else PAIR_REF_STATUS_MISSED1) = 0 ∧
    (s.takeHealth m (.report r)).get (eligField m) = b2n (reportEligible r)) ∧
  (∀ (m : Nat) (s : State), m < 2 → (s.takeHealth m .missing).get (if m = 0 then PAIR_REF_STATUS_MISSED0 else PAIR_REF_STATUS_MISSED1) =
      Nat.min 2 (s.get (if m = 0 then PAIR_REF_STATUS_MISSED0 else PAIR_REF_STATUS_MISSED1) + 1) ∧
    (s.takeHealth m .missing).get (eligField m) = 0 ∧ (s.takeHealth m .missing).reportOf m = none) ∧
  (∀ s : State, s.get PAIR_REF_STATUS_STATE ≠ 0 → s.criterion (s.get PAIR_REF_STATUS_SEL) = false →
    s.judge.get PAIR_REF_STATUS_STATE = 1 ∧ s.judge.get PAIR_REF_STATUS_SEL = s.get PAIR_REF_STATUS_SEL) ∧
  (∀ s : State, s.get PAIR_REF_STATUS_STATE ≠ 0 → s.criterion (s.get PAIR_REF_STATUS_SEL) = true →
    s.flag (eligField (1 - s.get PAIR_REF_STATUS_SEL)) = true → s.judge.get PAIR_REF_STATUS_SEL = 1 - s.get PAIR_REF_STATUS_SEL ∧
    s.judge.get PAIR_REF_STATUS_STATE = 1 ∧ .refSw (1 - s.get PAIR_REF_STATUS_SEL) ∈ s.judge.out ∧
    s.judge.get PAIR_REF_STAT_SWITCHES = satNat 16 (s.get PAIR_REF_STAT_SWITCHES + 1)) ∧
  (∀ s : State, s.get PAIR_REF_STATUS_STATE ≠ 0 → s.criterion (s.get PAIR_REF_STATUS_SEL) = true →
    s.flag (eligField (1 - s.get PAIR_REF_STATUS_SEL)) = false → s.judge.get PAIR_REF_STATUS_SEL = s.get PAIR_REF_STATUS_SEL ∧
    s.judge.get PAIR_REF_STATUS_STATE = 2) ∧
  (∀ (m : Nat) (s : State), s.mode = modeReferee → m < 2 → exec (.aliveWatchTimeout m) s = .next (s.aliveStops m).settled) ∧
  (∀ s : State, s.mode = modeReferee → Gives .refereeSyncSend s (fun u => u.regs = s.regs ∧ u.pair.frame = (s.pair.frame + 1) % 65536 ∧
    .sync ⟨s.get PAIR_REF_STATUS_SEL, s.get PAIR_REF_STATUS_STATE == 0, s.get PAIR_REF_STATUS_STATE, s.flag PAIR_REF_STATUS_ELIG0,
      s.flag PAIR_REF_STATUS_ELIG1, s.pair.frame⟩ ∈ u.out)) ∧
  (∀ (r0 r1 : ReportIn) (s : State), s.mode = modeReferee → s.get PAIR_REF_STATUS_STATE = 0 → s.pair.adoptLeft = 0 →
    Gives (.refereeAdoptEnd r0 r1) s (fun u => u.get PAIR_REF_STATUS_STATE = 1 ∧
      u.get PAIR_REF_STATUS_SEL = ((s.takeHealth 0 r0).takeHealth 1 r1).adopted ∧ .refSw ((s.takeHealth 0 r0).takeHealth 1 r1).adopted ∈ u.out)) ∧
  (∀ (path : Path) (arg : Nat) (s : State), s.accepts cmdSelect path arg → Gives (.select path arg) s (fun u =>
    u.get PAIR_REF_STATUS_SEL = arg % 2 ∧ u.get PAIR_REF_STATUS_STATE = 1 ∧ .refSw (arg % 2) ∈ u.out)) ∧
  (∀ (f : Option SyncFrame) (s : State), s.hearsReferee = false → exec (.syncReceive f) s = .next s.settled) ∧
  (∀ (f : SyncFrame) (s : State), s.hearsReferee = true → Gives (.syncReceive (some f)) s (fun u => u.pair.syncOk = (!f.adopt) ∧
    u.pair.syncMissed = 0 ∧ u.get PAIR_STATUS_ADOPT = b2n f.adopt ∧ u.get PAIR_STATUS_REF_LOST = 0 ∧
    (s.pairMember = true → ∃ r, .report r ∈ u.out ∧ r.seq = s.pair.rptSeq ∧ r.mode = s.mode))) ∧
  (∀ s : State, s.hearsReferee = true → s.pairMember = true → s.flag PAIR_STATUS_REF_LOST = false → 1 ≤ s.pair.syncMissed →
    Does (.syncReceive none) s (({ s with pair := { s.pair with syncOk := false, syncMissed := 2 } } : State).load
      [(PAIR_STATUS_REF_LOST, 1), (PAIR_EVENT_REF_LOST, 1)])) ∧
  (∀ s : State, s.hearsReferee = true → s.pair.syncMissed = 0 →
    exec (.syncReceive none) s = .next (State.settled { s with pair := { s.pair with syncOk := false, syncMissed := 1 } })) ∧
  (∀ s : State, s.pairMember = true → s.hearsReferee = true → Does .refLost s
    (({ s with pair := { s.pair with syncOk := false } } : State).load [(PAIR_STATUS_REF_LOST, 1), (PAIR_EVENT_REF_LOST, 1)]))

/-- The standby's steps: RESYNC asks for the full transfer, which brings it in step; an update keeps it there and a
missing one does not; a test takes it out and back; the pair link's loss leaves it UNSYNCED. Readings of the model
that clauses rest on: notes/assumptions/48, 49. -/
def Obligations.StandbyInStep : Prop :=
  (∀ (path : Path) (arg : Nat) (s : State), s.accepts cmdResync path arg → Gives (.resync path arg) s (fun u => u.syncState = syncResync ∧
    .pairTransferStart ∈ u.out ∧ u.get PAIR_STAT_RESYNCS = satNat 8 (s.get PAIR_STAT_RESYNCS + 1))) ∧
  (∀ (t : PairTransfer) (s : State), (s.mode ≠ modeStandby ∨ s.syncState ≠ syncResync) → exec (.stateTransferDone t) s = .next s.settled) ∧
  (∀ (t : PairTransfer) (s : State), s.mode = modeStandby → s.syncState = syncResync → t.uids = [] → Gives (.stateTransferDone t) s (fun u =>
    u.syncState = syncSynced ∧ u.get PAIR_EVENT_SYNCED = 1 ∧ u.cyc.pub = t.publication ∧ u.ina.uids = [] ∧ u.mode = modeStandby)) ∧
  (∀ (p : Option PairUpdate) (s : State), (s.mode ≠ modeStandby ∨ s.syncState < syncSynced) → exec (.pairUpdateReceive p) s = .next s.settled) ∧
  (∀ (p : PairUpdate) (s : State), s.mode = modeStandby → syncSynced ≤ s.syncState → Gives (.pairUpdateReceive (some p)) s (fun u =>
    u.get FLW_GPIO_OUT_OUT = p.gpio % 2 ^ 32 ∧ (∀ b, p.publication = some b → u.cyc.pub = b) ∧ u.pair.rxChecks = s.checksPassed p.crcs ∧
    u.cyc.crcs = [] ∧ u.syncState = s.syncState)) ∧
  (∀ s : State, s.mode = modeStandby → syncSynced ≤ s.syncState → exec (.pairUpdateReceive none) s = .next s.pairOutOfStep.settled) ∧
  (∀ s : State, s.pairOutOfStep.syncState = (if s.flag PAIR_STATUS_LINK = true ∧ s.pairSelected = false then syncResync else syncUnsynced) ∧
    (s.syncState = syncSynced → s.pairOutOfStep.get PAIR_EVENT_SYNC_LOST = 1)) ∧
  (∀ s : State, (s.mode ≠ modeStandby ∨ s.syncState ≠ syncTesting) → exec .pairTestStepEnd s = .next s.settled) ∧
  (∀ s : State, s.mode = modeStandby → s.syncState = syncTesting → Does .pairTestStepEnd s
    ((s.set PAIR_STATUS_SYNC syncSynced).set PAIR_EVENT_SYNCED 1)) ∧
  (∀ s : State, (s.pairMember = false ∨ s.flag PAIR_STATUS_LINK = false ∨ s.mode = modeSleep) → exec .pairLinkDown s = .next s.settled) ∧
  (∀ s : State, s.pairMember = true → s.flag PAIR_STATUS_LINK = true → s.mode ≠ modeSleep → Gives .pairLinkDown s (fun u =>
    u.get PAIR_STATUS_LINK = 0 ∧ u.get PAIR_STAT_LINK_LOSSES = satNat 8 (s.get PAIR_STAT_LINK_LOSSES + 1) ∧
    (s.mode = modeStandby → u.syncState = syncUnsynced) ∧ (s.mode ≠ modeStandby → u.syncState = s.syncState))) ∧
  (∀ s : State, (s.pairMember = false ∨ s.flag PAIR_STATUS_LINK = true ∨ s.mode = modeSleep) → exec .pairLinkUp s = .next s.settled) ∧
  (∀ s : State, s.pairMember = true → s.flag PAIR_STATUS_LINK = false → s.mode ≠ modeSleep → Gives .pairLinkUp s (fun u =>
    u.get PAIR_STATUS_LINK = 1 ∧ (s.mode = modeStandby → s.syncState = syncUnsynced → s.pairSelected = false → u.syncState = syncResync)))

/-! ### Sleep and wake (R388–R403) -/

/-- Frames of the sleep sequence act under the present counter and vote alone: REQ starts a vote at the head, CALL is
answered, a vote is noted and a no stands, COMMIT commits and arms, CANCEL ends, STAY confirms the wake. Readings of
the model that clauses rest on: notes/assumptions/50. -/
def Obligations.SleepFrames : Prop :=
  (∀ (m : SleepMsg) (s : State), ∀ e ∈ [(1, Instr.sleepReqReceive m), (2, .sleepCallReceive m), (3, .sleepVoteReceive m), (4, .sleepCommitReceive m),
    (5, .sleepCancelReceive m), (6, .sleepStayReceive m)], s.sleepActs m e.1 = false → exec e.2 s = .next (s.takeSleep m).settled) ∧
  (∀ (m : SleepMsg) (s : State), s.sleepActs m 1 = true → exec (.sleepReqReceive m) s = .next
    (if s.sleepHead = true ∧ s.running = true then (s.takeSleep m).startVote else s.takeSleep m).settled) ∧
  (∀ s : State, s.slpState ≠ slpVoting → s.slpState ≠ slpCommitted → s.startVote.slpState = slpVoting ∧ s.startVote.slp.callDue = true ∧
    s.startVote.slp.votes = [] ∧ s.startVote.get SLP_STATUS_VOTE_ID = (s.get SLP_STATUS_VOTE_ID + 1) % 2 ^ 16) ∧
  (∀ s : State, s.slpState = slpVoting ∨ s.slpState = slpCommitted → s.startVote = s) ∧
  (∀ (m : SleepMsg) (s : State), s.sleepActs m 2 = true → s.sleepHead = false → Gives (.sleepCallReceive m) s (fun u =>
    u.slpState = slpVoting ∧ u.get SLP_STATUS_VOTE_ID = m.voteId % 2 ^ 16 ∧ (s.inaSends = true → (3, 1) ∈ u.slp.sendNext))) ∧
  (∀ (m : SleepMsg) (s : State), s.sleepActs m 3 = true → s.sleepHead = true → s.slpState = slpVoting → Gives (.sleepVoteReceive m) s (fun u =>
    tabFind m.pos u.slp.votes = some ((tabFind m.pos s.slp.votes).getD true && m.code == 1))) ∧
  (∀ (m : SleepMsg) (s : State), s.sleepActs m 3 = true → (s.sleepHead = false ∨ s.slpState ≠ slpVoting) →
    exec (.sleepVoteReceive m) s = .next (s.takeSleep m).settled) ∧
  (∀ (m : SleepMsg) (s : State), s.sleepActs m 4 = true → s.sleepHead = false → s.slpState ≠ slpCommitted →
    (m.code ≠ 1 ∨ s.flag SLP_STATUS_CONFIRMED = false ∨ s.slp.fwRunning = true) → Gives (.sleepCommitReceive m) s (fun u =>
      u.slpState = slpCommitted ∧ u.get SLP_SLEEP_AT_CYCLE = m.sleepAt % 2 ^ 32 ∧ u.get SLP_EVENT_COMMIT = 1 ∧ u.slp.latched = 0 ∧
      u.slp.commitCode = m.code ∧ u.mode = s.mode)) ∧
  (∀ (m : SleepMsg) (s : State), s.sleepActs m 4 = true → s.sleepHead = false → s.slpState ≠ slpCommitted → m.code = 1 →
    s.flag SLP_STATUS_CONFIRMED = true → s.slp.fwRunning = false → Gives (.sleepCommitReceive m) s (fun u => (5, 3) ∈ u.slp.sendNext ∧
      u.slpState = s.slpState)) ∧
  (∀ (m : SleepMsg) (s : State), s.sleepActs m 5 = true → (s.slpState = slpVoting ∨ s.slpState = slpCommitted) → Gives (.sleepCancelReceive m) s (fun u =>
    u.slpState = (if s.slp.fwRunning = true then slpWatch else slpIdle) ∧
    u.get SLP_STATUS_RESULT = (if m.code = 1 then 2 else if m.code = 2 then 3 else 4) ∧
    ((m.code = 1 ∨ m.code = 2) → u.get SLP_EVENT_VOTE_FAIL = 1) ∧ (m.code ≠ 1 → m.code ≠ 2 → u.get SLP_EVENT_CANCEL = 1))) ∧
  (∀ (m : SleepMsg) (s : State), s.sleepActs m 6 = true → s.slp.fwRunning = true → Gives (.sleepStayReceive m) s (fun u =>
    u.get SLP_STATUS_CONFIRMED = 1 ∧ u.get SLP_EVENT_CONFIRMED = 1 ∧ u.slp.fwRunning = false ∧ (6, 0) ∈ u.slp.sendNext)) ∧
  (∀ (m : SleepMsg) (s : State), s.sleepActs m 6 = true → s.slp.fwRunning = false → exec (.sleepStayReceive m) s = .next (s.takeSleep m).settled)

/-- At the sleep instant a committed node enters SLEEP, with its resume area saved, the channels stopped and the
interlock released; an enabled wake source in SLEEP is latched and, once entry is complete, starts the wake boot; the
false-wake watch commits the train again. Readings of the model that clauses rest on: notes/assumptions/22, 50. -/
def Obligations.SleepAndWake : Prop :=
  (∀ s : State, (s.maySleep = false ∨ s.stackMember = true ∨ s.slpState ≠ slpCommitted) → exec .sleepInstant s = .next s.settled) ∧
  (∀ s : State, s.maySleep = true → s.stackMember = false → s.slpState = slpCommitted → Gives .sleepInstant s (fun u => u.mode = modeSleep ∧
    u.get GLB_MODE_LAST_CAUSE = (if s.slp.commitCode = 1 then 8 else 7) ∧ u.get GLB_MODE_PREV_MODE = s.mode ∧ u.slp.entered = false ∧
    u.get SLP_STATUS_RESULT = 1 ∧ u.get SLP_STAT_SLEEPS = satNat 16 (s.get SLP_STAT_SLEEPS + 1) ∧ u.get HRG_STATUS_LINK_UP = 0 ∧
    u.get PAIR_STATUS_PERMISSION = 0 ∧ u.pair.driving = false ∧ ∃ r, u.resume = some r ∧ r.mode = s.mode)) ∧
  (∀ s : State, (s.mode ≠ modeSleep ∨ s.slp.entered = true) → exec .sleepEntryDone s = .next s.settled) ∧
  (∀ s : State, s.mode = modeSleep → s.slp.entered = false → s.slp.latched = 0 → s.rcd.writing = none → exec .sleepEntryDone s =
    .next (State.settled { s with slp := { s.slp with entered := true } })) ∧
  (∀ (src : Nat) (s : State), s.mode = modeSleep → s.slp.entered = false → s.wake src =
    { s with slp := { s.slp with latched := setBitOf s.slp.latched src } }) ∧
  (∀ (src : Nat) (s : State), s.mode = modeSleep → s.slp.entered = true → s.wake src =
    ({ s with slp := { s.slp with latched := setBitOf s.slp.latched src } } : State).showWakeSrc.startBoot .wake 6 none) ∧
  (∀ s : State, (s.startBoot .wake 6 none).mode = modeBoot ∧ (s.startBoot .wake 6 none).get GLB_MODE_LAST_CAUSE = 6 ∧
    (s.startBoot .wake 6 none).get GLB_BOOT_STATUS_WAKE_BOOT = 1 ∧ (s.startBoot .wake 6 none).resume = s.resume) ∧
  (∀ (p : Nat) (s : State), exec (.wakeLineActivity p) s = .next
    (if p < 4 ∧ s.mode = modeSleep ∧ s.flag SLP_CFG_LINE_EN = true ∧ s.flag (LN_CFG_WAKE_ARM p) = true then s.wake p else s).settled) ∧
  (∀ (n : Nat) (s : State), exec (.wakeCanPattern n) s = .next (if n < 12 ∧ s.bitAt SLP_CFG_CAN_EN n = true then s.wake (4 + n) else s).settled) ∧
  (∀ (i : Nat) (s : State), i < 4 → exec (.wakePin i false) s = .next (s.clearBit SLP_WAKE_LIVE_WAKE i).settled) ∧
  (∀ (i : Nat) (s : State), i < 4 → s.bitAt SLP_CFG_WAKE_EN i = true → exec (.wakePin i true) s = .next
    ((if s.bitAt SLP_WAKE_CFG_EDGE i = true then s else s.setBit SLP_WAKE_LIVE_WAKE i).wake (16 + i)).settled) ∧
  (∀ s : State, exec .wakeTimer s = .next (if s.mode = modeSleep ∧ s.flag SLP_CFG_TIMER_EN = true then s.wake 20 else s).settled) ∧
  (∀ s : State, exec .stackWakeActivity s = .next
    (if s.mode = modeSleep ∧ s.flag STK_CFG_EN = true ∧ s.pairMember = false then s.wake 22 else s).settled) ∧
  (∀ s : State, (s.slp.fwRunning = false ∨ s.slp.fwExpired = true) → exec .falseWakeTimeout s = .next s.settled) ∧
  (∀ s : State, s.slp.fwRunning = true → s.slp.fwExpired = false → exec .falseWakeTimeout s = .next (State.settled { s with slp := { s.slp with
    fwExpired := true, commitDue := if s.sleepHead = true ∧ s.running = true then some 1 else s.slp.commitDue } })) ∧
  (∀ s : State, s.slp.fwRunning = true → s.slp.fwExpired = true → s.sleepHead = false → s.maySleep = true → s.slpState ≠ slpCommitted →
    Gives .falseWakeFallback s (fun u => u.mode = modeSleep ∧ u.get GLB_MODE_LAST_CAUSE = 8 ∧ u.get SLP_EVENT_FALSE_WAKE = 1 ∧
      u.get SLP_STAT_FALSE_WAKES = satNat 8 (s.get SLP_STAT_FALSE_WAKES + 1))) ∧
  (∀ s : State, (s.slp.fwRunning = false ∨ s.slp.fwExpired = false ∨ s.sleepHead = true ∨ s.maySleep = false ∨ s.slpState = slpCommitted) →
    exec .falseWakeFallback s = .next s.settled) ∧
  (∀ s : State, Gives .wakeLinkHoldEnd s (fun u => u.slp.holdEnd1 = false ∧ u.slp.holdEnd2 = false)) ∧
  (∀ s : State, s.slp.holdEnd1 = false → s.slp.holdEnd2 = false → exec .wakeLinkHoldEnd s = .next s.settled)

/-! ### Key vault and tamper (R441–R457) -/

/-- WRITE marks the record of the bank not in use PENDING and commits it when the steps end; ERASE clears both banks;
SWITCH waits for its cycle; at the switch point the epochs change. A tamper alarm of an enabled source, while the
always-on domain runs, zeroizes every key, latches TAMPERED and its sources in every mode, and takes a running node to
SAFE; TAMPER_CLEAR clears the latch once no source is live. Readings of the model that clauses rest on:
notes/assumptions/52. -/
def Obligations.VaultAndTamper : Prop :=
  (∀ (path : Path) (arg : Nat) (s : State), s.accepts cmdKeyWrite path arg → Gives (.keyWrite path arg) s (fun u =>
    u.key.op = some (arg % 64, some (s.get KEY_WRITE_CFG_PURPOSE), s.get KEY_DATA_KEY, s.writeBank (arg % 64)) ∧
    u.keyBank (arg % 64) (s.writeBank (arg % 64)) = sealBank { s.keyBank (arg % 64) (s.writeBank (arg % 64)) with
      gen := s.nextGen (arg % 64), purpose := s.get KEY_WRITE_CFG_PURPOSE, state := bankPending, kcv := kcvOf (s.get KEY_DATA_KEY) } ∧
    u.get KEY_DATA_KEY = s.get KEY_DATA_KEY)) ∧
  (∀ (path : Path) (arg : Nat) (s : State), s.accepts cmdKeyWrite path arg → s.slotProtected (arg % 64) = false ∧
    1 ≤ s.get KEY_WRITE_CFG_PURPOSE ∧ s.get KEY_WRITE_CFG_PURPOSE ≤ 6 ∧ s.key.op = none) ∧
  (∀ (slot p key b : Nat) (s : State), s.key.op = some (slot, some p, key, b) → slot < 64 → b < 2 → Gives .keyWriteDone s (fun u =>
    u.key.op = none ∧ u.get KEY_DATA_KEY = 0 ∧ u.keyBank slot b = sealBank { s.keyBank slot b with
      state := bankCommitted, data := Nat.xor key (s.storageKey slot b (s.keyBank slot b).gen) } ∧
    u.keyBank slot (1 - b) = s.keyBank slot (1 - b) ∧ u.get KEY_STAT_WRITES = satNat 16 (s.get KEY_STAT_WRITES + 1))) ∧
  (∀ s : State, s.key.op = none → exec .keyWriteDone s = .next s.settled ∧ exec .keyEraseDone s = .next s.settled) ∧
  (∀ (path : Path) (arg : Nat) (s : State), s.accepts cmdKeyErase path arg → Gives (.keyErase path arg) s (fun u =>
    u.key.op = some (arg % 64, none, 0, 0) ∧ u.mram = s.mram)) ∧
  (∀ (slot x y : Nat) (s : State), s.key.op = some (slot, none, x, y) → slot < 64 → Gives .keyEraseDone s (fun u => u.key.op = none ∧
    u.keyBank slot 0 = zeroBank ∧ u.keyBank slot 1 = zeroBank ∧ u.get (KEY_SLOT_STATUS_STATE slot) = slotEmpty ∧
    u.get (KEY_SLOT_STATUS_GEN slot) = 0 ∧ u.get KEY_STAT_WRITES = satNat 16 (s.get KEY_STAT_WRITES + 1))) ∧
  (∀ (path : Path) (arg : Nat) (s : State), s.accepts cmdKeySwitch path arg → Does (.keySwitch path arg) s
    ((s.begun cmdKeySwitch path arg).keyMap (fun v => if hasBit (arg % 65536) 0 then { v with switchFlow := true } else { v with switchFrame := true }))) ∧
  (∀ s : State, ((s.key.switchFlow = false ∧ s.key.switchFrame = false) ∨
    cycleReached (s.get CYC_CYCLE_CYCLE) (s.get KEY_SW_CYCLE_CYCLE) = false) → exec .keySwitchPoint s = .next s.settled) ∧
  (∀ s : State, s.key.switchFrame = true → s.key.switchFlow = false → cycleReached (s.get CYC_CYCLE_CYCLE) (s.get KEY_SW_CYCLE_CYCLE) = true →
    Gives .keySwitchPoint s (fun u => u.key.switchFrame = false ∧ u.key.switchFlow = false ∧
      u.get KEY_EPOCH_FRAME_ACTIVE = (if s.isHead = true then 1 - s.get KEY_EPOCH_FRAME_ACTIVE else s.get KEY_EPOCH_FRAME_ACTIVE) ∧
      u.get KEY_EPOCH_FLOW_ACTIVE = s.get KEY_EPOCH_FLOW_ACTIVE)) ∧
  (∀ s : State, s.key.switchFlow = true → cycleReached (s.get CYC_CYCLE_CYCLE) (s.get KEY_SW_CYCLE_CYCLE) = true →
    Gives .keySwitchPoint s (fun u => u.key.switchFlow = false ∧ u.get KEY_EPOCH_FLOW_ACTIVE = 1 - s.get KEY_EPOCH_FLOW_ACTIVE)) ∧
  (∀ (n : Nat) (s : State), (s.tamperEnabled n = 0 ∨ s.pwr.aon = false) → exec (.tamperAlarm n) s = .next s.settled) ∧
  (∀ (n : Nat) (s : State), s.tamperEnabled n ≠ 0 → s.pwr.aon = true → Gives (.tamperAlarm n) s (fun u => u.mram.banks = [] ∧
    u.key.tamperedAon = true ∧ u.key.op = none ∧ u.otp.root = s.otp.root)) ∧
  (∀ (n : Nat) (s : State), s.tamperEnabled n ≠ 0 → s.pwr.aon = true → s.pwr.regulators = true → s.glb.held = false → s.lc ≠ lcScrapped →
    s.inModes [modeNative, modeBorder, modeStandby, modeGtn] = true → Gives (.tamperAlarm n) s (fun u => u.mode = modeSafe ∧
      u.get GLB_MODE_LAST_CAUSE = 5 ∧ u.mram.tampered = true ∧ u.mram.banks = [] ∧ u.get KEY_DATA_KEY = 0 ∧ u.get KEY_STATUS_ZEROIZED = 1 ∧
      u.get KEY_TAMPER_STATUS_LATCHED = s.tamperEnabled n % 2 ^ 8 ∧ u.key.program = none)) ∧
  (∀ (n : Nat) (s : State), s.tamperEnabled n ≠ 0 → s.pwr.aon = true → s.pwr.regulators = false → Gives (.tamperAlarm n) s (fun u =>
    u.key.deferred = some ((s.tamperEnabled n + 128) % 2 ^ 8, 0xFF) ∧ u.mram.tampered = s.mram.tampered ∧ u.mode = s.mode)) ∧
  (∀ (path : Path) (arg : Nat) (s : State), s.accepts cmdTamperClear path arg → s.mode = modeSafe ∧ s.key.live = 0 ∧
    Does (.tamperClear path arg) s (({ s.begun cmdTamperClear path arg with
      key := { (s.begun cmdTamperClear path arg).key with tamperedAon := false }
      mram := { (s.begun cmdTamperClear path arg).mram with tampered := false } } : State)))

/-! ### Stack ring (R458–R472) -/

/-- The master sends a beacon at each beacon time; its return gives the membership and heals the ring; the third
missing in a row breaks it; a beacon of a lower UID closes the node's bypass. Lanes, BYPASS and REJOIN. A member
forwards each valid beacon with its bit set and its correction raised, takes the master's topology and time from it,
and is ORPHAN without; frames on the ring are taken, relayed, handed to the lines or stripped. Readings of the model
that clauses rest on: notes/assumptions/53, 54. -/
def Obligations.StackRing : Prop :=
  (∀ s : State, s.ringMaster = false → exec .beaconSend s = .next s.settled) ∧
  (∀ s : State, s.ringMaster = true → s.stk.outstanding = false → exec .beaconSend s = .next (s.sendBeacon false).settled) ∧
  (∀ s : State, s.ringMaster = true → s.stk.outstanding = true → s.stk.missing < 2 → Gives .beaconSend s (fun u =>
    u.stk.missing = s.stk.missing + 1 ∧ u.ringState = s.ringState ∧ u.stk.count = (s.stk.count + 1) % 2 ^ 32 ∧
    u.get STK_STAT_BEACON_MISS = satNat 16 (s.get STK_STAT_BEACON_MISS + 1))) ∧
  (∀ s : State, s.ringMaster = true → s.stk.outstanding = true → 2 ≤ s.stk.missing → Gives .beaconSend s (fun u => u.ringState = stkBroken ∧
    (s.ringState ≠ stkBroken → u.get STK_EVENT_RING_BROKEN = 1) ∧ u.stk.outstanding = true)) ∧
  (∀ (a : Bool) (s : State), (s.sendBeacon a).stk = { s.stk with count := (s.stk.count + 1) % 2 ^ 32, outstanding := true, epochDue := false, sentAt := s.uptime } ∧
    .beacon (s.beaconNow a) ∈ (s.sendBeacon a).out ∧ (s.sendBeacon a).regs = s.regs) ∧
  (∀ (b : Beacon) (s : State), s.ringMaster = false → exec (.beaconReturn b) s = .next s.settled) ∧
  (∀ (b : Beacon) (s : State), s.ringMaster = true → b.crcOk = false → exec (.beaconReturn b) s = .next (s.bump STK_STAT_CRC_ERR).settled) ∧
  (∀ (b : Beacon) (s : State), s.ringMaster = true → b.crcOk = true → b.masterUid = s.ownUid → s.slpState ≠ slpVoting → Gives (.beaconReturn b) s (fun u =>
    u.ringState = stkActive ∧ u.get STK_PRESENT_PRESENT = b.present % 2 ^ 64 ∧ u.get STK_READY_READY = b.ready % 2 ^ 64 ∧ u.stk.missing = 0 ∧
    (s.ringState = stkBroken → u.get STK_EVENT_RING_HEALED = 1))) ∧
  (∀ (b : Beacon) (s : State), s.ringMaster = true → b.crcOk = true → b.masterUid < s.ownUid →
    Does (.beaconReturn b) s (s.load [(STK_STATUS_DUP, 1), (STK_EVENT_DUP, 1)])) ∧
  (∀ (b : Beacon) (s : State), s.ringMaster = true → b.crcOk = true → s.ownUid < b.masterUid → exec (.beaconReturn b) s = .next s.settled) ∧
  (∀ s : State, exec .stackLaneDown s = .next (if s.stackMode = true then s.set STK_STATUS_LINK_IN 0 else s).settled ∧
    exec .stackLaneUp s = .next (if s.stackMode = true then s.set STK_STATUS_LINK_IN 2 else s).settled) ∧
  (∀ (path : Path) (arg : Nat) (s : State), s.accepts cmdBypass path arg → Does (.bypass path arg) s
    ((s.begun cmdBypass path arg).stkMap (fun k => { k with bypass := true }))) ∧
  (∀ (path : Path) (arg : Nat) (s : State), s.accepts cmdStkRejoin path arg → Does (.stkRejoin path arg) s
    (((s.begun cmdStkRejoin path arg).set STK_STATUS_DUP 0).stkMap (fun k => { k with bypass := false, outstanding := false, missing := 0 }))) ∧
  (∀ (b : Beacon) (rx tx : Int) (s : State), s.ringMember = false → exec (.beaconForward b rx tx) s = .next s.settled) ∧
  (∀ (b : Beacon) (rx tx : Int) (s : State), s.ringMember = true → b.crcOk = false → exec (.beaconForward b rx tx) s =
    .next ((s.bump STK_STAT_CRC_ERR).emit (.beacon b)).settled) ∧
  (∀ (b : Beacon) (rx tx : Int) (s : State), s.ringMember = true → b.crcOk = true → hasBit b.present s.stackPos = true →
    Does (.beaconForward b rx tx) s (s.load [(STK_STATUS_DUP, 1), (STK_EVENT_DUP, 1)])) ∧
  (∀ (b : Beacon) (rx tx : Int) (s : State), s.ringMember = true → b.crcOk = true → hasBit b.present s.stackPos = false → b.topo = s.topo →
    b.epoch = false → b.sleep = false → Gives (.beaconForward b rx tx) s (fun u => u.ringState = stkActive ∧
      u.get STK_PRESENT_PRESENT = setBitOf b.present s.stackPos % 2 ^ 64 ∧ u.get STK_MASTER_UID_UID = b.masterUid % 2 ^ 64 ∧
      u.get INA_STATUS_GRACE = b2n b.grace ∧
      .beacon { b with corr := b.corr + s.stackHop + s.scaled (tx - rx), present := setBitOf b.present s.stackPos
                       ready := if s.selfReady = true then setBitOf b.ready s.stackPos else b.ready } ∈ u.out)) ∧
  (∀ s : State, (s.ringMember = false ∨ s.ringState = stkOrphan) → exec .stackOrphanTimeout s = .next s.settled) ∧
  (∀ s : State, s.ringMember = true → s.ringState ≠ stkOrphan → Gives .stackOrphanTimeout s (fun u => u.ringState = stkOrphan ∧
    u.get STK_EVENT_ORPHAN = 1 ∧ u.mode = s.mode)) ∧
  (∀ (f : MsgFrame) (s : State), s.stackRuns = false → exec (.stackFrameReceive f) s = .next s.settled) ∧
  (∀ (f : MsgFrame) (s : State), s.stackRuns = true → msgWellFormed f (msgCodeGroups f) = false →
    exec (.stackFrameReceive f) s = .next (s.bump MSG_STAT2_FRAME_ERR).settled) ∧
  (∀ (f : MsgFrame) (s : State), s.stackRuns = true → msgWellFormed f (msgCodeGroups f) = true → f.src = s.ownAddr → addrGroup f.dst = false →
    exec (.stackFrameReceive f) s = .next (s.bump STK_STAT2_UNDELIVERED).settled) ∧
  (∀ (f : MsgFrame) (s : State), s.stackRuns = true → msgWellFormed f (msgCodeGroups f) = true → f.src ≠ s.ownAddr → s.presentTopo f.topo = false →
    s.graceTakes f = false → exec (.stackFrameReceive f) s = .next (s.bump INA_STAT2_OLD_DISCARD).settled) ∧
  (∀ (f : MsgFrame) (s : State), s.stackRuns = true → msgWellFormed f (msgCodeGroups f) = true → f.src ≠ s.ownAddr → s.presentTopo f.topo = true →
    exec (.stackFrameReceive f) s = .next (if s.stackMember = true then s.memberFrame f true else s.masterFrame f true).settled) ∧
  (∀ (f : MsgFrame) (acts : Bool) (s : State), s.stackRuns = true → addrGroup f.dst = false → s.stackInside f.dst = true → addrStk f.dst ≠ s.stackPos →
    s.memberFrame f acts = s.emit (.stackFrame f)) ∧
  (∀ (f : MsgFrame) (s : State), addrGroup f.dst = false → s.stackInside f.dst = true → addrStk f.dst = s.stackPos → f.type = 0 → s.running = true →
    s.stackInside f.src = true → s.memberFrame f true = s.offer chStack { ch := chStack, sel := addrStk f.src, data := f.payload, frame := some f })

/-! ### What the end of every step leaves -/

/-- With no command waiting one cycle of CLK_TT passes: elapsed time by 8 ns, uptime too unless reset is held or the
node sleeps; nothing else changes (the model's choice, notes/assumptions/8.md). The end of a step (the overflow line,
an escalation that is due, ports and pins that follow the mode) changes in a calm state neither the mode and the life
cycle nor fuses, keys, time and the commands that wait; in no state does it change fuses, time and the commands that
wait. Readings of the model that clauses rest on: notes/assumptions/8. -/
def Obligations.StepsBetweenCommands : Prop :=
  (∀ s : State, s.pending = [] →
    ∃ t, step s = .next t ∧ t = { s with uptime := t.uptime, elapsed := t.elapsed } ∧ t.elapsed = s.elapsed + 8 ∧
      (s.glb.held = false → ¬(s.mode = modeSleep ∧ s.slp.entered = true) → t.uptime = s.uptime + 8) ∧
      (s.glb.held = true → t.uptime = s.uptime)) ∧
  (∀ s : State, s.calm → s.settled.mode = s.mode ∧ s.settled.lc = s.lc ∧ s.settled.key = s.key ∧ s.settled.mram.banks = s.mram.banks ∧
    s.settled.get GLB_MODE_LAST_CAUSE = s.get GLB_MODE_LAST_CAUSE) ∧
  (∀ s : State, s.settled.otp = s.otp ∧ s.settled.pending = s.pending ∧ s.settled.uptime = s.uptime ∧ s.settled.elapsed = s.elapsed)

/-! ### Frames: what the commands of a block leave as it was -/

/-- The fields that an accepted or rejected command writes to report itself (R34, R36, R50). -/
abbrev Sys2Proof.Machine.commandFields : List Field :=
  [GLB_CMD_STATUS_SEQ, GLB_CMD_STATUS_CODE, GLB_CMD_STATUS_STATUS, GLB_CMD_REJECT_CNT_COUNT, GLB_MODE_BUSY,
    GLB_LC_DBG_FAIL_CNT, GLB_AUTH_NONCE_NONCE]

/-- The state s with what a command takes to report itself from u: nonce draws, the busy time of authentication,
the commands in progress. -/
def Sys2Proof.Machine.State.reported (s u : State) : State :=
  { s with free := u.free, glb := { s.glb with authBusy := u.glb.authBusy, running := u.glb.running } }

/-- The fields that the message switch, the flow engine and the bridge write when a frame of the node is routed or
dropped. -/
abbrev Sys2Proof.Machine.routeFields : List Field :=
  [MSG_EVENT_QUEUE_DROP, MSG_EVENT_UNROUTABLE, MSG_STAT2_QUEUE_DROP, MSG_STAT_UNROUTABLE, FLW_STAT_ING_DROP,
    BRG_EVENT_POSTED_FAULT, BRG_STATUS_LOCK_OUT] ++ forEach 8 [BRG_AP_STATUS_STATUS]

/-- The fields that show the status of a flow. -/
abbrev Sys2Proof.Machine.flowFields : List Field :=
  [FLW_EVENT_FLOW_STATUS, FLW_STATUS_ACTIVE] ++ forEach 32 [FLW_SUSP_SUSP] ++ forEach 1024 [FCTX_STATUS]

/-- The registers of CAN channel n, and the legacy host view, which shows channels 0 and 1. -/
abbrev Sys2Proof.Machine.canKeys (n k : Nat) : Bool := within (0x20000 + 0x1000 * n) (0x21000 + 0x1000 * n) k || decide (8 * 0x200000 ≤ k)

/-- The registers that an entry into SAFE writes: mode and BOOT fields, interlock, CAN channels, the consist
controller's state, the bridge's, and what the end of BOOT shows. -/
abbrev Sys2Proof.Machine.safeKeys (k : Nat) : Bool :=
  within 0x20000 0x2C000 k || named [GLB_BOOT_TIME_US, GLB_MODE_LAST_CAUSE, GLB_MODE_MODE, GLB_MODE_PREV_MODE, GLB_MODE_SUBSTATE,
    BRG_STATUS_RUN, BRG_STATUS_TGT_LOCKED, BRG_TGT_LOCK_HOLDER, BRG_TGT_LOCK_REMAIN, CST_STATUS_GSTATE, CST_STATUS_STATE,
    CST_SYNC_RATE, PAIR_EVENT_RELEASED, PAIR_STATUS_PERMISSION] k

/-- The fields that the end of BOOT shows (`State.showDerived`), and its result. -/
abbrev Sys2Proof.Machine.derivedFields : List Field :=
  [GLB_BOOT_STATUS_RESULT, GLB_BOOT_STATUS_TAMPERED, BRG_STATUS_SHED, CYC_CFG_AUTH, CYC_STATUS_AUTH, CYC_STATUS_EMIT,
    FLW_STATUS_RUN, INA_SENSE_PRIO, KEY_STATUS_TAMPERED, KEY_STATUS_TEST_ROOT, PAIR_STATUS_INTERLOCK, STK_STATUS_BYPASS,
    STK_STATUS_MASTER, STK_STATUS_STATE]

/-- The key slots' status, and what zeroization shows. -/
abbrev Sys2Proof.Machine.zeroizeFields : List Field :=
  [KEY_DATA_KEY, KEY_STATUS_CORRUPT, KEY_STATUS_INTERRUPTED, KEY_STATUS_ZEROIZED, KEY_STAT_ZEROIZES] ++
    forEach 64 [KEY_SLOT_STATUS_BANK, KEY_SLOT_STATUS_GEN, KEY_SLOT_STATUS_PURPOSE, KEY_SLOT_STATUS_STATE]

/-- Frames of the commands of line ports, inauguration, message switch and sleep that the statements above describe by
what they give: beside reports, each writes the registers named here alone, and leaves every part of the state but
those named as it was; a command of a line port leaves the other ports. Readings of the model that clauses rest on:
notes/assumptions/28. -/
def Obligations.LineAndRunCommandsConfined : Prop :=
  (∀ (p : Nat) (al : Bool) (s : State), ∀ c ∈ [Instr.linkLossOfSignal p, .linkCodeError p al, .acquireTimeout p, .linkUp p],
    Gives c s (fun u => Frame s u (named [INA_STAT_LINK_BLIPS, LN_DELAY_DELAY p, LN_DELAY_SRC p, LN_ERR_CNT_CODE_ERRORS p,
      LN_ERR_CNT_LINK_DOWNS p, LN_STATUS_CAL_LOCK p, LN_STATUS_LINK p, LN_STATUS_SIG_DET p, GTN_LEC_CODE p])
      { s with ina := u.ina, ports := u.ports } ∧ ∀ q, q ≠ p → u.port q = s.port q)) ∧
  (∀ (p : Nat) (s : State), Gives (.signalDetect p) s (fun u => Frame s u (named [LN_EQ_TAP1 p, LN_EQ_TAP2 p, LN_EQ_TAP3 p,
    LN_EQ_TAP4 p, LN_EQ_TAP5 p, LN_STATUS_LINK p, LN_STATUS_SIG_DET p]) { s with ports := u.ports } ∧
    ∀ q, q ≠ p → u.port q = s.port q)) ∧
  (∀ (p ctle eye cond : Nat) (taps : List Int) (vcm : Int) (sleep : Bool) (s : State),
    ∀ c ∈ [Instr.shadowUpdate p ctle taps eye, .commonModeDetect p vcm, .pairFaultClear p cond, .kaTestEnd p sleep],
    Gives c s (fun u => Frame s u (named [LN_EQ2_EYE p, LN_STATUS_CAL_LOCK p, LN_CM_PEAK p, LN_CM_VCM p, LN_FAULT_COMMON_MODE p,
      LN_TRX_FS_SLEEP p, LN_TRX_KA_TEST p]) { s with ports := u.ports } ∧ ∀ q, q ≠ p → u.port q = s.port q)) ∧
  (∀ (path : Path) (p arg : Nat) (s : State), Gives (.recalibrate path p arg) s (fun u => Frame s u
    (named (commandFields ++ [INA_STAT_LINK_BLIPS, LN_DELAY_DELAY p, LN_DELAY_SRC p, LN_EQ2_CTLE p, LN_EQ_TAP1 p, LN_EQ_TAP2 p,
      LN_EQ_TAP3 p, LN_EQ_TAP4 p, LN_EQ_TAP5 p, LN_ERR_CNT_LINK_DOWNS p, LN_STATUS_CAL_LOCK p, LN_STATUS_LINK p]))
    { s.reported u with ina := u.ina, ports := u.ports } ∧ ∀ q, q ≠ p → u.port q = s.port q)) ∧
  (∀ (p : Nat) (f : InaFrame) (s : State), ∀ c ∈ [Instr.helloReceive p f, .alertReceive p f, .doneReceive p f, .runTimeout],
    Gives c s (fun u => Frame s u (named [INA_EVENT_FAILED, INA_EVENT_RESTART, INA_STATUS_FAILED, INA_STATUS_STATE,
      INA_STATUS_ATTEMPT, INA_STAT_RESTARTS, MSG_STAT3_ABORT_RESEND])
      { s with ina := u.ina, msg := u.msg, ports := u.ports, slp := u.slp })) ∧
  (∀ (p : Nat) (f : InaFrame) (s : State), ∀ c ∈ [Instr.retReceive p f, .inaugCommitReceive p f],
    Gives c s (fun u => Frame s u (fun k => within 0x5000 0x6000 k || within 0x8000 0xE000 k || within 0x30000 0x38000 k ||
        within 0x40000 0x60000 k || named [KEY_EPOCH_FLOW_ACTIVE, KEY_EPOCH_FRAME_ACTIVE, SLP_STATUS_RESULT, SLP_STATUS_STATE] k)
      { s with brg := u.brg, cyc := u.cyc, flw := u.flw, ina := u.ina, msg := u.msg, ports := u.ports, slp := u.slp, tim := u.tim
               key := { s.key with switchFlow := u.key.switchFlow, switchFrame := u.key.switchFrame }
               mram := { s.mram with ivReserved := u.mram.ivReserved, keyAge := u.mram.keyAge, topo := u.mram.topo } })) ∧
  (∀ (f : MsgFrame) (s : State), Gives (.hopdlyReceive f) s (fun u => Frame s u
    (fun k => within 0x30000 0x38000 k || within 0x40000 0x60000 k || named (routeFields ++ flowFields ++ [FLW_EVENT_IV_WARN,
      FLW_IVCNT_IVCNT, FLW_STAT2_AUTH_FAIL]) k)
    { s with brg := u.brg, flw := u.flw, ina := u.ina, msg := u.msg
             cyc := { s.cyc with degraded := u.cyc.degraded }, mram := { s.mram with ivReserved := u.mram.ivReserved } })) ∧
  (∀ (f : MsgFrame) (s : State), Gives (.slotMapReceive f) s (fun u => Frame s u (fun _ => false) { s with cyc := u.cyc, msg := u.msg })) ∧
  (∀ (p groups : Nat) (f : MsgFrame) (s : State), Gives (.msgFrameReceive p f groups) s (fun u => Frame s u
    (named (routeFields ++ [INA_STAT2_GRACE_ACCEPT, INA_STAT2_OLD_DISCARD, MSG_POL_CNT_DISCARDS (8 * p + f.prio % 8), MSG_STAT2_FRAME_ERR,
      MSG_STAT_DUP_DISCARD])) { s with brg := u.brg, flw := u.flw, msg := u.msg })) ∧
  (∀ (m : SleepMsg) (s : State), ∀ c ∈ [Instr.sleepCallReceive m, .sleepCommitReceive m, .sleepCancelReceive m],
    Gives c s (fun u => Frame s u (named [SLP_STATUS_STATE, SLP_STATUS_VOTE_ID, SLP_STATUS_RESULT, SLP_EVENT_COMMIT, SLP_EVENT_CANCEL,
      SLP_EVENT_VOTE_FAIL, SLP_STAT_VOTE_FAILS, SLP_SLEEP_AT_CYCLE]) { s with msg := u.msg, slp := u.slp }))

/-- Frames of the commands of the consist network and of the CAN channels: beside reports, each writes the registers
named here alone, and leaves every part of the state but those named as it was; a command of a CAN channel leaves the
other channels, their registers included. Readings of the model that clauses rest on: notes/assumptions/28. -/
def Obligations.ConsistAndCanCommandsConfined : Prop :=
  (∀ (p : Nat) (f : ConsistFrame) (rx : Int) (s : State), Gives (.consistFrameReceive p f rx) s (fun u => Frame s u
    (named (flowFields ++ forEach 4 [CST_STALE_STALE] ++ [CST_PFRM_FRAMES p, CST_STATUS_CYCLE, CST_STATUS_STATE, CST_SYNC_RATE,
      FLW_STAT_ING_DROP])) { s with cst := u.cst, flw := u.flw, cyc := { s.cyc with degraded := u.cyc.degraded } })) ∧
  (∀ (p : Nat) (code : Bool) (s : State), ∀ c ∈ [Instr.guardianCut p, .consistLinkDown p code], Gives c s (fun u => Frame s u
    (named [CST_EVENT_PORT_ISO, CST_EVENT_PORT_OOS, CST_PSTATUS_GUARD p, CST_PVIOL_END_HDR p, CST_PERR_CODE_ERRORS p,
      CST_PERR_LINK_DOWNS p, CST_PSTATUS_LINK p, CST_PSTATUS_SIG_DET p]) { s with cst := u.cst })) ∧
  (∀ (s : State), Gives .consistNitCorrection s (fun u => Frame s u (named [CST_EVENT_SYNC_LOST, CST_STATUS_REF_SRC, CST_STATUS_STATE,
    CST_STAT_SYNC_LOST, CST_SYNC_OFFSET, CST_SYNC_RATE]) { s with cst := u.cst })) ∧
  (∀ (s : State), Gives .consistCycleStart s (fun u => Frame s u (named (flowFields ++ forEach 4 [CST_STALE_STALE] ++ [CST_EVENT_ACTIVE, CST_EVENT_BC_MISMATCH,
    CST_EVENT_PHASE_LOCK, CST_EVENT_STALE, CST_PHASE_ERR_ERR, CST_STATUS_CYCLE,
    CST_STATUS_PHASE_LOCK, CST_STATUS_STATE])) { s with cst := u.cst, cyc := { s.cyc with degraded := u.cyc.degraded } })) ∧
  (∀ (path : Path) (arg : Nat) (s : State), Gives (.portReset path arg) s (fun u => Frame s u
    (named (commandFields ++ forEach 8 [CST_PSTATUS_GUARD])) { s.reported u with cst := u.cst })) ∧
  (∀ (n sof kind add tdcv w : Nat) (early loop idle : Bool) (f : CanFrame) (s : State), ∀ c ∈ [Instr.canFrameReceive n f sof,
      .canRxError n kind add early, .canProtocolException n, .canTxSuccess n tdcv, .canTxArbLost n, .canTxError n kind add tdcv loop,
      .canRecessive11 n, .canDominantTimeout n, .canDominantClear n, .canTtReferenceReceive n f sof, .canTtReferenceSend n,
      .canTtReferenceMissing n, .canTtFirstReference n, .canTtWindowStart n w idle],
    Gives c s (fun u => Frame s u (canKeys n) { s with can := u.can, flw := u.flw, free := u.free, gtn := u.gtn } ∧
      ∀ m, m ≠ n → u.chan m = s.chan m)) ∧
  (∀ (path : Path) (n arg : Nat) (s : State), ∀ c ∈ [Instr.canStart path n arg, .canStop path n arg, .canCancel path n arg],
    Gives c s (fun u => Frame s u (fun k => canKeys n k || named commandFields k) { s.reported u with can := u.can } ∧
      ∀ m, m ≠ n → u.chan m = s.chan m))

/-- Frames of the commands of flows, bridge, host interface, G-line and legacy host view: beside reports, each writes
the registers named here alone, and leaves every part of the state but those named as it was. Readings of the model
that clauses rest on: notes/assumptions/28. -/
def Obligations.FlowBridgeAndLegacyCommandsConfined : Prop :=
  (∀ (path : Path) (arg : Nat) (s : State), Gives (.flowEnable path arg) s (fun u => Frame s u
    (named (commandFields ++ flowFields ++ forEach 1024 [FCTX_BUCKET, FCTX_EN, FCTX_RES_POS]))
    { s.reported u with cyc := { s.cyc with degraded := u.cyc.degraded } })) ∧
  (∀ (path : Path) (arg : Nat) (s : State), Gives (.flowDisable path arg) s (fun u => Frame s u
    (named (commandFields ++ [FLW_STATUS_ACTIVE] ++ forEach 1024 [FCTX_EN, FCTX_RES_POS, FCTX_STATUS]))
    { s.reported u with flw := u.flw, msg := u.msg, cyc := { s.cyc with degraded := u.cyc.degraded } })) ∧
  (∀ (t0 t1 : Int) (s : State), Gives (.thermalMeasure t0 t1) s (fun u => Frame s u
    (named (flowFields ++ [CLK_EVENT_SENSOR_DIFF, CLK_EVENT_SHED_END, CLK_EVENT_SHED_START, CLK_EVENT_WARN, CLK_SHED_TIME_MS,
      CLK_STATUS_GOV, CLK_STAT_SHEDS, CLK_TEMP_PEAK_PEAK, CLK_TEMP_T0, CLK_TEMP_T1, FLW_EVENT_SHED_END, FLW_EVENT_SHED_START,
      FLW_STATUS_SHEDDING])) { s with pwr := u.pwr, cyc := { s.cyc with degraded := u.cyc.degraded } })) ∧
  (∀ (req : Requester) (p v : Nat) (s : State), ∀ c ∈ [Instr.apReqRd req p v, .apReqUnlock req p v], Gives c s (fun u => Frame s u
    (named (routeFields ++ [BRG_AP_STATUS_STATUS p, BRG_AP_STATUS_TAG p, BRG_EVENT_AP_OVERRUN, BRG_STATUS_POSTED] ++ forEach 32 [BRG_WIN_STATUS_BSEQ]))
    { s with brg := u.brg, flw := u.flw, msg := u.msg })) ∧
  (∀ (f : MsgFrame) (s : State), Gives (.brgUnlockRequest f) s (fun u => Frame s u (named [BRG_STAT4_RX_DISCARD, BRG_STATUS_TGT_LOCKED,
    BRG_TGT_LOCK_HOLDER, BRG_TGT_LOCK_REMAIN]) { s with brg := u.brg, msg := u.msg })) ∧
  (∀ (f : MsgFrame) (s : State), ∀ c ∈ [Instr.sbPollReceive f, .lockRetryReceive f], Gives c s (fun u => Frame s u
    (named (routeFields ++ [BRG_STAT4_RX_DISCARD, BRG_EVENT_RSE_LOST, BRG_STAT2_LATE_RESP, BRG_STAT3_LOCK_RETRY]))
    { s with brg := u.brg, flw := u.flw, msg := u.msg })) ∧
  (∀ (f : MsgFrame) (s : State), Gives (.sbDataReceive f) s (fun u => Frame s u (named ([BRG_STAT4_RX_DISCARD] ++
    ([BRG_WIN_SB_AGE, BRG_WIN_SB_ALIVE_RUN, BRG_WIN_SB_CRIT, BRG_WIN_SB_GPIO, BRG_WIN_SB_MAJOR, BRG_WIN_SB_MINOR, BRG_WIN_SB_MODE,
      BRG_WIN_SB_VALID].map (fun g => g (brgWin f))))) { s with msg := u.msg })) ∧
  (∀ (path : Path) (arg : Nat) (s : State), ∀ c ∈ [Instr.winEnable path arg, .winDisable path arg], Gives c s (fun u => Frame s u
    (named (commandFields ++ routeFields ++ [BRG_STATUS_POSTED] ++ forEach 32 [BRG_WIN_STATUS_BSEQ, BRG_WIN_STATUS_RES_POS, BRG_WIN_STATUS_STATE]))
    { s.reported u with brg := u.brg, flw := u.flw, msg := u.msg })) ∧
  (∀ (g : Nat) (s : State), Gives (.fetchComplete g) s (fun u => Frame s u (named [HRG_EVENT_HOST_ERROR, HRG_EVENT_RING_ERROR])
    { s with hrg := u.hrg })) ∧
  (∀ (s : State), Gives .pePerstAssert s (fun u => Frame s u (fun k => within 0x38000 0x3C000 k || within 0x300000 0x400000 k)
    { s with hrg := u.hrg, glb := { s.glb with perst := u.glb.perst } })) ∧
  (∀ (g : Nat) (s : State), Gives (.d0Return g) s (fun u => Frame s u (fun _ => false) { s with hrg := u.hrg })) ∧
  (∀ (a : Nat) (s : State), s.mode = modeGtn → a < 0xC0 → a % 2 = 0 → Gives (.ghHighWordRead a false) s (fun u => Frame s u
    (within (0x200000 + 4 * (a / 2)) (0x200004 + 4 * (a / 2))) { s with gtn := u.gtn })) ∧
  (∀ (s : State), s.mode = modeGtn → ∀ c ∈ [Instr.ssrLowWordRead false, .ivrLowWordRead false, .eld3LowWordRead false],
    Gives c s (fun u => Frame s u (named [GTN_SSR_STICKY, GTN_ISR_BITS, GTN_ELP_PTR]) { s with gtn := u.gtn })) ∧
  (∀ (l : Nat) (s : State), s.mode = modeGtn → hasBit l 0 = false → Gives (.nodeEnableWrite l) s (fun u => Frame s u
    (named [GTN_CSR_NODE_EN, GTN_CSR_MASTER_EN, GTN_CSR_IRQ_EN, GTN_CSR_TICK_EN, GTN_POS_VALID, GTN_SSR_INAUG, GTN_SSR_MASTER,
      INA_BDR_STATUS_INAUG, INA_BDR_STATUS_VALID]) { s with gtn := u.gtn, gln := u.gln })) ∧
  (∀ (l : Nat) (s : State), s.mode = modeGtn → ∀ c ∈ [Instr.elogClear l, .wdrWrite l], Gives c s (fun u => Frame s u
    (named [GTN_ELP_PTR, GTN_SSR_LOG_FULL, GTN_WDR_TIMEOUT, GTN_SSR_PD_VALID]) { s with gtn := u.gtn })) ∧
  (∀ (n l : Nat) (s : State), s.mode = modeGtn → Gives (.mbcHandover n l) s (fun u => Frame s u (named [GTN_MBC_OWN n, GTN_MBC_IE n,
    GTN_MBC_KIND n, GTN_MBC_PARAM n, GTN_MBC_ERR n, GTN_ELN_COUNT, GTN_ISR_BITS, GTN_SSR_LOG_FULL, GTN_SSR_STICKY])
    { s with gtn := u.gtn })) ∧
  (∀ (x l : Nat) (s : State), s.mode = modeGtn → x < 2 → Gives (.gtnCanRunWrite x l) s (fun u => Frame s u (canKeys x)
    { s with can := u.can, gtn := u.gtn } ∧ ∀ m, m ≠ x → u.chan m = s.chan m)) ∧
  (∀ (s : State), Gives .gtnWatchdogExpiry s (fun u => Frame s u (named [GTN_ELN_COUNT, GTN_ISR_BITS, GTN_SSR_LOG_FULL, GTN_SSR_PD_VALID,
    GTN_SSR_STICKY]) { s with gtn := u.gtn })) ∧
  (∀ (p : Nat) (t : Telegram) (s : State), Gives (.pdDataReceive p t) s (fun u => Frame s u (named (routeFields ++
    [GTN_ELN_COUNT, GTN_ISR_BITS, GTN_LSR_ACTIVE1, GTN_LSR_ACTIVE2, GTN_LSR_UP, GTN_PDS_SINKS, GTN_SSR_LINKED, GTN_SSR_LOG_FULL,
      INA_BDR_STATUS_ACTIVE_LINE, INA_BDR_STAT_DROP] ++ forEach 16 [GTN_MBC_ERR, GTN_MBC_OWN]))
    { s with brg := u.brg, flw := u.flw, free := u.free, gln := u.gln, gtn := u.gtn, msg := u.msg }))

/-- Frames of the node's own commands (register accesses, modes, resets, BOOT, life cycle, faults, recorder, keys,
pair): beside reports, each writes the registers named here alone, and leaves every part of the state but those named
as it was. A reset keeps fuses, the resume area, the commands that wait, key banks and images, and the registers of
the always-on domain (`keptAlways`). Readings of the model that clauses rest on: notes/assumptions/15, 21, 28. -/
def Obligations.NodeCommandsConfined : Prop :=
  (∀ (path : Path) (arg straps lower : Nat) (s : State), ∀ c ∈ [Instr.restart path arg straps, .internalResetRelease straps, .legacySoftReset lower],
    Gives c s (fun u => u.otp = s.otp ∧ u.resume = s.resume ∧ u.elapsed = s.elapsed ∧ u.pending = s.pending ∧
      u.mram = { s.mram with cells := u.mram.cells, ivReserved := u.mram.ivReserved, wp := u.mram.wp } ∧
      u.pwr = { s.pwr with shedTicks := u.pwr.shedTicks } ∧ u.key.live = s.key.live ∧ u.key.tamperedAon = s.key.tamperedAon ∧
      ∀ f ∈ keptAlways, u.get f = s.get f)) ∧
  (∀ (s : State), s.pwr.regulators = true → Gives .resetNAssert s (fun u => Frame s u (fun k => within 0x38000 0x3C000 k || within 0x300000 0x400000 k ||
      named [GLB_CMD_STATUS_STATUS, GLB_MODE_BUSY, GLB_MODE_LAST_CAUSE, GLB_MODE_MODE, GLB_MODE_PREV_MODE, GLB_MODE_SUBSTATE,
        PAIR_EVENT_RELEASED, PAIR_STATUS_PERMISSION] k)
    { s with hrg := u.hrg, pair := { s.pair with driving := u.pair.driving }, mram := u.mram
             key := { s.key with op := u.key.op, program := u.key.program }
             glb := { s.glb with bootStep := u.glb.bootStep, held := u.glb.held, running := u.glb.running } })) ∧
  (∀ (s : State), s.pwr.regulators = true → Gives .brownOut s (fun u => Frame s u (fun k => within 0x38000 0x3C000 k || within 0x300000 0x400000 k ||
      named [GLB_CMD_STATUS_STATUS, GLB_MODE_BUSY, GLB_MODE_LAST_CAUSE, GLB_MODE_MODE, GLB_MODE_PREV_MODE, GLB_MODE_SUBSTATE,
        PAIR_EVENT_RELEASED, PAIR_STATUS_PERMISSION, CLK_STAT_BROWN_OUTS] k)
    { s with hrg := u.hrg, pair := { s.pair with driving := u.pair.driving }, mram := u.mram, pwr := u.pwr
             key := { s.key with op := u.key.op, program := u.key.program }
             glb := { s.glb with bootStep := u.glb.bootStep, held := u.glb.held, running := u.glb.running, afterBrownOut := u.glb.afterBrownOut } })) ∧
  (∀ (path : Path) (arg : Nat) (s : State), Gives (.enterSafe path arg) s (fun u => Frame s u
    (fun k => safeKeys k || named commandFields k)
    { s.reported u with brg := u.brg, can := u.can, cst := u.cst, pair := { s.pair with driving := u.pair.driving }
                        glb := { s.glb with authBusy := u.glb.authBusy, running := u.glb.running, bootImage := u.glb.bootImage, bootStep := u.glb.bootStep }
                        ina := { s.ina with upFrom := u.ina.upFrom } })) ∧
  (∀ (path : Path) (arg : Nat) (s : State), Gives (.debugOpen path arg) s (fun u => Frame s u
    (fun k => safeKeys k || named (commandFields ++ derivedFields ++ zeroizeFields ++ [GLB_LC_DEBUG_OPEN]) k)
    { s.reported u with brg := u.brg, can := u.can, cst := u.cst, pair := { s.pair with driving := u.pair.driving }
                        glb := { s.glb with authBusy := u.glb.authBusy, running := u.glb.running, bootImage := u.glb.bootImage, bootStep := u.glb.bootStep }
                        ina := { s.ina with upFrom := u.ina.upFrom } })) ∧
  (∀ (s : State), ∀ c ∈ [Instr.debugWaitTimeout, .bootImageVerified], Gives c s (fun u => Frame s u
    (fun k => safeKeys k || named (GLB_BOOT_STATUS_CFG_SRC :: derivedFields) k)
    { s with brg := u.brg, can := u.can, cst := u.cst, pair := { s.pair with driving := u.pair.driving }
             glb := { s.glb with bootImage := u.glb.bootImage, bootStep := u.glb.bootStep }
             ina := { s.ina with upFrom := u.ina.upFrom } })) ∧
  (∀ (s : State), Gives .bootOtpReadDone s (fun u => Frame s u
    (named (zeroizeFields ++ [GLB_LC_PARTIAL, GLB_LC_STATE, GLB_UID_UID]))
    { s with glb := { s.glb with bootStep := u.glb.bootStep }, hrg := { s.hrg with trained := u.hrg.trained }
             mram := { s.mram with banks := u.mram.banks }, otp := { s.otp with root := u.otp.root } })) ∧
  (∀ (pass ecc : Bool) (failed : List Nat) (s : State), Gives (.bootSelftestDone pass failed ecc) s (fun u => Frame s u
    (fun k => safeKeys k || named (derivedFields ++ zeroizeFields ++ flowFields ++ [KEY_STATUS_READY, FLW_EVENT_RETIRED, FLW_RETIRED_CAN,
      FLW_RETIRED_CONSIST, FLW_RETIRED_GPIO, FLW_RETIRED_LINE, FLW_RETIRED_STACK] ++ forEach 16 [FLW_SLICE_ENTRY, FLW_SLICE_SH_ENTRY]) k)
    { s with brg := u.brg, can := u.can, cst := u.cst, key := u.key, pair := { s.pair with driving := u.pair.driving }
             cyc := { s.cyc with degraded := u.cyc.degraded }, hrg := { s.hrg with trained := u.hrg.trained }
             glb := { s.glb with bootImage := u.glb.bootImage, bootStep := u.glb.bootStep }
             ina := { s.ina with upFrom := u.ina.upFrom }, mram := { s.mram with tampered := u.mram.tampered } })) ∧
  (∀ (i : Option Image) (s : State), Gives (.configStoreDone i) s (fun u => Frame s u
    (named [GLB_CMD_STATUS_STATUS, GLB_MODE_BUSY])
    { s with mram := { s.mram with bank0 := u.mram.bank0, bank1 := u.mram.bank1 }, glb := { s.glb with running := u.glb.running } })) ∧
  (∀ (i : Option Image) (s : State), ∀ c ∈ [Instr.configFetchDone i, .bootEnd], Gives c s (fun u => Frame s u (fun _ => true)
    { s with gln := u.gln, gtn := u.gtn, msg := u.msg, ina := { s.ina with upFrom := u.ina.upFrom }
             glb := { s.glb with bootImage := u.glb.bootImage, bootStep := u.glb.bootStep, makerUid := u.glb.makerUid, running := u.glb.running } })) ∧
  (∀ (path : Path) (arg : Nat) (s : State), ∀ c ∈ [Instr.lcPersonalize path arg, .lcField path arg, .lcReturn path arg, .lcScrap path arg],
    Gives c s (fun u => Frame s u (named (commandFields ++ zeroizeFields))
      { s.reported u with key := u.key, otp := { s.otp with root := u.otp.root, uid := u.otp.uid }
                          mram := { s.mram with bank0 := u.mram.bank0, bank1 := u.mram.bank1, banks := u.mram.banks, topo := u.mram.topo
                                                clearPending := u.mram.clearPending, nextSeq := u.mram.nextSeq } })) ∧
  (∀ (path : Path) (arg : Nat) (s : State), ∀ c ∈ [Instr.keyWrite path arg, .keyErase path arg, .recClear path arg, .select path arg, .resync path arg],
    Gives c s (fun u => Frame s u (named (commandFields ++ [PAIR_REF_STATUS_SEL, PAIR_REF_STATUS_STATE, PAIR_REF_STAT_SWITCHES,
        PAIR_EVENT_SYNCED, PAIR_EVENT_SYNC_LOST, PAIR_STATUS_SYNC, PAIR_STAT_RESYNCS]))
      { s.reported u with key := u.key, mram := { s.mram with banks := u.mram.banks, clearPending := u.mram.clearPending } })) ∧
  (∀ (l n checker : Nat) (pass : Bool) (s : State), ∀ c ∈ [Instr.faultLatch l, .reactionTimerExpiry n, .latentTest checker pass],
    Gives c s (fun u => Frame s u (named [CLK_EVENT_X32_LOSS, CLK_STATUS_OV, CLK_STATUS_PGOOD, CLK_STATUS_PLL_LOCK, CLK_STATUS_X32_OK,
      CLK_STATUS_XTAL_OK, PAIR_EVENT_SYNCED, PAIR_EVENT_SYNC_LOST, PAIR_STATUS_SYNC, PAIR_STAT_RESYNCS]) s)) ∧
  (∀ (n : Nat) (s : State), Gives (.faultLineDeassert n) s (fun u => Frame s u (named [CLK_EVENT_X32_LOSS, CLK_STATUS_OV, CLK_STATUS_PGOOD,
    CLK_STATUS_PLL_LOCK, CLK_STATUS_X32_OK, CLK_STATUS_XTAL_OK, KEY_TAMPER_STATUS_LIVE, SLP_WAKE_LIVE_TAMPER]) { s with key := u.key })) ∧
  (∀ (s : State), Gives .recorderBootScan s (fun u => Frame s u (fun _ => false) 
    { s with mram := { s.mram with clearPending := u.mram.clearPending, clrCnt := u.mram.clrCnt, nextSeq := u.mram.nextSeq } })) ∧
  (∀ (s : State), Gives .alwaysOnPowerLoss s (fun u => Frame s u (named (keptAlways ++ [KEY_TAMPER_STATUS_LATCHED]))
    { s with pwr := u.pwr, key := { s.key with deferred := u.key.deferred, live := u.key.live, tamperedAon := u.key.tamperedAon }
             slp := { s.slp with latched := u.slp.latched }, glb := { s.glb with afterBrownOut := u.glb.afterBrownOut, held := u.glb.held } })) ∧
  (∀ (req : Requester) (a : Nat) (s : State), ∀ c ∈ [Instr.reg64LowerWordRead req a, .wideRegisterWord0Read req a, .readClearAccess req a 4],
    Gives c s (fun u => Frame s u (fun _ => true) { s with brg := u.brg, latch := u.latch })) ∧
  (∀ (req : Requester) (a v : Nat) (s : State), ∀ c ∈ [Instr.reg64LowerWordWrite req a v, .reg64UpperWordWrite req a v],
    Gives c s (fun u => Frame s u (fun _ => true) { s with brg := u.brg, flw := u.flw, msg := u.msg, slp := u.slp, latch := u.latch })) ∧
  (∀ (req : Requester) (w : Bool) (a be : Nat) (s : State), Gives (.unperformedAccess req w a be) s (fun u => Frame s u
    (within 0x38000 0x39000) s))
end

