-- ==== Sys2Proof/Laws/State.lean ====
section
/-! SUPPORT. What the register store and the state's updates do: one lemma per operation and field. -/

namespace Sys2Proof.Machine

/-! ### Sparse tables -/

@[simp] theorem tabFind_put_same {α : Type} (k : Nat) (v : α) (t : List (Nat × α)) :
    tabFind k (tabPut k v t) = some v := by
  induction t with
  | nil => simp [tabPut, tabFind]
  | cons e t ih =>
    obtain ⟨a, w⟩ := e
    unfold tabPut
    split
    · simp [tabFind]
    · split
      · simp [tabFind]
      · rename_i h; simp [tabFind, h, ih]

theorem tabFind_put_ne {α : Type} {k j : Nat} (v : α) (t : List (Nat × α)) (h : k ≠ j) :
    tabFind j (tabPut k v t) = tabFind j t := by
  induction t with
  | nil => simp [tabPut, tabFind, h]
  | cons e t ih =>
    obtain ⟨a, w⟩ := e
    unfold tabPut
    split
    · simp [tabFind, h]
    · split
      · rename_i h2; subst h2; simp [tabFind, h]
      · simp only [tabFind, ih]

@[simp] theorem tabFind_erase_same {α : Type} (k : Nat) (t : List (Nat × α)) : tabFind k (tabErase k t) = none := by
  induction t with
  | nil => rfl
  | cons e t ih =>
    obtain ⟨a, w⟩ := e
    unfold tabErase
    split
    · exact ih
    · rename_i h; simp [tabFind, h, ih]

theorem tabFind_erase_ne {α : Type} {k j : Nat} (t : List (Nat × α)) (h : k ≠ j) :
    tabFind j (tabErase k t) = tabFind j t := by
  induction t with
  | nil => rfl
  | cons e t ih =>
    obtain ⟨a, w⟩ := e
    unfold tabErase
    split
    · rename_i h2; subst h2; simp [tabFind, h, ih]
    · simp only [tabFind, ih]

@[simp] theorem tabGet_put_same {α : Type} (d : α) (k : Nat) (v : α) (t : List (Nat × α)) :
    tabGet d (tabPut k v t) k = v := by
  simp [tabGet]

theorem tabGet_put_ne {α : Type} (d : α) {k j : Nat} (v : α) (t : List (Nat × α)) (h : k ≠ j) :
    tabGet d (tabPut k v t) j = tabGet d t j := by
  simp [tabGet, tabFind_put_ne v t h]

/-! ### Rising order -/

/-- Every key of the table lies above k. -/
def tabAbove {α : Type} (k : Nat) (t : List (Nat × α)) : Prop := ∀ e ∈ t, k < e.1

theorem tabSorted_cons {α : Type} (a : Nat) (w : α) (t : List (Nat × α)) :
    tabSorted ((a, w) :: t) = true ↔ tabAbove a t ∧ tabSorted t = true := by
  induction t generalizing a w with
  | nil => simp [tabSorted, tabAbove]
  | cons e t ih =>
    obtain ⟨b, x⟩ := e
    have hb := ih b x
    simp only [tabSorted, Bool.and_eq_true, decide_eq_true_eq, tabAbove, List.mem_cons, forall_eq_or_imp]
    constructor
    · rintro ⟨h, k⟩
      exact ⟨⟨h, fun e he => Nat.lt_trans h ((hb.mp k).1 e he)⟩, k⟩
    · rintro ⟨⟨h, _⟩, k⟩
      exact ⟨h, k⟩

theorem tabAbove_put {α : Type} {a k : Nat} {v : α} {t : List (Nat × α)} (h : a < k) (ht : tabAbove a t) :
    tabAbove a (tabPut k v t) := by
  induction t with
  | nil => simpa [tabAbove, tabPut] using h
  | cons e t ih =>
    obtain ⟨b, x⟩ := e
    have hb : a < b := ht (b, x) (by simp)
    have ht' : tabAbove a t := fun e he => ht e (by simp [he])
    unfold tabPut
    split
    · intro e he
      simp only [List.mem_cons] at he
      rcases he with rfl | rfl | he
      exacts [h, hb, ht' e he]
    · split
      · intro e he
        simp only [List.mem_cons] at he
        rcases he with rfl | he
        exacts [h, ht' e he]
      · intro e he
        simp only [List.mem_cons] at he
        rcases he with rfl | he
        exacts [hb, ih ht' e he]

theorem tabSorted_put {α : Type} (k : Nat) (v : α) {t : List (Nat × α)} (h : tabSorted t = true) :
    tabSorted (tabPut k v t) = true := by
  induction t with
  | nil => rfl
  | cons e t ih =>
    obtain ⟨b, x⟩ := e
    have ⟨ha, ht⟩ := (tabSorted_cons b x t).mp h
    unfold tabPut
    split
    · rename_i hk
      refine (tabSorted_cons _ _ _).mpr ⟨?_, h⟩
      intro e he
      simp only [List.mem_cons] at he
      rcases he with rfl | he
      exacts [hk, Nat.lt_trans hk (ha e he)]
    · split
      · rename_i hk; subst hk
        exact (tabSorted_cons _ _ _).mpr ⟨ha, ht⟩
      · exact (tabSorted_cons _ _ _).mpr ⟨tabAbove_put (by omega) ha, ih ht⟩

theorem tabAbove_erase {α : Type} {a : Nat} (k : Nat) {t : List (Nat × α)} (ht : tabAbove a t) :
    tabAbove a (tabErase k t) := by
  induction t with
  | nil => exact ht
  | cons e t ih =>
    obtain ⟨b, x⟩ := e
    have ht' : tabAbove a t := fun e he => ht e (by simp [he])
    unfold tabErase
    split
    · exact ih ht'
    · intro e he
      simp only [List.mem_cons] at he
      rcases he with rfl | he
      exacts [ht (b, x) (by simp), ih ht' e he]

theorem tabSorted_erase {α : Type} (k : Nat) {t : List (Nat × α)} (h : tabSorted t = true) :
    tabSorted (tabErase k t) = true := by
  induction t with
  | nil => rfl
  | cons e t ih =>
    obtain ⟨b, x⟩ := e
    have ⟨ha, ht⟩ := (tabSorted_cons b x t).mp h
    unfold tabErase
    split
    · exact ih ht
    · exact (tabSorted_cons _ _ _).mpr ⟨tabAbove_erase k ha, ih ht⟩

theorem tabSorted_filter {α : Type} (p : Nat × α → Bool) {t : List (Nat × α)} (h : tabSorted t = true) :
    tabSorted (t.filter p) = true := by
  induction t with
  | nil => rfl
  | cons e t ih =>
    obtain ⟨b, x⟩ := e
    have ⟨ha, ht⟩ := (tabSorted_cons b x t).mp h
    rw [List.filter_cons]
    split
    · exact (tabSorted_cons _ _ _).mpr ⟨fun e he => ha e (List.mem_filter.mp he).1, ih ht⟩
    · exact ih ht

theorem storeSet_sorted (f : Field) (v : Nat) {r : List (Nat × Nat)} (h : tabSorted r = true) :
    tabSorted (storeSet f v r) = true := by
  unfold storeSet
  split
  · exact tabSorted_erase _ h
  · exact tabSorted_put _ _ h

/-! ### The register store -/

/-- A field reads back what was set, cut to its width. -/
@[simp] theorem storeGet_set_same (f : Field) (v : Nat) (r : List (Nat × Nat)) :
    storeGet f (storeSet f v r) = v % 2 ^ f.width := by
  unfold storeGet storeSet
  split
  · rename_i h; simp [tabGet, h]
  · simp

/-- A set leaves every field of another key as it was. -/
theorem storeGet_set_ne {f g : Field} (v : Nat) (r : List (Nat × Nat)) (h : f.key ≠ g.key) :
    storeGet g (storeSet f v r) = storeGet g r := by
  unfold storeGet storeSet tabGet
  split
  · rw [tabFind_erase_ne r h]
  · rw [tabFind_put_ne _ r h]

@[simp] theorem State.get_set_same (s : State) (f : Field) (v : Nat) : (s.set f v).get f = v % 2 ^ f.width :=
  storeGet_set_same f v s.regs

theorem State.get_set_ne (s : State) {f g : Field} (v : Nat) (h : f.key ≠ g.key) : (s.set f v).get g = s.get g :=
  storeGet_set_ne v s.regs h

/-- A field holds no more than its width. -/
theorem State.get_lt (s : State) (f : Field) : s.get f < 2 ^ f.width :=
  Nat.mod_lt _ (Nat.two_pow_pos f.width)

@[simp] theorem State.load_nil (s : State) : s.load [] = s := rfl

@[simp] theorem State.load_cons (s : State) (e : Field × Nat) (l : List (Field × Nat)) :
    s.load (e :: l) = (s.set e.1 e.2).load l := rfl

/-! ### Reads after updates of other fields -/

/-- A register reads the same after an update of fields other than the register store. -/
@[simp] theorem State.get_upd (t : State) (f : Field)
    (uptime' : Nat) (elapsed' : Nat) (glb' : GlbState) (otp' : OtpState) (mram' : MramState) (rcd' : RecState)
    (rates' : List RateLimit) (flt' : FltState) (hrg' : HrgState) (tim' : TimState) (pair' : PairState) (slp' :
    SlpState) (key' : KeyState) (pwr' : PwrState) (pins' : Pins) (resume' : Option Resume) (latch' : Latches)
    (ports' : Tab LinePort) (ina' : InaState) (cyc' : CycState) (msg' : MsgState) (can' : Tab CanChannel) (cst'
    : CstState) (flw' : FlwState) (brg' : BrgState) (stk' : StkState) (gtn' : GtnState) (gln' : GlnState) (free'
    : Nat) (out' : List Emit) (pending' : List Instr) :
    State.get
      (State.mk t.regs uptime' elapsed' glb' otp' mram' rcd' rates' flt' hrg' tim' pair' slp' key' pwr' pins'
      resume' latch' ports' ina' cyc' msg' can' cst' flw' brg' stk' gtn' gln' free' out' pending') f = t.get f
      := rfl

@[simp] theorem State.set_uptime (s : State) (f : Field) (v : Nat) : (s.set f v).uptime = s.uptime := rfl
@[simp] theorem State.set_elapsed (s : State) (f : Field) (v : Nat) : (s.set f v).elapsed = s.elapsed := rfl
@[simp] theorem State.set_glb (s : State) (f : Field) (v : Nat) : (s.set f v).glb = s.glb := rfl
@[simp] theorem State.set_otp (s : State) (f : Field) (v : Nat) : (s.set f v).otp = s.otp := rfl
@[simp] theorem State.set_mram (s : State) (f : Field) (v : Nat) : (s.set f v).mram = s.mram := rfl
@[simp] theorem State.set_rcd (s : State) (f : Field) (v : Nat) : (s.set f v).rcd = s.rcd := rfl
@[simp] theorem State.set_rates (s : State) (f : Field) (v : Nat) : (s.set f v).rates = s.rates := rfl
@[simp] theorem State.set_flt (s : State) (f : Field) (v : Nat) : (s.set f v).flt = s.flt := rfl
@[simp] theorem State.set_hrg (s : State) (f : Field) (v : Nat) : (s.set f v).hrg = s.hrg := rfl
@[simp] theorem State.set_tim (s : State) (f : Field) (v : Nat) : (s.set f v).tim = s.tim := rfl
@[simp] theorem State.set_pair (s : State) (f : Field) (v : Nat) : (s.set f v).pair = s.pair := rfl
@[simp] theorem State.set_slp (s : State) (f : Field) (v : Nat) : (s.set f v).slp = s.slp := rfl
@[simp] theorem State.set_key (s : State) (f : Field) (v : Nat) : (s.set f v).key = s.key := rfl
@[simp] theorem State.set_pwr (s : State) (f : Field) (v : Nat) : (s.set f v).pwr = s.pwr := rfl
@[simp] theorem State.set_pins (s : State) (f : Field) (v : Nat) : (s.set f v).pins = s.pins := rfl
@[simp] theorem State.set_resume (s : State) (f : Field) (v : Nat) : (s.set f v).resume = s.resume := rfl
@[simp] theorem State.set_latch (s : State) (f : Field) (v : Nat) : (s.set f v).latch = s.latch := rfl
@[simp] theorem State.set_ports (s : State) (f : Field) (v : Nat) : (s.set f v).ports = s.ports := rfl
@[simp] theorem State.set_ina (s : State) (f : Field) (v : Nat) : (s.set f v).ina = s.ina := rfl
@[simp] theorem State.set_cyc (s : State) (f : Field) (v : Nat) : (s.set f v).cyc = s.cyc := rfl
@[simp] theorem State.set_msg (s : State) (f : Field) (v : Nat) : (s.set f v).msg = s.msg := rfl
@[simp] theorem State.set_can (s : State) (f : Field) (v : Nat) : (s.set f v).can = s.can := rfl
@[simp] theorem State.set_cst (s : State) (f : Field) (v : Nat) : (s.set f v).cst = s.cst := rfl
@[simp] theorem State.set_flw (s : State) (f : Field) (v : Nat) : (s.set f v).flw = s.flw := rfl
@[simp] theorem State.set_brg (s : State) (f : Field) (v : Nat) : (s.set f v).brg = s.brg := rfl
@[simp] theorem State.set_stk (s : State) (f : Field) (v : Nat) : (s.set f v).stk = s.stk := rfl
@[simp] theorem State.set_gtn (s : State) (f : Field) (v : Nat) : (s.set f v).gtn = s.gtn := rfl
@[simp] theorem State.set_gln (s : State) (f : Field) (v : Nat) : (s.set f v).gln = s.gln := rfl
@[simp] theorem State.set_free (s : State) (f : Field) (v : Nat) : (s.set f v).free = s.free := rfl
@[simp] theorem State.set_out (s : State) (f : Field) (v : Nat) : (s.set f v).out = s.out := rfl
@[simp] theorem State.set_pending (s : State) (f : Field) (v : Nat) : (s.set f v).pending = s.pending := rfl

@[simp] theorem State.emit_regs (s : State) (e : Emit) : (s.emit e).regs = s.regs := rfl
@[simp] theorem State.emit_uptime (s : State) (e : Emit) : (s.emit e).uptime = s.uptime := rfl
@[simp] theorem State.emit_elapsed (s : State) (e : Emit) : (s.emit e).elapsed = s.elapsed := rfl
@[simp] theorem State.emit_glb (s : State) (e : Emit) : (s.emit e).glb = s.glb := rfl
@[simp] theorem State.emit_otp (s : State) (e : Emit) : (s.emit e).otp = s.otp := rfl
@[simp] theorem State.emit_mram (s : State) (e : Emit) : (s.emit e).mram = s.mram := rfl
@[simp] theorem State.emit_rcd (s : State) (e : Emit) : (s.emit e).rcd = s.rcd := rfl
@[simp] theorem State.emit_rates (s : State) (e : Emit) : (s.emit e).rates = s.rates := rfl
@[simp] theorem State.emit_flt (s : State) (e : Emit) : (s.emit e).flt = s.flt := rfl
@[simp] theorem State.emit_hrg (s : State) (e : Emit) : (s.emit e).hrg = s.hrg := rfl
@[simp] theorem State.emit_tim (s : State) (e : Emit) : (s.emit e).tim = s.tim := rfl
@[simp] theorem State.emit_pair (s : State) (e : Emit) : (s.emit e).pair = s.pair := rfl
@[simp] theorem State.emit_slp (s : State) (e : Emit) : (s.emit e).slp = s.slp := rfl
@[simp] theorem State.emit_key (s : State) (e : Emit) : (s.emit e).key = s.key := rfl
@[simp] theorem State.emit_pwr (s : State) (e : Emit) : (s.emit e).pwr = s.pwr := rfl
@[simp] theorem State.emit_pins (s : State) (e : Emit) : (s.emit e).pins = s.pins := rfl
@[simp] theorem State.emit_resume (s : State) (e : Emit) : (s.emit e).resume = s.resume := rfl
@[simp] theorem State.emit_latch (s : State) (e : Emit) : (s.emit e).latch = s.latch := rfl
@[simp] theorem State.emit_ports (s : State) (e : Emit) : (s.emit e).ports = s.ports := rfl
@[simp] theorem State.emit_ina (s : State) (e : Emit) : (s.emit e).ina = s.ina := rfl
@[simp] theorem State.emit_cyc (s : State) (e : Emit) : (s.emit e).cyc = s.cyc := rfl
@[simp] theorem State.emit_msg (s : State) (e : Emit) : (s.emit e).msg = s.msg := rfl
@[simp] theorem State.emit_can (s : State) (e : Emit) : (s.emit e).can = s.can := rfl
@[simp] theorem State.emit_cst (s : State) (e : Emit) : (s.emit e).cst = s.cst := rfl
@[simp] theorem State.emit_flw (s : State) (e : Emit) : (s.emit e).flw = s.flw := rfl
@[simp] theorem State.emit_brg (s : State) (e : Emit) : (s.emit e).brg = s.brg := rfl
@[simp] theorem State.emit_stk (s : State) (e : Emit) : (s.emit e).stk = s.stk := rfl
@[simp] theorem State.emit_gtn (s : State) (e : Emit) : (s.emit e).gtn = s.gtn := rfl
@[simp] theorem State.emit_gln (s : State) (e : Emit) : (s.emit e).gln = s.gln := rfl
@[simp] theorem State.emit_free (s : State) (e : Emit) : (s.emit e).free = s.free := rfl
@[simp] theorem State.emit_pending (s : State) (e : Emit) : (s.emit e).pending = s.pending := rfl

@[simp] theorem State.emit_out (s : State) (e : Emit) : (s.emit e).out = e :: s.out := rfl

@[simp] theorem State.get_emit (s : State) (e : Emit) (f : Field) : (s.emit e).get f = s.get f := rfl

@[simp] theorem State.load_uptime (s : State) (l : List (Field × Nat)) : (s.load l).uptime = s.uptime := by
  induction l generalizing s with
  | nil => rfl
  | cons e l ih => exact ih _

@[simp] theorem State.load_elapsed (s : State) (l : List (Field × Nat)) : (s.load l).elapsed = s.elapsed := by
  induction l generalizing s with
  | nil => rfl
  | cons e l ih => exact ih _

@[simp] theorem State.load_glb (s : State) (l : List (Field × Nat)) : (s.load l).glb = s.glb := by
  induction l generalizing s with
  | nil => rfl
  | cons e l ih => exact ih _

@[simp] theorem State.load_otp (s : State) (l : List (Field × Nat)) : (s.load l).otp = s.otp := by
  induction l generalizing s with
  | nil => rfl
  | cons e l ih => exact ih _

@[simp] theorem State.load_mram (s : State) (l : List (Field × Nat)) : (s.load l).mram = s.mram := by
  induction l generalizing s with
  | nil => rfl
  | cons e l ih => exact ih _

@[simp] theorem State.load_rcd (s : State) (l : List (Field × Nat)) : (s.load l).rcd = s.rcd := by
  induction l generalizing s with
  | nil => rfl
  | cons e l ih => exact ih _

@[simp] theorem State.load_rates (s : State) (l : List (Field × Nat)) : (s.load l).rates = s.rates := by
  induction l generalizing s with
  | nil => rfl
  | cons e l ih => exact ih _

@[simp] theorem State.load_flt (s : State) (l : List (Field × Nat)) : (s.load l).flt = s.flt := by
  induction l generalizing s with
  | nil => rfl
  | cons e l ih => exact ih _

@[simp] theorem State.load_hrg (s : State) (l : List (Field × Nat)) : (s.load l).hrg = s.hrg := by
  induction l generalizing s with
  | nil => rfl
  | cons e l ih => exact ih _

@[simp] theorem State.load_tim (s : State) (l : List (Field × Nat)) : (s.load l).tim = s.tim := by
  induction l generalizing s with
  | nil => rfl
  | cons e l ih => exact ih _

@[simp] theorem State.load_pair (s : State) (l : List (Field × Nat)) : (s.load l).pair = s.pair := by
  induction l generalizing s with
  | nil => rfl
  | cons e l ih => exact ih _

@[simp] theorem State.load_slp (s : State) (l : List (Field × Nat)) : (s.load l).slp = s.slp := by
  induction l generalizing s with
  | nil => rfl
  | cons e l ih => exact ih _

@[simp] theorem State.load_key (s : State) (l : List (Field × Nat)) : (s.load l).key = s.key := by
  induction l generalizing s with
  | nil => rfl
  | cons e l ih => exact ih _

@[simp] theorem State.load_pwr (s : State) (l : List (Field × Nat)) : (s.load l).pwr = s.pwr := by
  induction l generalizing s with
  | nil => rfl
  | cons e l ih => exact ih _

@[simp] theorem State.load_pins (s : State) (l : List (Field × Nat)) : (s.load l).pins = s.pins := by
  induction l generalizing s with
  | nil => rfl
  | cons e l ih => exact ih _

@[simp] theorem State.load_resume (s : State) (l : List (Field × Nat)) : (s.load l).resume = s.resume := by
  induction l generalizing s with
  | nil => rfl
  | cons e l ih => exact ih _

@[simp] theorem State.load_latch (s : State) (l : List (Field × Nat)) : (s.load l).latch = s.latch := by
  induction l generalizing s with
  | nil => rfl
  | cons e l ih => exact ih _

@[simp] theorem State.load_ports (s : State) (l : List (Field × Nat)) : (s.load l).ports = s.ports := by
  induction l generalizing s with
  | nil => rfl
  | cons e l ih => exact ih _

@[simp] theorem State.load_ina (s : State) (l : List (Field × Nat)) : (s.load l).ina = s.ina := by
  induction l generalizing s with
  | nil => rfl
  | cons e l ih => exact ih _

@[simp] theorem State.load_cyc (s : State) (l : List (Field × Nat)) : (s.load l).cyc = s.cyc := by
  induction l generalizing s with
  | nil => rfl
  | cons e l ih => exact ih _

@[simp] theorem State.load_msg (s : State) (l : List (Field × Nat)) : (s.load l).msg = s.msg := by
  induction l generalizing s with
  | nil => rfl
  | cons e l ih => exact ih _

@[simp] theorem State.load_can (s : State) (l : List (Field × Nat)) : (s.load l).can = s.can := by
  induction l generalizing s with
  | nil => rfl
  | cons e l ih => exact ih _

@[simp] theorem State.load_cst (s : State) (l : List (Field × Nat)) : (s.load l).cst = s.cst := by
  induction l generalizing s with
  | nil => rfl
  | cons e l ih => exact ih _

@[simp] theorem State.load_flw (s : State) (l : List (Field × Nat)) : (s.load l).flw = s.flw := by
  induction l generalizing s with
  | nil => rfl
  | cons e l ih => exact ih _

@[simp] theorem State.load_brg (s : State) (l : List (Field × Nat)) : (s.load l).brg = s.brg := by
  induction l generalizing s with
  | nil => rfl
  | cons e l ih => exact ih _

@[simp] theorem State.load_stk (s : State) (l : List (Field × Nat)) : (s.load l).stk = s.stk := by
  induction l generalizing s with
  | nil => rfl
  | cons e l ih => exact ih _

@[simp] theorem State.load_gtn (s : State) (l : List (Field × Nat)) : (s.load l).gtn = s.gtn := by
  induction l generalizing s with
  | nil => rfl
  | cons e l ih => exact ih _

@[simp] theorem State.load_gln (s : State) (l : List (Field × Nat)) : (s.load l).gln = s.gln := by
  induction l generalizing s with
  | nil => rfl
  | cons e l ih => exact ih _

@[simp] theorem State.load_free (s : State) (l : List (Field × Nat)) : (s.load l).free = s.free := by
  induction l generalizing s with
  | nil => rfl
  | cons e l ih => exact ih _

@[simp] theorem State.load_out (s : State) (l : List (Field × Nat)) : (s.load l).out = s.out := by
  induction l generalizing s with
  | nil => rfl
  | cons e l ih => exact ih _

@[simp] theorem State.load_pending (s : State) (l : List (Field × Nat)) : (s.load l).pending = s.pending := by
  induction l generalizing s with
  | nil => rfl
  | cons e l ih => exact ih _

end Sys2Proof.Machine
end

