-- ==== Sys2Proof/Laws/Reports.lean ====
section
/-! SUPPORT. What reports change: the operations of the recorder's ingress, the host rings and the fault collector,
each within `Reports`. -/

set_option linter.unusedTactic false
set_option linter.unreachableTactic false

namespace Sys2Proof.Machine

open Reg

theorem Reports.refl (s : State) : Reports s s := ⟨fun _ _ => rfl, rfl⟩

theorem Reports.trans {a b c : State} (h : Reports a b) (k : Reports b c) : Reports a c := by
  refine ⟨fun f hf => (k.get f hf).trans (h.get f hf), ?_⟩
  have hr := h.rest
  have kr := k.rest
  rw [hr] at kr
  exact kr

theorem Reports.ite {s0 a b : State} {c : Prop} [Decidable c] (ha : Reports s0 a) (hb : Reports s0 b) :
    Reports s0 (if c then a else b) := by
  split <;> assumption

theorem Reports.foldl {s0 : State} {α : Type} {g : State → α → State} {l : List α} {s : State}
    (hg : ∀ a ∈ l, ∀ t, Reports s0 t → Reports s0 (g t a)) (h : Reports s0 s) : Reports s0 (l.foldl g s) := by
  induction l generalizing s with
  | nil => exact h
  | cons a l ih =>
    exact ih (fun b hb => hg b (List.mem_cons_of_mem a hb)) (hg a List.mem_cons_self s h)

/-- A set of a report register. -/
theorem Reports.set {s0 s : State} (f : Field) (v : Nat) (hf : reportField f = true) (h : Reports s0 s) :
    Reports s0 (s.set f v) := by
  refine ⟨fun g hg => ?_, ?_⟩
  · rw [State.get_set_ne, h.get g hg]
    intro e
    unfold reportField at hf hg
    rw [e, hg] at hf
    cases hf
  · have hr := h.rest
    unfold State.set
    dsimp only
    rw [hr]

theorem Reports.ofPair {s0 t : State} {α : Type} {x : α × State} {v : α} (e : x = (v, t)) (h : Reports s0 x.2) :
    Reports s0 t := by
  subst e; exact h

theorem Reports.ofPair3 {s0 t : State} {α β : Type} {x : α × β × State} {v : α} {w : β} (e : x = (v, w, t))
    (h : Reports s0 x.2.2) : Reports s0 t := by
  subst e; exact h

theorem Reports.updRcd {s0 t : State} (r : RecState) (h : Reports s0 t) : Reports s0 { t with rcd := r } := by
  refine ⟨h.get, ?_⟩
  have hr := h.rest
  dsimp only
  rw [hr]

theorem Reports.updRates {s0 t : State} (r : List RateLimit) (h : Reports s0 t) : Reports s0 { t with rates := r } := by
  refine ⟨h.get, ?_⟩
  have hr := h.rest
  dsimp only
  rw [hr]

theorem Reports.updFlt {s0 t : State} (r : FltState) (h : Reports s0 t) : Reports s0 { t with flt := r } := by
  refine ⟨h.get, ?_⟩
  have hr := h.rest
  dsimp only
  rw [hr]

theorem Reports.updRings {s0 t : State} (r : Tab RingState) (h : Reports s0 t) :
    Reports s0 { t with hrg := { t.hrg with rings := r } } := by
  refine ⟨h.get, ?_⟩
  have hr := h.rest
  dsimp only
  rw [hr]

theorem Reports.updHeld {s0 t : State} (r : List (Nat × Emit)) (h : Reports s0 t) :
    Reports s0 { t with hrg := { t.hrg with held := r } } := by
  refine ⟨h.get, ?_⟩
  have hr := h.rest
  dsimp only
  rw [hr]

theorem Reports.updCells {s0 t : State} (r : Tab RecCell) (h : Reports s0 t) :
    Reports s0 { t with mram := { t.mram with cells := r } } := by
  refine ⟨h.get, ?_⟩
  have hr := h.rest
  dsimp only
  rw [hr]

theorem Reports.emit {s0 t : State} (e : Emit) (h : Reports s0 t) : Reports s0 (t.emit e) := by
  refine ⟨h.get, ?_⟩
  have hr := h.rest
  unfold State.emit
  dsimp only
  rw [hr]

/-- A register of ring k of the host interface. -/
theorem reportField_ring {f : Field} (k : Nat) (hk : k < 132) (hl : 8 * (0x39000 + 0x20 * k) ≤ f.key)
    (hu : f.key < 8 * (0x39000 + 0x20 * k) + 256) : reportField f = true := by
  have h : f.key / 32768 = 0x39 ∨ f.key / 32768 = 0x3A := by omega
  unfold reportField
  rcases h with h | h <;> rw [h] <;> rfl

theorem reportField_pba (f v : Nat) (hv : v < 64) : reportField (MSIX_PBA f v) = true := by
  unfold reportField MSIX_PBA
  dsimp only
  split
  · have h : (8 * 0x3B800 + v) / 32768 = 0x3B := by omega
    rw [h]; rfl
  · have h : (8 * 0x303800 + v) / 32768 = 0x303 := by omega
    rw [h]; rfl

theorem reports_add {s0 : State} (s : State) (f : Field) (n : Nat) (hf : reportField f = true) (h : Reports s0 s) :
    Reports s0 (s.add f n) := by
  unfold State.add
  try dsimp only
  repeat (first
    | with_reducible assumption
    | (with_reducible apply Reports.ite)
    | exact Reports.set _ _ hf h
    | with_reducible apply Reports.emit
    | (refine Reports.set _ _ (by first | rfl | exact reportField_ring _ (by assumption) (by simp only [HRG_RING_STATUS_INDEX, HRG_RING_STAT_DONE, HRG_RING_STAT_DROPS, HRG_RING_STATUS_STATE, HRG_RING_STATUS_CAUSE]; omega) (by simp only [HRG_RING_STATUS_INDEX, HRG_RING_STAT_DONE, HRG_RING_STAT_DROPS, HRG_RING_STATUS_STATE, HRG_RING_STATUS_CAUSE]; omega)) ?_)
    | (refine Reports.ofPair (by assumption) ?_)
    | (refine Reports.ofPair3 (by assumption) ?_)
    | split
    | dsimp only)

theorem reports_bump {s0 : State} (s : State) (f : Field) (hf : reportField f = true) (h : Reports s0 s) :
    Reports s0 (s.bump f) := by
  unfold State.bump
  try dsimp only
  repeat (first
    | with_reducible assumption
    | (with_reducible apply Reports.ite)
    | with_reducible apply reports_add
    | with_reducible apply Reports.emit
    | (refine Reports.set _ _ (by first | rfl | exact reportField_ring _ (by assumption) (by simp only [HRG_RING_STATUS_INDEX, HRG_RING_STAT_DONE, HRG_RING_STAT_DROPS, HRG_RING_STATUS_STATE, HRG_RING_STATUS_CAUSE]; omega) (by simp only [HRG_RING_STATUS_INDEX, HRG_RING_STAT_DONE, HRG_RING_STAT_DROPS, HRG_RING_STATUS_STATE, HRG_RING_STATUS_CAUSE]; omega)) ?_)
    | (refine Reports.ofPair (by assumption) ?_)
    | (refine Reports.ofPair3 (by assumption) ?_)
    | split
    | dsimp only)

theorem reports_wrapUp {s0 : State} (s : State) (f : Field) (hf : reportField f = true) (h : Reports s0 s) :
    Reports s0 (s.wrapUp f) := by
  unfold State.wrapUp
  try dsimp only
  repeat (first
    | with_reducible assumption
    | (with_reducible apply Reports.ite)
    | exact Reports.set _ _ hf h
    | with_reducible apply Reports.emit
    | (refine Reports.set _ _ (by first | rfl | exact reportField_ring _ (by assumption) (by simp only [HRG_RING_STATUS_INDEX, HRG_RING_STAT_DONE, HRG_RING_STAT_DROPS, HRG_RING_STATUS_STATE, HRG_RING_STATUS_CAUSE]; omega) (by simp only [HRG_RING_STATUS_INDEX, HRG_RING_STAT_DONE, HRG_RING_STAT_DROPS, HRG_RING_STATUS_STATE, HRG_RING_STATUS_CAUSE]; omega)) ?_)
    | (refine Reports.ofPair (by assumption) ?_)
    | (refine Reports.ofPair3 (by assumption) ?_)
    | split
    | dsimp only)

theorem reports_setBit {s0 : State} (s : State) (f : Field) (i : Nat) (hf : reportField f = true) (h : Reports s0 s) :
    Reports s0 (s.setBit f i) := by
  unfold State.setBit
  try dsimp only
  repeat (first
    | with_reducible assumption
    | (with_reducible apply Reports.ite)
    | exact Reports.set _ _ hf h
    | with_reducible apply Reports.emit
    | (refine Reports.set _ _ (by first | rfl | exact reportField_ring _ (by assumption) (by simp only [HRG_RING_STATUS_INDEX, HRG_RING_STAT_DONE, HRG_RING_STAT_DROPS, HRG_RING_STATUS_STATE, HRG_RING_STATUS_CAUSE]; omega) (by simp only [HRG_RING_STATUS_INDEX, HRG_RING_STAT_DONE, HRG_RING_STAT_DROPS, HRG_RING_STATUS_STATE, HRG_RING_STATUS_CAUSE]; omega)) ?_)
    | (refine Reports.ofPair (by assumption) ?_)
    | (refine Reports.ofPair3 (by assumption) ?_)
    | split
    | dsimp only)

theorem reports_setB {s0 : State} (s : State) (f : Field) (b : Bool) (hf : reportField f = true) (h : Reports s0 s) :
    Reports s0 (s.setB f b) := by
  unfold State.setB
  try dsimp only
  repeat (first
    | with_reducible assumption
    | (with_reducible apply Reports.ite)
    | exact Reports.set _ _ hf h
    | with_reducible apply Reports.emit
    | (refine Reports.set _ _ (by first | rfl | exact reportField_ring _ (by assumption) (by simp only [HRG_RING_STATUS_INDEX, HRG_RING_STAT_DONE, HRG_RING_STAT_DROPS, HRG_RING_STATUS_STATE, HRG_RING_STATUS_CAUSE]; omega) (by simp only [HRG_RING_STATUS_INDEX, HRG_RING_STAT_DONE, HRG_RING_STAT_DROPS, HRG_RING_STATUS_STATE, HRG_RING_STATUS_CAUSE]; omega)) ?_)
    | (refine Reports.ofPair (by assumption) ?_)
    | (refine Reports.ofPair3 (by assumption) ?_)
    | split
    | dsimp only)

theorem reports_rateCheck {s0 : State} (s : State) (code a b window : Nat) (h : Reports s0 s) :
    Reports s0 (s.rateCheck code a b window).2.2 := by
  unfold State.rateCheck
  split
  · exact Reports.updRates _ h
  · split
    · exact Reports.updRates _ h
    · exact Reports.updRates _ h

theorem reports_showQueue {s0 : State} (s : State) (h : Reports s0 s) :
    Reports s0 (s.showQueue) := by
  unfold State.showQueue
  try dsimp only
  repeat (first
    | with_reducible assumption
    | (with_reducible apply Reports.ite)
    | with_reducible apply Reports.emit
    | (refine Reports.set _ _ (by first | rfl | exact reportField_ring _ (by assumption) (by simp only [HRG_RING_STATUS_INDEX, HRG_RING_STAT_DONE, HRG_RING_STAT_DROPS, HRG_RING_STATUS_STATE, HRG_RING_STATUS_CAUSE]; omega) (by simp only [HRG_RING_STATUS_INDEX, HRG_RING_STAT_DONE, HRG_RING_STAT_DROPS, HRG_RING_STATUS_STATE, HRG_RING_STATUS_CAUSE]; omega)) ?_)
    | (refine Reports.ofPair (by assumption) ?_)
    | (refine Reports.ofPair3 (by assumption) ?_)
    | split
    | dsimp only)

theorem reports_recPush {s0 : State} (s : State) (e : RecEvent) (h : Reports s0 s) :
    Reports s0 (s.recPush e) := by
  unfold State.recPush
  try dsimp only
  repeat (first
    | with_reducible assumption
    | (with_reducible apply Reports.ite)
    | with_reducible apply reports_showQueue
    | with_reducible apply Reports.emit
    | (refine Reports.set _ _ (by first | rfl | exact reportField_ring _ (by assumption) (by simp only [HRG_RING_STATUS_INDEX, HRG_RING_STAT_DONE, HRG_RING_STAT_DROPS, HRG_RING_STATUS_STATE, HRG_RING_STATUS_CAUSE]; omega) (by simp only [HRG_RING_STATUS_INDEX, HRG_RING_STAT_DONE, HRG_RING_STAT_DROPS, HRG_RING_STATUS_STATE, HRG_RING_STATUS_CAUSE]; omega)) ?_)
    | with_reducible apply Reports.updRcd
    | (refine Reports.ofPair (by assumption) ?_)
    | (refine Reports.ofPair3 (by assumption) ?_)
    | split
    | dsimp only)

theorem reports_recRefuse {s0 : State} (s : State) (code : Nat) (h : Reports s0 s) :
    Reports s0 (s.recRefuse code) := by
  unfold State.recRefuse
  try dsimp only
  repeat (first
    | with_reducible assumption
    | (with_reducible apply Reports.ite)
    | with_reducible apply Reports.emit
    | (refine Reports.set _ _ (by first | rfl | exact reportField_ring _ (by assumption) (by simp only [HRG_RING_STATUS_INDEX, HRG_RING_STAT_DONE, HRG_RING_STAT_DROPS, HRG_RING_STATUS_STATE, HRG_RING_STATUS_CAUSE]; omega) (by simp only [HRG_RING_STATUS_INDEX, HRG_RING_STAT_DONE, HRG_RING_STAT_DROPS, HRG_RING_STATUS_STATE, HRG_RING_STATUS_CAUSE]; omega)) ?_)
    | with_reducible apply Reports.updRcd
    | (refine Reports.ofPair (by assumption) ?_)
    | (refine Reports.ofPair3 (by assumption) ?_)
    | split
    | dsimp only)

theorem reports_pushLost {s0 : State} (s : State) (h : Reports s0 s) :
    Reports s0 (s.pushLost) := by
  unfold State.pushLost
  try dsimp only
  repeat (first
    | with_reducible assumption
    | (with_reducible apply Reports.ite)
    | with_reducible apply reports_showQueue
    | with_reducible apply Reports.emit
    | (refine Reports.set _ _ (by first | rfl | exact reportField_ring _ (by assumption) (by simp only [HRG_RING_STATUS_INDEX, HRG_RING_STAT_DONE, HRG_RING_STAT_DROPS, HRG_RING_STATUS_STATE, HRG_RING_STATUS_CAUSE]; omega) (by simp only [HRG_RING_STATUS_INDEX, HRG_RING_STAT_DONE, HRG_RING_STAT_DROPS, HRG_RING_STATUS_STATE, HRG_RING_STATUS_CAUSE]; omega)) ?_)
    | with_reducible apply Reports.updRcd
    | (refine Reports.ofPair (by assumption) ?_)
    | (refine Reports.ofPair3 (by assumption) ?_)
    | split
    | dsimp only)

theorem reports_unmarkNext {s0 : State} (s : State) (h : Reports s0 s) :
    Reports s0 (s.unmarkNext) := by
  unfold State.unmarkNext
  try dsimp only
  repeat (first
    | with_reducible assumption
    | (with_reducible apply Reports.ite)
    | with_reducible apply Reports.emit
    | (refine Reports.set _ _ (by first | rfl | exact reportField_ring _ (by assumption) (by simp only [HRG_RING_STATUS_INDEX, HRG_RING_STAT_DONE, HRG_RING_STAT_DROPS, HRG_RING_STATUS_STATE, HRG_RING_STATUS_CAUSE]; omega) (by simp only [HRG_RING_STATUS_INDEX, HRG_RING_STAT_DONE, HRG_RING_STAT_DROPS, HRG_RING_STATUS_STATE, HRG_RING_STATUS_CAUSE]; omega)) ?_)
    | with_reducible apply Reports.updCells
    | (refine Reports.ofPair (by assumption) ?_)
    | (refine Reports.ofPair3 (by assumption) ?_)
    | split
    | dsimp only)

theorem reports_recTake {s0 : State} (s : State) (h : Reports s0 s) :
    Reports s0 (s.recTake) := by
  unfold State.recTake
  apply Reports.ite
  · split
    · exact h
    · exact reports_pushLost _ (reports_unmarkNext _ (reports_showQueue _ (Reports.updRcd _ h)))
  · exact h

theorem reports_record {s0 : State} (s : State) (base code : Nat) (payload : Bytes) (h : Reports s0 s) :
    Reports s0 (s.record base code payload) := by
  unfold State.record
  try dsimp only
  repeat (first
    | with_reducible assumption
    | (with_reducible apply Reports.ite)
    | with_reducible apply reports_recTake
    | with_reducible apply reports_recPush
    | with_reducible apply reports_recRefuse
    | with_reducible apply Reports.emit
    | (refine Reports.set _ _ (by first | rfl | exact reportField_ring _ (by assumption) (by simp only [HRG_RING_STATUS_INDEX, HRG_RING_STAT_DONE, HRG_RING_STAT_DROPS, HRG_RING_STATUS_STATE, HRG_RING_STATUS_CAUSE]; omega) (by simp only [HRG_RING_STATUS_INDEX, HRG_RING_STAT_DONE, HRG_RING_STAT_DROPS, HRG_RING_STATUS_STATE, HRG_RING_STATUS_CAUSE]; omega)) ?_)
    | (refine Reports.ofPair (by assumption) ?_)
    | (refine Reports.ofPair3 (by assumption) ?_)
    | split
    | dsimp only)

theorem reports_setRing {s0 : State} (s : State) (k : Nat) (r : RingState) (h : Reports s0 s) :
    Reports s0 (s.setRing k r) := by
  unfold State.setRing
  try dsimp only
  repeat (first
    | with_reducible assumption
    | (with_reducible apply Reports.ite)
    | with_reducible apply Reports.emit
    | (refine Reports.set _ _ (by first | rfl | exact reportField_ring _ (by assumption) (by simp only [HRG_RING_STATUS_INDEX, HRG_RING_STAT_DONE, HRG_RING_STAT_DROPS, HRG_RING_STATUS_STATE, HRG_RING_STATUS_CAUSE]; omega) (by simp only [HRG_RING_STATUS_INDEX, HRG_RING_STAT_DONE, HRG_RING_STAT_DROPS, HRG_RING_STATUS_STATE, HRG_RING_STATUS_CAUSE]; omega)) ?_)
    | with_reducible apply Reports.updRings
    | (refine Reports.ofPair (by assumption) ?_)
    | (refine Reports.ofPair3 (by assumption) ?_)
    | split
    | dsimp only)

theorem reports_hostPost {s0 : State} (s : State) (f : Nat) (e : Emit) (h : Reports s0 s) :
    Reports s0 (s.hostPost f e) := by
  unfold State.hostPost
  try dsimp only
  repeat (first
    | with_reducible assumption
    | (with_reducible apply Reports.ite)
    | with_reducible apply Reports.emit
    | (refine Reports.set _ _ (by first | rfl | exact reportField_ring _ (by assumption) (by simp only [HRG_RING_STATUS_INDEX, HRG_RING_STAT_DONE, HRG_RING_STAT_DROPS, HRG_RING_STATUS_STATE, HRG_RING_STATUS_CAUSE]; omega) (by simp only [HRG_RING_STATUS_INDEX, HRG_RING_STAT_DONE, HRG_RING_STAT_DROPS, HRG_RING_STATUS_STATE, HRG_RING_STATUS_CAUSE]; omega)) ?_)
    | with_reducible apply Reports.updHeld
    | (refine Reports.ofPair (by assumption) ?_)
    | (refine Reports.ofPair3 (by assumption) ?_)
    | split
    | dsimp only)

theorem reports_sendMsix {s0 : State} (s : State) (f v : Nat) (hv : v < 64) (h : Reports s0 s) :
    Reports s0 (s.sendMsix f v) := by
  unfold State.sendMsix
  dsimp only
  apply Reports.ite h
  apply Reports.ite
  · exact Reports.set _ _ (reportField_pba f v hv) h
  · exact reports_hostPost _ _ _ h

theorem reports_signalNow {s0 : State} (s : State) (k : Nat) (h : Reports s0 s) :
    Reports s0 (s.signalNow k) := by
  unfold State.signalNow
  exact reports_sendMsix _ _ _ (State.get_lt s (HRG_RING_CTRL_VECTOR k)) (reports_setRing _ _ _ h)

theorem reports_signal {s0 : State} (s : State) (k : Nat) (now : Bool) (h : Reports s0 s) :
    Reports s0 (s.signal k now) := by
  unfold State.signal
  try dsimp only
  repeat (first
    | with_reducible assumption
    | (with_reducible apply Reports.ite)
    | with_reducible apply reports_signalNow
    | with_reducible apply reports_setRing
    | with_reducible apply Reports.emit
    | (refine Reports.set _ _ (by first | rfl | exact reportField_ring _ (by assumption) (by simp only [HRG_RING_STATUS_INDEX, HRG_RING_STAT_DONE, HRG_RING_STAT_DROPS, HRG_RING_STATUS_STATE, HRG_RING_STATUS_CAUSE]; omega) (by simp only [HRG_RING_STATUS_INDEX, HRG_RING_STAT_DONE, HRG_RING_STAT_DROPS, HRG_RING_STATUS_STATE, HRG_RING_STATUS_CAUSE]; omega)) ?_)
    | (refine Reports.ofPair (by assumption) ?_)
    | (refine Reports.ofPair3 (by assumption) ?_)
    | split
    | dsimp only)

theorem reports_writeBack {s0 : State} (s : State) (k : Nat) (h : Reports s0 s) :
    Reports s0 (s.writeBack k) := by
  unfold State.writeBack
  try dsimp only
  repeat (first
    | with_reducible assumption
    | (with_reducible apply Reports.ite)
    | with_reducible apply reports_hostPost
    | with_reducible apply Reports.emit
    | (refine Reports.set _ _ (by first | rfl | exact reportField_ring _ (by assumption) (by simp only [HRG_RING_STATUS_INDEX, HRG_RING_STAT_DONE, HRG_RING_STAT_DROPS, HRG_RING_STATUS_STATE, HRG_RING_STATUS_CAUSE]; omega) (by simp only [HRG_RING_STATUS_INDEX, HRG_RING_STAT_DONE, HRG_RING_STAT_DROPS, HRG_RING_STATUS_STATE, HRG_RING_STATUS_CAUSE]; omega)) ?_)
    | (refine Reports.ofPair (by assumption) ?_)
    | (refine Reports.ofPair3 (by assumption) ?_)
    | split
    | dsimp only)

theorem reports_evWrite {s0 : State} (s : State) (g : Nat) (entry : Bytes) (hg : g < 4) (h : Reports s0 s) :
    Reports s0 (s.evWrite g entry) := by
  have hk : 128 + g < 132 := by omega
  unfold State.evWrite
  exact reports_signal _ _ _ (reports_writeBack _ _ (reports_bump _ _ (reportField_ring _ hk (by simp only [HRG_RING_STAT_DONE]; omega) (by simp only [HRG_RING_STAT_DONE]; omega))
    (reports_wrapUp _ _ (reportField_ring _ hk (by simp only [HRG_RING_STATUS_INDEX]; omega) (by simp only [HRG_RING_STATUS_INDEX]; omega)) (reports_setRing _ _ _ (reports_hostPost _ _ _ h)))))

theorem reports_evPost {s0 : State} (s : State) (g : Nat) (e : HostEv) (hg : g < 4) (h : Reports s0 s) :
    Reports s0 (s.evPost g e) := by
  have hk : 128 + g < 132 := by omega
  unfold State.evPost
  dsimp only
  apply Reports.ite (reports_evWrite _ _ _ hg h)
  apply Reports.ite (reports_setRing _ _ _ h)
  exact reports_bump _ _ (reportField_ring _ hk (by simp only [HRG_RING_STAT_DROPS]; omega) (by simp only [HRG_RING_STAT_DROPS]; omega)) (reports_setRing _ _ _ h)

theorem reports_evDrain {s0 : State} (g n : Nat) (s : State) (hg : g < 4) (h : Reports s0 s) :
    Reports s0 (State.evDrain g n s) := by
  induction n generalizing s with
  | zero => exact h
  | succ n ih =>
    unfold State.evDrain
    dsimp only
    split
    · exact h
    · split
      · exact ih _ (reports_evWrite _ _ _ hg (reports_setRing _ _ _ h))
      · split
        · exact h
        · exact ih _ (reports_evWrite _ _ _ hg (reports_setRing _ _ _ h))

theorem reports_groupEvent {s0 : State} (s : State) (g code : Nat) (payload : Bytes) (hg : g < 4) (h : Reports s0 s) :
    Reports s0 (s.groupEvent g code payload) := by
  unfold State.groupEvent
  exact Reports.ite (reports_evPost _ _ _ hg h) h

theorem reports_hostEvent {s0 : State} (s : State) (code : Nat) (payload : Bytes) (h : Reports s0 s) :
    Reports s0 (s.hostEvent code payload) := by
  unfold State.hostEvent
  refine Reports.foldl (fun g hg t ht => ?_) h
  refine Reports.ite (reports_groupEvent _ _ _ _ ?_ ht) ht
  simp only [List.mem_cons, List.not_mem_nil, or_false] at hg
  omega

theorem reports_showStatus {s0 : State} (s : State) (h : Reports s0 s) :
    Reports s0 (s.showStatus) := by
  unfold State.showStatus
  try dsimp only
  repeat (first
    | with_reducible assumption
    | (with_reducible apply Reports.ite)
    | with_reducible apply Reports.emit
    | (refine Reports.set _ _ (by first | rfl | exact reportField_ring _ (by assumption) (by simp only [HRG_RING_STATUS_INDEX, HRG_RING_STAT_DONE, HRG_RING_STAT_DROPS, HRG_RING_STATUS_STATE, HRG_RING_STATUS_CAUSE]; omega) (by simp only [HRG_RING_STATUS_INDEX, HRG_RING_STAT_DONE, HRG_RING_STAT_DROPS, HRG_RING_STATUS_STATE, HRG_RING_STATUS_CAUSE]; omega)) ?_)
    | (refine Reports.ofPair (by assumption) ?_)
    | (refine Reports.ofPair3 (by assumption) ?_)
    | split
    | dsimp only)

theorem reports_faultRecord {s0 : State} (s : State) (n sev : Nat) (rdf : Bool) (h : Reports s0 s) :
    Reports s0 (s.faultRecord n sev rdf) := by
  unfold State.faultRecord
  try dsimp only
  repeat (first
    | with_reducible assumption
    | (with_reducible apply Reports.ite)
    | with_reducible apply reports_rateCheck
    | with_reducible apply reports_record
    | with_reducible apply Reports.emit
    | (refine Reports.set _ _ (by first | rfl | exact reportField_ring _ (by assumption) (by simp only [HRG_RING_STATUS_INDEX, HRG_RING_STAT_DONE, HRG_RING_STAT_DROPS, HRG_RING_STATUS_STATE, HRG_RING_STATUS_CAUSE]; omega) (by simp only [HRG_RING_STATUS_INDEX, HRG_RING_STAT_DONE, HRG_RING_STAT_DROPS, HRG_RING_STATUS_STATE, HRG_RING_STATUS_CAUSE]; omega)) ?_)
    | (refine Reports.ofPair (by assumption) ?_)
    | (refine Reports.ofPair3 (by assumption) ?_)
    | split
    | dsimp only)

theorem reports_askEscalate {s0 : State} (s : State) (n sev cause : Nat) (h : Reports s0 s) :
    Reports s0 (s.askEscalate n sev cause) := by
  unfold State.askEscalate
  split
  · exact Reports.ite h (Reports.updFlt _ h)
  · exact Reports.updFlt _ h

theorem reports_react {s0 : State} (s : State) (n sev : Nat) (h : Reports s0 s) :
    Reports s0 (s.react n sev) := by
  unfold State.react
  try dsimp only
  repeat (first
    | with_reducible assumption
    | (with_reducible apply Reports.ite)
    | (refine reports_setBit _ _ _ rfl ?_)
    | with_reducible apply reports_askEscalate
    | with_reducible apply Reports.emit
    | (refine Reports.set _ _ (by first | rfl | exact reportField_ring _ (by assumption) (by simp only [HRG_RING_STATUS_INDEX, HRG_RING_STAT_DONE, HRG_RING_STAT_DROPS, HRG_RING_STATUS_STATE, HRG_RING_STATUS_CAUSE]; omega) (by simp only [HRG_RING_STATUS_INDEX, HRG_RING_STAT_DONE, HRG_RING_STAT_DROPS, HRG_RING_STATUS_STATE, HRG_RING_STATUS_CAUSE]; omega)) ?_)
    | with_reducible apply Reports.updFlt
    | (refine Reports.ofPair (by assumption) ?_)
    | (refine Reports.ofPair3 (by assumption) ?_)
    | split
    | dsimp only)

theorem reports_latchOne {s0 : State} (rdf : Nat) (s : State) (n : Nat) (h : Reports s0 s) :
    Reports s0 (State.latchOne rdf s n) := by
  unfold State.latchOne
  exact reports_react _ _ _ (reports_faultRecord _ _ _ _ (Reports.set _ _ rfl (reports_bump _ _ rfl h)))

theorem reports_captureFirst {s0 : State} (s : State) (new : Nat) (h : Reports s0 s) :
    Reports s0 (s.captureFirst new) := by
  unfold State.captureFirst
  try dsimp only
  repeat (first
    | with_reducible assumption
    | (with_reducible apply Reports.ite)
    | (refine reports_setB _ _ _ rfl ?_)
    | with_reducible apply Reports.emit
    | (refine Reports.set _ _ (by first | rfl | exact reportField_ring _ (by assumption) (by simp only [HRG_RING_STATUS_INDEX, HRG_RING_STAT_DONE, HRG_RING_STAT_DROPS, HRG_RING_STATUS_STATE, HRG_RING_STATUS_CAUSE]; omega) (by simp only [HRG_RING_STATUS_INDEX, HRG_RING_STAT_DONE, HRG_RING_STAT_DROPS, HRG_RING_STATUS_STATE, HRG_RING_STATUS_CAUSE]; omega)) ?_)
    | (refine Reports.ofPair (by assumption) ?_)
    | (refine Reports.ofPair3 (by assumption) ?_)
    | split
    | dsimp only)

theorem reports_latchNew {s0 : State} (s : State) (new rdf : Nat) (h : Reports s0 s) :
    Reports s0 (s.latchNew new rdf) := by
  unfold State.latchNew
  dsimp only
  apply Reports.ite h
  exact reports_hostEvent _ _ _ (Reports.foldl (fun n _ t ht => reports_latchOne rdf t n ht) (reports_captureFirst _ _ h))

theorem reports_raiseLines {s0 : State} (s : State) (mask : Nat) (h : Reports s0 s) :
    Reports s0 (s.raiseLines mask) := by
  unfold State.raiseLines
  try dsimp only
  repeat (first
    | with_reducible assumption
    | (with_reducible apply Reports.ite)
    | with_reducible apply reports_latchNew
    | with_reducible apply reports_showStatus
    | with_reducible apply Reports.emit
    | (refine Reports.set _ _ (by first | rfl | exact reportField_ring _ (by assumption) (by simp only [HRG_RING_STATUS_INDEX, HRG_RING_STAT_DONE, HRG_RING_STAT_DROPS, HRG_RING_STATUS_STATE, HRG_RING_STATUS_CAUSE]; omega) (by simp only [HRG_RING_STATUS_INDEX, HRG_RING_STAT_DONE, HRG_RING_STAT_DROPS, HRG_RING_STATUS_STATE, HRG_RING_STATUS_CAUSE]; omega)) ?_)
    | (refine Reports.ofPair (by assumption) ?_)
    | (refine Reports.ofPair3 (by assumption) ?_)
    | split
    | dsimp only)

theorem reports_stopTimers {s0 : State} (s : State) (h : Reports s0 s) :
    Reports s0 (s.stopTimers) := by
  unfold State.stopTimers
  try dsimp only
  repeat (first
    | with_reducible assumption
    | (with_reducible apply Reports.ite)
    | with_reducible apply Reports.emit
    | (refine Reports.set _ _ (by first | rfl | exact reportField_ring _ (by assumption) (by simp only [HRG_RING_STATUS_INDEX, HRG_RING_STAT_DONE, HRG_RING_STAT_DROPS, HRG_RING_STATUS_STATE, HRG_RING_STATUS_CAUSE]; omega) (by simp only [HRG_RING_STATUS_INDEX, HRG_RING_STAT_DONE, HRG_RING_STAT_DROPS, HRG_RING_STATUS_STATE, HRG_RING_STATUS_CAUSE]; omega)) ?_)
    | with_reducible apply Reports.updFlt
    | (refine Reports.ofPair (by assumption) ?_)
    | (refine Reports.ofPair3 (by assumption) ?_)
    | split
    | dsimp only)

theorem reports_clearRaw {s0 : State} (s : State) (mask : Nat) (h : Reports s0 s) :
    Reports s0 (s.clearRaw mask) := by
  unfold State.clearRaw
  try dsimp only
  repeat (first
    | with_reducible assumption
    | (with_reducible apply Reports.ite)
    | with_reducible apply reports_stopTimers
    | with_reducible apply reports_showStatus
    | with_reducible apply Reports.emit
    | (refine Reports.set _ _ (by first | rfl | exact reportField_ring _ (by assumption) (by simp only [HRG_RING_STATUS_INDEX, HRG_RING_STAT_DONE, HRG_RING_STAT_DROPS, HRG_RING_STATUS_STATE, HRG_RING_STATUS_CAUSE]; omega) (by simp only [HRG_RING_STATUS_INDEX, HRG_RING_STAT_DONE, HRG_RING_STAT_DROPS, HRG_RING_STATUS_STATE, HRG_RING_STATUS_CAUSE]; omega)) ?_)
    | (refine Reports.ofPair (by assumption) ?_)
    | (refine Reports.ofPair3 (by assumption) ?_)
    | split
    | dsimp only)

theorem reports_assertLine {s0 : State} (s : State) (n : Nat) (h : Reports s0 s) :
    Reports s0 (s.assertLine n) := by
  unfold State.assertLine
  try dsimp only
  repeat (first
    | with_reducible assumption
    | (with_reducible apply Reports.ite)
    | with_reducible apply reports_raiseLines
    | with_reducible apply Reports.emit
    | (refine Reports.set _ _ (by first | rfl | exact reportField_ring _ (by assumption) (by simp only [HRG_RING_STATUS_INDEX, HRG_RING_STAT_DONE, HRG_RING_STAT_DROPS, HRG_RING_STATUS_STATE, HRG_RING_STATUS_CAUSE]; omega) (by simp only [HRG_RING_STATUS_INDEX, HRG_RING_STAT_DONE, HRG_RING_STAT_DROPS, HRG_RING_STATUS_STATE, HRG_RING_STATUS_CAUSE]; omega)) ?_)
    | with_reducible apply Reports.updFlt
    | (refine Reports.ofPair (by assumption) ?_)
    | (refine Reports.ofPair3 (by assumption) ?_)
    | split
    | dsimp only)

theorem reports_dropLine {s0 : State} (s : State) (n : Nat) (h : Reports s0 s) :
    Reports s0 (s.dropLine n) := by
  unfold State.dropLine
  try dsimp only
  repeat (first
    | with_reducible assumption
    | (with_reducible apply Reports.ite)
    | with_reducible apply reports_clearRaw
    | with_reducible apply Reports.emit
    | (refine Reports.set _ _ (by first | rfl | exact reportField_ring _ (by assumption) (by simp only [HRG_RING_STATUS_INDEX, HRG_RING_STAT_DONE, HRG_RING_STAT_DROPS, HRG_RING_STATUS_STATE, HRG_RING_STATUS_CAUSE]; omega) (by simp only [HRG_RING_STATUS_INDEX, HRG_RING_STAT_DONE, HRG_RING_STAT_DROPS, HRG_RING_STATUS_STATE, HRG_RING_STATUS_CAUSE]; omega)) ?_)
    | with_reducible apply Reports.updFlt
    | (refine Reports.ofPair (by assumption) ?_)
    | (refine Reports.ofPair3 (by assumption) ?_)
    | split
    | dsimp only)

theorem reports_line {s0 : State} (s : State) (n : Nat) (on : Bool) (h : Reports s0 s) :
    Reports s0 (s.line n on) := by
  unfold State.line
  try dsimp only
  repeat (first
    | with_reducible assumption
    | (with_reducible apply Reports.ite)
    | with_reducible apply reports_assertLine
    | with_reducible apply reports_dropLine
    | with_reducible apply Reports.emit
    | (refine Reports.set _ _ (by first | rfl | exact reportField_ring _ (by assumption) (by simp only [HRG_RING_STATUS_INDEX, HRG_RING_STAT_DONE, HRG_RING_STAT_DROPS, HRG_RING_STATUS_STATE, HRG_RING_STATUS_CAUSE]; omega) (by simp only [HRG_RING_STATUS_INDEX, HRG_RING_STAT_DONE, HRG_RING_STAT_DROPS, HRG_RING_STATUS_STATE, HRG_RING_STATUS_CAUSE]; omega)) ?_)
    | (refine Reports.ofPair (by assumption) ?_)
    | (refine Reports.ofPair3 (by assumption) ?_)
    | split
    | dsimp only)

theorem reports_pulse {s0 : State} (s : State) (n : Nat) (h : Reports s0 s) :
    Reports s0 (s.pulse n) := by
  unfold State.pulse
  try dsimp only
  repeat (first
    | with_reducible assumption
    | (with_reducible apply Reports.ite)
    | with_reducible apply reports_raiseLines
    | with_reducible apply reports_clearRaw
    | with_reducible apply Reports.emit
    | (refine Reports.set _ _ (by first | rfl | exact reportField_ring _ (by assumption) (by simp only [HRG_RING_STATUS_INDEX, HRG_RING_STAT_DONE, HRG_RING_STAT_DROPS, HRG_RING_STATUS_STATE, HRG_RING_STATUS_CAUSE]; omega) (by simp only [HRG_RING_STATUS_INDEX, HRG_RING_STAT_DONE, HRG_RING_STAT_DROPS, HRG_RING_STATUS_STATE, HRG_RING_STATUS_CAUSE]; omega)) ?_)
    | (refine Reports.ofPair (by assumption) ?_)
    | (refine Reports.ofPair3 (by assumption) ?_)
    | split
    | dsimp only)

theorem reports_complete {s0 : State} (s : State) (k : Nat) (irq : Bool) (hk : k < 132) (h : Reports s0 s) :
    Reports s0 (s.complete k irq) := by
  unfold State.complete
  exact reports_signal _ _ _ (reports_writeBack _ _ (reports_bump _ _ (reportField_ring _ hk (by simp only [HRG_RING_STAT_DONE]; omega) (by simp only [HRG_RING_STAT_DONE]; omega))
    (reports_wrapUp _ _ (reportField_ring _ hk (by simp only [HRG_RING_STATUS_INDEX]; omega) (by simp only [HRG_RING_STATUS_INDEX]; omega)) h)))

theorem reports_ringPop {s0 : State} (s : State) (k : Nat) (h : Reports s0 s) :
    Reports s0 (s.ringPop k).2 := by
  exact reports_setRing _ _ _ h

theorem reports_completeTx {s0 : State} (s : State) (k status flows result : Nat) (hk : k < 132) (h : Reports s0 s) :
    Reports s0 (s.completeTx k status flows result) := by
  unfold State.completeTx
  dsimp only
  have drops : reportField (HRG_RING_STAT_DROPS k) = true := reportField_ring _ hk (by simp only [HRG_RING_STAT_DROPS]; omega) (by simp only [HRG_RING_STAT_DROPS]; omega)
  split
  · exact h
  · split
    · exact reports_complete _ _ _ hk (reports_hostPost _ _ _ (Reports.ite (reports_bump _ _ drops (reports_ringPop _ _ h))
        (reports_ringPop _ _ h)))
    · exact Reports.ite (reports_bump _ _ drops (reports_ringPop _ _ h)) (reports_ringPop _ _ h)

/-! ### Updates on both sides -/

/-- A set of any register on both sides. -/
theorem Reports.setCong {a b : State} (f : Field) (v : Nat) (h : Reports a b) : Reports (a.set f v) (b.set f v) := by
  refine ⟨fun g hg => ?_, ?_⟩
  · by_cases e : f.key = g.key
    · simp only [State.get, State.set, storeGet, storeSet, tabGet, ← e]
      split <;> simp
    · rw [State.get_set_ne _ _ e, State.get_set_ne _ _ e, h.get g hg]
  · have hr := h.rest
    unfold State.set
    dsimp only
    rw [hr]

theorem Reports.loadCong {a b : State} (l : List (Field × Nat)) (h : Reports a b) : Reports (a.load l) (b.load l) := by
  induction l generalizing a b with
  | nil => exact h
  | cons e l ih => exact ih (h.setCong e.1 e.2)

theorem Reports.uptime {a b : State} (h : Reports a b) : b.uptime = a.uptime := by
  have hr := h.rest
  rw [hr]

theorem Reports.uptimeCong {a b : State} (x : Nat) (h : Reports a b) : Reports { a with uptime := x } { b with uptime := x } := by
  refine ⟨h.get, ?_⟩
  have hr := h.rest
  dsimp only
  rw [hr]

theorem Reports.elapsed {a b : State} (h : Reports a b) : b.elapsed = a.elapsed := by
  have hr := h.rest
  rw [hr]

theorem Reports.elapsedCong {a b : State} (x : Nat) (h : Reports a b) : Reports { a with elapsed := x } { b with elapsed := x } := by
  refine ⟨h.get, ?_⟩
  have hr := h.rest
  dsimp only
  rw [hr]

theorem Reports.glb {a b : State} (h : Reports a b) : b.glb = a.glb := by
  have hr := h.rest
  rw [hr]

theorem Reports.glbCong {a b : State} (x : GlbState) (h : Reports a b) : Reports { a with glb := x } { b with glb := x } := by
  refine ⟨h.get, ?_⟩
  have hr := h.rest
  dsimp only
  rw [hr]

theorem Reports.otp {a b : State} (h : Reports a b) : b.otp = a.otp := by
  have hr := h.rest
  rw [hr]

theorem Reports.otpCong {a b : State} (x : OtpState) (h : Reports a b) : Reports { a with otp := x } { b with otp := x } := by
  refine ⟨h.get, ?_⟩
  have hr := h.rest
  dsimp only
  rw [hr]

theorem Reports.tim {a b : State} (h : Reports a b) : b.tim = a.tim := by
  have hr := h.rest
  rw [hr]

theorem Reports.timCong {a b : State} (x : TimState) (h : Reports a b) : Reports { a with tim := x } { b with tim := x } := by
  refine ⟨h.get, ?_⟩
  have hr := h.rest
  dsimp only
  rw [hr]

theorem Reports.pair {a b : State} (h : Reports a b) : b.pair = a.pair := by
  have hr := h.rest
  rw [hr]

theorem Reports.pairCong {a b : State} (x : PairState) (h : Reports a b) : Reports { a with pair := x } { b with pair := x } := by
  refine ⟨h.get, ?_⟩
  have hr := h.rest
  dsimp only
  rw [hr]

theorem Reports.slp {a b : State} (h : Reports a b) : b.slp = a.slp := by
  have hr := h.rest
  rw [hr]

theorem Reports.slpCong {a b : State} (x : SlpState) (h : Reports a b) : Reports { a with slp := x } { b with slp := x } := by
  refine ⟨h.get, ?_⟩
  have hr := h.rest
  dsimp only
  rw [hr]

theorem Reports.key {a b : State} (h : Reports a b) : b.key = a.key := by
  have hr := h.rest
  rw [hr]

theorem Reports.keyCong {a b : State} (x : KeyState) (h : Reports a b) : Reports { a with key := x } { b with key := x } := by
  refine ⟨h.get, ?_⟩
  have hr := h.rest
  dsimp only
  rw [hr]

theorem Reports.pwr {a b : State} (h : Reports a b) : b.pwr = a.pwr := by
  have hr := h.rest
  rw [hr]

theorem Reports.pwrCong {a b : State} (x : PwrState) (h : Reports a b) : Reports { a with pwr := x } { b with pwr := x } := by
  refine ⟨h.get, ?_⟩
  have hr := h.rest
  dsimp only
  rw [hr]

theorem Reports.pins {a b : State} (h : Reports a b) : b.pins = a.pins := by
  have hr := h.rest
  rw [hr]

theorem Reports.pinsCong {a b : State} (x : Pins) (h : Reports a b) : Reports { a with pins := x } { b with pins := x } := by
  refine ⟨h.get, ?_⟩
  have hr := h.rest
  dsimp only
  rw [hr]

theorem Reports.resume {a b : State} (h : Reports a b) : b.resume = a.resume := by
  have hr := h.rest
  rw [hr]

theorem Reports.resumeCong {a b : State} (x : Option Resume) (h : Reports a b) : Reports { a with resume := x } { b with resume := x } := by
  refine ⟨h.get, ?_⟩
  have hr := h.rest
  dsimp only
  rw [hr]

theorem Reports.latch {a b : State} (h : Reports a b) : b.latch = a.latch := by
  have hr := h.rest
  rw [hr]

theorem Reports.latchCong {a b : State} (x : Latches) (h : Reports a b) : Reports { a with latch := x } { b with latch := x } := by
  refine ⟨h.get, ?_⟩
  have hr := h.rest
  dsimp only
  rw [hr]

theorem Reports.ports {a b : State} (h : Reports a b) : b.ports = a.ports := by
  have hr := h.rest
  rw [hr]

theorem Reports.portsCong {a b : State} (x : Tab LinePort) (h : Reports a b) : Reports { a with ports := x } { b with ports := x } := by
  refine ⟨h.get, ?_⟩
  have hr := h.rest
  dsimp only
  rw [hr]

theorem Reports.ina {a b : State} (h : Reports a b) : b.ina = a.ina := by
  have hr := h.rest
  rw [hr]

theorem Reports.inaCong {a b : State} (x : InaState) (h : Reports a b) : Reports { a with ina := x } { b with ina := x } := by
  refine ⟨h.get, ?_⟩
  have hr := h.rest
  dsimp only
  rw [hr]

theorem Reports.cyc {a b : State} (h : Reports a b) : b.cyc = a.cyc := by
  have hr := h.rest
  rw [hr]

theorem Reports.cycCong {a b : State} (x : CycState) (h : Reports a b) : Reports { a with cyc := x } { b with cyc := x } := by
  refine ⟨h.get, ?_⟩
  have hr := h.rest
  dsimp only
  rw [hr]

theorem Reports.msg {a b : State} (h : Reports a b) : b.msg = a.msg := by
  have hr := h.rest
  rw [hr]

theorem Reports.msgCong {a b : State} (x : MsgState) (h : Reports a b) : Reports { a with msg := x } { b with msg := x } := by
  refine ⟨h.get, ?_⟩
  have hr := h.rest
  dsimp only
  rw [hr]

theorem Reports.can {a b : State} (h : Reports a b) : b.can = a.can := by
  have hr := h.rest
  rw [hr]

theorem Reports.canCong {a b : State} (x : Tab CanChannel) (h : Reports a b) : Reports { a with can := x } { b with can := x } := by
  refine ⟨h.get, ?_⟩
  have hr := h.rest
  dsimp only
  rw [hr]

theorem Reports.cst {a b : State} (h : Reports a b) : b.cst = a.cst := by
  have hr := h.rest
  rw [hr]

theorem Reports.cstCong {a b : State} (x : CstState) (h : Reports a b) : Reports { a with cst := x } { b with cst := x } := by
  refine ⟨h.get, ?_⟩
  have hr := h.rest
  dsimp only
  rw [hr]

theorem Reports.flw {a b : State} (h : Reports a b) : b.flw = a.flw := by
  have hr := h.rest
  rw [hr]

theorem Reports.flwCong {a b : State} (x : FlwState) (h : Reports a b) : Reports { a with flw := x } { b with flw := x } := by
  refine ⟨h.get, ?_⟩
  have hr := h.rest
  dsimp only
  rw [hr]

theorem Reports.brg {a b : State} (h : Reports a b) : b.brg = a.brg := by
  have hr := h.rest
  rw [hr]

theorem Reports.brgCong {a b : State} (x : BrgState) (h : Reports a b) : Reports { a with brg := x } { b with brg := x } := by
  refine ⟨h.get, ?_⟩
  have hr := h.rest
  dsimp only
  rw [hr]

theorem Reports.stk {a b : State} (h : Reports a b) : b.stk = a.stk := by
  have hr := h.rest
  rw [hr]

theorem Reports.stkCong {a b : State} (x : StkState) (h : Reports a b) : Reports { a with stk := x } { b with stk := x } := by
  refine ⟨h.get, ?_⟩
  have hr := h.rest
  dsimp only
  rw [hr]

theorem Reports.gtn {a b : State} (h : Reports a b) : b.gtn = a.gtn := by
  have hr := h.rest
  rw [hr]

theorem Reports.gtnCong {a b : State} (x : GtnState) (h : Reports a b) : Reports { a with gtn := x } { b with gtn := x } := by
  refine ⟨h.get, ?_⟩
  have hr := h.rest
  dsimp only
  rw [hr]

theorem Reports.gln {a b : State} (h : Reports a b) : b.gln = a.gln := by
  have hr := h.rest
  rw [hr]

theorem Reports.glnCong {a b : State} (x : GlnState) (h : Reports a b) : Reports { a with gln := x } { b with gln := x } := by
  refine ⟨h.get, ?_⟩
  have hr := h.rest
  dsimp only
  rw [hr]

theorem Reports.free {a b : State} (h : Reports a b) : b.free = a.free := by
  have hr := h.rest
  rw [hr]

theorem Reports.freeCong {a b : State} (x : Nat) (h : Reports a b) : Reports { a with free := x } { b with free := x } := by
  refine ⟨h.get, ?_⟩
  have hr := h.rest
  dsimp only
  rw [hr]

theorem Reports.pending {a b : State} (h : Reports a b) : b.pending = a.pending := by
  have hr := h.rest
  rw [hr]

theorem Reports.pendingCong {a b : State} (x : List Instr) (h : Reports a b) : Reports { a with pending := x } { b with pending := x } := by
  refine ⟨h.get, ?_⟩
  have hr := h.rest
  dsimp only
  rw [hr]

end Sys2Proof.Machine
end

