-- ==== Sys2Proof/Laws/Boot.lean ====
section
/-! SUPPORT. What an entry into BOOT leaves. -/

namespace Sys2Proof.Machine

open Reg

theorem tabFind_filter_none {α : Type} {k : Nat} {p : Nat × α → Bool} (hp : ∀ v, p (k, v) = false) (t : List (Nat × α)) :
    tabFind k (t.filter p) = none := by
  induction t with
  | nil => rfl
  | cons e t ih =>
    obtain ⟨a, v⟩ := e
    rw [List.filter_cons]
    split
    · rename_i h
      by_cases e : a = k
      · subst e; rw [hp v] at h; cases h
      · simp only [tabFind, if_neg e, ih]
    · exact ih

/-- A field that no reset keeps. -/
def neverKept (f : Field) : Bool :=
  !((keptAlways ++ keptPowered ++ keptWarm).any (fun g => g.key == f.key)) && !inSlpBlock f.key

theorem storeGet_bootRegs (kind : BootKind) (f : Field) (r : List (Nat × Nat)) (h : neverKept f = true) :
    storeGet f (bootRegs kind r) = f.reset % 2 ^ f.width := by
  unfold neverKept at h
  simp only [Bool.and_eq_true, Bool.not_eq_true', List.any_append, Bool.or_eq_false_iff] at h
  obtain ⟨⟨⟨h1, h2⟩, h3⟩, h4⟩ := h
  unfold storeGet tabGet
  have key : tabFind f.key (bootRegs kind r) = none := by
    unfold bootRegs keepFields
    cases kind <;> dsimp only <;> refine tabFind_filter_none (fun v => ?_) r <;>
      simp only [List.any_append, h1, h2, h3, h4, Bool.or_false]
  rw [key]; rfl

/-- A field that no reset keeps and no BOOT sets holds its reset value. -/
theorem State.get_cleared (s : State) (kind : BootKind) (f : Field) (h : neverKept f = true) :
    (s.cleared kind).get f = f.reset % 2 ^ f.width := storeGet_bootRegs kind f s.regs h

end Sys2Proof.Machine
end

