-- ==== Sys2Proof/Laws/Commands.lean ====
section
/-! SUPPORT. What a command of a block does, once: the effect of an accepted command on the state after its report, and the
report of a rejected one. -/

namespace Sys2Proof.Machine

/-- The path of a command is told its status; a descriptor's path keeps it. -/
def State.toldStatus (s : State) (path : Path) (base : Nat) (st : Status) : State :=
  match path with
  | .ring _ => s
  | _ => s.emit (.pathStatus path (cmdAddr base) st)

/-- An accepted command takes its effect on the state after its report, and its path is told. -/
theorem command_accepted (s : State) (c : CmdSpec) (path : Path) (arg : Nat) (h : s.accepts c path arg) :
    s.command c path arg = (c.run (arg % 65536) (s.begun c path arg)).toldStatus path c.base
      (if c.pends then .pending else .ok) := by
  unfold State.accepts at h
  unfold State.command State.runCmd State.begun State.toldStatus
  dsimp only
  rw [if_pos h, h]
  unfold State.acceptCmd
  cases hp : c.pends <;> cases path <;> simp

/-- The telling is a report. -/
theorem reports_toldStatus {a b : State} (path : Path) (base : Nat) (st : Status) (h : Reports a b) :
    Reports a (b.toldStatus path base st) := by
  unfold State.toldStatus
  split
  · exact h
  · exact Reports.emit _ h

/-- An accepted command does, up to reports, what its effect does on the state after its report. -/
theorem command_does (c : Instr) (s : State) (d : CmdSpec) (path : Path) (arg : Nat) (t : State)
    (he : exec c s = finish (s.command d path arg)) (h : s.accepts d path arg)
    (hr : Reports t (d.run (arg % 65536) (s.begun d path arg))) : Does c s t :=
  ⟨_, he.trans (by rw [command_accepted s d path arg h]; rfl), reports_toldStatus _ _ _ hr⟩

end Sys2Proof.Machine
end

