-- ==== Sys2Proof/Laws/Keeps.lean ====
section
/-! SUPPORT. What no command changes: the relation every operation of the machine keeps, and its closure. -/

namespace Sys2Proof.Machine

/-- What every command keeps: no fuse cell is unprogrammed, the queue of commands and elapsed time stay, and the
register store stays in rising order. -/
structure Keeps (a b : State) : Prop where
  otp : a.otp.cellsKept b.otp
  pending : b.pending = a.pending
  elapsed : b.elapsed = a.elapsed
  sorted : tabSorted a.regs = true → tabSorted b.regs = true

theorem OtpState.cellsKept_refl (o : OtpState) : o.cellsKept o :=
  ⟨Nat.le_refl _, Nat.le_refl _, Nat.le_refl _, Nat.le_refl _⟩

theorem OtpState.cellsKept_trans {a b c : OtpState} (h : a.cellsKept b) (k : b.cellsKept c) : a.cellsKept c :=
  ⟨Nat.le_trans h.1 k.1, Nat.le_trans h.2.1 k.2.1, Nat.le_trans h.2.2.1 k.2.2.1, Nat.le_trans h.2.2.2 k.2.2.2⟩

theorem Keeps.refl (s : State) : Keeps s s := ⟨s.otp.cellsKept_refl, rfl, rfl, id⟩

theorem Keeps.trans {a b c : State} (h : Keeps a b) (k : Keeps b c) : Keeps a c :=
  ⟨OtpState.cellsKept_trans h.otp k.otp, k.pending.trans h.pending, k.elapsed.trans h.elapsed, fun x => k.sorted (h.sorted x)⟩

theorem Keeps.ite {s0 a b : State} {c : Prop} [Decidable c] (ha : Keeps s0 a) (hb : Keeps s0 b) :
    Keeps s0 (if c then a else b) := by
  split <;> assumption

theorem Keeps.foldl {s0 : State} {α : Type} {g : State → α → State} {l : List α} {s : State}
    (hg : ∀ t a, Keeps s0 t → Keeps s0 (g t a)) (h : Keeps s0 s) : Keeps s0 (l.foldl g s) := by
  induction l generalizing s with
  | nil => exact h
  | cons a l ih => exact ih (hg s a h)

/-- A pair that a step answers, taken apart. -/
theorem Keeps.pair {s0 t : State} {α : Type} {x : α × State} {v : α} (e : x = (v, t)) (h : Keeps s0 x.2) :
    Keeps s0 t := by
  subst e; exact h

theorem Keeps.pair3 {s0 t : State} {α β : Type} {x : α × β × State} {v : α} {w : β} (e : x = (v, w, t))
    (h : Keeps s0 x.2.2) : Keeps s0 t := by
  subst e; exact h

/-- An update of fields other than the four. -/
theorem Keeps.upd {s0 t : State}
    {uptime' : Nat} {glb' : GlbState} {mram' : MramState} {rcd' : RecState} {rates' : List RateLimit} {flt' :
    FltState} {hrg' : HrgState} {tim' : TimState} {pair' : PairState} {slp' : SlpState} {key' : KeyState}
    {pwr' : PwrState} {pins' : Pins} {resume' : Option Resume} {latch' : Latches} {ports' : Tab LinePort}
    {ina' : InaState} {cyc' : CycState} {msg' : MsgState} {can' : Tab CanChannel} {cst' : CstState} {flw' :
    FlwState} {brg' : BrgState} {stk' : StkState} {gtn' : GtnState} {gln' : GlnState} {free' : Nat} {out' :
    List Emit}
    (h : Keeps s0 t) : Keeps s0
      (State.mk t.regs uptime' t.elapsed glb' t.otp mram' rcd' rates' flt' hrg' tim' pair' slp' key' pwr'
      pins' resume' latch' ports' ina' cyc' msg' can' cst' flw' brg' stk' gtn' gln' free' out' t.pending) :=
  ⟨h.otp, h.pending, h.elapsed, h.sorted⟩

/-- An update of the register store that keeps its order, among other fields. -/
theorem Keeps.updRegs {s0 t : State} {r : List (Nat × Nat)}
    {uptime' : Nat} {glb' : GlbState} {mram' : MramState} {rcd' : RecState} {rates' : List RateLimit} {flt' :
    FltState} {hrg' : HrgState} {tim' : TimState} {pair' : PairState} {slp' : SlpState} {key' : KeyState}
    {pwr' : PwrState} {pins' : Pins} {resume' : Option Resume} {latch' : Latches} {ports' : Tab LinePort}
    {ina' : InaState} {cyc' : CycState} {msg' : MsgState} {can' : Tab CanChannel} {cst' : CstState} {flw' :
    FlwState} {brg' : BrgState} {stk' : StkState} {gtn' : GtnState} {gln' : GlnState} {free' : Nat} {out' :
    List Emit}
    (hr : tabSorted t.regs = true → tabSorted r = true) (h : Keeps s0 t) : Keeps s0
      (State.mk r uptime' t.elapsed glb' t.otp mram' rcd' rates' flt' hrg' tim' pair' slp' key' pwr' pins'
      resume' latch' ports' ina' cyc' msg' can' cst' flw' brg' stk' gtn' gln' free' out' t.pending) :=
  ⟨h.otp, h.pending, h.elapsed, fun x => hr (h.sorted x)⟩

/-- An update of the OTP that keeps its cells, among other fields. -/
theorem Keeps.updOtp {s0 t : State} {o : OtpState}
    {uptime' : Nat} {glb' : GlbState} {mram' : MramState} {rcd' : RecState} {rates' : List RateLimit} {flt' :
    FltState} {hrg' : HrgState} {tim' : TimState} {pair' : PairState} {slp' : SlpState} {key' : KeyState}
    {pwr' : PwrState} {pins' : Pins} {resume' : Option Resume} {latch' : Latches} {ports' : Tab LinePort}
    {ina' : InaState} {cyc' : CycState} {msg' : MsgState} {can' : Tab CanChannel} {cst' : CstState} {flw' :
    FlwState} {brg' : BrgState} {stk' : StkState} {gtn' : GtnState} {gln' : GlnState} {free' : Nat} {out' :
    List Emit}
    (ho : t.otp.cellsKept o) (h : Keeps s0 t) : Keeps s0
      (State.mk t.regs uptime' t.elapsed glb' o mram' rcd' rates' flt' hrg' tim' pair' slp' key' pwr' pins'
      resume' latch' ports' ina' cyc' msg' can' cst' flw' brg' stk' gtn' gln' free' out' t.pending) :=
  ⟨OtpState.cellsKept_trans h.otp ho, h.pending, h.elapsed, h.sorted⟩

end Sys2Proof.Machine
end

