-- ==== Sys2Proof/Laws/KeepsOps.lean ====
section
/-! SUPPORT. The operations of `Sys2Proof/Machine/Ops.lean` keep what `Keeps` names. -/

set_option linter.unusedTactic false
set_option linter.unreachableTactic false

namespace Sys2Proof.Machine

theorem keeps_set {s0 : State} (s : State) (f : Field) (v : ℕ) (h : Keeps s0 s) :
    Keeps s0 (State.set s f v) := by
  exact ⟨h.otp, h.pending, h.elapsed, fun x => storeSet_sorted f v (h.sorted x)⟩

theorem keeps_setB {s0 : State} (s : State) (f : Field) (b : Bool) (h : Keeps s0 s) :
    Keeps s0 (State.setB s f b) := by
  unfold State.setB
  try dsimp only
  repeat (first
    | with_reducible assumption
    | with_reducible apply keeps_set
    | with_reducible apply Keeps.ite
    | (with_reducible apply Keeps.upd; with_reducible first | assumption | apply keeps_set | apply Keeps.ite)
    | (refine Keeps.pair (by assumption) ?_)
    | (refine Keeps.pair3 (by assumption) ?_)
    | (intro _ _ _)
    | (intro _ _)
    | (intro _)
    | split
    | dsimp only)

theorem keeps_add {s0 : State} (s : State) (f : Field) (n : ℕ) (h : Keeps s0 s) :
    Keeps s0 (State.add s f n) := by
  unfold State.add
  try dsimp only
  repeat (first
    | with_reducible assumption
    | with_reducible apply keeps_set
    | with_reducible apply Keeps.ite
    | (with_reducible apply Keeps.upd; with_reducible first | assumption | apply keeps_set | apply Keeps.ite)
    | (refine Keeps.pair (by assumption) ?_)
    | (refine Keeps.pair3 (by assumption) ?_)
    | (intro _ _ _)
    | (intro _ _)
    | (intro _)
    | split
    | dsimp only)

theorem keeps_bump {s0 : State} (s : State) (f : Field) (h : Keeps s0 s) :
    Keeps s0 (State.bump s f) := by
  unfold State.bump
  try dsimp only
  repeat (first
    | with_reducible assumption
    | with_reducible apply keeps_add
    | with_reducible apply Keeps.ite
    | (with_reducible apply Keeps.upd; with_reducible first | assumption | apply keeps_add | apply Keeps.ite)
    | (refine Keeps.pair (by assumption) ?_)
    | (refine Keeps.pair3 (by assumption) ?_)
    | (intro _ _ _)
    | (intro _ _)
    | (intro _)
    | split
    | dsimp only)

theorem keeps_wrapUp {s0 : State} (s : State) (f : Field) (h : Keeps s0 s) :
    Keeps s0 (State.wrapUp s f) := by
  unfold State.wrapUp
  try dsimp only
  repeat (first
    | with_reducible assumption
    | with_reducible apply keeps_set
    | with_reducible apply Keeps.ite
    | (with_reducible apply Keeps.upd; with_reducible first | assumption | apply keeps_set | apply Keeps.ite)
    | (refine Keeps.pair (by assumption) ?_)
    | (refine Keeps.pair3 (by assumption) ?_)
    | (intro _ _ _)
    | (intro _ _)
    | (intro _)
    | split
    | dsimp only)

theorem keeps_setBit {s0 : State} (s : State) (f : Field) (i : ℕ) (h : Keeps s0 s) :
    Keeps s0 (State.setBit s f i) := by
  unfold State.setBit
  try dsimp only
  repeat (first
    | with_reducible assumption
    | with_reducible apply keeps_set
    | with_reducible apply Keeps.ite
    | (with_reducible apply Keeps.upd; with_reducible first | assumption | apply keeps_set | apply Keeps.ite)
    | (refine Keeps.pair (by assumption) ?_)
    | (refine Keeps.pair3 (by assumption) ?_)
    | (intro _ _ _)
    | (intro _ _)
    | (intro _)
    | split
    | dsimp only)

theorem keeps_clearBit {s0 : State} (s : State) (f : Field) (i : ℕ) (h : Keeps s0 s) :
    Keeps s0 (State.clearBit s f i) := by
  unfold State.clearBit
  try dsimp only
  repeat (first
    | with_reducible assumption
    | with_reducible apply keeps_set
    | with_reducible apply Keeps.ite
    | (with_reducible apply Keeps.upd; with_reducible first | assumption | apply keeps_set | apply Keeps.ite)
    | (refine Keeps.pair (by assumption) ?_)
    | (refine Keeps.pair3 (by assumption) ?_)
    | (intro _ _ _)
    | (intro _ _)
    | (intro _)
    | split
    | dsimp only)

theorem keeps_load {s0 : State} (s : State) (l : List (Field × ℕ)) (h : Keeps s0 s) :
    Keeps s0 (State.load s l) := by
  unfold State.load
  try dsimp only
  repeat (first
    | with_reducible assumption
    | with_reducible apply keeps_set
    | with_reducible apply Keeps.ite
    | (with_reducible apply Keeps.foldl; intro _ _ _)
    | (with_reducible apply Keeps.upd; with_reducible first | assumption | apply keeps_set | apply Keeps.ite | (apply Keeps.foldl; intro _ _ _))
    | (refine Keeps.pair (by assumption) ?_)
    | (refine Keeps.pair3 (by assumption) ?_)
    | (intro _ _ _)
    | (intro _ _)
    | (intro _)
    | split
    | dsimp only)

theorem keeps_when {s0 : State} (s : State) (c : Bool) (f : State → State) (ha : ∀ t, Keeps s0 t → Keeps s0 (f t)) (h : Keeps s0 s) :
    Keeps s0 (State.when s c f) := by
  unfold State.when
  try dsimp only
  repeat (first
    | with_reducible assumption
    | with_reducible apply ha
    | with_reducible apply Keeps.ite
    | (with_reducible apply Keeps.upd; with_reducible first | assumption | apply ha | apply Keeps.ite)
    | (refine Keeps.pair (by assumption) ?_)
    | (refine Keeps.pair3 (by assumption) ?_)
    | (intro _ _ _)
    | (intro _ _)
    | (intro _)
    | split
    | dsimp only)

theorem keeps_emit {s0 : State} (s : State) (e : Emit) (h : Keeps s0 s) :
    Keeps s0 (State.emit s e) := by
  unfold State.emit
  try dsimp only
  repeat (first
    | with_reducible assumption
    | with_reducible apply Keeps.ite
    | (with_reducible apply Keeps.upd; with_reducible first | assumption | apply Keeps.ite)
    | (refine Keeps.pair (by assumption) ?_)
    | (refine Keeps.pair3 (by assumption) ?_)
    | (intro _ _ _)
    | (intro _ _)
    | (intro _)
    | split
    | dsimp only)

theorem keeps_draw {s0 : State} (s : State) (w : ℕ) (h : Keeps s0 s) :
    Keeps s0 (State.draw s w).2 := by
  unfold State.draw
  try dsimp only
  repeat (first
    | with_reducible assumption
    | with_reducible apply Keeps.ite
    | (with_reducible apply Keeps.upd; with_reducible first | assumption | apply Keeps.ite)
    | (refine Keeps.pair (by assumption) ?_)
    | (refine Keeps.pair3 (by assumption) ?_)
    | (intro _ _ _)
    | (intro _ _)
    | (intro _)
    | split
    | dsimp only)

theorem keeps_random {s0 : State} (s : State) (w : ℕ) (h : Keeps s0 s) :
    Keeps s0 (State.random s w).2 := by
  unfold State.random
  try dsimp only
  repeat (first
    | with_reducible assumption
    | with_reducible apply Keeps.ite
    | (with_reducible apply Keeps.upd; with_reducible first | assumption | apply Keeps.ite)
    | (refine Keeps.pair (by assumption) ?_)
    | (refine Keeps.pair3 (by assumption) ?_)
    | (intro _ _ _)
    | (intro _ _)
    | (intro _)
    | split
    | dsimp only)

theorem keeps_rateCheck {s0 : State} (s : State) (code : ℕ) (a : ℕ) (b : ℕ) (window : ℕ) (h : Keeps s0 s) :
    Keeps s0 (State.rateCheck s code a b window).2.2 := by
  unfold State.rateCheck
  try dsimp only
  repeat (first
    | with_reducible assumption
    | with_reducible apply Keeps.ite
    | (with_reducible apply Keeps.upd; with_reducible first | assumption | apply Keeps.ite)
    | (refine Keeps.pair (by assumption) ?_)
    | (refine Keeps.pair3 (by assumption) ?_)
    | (intro _ _ _)
    | (intro _ _)
    | (intro _)
    | split
    | dsimp only)

end Sys2Proof.Machine
end

