-- ==== Sys2Proof/Laws/KeepsFlags.lean ====
section
/-! SUPPORT. The operations of `Sys2Proof/Machine/Flags.lean` keep what `Keeps` names. -/

set_option linter.unusedTactic false
set_option linter.unreachableTactic false

namespace Sys2Proof.Machine

theorem keeps_showQueue {s0 : State} (s : State) (h : Keeps s0 s) :
    Keeps s0 (State.showQueue s) := by
  unfold State.showQueue
  try dsimp only
  repeat (first
    | with_reducible assumption
    | with_reducible apply keeps_set
    | with_reducible apply Keeps.ite
    | (with_reducible apply Keeps.upd; with_reducible first | assumption | apply keeps_set | apply Keeps.ite)
    | (refine Keeps.pair (by assumption) ?_)
    | (refine Keeps.pair3 (by assumption) ?_)
    | (intro _ _ _)
    | (intro _ _)
    | (intro _)
    | split
    | dsimp only)

theorem keeps_recPush {s0 : State} (s : State) (e : RecEvent) (h : Keeps s0 s) :
    Keeps s0 (State.recPush s e) := by
  unfold State.recPush
  try dsimp only
  repeat (first
    | with_reducible assumption
    | with_reducible apply keeps_showQueue
    | with_reducible apply Keeps.ite
    | (with_reducible apply Keeps.upd; with_reducible first | assumption | apply keeps_showQueue | apply Keeps.ite)
    | (refine Keeps.pair (by assumption) ?_)
    | (refine Keeps.pair3 (by assumption) ?_)
    | (intro _ _ _)
    | (intro _ _)
    | (intro _)
    | split
    | dsimp only)

theorem keeps_recRefuse {s0 : State} (s : State) (code : ℕ) (h : Keeps s0 s) :
    Keeps s0 (State.recRefuse s code) := by
  unfold State.recRefuse
  try dsimp only
  repeat (first
    | with_reducible assumption
    | with_reducible apply keeps_set
    | with_reducible apply Keeps.ite
    | (with_reducible apply Keeps.upd; with_reducible first | assumption | apply keeps_set | apply Keeps.ite)
    | (refine Keeps.pair (by assumption) ?_)
    | (refine Keeps.pair3 (by assumption) ?_)
    | (intro _ _ _)
    | (intro _ _)
    | (intro _)
    | split
    | dsimp only)

theorem keeps_pushLost {s0 : State} (s : State) (h : Keeps s0 s) :
    Keeps s0 (State.pushLost s) := by
  unfold State.pushLost
  try dsimp only
  repeat (first
    | with_reducible assumption
    | with_reducible apply keeps_showQueue
    | with_reducible apply Keeps.ite
    | (with_reducible apply Keeps.upd; with_reducible first | assumption | apply keeps_showQueue | apply Keeps.ite)
    | (refine Keeps.pair (by assumption) ?_)
    | (refine Keeps.pair3 (by assumption) ?_)
    | (intro _ _ _)
    | (intro _ _)
    | (intro _)
    | split
    | dsimp only)

theorem keeps_unmarkNext {s0 : State} (s : State) (h : Keeps s0 s) :
    Keeps s0 (State.unmarkNext s) := by
  unfold State.unmarkNext
  try dsimp only
  repeat (first
    | with_reducible assumption
    | with_reducible apply Keeps.ite
    | (with_reducible apply Keeps.upd; with_reducible first | assumption | apply Keeps.ite)
    | (refine Keeps.pair (by assumption) ?_)
    | (refine Keeps.pair3 (by assumption) ?_)
    | (intro _ _ _)
    | (intro _ _)
    | (intro _)
    | split
    | dsimp only)

theorem keeps_recTake {s0 : State} (s : State) (h : Keeps s0 s) :
    Keeps s0 (State.recTake s) := by
  unfold State.recTake
  try dsimp only
  repeat (first
    | with_reducible assumption
    | with_reducible apply keeps_pushLost
    | with_reducible apply keeps_unmarkNext
    | with_reducible apply keeps_showQueue
    | with_reducible apply Keeps.ite
    | (with_reducible apply Keeps.upd; with_reducible first | assumption | apply keeps_pushLost | apply keeps_unmarkNext | apply keeps_showQueue | apply Keeps.ite)
    | (refine Keeps.pair (by assumption) ?_)
    | (refine Keeps.pair3 (by assumption) ?_)
    | (intro _ _ _)
    | (intro _ _)
    | (intro _)
    | split
    | dsimp only)

theorem keeps_record {s0 : State} (s : State) (base : ℕ) (code : ℕ) (payload : Bytes) (h : Keeps s0 s) :
    Keeps s0 (State.record s base code payload) := by
  unfold State.record
  try dsimp only
  repeat (first
    | with_reducible assumption
    | with_reducible apply keeps_recTake
    | with_reducible apply keeps_recPush
    | with_reducible apply keeps_recRefuse
    | with_reducible apply Keeps.ite
    | (with_reducible apply Keeps.upd; with_reducible first | assumption | apply keeps_recTake | apply keeps_recPush | apply keeps_recRefuse | apply Keeps.ite)
    | (refine Keeps.pair (by assumption) ?_)
    | (refine Keeps.pair3 (by assumption) ?_)
    | (intro _ _ _)
    | (intro _ _)
    | (intro _)
    | split
    | dsimp only)

theorem keeps_setRing {s0 : State} (s : State) (k : ℕ) (r : RingState) (h : Keeps s0 s) :
    Keeps s0 (State.setRing s k r) := by
  unfold State.setRing
  try dsimp only
  repeat (first
    | with_reducible assumption
    | with_reducible apply Keeps.ite
    | (with_reducible apply Keeps.upd; with_reducible first | assumption | apply Keeps.ite)
    | (refine Keeps.pair (by assumption) ?_)
    | (refine Keeps.pair3 (by assumption) ?_)
    | (intro _ _ _)
    | (intro _ _)
    | (intro _)
    | split
    | dsimp only)

theorem keeps_hostPost {s0 : State} (s : State) (f : ℕ) (e : Emit) (h : Keeps s0 s) :
    Keeps s0 (State.hostPost s f e) := by
  unfold State.hostPost
  try dsimp only
  repeat (first
    | with_reducible assumption
    | with_reducible apply keeps_emit
    | with_reducible apply Keeps.ite
    | (with_reducible apply Keeps.upd; with_reducible first | assumption | apply keeps_emit | apply Keeps.ite)
    | (refine Keeps.pair (by assumption) ?_)
    | (refine Keeps.pair3 (by assumption) ?_)
    | (intro _ _ _)
    | (intro _ _)
    | (intro _)
    | split
    | dsimp only)

theorem keeps_sendMsix {s0 : State} (s : State) (f : ℕ) (v : ℕ) (h : Keeps s0 s) :
    Keeps s0 (State.sendMsix s f v) := by
  unfold State.sendMsix
  try dsimp only
  repeat (first
    | with_reducible assumption
    | with_reducible apply keeps_set
    | with_reducible apply keeps_hostPost
    | with_reducible apply Keeps.ite
    | (with_reducible apply Keeps.upd; with_reducible first | assumption | apply keeps_set | apply keeps_hostPost | apply Keeps.ite)
    | (refine Keeps.pair (by assumption) ?_)
    | (refine Keeps.pair3 (by assumption) ?_)
    | (intro _ _ _)
    | (intro _ _)
    | (intro _)
    | split
    | dsimp only)

theorem keeps_signalNow {s0 : State} (s : State) (k : ℕ) (h : Keeps s0 s) :
    Keeps s0 (State.signalNow s k) := by
  unfold State.signalNow
  try dsimp only
  repeat (first
    | with_reducible assumption
    | with_reducible apply keeps_sendMsix
    | with_reducible apply keeps_setRing
    | with_reducible apply Keeps.ite
    | (with_reducible apply Keeps.upd; with_reducible first | assumption | apply keeps_sendMsix | apply keeps_setRing | apply Keeps.ite)
    | (refine Keeps.pair (by assumption) ?_)
    | (refine Keeps.pair3 (by assumption) ?_)
    | (intro _ _ _)
    | (intro _ _)
    | (intro _)
    | split
    | dsimp only)

theorem keeps_signal {s0 : State} (s : State) (k : ℕ) (now : Bool) (h : Keeps s0 s) :
    Keeps s0 (State.signal s k now) := by
  unfold State.signal
  try dsimp only
  repeat (first
    | with_reducible assumption
    | with_reducible apply keeps_setRing
    | with_reducible apply keeps_signalNow
    | with_reducible apply Keeps.ite
    | (with_reducible apply Keeps.upd; with_reducible first | assumption | apply keeps_setRing | apply keeps_signalNow | apply Keeps.ite)
    | (refine Keeps.pair (by assumption) ?_)
    | (refine Keeps.pair3 (by assumption) ?_)
    | (intro _ _ _)
    | (intro _ _)
    | (intro _)
    | split
    | dsimp only)

theorem keeps_writeBack {s0 : State} (s : State) (k : ℕ) (h : Keeps s0 s) :
    Keeps s0 (State.writeBack s k) := by
  unfold State.writeBack
  try dsimp only
  repeat (first
    | with_reducible assumption
    | with_reducible apply keeps_hostPost
    | with_reducible apply Keeps.ite
    | (with_reducible apply Keeps.upd; with_reducible first | assumption | apply keeps_hostPost | apply Keeps.ite)
    | (refine Keeps.pair (by assumption) ?_)
    | (refine Keeps.pair3 (by assumption) ?_)
    | (intro _ _ _)
    | (intro _ _)
    | (intro _)
    | split
    | dsimp only)

theorem keeps_evWrite {s0 : State} (s : State) (g : ℕ) (entry : Bytes) (h : Keeps s0 s) :
    Keeps s0 (State.evWrite s g entry) := by
  unfold State.evWrite
  try dsimp only
  repeat (first
    | with_reducible assumption
    | with_reducible apply keeps_hostPost
    | with_reducible apply keeps_setRing
    | with_reducible apply keeps_bump
    | with_reducible apply keeps_wrapUp
    | with_reducible apply keeps_signal
    | with_reducible apply keeps_writeBack
    | with_reducible apply Keeps.ite
    | (with_reducible apply Keeps.upd; with_reducible first | assumption | apply keeps_hostPost | apply keeps_setRing | apply keeps_bump | apply keeps_wrapUp | apply keeps_signal | apply keeps_writeBack | apply Keeps.ite)
    | (refine Keeps.pair (by assumption) ?_)
    | (refine Keeps.pair3 (by assumption) ?_)
    | (intro _ _ _)
    | (intro _ _)
    | (intro _)
    | split
    | dsimp only)

theorem keeps_evPost {s0 : State} (s : State) (g : ℕ) (e : HostEv) (h : Keeps s0 s) :
    Keeps s0 (State.evPost s g e) := by
  unfold State.evPost
  try dsimp only
  repeat (first
    | with_reducible assumption
    | with_reducible apply keeps_evWrite
    | with_reducible apply keeps_setRing
    | with_reducible apply keeps_bump
    | with_reducible apply Keeps.ite
    | (with_reducible apply Keeps.upd; with_reducible first | assumption | apply keeps_evWrite | apply keeps_setRing | apply keeps_bump | apply Keeps.ite)
    | (refine Keeps.pair (by assumption) ?_)
    | (refine Keeps.pair3 (by assumption) ?_)
    | (intro _ _ _)
    | (intro _ _)
    | (intro _)
    | split
    | dsimp only)

theorem keeps_evDrain {s0 : State} (g : ℕ) (a1 : ℕ) (a2 : State) (h : Keeps s0 a2) :
    Keeps s0 (State.evDrain g a1 a2) := by
  induction a1 generalizing a2 with
  | zero =>
    unfold State.evDrain
    try dsimp only
    repeat (first
      | with_reducible assumption
      | with_reducible apply keeps_evWrite
      | with_reducible apply keeps_setRing
        | with_reducible apply Keeps.ite
      | (with_reducible apply Keeps.upd; with_reducible first | assumption | apply keeps_evWrite | apply keeps_setRing | apply Keeps.ite)
      | (refine Keeps.pair (by assumption) ?_)
      | (refine Keeps.pair3 (by assumption) ?_)
      | (intro _ _ _)
      | (intro _ _)
      | (intro _)
      | split
      | dsimp only)
  | succ n ih =>
    unfold State.evDrain
    try dsimp only
    repeat (first
      | with_reducible assumption
      | with_reducible apply keeps_evWrite
      | with_reducible apply keeps_setRing
      | with_reducible apply ih
      | with_reducible apply Keeps.ite
      | (with_reducible apply Keeps.upd; with_reducible first | assumption | apply keeps_evWrite | apply keeps_setRing | apply Keeps.ite)
      | (refine Keeps.pair (by assumption) ?_)
      | (refine Keeps.pair3 (by assumption) ?_)
      | (intro _ _ _)
      | (intro _ _)
      | (intro _)
      | split
      | dsimp only)

theorem keeps_groupEvent {s0 : State} (s : State) (g : ℕ) (code : ℕ) (payload : Bytes) (h : Keeps s0 s) :
    Keeps s0 (State.groupEvent s g code payload) := by
  unfold State.groupEvent
  try dsimp only
  repeat (first
    | with_reducible assumption
    | with_reducible apply keeps_evPost
    | with_reducible apply Keeps.ite
    | (with_reducible apply Keeps.upd; with_reducible first | assumption | apply keeps_evPost | apply Keeps.ite)
    | (refine Keeps.pair (by assumption) ?_)
    | (refine Keeps.pair3 (by assumption) ?_)
    | (intro _ _ _)
    | (intro _ _)
    | (intro _)
    | split
    | dsimp only)

theorem keeps_hostEvent {s0 : State} (s : State) (code : ℕ) (payload : Bytes) (h : Keeps s0 s) :
    Keeps s0 (State.hostEvent s code payload) := by
  unfold State.hostEvent
  try dsimp only
  repeat (first
    | with_reducible assumption
    | with_reducible apply keeps_groupEvent
    | with_reducible apply Keeps.ite
    | (with_reducible apply Keeps.foldl; intro _ _ _)
    | (with_reducible apply Keeps.upd; with_reducible first | assumption | apply keeps_groupEvent | apply Keeps.ite | (apply Keeps.foldl; intro _ _ _))
    | (refine Keeps.pair (by assumption) ?_)
    | (refine Keeps.pair3 (by assumption) ?_)
    | (intro _ _ _)
    | (intro _ _)
    | (intro _)
    | split
    | dsimp only)

theorem keeps_showStatus {s0 : State} (s : State) (h : Keeps s0 s) :
    Keeps s0 (State.showStatus s) := by
  unfold State.showStatus
  try dsimp only
  repeat (first
    | with_reducible assumption
    | with_reducible apply keeps_set
    | with_reducible apply Keeps.ite
    | (with_reducible apply Keeps.upd; with_reducible first | assumption | apply keeps_set | apply Keeps.ite)
    | (refine Keeps.pair (by assumption) ?_)
    | (refine Keeps.pair3 (by assumption) ?_)
    | (intro _ _ _)
    | (intro _ _)
    | (intro _)
    | split
    | dsimp only)

theorem keeps_faultRecord {s0 : State} (s : State) (n : ℕ) (sev : ℕ) (rdf : Bool) (h : Keeps s0 s) :
    Keeps s0 (State.faultRecord s n sev rdf) := by
  unfold State.faultRecord
  try dsimp only
  repeat (first
    | with_reducible assumption
    | with_reducible apply keeps_rateCheck
    | with_reducible apply keeps_record
    | with_reducible apply Keeps.ite
    | (with_reducible apply Keeps.upd; with_reducible first | assumption | apply keeps_rateCheck | apply keeps_record | apply Keeps.ite)
    | (refine Keeps.pair (by assumption) ?_)
    | (refine Keeps.pair3 (by assumption) ?_)
    | (intro _ _ _)
    | (intro _ _)
    | (intro _)
    | split
    | dsimp only)

theorem keeps_askEscalate {s0 : State} (s : State) (n : ℕ) (sev : ℕ) (cause : ℕ) (h : Keeps s0 s) :
    Keeps s0 (State.askEscalate s n sev cause) := by
  unfold State.askEscalate
  try dsimp only
  repeat (first
    | with_reducible assumption
    | with_reducible apply Keeps.ite
    | (with_reducible apply Keeps.upd; with_reducible first | assumption | apply Keeps.ite)
    | (refine Keeps.pair (by assumption) ?_)
    | (refine Keeps.pair3 (by assumption) ?_)
    | (intro _ _ _)
    | (intro _ _)
    | (intro _)
    | split
    | dsimp only)

theorem keeps_react {s0 : State} (s : State) (n : ℕ) (sev : ℕ) (h : Keeps s0 s) :
    Keeps s0 (State.react s n sev) := by
  unfold State.react
  try dsimp only
  repeat (first
    | with_reducible assumption
    | with_reducible apply keeps_askEscalate
    | with_reducible apply keeps_setBit
    | with_reducible apply Keeps.ite
    | (with_reducible apply Keeps.upd; with_reducible first | assumption | apply keeps_askEscalate | apply keeps_setBit | apply Keeps.ite)
    | (refine Keeps.pair (by assumption) ?_)
    | (refine Keeps.pair3 (by assumption) ?_)
    | (intro _ _ _)
    | (intro _ _)
    | (intro _)
    | split
    | dsimp only)

theorem keeps_latchOne {s0 : State} (rdf : ℕ) (s : State) (n : ℕ) (h : Keeps s0 s) :
    Keeps s0 (State.latchOne rdf s n) := by
  unfold State.latchOne
  try dsimp only
  repeat (first
    | with_reducible assumption
    | with_reducible apply keeps_react
    | with_reducible apply keeps_faultRecord
    | with_reducible apply keeps_set
    | with_reducible apply keeps_bump
    | with_reducible apply Keeps.ite
    | (with_reducible apply Keeps.upd; with_reducible first | assumption | apply keeps_react | apply keeps_faultRecord | apply keeps_set | apply keeps_bump | apply Keeps.ite)
    | (refine Keeps.pair (by assumption) ?_)
    | (refine Keeps.pair3 (by assumption) ?_)
    | (intro _ _ _)
    | (intro _ _)
    | (intro _)
    | split
    | dsimp only)

theorem keeps_captureFirst {s0 : State} (s : State) (new : ℕ) (h : Keeps s0 s) :
    Keeps s0 (State.captureFirst s new) := by
  unfold State.captureFirst
  try dsimp only
  repeat (first
    | with_reducible assumption
    | with_reducible apply keeps_set
    | with_reducible apply keeps_setB
    | with_reducible apply Keeps.ite
    | (with_reducible apply Keeps.upd; with_reducible first | assumption | apply keeps_set | apply keeps_setB | apply Keeps.ite)
    | (refine Keeps.pair (by assumption) ?_)
    | (refine Keeps.pair3 (by assumption) ?_)
    | (intro _ _ _)
    | (intro _ _)
    | (intro _)
    | split
    | dsimp only)

theorem keeps_latchNew {s0 : State} (s : State) (new : ℕ) (rdf : ℕ) (h : Keeps s0 s) :
    Keeps s0 (State.latchNew s new rdf) := by
  unfold State.latchNew
  try dsimp only
  repeat (first
    | with_reducible assumption
    | with_reducible apply keeps_captureFirst
    | with_reducible apply keeps_latchOne
    | with_reducible apply keeps_hostEvent
    | with_reducible apply Keeps.ite
    | (with_reducible apply Keeps.foldl; intro _ _ _)
    | (with_reducible apply Keeps.upd; with_reducible first | assumption | apply keeps_captureFirst | apply keeps_latchOne | apply keeps_hostEvent | apply Keeps.ite | (apply Keeps.foldl; intro _ _ _))
    | (refine Keeps.pair (by assumption) ?_)
    | (refine Keeps.pair3 (by assumption) ?_)
    | (intro _ _ _)
    | (intro _ _)
    | (intro _)
    | split
    | dsimp only)

theorem keeps_raiseLines {s0 : State} (s : State) (mask : ℕ) (h : Keeps s0 s) :
    Keeps s0 (State.raiseLines s mask) := by
  unfold State.raiseLines
  try dsimp only
  repeat (first
    | with_reducible assumption
    | with_reducible apply keeps_showStatus
    | with_reducible apply keeps_set
    | with_reducible apply keeps_latchNew
    | with_reducible apply Keeps.ite
    | (with_reducible apply Keeps.upd; with_reducible first | assumption | apply keeps_showStatus | apply keeps_set | apply keeps_latchNew | apply Keeps.ite)
    | (refine Keeps.pair (by assumption) ?_)
    | (refine Keeps.pair3 (by assumption) ?_)
    | (intro _ _ _)
    | (intro _ _)
    | (intro _)
    | split
    | dsimp only)

theorem keeps_stopTimers {s0 : State} (s : State) (h : Keeps s0 s) :
    Keeps s0 (State.stopTimers s) := by
  unfold State.stopTimers
  try dsimp only
  repeat (first
    | with_reducible assumption
    | with_reducible apply keeps_set
    | with_reducible apply Keeps.ite
    | (with_reducible apply Keeps.upd; with_reducible first | assumption | apply keeps_set | apply Keeps.ite)
    | (refine Keeps.pair (by assumption) ?_)
    | (refine Keeps.pair3 (by assumption) ?_)
    | (intro _ _ _)
    | (intro _ _)
    | (intro _)
    | split
    | dsimp only)

theorem keeps_clearRaw {s0 : State} (s : State) (mask : ℕ) (h : Keeps s0 s) :
    Keeps s0 (State.clearRaw s mask) := by
  unfold State.clearRaw
  try dsimp only
  repeat (first
    | with_reducible assumption
    | with_reducible apply keeps_stopTimers
    | with_reducible apply keeps_showStatus
    | with_reducible apply keeps_set
    | with_reducible apply Keeps.ite
    | (with_reducible apply Keeps.upd; with_reducible first | assumption | apply keeps_stopTimers | apply keeps_showStatus | apply keeps_set | apply Keeps.ite)
    | (refine Keeps.pair (by assumption) ?_)
    | (refine Keeps.pair3 (by assumption) ?_)
    | (intro _ _ _)
    | (intro _ _)
    | (intro _)
    | split
    | dsimp only)

theorem keeps_assertLine {s0 : State} (s : State) (n : ℕ) (h : Keeps s0 s) :
    Keeps s0 (State.assertLine s n) := by
  unfold State.assertLine
  try dsimp only
  repeat (first
    | with_reducible assumption
    | with_reducible apply keeps_raiseLines
    | with_reducible apply Keeps.ite
    | (with_reducible apply Keeps.upd; with_reducible first | assumption | apply keeps_raiseLines | apply Keeps.ite)
    | (refine Keeps.pair (by assumption) ?_)
    | (refine Keeps.pair3 (by assumption) ?_)
    | (intro _ _ _)
    | (intro _ _)
    | (intro _)
    | split
    | dsimp only)

theorem keeps_dropLine {s0 : State} (s : State) (n : ℕ) (h : Keeps s0 s) :
    Keeps s0 (State.dropLine s n) := by
  unfold State.dropLine
  try dsimp only
  repeat (first
    | with_reducible assumption
    | with_reducible apply keeps_clearRaw
    | with_reducible apply Keeps.ite
    | (with_reducible apply Keeps.upd; with_reducible first | assumption | apply keeps_clearRaw | apply Keeps.ite)
    | (refine Keeps.pair (by assumption) ?_)
    | (refine Keeps.pair3 (by assumption) ?_)
    | (intro _ _ _)
    | (intro _ _)
    | (intro _)
    | split
    | dsimp only)

theorem keeps_line {s0 : State} (s : State) (n : ℕ) (on : Bool) (h : Keeps s0 s) :
    Keeps s0 (State.line s n on) := by
  unfold State.line
  try dsimp only
  repeat (first
    | with_reducible assumption
    | with_reducible apply keeps_assertLine
    | with_reducible apply keeps_dropLine
    | with_reducible apply Keeps.ite
    | (with_reducible apply Keeps.upd; with_reducible first | assumption | apply keeps_assertLine | apply keeps_dropLine | apply Keeps.ite)
    | (refine Keeps.pair (by assumption) ?_)
    | (refine Keeps.pair3 (by assumption) ?_)
    | (intro _ _ _)
    | (intro _ _)
    | (intro _)
    | split
    | dsimp only)

theorem keeps_pulse {s0 : State} (s : State) (n : ℕ) (h : Keeps s0 s) :
    Keeps s0 (State.pulse s n) := by
  unfold State.pulse
  try dsimp only
  repeat (first
    | with_reducible assumption
    | with_reducible apply keeps_raiseLines
    | with_reducible apply keeps_clearRaw
    | with_reducible apply Keeps.ite
    | (with_reducible apply Keeps.upd; with_reducible first | assumption | apply keeps_raiseLines | apply keeps_clearRaw | apply Keeps.ite)
    | (refine Keeps.pair (by assumption) ?_)
    | (refine Keeps.pair3 (by assumption) ?_)
    | (intro _ _ _)
    | (intro _ _)
    | (intro _)
    | split
    | dsimp only)

theorem keeps_force {s0 : State} (s : State) (v : ℕ) (h : Keeps s0 s) :
    Keeps s0 (State.force s v) := by
  unfold State.force
  try dsimp only
  repeat (first
    | with_reducible assumption
    | with_reducible apply keeps_stopTimers
    | with_reducible apply keeps_showStatus
    | with_reducible apply keeps_load
    | with_reducible apply keeps_record
    | with_reducible apply keeps_latchNew
    | with_reducible apply Keeps.ite
    | (with_reducible apply Keeps.upd; with_reducible first | assumption | apply keeps_stopTimers | apply keeps_showStatus | apply keeps_load | apply keeps_record | apply keeps_latchNew | apply Keeps.ite)
    | (refine Keeps.pair (by assumption) ?_)
    | (refine Keeps.pair3 (by assumption) ?_)
    | (intro _ _ _)
    | (intro _ _)
    | (intro _)
    | split
    | dsimp only)

theorem keeps_clearWritten {s0 : State} (s : State) (mask : ℕ) (h : Keeps s0 s) :
    Keeps s0 (State.clearWritten s mask) := by
  unfold State.clearWritten
  try dsimp only
  repeat (first
    | with_reducible assumption
    | with_reducible apply keeps_clearRaw
    | with_reducible apply Keeps.ite
    | (with_reducible apply Keeps.upd; with_reducible first | assumption | apply keeps_clearRaw | apply Keeps.ite)
    | (refine Keeps.pair (by assumption) ?_)
    | (refine Keeps.pair3 (by assumption) ?_)
    | (intro _ _ _)
    | (intro _ _)
    | (intro _)
    | split
    | dsimp only)

end Sys2Proof.Machine
end

