-- ==== Sys2Proof/Laws/KeepsHrgOps.lean ====
section
/-! SUPPORT. The operations of `Sys2Proof/Machine/HrgOps.lean` keep what `Keeps` names. -/

set_option linter.unusedTactic false
set_option linter.unreachableTactic false

namespace Sys2Proof.Machine

theorem keeps_ringPop {s0 : State} (s : State) (k : ℕ) (h : Keeps s0 s) :
    Keeps s0 (State.ringPop s k).2 := by
  unfold State.ringPop
  try dsimp only
  repeat (first
    | with_reducible assumption
    | with_reducible apply keeps_setRing
    | with_reducible apply Keeps.ite
    | (with_reducible apply Keeps.upd; with_reducible first | assumption | apply keeps_setRing | apply Keeps.ite)
    | (refine Keeps.pair (by assumption) ?_)
    | (refine Keeps.pair3 (by assumption) ?_)
    | (intro _ _ _)
    | (intro _ _)
    | (intro _)
    | split
    | dsimp only)

theorem keeps_complete {s0 : State} (s : State) (k : ℕ) (irq : Bool) (h : Keeps s0 s) :
    Keeps s0 (State.complete s k irq) := by
  unfold State.complete
  try dsimp only
  repeat (first
    | with_reducible assumption
    | with_reducible apply keeps_signal
    | with_reducible apply keeps_writeBack
    | with_reducible apply keeps_bump
    | with_reducible apply keeps_wrapUp
    | with_reducible apply Keeps.ite
    | (with_reducible apply Keeps.upd; with_reducible first | assumption | apply keeps_signal | apply keeps_writeBack | apply keeps_bump | apply keeps_wrapUp | apply Keeps.ite)
    | (refine Keeps.pair (by assumption) ?_)
    | (refine Keeps.pair3 (by assumption) ?_)
    | (intro _ _ _)
    | (intro _ _)
    | (intro _)
    | split
    | dsimp only)

theorem keeps_completeTx {s0 : State} (s : State) (k : ℕ) (status : ℕ) (flows : ℕ) (result : ℕ) (h : Keeps s0 s) :
    Keeps s0 (State.completeTx s k status flows result) := by
  unfold State.completeTx
  try dsimp only
  repeat (first
    | with_reducible assumption
    | with_reducible apply keeps_ringPop
    | with_reducible apply keeps_bump
    | with_reducible apply keeps_complete
    | with_reducible apply keeps_hostPost
    | with_reducible apply Keeps.ite
    | (with_reducible apply Keeps.upd; with_reducible first | assumption | apply keeps_ringPop | apply keeps_bump | apply keeps_complete | apply keeps_hostPost | apply Keeps.ite)
    | (refine Keeps.pair (by assumption) ?_)
    | (refine Keeps.pair3 (by assumption) ?_)
    | (intro _ _ _)
    | (intro _ _)
    | (intro _)
    | split
    | dsimp only)

theorem keeps_rxDrop {s0 : State} (s : State) (k : ℕ) (h : Keeps s0 s) :
    Keeps s0 (State.rxDrop s k) := by
  unfold State.rxDrop
  try dsimp only
  repeat (first
    | with_reducible assumption
    | with_reducible apply keeps_bump
    | with_reducible apply keeps_groupEvent
    | with_reducible apply keeps_setRing
    | with_reducible apply Keeps.ite
    | (with_reducible apply Keeps.upd; with_reducible first | assumption | apply keeps_bump | apply keeps_groupEvent | apply keeps_setRing | apply Keeps.ite)
    | (refine Keeps.pair (by assumption) ?_)
    | (refine Keeps.pair3 (by assumption) ?_)
    | (intro _ _ _)
    | (intro _ _)
    | (intro _)
    | split
    | dsimp only)

theorem keeps_rxFill {s0 : State} (s : State) (k : ℕ) (srcCh : ℕ) (rflags : ℕ) (flow : ℕ) (item : Bytes) (h : Keeps s0 s) :
    Keeps s0 (State.rxFill s k srcCh rflags flow item) := by
  unfold State.rxFill
  try dsimp only
  repeat (first
    | with_reducible assumption
    | with_reducible apply keeps_rxDrop
    | with_reducible apply keeps_ringPop
    | with_reducible apply keeps_hostPost
    | with_reducible apply keeps_complete
    | with_reducible apply Keeps.ite
    | (with_reducible apply Keeps.upd; with_reducible first | assumption | apply keeps_rxDrop | apply keeps_ringPop | apply keeps_hostPost | apply keeps_complete | apply Keeps.ite)
    | (refine Keeps.pair (by assumption) ?_)
    | (refine Keeps.pair3 (by assumption) ?_)
    | (intro _ _ _)
    | (intro _ _)
    | (intro _)
    | split
    | dsimp only)

theorem keeps_ringError {s0 : State} (s : State) (k : ℕ) (cause : ℕ) (index : ℕ) (h : Keeps s0 s) :
    Keeps s0 (State.ringError s k cause index) := by
  unfold State.ringError
  try dsimp only
  repeat (first
    | with_reducible assumption
    | with_reducible apply keeps_set
    | with_reducible apply keeps_groupEvent
    | with_reducible apply keeps_pulse
    | with_reducible apply Keeps.ite
    | (with_reducible apply Keeps.upd; with_reducible first | assumption | apply keeps_set | apply keeps_groupEvent | apply keeps_pulse | apply Keeps.ite)
    | (refine Keeps.pair (by assumption) ?_)
    | (refine Keeps.pair3 (by assumption) ?_)
    | (intro _ _ _)
    | (intro _ _)
    | (intro _)
    | split
    | dsimp only)

end Sys2Proof.Machine
end

