-- ==== Sys2Proof/Laws/KeepsBrgOps.lean ====
section
/-! SUPPORT. The operations of `Sys2Proof/Machine/BrgOps.lean` keep what `Keeps` names. -/

set_option linter.unusedTactic false
set_option linter.unreachableTactic false

namespace Sys2Proof.Machine

theorem keeps_brgMap {s0 : State} (s : State) (f : BrgState → BrgState) (h : Keeps s0 s) :
    Keeps s0 (State.brgMap s f) := by
  unfold State.brgMap
  try dsimp only
  repeat (first
    | with_reducible assumption
    | with_reducible apply Keeps.ite
    | (with_reducible apply Keeps.upd; with_reducible first | assumption | apply Keeps.ite)
    | (refine Keeps.pair (by assumption) ?_)
    | (refine Keeps.pair3 (by assumption) ?_)
    | (intro _ _ _)
    | (intro _ _)
    | (intro _)
    | split
    | dsimp only)

theorem keeps_showPosted {s0 : State} (s : State) (h : Keeps s0 s) :
    Keeps s0 (State.showPosted s) := by
  unfold State.showPosted
  try dsimp only
  repeat (first
    | with_reducible assumption
    | with_reducible apply keeps_set
    | with_reducible apply Keeps.ite
    | (with_reducible apply Keeps.upd; with_reducible first | assumption | apply keeps_set | apply Keeps.ite)
    | (refine Keeps.pair (by assumption) ?_)
    | (refine Keeps.pair3 (by assumption) ?_)
    | (intro _ _ _)
    | (intro _ _)
    | (intro _)
    | split
    | dsimp only)

theorem keeps_brgEvent {s0 : State} (s : State) (who : ℕ) (code : ℕ) (payload : Bytes) (h : Keeps s0 s) :
    Keeps s0 (State.brgEvent s who code payload) := by
  unfold State.brgEvent
  try dsimp only
  repeat (first
    | with_reducible assumption
    | with_reducible apply keeps_groupEvent
    | with_reducible apply keeps_hostEvent
    | with_reducible apply Keeps.ite
    | (with_reducible apply Keeps.upd; with_reducible first | assumption | apply keeps_groupEvent | apply keeps_hostEvent | apply Keeps.ite)
    | (refine Keeps.pair (by assumption) ?_)
    | (refine Keeps.pair3 (by assumption) ?_)
    | (intro _ _ _)
    | (intro _ _)
    | (intro _)
    | split
    | dsimp only)

theorem keeps_postedFault {s0 : State} (s : State) (who : ℕ) (win : ℕ) (status : ℕ) (tag : ℕ) (offset : ℕ) (h : Keeps s0 s) :
    Keeps s0 (State.postedFault s who win status tag offset) := by
  unfold State.postedFault
  try dsimp only
  repeat (first
    | with_reducible assumption
    | with_reducible apply keeps_brgEvent
    | with_reducible apply keeps_set
    | with_reducible apply Keeps.ite
    | (with_reducible apply Keeps.upd; with_reducible first | assumption | apply keeps_brgEvent | apply keeps_set | apply Keeps.ite)
    | (refine Keeps.pair (by assumption) ?_)
    | (refine Keeps.pair3 (by assumption) ?_)
    | (intro _ _ _)
    | (intro _ _)
    | (intro _)
    | split
    | dsimp only)

theorem keeps_endOutLock {s0 : State} (s : State) (h : Keeps s0 s) :
    Keeps s0 (State.endOutLock s) := by
  unfold State.endOutLock
  try dsimp only
  repeat (first
    | with_reducible assumption
    | with_reducible apply keeps_set
    | with_reducible apply Keeps.ite
    | (with_reducible apply Keeps.upd; with_reducible first | assumption | apply keeps_set | apply Keeps.ite)
    | (refine Keeps.pair (by assumption) ?_)
    | (refine Keeps.pair3 (by assumption) ?_)
    | (intro _ _ _)
    | (intro _ _)
    | (intro _)
    | split
    | dsimp only)

theorem keeps_finishRequest {s0 : State} (s : State) (r : BrgReq) (status : ℕ) (data : ℕ) (h : Keeps s0 s) :
    Keeps s0 (State.finishRequest s r status data) := by
  unfold State.finishRequest
  try dsimp only
  repeat (first
    | with_reducible assumption
    | with_reducible apply keeps_brgMap
    | with_reducible apply keeps_endOutLock
    | with_reducible apply keeps_brgEvent
    | with_reducible apply keeps_set
    | with_reducible apply Keeps.ite
    | (with_reducible apply Keeps.upd; with_reducible first | assumption | apply keeps_brgMap | apply keeps_endOutLock | apply keeps_brgEvent | apply keeps_set | apply Keeps.ite)
    | (refine Keeps.pair (by assumption) ?_)
    | (refine Keeps.pair3 (by assumption) ?_)
    | (intro _ _ _)
    | (intro _ _)
    | (intro _)
    | split
    | dsimp only)

theorem keeps_postedMap {s0 : State} (s : State) (win : ℕ) (bseq : ℕ) (f : BrgReq → BrgReq) (h : Keeps s0 s) :
    Keeps s0 (State.postedMap s win bseq f) := by
  unfold State.postedMap
  try dsimp only
  repeat (first
    | with_reducible assumption
    | with_reducible apply keeps_brgMap
    | with_reducible apply Keeps.ite
    | (with_reducible apply Keeps.upd; with_reducible first | assumption | apply keeps_brgMap | apply Keeps.ite)
    | (refine Keeps.pair (by assumption) ?_)
    | (refine Keeps.pair3 (by assumption) ?_)
    | (intro _ _ _)
    | (intro _ _)
    | (intro _)
    | split
    | dsimp only)

theorem keeps_readMap {s0 : State} (s : State) (win : ℕ) (bseq : ℕ) (f : BrgReq → BrgReq) (h : Keeps s0 s) :
    Keeps s0 (State.readMap s win bseq f) := by
  unfold State.readMap
  try dsimp only
  repeat (first
    | with_reducible assumption
    | with_reducible apply keeps_brgMap
    | with_reducible apply Keeps.ite
    | (with_reducible apply Keeps.upd; with_reducible first | assumption | apply keeps_brgMap | apply Keeps.ite)
    | (refine Keeps.pair (by assumption) ?_)
    | (refine Keeps.pair3 (by assumption) ?_)
    | (intro _ _ _)
    | (intro _ _)
    | (intro _)
    | split
    | dsimp only)

theorem keeps_brgCopySent {s0 : State} (s : State) (win : ℕ) (bseq : ℕ) (h : Keeps s0 s) :
    Keeps s0 (State.brgCopySent s win bseq) := by
  unfold State.brgCopySent
  try dsimp only
  repeat (first
    | with_reducible assumption
    | with_reducible apply keeps_readMap
    | with_reducible apply keeps_postedMap
    | with_reducible apply Keeps.ite
    | (with_reducible apply Keeps.upd; with_reducible first | assumption | apply keeps_readMap | apply keeps_postedMap | apply Keeps.ite)
    | (refine Keeps.pair (by assumption) ?_)
    | (refine Keeps.pair3 (by assumption) ?_)
    | (intro _ _ _)
    | (intro _ _)
    | (intro _)
    | split
    | dsimp only)

theorem keeps_brgCopyDropped {s0 : State} (s : State) (win : ℕ) (bseq : ℕ) (status : ℕ) (h : Keeps s0 s) :
    Keeps s0 (State.brgCopyDropped s win bseq status) := by
  unfold State.brgCopyDropped
  try dsimp only
  repeat (first
    | with_reducible assumption
    | with_reducible apply keeps_readMap
    | with_reducible apply keeps_postedMap
    | with_reducible apply keeps_postedFault
    | with_reducible apply keeps_finishRequest
    | with_reducible apply Keeps.ite
    | (with_reducible apply Keeps.upd; with_reducible first | assumption | apply keeps_readMap | apply keeps_postedMap | apply keeps_postedFault | apply keeps_finishRequest | apply Keeps.ite)
    | (refine Keeps.pair (by assumption) ?_)
    | (refine Keeps.pair3 (by assumption) ?_)
    | (intro _ _ _)
    | (intro _ _)
    | (intro _)
    | split
    | dsimp only)

theorem keeps_endTargetLock {s0 : State} (s : State) (h : Keeps s0 s) :
    Keeps s0 (State.endTargetLock s) := by
  unfold State.endTargetLock
  try dsimp only
  repeat (first
    | with_reducible assumption
    | with_reducible apply keeps_set
    | with_reducible apply keeps_brgMap
    | with_reducible apply Keeps.ite
    | (with_reducible apply Keeps.upd; with_reducible first | assumption | apply keeps_set | apply keeps_brgMap | apply Keeps.ite)
    | (refine Keeps.pair (by assumption) ?_)
    | (refine Keeps.pair3 (by assumption) ?_)
    | (intro _ _ _)
    | (intro _ _)
    | (intro _)
    | split
    | dsimp only)

theorem keeps_refreshBridge {s0 : State} (s : State) (h : Keeps s0 s) :
    Keeps s0 (State.refreshBridge s) := by
  unfold State.refreshBridge
  try dsimp only
  repeat (first
    | with_reducible assumption
    | with_reducible apply keeps_setB
    | with_reducible apply keeps_endTargetLock
    | with_reducible apply Keeps.ite
    | (with_reducible apply Keeps.upd; with_reducible first | assumption | apply keeps_setB | apply keeps_endTargetLock | apply Keeps.ite)
    | (refine Keeps.pair (by assumption) ?_)
    | (refine Keeps.pair3 (by assumption) ?_)
    | (intro _ _ _)
    | (intro _ _)
    | (intro _)
    | split
    | dsimp only)

end Sys2Proof.Machine
end

