-- ==== Sys2Proof/Laws/KeepsMsgOps.lean ====
section
/-! SUPPORT. The operations of `Sys2Proof/Machine/MsgOps.lean` keep what `Keeps` names. -/

set_option linter.unusedTactic false
set_option linter.unreachableTactic false

namespace Sys2Proof.Machine

theorem keeps_msgMap {s0 : State} (s : State) (f : MsgState → MsgState) (h : Keeps s0 s) :
    Keeps s0 (State.msgMap s f) := by
  unfold State.msgMap
  try dsimp only
  repeat (first
    | with_reducible assumption
    | with_reducible apply Keeps.ite
    | (with_reducible apply Keeps.upd; with_reducible first | assumption | apply Keeps.ite)
    | (refine Keeps.pair (by assumption) ?_)
    | (refine Keeps.pair3 (by assumption) ?_)
    | (intro _ _ _)
    | (intro _ _)
    | (intro _)
    | split
    | dsimp only)

theorem keeps_setMsgQueue {s0 : State} (s : State) (p : ℕ) (c : ℕ) (q : List Queued) (h : Keeps s0 s) :
    Keeps s0 (State.setMsgQueue s p c q) := by
  unfold State.setMsgQueue
  try dsimp only
  repeat (first
    | with_reducible assumption
    | with_reducible apply keeps_msgMap
    | with_reducible apply Keeps.ite
    | (with_reducible apply Keeps.upd; with_reducible first | assumption | apply keeps_msgMap | apply Keeps.ite)
    | (refine Keeps.pair (by assumption) ?_)
    | (refine Keeps.pair3 (by assumption) ?_)
    | (intro _ _ _)
    | (intro _ _)
    | (intro _)
    | split
    | dsimp only)

theorem keeps_msgDropped {s0 : State} (s : State) (q : Queued) (status : ℕ) (h : Keeps s0 s) :
    Keeps s0 (State.msgDropped s q status) := by
  unfold State.msgDropped
  try dsimp only
  repeat (first
    | with_reducible assumption
    | with_reducible apply keeps_brgCopyDropped
    | with_reducible apply Keeps.ite
    | (with_reducible apply Keeps.upd; with_reducible first | assumption | apply keeps_brgCopyDropped | apply Keeps.ite)
    | (refine Keeps.pair (by assumption) ?_)
    | (refine Keeps.pair3 (by assumption) ?_)
    | (intro _ _ _)
    | (intro _ _)
    | (intro _)
    | split
    | dsimp only)

theorem keeps_queueDrop {s0 : State} (s : State) (q : Queued) (h : Keeps s0 s) :
    Keeps s0 (State.queueDrop s q) := by
  unfold State.queueDrop
  try dsimp only
  repeat (first
    | with_reducible assumption
    | with_reducible apply keeps_msgDropped
    | with_reducible apply keeps_set
    | with_reducible apply keeps_bump
    | with_reducible apply Keeps.ite
    | (with_reducible apply Keeps.upd; with_reducible first | assumption | apply keeps_msgDropped | apply keeps_set | apply keeps_bump | apply Keeps.ite)
    | (refine Keeps.pair (by assumption) ?_)
    | (refine Keeps.pair3 (by assumption) ?_)
    | (intro _ _ _)
    | (intro _ _)
    | (intro _)
    | split
    | dsimp only)

theorem keeps_enqueue {s0 : State} (s : State) (p : ℕ) (q : Queued) (h : Keeps s0 s) :
    Keeps s0 (State.enqueue s p q) := by
  unfold State.enqueue
  try dsimp only
  repeat (first
    | with_reducible assumption
    | with_reducible apply keeps_setMsgQueue
    | with_reducible apply keeps_queueDrop
    | with_reducible apply Keeps.ite
    | (with_reducible apply Keeps.upd; with_reducible first | assumption | apply keeps_setMsgQueue | apply keeps_queueDrop | apply Keeps.ite)
    | (refine Keeps.pair (by assumption) ?_)
    | (refine Keeps.pair3 (by assumption) ?_)
    | (intro _ _ _)
    | (intro _ _)
    | (intro _)
    | split
    | dsimp only)

theorem keeps_stackSend {s0 : State} (s : State) (f : MsgFrame) (h : Keeps s0 s) :
    Keeps s0 (State.stackSend s f) := by
  unfold State.stackSend
  try dsimp only
  repeat (first
    | with_reducible assumption
    | with_reducible apply keeps_emit
    | with_reducible apply Keeps.ite
    | (with_reducible apply Keeps.upd; with_reducible first | assumption | apply keeps_emit | apply Keeps.ite)
    | (refine Keeps.pair (by assumption) ?_)
    | (refine Keeps.pair3 (by assumption) ?_)
    | (intro _ _ _)
    | (intro _ _)
    | (intro _)
    | split
    | dsimp only)

theorem keeps_stackRelay {s0 : State} (s : State) (f : MsgFrame) (h : Keeps s0 s) :
    Keeps s0 (State.stackRelay s f) := by
  unfold State.stackRelay
  try dsimp only
  repeat (first
    | with_reducible assumption
    | with_reducible apply keeps_emit
    | with_reducible apply Keeps.ite
    | (with_reducible apply Keeps.upd; with_reducible first | assumption | apply keeps_emit | apply Keeps.ite)
    | (refine Keeps.pair (by assumption) ?_)
    | (refine Keeps.pair3 (by assumption) ?_)
    | (intro _ _ _)
    | (intro _ _)
    | (intro _)
    | split
    | dsimp only)

theorem keeps_unroutable {s0 : State} (s : State) (h : Keeps s0 s) :
    Keeps s0 (State.unroutable s) := by
  unfold State.unroutable
  try dsimp only
  repeat (first
    | with_reducible assumption
    | with_reducible apply keeps_set
    | with_reducible apply keeps_bump
    | with_reducible apply Keeps.ite
    | (with_reducible apply Keeps.upd; with_reducible first | assumption | apply keeps_set | apply keeps_bump | apply Keeps.ite)
    | (refine Keeps.pair (by assumption) ?_)
    | (refine Keeps.pair3 (by assumption) ?_)
    | (intro _ _ _)
    | (intro _ _)
    | (intro _)
    | split
    | dsimp only)

theorem keeps_flwMap {s0 : State} (s : State) (f : FlwState → FlwState) (h : Keeps s0 s) :
    Keeps s0 (State.flwMap s f) := by
  unfold State.flwMap
  try dsimp only
  repeat (first
    | with_reducible assumption
    | with_reducible apply Keeps.ite
    | (with_reducible apply Keeps.upd; with_reducible first | assumption | apply Keeps.ite)
    | (refine Keeps.pair (by assumption) ?_)
    | (refine Keeps.pair3 (by assumption) ?_)
    | (intro _ _ _)
    | (intro _ _)
    | (intro _)
    | split
    | dsimp only)

theorem keeps_offer {s0 : State} (s : State) (ch : ℕ) (i : Item) (h : Keeps s0 s) :
    Keeps s0 (State.offer s ch i) := by
  unfold State.offer
  try dsimp only
  repeat (first
    | with_reducible assumption
    | with_reducible apply keeps_pulse
    | with_reducible apply keeps_bump
    | with_reducible apply keeps_flwMap
    | with_reducible apply Keeps.ite
    | (with_reducible apply Keeps.upd; with_reducible first | assumption | apply keeps_pulse | apply keeps_bump | apply keeps_flwMap | apply Keeps.ite)
    | (refine Keeps.pair (by assumption) ?_)
    | (refine Keeps.pair3 (by assumption) ?_)
    | (intro _ _ _)
    | (intro _ _)
    | (intro _)
    | split
    | dsimp only)

theorem keeps_offerLegacy {s0 : State} (s : State) (k : ℕ) (f : MsgFrame) (h : Keeps s0 s) :
    Keeps s0 (State.offerLegacy s k f) := by
  unfold State.offerLegacy
  try dsimp only
  repeat (first
    | with_reducible assumption
    | with_reducible apply keeps_offer
    | with_reducible apply Keeps.ite
    | (with_reducible apply Keeps.upd; with_reducible first | assumption | apply keeps_offer | apply Keeps.ite)
    | (refine Keeps.pair (by assumption) ?_)
    | (refine Keeps.pair3 (by assumption) ?_)
    | (intro _ _ _)
    | (intro _ _)
    | (intro _)
    | split
    | dsimp only)

theorem keeps_deliver {s0 : State} (s : State) (ch : ℕ) (f : MsgFrame) (h : Keeps s0 s) :
    Keeps s0 (State.deliver s ch f) := by
  unfold State.deliver
  try dsimp only
  repeat (first
    | with_reducible assumption
    | with_reducible apply keeps_offerLegacy
    | with_reducible apply keeps_offer
    | with_reducible apply keeps_msgMap
    | with_reducible apply Keeps.ite
    | (with_reducible apply Keeps.upd; with_reducible first | assumption | apply keeps_offerLegacy | apply keeps_offer | apply keeps_msgMap | apply Keeps.ite)
    | (refine Keeps.pair (by assumption) ?_)
    | (refine Keeps.pair3 (by assumption) ?_)
    | (intro _ _ _)
    | (intro _ _)
    | (intro _)
    | split
    | dsimp only)

theorem keeps_deliverLegacy {s0 : State} (s : State) (ch : ℕ) (k : ℕ) (f : MsgFrame) (h : Keeps s0 s) :
    Keeps s0 (State.deliverLegacy s ch k f) := by
  unfold State.deliverLegacy
  try dsimp only
  repeat (first
    | with_reducible assumption
    | with_reducible apply keeps_offerLegacy
    | with_reducible apply keeps_deliver
    | with_reducible apply Keeps.ite
    | (with_reducible apply Keeps.upd; with_reducible first | assumption | apply keeps_offerLegacy | apply keeps_deliver | apply Keeps.ite)
    | (refine Keeps.pair (by assumption) ?_)
    | (refine Keeps.pair3 (by assumption) ?_)
    | (intro _ _ _)
    | (intro _ _)
    | (intro _)
    | split
    | dsimp only)

theorem keeps_sendEnd {s0 : State} (s : State) (e : ℕ) (q : Queued) (h : Keeps s0 s) :
    Keeps s0 (State.sendEnd s e q) := by
  unfold State.sendEnd
  try dsimp only
  repeat (first
    | with_reducible assumption
    | with_reducible apply keeps_enqueue
    | with_reducible apply Keeps.ite
    | (with_reducible apply Keeps.foldl; intro _ _ _)
    | (with_reducible apply Keeps.upd; with_reducible first | assumption | apply keeps_enqueue | apply Keeps.ite | (apply Keeps.foldl; intro _ _ _))
    | (refine Keeps.pair (by assumption) ?_)
    | (refine Keeps.pair3 (by assumption) ?_)
    | (intro _ _ _)
    | (intro _ _)
    | (intro _)
    | split
    | dsimp only)

theorem keeps_stampFrame {s0 : State} (s : State) (f : MsgFrame) (h : Keeps s0 s) :
    Keeps s0 (State.stampFrame s f).2 := by
  unfold State.stampFrame
  try dsimp only
  repeat (first
    | with_reducible assumption
    | with_reducible apply keeps_msgMap
    | with_reducible apply Keeps.ite
    | (with_reducible apply Keeps.upd; with_reducible first | assumption | apply keeps_msgMap | apply Keeps.ite)
    | (refine Keeps.pair (by assumption) ?_)
    | (refine Keeps.pair3 (by assumption) ?_)
    | (intro _ _ _)
    | (intro _ _)
    | (intro _)
    | split
    | dsimp only)

theorem keeps_routeOwn {s0 : State} (s : State) (f : MsgFrame) (owner : Option ℕ) (text : optParam (Option Bytes) none) (h : Keeps s0 s) :
    Keeps s0 (State.routeOwn s f owner text) := by
  unfold State.routeOwn
  try dsimp only
  repeat (first
    | with_reducible assumption
    | with_reducible apply keeps_deliver
    | with_reducible apply keeps_unroutable
    | with_reducible apply keeps_stackSend
    | with_reducible apply keeps_sendEnd
    | with_reducible apply keeps_deliverLegacy
    | with_reducible apply Keeps.ite
    | (with_reducible apply Keeps.foldl; intro _ _ _)
    | (with_reducible apply Keeps.upd; with_reducible first | assumption | apply keeps_deliver | apply keeps_unroutable | apply keeps_stackSend | apply keeps_sendEnd | apply keeps_deliverLegacy | apply Keeps.ite | (apply Keeps.foldl; intro _ _ _))
    | (refine Keeps.pair (by assumption) ?_)
    | (refine Keeps.pair3 (by assumption) ?_)
    | (intro _ _ _)
    | (intro _ _)
    | (intro _)
    | split
    | dsimp only)

theorem keeps_originate {s0 : State} (s : State) (f : MsgFrame) (owner : Option ℕ) (h : Keeps s0 s) :
    Keeps s0 (State.originate s f owner) := by
  unfold State.originate
  try dsimp only
  repeat (first
    | with_reducible assumption
    | with_reducible apply keeps_stampFrame
    | with_reducible apply keeps_routeOwn
    | with_reducible apply Keeps.ite
    | (with_reducible apply Keeps.upd; with_reducible first | assumption | apply keeps_stampFrame | apply keeps_routeOwn | apply Keeps.ite)
    | (refine Keeps.pair (by assumption) ?_)
    | (refine Keeps.pair3 (by assumption) ?_)
    | (intro _ _ _)
    | (intro _ _)
    | (intro _)
    | split
    | dsimp only)

theorem keeps_freeRefused {s0 : State} (s : State) (h : Keeps s0 s) :
    Keeps s0 (State.freeRefused s) := by
  unfold State.freeRefused
  try dsimp only
  repeat (first
    | with_reducible assumption
    | with_reducible apply keeps_brgMap
    | with_reducible apply keeps_originate
    | with_reducible apply Keeps.ite
    | (with_reducible apply Keeps.foldl; intro _ _ _)
    | (with_reducible apply Keeps.upd; with_reducible first | assumption | apply keeps_brgMap | apply keeps_originate | apply Keeps.ite | (apply Keeps.foldl; intro _ _ _))
    | (refine Keeps.pair (by assumption) ?_)
    | (refine Keeps.pair3 (by assumption) ?_)
    | (intro _ _ _)
    | (intro _ _)
    | (intro _)
    | split
    | dsimp only)

end Sys2Proof.Machine
end

