-- ==== Sys2Proof/Laws/KeepsCanOps.lean ====
section
/-! SUPPORT. The operations of `Sys2Proof/Machine/CanOps.lean` keep what `Keeps` names. -/

set_option linter.unusedTactic false
set_option linter.unreachableTactic false

namespace Sys2Proof.Machine

theorem keeps_setChan {s0 : State} (s : State) (n : ℕ) (c : CanChannel) (h : Keeps s0 s) :
    Keeps s0 (State.setChan s n c) := by
  unfold State.setChan
  try dsimp only
  repeat (first
    | with_reducible assumption
    | with_reducible apply keeps_set
    | with_reducible apply keeps_setB
    | with_reducible apply Keeps.ite
    | (with_reducible apply Keeps.upd; with_reducible first | assumption | apply keeps_set | apply keeps_setB | apply Keeps.ite)
    | (refine Keeps.pair (by assumption) ?_)
    | (refine Keeps.pair3 (by assumption) ?_)
    | (intro _ _ _)
    | (intro _ _)
    | (intro _)
    | split
    | dsimp only)

theorem keeps_chanMap {s0 : State} (s : State) (n : ℕ) (f : CanChannel → CanChannel) (h : Keeps s0 s) :
    Keeps s0 (State.chanMap s n f) := by
  unfold State.chanMap
  try dsimp only
  repeat (first
    | with_reducible assumption
    | with_reducible apply keeps_setChan
    | with_reducible apply Keeps.ite
    | (with_reducible apply Keeps.upd; with_reducible first | assumption | apply keeps_setChan | apply Keeps.ite)
    | (refine Keeps.pair (by assumption) ?_)
    | (refine Keeps.pair3 (by assumption) ?_)
    | (intro _ _ _)
    | (intro _ _)
    | (intro _)
    | split
    | dsimp only)

theorem keeps_showCycleTime {s0 : State} (s : State) (c : ℕ) (h : Keeps s0 s) :
    Keeps s0 (State.showCycleTime s c) := by
  unfold State.showCycleTime
  try dsimp only
  repeat (first
    | with_reducible assumption
    | with_reducible apply keeps_set
    | with_reducible apply Keeps.ite
    | (with_reducible apply Keeps.upd; with_reducible first | assumption | apply keeps_set | apply Keeps.ite)
    | (refine Keeps.pair (by assumption) ?_)
    | (refine Keeps.pair3 (by assumption) ?_)
    | (intro _ _ _)
    | (intro _ _)
    | (intro _)
    | split
    | dsimp only)

theorem keeps_txStatus {s0 : State} (s : State) (report : Option (ℕ × ℕ)) (status : ℕ) (sof : ℕ) (h : Keeps s0 s) :
    Keeps s0 (State.txStatus s report status sof) := by
  unfold State.txStatus
  try dsimp only
  repeat (first
    | with_reducible assumption
    | with_reducible apply keeps_groupEvent
    | with_reducible apply Keeps.ite
    | (with_reducible apply Keeps.upd; with_reducible first | assumption | apply keeps_groupEvent | apply Keeps.ite)
    | (refine Keeps.pair (by assumption) ?_)
    | (refine Keeps.pair3 (by assumption) ?_)
    | (intro _ _ _)
    | (intro _ _)
    | (intro _)
    | split
    | dsimp only)

theorem keeps_canComplete {s0 : State} (s : State) (n : ℕ) (e : CanEntry) (status : ℕ) (h : Keeps s0 s) :
    Keeps s0 (State.canComplete s n e status) := by
  unfold State.canComplete
  try dsimp only
  repeat (first
    | with_reducible assumption
    | with_reducible apply keeps_setChan
    | with_reducible apply keeps_bump
    | with_reducible apply keeps_txStatus
    | with_reducible apply Keeps.ite
    | (with_reducible apply Keeps.upd; with_reducible first | assumption | apply keeps_setChan | apply keeps_bump | apply keeps_txStatus | apply Keeps.ite)
    | (refine Keeps.pair (by assumption) ?_)
    | (refine Keeps.pair3 (by assumption) ?_)
    | (intro _ _ _)
    | (intro _ _)
    | (intro _)
    | split
    | dsimp only)

theorem keeps_canCompleteAll {s0 : State} (s : State) (n : ℕ) (status : ℕ) (l : List CanEntry) (h : Keeps s0 s) :
    Keeps s0 (State.canCompleteAll s n status l) := by
  unfold State.canCompleteAll
  try dsimp only
  repeat (first
    | with_reducible assumption
    | with_reducible apply keeps_canComplete
    | with_reducible apply Keeps.ite
    | (with_reducible apply Keeps.foldl; intro _ _ _)
    | (with_reducible apply Keeps.upd; with_reducible first | assumption | apply keeps_canComplete | apply Keeps.ite | (apply Keeps.foldl; intro _ _ _))
    | (refine Keeps.pair (by assumption) ?_)
    | (refine Keeps.pair3 (by assumption) ?_)
    | (intro _ _ _)
    | (intro _ _)
    | (intro _)
    | split
    | dsimp only)

theorem keeps_canStopEntries {s0 : State} (s : State) (n : ℕ) (h : Keeps s0 s) :
    Keeps s0 (State.canStopEntries s n) := by
  unfold State.canStopEntries
  try dsimp only
  repeat (first
    | with_reducible assumption
    | with_reducible apply keeps_chanMap
    | with_reducible apply keeps_canCompleteAll
    | with_reducible apply Keeps.ite
    | (with_reducible apply Keeps.upd; with_reducible first | assumption | apply keeps_chanMap | apply keeps_canCompleteAll | apply Keeps.ite)
    | (refine Keeps.pair (by assumption) ?_)
    | (refine Keeps.pair3 (by assumption) ?_)
    | (intro _ _ _)
    | (intro _ _)
    | (intro _)
    | split
    | dsimp only)

theorem keeps_canEnqueue {s0 : State} (s : State) (n : ℕ) (element : Bytes) (flow : ℕ) (report : Option (ℕ × ℕ)) (h : Keeps s0 s) :
    Keeps s0 (State.canEnqueue s n element flow report) := by
  unfold State.canEnqueue
  try dsimp only
  repeat (first
    | with_reducible assumption
    | with_reducible apply keeps_txStatus
    | with_reducible apply keeps_bump
    | with_reducible apply keeps_canComplete
    | with_reducible apply keeps_setChan
    | with_reducible apply Keeps.ite
    | (with_reducible apply Keeps.upd; with_reducible first | assumption | apply keeps_txStatus | apply keeps_bump | apply keeps_canComplete | apply keeps_setChan | apply Keeps.ite)
    | (refine Keeps.pair (by assumption) ?_)
    | (refine Keeps.pair3 (by assumption) ?_)
    | (intro _ _ _)
    | (intro _ _)
    | (intro _)
    | split
    | dsimp only)

theorem keeps_canEnterListen {s0 : State} (s : State) (n : ℕ) (forced : Bool) (h : Keeps s0 s) :
    Keeps s0 (State.canEnterListen s n forced) := by
  unfold State.canEnterListen
  try dsimp only
  repeat (first
    | with_reducible assumption
    | with_reducible apply keeps_chanMap
    | with_reducible apply keeps_set
    | with_reducible apply keeps_canStopEntries
    | with_reducible apply Keeps.ite
    | (with_reducible apply Keeps.upd; with_reducible first | assumption | apply keeps_chanMap | apply keeps_set | apply keeps_canStopEntries | apply Keeps.ite)
    | (refine Keeps.pair (by assumption) ?_)
    | (refine Keeps.pair3 (by assumption) ?_)
    | (intro _ _ _)
    | (intro _ _)
    | (intro _)
    | split
    | dsimp only)

theorem keeps_canIntegrate {s0 : State} (s : State) (n : ℕ) (h : Keeps s0 s) :
    Keeps s0 (State.canIntegrate s n) := by
  unfold State.canIntegrate
  try dsimp only
  repeat (first
    | with_reducible assumption
    | with_reducible apply keeps_chanMap
    | with_reducible apply keeps_set
    | with_reducible apply Keeps.ite
    | (with_reducible apply Keeps.upd; with_reducible first | assumption | apply keeps_chanMap | apply keeps_set | apply Keeps.ite)
    | (refine Keeps.pair (by assumption) ?_)
    | (refine Keeps.pair3 (by assumption) ?_)
    | (intro _ _ _)
    | (intro _ _)
    | (intro _)
    | split
    | dsimp only)

theorem keeps_canFollow {s0 : State} (s : State) (n : ℕ) (h : Keeps s0 s) :
    Keeps s0 (State.canFollow s n) := by
  unfold State.canFollow
  try dsimp only
  repeat (first
    | with_reducible assumption
    | with_reducible apply keeps_canEnterListen
    | with_reducible apply keeps_canIntegrate
    | with_reducible apply keeps_canStopEntries
    | with_reducible apply Keeps.ite
    | (with_reducible apply Keeps.upd; with_reducible first | assumption | apply keeps_canEnterListen | apply keeps_canIntegrate | apply keeps_canStopEntries | apply Keeps.ite)
    | (refine Keeps.pair (by assumption) ?_)
    | (refine Keeps.pair3 (by assumption) ?_)
    | (intro _ _ _)
    | (intro _ _)
    | (intro _)
    | split
    | dsimp only)

theorem keeps_canFollowAll {s0 : State} (s : State) (h : Keeps s0 s) :
    Keeps s0 (State.canFollowAll s) := by
  unfold State.canFollowAll
  try dsimp only
  repeat (first
    | with_reducible assumption
    | with_reducible apply keeps_canFollow
    | with_reducible apply Keeps.ite
    | (with_reducible apply Keeps.foldl; intro _ _ _)
    | (with_reducible apply Keeps.upd; with_reducible first | assumption | apply keeps_canFollow | apply Keeps.ite | (apply Keeps.foldl; intro _ _ _))
    | (refine Keeps.pair (by assumption) ?_)
    | (refine Keeps.pair3 (by assumption) ?_)
    | (intro _ _ _)
    | (intro _ _)
    | (intro _)
    | split
    | dsimp only)

end Sys2Proof.Machine
end

