-- ==== Sys2Proof/Laws/KeepsKeyOps.lean ====
section
/-! SUPPORT. The operations of `Sys2Proof/Machine/KeyOps.lean` keep what `Keeps` names. -/

set_option linter.unusedTactic false
set_option linter.unreachableTactic false

namespace Sys2Proof.Machine

theorem keeps_setBank {s0 : State} (s : State) (slot : ℕ) (b : ℕ) (k : KeyBank) (h : Keeps s0 s) :
    Keeps s0 (State.setBank s slot b k) := by
  unfold State.setBank
  try dsimp only
  repeat (first
    | with_reducible assumption
    | with_reducible apply Keeps.ite
    | (with_reducible apply Keeps.upd; with_reducible first | assumption | apply Keeps.ite)
    | (refine Keeps.pair (by assumption) ?_)
    | (refine Keeps.pair3 (by assumption) ?_)
    | (intro _ _ _)
    | (intro _ _)
    | (intro _)
    | split
    | dsimp only)

theorem keeps_showSlot {s0 : State} (s : State) (slot : ℕ) (h : Keeps s0 s) :
    Keeps s0 (State.showSlot s slot) := by
  unfold State.showSlot
  try dsimp only
  repeat (first
    | with_reducible assumption
    | with_reducible apply keeps_set
    | with_reducible apply Keeps.ite
    | (with_reducible apply Keeps.upd; with_reducible first | assumption | apply keeps_set | apply Keeps.ite)
    | (refine Keeps.pair (by assumption) ?_)
    | (refine Keeps.pair3 (by assumption) ?_)
    | (intro _ _ _)
    | (intro _ _)
    | (intro _)
    | split
    | dsimp only)

theorem keeps_showSlots {s0 : State} (s : State) (h : Keeps s0 s) :
    Keeps s0 (State.showSlots s) := by
  unfold State.showSlots
  try dsimp only
  repeat (first
    | with_reducible assumption
    | with_reducible apply keeps_showSlot
    | with_reducible apply Keeps.ite
    | (with_reducible apply Keeps.foldl; intro _ _ _)
    | (with_reducible apply Keeps.upd; with_reducible first | assumption | apply keeps_showSlot | apply Keeps.ite | (apply Keeps.foldl; intro _ _ _))
    | (refine Keeps.pair (by assumption) ?_)
    | (refine Keeps.pair3 (by assumption) ?_)
    | (intro _ _ _)
    | (intro _ _)
    | (intro _)
    | split
    | dsimp only)

theorem keeps_renewNonce {s0 : State} (s : State) (h : Keeps s0 s) :
    Keeps s0 (State.renewNonce s) := by
  unfold State.renewNonce
  try dsimp only
  repeat (first
    | with_reducible assumption
    | with_reducible apply keeps_random
    | with_reducible apply keeps_set
    | with_reducible apply Keeps.ite
    | (with_reducible apply Keeps.upd; with_reducible first | assumption | apply keeps_random | apply keeps_set | apply Keeps.ite)
    | (refine Keeps.pair (by assumption) ?_)
    | (refine Keeps.pair3 (by assumption) ?_)
    | (intro _ _ _)
    | (intro _ _)
    | (intro _)
    | split
    | dsimp only)

end Sys2Proof.Machine
end

