-- ==== Sys2Proof/Laws/KeepsFlwOps.lean ====
section
/-! SUPPORT. The operations of `Sys2Proof/Machine/FlwOps.lean` keep what `Keeps` names. -/

set_option linter.unusedTactic false
set_option linter.unreachableTactic false

namespace Sys2Proof.Machine

theorem keeps_putFlowStatus {s0 : State} (s : State) (f : ℕ) (st : ℕ) (h : Keeps s0 s) :
    Keeps s0 (State.putFlowStatus s f st) := by
  unfold State.putFlowStatus
  try dsimp only
  repeat (first
    | with_reducible assumption
    | with_reducible apply keeps_set
    | with_reducible apply Keeps.ite
    | (with_reducible apply Keeps.upd; with_reducible first | assumption | apply keeps_set | apply Keeps.ite)
    | (refine Keeps.pair (by assumption) ?_)
    | (refine Keeps.pair3 (by assumption) ?_)
    | (intro _ _ _)
    | (intro _ _)
    | (intro _)
    | split
    | dsimp only)

theorem keeps_setFlowStatus {s0 : State} (s : State) (f : ℕ) (st : ℕ) (h : Keeps s0 s) :
    Keeps s0 (State.setFlowStatus s f st) := by
  unfold State.setFlowStatus
  try dsimp only
  repeat (first
    | with_reducible assumption
    | with_reducible apply keeps_putFlowStatus
    | with_reducible apply keeps_set
    | with_reducible apply keeps_setBit
    | with_reducible apply keeps_hostEvent
    | with_reducible apply keeps_pulse
    | with_reducible apply Keeps.ite
    | (with_reducible apply Keeps.upd; with_reducible first | assumption | apply keeps_putFlowStatus | apply keeps_set | apply keeps_setBit | apply keeps_hostEvent | apply keeps_pulse | apply Keeps.ite)
    | (refine Keeps.pair (by assumption) ?_)
    | (refine Keeps.pair3 (by assumption) ?_)
    | (intro _ _ _)
    | (intro _ _)
    | (intro _)
    | split
    | dsimp only)

theorem keeps_resolveFlow {s0 : State} (s : State) (f : ℕ) (h : Keeps s0 s) :
    Keeps s0 (State.resolveFlow s f) := by
  unfold State.resolveFlow
  try dsimp only
  repeat (first
    | with_reducible assumption
    | with_reducible apply keeps_setFlowStatus
    | with_reducible apply keeps_set
    | with_reducible apply Keeps.ite
    | (with_reducible apply Keeps.upd; with_reducible first | assumption | apply keeps_setFlowStatus | apply keeps_set | apply Keeps.ite)
    | (refine Keeps.pair (by assumption) ?_)
    | (refine Keeps.pair3 (by assumption) ?_)
    | (intro _ _ _)
    | (intro _ _)
    | (intro _)
    | split
    | dsimp only)

theorem keeps_resolveFlows {s0 : State} (s : State) (h : Keeps s0 s) :
    Keeps s0 (State.resolveFlows s) := by
  unfold State.resolveFlows
  try dsimp only
  repeat (first
    | with_reducible assumption
    | with_reducible apply keeps_resolveFlow
    | with_reducible apply Keeps.ite
    | (with_reducible apply Keeps.foldl; intro _ _ _)
    | (with_reducible apply Keeps.upd; with_reducible first | assumption | apply keeps_resolveFlow | apply Keeps.ite | (apply Keeps.foldl; intro _ _ _))
    | (refine Keeps.pair (by assumption) ?_)
    | (refine Keeps.pair3 (by assumption) ?_)
    | (intro _ _ _)
    | (intro _ _)
    | (intro _)
    | split
    | dsimp only)

theorem keeps_absentFlows {s0 : State} (s : State) (h : Keeps s0 s) :
    Keeps s0 (State.absentFlows s) := by
  unfold State.absentFlows
  try dsimp only
  repeat (first
    | with_reducible assumption
    | with_reducible apply keeps_setFlowStatus
    | with_reducible apply Keeps.ite
    | (with_reducible apply Keeps.foldl; intro _ _ _)
    | (with_reducible apply Keeps.upd; with_reducible first | assumption | apply keeps_setFlowStatus | apply Keeps.ite | (apply Keeps.foldl; intro _ _ _))
    | (refine Keeps.pair (by assumption) ?_)
    | (refine Keeps.pair3 (by assumption) ?_)
    | (intro _ _ _)
    | (intro _ _)
    | (intro _)
    | split
    | dsimp only)

theorem keeps_flowAtCommit {s0 : State} (kept : Bool) (keptLen : ℕ) (s : State) (f : ℕ) (h : Keeps s0 s) :
    Keeps s0 (State.flowAtCommit kept keptLen s f) := by
  unfold State.flowAtCommit
  try dsimp only
  repeat (first
    | with_reducible assumption
    | with_reducible apply keeps_setFlowStatus
    | with_reducible apply keeps_set
    | with_reducible apply keeps_resolveFlow
    | with_reducible apply Keeps.ite
    | (with_reducible apply Keeps.upd; with_reducible first | assumption | apply keeps_setFlowStatus | apply keeps_set | apply keeps_resolveFlow | apply Keeps.ite)
    | (refine Keeps.pair (by assumption) ?_)
    | (refine Keeps.pair3 (by assumption) ?_)
    | (intro _ _ _)
    | (intro _ _)
    | (intro _)
    | split
    | dsimp only)

theorem keeps_flowsAtCommit {s0 : State} (s : State) (kept : Bool) (keptLen : ℕ) (h : Keeps s0 s) :
    Keeps s0 (State.flowsAtCommit s kept keptLen) := by
  unfold State.flowsAtCommit
  try dsimp only
  repeat (first
    | with_reducible assumption
    | with_reducible apply keeps_flowAtCommit
    | with_reducible apply Keeps.ite
    | (with_reducible apply Keeps.foldl; intro _ _ _)
    | (with_reducible apply Keeps.upd; with_reducible first | assumption | apply keeps_flowAtCommit | apply Keeps.ite | (apply Keeps.foldl; intro _ _ _))
    | (refine Keeps.pair (by assumption) ?_)
    | (refine Keeps.pair3 (by assumption) ?_)
    | (intro _ _ _)
    | (intro _ _)
    | (intro _)
    | split
    | dsimp only)

theorem keeps_takeIv {s0 : State} (s : State) (h : Keeps s0 s) :
    Keeps s0 (State.takeIv s).2 := by
  unfold State.takeIv
  try dsimp only
  repeat (first
    | with_reducible assumption
    | with_reducible apply keeps_set
    | with_reducible apply keeps_flwMap
    | with_reducible apply Keeps.ite
    | (with_reducible apply Keeps.upd; with_reducible first | assumption | apply keeps_set | apply keeps_flwMap | apply Keeps.ite)
    | (refine Keeps.pair (by assumption) ?_)
    | (refine Keeps.pair3 (by assumption) ?_)
    | (intro _ _ _)
    | (intro _ _)
    | (intro _)
    | split
    | dsimp only)

theorem keeps_exhaustKeys {s0 : State} (s : State) (h : Keeps s0 s) :
    Keeps s0 (State.exhaustKeys s) := by
  unfold State.exhaustKeys
  try dsimp only
  repeat (first
    | with_reducible assumption
    | with_reducible apply keeps_setFlowStatus
    | with_reducible apply Keeps.ite
    | (with_reducible apply Keeps.foldl; intro _ _ _)
    | (with_reducible apply Keeps.upd; with_reducible first | assumption | apply keeps_setFlowStatus | apply Keeps.ite | (apply Keeps.foldl; intro _ _ _))
    | (refine Keeps.pair (by assumption) ?_)
    | (refine Keeps.pair3 (by assumption) ?_)
    | (intro _ _ _)
    | (intro _ _)
    | (intro _)
    | split
    | dsimp only)

theorem keeps_replayTake {s0 : State} (s : State) (f : ℕ) (uid : ℕ) (iv : ℕ) (h : Keeps s0 s) :
    Keeps s0 (State.replayTake s f uid iv).2 := by
  unfold State.replayTake
  try dsimp only
  repeat (first
    | with_reducible assumption
    | with_reducible apply keeps_set
    | with_reducible apply Keeps.ite
    | (with_reducible apply Keeps.upd; with_reducible first | assumption | apply keeps_set | apply Keeps.ite)
    | (refine Keeps.pair (by assumption) ?_)
    | (refine Keeps.pair3 (by assumption) ?_)
    | (intro _ _ _)
    | (intro _ _)
    | (intro _)
    | split
    | dsimp only)

theorem keeps_authFail {s0 : State} (s : State) (f : ℕ) (h : Keeps s0 s) :
    Keeps s0 (State.authFail s f) := by
  unfold State.authFail
  try dsimp only
  repeat (first
    | with_reducible assumption
    | with_reducible apply keeps_bump
    | with_reducible apply Keeps.ite
    | (with_reducible apply Keeps.upd; with_reducible first | assumption | apply keeps_bump | apply Keeps.ite)
    | (refine Keeps.pair (by assumption) ?_)
    | (refine Keeps.pair3 (by assumption) ?_)
    | (intro _ _ _)
    | (intro _ _)
    | (intro _)
    | split
    | dsimp only)

theorem keeps_tubeErr {s0 : State} (s : State) (h : Keeps s0 s) :
    Keeps s0 (State.tubeErr s) := by
  unfold State.tubeErr
  try dsimp only
  repeat (first
    | with_reducible assumption
    | with_reducible apply keeps_bump
    | with_reducible apply Keeps.ite
    | (with_reducible apply Keeps.upd; with_reducible first | assumption | apply keeps_bump | apply Keeps.ite)
    | (refine Keeps.pair (by assumption) ?_)
    | (refine Keeps.pair3 (by assumption) ?_)
    | (intro _ _ _)
    | (intro _ _)
    | (intro _)
    | split
    | dsimp only)

theorem keeps_publish {s0 : State} (s : State) (f : ℕ) (data : Bytes) (h : Keeps s0 s) :
    Keeps s0 (State.publish s f data) := by
  unfold State.publish
  try dsimp only
  repeat (first
    | with_reducible assumption
    | with_reducible apply Keeps.ite
    | (with_reducible apply Keeps.upd; with_reducible first | assumption | apply Keeps.ite)
    | (refine Keeps.pair (by assumption) ?_)
    | (refine Keeps.pair3 (by assumption) ?_)
    | (intro _ _ _)
    | (intro _ _)
    | (intro _)
    | split
    | dsimp only)

theorem keeps_elementFor {s0 : State} (s : State) (f : ℕ) (i : Item) (h : Keeps s0 s) :
    Keeps s0 (State.elementFor s f i).2 := by
  unfold State.elementFor
  try dsimp only
  repeat (first
    | with_reducible assumption
    | with_reducible apply keeps_draw
    | with_reducible apply Keeps.ite
    | (with_reducible apply Keeps.upd; with_reducible first | assumption | apply keeps_draw | apply Keeps.ite)
    | (refine Keeps.pair (by assumption) ?_)
    | (refine Keeps.pair3 (by assumption) ?_)
    | (intro _ _ _)
    | (intro _ _)
    | (intro _)
    | split
    | dsimp only)

theorem keeps_sendMessage {s0 : State} (s : State) (f : ℕ) (i : Item) (h : Keeps s0 s) :
    Keeps s0 (State.sendMessage s f i) := by
  unfold State.sendMessage
  try dsimp only
  repeat (first
    | with_reducible assumption
    | with_reducible apply keeps_tubeErr
    | with_reducible apply keeps_originate
    | with_reducible apply keeps_authFail
    | with_reducible apply keeps_takeIv
    | with_reducible apply keeps_exhaustKeys
    | with_reducible apply keeps_stampFrame
    | with_reducible apply keeps_routeOwn
    | with_reducible apply Keeps.ite
    | (with_reducible apply Keeps.upd; with_reducible first | assumption | apply keeps_tubeErr | apply keeps_originate | apply keeps_authFail | apply keeps_takeIv | apply keeps_exhaustKeys | apply keeps_stampFrame | apply keeps_routeOwn | apply Keeps.ite)
    | (refine Keeps.pair (by assumption) ?_)
    | (refine Keeps.pair3 (by assumption) ?_)
    | (intro _ _ _)
    | (intro _ _)
    | (intro _)
    | split
    | dsimp only)

theorem keeps_driveGpio {s0 : State} (s : State) (mask : ℕ) (data : Bytes) (h : Keeps s0 s) :
    Keeps s0 (State.driveGpio s mask data) := by
  unfold State.driveGpio
  try dsimp only
  repeat (first
    | with_reducible assumption
    | with_reducible apply keeps_set
    | with_reducible apply Keeps.ite
    | (with_reducible apply Keeps.upd; with_reducible first | assumption | apply keeps_set | apply Keeps.ite)
    | (refine Keeps.pair (by assumption) ?_)
    | (refine Keeps.pair3 (by assumption) ?_)
    | (intro _ _ _)
    | (intro _ _)
    | (intro _)
    | split
    | dsimp only)

theorem keeps_commitConsist {s0 : State} (s : State) (id : ℕ) (data : Bytes) (h : Keeps s0 s) :
    Keeps s0 (State.commitConsist s id data) := by
  unfold State.commitConsist
  try dsimp only
  repeat (first
    | with_reducible assumption
    | with_reducible apply Keeps.ite
    | (with_reducible apply Keeps.upd; with_reducible first | assumption | apply Keeps.ite)
    | (refine Keeps.pair (by assumption) ?_)
    | (refine Keeps.pair3 (by assumption) ?_)
    | (intro _ _ _)
    | (intro _ _)
    | (intro _)
    | split
    | dsimp only)

theorem keeps_deliverFlow {s0 : State} (s : State) (f : ℕ) (i : Item) (kind : RunKind) (flags : ℕ) (h : Keeps s0 s) :
    Keeps s0 (State.deliverFlow s f i kind flags) := by
  unfold State.deliverFlow
  try dsimp only
  repeat (first
    | with_reducible assumption
    | with_reducible apply keeps_publish
    | with_reducible apply keeps_sendMessage
    | with_reducible apply keeps_tubeErr
    | with_reducible apply keeps_commitConsist
    | with_reducible apply keeps_elementFor
    | with_reducible apply keeps_canEnqueue
    | with_reducible apply keeps_rxFill
    | with_reducible apply keeps_driveGpio
    | with_reducible apply keeps_stackSend
    | with_reducible apply Keeps.ite
    | (with_reducible apply Keeps.upd; with_reducible first | assumption | apply keeps_publish | apply keeps_sendMessage | apply keeps_tubeErr | apply keeps_commitConsist | apply keeps_elementFor | apply keeps_canEnqueue | apply keeps_rxFill | apply keeps_driveGpio | apply keeps_stackSend | apply Keeps.ite)
    | (refine Keeps.pair (by assumption) ?_)
    | (refine Keeps.pair3 (by assumption) ?_)
    | (intro _ _ _)
    | (intro _ _)
    | (intro _)
    | split
    | dsimp only)

theorem keeps_markFresh {s0 : State} (s : State) (f : ℕ) (h : Keeps s0 s) :
    Keeps s0 (State.markFresh s f) := by
  unfold State.markFresh
  try dsimp only
  repeat (first
    | with_reducible assumption
    | with_reducible apply keeps_set
    | with_reducible apply Keeps.ite
    | (with_reducible apply Keeps.upd; with_reducible first | assumption | apply keeps_set | apply Keeps.ite)
    | (refine Keeps.pair (by assumption) ?_)
    | (refine Keeps.pair3 (by assumption) ?_)
    | (intro _ _ _)
    | (intro _ _)
    | (intro _)
    | split
    | dsimp only)

theorem keeps_flowDone {s0 : State} (s : State) (f : ℕ) (i : Item) (kind : RunKind) (h : Keeps s0 s) :
    Keeps s0 (State.flowDone s f i kind) := by
  unfold State.flowDone
  try dsimp only
  repeat (first
    | with_reducible assumption
    | with_reducible apply keeps_set
    | with_reducible apply keeps_wrapUp
    | with_reducible apply keeps_markFresh
    | with_reducible apply Keeps.ite
    | (with_reducible apply Keeps.upd; with_reducible first | assumption | apply keeps_set | apply keeps_wrapUp | apply keeps_markFresh | apply Keeps.ite)
    | (refine Keeps.pair (by assumption) ?_)
    | (refine Keeps.pair3 (by assumption) ?_)
    | (intro _ _ _)
    | (intro _ _)
    | (intro _)
    | split
    | dsimp only)

theorem keeps_finishItem {s0 : State} (s : State) (f : ℕ) (i : Item) (it : Item) (kind : RunKind) (flags : ℕ) (h : Keeps s0 s) :
    Keeps s0 (State.finishItem s f i it kind flags) := by
  unfold State.finishItem
  try dsimp only
  repeat (first
    | with_reducible assumption
    | with_reducible apply keeps_flowDone
    | with_reducible apply keeps_deliverFlow
    | with_reducible apply Keeps.ite
    | (with_reducible apply Keeps.upd; with_reducible first | assumption | apply keeps_flowDone | apply keeps_deliverFlow | apply Keeps.ite)
    | (refine Keeps.pair (by assumption) ?_)
    | (refine Keeps.pair3 (by assumption) ?_)
    | (intro _ _ _)
    | (intro _ _)
    | (intro _)
    | split
    | dsimp only)

theorem keeps_passItem {s0 : State} (s : State) (f : ℕ) (i : Item) (kind : RunKind) (h : Keeps s0 s) :
    Keeps s0 (State.passItem s f i kind) := by
  unfold State.passItem
  try dsimp only
  repeat (first
    | with_reducible assumption
    | with_reducible apply keeps_authFail
    | with_reducible apply keeps_replayTake
    | with_reducible apply keeps_tubeErr
    | with_reducible apply keeps_finishItem
    | with_reducible apply Keeps.ite
    | (with_reducible apply Keeps.upd; with_reducible first | assumption | apply keeps_authFail | apply keeps_replayTake | apply keeps_tubeErr | apply keeps_finishItem | apply Keeps.ite)
    | (refine Keeps.pair (by assumption) ?_)
    | (refine Keeps.pair3 (by assumption) ?_)
    | (intro _ _ _)
    | (intro _ _)
    | (intro _)
    | split
    | dsimp only)

theorem keeps_policeItem {s0 : State} (s : State) (f : ℕ) (i : Item) (kind : RunKind) (h : Keeps s0 s) :
    Keeps s0 (State.policeItem s f i kind) := by
  unfold State.policeItem
  try dsimp only
  repeat (first
    | with_reducible assumption
    | with_reducible apply keeps_passItem
    | with_reducible apply keeps_bump
    | with_reducible apply keeps_set
    | with_reducible apply Keeps.ite
    | (with_reducible apply Keeps.upd; with_reducible first | assumption | apply keeps_passItem | apply keeps_bump | apply keeps_set | apply Keeps.ite)
    | (refine Keeps.pair (by assumption) ?_)
    | (refine Keeps.pair3 (by assumption) ?_)
    | (intro _ _ _)
    | (intro _ _)
    | (intro _)
    | split
    | dsimp only)

theorem keeps_runFlow {s0 : State} (s : State) (f : ℕ) (i : Item) (h : Keeps s0 s) :
    Keeps s0 (State.runFlow s f i) := by
  unfold State.runFlow
  try dsimp only
  repeat (first
    | with_reducible assumption
    | with_reducible apply keeps_bump
    | with_reducible apply keeps_setFlowStatus
    | with_reducible apply keeps_flwMap
    | with_reducible apply keeps_policeItem
    | with_reducible apply Keeps.ite
    | (with_reducible apply Keeps.upd; with_reducible first | assumption | apply keeps_bump | apply keeps_setFlowStatus | apply keeps_flwMap | apply keeps_policeItem | apply Keeps.ite)
    | (refine Keeps.pair (by assumption) ?_)
    | (refine Keeps.pair3 (by assumption) ?_)
    | (intro _ _ _)
    | (intro _ _)
    | (intro _)
    | split
    | dsimp only)

theorem keeps_spareSlices {s0 : State} (s : State) (ch : ℕ) (h : Keeps s0 s) :
    Keeps s0 (State.spareSlices s ch) := by
  unfold State.spareSlices
  try dsimp only
  repeat (first
    | with_reducible assumption
    | with_reducible apply keeps_set
    | with_reducible apply Keeps.ite
    | (with_reducible apply Keeps.foldl; intro _ _ _)
    | (with_reducible apply Keeps.upd; with_reducible first | assumption | apply keeps_set | apply Keeps.ite | (apply Keeps.foldl; intro _ _ _))
    | (refine Keeps.pair (by assumption) ?_)
    | (refine Keeps.pair3 (by assumption) ?_)
    | (intro _ _ _)
    | (intro _ _)
    | (intro _)
    | split
    | dsimp only)

theorem keeps_markRetired {s0 : State} (s : State) (ch : ℕ) (h : Keeps s0 s) :
    Keeps s0 (State.markRetired s ch) := by
  unfold State.markRetired
  try dsimp only
  repeat (first
    | with_reducible assumption
    | with_reducible apply keeps_setBit
    | with_reducible apply keeps_set
    | with_reducible apply Keeps.ite
    | (with_reducible apply Keeps.upd; with_reducible first | assumption | apply keeps_setBit | apply keeps_set | apply Keeps.ite)
    | (refine Keeps.pair (by assumption) ?_)
    | (refine Keeps.pair3 (by assumption) ?_)
    | (intro _ _ _)
    | (intro _ _)
    | (intro _)
    | split
    | dsimp only)

theorem keeps_retireFlow {s0 : State} (ch : ℕ) (s : State) (f : ℕ) (h : Keeps s0 s) :
    Keeps s0 (State.retireFlow ch s f) := by
  unfold State.retireFlow
  try dsimp only
  repeat (first
    | with_reducible assumption
    | with_reducible apply keeps_setFlowStatus
    | with_reducible apply Keeps.ite
    | (with_reducible apply Keeps.upd; with_reducible first | assumption | apply keeps_setFlowStatus | apply Keeps.ite)
    | (refine Keeps.pair (by assumption) ?_)
    | (refine Keeps.pair3 (by assumption) ?_)
    | (intro _ _ _)
    | (intro _ _)
    | (intro _)
    | split
    | dsimp only)

theorem keeps_retire {s0 : State} (s : State) (ch : ℕ) (cause : ℕ) (h : Keeps s0 s) :
    Keeps s0 (State.retire s ch cause) := by
  unfold State.retire
  try dsimp only
  repeat (first
    | with_reducible assumption
    | with_reducible apply keeps_set
    | with_reducible apply keeps_spareSlices
    | with_reducible apply keeps_markRetired
    | with_reducible apply keeps_pulse
    | with_reducible apply keeps_record
    | with_reducible apply keeps_canStopEntries
    | with_reducible apply keeps_retireFlow
    | with_reducible apply Keeps.ite
    | (with_reducible apply Keeps.foldl; intro _ _ _)
    | (with_reducible apply Keeps.upd; with_reducible first | assumption | apply keeps_set | apply keeps_spareSlices | apply keeps_markRetired | apply keeps_pulse | apply keeps_record | apply keeps_canStopEntries | apply keeps_retireFlow | apply Keeps.ite | (apply Keeps.foldl; intro _ _ _))
    | (refine Keeps.pair (by assumption) ?_)
    | (refine Keeps.pair3 (by assumption) ?_)
    | (intro _ _ _)
    | (intro _ _)
    | (intro _)
    | split
    | dsimp only)

theorem keeps_shedFlows {s0 : State} (s : State) (h : Keeps s0 s) :
    Keeps s0 (State.shedFlows s) := by
  unfold State.shedFlows
  try dsimp only
  repeat (first
    | with_reducible assumption
    | with_reducible apply keeps_set
    | with_reducible apply keeps_setFlowStatus
    | with_reducible apply Keeps.ite
    | (with_reducible apply Keeps.foldl; intro _ _ _)
    | (with_reducible apply Keeps.upd; with_reducible first | assumption | apply keeps_set | apply keeps_setFlowStatus | apply Keeps.ite | (apply Keeps.foldl; intro _ _ _))
    | (refine Keeps.pair (by assumption) ?_)
    | (refine Keeps.pair3 (by assumption) ?_)
    | (intro _ _ _)
    | (intro _ _)
    | (intro _)
    | split
    | dsimp only)

theorem keeps_unshedFlows {s0 : State} (s : State) (h : Keeps s0 s) :
    Keeps s0 (State.unshedFlows s) := by
  unfold State.unshedFlows
  try dsimp only
  repeat (first
    | with_reducible assumption
    | with_reducible apply keeps_set
    | with_reducible apply keeps_setFlowStatus
    | with_reducible apply Keeps.ite
    | (with_reducible apply Keeps.foldl; intro _ _ _)
    | (with_reducible apply Keeps.upd; with_reducible first | assumption | apply keeps_set | apply keeps_setFlowStatus | apply Keeps.ite | (apply Keeps.foldl; intro _ _ _))
    | (refine Keeps.pair (by assumption) ?_)
    | (refine Keeps.pair3 (by assumption) ?_)
    | (intro _ _ _)
    | (intro _ _)
    | (intro _)
    | split
    | dsimp only)

theorem keeps_flowsStale {s0 : State} (s : State) (p : ℕ → Bool) (stale : Bool) (h : Keeps s0 s) :
    Keeps s0 (State.flowsStale s p stale) := by
  unfold State.flowsStale
  try dsimp only
  repeat (first
    | with_reducible assumption
    | with_reducible apply keeps_setFlowStatus
    | with_reducible apply Keeps.ite
    | (with_reducible apply Keeps.foldl; intro _ _ _)
    | (with_reducible apply Keeps.upd; with_reducible first | assumption | apply keeps_setFlowStatus | apply Keeps.ite | (apply Keeps.foldl; intro _ _ _))
    | (refine Keeps.pair (by assumption) ?_)
    | (refine Keeps.pair3 (by assumption) ?_)
    | (intro _ _ _)
    | (intro _ _)
    | (intro _)
    | split
    | dsimp only)

theorem keeps_consistFlowsStale {s0 : State} (s : State) (id : ℕ) (stale : Bool) (h : Keeps s0 s) :
    Keeps s0 (State.consistFlowsStale s id stale) := by
  unfold State.consistFlowsStale
  try dsimp only
  repeat (first
    | with_reducible assumption
    | with_reducible apply keeps_flowsStale
    | with_reducible apply Keeps.ite
    | (with_reducible apply Keeps.upd; with_reducible first | assumption | apply keeps_flowsStale | apply Keeps.ite)
    | (refine Keeps.pair (by assumption) ?_)
    | (refine Keeps.pair3 (by assumption) ?_)
    | (intro _ _ _)
    | (intro _ _)
    | (intro _)
    | split
    | dsimp only)

end Sys2Proof.Machine
end

