-- ==== Sys2Proof/Laws/KeepsRecOps.lean ====
section
/-! SUPPORT. The operations of `Sys2Proof/Machine/RecOps.lean` keep what `Keeps` names. -/

set_option linter.unusedTactic false
set_option linter.unreachableTactic false

namespace Sys2Proof.Machine

theorem keeps_copyRecord {s0 : State} (s : State) (i : ℕ) (h : Keeps s0 s) :
    Keeps s0 (State.copyRecord s i) := by
  unfold State.copyRecord
  try dsimp only
  repeat (first
    | with_reducible assumption
    | with_reducible apply keeps_set
    | with_reducible apply keeps_load
    | with_reducible apply keeps_setB
    | with_reducible apply keeps_bump
    | with_reducible apply keeps_pulse
    | with_reducible apply Keeps.ite
    | (with_reducible apply Keeps.foldl; intro _ _ _)
    | (with_reducible apply Keeps.upd; with_reducible first | assumption | apply keeps_set | apply keeps_load | apply keeps_setB | apply keeps_bump | apply keeps_pulse | apply Keeps.ite | (apply Keeps.foldl; intro _ _ _))
    | (refine Keeps.pair (by assumption) ?_)
    | (refine Keeps.pair3 (by assumption) ?_)
    | (intro _ _ _)
    | (intro _ _)
    | (intro _)
    | split
    | dsimp only)

theorem keeps_rewindLog {s0 : State} (s : State) (h : Keeps s0 s) :
    Keeps s0 (State.rewindLog s) := by
  unfold State.rewindLog
  try dsimp only
  repeat (first
    | with_reducible assumption
    | with_reducible apply keeps_copyRecord
    | with_reducible apply Keeps.ite
    | (with_reducible apply Keeps.upd; with_reducible first | assumption | apply keeps_copyRecord | apply Keeps.ite)
    | (refine Keeps.pair (by assumption) ?_)
    | (refine Keeps.pair3 (by assumption) ?_)
    | (intro _ _ _)
    | (intro _ _)
    | (intro _)
    | split
    | dsimp only)

theorem keeps_recAdvance {s0 : State} (s : State) (h : Keeps s0 s) :
    Keeps s0 (State.recAdvance s) := by
  unfold State.recAdvance
  try dsimp only
  repeat (first
    | with_reducible assumption
    | with_reducible apply keeps_set
    | with_reducible apply Keeps.ite
    | (with_reducible apply Keeps.upd; with_reducible first | assumption | apply keeps_set | apply Keeps.ite)
    | (refine Keeps.pair (by assumption) ?_)
    | (refine Keeps.pair3 (by assumption) ?_)
    | (intro _ _ _)
    | (intro _ _)
    | (intro _)
    | split
    | dsimp only)

theorem keeps_putRecord {s0 : State} (s : State) (e : RecEvent) (h : Keeps s0 s) :
    Keeps s0 (State.putRecord s e) := by
  unfold State.putRecord
  try dsimp only
  repeat (first
    | with_reducible assumption
    | with_reducible apply keeps_recAdvance
    | with_reducible apply Keeps.ite
    | (with_reducible apply Keeps.upd; with_reducible first | assumption | apply keeps_recAdvance | apply Keeps.ite)
    | (refine Keeps.pair (by assumption) ?_)
    | (refine Keeps.pair3 (by assumption) ?_)
    | (intro _ _ _)
    | (intro _ _)
    | (intro _)
    | split
    | dsimp only)

theorem keeps_recWritten {s0 : State} (s : State) (e : RecEvent) (h : Keeps s0 s) :
    Keeps s0 (State.recWritten s e) := by
  unfold State.recWritten
  try dsimp only
  repeat (first
    | with_reducible assumption
    | with_reducible apply keeps_bump
    | with_reducible apply keeps_set
    | with_reducible apply Keeps.ite
    | (with_reducible apply Keeps.upd; with_reducible first | assumption | apply keeps_bump | apply keeps_set | apply Keeps.ite)
    | (refine Keeps.pair (by assumption) ?_)
    | (refine Keeps.pair3 (by assumption) ?_)
    | (intro _ _ _)
    | (intro _ _)
    | (intro _)
    | split
    | dsimp only)

theorem keeps_clearAreas {s0 : State} (s : State) (arg : ℕ) (h : Keeps s0 s) :
    Keeps s0 (State.clearAreas s arg) := by
  unfold State.clearAreas
  try dsimp only
  repeat (first
    | with_reducible assumption
    | with_reducible apply keeps_set
    | with_reducible apply Keeps.ite
    | (with_reducible apply Keeps.upd; with_reducible first | assumption | apply keeps_set | apply Keeps.ite)
    | (refine Keeps.pair (by assumption) ?_)
    | (refine Keeps.pair3 (by assumption) ?_)
    | (intro _ _ _)
    | (intro _ _)
    | (intro _)
    | split
    | dsimp only)

theorem keeps_finishClear {s0 : State} (s : State) (arg : ℕ) (slot : ℕ) (h : Keeps s0 s) :
    Keeps s0 (State.finishClear s arg slot) := by
  unfold State.finishClear
  try dsimp only
  repeat (first
    | with_reducible assumption
    | with_reducible apply keeps_clearAreas
    | with_reducible apply keeps_set
    | with_reducible apply keeps_showQueue
    | with_reducible apply Keeps.ite
    | (with_reducible apply Keeps.upd; with_reducible first | assumption | apply keeps_clearAreas | apply keeps_set | apply keeps_showQueue | apply Keeps.ite)
    | (refine Keeps.pair (by assumption) ?_)
    | (refine Keeps.pair3 (by assumption) ?_)
    | (intro _ _ _)
    | (intro _ _)
    | (intro _)
    | split
    | dsimp only)

theorem keeps_overflowStep {s0 : State} (s : State) (h : Keeps s0 s) :
    Keeps s0 (State.overflowStep s) := by
  unfold State.overflowStep
  try dsimp only
  repeat (first
    | with_reducible assumption
    | with_reducible apply keeps_pulse
    | with_reducible apply Keeps.ite
    | (with_reducible apply Keeps.upd; with_reducible first | assumption | apply keeps_pulse | apply Keeps.ite)
    | (refine Keeps.pair (by assumption) ?_)
    | (refine Keeps.pair3 (by assumption) ?_)
    | (intro _ _ _)
    | (intro _ _)
    | (intro _)
    | split
    | dsimp only)

end Sys2Proof.Machine
end

