-- ==== Sys2Proof/Laws/KeepsLnOps.lean ====
section
/-! SUPPORT. The operations of `Sys2Proof/Machine/LnOps.lean` keep what `Keeps` names. -/

set_option linter.unusedTactic false
set_option linter.unreachableTactic false

namespace Sys2Proof.Machine

theorem keeps_portMap {s0 : State} (s : State) (p : ℕ) (f : LinePort → LinePort) (h : Keeps s0 s) :
    Keeps s0 (State.portMap s p f) := by
  unfold State.portMap
  try dsimp only
  repeat (first
    | with_reducible assumption
    | with_reducible apply Keeps.ite
    | (with_reducible apply Keeps.upd; with_reducible first | assumption | apply Keeps.ite)
    | (refine Keeps.pair (by assumption) ?_)
    | (refine Keeps.pair3 (by assumption) ?_)
    | (intro _ _ _)
    | (intro _ _)
    | (intro _)
    | split
    | dsimp only)

theorem keeps_inaMap {s0 : State} (s : State) (f : InaState → InaState) (h : Keeps s0 s) :
    Keeps s0 (State.inaMap s f) := by
  unfold State.inaMap
  try dsimp only
  repeat (first
    | with_reducible assumption
    | with_reducible apply Keeps.ite
    | (with_reducible apply Keeps.upd; with_reducible first | assumption | apply Keeps.ite)
    | (refine Keeps.pair (by assumption) ?_)
    | (refine Keeps.pair3 (by assumption) ?_)
    | (intro _ _ _)
    | (intro _ _)
    | (intro _)
    | split
    | dsimp only)

theorem keeps_endChange {s0 : State} (s : State) (p : ℕ) (h : Keeps s0 s) :
    Keeps s0 (State.endChange s p) := by
  unfold State.endChange
  try dsimp only
  repeat (first
    | with_reducible assumption
    | with_reducible apply keeps_inaMap
    | with_reducible apply keeps_bump
    | with_reducible apply Keeps.ite
    | (with_reducible apply Keeps.upd; with_reducible first | assumption | apply keeps_inaMap | apply keeps_bump | apply Keeps.ite)
    | (refine Keeps.pair (by assumption) ?_)
    | (refine Keeps.pair3 (by assumption) ?_)
    | (intro _ _ _)
    | (intro _ _)
    | (intro _)
    | split
    | dsimp only)

theorem keeps_delayAnew {s0 : State} (s : State) (p : ℕ) (h : Keeps s0 s) :
    Keeps s0 (State.delayAnew s p) := by
  unfold State.delayAnew
  try dsimp only
  repeat (first
    | with_reducible assumption
    | with_reducible apply keeps_portMap
    | with_reducible apply keeps_load
    | with_reducible apply Keeps.ite
    | (with_reducible apply Keeps.upd; with_reducible first | assumption | apply keeps_portMap | apply keeps_load | apply Keeps.ite)
    | (refine Keeps.pair (by assumption) ?_)
    | (refine Keeps.pair3 (by assumption) ?_)
    | (intro _ _ _)
    | (intro _ _)
    | (intro _)
    | split
    | dsimp only)

theorem keeps_delayLeft {s0 : State} (s : State) (p : ℕ) (h : Keeps s0 s) :
    Keeps s0 (State.delayLeft s p) := by
  unfold State.delayLeft
  try dsimp only
  repeat (first
    | with_reducible assumption
    | with_reducible apply keeps_portMap
    | with_reducible apply keeps_load
    | with_reducible apply Keeps.ite
    | (with_reducible apply Keeps.upd; with_reducible first | assumption | apply keeps_portMap | apply keeps_load | apply Keeps.ite)
    | (refine Keeps.pair (by assumption) ?_)
    | (refine Keeps.pair3 (by assumption) ?_)
    | (intro _ _ _)
    | (intro _ _)
    | (intro _)
    | split
    | dsimp only)

theorem keeps_lineDown {s0 : State} (s : State) (p : ℕ) (h : Keeps s0 s) :
    Keeps s0 (State.lineDown s p) := by
  unfold State.lineDown
  try dsimp only
  repeat (first
    | with_reducible assumption
    | with_reducible apply keeps_load
    | with_reducible apply keeps_portMap
    | with_reducible apply keeps_endChange
    | with_reducible apply keeps_delayLeft
    | with_reducible apply keeps_bump
    | with_reducible apply Keeps.ite
    | (with_reducible apply Keeps.upd; with_reducible first | assumption | apply keeps_load | apply keeps_portMap | apply keeps_endChange | apply keeps_delayLeft | apply keeps_bump | apply Keeps.ite)
    | (refine Keeps.pair (by assumption) ?_)
    | (refine Keeps.pair3 (by assumption) ?_)
    | (intro _ _ _)
    | (intro _ _)
    | (intro _)
    | split
    | dsimp only)

theorem keeps_followLine {s0 : State} (s : State) (p : ℕ) (h : Keeps s0 s) :
    Keeps s0 (State.followLine s p) := by
  unfold State.followLine
  try dsimp only
  repeat (first
    | with_reducible assumption
    | with_reducible apply keeps_load
    | with_reducible apply keeps_set
    | with_reducible apply keeps_lineDown
    | with_reducible apply Keeps.ite
    | (with_reducible apply Keeps.upd; with_reducible first | assumption | apply keeps_load | apply keeps_set | apply keeps_lineDown | apply Keeps.ite)
    | (refine Keeps.pair (by assumption) ?_)
    | (refine Keeps.pair3 (by assumption) ?_)
    | (intro _ _ _)
    | (intro _ _)
    | (intro _)
    | split
    | dsimp only)

end Sys2Proof.Machine
end

