-- ==== Sys2Proof/Laws/KeepsCstOps.lean ====
section
/-! SUPPORT. The operations of `Sys2Proof/Machine/CstOps.lean` keep what `Keeps` names. -/

set_option linter.unusedTactic false
set_option linter.unreachableTactic false

namespace Sys2Proof.Machine

theorem keeps_cstMap {s0 : State} (s : State) (f : CstState → CstState) (h : Keeps s0 s) :
    Keeps s0 (State.cstMap s f) := by
  unfold State.cstMap
  try dsimp only
  repeat (first
    | with_reducible assumption
    | with_reducible apply Keeps.ite
    | (with_reducible apply Keeps.upd; with_reducible first | assumption | apply Keeps.ite)
    | (refine Keeps.pair (by assumption) ?_)
    | (refine Keeps.pair3 (by assumption) ?_)
    | (intro _ _ _)
    | (intro _ _)
    | (intro _)
    | split
    | dsimp only)

theorem keeps_cstEnterListen {s0 : State} (s : State) (h : Keeps s0 s) :
    Keeps s0 (State.cstEnterListen s) := by
  unfold State.cstEnterListen
  try dsimp only
  repeat (first
    | with_reducible assumption
    | with_reducible apply keeps_cstMap
    | with_reducible apply keeps_load
    | with_reducible apply Keeps.ite
    | (with_reducible apply Keeps.upd; with_reducible first | assumption | apply keeps_cstMap | apply keeps_load | apply Keeps.ite)
    | (refine Keeps.pair (by assumption) ?_)
    | (refine Keeps.pair3 (by assumption) ?_)
    | (intro _ _ _)
    | (intro _ _)
    | (intro _)
    | split
    | dsimp only)

theorem keeps_cstFollow {s0 : State} (s : State) (h : Keeps s0 s) :
    Keeps s0 (State.cstFollow s) := by
  unfold State.cstFollow
  try dsimp only
  repeat (first
    | with_reducible assumption
    | with_reducible apply keeps_cstEnterListen
    | with_reducible apply keeps_set
    | with_reducible apply keeps_load
    | with_reducible apply Keeps.ite
    | (with_reducible apply Keeps.upd; with_reducible first | assumption | apply keeps_cstEnterListen | apply keeps_set | apply keeps_load | apply Keeps.ite)
    | (refine Keeps.pair (by assumption) ?_)
    | (refine Keeps.pair3 (by assumption) ?_)
    | (intro _ _ _)
    | (intro _ _)
    | (intro _)
    | split
    | dsimp only)

end Sys2Proof.Machine
end

