-- ==== Sys2Proof/Laws/KeepsGtnOps.lean ====
section
/-! SUPPORT. The operations of `Sys2Proof/Machine/GtnOps.lean` keep what `Keeps` names. -/

set_option linter.unusedTactic false
set_option linter.unreachableTactic false

namespace Sys2Proof.Machine

theorem keeps_gtnMap {s0 : State} (s : State) (f : GtnState → GtnState) (h : Keeps s0 s) :
    Keeps s0 (State.gtnMap s f) := by
  unfold State.gtnMap
  try dsimp only
  repeat (first
    | with_reducible assumption
    | with_reducible apply Keeps.ite
    | (with_reducible apply Keeps.upd; with_reducible first | assumption | apply Keeps.ite)
    | (refine Keeps.pair (by assumption) ?_)
    | (refine Keeps.pair3 (by assumption) ?_)
    | (intro _ _ _)
    | (intro _ _)
    | (intro _)
    | split
    | dsimp only)

theorem keeps_glnMap {s0 : State} (s : State) (f : GlnState → GlnState) (h : Keeps s0 s) :
    Keeps s0 (State.glnMap s f) := by
  unfold State.glnMap
  try dsimp only
  repeat (first
    | with_reducible assumption
    | with_reducible apply Keeps.ite
    | (with_reducible apply Keeps.upd; with_reducible first | assumption | apply Keeps.ite)
    | (refine Keeps.pair (by assumption) ?_)
    | (refine Keeps.pair3 (by assumption) ?_)
    | (intro _ _ _)
    | (intro _ _)
    | (intro _)
    | split
    | dsimp only)

theorem keeps_setIsr {s0 : State} (s : State) (i : ℕ) (h : Keeps s0 s) :
    Keeps s0 (State.setIsr s i) := by
  unfold State.setIsr
  try dsimp only
  repeat (first
    | with_reducible assumption
    | with_reducible apply keeps_setBit
    | with_reducible apply Keeps.ite
    | (with_reducible apply Keeps.upd; with_reducible first | assumption | apply keeps_setBit | apply Keeps.ite)
    | (refine Keeps.pair (by assumption) ?_)
    | (refine Keeps.pair3 (by assumption) ?_)
    | (intro _ _ _)
    | (intro _ _)
    | (intro _)
    | split
    | dsimp only)

theorem keeps_setSsr {s0 : State} (s : State) (i : ℕ) (h : Keeps s0 s) :
    Keeps s0 (State.setSsr s i) := by
  unfold State.setSsr
  try dsimp only
  repeat (first
    | with_reducible assumption
    | with_reducible apply keeps_setBit
    | with_reducible apply Keeps.ite
    | (with_reducible apply Keeps.upd; with_reducible first | assumption | apply keeps_setBit | apply Keeps.ite)
    | (refine Keeps.pair (by assumption) ?_)
    | (refine Keeps.pair3 (by assumption) ?_)
    | (intro _ _ _)
    | (intro _ _)
    | (intro _)
    | split
    | dsimp only)

theorem keeps_legacyLog {s0 : State} (s : State) (base : ℕ) (code : ℕ) (param : ℕ) (data : ℕ) (h : Keeps s0 s) :
    Keeps s0 (State.legacyLog s base code param data) := by
  unfold State.legacyLog
  try dsimp only
  repeat (first
    | with_reducible assumption
    | with_reducible apply keeps_setIsr
    | with_reducible apply keeps_bump
    | with_reducible apply keeps_gtnMap
    | with_reducible apply keeps_set
    | with_reducible apply keeps_record
    | with_reducible apply Keeps.ite
    | (with_reducible apply Keeps.upd; with_reducible first | assumption | apply keeps_setIsr | apply keeps_bump | apply keeps_gtnMap | apply keeps_set | apply keeps_record | apply Keeps.ite)
    | (refine Keeps.pair (by assumption) ?_)
    | (refine Keeps.pair3 (by assumption) ?_)
    | (intro _ _ _)
    | (intro _ _)
    | (intro _)
    | split
    | dsimp only)

theorem keeps_setRam {s0 : State} (s : State) (a : ℕ) (v : ℕ) (h : Keeps s0 s) :
    Keeps s0 (State.setRam s a v) := by
  unfold State.setRam
  try dsimp only
  repeat (first
    | with_reducible assumption
    | with_reducible apply keeps_gtnMap
    | with_reducible apply Keeps.ite
    | (with_reducible apply Keeps.upd; with_reducible first | assumption | apply keeps_gtnMap | apply Keeps.ite)
    | (refine Keeps.pair (by assumption) ?_)
    | (refine Keeps.pair3 (by assumption) ?_)
    | (intro _ _ _)
    | (intro _ _)
    | (intro _)
    | split
    | dsimp only)

theorem keeps_setMboxBytes {s0 : State} (n : ℕ) (a1 : ℕ) (a2 : Bytes) (a3 : State) (h : Keeps s0 a3) :
    Keeps s0 (State.setMboxBytes n a1 a2 a3) := by
  fun_induction State.setMboxBytes n a1 a2 a3
  · exact h
  · exact keeps_setRam _ _ _ h
  · rename_i ih
    exact ih (keeps_setRam _ _ _ h)

theorem keeps_releaseMbox {s0 : State} (s : State) (n : ℕ) (status : ℕ) (h : Keeps s0 s) :
    Keeps s0 (State.releaseMbox s n status) := by
  unfold State.releaseMbox
  try dsimp only
  repeat (first
    | with_reducible assumption
    | with_reducible apply keeps_load
    | with_reducible apply keeps_setRam
    | with_reducible apply keeps_setIsr
    | with_reducible apply keeps_legacyLog
    | with_reducible apply Keeps.ite
    | (with_reducible apply Keeps.upd; with_reducible first | assumption | apply keeps_load | apply keeps_setRam | apply keeps_setIsr | apply keeps_legacyLog | apply Keeps.ite)
    | (refine Keeps.pair (by assumption) ?_)
    | (refine Keeps.pair3 (by assumption) ?_)
    | (intro _ _ _)
    | (intro _ _)
    | (intro _)
    | split
    | dsimp only)

theorem keeps_stopCanMboxes {s0 : State} (s : State) (x : ℕ) (h : Keeps s0 s) :
    Keeps s0 (State.stopCanMboxes s x) := by
  unfold State.stopCanMboxes
  try dsimp only
  repeat (first
    | with_reducible assumption
    | with_reducible apply keeps_releaseMbox
    | with_reducible apply Keeps.ite
    | (with_reducible apply Keeps.foldl; intro _ _ _)
    | (with_reducible apply Keeps.upd; with_reducible first | assumption | apply keeps_releaseMbox | apply Keeps.ite | (apply Keeps.foldl; intro _ _ _))
    | (refine Keeps.pair (by assumption) ?_)
    | (refine Keeps.pair3 (by assumption) ?_)
    | (intro _ _ _)
    | (intro _ _)
    | (intro _)
    | split
    | dsimp only)

theorem keeps_gtnFollow {s0 : State} (s : State) (h : Keeps s0 s) :
    Keeps s0 (State.gtnFollow s) := by
  unfold State.gtnFollow
  try dsimp only
  repeat (first
    | with_reducible assumption
    | with_reducible apply keeps_set
    | with_reducible apply keeps_stopCanMboxes
    | with_reducible apply Keeps.ite
    | (with_reducible apply Keeps.upd; with_reducible first | assumption | apply keeps_set | apply keeps_stopCanMboxes | apply Keeps.ite)
    | (refine Keeps.pair (by assumption) ?_)
    | (refine Keeps.pair3 (by assumption) ?_)
    | (intro _ _ _)
    | (intro _ _)
    | (intro _)
    | split
    | dsimp only)

end Sys2Proof.Machine
end

