-- ==== Sys2Proof/Laws/KeepsModes.lean ====
section
/-! SUPPORT. The operations of `Sys2Proof/Machine/Modes.lean` keep what `Keeps` names. -/

set_option linter.unusedTactic false
set_option linter.unreachableTactic false

namespace Sys2Proof.Machine

theorem keeps_showCanInhibit {s0 : State} (s : State) (n : ℕ) (h : Keeps s0 s) :
    Keeps s0 (State.showCanInhibit s n) := by
  unfold State.showCanInhibit
  try dsimp only
  repeat (first
    | with_reducible assumption
    | with_reducible apply keeps_setB
    | with_reducible apply Keeps.ite
    | (with_reducible apply Keeps.upd; with_reducible first | assumption | apply keeps_setB | apply Keeps.ite)
    | (refine Keeps.pair (by assumption) ?_)
    | (refine Keeps.pair3 (by assumption) ?_)
    | (intro _ _ _)
    | (intro _ _)
    | (intro _)
    | split
    | dsimp only)

theorem keeps_showDerived {s0 : State} (s : State) (h : Keeps s0 s) :
    Keeps s0 (State.showDerived s) := by
  unfold State.showDerived
  try dsimp only
  repeat (first
    | with_reducible assumption
    | with_reducible apply keeps_load
    | with_reducible apply Keeps.ite
    | (with_reducible apply Keeps.upd; with_reducible first | assumption | apply keeps_load | apply Keeps.ite)
    | (refine Keeps.pair (by assumption) ?_)
    | (refine Keeps.pair3 (by assumption) ?_)
    | (intro _ _ _)
    | (intro _ _)
    | (intro _)
    | split
    | dsimp only)

theorem keeps_gtnFaults {s0 : State} (s : State) (h : Keeps s0 s) :
    Keeps s0 (State.gtnFaults s) := by
  unfold State.gtnFaults
  try dsimp only
  repeat (first
    | with_reducible assumption
    | with_reducible apply keeps_setIsr
    | with_reducible apply keeps_setBit
    | with_reducible apply keeps_clearBit
    | with_reducible apply keeps_legacyLog
    | with_reducible apply Keeps.ite
    | (with_reducible apply Keeps.foldl; intro _ _ _)
    | (with_reducible apply Keeps.upd; with_reducible first | assumption | apply keeps_setIsr | apply keeps_setBit | apply keeps_clearBit | apply keeps_legacyLog | apply Keeps.ite | (apply Keeps.foldl; intro _ _ _))
    | (refine Keeps.pair (by assumption) ?_)
    | (refine Keeps.pair3 (by assumption) ?_)
    | (intro _ _ _)
    | (intro _ _)
    | (intro _)
    | split
    | dsimp only)

theorem keeps_refreshPins {s0 : State} (s : State) (h : Keeps s0 s) :
    Keeps s0 (State.refreshPins s) := by
  unfold State.refreshPins
  try dsimp only
  repeat (first
    | with_reducible assumption
    | with_reducible apply keeps_followLine
    | with_reducible apply keeps_showCanInhibit
    | with_reducible apply keeps_refreshBridge
    | with_reducible apply keeps_cstFollow
    | with_reducible apply keeps_canFollowAll
    | with_reducible apply keeps_showDerived
    | with_reducible apply keeps_gtnFaults
    | with_reducible apply keeps_gtnFollow
    | with_reducible apply keeps_freeRefused
    | with_reducible apply Keeps.ite
    | (with_reducible apply Keeps.foldl; intro _ _ _)
    | (with_reducible apply Keeps.upd; with_reducible first | assumption | apply keeps_followLine | apply keeps_showCanInhibit | apply keeps_refreshBridge | apply keeps_cstFollow | apply keeps_canFollowAll | apply keeps_showDerived | apply keeps_gtnFaults | apply keeps_gtnFollow | apply keeps_freeRefused | apply Keeps.ite | (apply Keeps.foldl; intro _ _ _))
    | (refine Keeps.pair (by assumption) ?_)
    | (refine Keeps.pair3 (by assumption) ?_)
    | (intro _ _ _)
    | (intro _ _)
    | (intro _)
    | split
    | dsimp only)

theorem keeps_showBusy {s0 : State} (s : State) (h : Keeps s0 s) :
    Keeps s0 (State.showBusy s) := by
  unfold State.showBusy
  try dsimp only
  repeat (first
    | with_reducible assumption
    | with_reducible apply keeps_setB
    | with_reducible apply Keeps.ite
    | (with_reducible apply Keeps.upd; with_reducible first | assumption | apply keeps_setB | apply Keeps.ite)
    | (refine Keeps.pair (by assumption) ?_)
    | (refine Keeps.pair3 (by assumption) ?_)
    | (intro _ _ _)
    | (intro _ _)
    | (intro _)
    | split
    | dsimp only)

theorem keeps_endCmd {s0 : State} (s : State) (base : ℕ) (code : ℕ) (st : Status) (h : Keeps s0 s) :
    Keeps s0 (State.endCmd s base code st) := by
  unfold State.endCmd
  try dsimp only
  repeat (first
    | with_reducible assumption
    | with_reducible apply keeps_set
    | with_reducible apply keeps_showBusy
    | with_reducible apply Keeps.ite
    | (with_reducible apply Keeps.upd; with_reducible first | assumption | apply keeps_set | apply keeps_showBusy | apply Keeps.ite)
    | (refine Keeps.pair (by assumption) ?_)
    | (refine Keeps.pair3 (by assumption) ?_)
    | (intro _ _ _)
    | (intro _ _)
    | (intro _)
    | split
    | dsimp only)

theorem keeps_abortTransitions {s0 : State} (s : State) (st : Status) (h : Keeps s0 s) :
    Keeps s0 (State.abortTransitions s st) := by
  unfold State.abortTransitions
  try dsimp only
  repeat (first
    | with_reducible assumption
    | with_reducible apply keeps_endCmd
    | with_reducible apply Keeps.ite
    | (with_reducible apply Keeps.foldl; intro _ _ _)
    | (with_reducible apply Keeps.upd; with_reducible first | assumption | apply keeps_endCmd | apply Keeps.ite | (apply Keeps.foldl; intro _ _ _))
    | (refine Keeps.pair (by assumption) ?_)
    | (refine Keeps.pair3 (by assumption) ?_)
    | (intro _ _ _)
    | (intro _ _)
    | (intro _)
    | split
    | dsimp only)

theorem keeps_reportMode {s0 : State} (s : State) (h : Keeps s0 s) :
    Keeps s0 (State.reportMode s) := by
  unfold State.reportMode
  try dsimp only
  repeat (first
    | with_reducible assumption
    | with_reducible apply keeps_hostEvent
    | with_reducible apply keeps_record
    | with_reducible apply Keeps.ite
    | (with_reducible apply Keeps.upd; with_reducible first | assumption | apply keeps_hostEvent | apply keeps_record | apply Keeps.ite)
    | (refine Keeps.pair (by assumption) ?_)
    | (refine Keeps.pair3 (by assumption) ?_)
    | (intro _ _ _)
    | (intro _ _)
    | (intro _)
    | split
    | dsimp only)

theorem keeps_putMode {s0 : State} (s : State) (m : ℕ) (cause : ℕ) (h : Keeps s0 s) :
    Keeps s0 (State.putMode s m cause) := by
  unfold State.putMode
  try dsimp only
  repeat (first
    | with_reducible assumption
    | with_reducible apply keeps_load
    | with_reducible apply Keeps.ite
    | (with_reducible apply Keeps.upd; with_reducible first | assumption | apply keeps_load | apply Keeps.ite)
    | (refine Keeps.pair (by assumption) ?_)
    | (refine Keeps.pair3 (by assumption) ?_)
    | (intro _ _ _)
    | (intro _ _)
    | (intro _)
    | split
    | dsimp only)

theorem keeps_setMode {s0 : State} (s : State) (m : ℕ) (cause : ℕ) (h : Keeps s0 s) :
    Keeps s0 (State.setMode s m cause) := by
  unfold State.setMode
  try dsimp only
  repeat (first
    | with_reducible assumption
    | with_reducible apply keeps_set
    | with_reducible apply keeps_reportMode
    | with_reducible apply keeps_putMode
    | with_reducible apply Keeps.ite
    | (with_reducible apply Keeps.upd; with_reducible first | assumption | apply keeps_set | apply keeps_reportMode | apply keeps_putMode | apply Keeps.ite)
    | (refine Keeps.pair (by assumption) ?_)
    | (refine Keeps.pair3 (by assumption) ?_)
    | (intro _ _ _)
    | (intro _ _)
    | (intro _)
    | split
    | dsimp only)

theorem keeps_setModeSleep {s0 : State} (s : State) (cause : ℕ) (h : Keeps s0 s) :
    Keeps s0 (State.setModeSleep s cause) := by
  unfold State.setModeSleep
  try dsimp only
  repeat (first
    | with_reducible assumption
    | with_reducible apply keeps_putMode
    | with_reducible apply keeps_record
    | with_reducible apply Keeps.ite
    | (with_reducible apply Keeps.upd; with_reducible first | assumption | apply keeps_putMode | apply keeps_record | apply Keeps.ite)
    | (refine Keeps.pair (by assumption) ?_)
    | (refine Keeps.pair3 (by assumption) ?_)
    | (intro _ _ _)
    | (intro _ _)
    | (intro _)
    | split
    | dsimp only)

theorem keeps_releaseInterlock {s0 : State} (s : State) (h : Keeps s0 s) :
    Keeps s0 (State.releaseInterlock s) := by
  unfold State.releaseInterlock
  try dsimp only
  repeat (first
    | with_reducible assumption
    | with_reducible apply keeps_set
    | with_reducible apply Keeps.ite
    | (with_reducible apply Keeps.upd; with_reducible first | assumption | apply keeps_set | apply Keeps.ite)
    | (refine Keeps.pair (by assumption) ?_)
    | (refine Keeps.pair3 (by assumption) ?_)
    | (intro _ _ _)
    | (intro _ _)
    | (intro _)
    | split
    | dsimp only)

theorem keeps_enterSafeMode {s0 : State} (s : State) (cause : ℕ) (h : Keeps s0 s) :
    Keeps s0 (State.enterSafeMode s cause) := by
  unfold State.enterSafeMode
  try dsimp only
  repeat (first
    | with_reducible assumption
    | with_reducible apply keeps_releaseInterlock
    | with_reducible apply keeps_setMode
    | with_reducible apply keeps_refreshBridge
    | with_reducible apply keeps_cstFollow
    | with_reducible apply keeps_canFollowAll
    | with_reducible apply Keeps.ite
    | (with_reducible apply Keeps.upd; with_reducible first | assumption | apply keeps_releaseInterlock | apply keeps_setMode | apply keeps_refreshBridge | apply keeps_cstFollow | apply keeps_canFollowAll | apply Keeps.ite)
    | (refine Keeps.pair (by assumption) ?_)
    | (refine Keeps.pair3 (by assumption) ?_)
    | (intro _ _ _)
    | (intro _ _)
    | (intro _)
    | split
    | dsimp only)

theorem keeps_countSafe {s0 : State} (s : State) (h : Keeps s0 s) :
    Keeps s0 (State.countSafe s) := by
  unfold State.countSafe
  try dsimp only
  repeat (first
    | with_reducible assumption
    | with_reducible apply keeps_bump
    | with_reducible apply keeps_set
    | with_reducible apply Keeps.ite
    | (with_reducible apply Keeps.upd; with_reducible first | assumption | apply keeps_bump | apply keeps_set | apply Keeps.ite)
    | (refine Keeps.pair (by assumption) ?_)
    | (refine Keeps.pair3 (by assumption) ?_)
    | (intro _ _ _)
    | (intro _ _)
    | (intro _)
    | split
    | dsimp only)

theorem keeps_closeBoot {s0 : State} (s : State) (h : Keeps s0 s) :
    Keeps s0 (State.closeBoot s) := by
  unfold State.closeBoot
  try dsimp only
  repeat (first
    | with_reducible assumption
    | with_reducible apply keeps_set
    | with_reducible apply keeps_record
    | with_reducible apply keeps_rewindLog
    | with_reducible apply Keeps.ite
    | (with_reducible apply Keeps.foldl; intro _ _ _)
    | (with_reducible apply Keeps.upd; with_reducible first | assumption | apply keeps_set | apply keeps_record | apply keeps_rewindLog | apply Keeps.ite | (apply Keeps.foldl; intro _ _ _))
    | (refine Keeps.pair (by assumption) ?_)
    | (refine Keeps.pair3 (by assumption) ?_)
    | (intro _ _ _)
    | (intro _ _)
    | (intro _)
    | split
    | dsimp only)

theorem keeps_bootToSafe {s0 : State} (s : State) (result : ℕ) (cause : ℕ) (h : Keeps s0 s) :
    Keeps s0 (State.bootToSafe s result cause) := by
  unfold State.bootToSafe
  try dsimp only
  repeat (first
    | with_reducible assumption
    | with_reducible apply keeps_showDerived
    | with_reducible apply keeps_set
    | with_reducible apply keeps_closeBoot
    | with_reducible apply keeps_enterSafeMode
    | with_reducible apply Keeps.ite
    | (with_reducible apply Keeps.upd; with_reducible first | assumption | apply keeps_showDerived | apply keeps_set | apply keeps_closeBoot | apply keeps_enterSafeMode | apply Keeps.ite)
    | (refine Keeps.pair (by assumption) ?_)
    | (refine Keeps.pair3 (by assumption) ?_)
    | (intro _ _ _)
    | (intro _ _)
    | (intro _)
    | split
    | dsimp only)

theorem keeps_escalateStep {s0 : State} (s : State) (h : Keeps s0 s) :
    Keeps s0 (State.escalateStep s) := by
  unfold State.escalateStep
  try dsimp only
  repeat (first
    | with_reducible assumption
    | with_reducible apply keeps_load
    | with_reducible apply keeps_abortTransitions
    | with_reducible apply keeps_countSafe
    | with_reducible apply keeps_bump
    | with_reducible apply keeps_enterSafeMode
    | with_reducible apply keeps_record
    | with_reducible apply keeps_closeBoot
    | with_reducible apply Keeps.ite
    | (with_reducible apply Keeps.upd; with_reducible first | assumption | apply keeps_load | apply keeps_abortTransitions | apply keeps_countSafe | apply keeps_bump | apply keeps_enterSafeMode | apply keeps_record | apply keeps_closeBoot | apply Keeps.ite)
    | (refine Keeps.pair (by assumption) ?_)
    | (refine Keeps.pair3 (by assumption) ?_)
    | (intro _ _ _)
    | (intro _ _)
    | (intro _)
    | split
    | dsimp only)

theorem keeps_settled {s0 : State} (s : State) (h : Keeps s0 s) :
    Keeps s0 (State.settled s) := by
  unfold State.settled
  try dsimp only
  repeat (first
    | with_reducible assumption
    | with_reducible apply keeps_refreshPins
    | with_reducible apply keeps_escalateStep
    | with_reducible apply keeps_overflowStep
    | with_reducible apply Keeps.ite
    | (with_reducible apply Keeps.upd; with_reducible first | assumption | apply keeps_refreshPins | apply keeps_escalateStep | apply keeps_overflowStep | apply Keeps.ite)
    | (refine Keeps.pair (by assumption) ?_)
    | (refine Keeps.pair3 (by assumption) ?_)
    | (intro _ _ _)
    | (intro _ _)
    | (intro _)
    | split
    | dsimp only)

theorem keeps_finish {s0 : State} (s : State) (h : Keeps s0 s) :
    ∃ u, finish s = finish u ∧ Keeps s0 u := by
  refine ⟨_, rfl, ?_⟩
  try dsimp only
  repeat (first
    | with_reducible assumption
    | with_reducible apply keeps_settled
    | with_reducible apply Keeps.ite
    | (with_reducible apply Keeps.upd; with_reducible first | assumption | apply keeps_settled | apply Keeps.ite)
    | (refine Keeps.pair (by assumption) ?_)
    | (refine Keeps.pair3 (by assumption) ?_)
    | (intro _ _ _)
    | (intro _ _)
    | (intro _)
    | split
    | dsimp only)

theorem bootRegs_sorted (kind : BootKind) {r : List (Nat × Nat)} (h : tabSorted r = true) :
    tabSorted (bootRegs kind r) = true := by
  unfold bootRegs keepFields
  cases kind <;> exact tabSorted_filter _ h

theorem keeps_cleared {s0 : State} (s : State) (kind : BootKind) (h : Keeps s0 s) :
    Keeps s0 (State.cleared s kind) :=
  ⟨h.otp, h.pending, h.elapsed, fun x => bootRegs_sorted kind (h.sorted x)⟩

theorem keeps_sampleStraps {s0 : State} (s : State) (straps : ℕ) (h : Keeps s0 s) :
    Keeps s0 (State.sampleStraps s straps) := by
  unfold State.sampleStraps
  try dsimp only
  repeat (first
    | with_reducible assumption
    | with_reducible apply keeps_set
    | with_reducible apply Keeps.ite
    | (with_reducible apply Keeps.upd; with_reducible first | assumption | apply keeps_set | apply Keeps.ite)
    | (refine Keeps.pair (by assumption) ?_)
    | (refine Keeps.pair3 (by assumption) ?_)
    | (intro _ _ _)
    | (intro _ _)
    | (intro _)
    | split
    | dsimp only)

theorem keeps_startIv {s0 : State} (s : State) (h : Keeps s0 s) :
    Keeps s0 (State.startIv s) := by
  unfold State.startIv
  try dsimp only
  repeat (first
    | with_reducible assumption
    | with_reducible apply keeps_set
    | with_reducible apply Keeps.ite
    | (with_reducible apply Keeps.upd; with_reducible first | assumption | apply keeps_set | apply Keeps.ite)
    | (refine Keeps.pair (by assumption) ?_)
    | (refine Keeps.pair3 (by assumption) ?_)
    | (intro _ _ _)
    | (intro _ _)
    | (intro _)
    | split
    | dsimp only)

theorem keeps_loadMram {s0 : State} (s : State) (h : Keeps s0 s) :
    Keeps s0 (State.loadMram s) := by
  unfold State.loadMram
  try dsimp only
  repeat (first
    | with_reducible assumption
    | with_reducible apply keeps_load
    | with_reducible apply Keeps.ite
    | (with_reducible apply Keeps.upd; with_reducible first | assumption | apply keeps_load | apply Keeps.ite)
    | (refine Keeps.pair (by assumption) ?_)
    | (refine Keeps.pair3 (by assumption) ?_)
    | (intro _ _ _)
    | (intro _ _)
    | (intro _)
    | split
    | dsimp only)

theorem keeps_startLegacy {s0 : State} (s : State) (cause : ℕ) (h : Keeps s0 s) :
    Keeps s0 (State.startLegacy s cause) := by
  unfold State.startLegacy
  try dsimp only
  repeat (first
    | with_reducible assumption
    | with_reducible apply keeps_set
    | with_reducible apply keeps_gtnMap
    | with_reducible apply keeps_load
    | with_reducible apply Keeps.ite
    | (with_reducible apply Keeps.upd; with_reducible first | assumption | apply keeps_set | apply keeps_gtnMap | apply keeps_load | apply Keeps.ite)
    | (refine Keeps.pair (by assumption) ?_)
    | (refine Keeps.pair3 (by assumption) ?_)
    | (intro _ _ _)
    | (intro _ _)
    | (intro _)
    | split
    | dsimp only)

theorem keeps_startBoot {s0 : State} (s : State) (kind : BootKind) (cause : ℕ) (straps : Option ℕ) (h : Keeps s0 s) :
    Keeps s0 (State.startBoot s kind cause straps) := by
  unfold State.startBoot
  try dsimp only
  repeat (first
    | with_reducible assumption
    | with_reducible apply keeps_endCmd
    | with_reducible apply keeps_cleared
    | with_reducible apply keeps_load
    | with_reducible apply keeps_sampleStraps
    | with_reducible apply keeps_set
    | with_reducible apply keeps_startLegacy
    | with_reducible apply keeps_showQueue
    | with_reducible apply keeps_renewNonce
    | with_reducible apply keeps_startIv
    | with_reducible apply keeps_loadMram
    | with_reducible apply keeps_reportMode
    | with_reducible apply keeps_raiseLines
    | with_reducible apply Keeps.ite
    | (with_reducible apply Keeps.foldl; intro _ _ _)
    | (with_reducible apply Keeps.upd; with_reducible first | assumption | apply keeps_endCmd | apply keeps_cleared | apply keeps_load | apply keeps_sampleStraps | apply keeps_set | apply keeps_startLegacy | apply keeps_showQueue | apply keeps_renewNonce | apply keeps_startIv | apply keeps_loadMram | apply keeps_reportMode | apply keeps_raiseLines | apply Keeps.ite | (apply Keeps.foldl; intro _ _ _))
    | (refine Keeps.pair (by assumption) ?_)
    | (refine Keeps.pair3 (by assumption) ?_)
    | (intro _ _ _)
    | (intro _ _)
    | (intro _)
    | split
    | dsimp only)

end Sys2Proof.Machine
end

