-- ==== Sys2Proof/Laws/KeepsBrgReqs.lean ====
section
/-! SUPPORT. The operations of `Sys2Proof/Machine/BrgReqs.lean` keep what `Keeps` names. -/

set_option linter.unusedTactic false
set_option linter.unreachableTactic false

namespace Sys2Proof.Machine

theorem keeps_endLockOf {s0 : State} (s : State) (w : ℕ) (h : Keeps s0 s) :
    Keeps s0 (State.endLockOf s w) := by
  unfold State.endLockOf
  try dsimp only
  repeat (first
    | with_reducible assumption
    | with_reducible apply keeps_brgMap
    | with_reducible apply keeps_endOutLock
    | with_reducible apply Keeps.ite
    | (with_reducible apply Keeps.upd; with_reducible first | assumption | apply keeps_brgMap | apply keeps_endOutLock | apply Keeps.ite)
    | (refine Keeps.pair (by assumption) ?_)
    | (refine Keeps.pair3 (by assumption) ?_)
    | (intro _ _ _)
    | (intro _ _)
    | (intro _)
    | split
    | dsimp only)

theorem keeps_putApStatus {s0 : State} (s : State) (who : ℕ) (status : ℕ) (h : Keeps s0 s) :
    Keeps s0 (State.putApStatus s who status) := by
  unfold State.putApStatus
  try dsimp only
  repeat (first
    | with_reducible assumption
    | with_reducible apply keeps_set
    | with_reducible apply Keeps.ite
    | (with_reducible apply Keeps.upd; with_reducible first | assumption | apply keeps_set | apply Keeps.ite)
    | (refine Keeps.pair (by assumption) ?_)
    | (refine Keeps.pair3 (by assumption) ?_)
    | (intro _ _ _)
    | (intro _ _)
    | (intro _)
    | split
    | dsimp only)

theorem keeps_takeBseq {s0 : State} (s : State) (w : ℕ) (h : Keeps s0 s) :
    Keeps s0 (State.takeBseq s w).2 := by
  unfold State.takeBseq
  try dsimp only
  repeat (first
    | with_reducible assumption
    | with_reducible apply keeps_set
    | with_reducible apply Keeps.ite
    | (with_reducible apply Keeps.upd; with_reducible first | assumption | apply keeps_set | apply Keeps.ite)
    | (refine Keeps.pair (by assumption) ?_)
    | (refine Keeps.pair3 (by assumption) ?_)
    | (intro _ _ _)
    | (intro _ _)
    | (intro _)
    | split
    | dsimp only)

theorem keeps_sendRequest {s0 : State} (s : State) (r : BrgReq) (h : Keeps s0 s) :
    Keeps s0 (State.sendRequest s r) := by
  unfold State.sendRequest
  try dsimp only
  repeat (first
    | with_reducible assumption
    | with_reducible apply keeps_originate
    | with_reducible apply Keeps.ite
    | (with_reducible apply Keeps.upd; with_reducible first | assumption | apply keeps_originate | apply Keeps.ite)
    | (refine Keeps.pair (by assumption) ?_)
    | (refine Keeps.pair3 (by assumption) ?_)
    | (intro _ _ _)
    | (intro _ _)
    | (intro _)
    | split
    | dsimp only)

theorem keeps_dressRequest {s0 : State} (s : State) (r : BrgReq) (h : Keeps s0 s) :
    Keeps s0 (State.dressRequest s r).2 := by
  unfold State.dressRequest
  try dsimp only
  repeat (first
    | with_reducible assumption
    | with_reducible apply keeps_takeBseq
    | with_reducible apply Keeps.ite
    | (with_reducible apply Keeps.upd; with_reducible first | assumption | apply keeps_takeBseq | apply Keeps.ite)
    | (refine Keeps.pair (by assumption) ?_)
    | (refine Keeps.pair3 (by assumption) ?_)
    | (intro _ _ _)
    | (intro _ _)
    | (intro _)
    | split
    | dsimp only)

theorem keeps_sendWrite {s0 : State} (s : State) (r : BrgReq) (h : Keeps s0 s) :
    Keeps s0 (State.sendWrite s r) := by
  unfold State.sendWrite
  try dsimp only
  repeat (first
    | with_reducible assumption
    | with_reducible apply keeps_dressRequest
    | with_reducible apply keeps_showPosted
    | with_reducible apply keeps_brgMap
    | with_reducible apply keeps_putApStatus
    | with_reducible apply keeps_set
    | with_reducible apply keeps_sendRequest
    | with_reducible apply keeps_endLockOf
    | with_reducible apply Keeps.ite
    | (with_reducible apply Keeps.upd; with_reducible first | assumption | apply keeps_dressRequest | apply keeps_showPosted | apply keeps_brgMap | apply keeps_putApStatus | apply keeps_set | apply keeps_sendRequest | apply keeps_endLockOf | apply Keeps.ite)
    | (refine Keeps.pair (by assumption) ?_)
    | (refine Keeps.pair3 (by assumption) ?_)
    | (intro _ _ _)
    | (intro _ _)
    | (intro _)
    | split
    | dsimp only)

theorem keeps_sendRead {s0 : State} (s : State) (r : BrgReq) (h : Keeps s0 s) :
    Keeps s0 (State.sendRead s r) := by
  unfold State.sendRead
  try dsimp only
  repeat (first
    | with_reducible assumption
    | with_reducible apply keeps_dressRequest
    | with_reducible apply keeps_brgMap
    | with_reducible apply keeps_putApStatus
    | with_reducible apply keeps_set
    | with_reducible apply keeps_sendRequest
    | with_reducible apply keeps_endLockOf
    | with_reducible apply Keeps.ite
    | (with_reducible apply Keeps.upd; with_reducible first | assumption | apply keeps_dressRequest | apply keeps_brgMap | apply keeps_putApStatus | apply keeps_set | apply keeps_sendRequest | apply keeps_endLockOf | apply Keeps.ite)
    | (refine Keeps.pair (by assumption) ?_)
    | (refine Keeps.pair3 (by assumption) ?_)
    | (intro _ _ _)
    | (intro _ _)
    | (intro _)
    | split
    | dsimp only)

theorem keeps_sendUnlock {s0 : State} (s : State) (r : BrgReq) (h : Keeps s0 s) :
    Keeps s0 (State.sendUnlock s r) := by
  unfold State.sendUnlock
  try dsimp only
  repeat (first
    | with_reducible assumption
    | with_reducible apply keeps_originate
    | with_reducible apply keeps_putApStatus
    | with_reducible apply keeps_endLockOf
    | with_reducible apply Keeps.ite
    | (with_reducible apply Keeps.upd; with_reducible first | assumption | apply keeps_originate | apply keeps_putApStatus | apply keeps_endLockOf | apply Keeps.ite)
    | (refine Keeps.pair (by assumption) ?_)
    | (refine Keeps.pair3 (by assumption) ?_)
    | (intro _ _ _)
    | (intro _ _)
    | (intro _)
    | split
    | dsimp only)

theorem keeps_sendAny {s0 : State} (s : State) (r : BrgReq) (h : Keeps s0 s) :
    Keeps s0 (State.sendAny s r) := by
  unfold State.sendAny
  try dsimp only
  repeat (first
    | with_reducible assumption
    | with_reducible apply keeps_sendWrite
    | with_reducible apply keeps_brgMap
    | with_reducible apply keeps_putApStatus
    | with_reducible apply keeps_sendRead
    | with_reducible apply keeps_sendUnlock
    | with_reducible apply Keeps.ite
    | (with_reducible apply Keeps.upd; with_reducible first | assumption | apply keeps_sendWrite | apply keeps_brgMap | apply keeps_putApStatus | apply keeps_sendRead | apply keeps_sendUnlock | apply Keeps.ite)
    | (refine Keeps.pair (by assumption) ?_)
    | (refine Keeps.pair3 (by assumption) ?_)
    | (intro _ _ _)
    | (intro _ _)
    | (intro _)
    | split
    | dsimp only)

theorem keeps_issueRequest {s0 : State} (s : State) (r : BrgReq) (h : Keeps s0 s) :
    Keeps s0 (State.issueRequest s r).2 := by
  unfold State.issueRequest
  try dsimp only
  repeat (first
    | with_reducible assumption
    | with_reducible apply keeps_putApStatus
    | with_reducible apply keeps_brgMap
    | with_reducible apply keeps_unroutable
    | with_reducible apply keeps_sendAny
    | with_reducible apply Keeps.ite
    | (with_reducible apply Keeps.upd; with_reducible first | assumption | apply keeps_putApStatus | apply keeps_brgMap | apply keeps_unroutable | apply keeps_sendAny | apply Keeps.ite)
    | (refine Keeps.pair (by assumption) ?_)
    | (refine Keeps.pair3 (by assumption) ?_)
    | (intro _ _ _)
    | (intro _ _)
    | (intro _)
    | split
    | dsimp only)

theorem keeps_unpark {s0 : State} (s : State) (r : BrgReq) (h : Keeps s0 s) :
    Keeps s0 (State.unpark s r) := by
  unfold State.unpark
  try dsimp only
  repeat (first
    | with_reducible assumption
    | with_reducible apply keeps_finishRequest
    | with_reducible apply keeps_unroutable
    | with_reducible apply keeps_sendAny
    | with_reducible apply Keeps.ite
    | (with_reducible apply Keeps.upd; with_reducible first | assumption | apply keeps_finishRequest | apply keeps_unroutable | apply keeps_sendAny | apply Keeps.ite)
    | (refine Keeps.pair (by assumption) ?_)
    | (refine Keeps.pair3 (by assumption) ?_)
    | (intro _ _ _)
    | (intro _ _)
    | (intro _)
    | split
    | dsimp only)

theorem keeps_turnAway {s0 : State} (s : State) (status : ℕ) (r : BrgReq) (h : Keeps s0 s) :
    Keeps s0 (State.turnAway s status r) := by
  unfold State.turnAway
  try dsimp only
  repeat (first
    | with_reducible assumption
    | with_reducible apply keeps_postedFault
    | with_reducible apply keeps_finishRequest
    | with_reducible apply Keeps.ite
    | (with_reducible apply Keeps.upd; with_reducible first | assumption | apply keeps_postedFault | apply keeps_finishRequest | apply Keeps.ite)
    | (refine Keeps.pair (by assumption) ?_)
    | (refine Keeps.pair3 (by assumption) ?_)
    | (intro _ _ _)
    | (intro _ _)
    | (intro _)
    | split
    | dsimp only)

theorem keeps_closeRequests {s0 : State} (s : State) (w : ℕ) (status : ℕ) (h : Keeps s0 s) :
    Keeps s0 (State.closeRequests s w status) := by
  unfold State.closeRequests
  try dsimp only
  repeat (first
    | with_reducible assumption
    | with_reducible apply keeps_brgMap
    | with_reducible apply keeps_finishRequest
    | with_reducible apply keeps_turnAway
    | with_reducible apply keeps_endLockOf
    | with_reducible apply Keeps.ite
    | (with_reducible apply Keeps.foldl; intro _ _ _)
    | (with_reducible apply Keeps.upd; with_reducible first | assumption | apply keeps_brgMap | apply keeps_finishRequest | apply keeps_turnAway | apply keeps_endLockOf | apply Keeps.ite | (apply Keeps.foldl; intro _ _ _))
    | (refine Keeps.pair (by assumption) ?_)
    | (refine Keeps.pair3 (by assumption) ?_)
    | (intro _ _ _)
    | (intro _ _)
    | (intro _)
    | split
    | dsimp only)

theorem keeps_putWin {s0 : State} (s : State) (w : ℕ) (state : ℕ) (pos : ℕ) (h : Keeps s0 s) :
    Keeps s0 (State.putWin s w state pos) := by
  unfold State.putWin
  try dsimp only
  repeat (first
    | with_reducible assumption
    | with_reducible apply keeps_load
    | with_reducible apply Keeps.ite
    | (with_reducible apply Keeps.upd; with_reducible first | assumption | apply keeps_load | apply Keeps.ite)
    | (refine Keeps.pair (by assumption) ?_)
    | (refine Keeps.pair3 (by assumption) ?_)
    | (intro _ _ _)
    | (intro _ _)
    | (intro _)
    | split
    | dsimp only)

theorem keeps_resolveWindow {s0 : State} (s : State) (w : ℕ) (h : Keeps s0 s) :
    Keeps s0 (State.resolveWindow s w) := by
  unfold State.resolveWindow
  try dsimp only
  repeat (first
    | with_reducible assumption
    | with_reducible apply keeps_brgMap
    | with_reducible apply keeps_putWin
    | with_reducible apply keeps_unpark
    | with_reducible apply Keeps.ite
    | (with_reducible apply Keeps.foldl; intro _ _ _)
    | (with_reducible apply Keeps.upd; with_reducible first | assumption | apply keeps_brgMap | apply keeps_putWin | apply keeps_unpark | apply Keeps.ite | (apply Keeps.foldl; intro _ _ _))
    | (refine Keeps.pair (by assumption) ?_)
    | (refine Keeps.pair3 (by assumption) ?_)
    | (intro _ _ _)
    | (intro _ _)
    | (intro _)
    | split
    | dsimp only)

theorem keeps_resolveWindows {s0 : State} (s : State) (h : Keeps s0 s) :
    Keeps s0 (State.resolveWindows s) := by
  unfold State.resolveWindows
  try dsimp only
  repeat (first
    | with_reducible assumption
    | with_reducible apply keeps_resolveWindow
    | with_reducible apply Keeps.ite
    | (with_reducible apply Keeps.foldl; intro _ _ _)
    | (with_reducible apply Keeps.upd; with_reducible first | assumption | apply keeps_resolveWindow | apply Keeps.ite | (apply Keeps.foldl; intro _ _ _))
    | (refine Keeps.pair (by assumption) ?_)
    | (refine Keeps.pair3 (by assumption) ?_)
    | (intro _ _ _)
    | (intro _ _)
    | (intro _)
    | split
    | dsimp only)

theorem keeps_absentWindows {s0 : State} (s : State) (h : Keeps s0 s) :
    Keeps s0 (State.absentWindows s) := by
  unfold State.absentWindows
  try dsimp only
  repeat (first
    | with_reducible assumption
    | with_reducible apply keeps_closeRequests
    | with_reducible apply keeps_putWin
    | with_reducible apply Keeps.ite
    | (with_reducible apply Keeps.foldl; intro _ _ _)
    | (with_reducible apply Keeps.upd; with_reducible first | assumption | apply keeps_closeRequests | apply keeps_putWin | apply Keeps.ite | (apply Keeps.foldl; intro _ _ _))
    | (refine Keeps.pair (by assumption) ?_)
    | (refine Keeps.pair3 (by assumption) ?_)
    | (intro _ _ _)
    | (intro _ _)
    | (intro _)
    | split
    | dsimp only)

theorem keeps_winAtCommit {s0 : State} (kept : Bool) (keptLen : ℕ) (s : State) (w : ℕ) (h : Keeps s0 s) :
    Keeps s0 (State.winAtCommit kept keptLen s w) := by
  unfold State.winAtCommit
  try dsimp only
  repeat (first
    | with_reducible assumption
    | with_reducible apply keeps_closeRequests
    | with_reducible apply keeps_putWin
    | with_reducible apply keeps_resolveWindow
    | with_reducible apply Keeps.ite
    | (with_reducible apply Keeps.upd; with_reducible first | assumption | apply keeps_closeRequests | apply keeps_putWin | apply keeps_resolveWindow | apply Keeps.ite)
    | (refine Keeps.pair (by assumption) ?_)
    | (refine Keeps.pair3 (by assumption) ?_)
    | (intro _ _ _)
    | (intro _ _)
    | (intro _)
    | split
    | dsimp only)

theorem keeps_releaseHeld {s0 : State} (s : State) (p : BrgHeld → Bool) (h : Keeps s0 s) :
    Keeps s0 (State.releaseHeld s p) := by
  unfold State.releaseHeld
  try dsimp only
  repeat (first
    | with_reducible assumption
    | with_reducible apply keeps_msgMap
    | with_reducible apply keeps_brgMap
    | with_reducible apply Keeps.ite
    | (with_reducible apply Keeps.upd; with_reducible first | assumption | apply keeps_msgMap | apply keeps_brgMap | apply Keeps.ite)
    | (refine Keeps.pair (by assumption) ?_)
    | (refine Keeps.pair3 (by assumption) ?_)
    | (intro _ _ _)
    | (intro _ _)
    | (intro _)
    | split
    | dsimp only)

theorem keeps_unlockTarget {s0 : State} (s : State) (h : Keeps s0 s) :
    Keeps s0 (State.unlockTarget s) := by
  unfold State.unlockTarget
  try dsimp only
  repeat (first
    | with_reducible assumption
    | with_reducible apply keeps_releaseHeld
    | with_reducible apply keeps_endTargetLock
    | with_reducible apply Keeps.ite
    | (with_reducible apply Keeps.upd; with_reducible first | assumption | apply keeps_releaseHeld | apply keeps_endTargetLock | apply Keeps.ite)
    | (refine Keeps.pair (by assumption) ?_)
    | (refine Keeps.pair3 (by assumption) ?_)
    | (intro _ _ _)
    | (intro _ _)
    | (intro _)
    | split
    | dsimp only)

theorem keeps_brgCommit {s0 : State} (s : State) (kept : Bool) (keptLen : ℕ) (h : Keeps s0 s) :
    Keeps s0 (State.brgCommit s kept keptLen) := by
  unfold State.brgCommit
  try dsimp only
  repeat (first
    | with_reducible assumption
    | with_reducible apply keeps_winAtCommit
    | with_reducible apply keeps_brgMap
    | with_reducible apply keeps_unlockTarget
    | with_reducible apply Keeps.ite
    | (with_reducible apply Keeps.foldl; intro _ _ _)
    | (with_reducible apply Keeps.upd; with_reducible first | assumption | apply keeps_winAtCommit | apply keeps_brgMap | apply keeps_unlockTarget | apply Keeps.ite | (apply Keeps.foldl; intro _ _ _))
    | (refine Keeps.pair (by assumption) ?_)
    | (refine Keeps.pair3 (by assumption) ?_)
    | (intro _ _ _)
    | (intro _ _)
    | (intro _)
    | split
    | dsimp only)

theorem keeps_pollSidebands {s0 : State} (s : State) (h : Keeps s0 s) :
    Keeps s0 (State.pollSidebands s) := by
  unfold State.pollSidebands
  try dsimp only
  repeat (first
    | with_reducible assumption
    | with_reducible apply keeps_originate
    | with_reducible apply Keeps.ite
    | (with_reducible apply Keeps.foldl; intro _ _ _)
    | (with_reducible apply Keeps.upd; with_reducible first | assumption | apply keeps_originate | apply Keeps.ite | (apply Keeps.foldl; intro _ _ _))
    | (refine Keeps.pair (by assumption) ?_)
    | (refine Keeps.pair3 (by assumption) ?_)
    | (intro _ _ _)
    | (intro _ _)
    | (intro _)
    | split
    | dsimp only)

theorem keeps_sidebandEpoch {s0 : State} (s : State) (h : Keeps s0 s) :
    Keeps s0 (State.sidebandEpoch s) := by
  unfold State.sidebandEpoch
  try dsimp only
  repeat (first
    | with_reducible assumption
    | with_reducible apply keeps_load
    | with_reducible apply Keeps.ite
    | (with_reducible apply Keeps.foldl; intro _ _ _)
    | (with_reducible apply Keeps.upd; with_reducible first | assumption | apply keeps_load | apply Keeps.ite | (apply Keeps.foldl; intro _ _ _))
    | (refine Keeps.pair (by assumption) ?_)
    | (refine Keeps.pair3 (by assumption) ?_)
    | (intro _ _ _)
    | (intro _ _)
    | (intro _)
    | split
    | dsimp only)

end Sys2Proof.Machine
end

