-- ==== Sys2Proof/Laws/KeepsCommands.lean ====
section
/-! SUPPORT. The operations of `Sys2Proof/Machine/Commands.lean` keep what `Keeps` names. -/

set_option linter.unusedTactic false
set_option linter.unreachableTactic false

namespace Sys2Proof.Machine

theorem keeps_recordDenied {s0 : State} (s : State) (path : Path) (addr : ℕ) (value : ℕ) (width : ℕ) (h : Keeps s0 s) :
    Keeps s0 (State.recordDenied s path addr value width) := by
  unfold State.recordDenied
  try dsimp only
  repeat (first
    | with_reducible assumption
    | with_reducible apply keeps_record
    | with_reducible apply Keeps.ite
    | (with_reducible apply Keeps.upd; with_reducible first | assumption | apply keeps_record | apply Keeps.ite)
    | (refine Keeps.pair (by assumption) ?_)
    | (refine Keeps.pair3 (by assumption) ?_)
    | (intro _ _ _)
    | (intro _ _)
    | (intro _)
    | split
    | dsimp only)

theorem keeps_report {s0 : State} (s : State) (path : Path) (code : ℕ) (st : Status) (h : Keeps s0 s) :
    Keeps s0 (State.report s path code st) := by
  unfold State.report
  try dsimp only
  repeat (first
    | with_reducible assumption
    | with_reducible apply keeps_load
    | with_reducible apply keeps_set
    | with_reducible apply Keeps.ite
    | (with_reducible apply Keeps.upd; with_reducible first | assumption | apply keeps_load | apply keeps_set | apply Keeps.ite)
    | (refine Keeps.pair (by assumption) ?_)
    | (refine Keeps.pair3 (by assumption) ?_)
    | (intro _ _ _)
    | (intro _ _)
    | (intro _)
    | split
    | dsimp only)

theorem keeps_wrongState {s0 : State} (s : State) (path : Path) (base : ℕ) (code : ℕ) (h : Keeps s0 s) :
    Keeps s0 (State.wrongState s path base code) := by
  unfold State.wrongState
  try dsimp only
  repeat (first
    | with_reducible assumption
    | with_reducible apply keeps_bump
    | with_reducible apply keeps_rateCheck
    | with_reducible apply keeps_record
    | with_reducible apply keeps_pulse
    | with_reducible apply Keeps.ite
    | (with_reducible apply Keeps.upd; with_reducible first | assumption | apply keeps_bump | apply keeps_rateCheck | apply keeps_record | apply keeps_pulse | apply Keeps.ite)
    | (refine Keeps.pair (by assumption) ?_)
    | (refine Keeps.pair3 (by assumption) ?_)
    | (intro _ _ _)
    | (intro _ _)
    | (intro _)
    | split
    | dsimp only)

theorem keeps_afterAuth {s0 : State} (s : State) (c : CmdSpec) (st : Status) (hc : ∀ a t, Keeps s0 t → Keeps s0 (c.run a t)) (h : Keeps s0 s) :
    Keeps s0 (State.afterAuth s c st) := by
  unfold State.afterAuth
  try dsimp only
  repeat (first
    | with_reducible assumption
    | with_reducible apply hc
    | with_reducible apply keeps_bump
    | with_reducible apply keeps_renewNonce
    | with_reducible apply Keeps.ite
    | (with_reducible apply Keeps.upd; with_reducible first | assumption | apply hc | apply keeps_bump | apply keeps_renewNonce | apply Keeps.ite)
    | (refine Keeps.pair (by assumption) ?_)
    | (refine Keeps.pair3 (by assumption) ?_)
    | (intro _ _ _)
    | (intro _ _)
    | (intro _)
    | split
    | dsimp only)

theorem keeps_acceptCmd {s0 : State} (s : State) (c : CmdSpec) (path : Path) (arg : ℕ) (hc : ∀ a t, Keeps s0 t → Keeps s0 (c.run a t)) (h : Keeps s0 s) :
    Keeps s0 (State.acceptCmd s c path arg).2 := by
  unfold State.acceptCmd
  try dsimp only
  repeat (first
    | with_reducible assumption
    | with_reducible apply hc
    | with_reducible apply keeps_report
    | with_reducible apply keeps_showBusy
    | with_reducible apply Keeps.ite
    | (with_reducible apply Keeps.upd; with_reducible first | assumption | apply hc | apply keeps_report | apply keeps_showBusy | apply Keeps.ite)
    | (refine Keeps.pair (by assumption) ?_)
    | (refine Keeps.pair3 (by assumption) ?_)
    | (intro _ _ _)
    | (intro _ _)
    | (intro _)
    | split
    | dsimp only)

theorem keeps_runCmd {s0 : State} (s : State) (c : CmdSpec) (path : Path) (arg : ℕ) (hc : ∀ a t, Keeps s0 t → Keeps s0 (c.run a t)) (h : Keeps s0 s) :
    Keeps s0 (State.runCmd s c path arg).2 := by
  unfold State.runCmd
  try dsimp only
  repeat (first
    | with_reducible assumption
    | with_reducible apply hc
    | with_reducible apply keeps_afterAuth
    | with_reducible apply keeps_acceptCmd
    | with_reducible apply keeps_report
    | with_reducible apply keeps_wrongState
    | with_reducible apply keeps_recordDenied
    | with_reducible apply Keeps.ite
    | (with_reducible apply Keeps.upd; with_reducible first | assumption | apply hc | apply keeps_afterAuth | apply keeps_acceptCmd | apply keeps_report | apply keeps_wrongState | apply keeps_recordDenied | apply Keeps.ite)
    | (refine Keeps.pair (by assumption) ?_)
    | (refine Keeps.pair3 (by assumption) ?_)
    | (intro _ _ _)
    | (intro _ _)
    | (intro _)
    | split
    | dsimp only)

theorem keeps_unknownCmd {s0 : State} (s : State) (path : Path) (base : ℕ) (code : ℕ) (arg : ℕ) (h : Keeps s0 s) :
    Keeps s0 (State.unknownCmd s path base code arg).2 := by
  unfold State.unknownCmd
  try dsimp only
  repeat (first
    | with_reducible assumption
    | with_reducible apply keeps_recordDenied
    | with_reducible apply keeps_report
    | with_reducible apply Keeps.ite
    | (with_reducible apply Keeps.upd; with_reducible first | assumption | apply keeps_recordDenied | apply keeps_report | apply Keeps.ite)
    | (refine Keeps.pair (by assumption) ?_)
    | (refine Keeps.pair3 (by assumption) ?_)
    | (intro _ _ _)
    | (intro _ _)
    | (intro _)
    | split
    | dsimp only)

theorem keeps_command {s0 : State} (s : State) (c : CmdSpec) (path : Path) (arg : ℕ) (hc : ∀ a t, Keeps s0 t → Keeps s0 (c.run a t)) (h : Keeps s0 s) :
    Keeps s0 (State.command s c path arg) := by
  unfold State.command
  try dsimp only
  repeat (first
    | with_reducible assumption
    | with_reducible apply hc
    | with_reducible apply keeps_runCmd
    | with_reducible apply keeps_emit
    | with_reducible apply Keeps.ite
    | (with_reducible apply Keeps.upd; with_reducible first | assumption | apply hc | apply keeps_runCmd | apply keeps_emit | apply Keeps.ite)
    | (refine Keeps.pair (by assumption) ?_)
    | (refine Keeps.pair3 (by assumption) ?_)
    | (intro _ _ _)
    | (intro _ _)
    | (intro _)
    | split
    | dsimp only)

end Sys2Proof.Machine
end

