-- ==== Sys2Proof/Laws/KeepsLine.lean ====
section
/-! SUPPORT. The operations of `Sys2Proof/Machine/Line.lean` keep what `Keeps` names. -/

set_option linter.unusedTactic false
set_option linter.unreachableTactic false

namespace Sys2Proof.Machine

theorem keeps_sendHello {s0 : State} (s : State) (p : ℕ) (h : Keeps s0 s) :
    Keeps s0 (State.sendHello s p) := by
  unfold State.sendHello
  try dsimp only
  repeat (first
    | with_reducible assumption
    | with_reducible apply keeps_emit
    | with_reducible apply Keeps.ite
    | (with_reducible apply Keeps.upd; with_reducible first | assumption | apply keeps_emit | apply Keeps.ite)
    | (refine Keeps.pair (by assumption) ?_)
    | (refine Keeps.pair3 (by assumption) ?_)
    | (intro _ _ _)
    | (intro _ _)
    | (intro _)
    | split
    | dsimp only)

theorem keeps_lossOfSignal {s0 : State} (s : State) (p : ℕ) (h : Keeps s0 s) :
    Keeps s0 (State.lossOfSignal s p) := by
  unfold State.lossOfSignal
  try dsimp only
  repeat (first
    | with_reducible assumption
    | with_reducible apply keeps_set
    | with_reducible apply keeps_lineDown
    | with_reducible apply Keeps.ite
    | (with_reducible apply Keeps.upd; with_reducible first | assumption | apply keeps_set | apply keeps_lineDown | apply Keeps.ite)
    | (refine Keeps.pair (by assumption) ?_)
    | (refine Keeps.pair3 (by assumption) ?_)
    | (intro _ _ _)
    | (intro _ _)
    | (intro _)
    | split
    | dsimp only)

theorem keeps_execLinkLossOfSignal {s0 : State} (port : ℕ) (s : State) (h : Keeps s0 s) :
    ∃ u, execLinkLossOfSignal port s = finish u ∧ Keeps s0 u := by
  refine ⟨_, rfl, ?_⟩
  try dsimp only
  repeat (first
    | with_reducible assumption
    | with_reducible apply keeps_lossOfSignal
    | with_reducible apply Keeps.ite
    | (with_reducible apply Keeps.upd; with_reducible first | assumption | apply keeps_lossOfSignal | apply Keeps.ite)
    | (refine Keeps.pair (by assumption) ?_)
    | (refine Keeps.pair3 (by assumption) ?_)
    | (intro _ _ _)
    | (intro _ _)
    | (intro _)
    | split
    | dsimp only)

theorem keeps_codeError {s0 : State} (s : State) (p : ℕ) (alignmentLost : Bool) (h : Keeps s0 s) :
    Keeps s0 (State.codeError s p alignmentLost) := by
  unfold State.codeError
  try dsimp only
  repeat (first
    | with_reducible assumption
    | with_reducible apply keeps_bump
    | with_reducible apply keeps_portMap
    | with_reducible apply keeps_lineDown
    | with_reducible apply Keeps.ite
    | (with_reducible apply Keeps.upd; with_reducible first | assumption | apply keeps_bump | apply keeps_portMap | apply keeps_lineDown | apply Keeps.ite)
    | (refine Keeps.pair (by assumption) ?_)
    | (refine Keeps.pair3 (by assumption) ?_)
    | (intro _ _ _)
    | (intro _ _)
    | (intro _)
    | split
    | dsimp only)

theorem keeps_execLinkCodeError {s0 : State} (port : ℕ) (alignmentLost : Bool) (s : State) (h : Keeps s0 s) :
    ∃ u, execLinkCodeError port alignmentLost s = finish u ∧ Keeps s0 u := by
  refine ⟨_, rfl, ?_⟩
  try dsimp only
  repeat (first
    | with_reducible assumption
    | with_reducible apply keeps_codeError
    | with_reducible apply Keeps.ite
    | (with_reducible apply Keeps.upd; with_reducible first | assumption | apply keeps_codeError | apply Keeps.ite)
    | (refine Keeps.pair (by assumption) ?_)
    | (refine Keeps.pair3 (by assumption) ?_)
    | (intro _ _ _)
    | (intro _ _)
    | (intro _)
    | split
    | dsimp only)

theorem keeps_setTaps {s0 : State} (s : State) (p : ℕ) (t0 : List ℤ) (h : Keeps s0 s) :
    Keeps s0 (State.setTaps s p t0) := by
  unfold State.setTaps
  try dsimp only
  repeat (first
    | with_reducible assumption
    | with_reducible apply keeps_load
    | with_reducible apply Keeps.ite
    | (with_reducible apply Keeps.upd; with_reducible first | assumption | apply keeps_load | apply Keeps.ite)
    | (refine Keeps.pair (by assumption) ?_)
    | (refine Keeps.pair3 (by assumption) ?_)
    | (intro _ _ _)
    | (intro _ _)
    | (intro _)
    | split
    | dsimp only)

theorem keeps_enterAcquire {s0 : State} (s : State) (p : ℕ) (h : Keeps s0 s) :
    Keeps s0 (State.enterAcquire s p) := by
  unfold State.enterAcquire
  try dsimp only
  repeat (first
    | with_reducible assumption
    | with_reducible apply keeps_portMap
    | with_reducible apply keeps_setTaps
    | with_reducible apply keeps_set
    | with_reducible apply Keeps.ite
    | (with_reducible apply Keeps.upd; with_reducible first | assumption | apply keeps_portMap | apply keeps_setTaps | apply keeps_set | apply Keeps.ite)
    | (refine Keeps.pair (by assumption) ?_)
    | (refine Keeps.pair3 (by assumption) ?_)
    | (intro _ _ _)
    | (intro _ _)
    | (intro _)
    | split
    | dsimp only)

theorem keeps_signalDetect {s0 : State} (s : State) (p : ℕ) (h : Keeps s0 s) :
    Keeps s0 (State.signalDetect s p) := by
  unfold State.signalDetect
  try dsimp only
  repeat (first
    | with_reducible assumption
    | with_reducible apply keeps_set
    | with_reducible apply keeps_enterAcquire
    | with_reducible apply Keeps.ite
    | (with_reducible apply Keeps.upd; with_reducible first | assumption | apply keeps_set | apply keeps_enterAcquire | apply Keeps.ite)
    | (refine Keeps.pair (by assumption) ?_)
    | (refine Keeps.pair3 (by assumption) ?_)
    | (intro _ _ _)
    | (intro _ _)
    | (intro _)
    | split
    | dsimp only)

theorem keeps_execSignalDetect {s0 : State} (port : ℕ) (s : State) (h : Keeps s0 s) :
    ∃ u, execSignalDetect port s = finish u ∧ Keeps s0 u := by
  refine ⟨_, rfl, ?_⟩
  try dsimp only
  repeat (first
    | with_reducible assumption
    | with_reducible apply keeps_signalDetect
    | with_reducible apply Keeps.ite
    | (with_reducible apply Keeps.upd; with_reducible first | assumption | apply keeps_signalDetect | apply Keeps.ite)
    | (refine Keeps.pair (by assumption) ?_)
    | (refine Keeps.pair3 (by assumption) ?_)
    | (intro _ _ _)
    | (intro _ _)
    | (intro _)
    | split
    | dsimp only)

theorem keeps_sweepStep {s0 : State} (s : State) (p : ℕ) (eye : ℕ) (h : Keeps s0 s) :
    Keeps s0 (State.sweepStep s p eye) := by
  unfold State.sweepStep
  try dsimp only
  repeat (first
    | with_reducible assumption
    | with_reducible apply keeps_portMap
    | with_reducible apply keeps_load
    | with_reducible apply Keeps.ite
    | (with_reducible apply Keeps.upd; with_reducible first | assumption | apply keeps_portMap | apply keeps_load | apply Keeps.ite)
    | (refine Keeps.pair (by assumption) ?_)
    | (refine Keeps.pair3 (by assumption) ?_)
    | (intro _ _ _)
    | (intro _ _)
    | (intro _)
    | split
    | dsimp only)

theorem keeps_execAcquireSettingTimer {s0 : State} (port : ℕ) (eye : ℕ) (s : State) (h : Keeps s0 s) :
    ∃ u, execAcquireSettingTimer port eye s = finish u ∧ Keeps s0 u := by
  refine ⟨_, rfl, ?_⟩
  try dsimp only
  repeat (first
    | with_reducible assumption
    | with_reducible apply keeps_sweepStep
    | with_reducible apply Keeps.ite
    | (with_reducible apply Keeps.upd; with_reducible first | assumption | apply keeps_sweepStep | apply Keeps.ite)
    | (refine Keeps.pair (by assumption) ?_)
    | (refine Keeps.pair3 (by assumption) ?_)
    | (intro _ _ _)
    | (intro _ _)
    | (intro _)
    | split
    | dsimp only)

theorem keeps_execAcquireTimeout {s0 : State} (port : ℕ) (s : State) (h : Keeps s0 s) :
    ∃ u, execAcquireTimeout port s = finish u ∧ Keeps s0 u := by
  refine ⟨_, rfl, ?_⟩
  try dsimp only
  repeat (first
    | with_reducible assumption
    | with_reducible apply keeps_lineDown
    | with_reducible apply Keeps.ite
    | (with_reducible apply Keeps.upd; with_reducible first | assumption | apply keeps_lineDown | apply Keeps.ite)
    | (refine Keeps.pair (by assumption) ?_)
    | (refine Keeps.pair3 (by assumption) ?_)
    | (intro _ _ _)
    | (intro _ _)
    | (intro _)
    | split
    | dsimp only)

theorem keeps_linkGoesUp {s0 : State} (s : State) (p : ℕ) (h : Keeps s0 s) :
    Keeps s0 (State.linkGoesUp s p) := by
  unfold State.linkGoesUp
  try dsimp only
  repeat (first
    | with_reducible assumption
    | with_reducible apply keeps_load
    | with_reducible apply keeps_portMap
    | with_reducible apply keeps_sendHello
    | with_reducible apply keeps_endChange
    | with_reducible apply Keeps.ite
    | (with_reducible apply Keeps.upd; with_reducible first | assumption | apply keeps_load | apply keeps_portMap | apply keeps_sendHello | apply keeps_endChange | apply Keeps.ite)
    | (refine Keeps.pair (by assumption) ?_)
    | (refine Keeps.pair3 (by assumption) ?_)
    | (intro _ _ _)
    | (intro _ _)
    | (intro _)
    | split
    | dsimp only)

theorem keeps_execLinkUp {s0 : State} (port : ℕ) (s : State) (h : Keeps s0 s) :
    ∃ u, execLinkUp port s = finish u ∧ Keeps s0 u := by
  refine ⟨_, rfl, ?_⟩
  try dsimp only
  repeat (first
    | with_reducible assumption
    | with_reducible apply keeps_linkGoesUp
    | with_reducible apply Keeps.ite
    | (with_reducible apply Keeps.upd; with_reducible first | assumption | apply keeps_linkGoesUp | apply Keeps.ite)
    | (refine Keeps.pair (by assumption) ?_)
    | (refine Keeps.pair3 (by assumption) ?_)
    | (intro _ _ _)
    | (intro _ _)
    | (intro _)
    | split
    | dsimp only)

theorem keeps_checkLock {s0 : State} (s : State) (p : ℕ) (h : Keeps s0 s) :
    Keeps s0 (State.checkLock s p) := by
  unfold State.checkLock
  try dsimp only
  repeat (first
    | with_reducible assumption
    | with_reducible apply keeps_set
    | with_reducible apply keeps_portMap
    | with_reducible apply keeps_record
    | with_reducible apply Keeps.ite
    | (with_reducible apply Keeps.upd; with_reducible first | assumption | apply keeps_set | apply keeps_portMap | apply keeps_record | apply Keeps.ite)
    | (refine Keeps.pair (by assumption) ?_)
    | (refine Keeps.pair3 (by assumption) ?_)
    | (intro _ _ _)
    | (intro _ _)
    | (intro _)
    | split
    | dsimp only)

theorem keeps_eqStep {s0 : State} (s : State) (p : ℕ) (h : Keeps s0 s) :
    Keeps s0 (State.eqStep s p) := by
  unfold State.eqStep
  try dsimp only
  repeat (first
    | with_reducible assumption
    | with_reducible apply keeps_checkLock
    | with_reducible apply keeps_setTaps
    | with_reducible apply keeps_set
    | with_reducible apply Keeps.ite
    | (with_reducible apply Keeps.upd; with_reducible first | assumption | apply keeps_checkLock | apply keeps_setTaps | apply keeps_set | apply Keeps.ite)
    | (refine Keeps.pair (by assumption) ?_)
    | (refine Keeps.pair3 (by assumption) ?_)
    | (intro _ _ _)
    | (intro _ _)
    | (intro _)
    | split
    | dsimp only)

theorem keeps_shadowUpdate {s0 : State} (s : State) (p : ℕ) (ctle : ℕ) (taps : List ℤ) (eye : ℕ) (h : Keeps s0 s) :
    Keeps s0 (State.shadowUpdate s p ctle taps eye) := by
  unfold State.shadowUpdate
  try dsimp only
  repeat (first
    | with_reducible assumption
    | with_reducible apply keeps_portMap
    | with_reducible apply keeps_checkLock
    | with_reducible apply keeps_set
    | with_reducible apply Keeps.ite
    | (with_reducible apply Keeps.upd; with_reducible first | assumption | apply keeps_portMap | apply keeps_checkLock | apply keeps_set | apply Keeps.ite)
    | (refine Keeps.pair (by assumption) ?_)
    | (refine Keeps.pair3 (by assumption) ?_)
    | (intro _ _ _)
    | (intro _ _)
    | (intro _)
    | split
    | dsimp only)

theorem keeps_execShadowUpdate {s0 : State} (port : ℕ) (ctle : ℕ) (taps : List ℤ) (eye : ℕ) (s : State) (h : Keeps s0 s) :
    ∃ u, execShadowUpdate port ctle taps eye s = finish u ∧ Keeps s0 u := by
  refine ⟨_, rfl, ?_⟩
  try dsimp only
  repeat (first
    | with_reducible assumption
    | with_reducible apply keeps_shadowUpdate
    | with_reducible apply Keeps.ite
    | (with_reducible apply Keeps.upd; with_reducible first | assumption | apply keeps_shadowUpdate | apply Keeps.ite)
    | (refine Keeps.pair (by assumption) ?_)
    | (refine Keeps.pair3 (by assumption) ?_)
    | (intro _ _ _)
    | (intro _ _)
    | (intro _)
    | split
    | dsimp only)

theorem keeps_execPrelockEqStep {s0 : State} (port : ℕ) (s : State) (h : Keeps s0 s) :
    ∃ u, execPrelockEqStep port s = finish u ∧ Keeps s0 u := by
  refine ⟨_, rfl, ?_⟩
  try dsimp only
  repeat (first
    | with_reducible assumption
    | with_reducible apply keeps_eqStep
    | with_reducible apply Keeps.ite
    | (with_reducible apply Keeps.upd; with_reducible first | assumption | apply keeps_eqStep | apply Keeps.ite)
    | (refine Keeps.pair (by assumption) ?_)
    | (refine Keeps.pair3 (by assumption) ?_)
    | (intro _ _ _)
    | (intro _ _)
    | (intro _)
    | split
    | dsimp only)

theorem keeps_execDeferredRxChange {s0 : State} (port : ℕ) (s : State) (h : Keeps s0 s) :
    ∃ u, execDeferredRxChange port s = finish u ∧ Keeps s0 u := by
  refine ⟨_, rfl, ?_⟩
  try dsimp only
  repeat (first
    | with_reducible assumption
    | with_reducible apply keeps_eqStep
    | with_reducible apply keeps_portMap
    | with_reducible apply Keeps.ite
    | (with_reducible apply Keeps.upd; with_reducible first | assumption | apply keeps_eqStep | apply keeps_portMap | apply Keeps.ite)
    | (refine Keeps.pair (by assumption) ?_)
    | (refine Keeps.pair3 (by assumption) ?_)
    | (intro _ _ _)
    | (intro _ _)
    | (intro _)
    | split
    | dsimp only)

theorem keeps_lineRecord {s0 : State} (s : State) (p : ℕ) (cond : ℕ) (cleared : Bool) (dist : ℕ) (rho : ℤ) (h : Keeps s0 s) :
    Keeps s0 (State.lineRecord s p cond cleared dist rho) := by
  unfold State.lineRecord
  try dsimp only
  repeat (first
    | with_reducible assumption
    | with_reducible apply keeps_rateCheck
    | with_reducible apply keeps_record
    | with_reducible apply Keeps.ite
    | (with_reducible apply Keeps.upd; with_reducible first | assumption | apply keeps_rateCheck | apply keeps_record | apply Keeps.ite)
    | (refine Keeps.pair (by assumption) ?_)
    | (refine Keeps.pair3 (by assumption) ?_)
    | (intro _ _ _)
    | (intro _ _)
    | (intro _)
    | split
    | dsimp only)

theorem keeps_lineDetect {s0 : State} (s : State) (p : ℕ) (cond : ℕ) (dist : ℕ) (rho : ℤ) (h : Keeps s0 s) :
    Keeps s0 (State.lineDetect s p cond dist rho) := by
  unfold State.lineDetect
  try dsimp only
  repeat (first
    | with_reducible assumption
    | with_reducible apply keeps_set
    | with_reducible apply keeps_portMap
    | with_reducible apply keeps_assertLine
    | with_reducible apply keeps_lineRecord
    | with_reducible apply Keeps.ite
    | (with_reducible apply Keeps.upd; with_reducible first | assumption | apply keeps_set | apply keeps_portMap | apply keeps_assertLine | apply keeps_lineRecord | apply Keeps.ite)
    | (refine Keeps.pair (by assumption) ?_)
    | (refine Keeps.pair3 (by assumption) ?_)
    | (intro _ _ _)
    | (intro _ _)
    | (intro _)
    | split
    | dsimp only)

theorem keeps_lineClear {s0 : State} (s : State) (p : ℕ) (cond : ℕ) (h : Keeps s0 s) :
    Keeps s0 (State.lineClear s p cond) := by
  unfold State.lineClear
  try dsimp only
  repeat (first
    | with_reducible assumption
    | with_reducible apply keeps_portMap
    | with_reducible apply keeps_line
    | with_reducible apply keeps_lineRecord
    | with_reducible apply Keeps.ite
    | (with_reducible apply Keeps.upd; with_reducible first | assumption | apply keeps_portMap | apply keeps_line | apply keeps_lineRecord | apply Keeps.ite)
    | (refine Keeps.pair (by assumption) ?_)
    | (refine Keeps.pair3 (by assumption) ?_)
    | (intro _ _ _)
    | (intro _ _)
    | (intro _)
    | split
    | dsimp only)

theorem keeps_execPairFaultClear {s0 : State} (port : ℕ) (condition : ℕ) (s : State) (h : Keeps s0 s) :
    ∃ u, execPairFaultClear port condition s = finish u ∧ Keeps s0 u := by
  refine ⟨_, rfl, ?_⟩
  try dsimp only
  repeat (first
    | with_reducible assumption
    | with_reducible apply keeps_lineClear
    | with_reducible apply Keeps.ite
    | (with_reducible apply Keeps.upd; with_reducible first | assumption | apply keeps_lineClear | apply Keeps.ite)
    | (refine Keeps.pair (by assumption) ?_)
    | (refine Keeps.pair3 (by assumption) ?_)
    | (intro _ _ _)
    | (intro _ _)
    | (intro _)
    | split
    | dsimp only)

theorem keeps_downIfUp {s0 : State} (s : State) (p : ℕ) (h : Keeps s0 s) :
    Keeps s0 (State.downIfUp s p) := by
  unfold State.downIfUp
  try dsimp only
  repeat (first
    | with_reducible assumption
    | with_reducible apply keeps_lineDown
    | with_reducible apply Keeps.ite
    | (with_reducible apply Keeps.upd; with_reducible first | assumption | apply keeps_lineDown | apply Keeps.ite)
    | (refine Keeps.pair (by assumption) ?_)
    | (refine Keeps.pair3 (by assumption) ?_)
    | (intro _ _ _)
    | (intro _ _)
    | (intro _)
    | split
    | dsimp only)

theorem keeps_pairShort {s0 : State} (s : State) (p : ℕ) (shield : Bool) (dist : ℕ) (rho : ℤ) (h : Keeps s0 s) :
    Keeps s0 (State.pairShort s p shield dist rho) := by
  unfold State.pairShort
  try dsimp only
  repeat (first
    | with_reducible assumption
    | with_reducible apply keeps_portMap
    | with_reducible apply keeps_downIfUp
    | with_reducible apply keeps_lineDetect
    | with_reducible apply Keeps.ite
    | (with_reducible apply Keeps.upd; with_reducible first | assumption | apply keeps_portMap | apply keeps_downIfUp | apply keeps_lineDetect | apply Keeps.ite)
    | (refine Keeps.pair (by assumption) ?_)
    | (refine Keeps.pair3 (by assumption) ?_)
    | (intro _ _ _)
    | (intro _ _)
    | (intro _)
    | split
    | dsimp only)

theorem keeps_execPairShortDetect {s0 : State} (port : ℕ) (shield : Bool) (dist : ℕ) (rho : ℤ) (s : State) (h : Keeps s0 s) :
    ∃ u, execPairShortDetect port shield dist rho s = finish u ∧ Keeps s0 u := by
  refine ⟨_, rfl, ?_⟩
  try dsimp only
  repeat (first
    | with_reducible assumption
    | with_reducible apply keeps_pairShort
    | with_reducible apply Keeps.ite
    | (with_reducible apply Keeps.upd; with_reducible first | assumption | apply keeps_pairShort | apply Keeps.ite)
    | (refine Keeps.pair (by assumption) ?_)
    | (refine Keeps.pair3 (by assumption) ?_)
    | (intro _ _ _)
    | (intro _ _)
    | (intro _)
    | split
    | dsimp only)

theorem keeps_pairOpen {s0 : State} (s : State) (p : ℕ) (dist : ℕ) (rho : ℤ) (h : Keeps s0 s) :
    Keeps s0 (State.pairOpen s p dist rho) := by
  unfold State.pairOpen
  try dsimp only
  repeat (first
    | with_reducible assumption
    | with_reducible apply keeps_portMap
    | with_reducible apply keeps_downIfUp
    | with_reducible apply keeps_lineDetect
    | with_reducible apply keeps_set
    | with_reducible apply Keeps.ite
    | (with_reducible apply Keeps.upd; with_reducible first | assumption | apply keeps_portMap | apply keeps_downIfUp | apply keeps_lineDetect | apply keeps_set | apply Keeps.ite)
    | (refine Keeps.pair (by assumption) ?_)
    | (refine Keeps.pair3 (by assumption) ?_)
    | (intro _ _ _)
    | (intro _ _)
    | (intro _)
    | split
    | dsimp only)

theorem keeps_execPairOpenDetect {s0 : State} (port : ℕ) (dist : ℕ) (rho : ℤ) (s : State) (h : Keeps s0 s) :
    ∃ u, execPairOpenDetect port dist rho s = finish u ∧ Keeps s0 u := by
  refine ⟨_, rfl, ?_⟩
  try dsimp only
  repeat (first
    | with_reducible assumption
    | with_reducible apply keeps_pairOpen
    | with_reducible apply Keeps.ite
    | (with_reducible apply Keeps.upd; with_reducible first | assumption | apply keeps_pairOpen | apply Keeps.ite)
    | (refine Keeps.pair (by assumption) ?_)
    | (refine Keeps.pair3 (by assumption) ?_)
    | (intro _ _ _)
    | (intro _ _)
    | (intro _)
    | split
    | dsimp only)

theorem keeps_execPairSwapDetect {s0 : State} (port : ℕ) (s : State) (h : Keeps s0 s) :
    ∃ u, execPairSwapDetect port s = finish u ∧ Keeps s0 u := by
  refine ⟨_, rfl, ?_⟩
  try dsimp only
  repeat (first
    | with_reducible assumption
    | with_reducible apply keeps_lineDetect
    | with_reducible apply Keeps.ite
    | (with_reducible apply Keeps.upd; with_reducible first | assumption | apply keeps_lineDetect | apply Keeps.ite)
    | (refine Keeps.pair (by assumption) ?_)
    | (refine Keeps.pair3 (by assumption) ?_)
    | (intro _ _ _)
    | (intro _ _)
    | (intro _)
    | split
    | dsimp only)

theorem keeps_commonMode {s0 : State} (s : State) (p : ℕ) (vcm : ℤ) (h : Keeps s0 s) :
    Keeps s0 (State.commonMode s p vcm) := by
  unfold State.commonMode
  try dsimp only
  repeat (first
    | with_reducible assumption
    | with_reducible apply keeps_set
    | with_reducible apply keeps_lineDetect
    | with_reducible apply Keeps.ite
    | (with_reducible apply Keeps.upd; with_reducible first | assumption | apply keeps_set | apply keeps_lineDetect | apply Keeps.ite)
    | (refine Keeps.pair (by assumption) ?_)
    | (refine Keeps.pair3 (by assumption) ?_)
    | (intro _ _ _)
    | (intro _ _)
    | (intro _)
    | split
    | dsimp only)

theorem keeps_execCommonModeDetect {s0 : State} (port : ℕ) (vcm : ℤ) (s : State) (h : Keeps s0 s) :
    ∃ u, execCommonModeDetect port vcm s = finish u ∧ Keeps s0 u := by
  refine ⟨_, rfl, ?_⟩
  try dsimp only
  repeat (first
    | with_reducible assumption
    | with_reducible apply keeps_commonMode
    | with_reducible apply Keeps.ite
    | (with_reducible apply Keeps.upd; with_reducible first | assumption | apply keeps_commonMode | apply Keeps.ite)
    | (refine Keeps.pair (by assumption) ?_)
    | (refine Keeps.pair3 (by assumption) ?_)
    | (intro _ _ _)
    | (intro _ _)
    | (intro _)
    | split
    | dsimp only)

theorem keeps_polarity {s0 : State} (s : State) (p : ℕ) (h : Keeps s0 s) :
    Keeps s0 (State.polarity s p) := by
  unfold State.polarity
  try dsimp only
  repeat (first
    | with_reducible assumption
    | with_reducible apply keeps_setB
    | with_reducible apply keeps_lineDetect
    | with_reducible apply Keeps.ite
    | (with_reducible apply Keeps.upd; with_reducible first | assumption | apply keeps_setB | apply keeps_lineDetect | apply Keeps.ite)
    | (refine Keeps.pair (by assumption) ?_)
    | (refine Keeps.pair3 (by assumption) ?_)
    | (intro _ _ _)
    | (intro _ _)
    | (intro _)
    | split
    | dsimp only)

theorem keeps_execRxPolarityDetect {s0 : State} (port : ℕ) (s : State) (h : Keeps s0 s) :
    ∃ u, execRxPolarityDetect port s = finish u ∧ Keeps s0 u := by
  refine ⟨_, rfl, ?_⟩
  try dsimp only
  repeat (first
    | with_reducible assumption
    | with_reducible apply keeps_polarity
    | with_reducible apply Keeps.ite
    | (with_reducible apply Keeps.upd; with_reducible first | assumption | apply keeps_polarity | apply Keeps.ite)
    | (refine Keeps.pair (by assumption) ?_)
    | (refine Keeps.pair3 (by assumption) ?_)
    | (intro _ _ _)
    | (intro _ _)
    | (intro _)
    | split
    | dsimp only)

theorem keeps_execCalTimeout {s0 : State} (port : ℕ) (s : State) (h : Keeps s0 s) :
    ∃ u, execCalTimeout port s = finish u ∧ Keeps s0 u := by
  refine ⟨_, rfl, ?_⟩
  try dsimp only
  repeat (first
    | with_reducible assumption
    | with_reducible apply keeps_lineDetect
    | with_reducible apply Keeps.ite
    | (with_reducible apply Keeps.upd; with_reducible first | assumption | apply keeps_lineDetect | apply Keeps.ite)
    | (refine Keeps.pair (by assumption) ?_)
    | (refine Keeps.pair3 (by assumption) ?_)
    | (intro _ _ _)
    | (intro _ _)
    | (intro _)
    | split
    | dsimp only)

theorem keeps_echoScan {s0 : State} (s : State) (p : ℕ) (dist : ℕ) (rho : ℤ) (h : Keeps s0 s) :
    Keeps s0 (State.echoScan s p dist rho) := by
  unfold State.echoScan
  try dsimp only
  repeat (first
    | with_reducible assumption
    | with_reducible apply keeps_wrapUp
    | with_reducible apply keeps_portMap
    | with_reducible apply Keeps.ite
    | (with_reducible apply Keeps.upd; with_reducible first | assumption | apply keeps_wrapUp | apply keeps_portMap | apply Keeps.ite)
    | (refine Keeps.pair (by assumption) ?_)
    | (refine Keeps.pair3 (by assumption) ?_)
    | (intro _ _ _)
    | (intro _ _)
    | (intro _)
    | split
    | dsimp only)

theorem keeps_execEchoScanDone {s0 : State} (port : ℕ) (dist : ℕ) (rho : ℤ) (s : State) (h : Keeps s0 s) :
    ∃ u, execEchoScanDone port dist rho s = finish u ∧ Keeps s0 u := by
  refine ⟨_, rfl, ?_⟩
  try dsimp only
  repeat (first
    | with_reducible assumption
    | with_reducible apply keeps_echoScan
    | with_reducible apply Keeps.ite
    | (with_reducible apply Keeps.upd; with_reducible first | assumption | apply keeps_echoScan | apply Keeps.ite)
    | (refine Keeps.pair (by assumption) ?_)
    | (refine Keeps.pair3 (by assumption) ?_)
    | (intro _ _ _)
    | (intro _ _)
    | (intro _)
    | split
    | dsimp only)

theorem keeps_keepalive {s0 : State} (s : State) (p : ℕ) (h : Keeps s0 s) :
    Keeps s0 (State.keepalive s p) := by
  unfold State.keepalive
  try dsimp only
  repeat (first
    | with_reducible assumption
    | with_reducible apply keeps_portMap
    | with_reducible apply keeps_emit
    | with_reducible apply Keeps.ite
    | (with_reducible apply Keeps.upd; with_reducible first | assumption | apply keeps_portMap | apply keeps_emit | apply Keeps.ite)
    | (refine Keeps.pair (by assumption) ?_)
    | (refine Keeps.pair3 (by assumption) ?_)
    | (intro _ _ _)
    | (intro _ _)
    | (intro _)
    | split
    | dsimp only)

theorem keeps_execKeepalivePulse {s0 : State} (port : ℕ) (s : State) (h : Keeps s0 s) :
    ∃ u, execKeepalivePulse port s = finish u ∧ Keeps s0 u := by
  refine ⟨_, rfl, ?_⟩
  try dsimp only
  repeat (first
    | with_reducible assumption
    | with_reducible apply keeps_keepalive
    | with_reducible apply Keeps.ite
    | (with_reducible apply Keeps.upd; with_reducible first | assumption | apply keeps_keepalive | apply Keeps.ite)
    | (refine Keeps.pair (by assumption) ?_)
    | (refine Keeps.pair3 (by assumption) ?_)
    | (intro _ _ _)
    | (intro _ _)
    | (intro _)
    | split
    | dsimp only)

theorem keeps_execKeepaliveTimeout {s0 : State} (port : ℕ) (s : State) (h : Keeps s0 s) :
    ∃ u, execKeepaliveTimeout port s = finish u ∧ Keeps s0 u := by
  refine ⟨_, rfl, ?_⟩
  try dsimp only
  repeat (first
    | with_reducible assumption
    | with_reducible apply keeps_set
    | with_reducible apply keeps_portMap
    | with_reducible apply Keeps.ite
    | (with_reducible apply Keeps.upd; with_reducible first | assumption | apply keeps_set | apply keeps_portMap | apply Keeps.ite)
    | (refine Keeps.pair (by assumption) ?_)
    | (refine Keeps.pair3 (by assumption) ?_)
    | (intro _ _ _)
    | (intro _ _)
    | (intro _)
    | split
    | dsimp only)

theorem keeps_kaTestEnd {s0 : State} (s : State) (p : ℕ) (reached : Bool) (h : Keeps s0 s) :
    Keeps s0 (State.kaTestEnd s p reached) := by
  unfold State.kaTestEnd
  try dsimp only
  repeat (first
    | with_reducible assumption
    | with_reducible apply keeps_set
    | with_reducible apply keeps_emit
    | with_reducible apply keeps_portMap
    | with_reducible apply Keeps.ite
    | (with_reducible apply Keeps.upd; with_reducible first | assumption | apply keeps_set | apply keeps_emit | apply keeps_portMap | apply Keeps.ite)
    | (refine Keeps.pair (by assumption) ?_)
    | (refine Keeps.pair3 (by assumption) ?_)
    | (intro _ _ _)
    | (intro _ _)
    | (intro _)
    | split
    | dsimp only)

theorem keeps_execKaTestEnd {s0 : State} (port : ℕ) (reachedSleep : Bool) (s : State) (h : Keeps s0 s) :
    ∃ u, execKaTestEnd port reachedSleep s = finish u ∧ Keeps s0 u := by
  refine ⟨_, rfl, ?_⟩
  try dsimp only
  repeat (first
    | with_reducible assumption
    | with_reducible apply keeps_kaTestEnd
    | with_reducible apply Keeps.ite
    | (with_reducible apply Keeps.upd; with_reducible first | assumption | apply keeps_kaTestEnd | apply Keeps.ite)
    | (refine Keeps.pair (by assumption) ?_)
    | (refine Keeps.pair3 (by assumption) ?_)
    | (intro _ _ _)
    | (intro _ _)
    | (intro _)
    | split
    | dsimp only)

theorem keeps_takeReport {s0 : State} (s : State) (p : ℕ) (h0 : HopReport) (h : Keeps s0 s) :
    Keeps s0 (State.takeReport s p h0) := by
  unfold State.takeReport
  try dsimp only
  repeat (first
    | with_reducible assumption
    | with_reducible apply keeps_bump
    | with_reducible apply keeps_portMap
    | with_reducible apply Keeps.ite
    | (with_reducible apply Keeps.upd; with_reducible first | assumption | apply keeps_bump | apply keeps_portMap | apply Keeps.ite)
    | (refine Keeps.pair (by assumption) ?_)
    | (refine Keeps.pair3 (by assumption) ?_)
    | (intro _ _ _)
    | (intro _ _)
    | (intro _)
    | split
    | dsimp only)

theorem keeps_execHopReportReceive {s0 : State} (port : ℕ) (report : HopReport) (s : State) (h : Keeps s0 s) :
    ∃ u, execHopReportReceive port report s = finish u ∧ Keeps s0 u := by
  refine ⟨_, rfl, ?_⟩
  try dsimp only
  repeat (first
    | with_reducible assumption
    | with_reducible apply keeps_takeReport
    | with_reducible apply Keeps.ite
    | (with_reducible apply Keeps.upd; with_reducible first | assumption | apply keeps_takeReport | apply Keeps.ite)
    | (refine Keeps.pair (by assumption) ?_)
    | (refine Keeps.pair3 (by assumption) ?_)
    | (intro _ _ _)
    | (intro _ _)
    | (intro _)
    | split
    | dsimp only)

theorem keeps_takeNotice {s0 : State} (s : State) (p : ℕ) (d : HopNotice) (h : Keeps s0 s) :
    Keeps s0 (State.takeNotice s p d) := by
  unfold State.takeNotice
  try dsimp only
  repeat (first
    | with_reducible assumption
    | with_reducible apply keeps_bump
    | with_reducible apply keeps_portMap
    | with_reducible apply Keeps.ite
    | (with_reducible apply Keeps.upd; with_reducible first | assumption | apply keeps_bump | apply keeps_portMap | apply Keeps.ite)
    | (refine Keeps.pair (by assumption) ?_)
    | (refine Keeps.pair3 (by assumption) ?_)
    | (intro _ _ _)
    | (intro _ _)
    | (intro _)
    | split
    | dsimp only)

theorem keeps_execHopNoticeReceive {s0 : State} (port : ℕ) (notice : HopNotice) (s : State) (h : Keeps s0 s) :
    ∃ u, execHopNoticeReceive port notice s = finish u ∧ Keeps s0 u := by
  refine ⟨_, rfl, ?_⟩
  try dsimp only
  repeat (first
    | with_reducible assumption
    | with_reducible apply keeps_takeNotice
    | with_reducible apply Keeps.ite
    | (with_reducible apply Keeps.upd; with_reducible first | assumption | apply keeps_takeNotice | apply Keeps.ite)
    | (refine Keeps.pair (by assumption) ?_)
    | (refine Keeps.pair3 (by assumption) ?_)
    | (intro _ _ _)
    | (intro _ _)
    | (intro _)
    | split
    | dsimp only)

theorem keeps_applyDelay {s0 : State} (s : State) (p : ℕ) (h : Keeps s0 s) :
    Keeps s0 (State.applyDelay s p) := by
  unfold State.applyDelay
  try dsimp only
  repeat (first
    | with_reducible assumption
    | with_reducible apply keeps_load
    | with_reducible apply keeps_set
    | with_reducible apply keeps_portMap
    | with_reducible apply Keeps.ite
    | (with_reducible apply Keeps.upd; with_reducible first | assumption | apply keeps_load | apply keeps_set | apply keeps_portMap | apply Keeps.ite)
    | (refine Keeps.pair (by assumption) ?_)
    | (refine Keeps.pair3 (by assumption) ?_)
    | (intro _ _ _)
    | (intro _ _)
    | (intro _)
    | split
    | dsimp only)

theorem keeps_applyEcho {s0 : State} (s : State) (p : ℕ) (h : Keeps s0 s) :
    Keeps s0 (State.applyEcho s p) := by
  unfold State.applyEcho
  try dsimp only
  repeat (first
    | with_reducible assumption
    | with_reducible apply keeps_portMap
    | with_reducible apply keeps_load
    | with_reducible apply Keeps.ite
    | (with_reducible apply Keeps.upd; with_reducible first | assumption | apply keeps_portMap | apply keeps_load | apply Keeps.ite)
    | (refine Keeps.pair (by assumption) ?_)
    | (refine Keeps.pair3 (by assumption) ?_)
    | (intro _ _ _)
    | (intro _ _)
    | (intro _)
    | split
    | dsimp only)

theorem keeps_degradeOne {s0 : State} (p : ℕ) (s : State) (c : ℕ × Bool) (h : Keeps s0 s) :
    Keeps s0 (State.degradeOne p s c) := by
  unfold State.degradeOne
  try dsimp only
  repeat (first
    | with_reducible assumption
    | with_reducible apply keeps_lineDetect
    | with_reducible apply keeps_record
    | with_reducible apply Keeps.ite
    | (with_reducible apply Keeps.upd; with_reducible first | assumption | apply keeps_lineDetect | apply keeps_record | apply Keeps.ite)
    | (refine Keeps.pair (by assumption) ?_)
    | (refine Keeps.pair3 (by assumption) ?_)
    | (intro _ _ _)
    | (intro _ _)
    | (intro _)
    | split
    | dsimp only)

theorem keeps_degradeCheck {s0 : State} (s : State) (p : ℕ) (h : Keeps s0 s) :
    Keeps s0 (State.degradeCheck s p) := by
  unfold State.degradeCheck
  try dsimp only
  repeat (first
    | with_reducible assumption
    | with_reducible apply keeps_degradeOne
    | with_reducible apply Keeps.ite
    | (with_reducible apply Keeps.foldl; intro _ _ _)
    | (with_reducible apply Keeps.upd; with_reducible first | assumption | apply keeps_degradeOne | apply Keeps.ite | (apply Keeps.foldl; intro _ _ _))
    | (refine Keeps.pair (by assumption) ?_)
    | (refine Keeps.pair3 (by assumption) ?_)
    | (intro _ _ _)
    | (intro _ _)
    | (intro _)
    | split
    | dsimp only)

theorem keeps_epochPort {s0 : State} (receiving : ℕ) (s : State) (p : ℕ) (h : Keeps s0 s) :
    Keeps s0 (State.epochPort receiving s p) := by
  unfold State.epochPort
  try dsimp only
  repeat (first
    | with_reducible assumption
    | with_reducible apply keeps_portMap
    | with_reducible apply keeps_eqStep
    | with_reducible apply keeps_applyDelay
    | with_reducible apply keeps_degradeCheck
    | with_reducible apply keeps_applyEcho
    | with_reducible apply Keeps.ite
    | (with_reducible apply Keeps.upd; with_reducible first | assumption | apply keeps_portMap | apply keeps_eqStep | apply keeps_applyDelay | apply keeps_degradeCheck | apply keeps_applyEcho | apply Keeps.ite)
    | (refine Keeps.pair (by assumption) ?_)
    | (refine Keeps.pair3 (by assumption) ?_)
    | (intro _ _ _)
    | (intro _ _)
    | (intro _)
    | split
    | dsimp only)

theorem keeps_epochPorts {s0 : State} (s : State) (receiving : ℕ) (h : Keeps s0 s) :
    Keeps s0 (State.epochPorts s receiving) := by
  unfold State.epochPorts
  try dsimp only
  repeat (first
    | with_reducible assumption
    | with_reducible apply keeps_epochPort
    | with_reducible apply Keeps.ite
    | (with_reducible apply Keeps.foldl; intro _ _ _)
    | (with_reducible apply Keeps.upd; with_reducible first | assumption | apply keeps_epochPort | apply Keeps.ite | (apply Keeps.foldl; intro _ _ _))
    | (refine Keeps.pair (by assumption) ?_)
    | (refine Keeps.pair3 (by assumption) ?_)
    | (intro _ _ _)
    | (intro _ _)
    | (intro _)
    | split
    | dsimp only)

theorem keeps_recalibrate {s0 : State} (s : State) (p : ℕ) (h : Keeps s0 s) :
    Keeps s0 (State.recalibrate s p) := by
  unfold State.recalibrate
  try dsimp only
  repeat (first
    | with_reducible assumption
    | with_reducible apply keeps_downIfUp
    | with_reducible apply keeps_setTaps
    | with_reducible apply keeps_set
    | with_reducible apply keeps_portMap
    | with_reducible apply keeps_enterAcquire
    | with_reducible apply Keeps.ite
    | (with_reducible apply Keeps.upd; with_reducible first | assumption | apply keeps_downIfUp | apply keeps_setTaps | apply keeps_set | apply keeps_portMap | apply keeps_enterAcquire | apply Keeps.ite)
    | (refine Keeps.pair (by assumption) ?_)
    | (refine Keeps.pair3 (by assumption) ?_)
    | (intro _ _ _)
    | (intro _ _)
    | (intro _)
    | split
    | dsimp only)

theorem keeps_cmdRecalibrate {s0 : State} (p : ℕ) (a : ℕ) (t : State) (h : Keeps s0 t) :
    Keeps s0 ((cmdRecalibrate p).run a t) := by
  unfold cmdRecalibrate
  try dsimp only
  repeat (first
    | with_reducible assumption
    | with_reducible apply keeps_recalibrate
    | with_reducible apply Keeps.ite
    | (with_reducible apply Keeps.upd; with_reducible first | assumption | apply keeps_recalibrate | apply Keeps.ite)
    | (refine Keeps.pair (by assumption) ?_)
    | (refine Keeps.pair3 (by assumption) ?_)
    | (intro _ _ _)
    | (intro _ _)
    | (intro _)
    | split
    | dsimp only)

theorem keeps_cmdSetDelayBase {s0 : State} (p : ℕ) (a : ℕ) (t : State) (h : Keeps s0 t) :
    Keeps s0 ((cmdSetDelayBase p).run a t) := by
  unfold cmdSetDelayBase
  try dsimp only
  repeat (first
    | with_reducible assumption
    | with_reducible apply keeps_portMap
    | with_reducible apply keeps_set
    | with_reducible apply Keeps.ite
    | (with_reducible apply Keeps.upd; with_reducible first | assumption | apply keeps_portMap | apply keeps_set | apply Keeps.ite)
    | (refine Keeps.pair (by assumption) ?_)
    | (refine Keeps.pair3 (by assumption) ?_)
    | (intro _ _ _)
    | (intro _ _)
    | (intro _)
    | split
    | dsimp only)

theorem keeps_cmdEchoReset {s0 : State} (p : ℕ) (a : ℕ) (t : State) (h : Keeps s0 t) :
    Keeps s0 ((cmdEchoReset p).run a t) := by
  unfold cmdEchoReset
  try dsimp only
  repeat (first
    | with_reducible assumption
    | with_reducible apply keeps_portMap
    | with_reducible apply keeps_load
    | with_reducible apply Keeps.ite
    | (with_reducible apply Keeps.upd; with_reducible first | assumption | apply keeps_portMap | apply keeps_load | apply Keeps.ite)
    | (refine Keeps.pair (by assumption) ?_)
    | (refine Keeps.pair3 (by assumption) ?_)
    | (intro _ _ _)
    | (intro _ _)
    | (intro _)
    | split
    | dsimp only)

theorem keeps_cmdKaTest {s0 : State} (p : ℕ) (a : ℕ) (t : State) (h : Keeps s0 t) :
    Keeps s0 ((cmdKaTest p).run a t) := by
  unfold cmdKaTest
  try dsimp only
  repeat (first
    | with_reducible assumption
    | with_reducible apply keeps_set
    | with_reducible apply Keeps.ite
    | (with_reducible apply Keeps.upd; with_reducible first | assumption | apply keeps_set | apply Keeps.ite)
    | (refine Keeps.pair (by assumption) ?_)
    | (refine Keeps.pair3 (by assumption) ?_)
    | (intro _ _ _)
    | (intro _ _)
    | (intro _)
    | split
    | dsimp only)

theorem keeps_execRecalibrate {s0 : State} (path : Path) (port : ℕ) (arg : ℕ) (s : State) (h : Keeps s0 s) :
    ∃ u, execRecalibrate path port arg s = finish u ∧ Keeps s0 u := by
  refine ⟨_, rfl, ?_⟩
  try dsimp only
  repeat (first
    | with_reducible assumption
    | with_reducible apply keeps_command
    | with_reducible apply keeps_cmdRecalibrate
    | with_reducible apply Keeps.ite
    | (with_reducible apply Keeps.upd; with_reducible first | assumption | apply keeps_command | apply keeps_cmdRecalibrate | apply Keeps.ite)
    | (refine Keeps.pair (by assumption) ?_)
    | (refine Keeps.pair3 (by assumption) ?_)
    | (intro _ _ _)
    | (intro _ _)
    | (intro _)
    | split
    | dsimp only)

theorem keeps_execSetDelayBase {s0 : State} (path : Path) (port : ℕ) (arg : ℕ) (s : State) (h : Keeps s0 s) :
    ∃ u, execSetDelayBase path port arg s = finish u ∧ Keeps s0 u := by
  refine ⟨_, rfl, ?_⟩
  try dsimp only
  repeat (first
    | with_reducible assumption
    | with_reducible apply keeps_command
    | with_reducible apply keeps_cmdSetDelayBase
    | with_reducible apply Keeps.ite
    | (with_reducible apply Keeps.upd; with_reducible first | assumption | apply keeps_command | apply keeps_cmdSetDelayBase | apply Keeps.ite)
    | (refine Keeps.pair (by assumption) ?_)
    | (refine Keeps.pair3 (by assumption) ?_)
    | (intro _ _ _)
    | (intro _ _)
    | (intro _)
    | split
    | dsimp only)

theorem keeps_execEchoReset {s0 : State} (path : Path) (port : ℕ) (arg : ℕ) (s : State) (h : Keeps s0 s) :
    ∃ u, execEchoReset path port arg s = finish u ∧ Keeps s0 u := by
  refine ⟨_, rfl, ?_⟩
  try dsimp only
  repeat (first
    | with_reducible assumption
    | with_reducible apply keeps_command
    | with_reducible apply keeps_cmdEchoReset
    | with_reducible apply Keeps.ite
    | (with_reducible apply Keeps.upd; with_reducible first | assumption | apply keeps_command | apply keeps_cmdEchoReset | apply Keeps.ite)
    | (refine Keeps.pair (by assumption) ?_)
    | (refine Keeps.pair3 (by assumption) ?_)
    | (intro _ _ _)
    | (intro _ _)
    | (intro _)
    | split
    | dsimp only)

theorem keeps_execKaTest {s0 : State} (path : Path) (port : ℕ) (arg : ℕ) (s : State) (h : Keeps s0 s) :
    ∃ u, execKaTest path port arg s = finish u ∧ Keeps s0 u := by
  refine ⟨_, rfl, ?_⟩
  try dsimp only
  repeat (first
    | with_reducible assumption
    | with_reducible apply keeps_command
    | with_reducible apply keeps_cmdKaTest
    | with_reducible apply Keeps.ite
    | (with_reducible apply Keeps.upd; with_reducible first | assumption | apply keeps_command | apply keeps_cmdKaTest | apply Keeps.ite)
    | (refine Keeps.pair (by assumption) ?_)
    | (refine Keeps.pair3 (by assumption) ?_)
    | (intro _ _ _)
    | (intro _ _)
    | (intro _)
    | split
    | dsimp only)

end Sys2Proof.Machine
end

