-- ==== Sys2Proof/Laws/KeepsTimOps.lean ====
section
/-! SUPPORT. The operations of `Sys2Proof/Machine/TimOps.lean` keep what `Keeps` names. -/

set_option linter.unusedTactic false
set_option linter.unreachableTactic false

namespace Sys2Proof.Machine

theorem keeps_timMap {s0 : State} (s : State) (f : TimState → TimState) (h : Keeps s0 s) :
    Keeps s0 (State.timMap s f) := by
  unfold State.timMap
  try dsimp only
  repeat (first
    | with_reducible assumption
    | with_reducible apply Keeps.ite
    | (with_reducible apply Keeps.upd; with_reducible first | assumption | apply Keeps.ite)
    | (refine Keeps.pair (by assumption) ?_)
    | (refine Keeps.pair3 (by assumption) ?_)
    | (intro _ _ _)
    | (intro _ _)
    | (intro _)
    | split
    | dsimp only)

theorem keeps_showTime {s0 : State} (s : State) (h : Keeps s0 s) :
    Keeps s0 (State.showTime s) := by
  unfold State.showTime
  try dsimp only
  repeat (first
    | with_reducible assumption
    | with_reducible apply keeps_load
    | with_reducible apply Keeps.ite
    | (with_reducible apply Keeps.upd; with_reducible first | assumption | apply keeps_load | apply Keeps.ite)
    | (refine Keeps.pair (by assumption) ?_)
    | (refine Keeps.pair3 (by assumption) ?_)
    | (intro _ _ _)
    | (intro _ _)
    | (intro _)
    | split
    | dsimp only)

theorem keeps_timJump {s0 : State} (s : State) (v : ℤ) (u : ℤ) (cause : ℕ) (mayRecord : Bool) (h : Keeps s0 s) :
    Keeps s0 (State.timJump s v u cause mayRecord) := by
  unfold State.timJump
  try dsimp only
  repeat (first
    | with_reducible assumption
    | with_reducible apply keeps_record
    | with_reducible apply keeps_set
    | with_reducible apply keeps_bump
    | with_reducible apply Keeps.ite
    | (with_reducible apply Keeps.upd; with_reducible first | assumption | apply keeps_record | apply keeps_set | apply keeps_bump | apply Keeps.ite)
    | (refine Keeps.pair (by assumption) ?_)
    | (refine Keeps.pair3 (by assumption) ?_)
    | (intro _ _ _)
    | (intro _ _)
    | (intro _)
    | split
    | dsimp only)

theorem keeps_setTimState {s0 : State} (s : State) (st : ℕ) (h : Keeps s0 s) :
    Keeps s0 (State.setTimState s st) := by
  unfold State.setTimState
  try dsimp only
  repeat (first
    | with_reducible assumption
    | with_reducible apply keeps_set
    | with_reducible apply keeps_dropLine
    | with_reducible apply keeps_timMap
    | with_reducible apply keeps_load
    | with_reducible apply keeps_bump
    | with_reducible apply keeps_showTime
    | with_reducible apply keeps_record
    | with_reducible apply Keeps.ite
    | (with_reducible apply Keeps.upd; with_reducible first | assumption | apply keeps_set | apply keeps_dropLine | apply keeps_timMap | apply keeps_load | apply keeps_bump | apply keeps_showTime | apply keeps_record | apply Keeps.ite)
    | (refine Keeps.pair (by assumption) ?_)
    | (refine Keeps.pair3 (by assumption) ?_)
    | (intro _ _ _)
    | (intro _ _)
    | (intro _)
    | split
    | dsimp only)

theorem keeps_freeRun {s0 : State} (s : State) (h : Keeps s0 s) :
    Keeps s0 (State.freeRun s) := by
  unfold State.freeRun
  try dsimp only
  repeat (first
    | with_reducible assumption
    | with_reducible apply keeps_setTimState
    | with_reducible apply keeps_timMap
    | with_reducible apply Keeps.ite
    | (with_reducible apply Keeps.upd; with_reducible first | assumption | apply keeps_setTimState | apply keeps_timMap | apply Keeps.ite)
    | (refine Keeps.pair (by assumption) ?_)
    | (refine Keeps.pair3 (by assumption) ?_)
    | (intro _ _ _)
    | (intro _ _)
    | (intro _)
    | split
    | dsimp only)

theorem keeps_reformRate {s0 : State} (s : State) (h0 : List (ℤ × ℤ)) (h : Keeps s0 s) :
    Keeps s0 (State.reformRate s h0) := by
  unfold State.reformRate
  try dsimp only
  repeat (first
    | with_reducible assumption
    | with_reducible apply keeps_timMap
    | with_reducible apply Keeps.ite
    | (with_reducible apply Keeps.upd; with_reducible first | assumption | apply keeps_timMap | apply Keeps.ite)
    | (refine Keeps.pair (by assumption) ?_)
    | (refine Keeps.pair3 (by assumption) ?_)
    | (intro _ _ _)
    | (intro _ _)
    | (intro _)
    | split
    | dsimp only)

theorem keeps_applySample {s0 : State} (s : State) (sv : ℤ) (rx : ℤ) (tv : Bool) (lineB : Bool) (h : Keeps s0 s) :
    Keeps s0 (State.applySample s sv rx tv lineB) := by
  unfold State.applySample
  try dsimp only
  repeat (first
    | with_reducible assumption
    | with_reducible apply keeps_load
    | with_reducible apply keeps_timMap
    | with_reducible apply keeps_setTimState
    | with_reducible apply keeps_timJump
    | with_reducible apply keeps_reformRate
    | with_reducible apply Keeps.ite
    | (with_reducible apply Keeps.upd; with_reducible first | assumption | apply keeps_load | apply keeps_timMap | apply keeps_setTimState | apply keeps_timJump | apply keeps_reformRate | apply Keeps.ite)
    | (refine Keeps.pair (by assumption) ?_)
    | (refine Keeps.pair3 (by assumption) ?_)
    | (intro _ _ _)
    | (intro _ _)
    | (intro _)
    | split
    | dsimp only)

theorem keeps_timEpoch {s0 : State} (s : State) (h : Keeps s0 s) :
    Keeps s0 (State.timEpoch s) := by
  unfold State.timEpoch
  try dsimp only
  repeat (first
    | with_reducible assumption
    | with_reducible apply keeps_timMap
    | with_reducible apply keeps_line
    | with_reducible apply keeps_setB
    | with_reducible apply keeps_set
    | with_reducible apply keeps_applySample
    | with_reducible apply keeps_showTime
    | with_reducible apply Keeps.ite
    | (with_reducible apply Keeps.upd; with_reducible first | assumption | apply keeps_timMap | apply keeps_line | apply keeps_setB | apply keeps_set | apply keeps_applySample | apply keeps_showTime | apply Keeps.ite)
    | (refine Keeps.pair (by assumption) ?_)
    | (refine Keeps.pair3 (by assumption) ?_)
    | (intro _ _ _)
    | (intro _ _)
    | (intro _)
    | split
    | dsimp only)

theorem keeps_timCommit {s0 : State} (s : State) (h : Keeps s0 s) :
    Keeps s0 (State.timCommit s) := by
  unfold State.timCommit
  try dsimp only
  repeat (first
    | with_reducible assumption
    | with_reducible apply keeps_timMap
    | with_reducible apply keeps_showTime
    | with_reducible apply keeps_setTimState
    | with_reducible apply keeps_freeRun
    | with_reducible apply Keeps.ite
    | (with_reducible apply Keeps.upd; with_reducible first | assumption | apply keeps_timMap | apply keeps_showTime | apply keeps_setTimState | apply keeps_freeRun | apply Keeps.ite)
    | (refine Keeps.pair (by assumption) ?_)
    | (refine Keeps.pair3 (by assumption) ?_)
    | (intro _ _ _)
    | (intro _ _)
    | (intro _)
    | split
    | dsimp only)

end Sys2Proof.Machine
end

