-- ==== Sys2Proof/Laws/KeepsInaOps.lean ====
section
/-! SUPPORT. The operations of `Sys2Proof/Machine/InaOps.lean` keep what `Keeps` names. -/

set_option linter.unusedTactic false
set_option linter.unreachableTactic false

namespace Sys2Proof.Machine

theorem keeps_abandonRun {s0 : State} (s : State) (h : Keeps s0 s) :
    Keeps s0 (State.abandonRun s) := by
  unfold State.abandonRun
  try dsimp only
  repeat (first
    | with_reducible assumption
    | with_reducible apply keeps_inaMap
    | with_reducible apply keeps_load
    | with_reducible apply keeps_bump
    | with_reducible apply keeps_assertLine
    | with_reducible apply Keeps.ite
    | (with_reducible apply Keeps.upd; with_reducible first | assumption | apply keeps_inaMap | apply keeps_load | apply keeps_bump | apply keeps_assertLine | apply Keeps.ite)
    | (refine Keeps.pair (by assumption) ?_)
    | (refine Keeps.pair3 (by assumption) ?_)
    | (intro _ _ _)
    | (intro _ _)
    | (intro _)
    | split
    | dsimp only)

theorem keeps_inaTrigger {s0 : State} (s : State) (h : Keeps s0 s) :
    Keeps s0 (State.inaTrigger s) := by
  unfold State.inaTrigger
  try dsimp only
  repeat (first
    | with_reducible assumption
    | with_reducible apply keeps_abandonRun
    | with_reducible apply keeps_inaMap
    | with_reducible apply keeps_set
    | with_reducible apply Keeps.ite
    | (with_reducible apply Keeps.upd; with_reducible first | assumption | apply keeps_abandonRun | apply keeps_inaMap | apply keeps_set | apply Keeps.ite)
    | (refine Keeps.pair (by assumption) ?_)
    | (refine Keeps.pair3 (by assumption) ?_)
    | (intro _ _ _)
    | (intro _ _)
    | (intro _)
    | split
    | dsimp only)

end Sys2Proof.Machine
end

