-- ==== Sys2Proof/Laws/KeepsCycOps.lean ====
section
/-! SUPPORT. The operations of `Sys2Proof/Machine/CycOps.lean` keep what `Keeps` names. -/

set_option linter.unusedTactic false
set_option linter.unreachableTactic false

namespace Sys2Proof.Machine

theorem keeps_cycMap {s0 : State} (s : State) (f : CycState → CycState) (h : Keeps s0 s) :
    Keeps s0 (State.cycMap s f) := by
  unfold State.cycMap
  try dsimp only
  repeat (first
    | with_reducible assumption
    | with_reducible apply Keeps.ite
    | (with_reducible apply Keeps.upd; with_reducible first | assumption | apply Keeps.ite)
    | (refine Keeps.pair (by assumption) ?_)
    | (refine Keeps.pair3 (by assumption) ?_)
    | (intro _ _ _)
    | (intro _ _)
    | (intro _)
    | split
    | dsimp only)

theorem keeps_cycTrailer {s0 : State} (s : State) (iv : Bytes) (f : CycleFrame) (h : Keeps s0 s) :
    Keeps s0 (State.cycTrailer s iv f).2 := by
  unfold State.cycTrailer
  try dsimp only
  repeat (first
    | with_reducible assumption
    | with_reducible apply keeps_draw
    | with_reducible apply Keeps.ite
    | (with_reducible apply Keeps.upd; with_reducible first | assumption | apply keeps_draw | apply Keeps.ite)
    | (refine Keeps.pair (by assumption) ?_)
    | (refine Keeps.pair3 (by assumption) ?_)
    | (intro _ _ _)
    | (intro _ _)
    | (intro _)
    | split
    | dsimp only)

theorem keeps_cycRetag {s0 : State} (s : State) (ivIn : Bytes) (ivOut : Bytes) (rx : CycleFrame) (tx : CycleFrame) (h : Keeps s0 s) :
    Keeps s0 (State.cycRetag s ivIn ivOut rx tx).2 := by
  unfold State.cycRetag
  try dsimp only
  repeat (first
    | with_reducible assumption
    | with_reducible apply keeps_draw
    | with_reducible apply Keeps.ite
    | (with_reducible apply Keeps.upd; with_reducible first | assumption | apply keeps_draw | apply Keeps.ite)
    | (refine Keeps.pair (by assumption) ?_)
    | (refine Keeps.pair3 (by assumption) ?_)
    | (intro _ _ _)
    | (intro _ _)
    | (intro _)
    | split
    | dsimp only)

theorem keeps_markStaleFlows {s0 : State} (s : State) (h : Keeps s0 s) :
    Keeps s0 (State.markStaleFlows s) := by
  unfold State.markStaleFlows
  try dsimp only
  repeat (first
    | with_reducible assumption
    | with_reducible apply keeps_flowsStale
    | with_reducible apply Keeps.ite
    | (with_reducible apply Keeps.upd; with_reducible first | assumption | apply keeps_flowsStale | apply Keeps.ite)
    | (refine Keeps.pair (by assumption) ?_)
    | (refine Keeps.pair3 (by assumption) ?_)
    | (intro _ _ _)
    | (intro _ _)
    | (intro _)
    | split
    | dsimp only)

theorem keeps_showStale {s0 : State} (s : State) (q : ℕ) (h : Keeps s0 s) :
    Keeps s0 (State.showStale s q) := by
  unfold State.showStale
  try dsimp only
  repeat (first
    | with_reducible assumption
    | with_reducible apply keeps_set
    | with_reducible apply keeps_setBit
    | with_reducible apply keeps_clearBit
    | with_reducible apply Keeps.ite
    | (with_reducible apply Keeps.upd; with_reducible first | assumption | apply keeps_set | apply keeps_setBit | apply keeps_clearBit | apply Keeps.ite)
    | (refine Keeps.pair (by assumption) ?_)
    | (refine Keeps.pair3 (by assumption) ?_)
    | (intro _ _ _)
    | (intro _ _)
    | (intro _)
    | split
    | dsimp only)

theorem keeps_showStales {s0 : State} (s : State) (h : Keeps s0 s) :
    Keeps s0 (State.showStales s) := by
  unfold State.showStales
  try dsimp only
  repeat (first
    | with_reducible assumption
    | with_reducible apply keeps_markStaleFlows
    | with_reducible apply keeps_showStale
    | with_reducible apply Keeps.ite
    | (with_reducible apply Keeps.foldl; intro _ _ _)
    | (with_reducible apply Keeps.upd; with_reducible first | assumption | apply keeps_markStaleFlows | apply keeps_showStale | apply Keeps.ite | (apply Keeps.foldl; intro _ _ _))
    | (refine Keeps.pair (by assumption) ?_)
    | (refine Keeps.pair3 (by assumption) ?_)
    | (intro _ _ _)
    | (intro _ _)
    | (intro _)
    | split
    | dsimp only)

theorem keeps_showMap {s0 : State} (s : State) (old : ℕ) (h : Keeps s0 s) :
    Keeps s0 (State.showMap s old) := by
  unfold State.showMap
  try dsimp only
  repeat (first
    | with_reducible assumption
    | with_reducible apply keeps_set
    | with_reducible apply keeps_load
    | with_reducible apply Keeps.ite
    | (with_reducible apply Keeps.foldl; intro _ _ _)
    | (with_reducible apply Keeps.upd; with_reducible first | assumption | apply keeps_set | apply keeps_load | apply Keeps.ite | (apply Keeps.foldl; intro _ _ _))
    | (refine Keeps.pair (by assumption) ?_)
    | (refine Keeps.pair3 (by assumption) ?_)
    | (intro _ _ _)
    | (intro _ _)
    | (intro _)
    | split
    | dsimp only)

theorem keeps_useMap {s0 : State} (s : State) (m : SlotMap) (h : Keeps s0 s) :
    Keeps s0 (State.useMap s m) := by
  unfold State.useMap
  try dsimp only
  repeat (first
    | with_reducible assumption
    | with_reducible apply keeps_cycMap
    | with_reducible apply keeps_showStales
    | with_reducible apply keeps_set
    | with_reducible apply keeps_showMap
    | with_reducible apply Keeps.ite
    | (with_reducible apply Keeps.upd; with_reducible first | assumption | apply keeps_cycMap | apply keeps_showStales | apply keeps_set | apply keeps_showMap | apply Keeps.ite)
    | (refine Keeps.pair (by assumption) ?_)
    | (refine Keeps.pair3 (by assumption) ?_)
    | (intro _ _ _)
    | (intro _ _)
    | (intro _)
    | split
    | dsimp only)

theorem keeps_holdMap {s0 : State} (s : State) (m : SlotMap) (h : Keeps s0 s) :
    Keeps s0 (State.holdMap s m) := by
  unfold State.holdMap
  try dsimp only
  repeat (first
    | with_reducible assumption
    | with_reducible apply keeps_cycMap
    | with_reducible apply Keeps.ite
    | (with_reducible apply Keeps.upd; with_reducible first | assumption | apply keeps_cycMap | apply Keeps.ite)
    | (refine Keeps.pair (by assumption) ?_)
    | (refine Keeps.pair3 (by assumption) ?_)
    | (intro _ _ _)
    | (intro _ _)
    | (intro _)
    | split
    | dsimp only)

theorem keeps_takeDecl {s0 : State} (s : State) (q : ℕ) (size : ℕ) (h : Keeps s0 s) :
    Keeps s0 (State.takeDecl s q size) := by
  unfold State.takeDecl
  try dsimp only
  repeat (first
    | with_reducible assumption
    | with_reducible apply keeps_cycMap
    | with_reducible apply Keeps.ite
    | (with_reducible apply Keeps.upd; with_reducible first | assumption | apply keeps_cycMap | apply Keeps.ite)
    | (refine Keeps.pair (by assumption) ?_)
    | (refine Keeps.pair3 (by assumption) ?_)
    | (intro _ _ _)
    | (intro _ _)
    | (intro _)
    | split
    | dsimp only)

theorem keeps_sendDecl {s0 : State} (s : State) (h : Keeps s0 s) :
    Keeps s0 (State.sendDecl s) := by
  unfold State.sendDecl
  try dsimp only
  repeat (first
    | with_reducible assumption
    | with_reducible apply keeps_cycMap
    | with_reducible apply keeps_takeDecl
    | with_reducible apply keeps_originate
    | with_reducible apply Keeps.ite
    | (with_reducible apply Keeps.upd; with_reducible first | assumption | apply keeps_cycMap | apply keeps_takeDecl | apply keeps_originate | apply Keeps.ite)
    | (refine Keeps.pair (by assumption) ?_)
    | (refine Keeps.pair3 (by assumption) ?_)
    | (intro _ _ _)
    | (intro _ _)
    | (intro _)
    | split
    | dsimp only)

theorem keeps_sendMap {s0 : State} (s : State) (m : SlotMap) (h : Keeps s0 s) :
    Keeps s0 (State.sendMap s m) := by
  unfold State.sendMap
  try dsimp only
  repeat (first
    | with_reducible assumption
    | with_reducible apply keeps_originate
    | with_reducible apply Keeps.ite
    | (with_reducible apply Keeps.upd; with_reducible first | assumption | apply keeps_originate | apply Keeps.ite)
    | (refine Keeps.pair (by assumption) ?_)
    | (refine Keeps.pair3 (by assumption) ?_)
    | (intro _ _ _)
    | (intro _ _)
    | (intro _)
    | split
    | dsimp only)

theorem keeps_reissueMap {s0 : State} (s : State) (h : Keeps s0 s) :
    Keeps s0 (State.reissueMap s) := by
  unfold State.reissueMap
  try dsimp only
  repeat (first
    | with_reducible assumption
    | with_reducible apply keeps_sendMap
    | with_reducible apply Keeps.ite
    | (with_reducible apply Keeps.upd; with_reducible first | assumption | apply keeps_sendMap | apply Keeps.ite)
    | (refine Keeps.pair (by assumption) ?_)
    | (refine Keeps.pair3 (by assumption) ?_)
    | (intro _ _ _)
    | (intro _ _)
    | (intro _)
    | split
    | dsimp only)

theorem keeps_issueMap {s0 : State} (s : State) (h : Keeps s0 s) :
    Keeps s0 (State.issueMap s) := by
  unfold State.issueMap
  try dsimp only
  repeat (first
    | with_reducible assumption
    | with_reducible apply keeps_cycMap
    | with_reducible apply keeps_setB
    | with_reducible apply keeps_holdMap
    | with_reducible apply keeps_record
    | with_reducible apply keeps_set
    | with_reducible apply keeps_sendMap
    | with_reducible apply Keeps.ite
    | (with_reducible apply Keeps.upd; with_reducible first | assumption | apply keeps_cycMap | apply keeps_setB | apply keeps_holdMap | apply keeps_record | apply keeps_set | apply keeps_sendMap | apply Keeps.ite)
    | (refine Keeps.pair (by assumption) ?_)
    | (refine Keeps.pair3 (by assumption) ?_)
    | (intro _ _ _)
    | (intro _ _)
    | (intro _)
    | split
    | dsimp only)

theorem keeps_mapAtWindowEnd {s0 : State} (s : State) (h : Keeps s0 s) :
    Keeps s0 (State.mapAtWindowEnd s) := by
  unfold State.mapAtWindowEnd
  try dsimp only
  repeat (first
    | with_reducible assumption
    | with_reducible apply keeps_cycMap
    | with_reducible apply keeps_issueMap
    | with_reducible apply Keeps.ite
    | (with_reducible apply Keeps.upd; with_reducible first | assumption | apply keeps_cycMap | apply keeps_issueMap | apply Keeps.ite)
    | (refine Keeps.pair (by assumption) ?_)
    | (refine Keeps.pair3 (by assumption) ?_)
    | (intro _ _ _)
    | (intro _ _)
    | (intro _)
    | split
    | dsimp only)

theorem keeps_budgetCheck {s0 : State} (s : State) (h : Keeps s0 s) :
    Keeps s0 (State.budgetCheck s) := by
  unfold State.budgetCheck
  try dsimp only
  repeat (first
    | with_reducible assumption
    | with_reducible apply keeps_set
    | with_reducible apply keeps_setB
    | with_reducible apply keeps_line
    | with_reducible apply Keeps.ite
    | (with_reducible apply Keeps.upd; with_reducible first | assumption | apply keeps_set | apply keeps_setB | apply keeps_line | apply Keeps.ite)
    | (refine Keeps.pair (by assumption) ?_)
    | (refine Keeps.pair3 (by assumption) ?_)
    | (intro _ _ _)
    | (intro _ _)
    | (intro _)
    | split
    | dsimp only)

theorem keeps_freshEpoch {s0 : State} (s : State) (h : Keeps s0 s) :
    Keeps s0 (State.freshEpoch s) := by
  unfold State.freshEpoch
  try dsimp only
  repeat (first
    | with_reducible assumption
    | with_reducible apply keeps_showStales
    | with_reducible apply keeps_cycMap
    | with_reducible apply Keeps.ite
    | (with_reducible apply Keeps.upd; with_reducible first | assumption | apply keeps_showStales | apply keeps_cycMap | apply Keeps.ite)
    | (refine Keeps.pair (by assumption) ?_)
    | (refine Keeps.pair3 (by assumption) ?_)
    | (intro _ _ _)
    | (intro _ _)
    | (intro _)
    | split
    | dsimp only)

theorem keeps_frameOutcome {s0 : State} (s : State) (h : Keeps s0 s) :
    Keeps s0 (State.frameOutcome s) := by
  unfold State.frameOutcome
  try dsimp only
  repeat (first
    | with_reducible assumption
    | with_reducible apply keeps_line
    | with_reducible apply keeps_bump
    | with_reducible apply Keeps.ite
    | (with_reducible apply Keeps.upd; with_reducible first | assumption | apply keeps_line | apply keeps_bump | apply Keeps.ite)
    | (refine Keeps.pair (by assumption) ?_)
    | (refine Keeps.pair3 (by assumption) ?_)
    | (intro _ _ _)
    | (intro _ _)
    | (intro _)
    | split
    | dsimp only)

theorem keeps_setKeyAge {s0 : State} (s : State) (n : ℕ) (h : Keeps s0 s) :
    Keeps s0 (State.setKeyAge s n) := by
  unfold State.setKeyAge
  try dsimp only
  repeat (first
    | with_reducible assumption
    | with_reducible apply keeps_set
    | with_reducible apply keeps_load
    | with_reducible apply Keeps.ite
    | (with_reducible apply Keeps.upd; with_reducible first | assumption | apply keeps_set | apply keeps_load | apply Keeps.ite)
    | (refine Keeps.pair (by assumption) ?_)
    | (refine Keeps.pair3 (by assumption) ?_)
    | (intro _ _ _)
    | (intro _ _)
    | (intro _)
    | split
    | dsimp only)

theorem keeps_takeFrameEpoch {s0 : State} (s : State) (e : ℕ) (h : Keeps s0 s) :
    Keeps s0 (State.takeFrameEpoch s e) := by
  unfold State.takeFrameEpoch
  try dsimp only
  repeat (first
    | with_reducible assumption
    | with_reducible apply keeps_setKeyAge
    | with_reducible apply keeps_set
    | with_reducible apply Keeps.ite
    | (with_reducible apply Keeps.upd; with_reducible first | assumption | apply keeps_setKeyAge | apply keeps_set | apply Keeps.ite)
    | (refine Keeps.pair (by assumption) ?_)
    | (refine Keeps.pair3 (by assumption) ?_)
    | (intro _ _ _)
    | (intro _ _)
    | (intro _)
    | split
    | dsimp only)

theorem keeps_cycCommit {s0 : State} (s : State) (kept : Bool) (h : Keeps s0 s) :
    Keeps s0 (State.cycCommit s kept) := by
  unfold State.cycCommit
  try dsimp only
  repeat (first
    | with_reducible assumption
    | with_reducible apply keeps_cycMap
    | with_reducible apply keeps_set
    | with_reducible apply keeps_dropLine
    | with_reducible apply keeps_showStales
    | with_reducible apply keeps_setKeyAge
    | with_reducible apply keeps_showMap
    | with_reducible apply Keeps.ite
    | (with_reducible apply Keeps.upd; with_reducible first | assumption | apply keeps_cycMap | apply keeps_set | apply keeps_dropLine | apply keeps_showStales | apply keeps_setKeyAge | apply keeps_showMap | apply Keeps.ite)
    | (refine Keeps.pair (by assumption) ?_)
    | (refine Keeps.pair3 (by assumption) ?_)
    | (intro _ _ _)
    | (intro _ _)
    | (intro _)
    | split
    | dsimp only)

end Sys2Proof.Machine
end

