-- ==== Sys2Proof/Laws/KeepsSlpOps.lean ====
section
/-! SUPPORT. The operations of `Sys2Proof/Machine/SlpOps.lean` keep what `Keeps` names. -/

set_option linter.unusedTactic false
set_option linter.unreachableTactic false

namespace Sys2Proof.Machine

theorem keeps_slpMap {s0 : State} (s : State) (f : SlpState → SlpState) (h : Keeps s0 s) :
    Keeps s0 (State.slpMap s f) := by
  unfold State.slpMap
  try dsimp only
  repeat (first
    | with_reducible assumption
    | with_reducible apply Keeps.ite
    | (with_reducible apply Keeps.upd; with_reducible first | assumption | apply Keeps.ite)
    | (refine Keeps.pair (by assumption) ?_)
    | (refine Keeps.pair3 (by assumption) ?_)
    | (intro _ _ _)
    | (intro _ _)
    | (intro _)
    | split
    | dsimp only)

theorem keeps_sendSleep {s0 : State} (s : State) (kind : ℕ) (code : ℕ) (pos : ℕ) (h : Keeps s0 s) :
    Keeps s0 (State.sendSleep s kind code pos) := by
  unfold State.sendSleep
  try dsimp only
  repeat (first
    | with_reducible assumption
    | with_reducible apply keeps_originate
    | with_reducible apply Keeps.ite
    | (with_reducible apply Keeps.upd; with_reducible first | assumption | apply keeps_originate | apply Keeps.ite)
    | (refine Keeps.pair (by assumption) ?_)
    | (refine Keeps.pair3 (by assumption) ?_)
    | (intro _ _ _)
    | (intro _ _)
    | (intro _)
    | split
    | dsimp only)

theorem keeps_sleepEnds {s0 : State} (s : State) (result : ℕ) (h : Keeps s0 s) :
    Keeps s0 (State.sleepEnds s result) := by
  unfold State.sleepEnds
  try dsimp only
  repeat (first
    | with_reducible assumption
    | with_reducible apply keeps_load
    | with_reducible apply keeps_slpMap
    | with_reducible apply Keeps.ite
    | (with_reducible apply Keeps.upd; with_reducible first | assumption | apply keeps_load | apply keeps_slpMap | apply Keeps.ite)
    | (refine Keeps.pair (by assumption) ?_)
    | (refine Keeps.pair3 (by assumption) ?_)
    | (intro _ _ _)
    | (intro _ _)
    | (intro _)
    | split
    | dsimp only)

theorem keeps_sleepTopology {s0 : State} (s : State) (h : Keeps s0 s) :
    Keeps s0 (State.sleepTopology s) := by
  unfold State.sleepTopology
  try dsimp only
  repeat (first
    | with_reducible assumption
    | with_reducible apply keeps_sleepEnds
    | with_reducible apply Keeps.ite
    | (with_reducible apply Keeps.upd; with_reducible first | assumption | apply keeps_sleepEnds | apply Keeps.ite)
    | (refine Keeps.pair (by assumption) ?_)
    | (refine Keeps.pair3 (by assumption) ?_)
    | (intro _ _ _)
    | (intro _ _)
    | (intro _)
    | split
    | dsimp only)

theorem keeps_voteFails {s0 : State} (s : State) (result : ℕ) (h : Keeps s0 s) :
    Keeps s0 (State.voteFails s result) := by
  unfold State.voteFails
  try dsimp only
  repeat (first
    | with_reducible assumption
    | with_reducible apply keeps_set
    | with_reducible apply keeps_bump
    | with_reducible apply keeps_sleepEnds
    | with_reducible apply Keeps.ite
    | (with_reducible apply Keeps.upd; with_reducible first | assumption | apply keeps_set | apply keeps_bump | apply keeps_sleepEnds | apply Keeps.ite)
    | (refine Keeps.pair (by assumption) ?_)
    | (refine Keeps.pair3 (by assumption) ?_)
    | (intro _ _ _)
    | (intro _ _)
    | (intro _)
    | split
    | dsimp only)

theorem keeps_sleepCancelled {s0 : State} (s : State) (h : Keeps s0 s) :
    Keeps s0 (State.sleepCancelled s) := by
  unfold State.sleepCancelled
  try dsimp only
  repeat (first
    | with_reducible assumption
    | with_reducible apply keeps_set
    | with_reducible apply keeps_sleepEnds
    | with_reducible apply Keeps.ite
    | (with_reducible apply Keeps.upd; with_reducible first | assumption | apply keeps_set | apply keeps_sleepEnds | apply Keeps.ite)
    | (refine Keeps.pair (by assumption) ?_)
    | (refine Keeps.pair3 (by assumption) ?_)
    | (intro _ _ _)
    | (intro _ _)
    | (intro _)
    | split
    | dsimp only)

theorem keeps_sleepNext {s0 : State} (s : State) (kind : ℕ) (code : ℕ) (h : Keeps s0 s) :
    Keeps s0 (State.sleepNext s kind code) := by
  unfold State.sleepNext
  try dsimp only
  repeat (first
    | with_reducible assumption
    | with_reducible apply keeps_slpMap
    | with_reducible apply Keeps.ite
    | (with_reducible apply Keeps.upd; with_reducible first | assumption | apply keeps_slpMap | apply Keeps.ite)
    | (refine Keeps.pair (by assumption) ?_)
    | (refine Keeps.pair3 (by assumption) ?_)
    | (intro _ _ _)
    | (intro _ _)
    | (intro _)
    | split
    | dsimp only)

theorem keeps_confirmWake {s0 : State} (s : State) (h : Keeps s0 s) :
    Keeps s0 (State.confirmWake s) := by
  unfold State.confirmWake
  try dsimp only
  repeat (first
    | with_reducible assumption
    | with_reducible apply keeps_load
    | with_reducible apply keeps_sleepNext
    | with_reducible apply keeps_slpMap
    | with_reducible apply Keeps.ite
    | (with_reducible apply Keeps.upd; with_reducible first | assumption | apply keeps_load | apply keeps_sleepNext | apply keeps_slpMap | apply Keeps.ite)
    | (refine Keeps.pair (by assumption) ?_)
    | (refine Keeps.pair3 (by assumption) ?_)
    | (intro _ _ _)
    | (intro _ _)
    | (intro _)
    | split
    | dsimp only)

theorem keeps_noteVote {s0 : State} (s : State) (pos : ℕ) (yes : Bool) (h : Keeps s0 s) :
    Keeps s0 (State.noteVote s pos yes) := by
  unfold State.noteVote
  try dsimp only
  repeat (first
    | with_reducible assumption
    | with_reducible apply keeps_slpMap
    | with_reducible apply Keeps.ite
    | (with_reducible apply Keeps.upd; with_reducible first | assumption | apply keeps_slpMap | apply Keeps.ite)
    | (refine Keeps.pair (by assumption) ?_)
    | (refine Keeps.pair3 (by assumption) ?_)
    | (intro _ _ _)
    | (intro _ _)
    | (intro _)
    | split
    | dsimp only)

theorem keeps_castVotes {s0 : State} (s : State) (yes : Bool) (h : Keeps s0 s) :
    Keeps s0 (State.castVotes s yes) := by
  unfold State.castVotes
  try dsimp only
  repeat (first
    | with_reducible assumption
    | with_reducible apply keeps_noteVote
    | with_reducible apply keeps_sendSleep
    | with_reducible apply Keeps.ite
    | (with_reducible apply Keeps.foldl; intro _ _ _)
    | (with_reducible apply Keeps.upd; with_reducible first | assumption | apply keeps_noteVote | apply keeps_sendSleep | apply Keeps.ite | (apply Keeps.foldl; intro _ _ _))
    | (refine Keeps.pair (by assumption) ?_)
    | (refine Keeps.pair3 (by assumption) ?_)
    | (intro _ _ _)
    | (intro _ _)
    | (intro _)
    | split
    | dsimp only)

theorem keeps_noteWake {s0 : State} (s : State) (src : ℕ) (h : Keeps s0 s) :
    Keeps s0 (State.noteWake s src) := by
  unfold State.noteWake
  try dsimp only
  repeat (first
    | with_reducible assumption
    | with_reducible apply keeps_slpMap
    | with_reducible apply keeps_confirmWake
    | with_reducible apply keeps_castVotes
    | with_reducible apply keeps_sleepNext
    | with_reducible apply Keeps.ite
    | (with_reducible apply Keeps.upd; with_reducible first | assumption | apply keeps_slpMap | apply keeps_confirmWake | apply keeps_castVotes | apply keeps_sleepNext | apply Keeps.ite)
    | (refine Keeps.pair (by assumption) ?_)
    | (refine Keeps.pair3 (by assumption) ?_)
    | (intro _ _ _)
    | (intro _ _)
    | (intro _)
    | split
    | dsimp only)

theorem keeps_readyCleared {s0 : State} (s : State) (h : Keeps s0 s) :
    Keeps s0 (State.readyCleared s) := by
  unfold State.readyCleared
  try dsimp only
  repeat (first
    | with_reducible assumption
    | with_reducible apply keeps_noteWake
    | with_reducible apply Keeps.ite
    | (with_reducible apply Keeps.upd; with_reducible first | assumption | apply keeps_noteWake | apply Keeps.ite)
    | (refine Keeps.pair (by assumption) ?_)
    | (refine Keeps.pair3 (by assumption) ?_)
    | (intro _ _ _)
    | (intro _ _)
    | (intro _)
    | split
    | dsimp only)

theorem keeps_startVote {s0 : State} (s : State) (h : Keeps s0 s) :
    Keeps s0 (State.startVote s) := by
  unfold State.startVote
  try dsimp only
  repeat (first
    | with_reducible assumption
    | with_reducible apply keeps_load
    | with_reducible apply keeps_slpMap
    | with_reducible apply Keeps.ite
    | (with_reducible apply Keeps.upd; with_reducible first | assumption | apply keeps_load | apply keeps_slpMap | apply Keeps.ite)
    | (refine Keeps.pair (by assumption) ?_)
    | (refine Keeps.pair3 (by assumption) ?_)
    | (intro _ _ _)
    | (intro _ _)
    | (intro _)
    | split
    | dsimp only)

theorem keeps_requestSleep {s0 : State} (s : State) (h : Keeps s0 s) :
    Keeps s0 (State.requestSleep s) := by
  unfold State.requestSleep
  try dsimp only
  repeat (first
    | with_reducible assumption
    | with_reducible apply keeps_startVote
    | with_reducible apply keeps_sendSleep
    | with_reducible apply keeps_sleepNext
    | with_reducible apply Keeps.ite
    | (with_reducible apply Keeps.upd; with_reducible first | assumption | apply keeps_startVote | apply keeps_sendSleep | apply keeps_sleepNext | apply Keeps.ite)
    | (refine Keeps.pair (by assumption) ?_)
    | (refine Keeps.pair3 (by assumption) ?_)
    | (intro _ _ _)
    | (intro _ _)
    | (intro _)
    | split
    | dsimp only)

theorem keeps_sendCall {s0 : State} (s : State) (h : Keeps s0 s) :
    Keeps s0 (State.sendCall s) := by
  unfold State.sendCall
  try dsimp only
  repeat (first
    | with_reducible assumption
    | with_reducible apply keeps_sendSleep
    | with_reducible apply keeps_slpMap
    | with_reducible apply keeps_castVotes
    | with_reducible apply Keeps.ite
    | (with_reducible apply Keeps.upd; with_reducible first | assumption | apply keeps_sendSleep | apply keeps_slpMap | apply keeps_castVotes | apply Keeps.ite)
    | (refine Keeps.pair (by assumption) ?_)
    | (refine Keeps.pair3 (by assumption) ?_)
    | (intro _ _ _)
    | (intro _ _)
    | (intro _)
    | split
    | dsimp only)

theorem keeps_sendCommit {s0 : State} (s : State) (code : ℕ) (h : Keeps s0 s) :
    Keeps s0 (State.sendCommit s code) := by
  unfold State.sendCommit
  try dsimp only
  repeat (first
    | with_reducible assumption
    | with_reducible apply keeps_load
    | with_reducible apply keeps_slpMap
    | with_reducible apply keeps_sendSleep
    | with_reducible apply Keeps.ite
    | (with_reducible apply Keeps.upd; with_reducible first | assumption | apply keeps_load | apply keeps_slpMap | apply keeps_sendSleep | apply Keeps.ite)
    | (refine Keeps.pair (by assumption) ?_)
    | (refine Keeps.pair3 (by assumption) ?_)
    | (intro _ _ _)
    | (intro _ _)
    | (intro _)
    | split
    | dsimp only)

theorem keeps_headSleeps {s0 : State} (s : State) (h : Keeps s0 s) :
    Keeps s0 (State.headSleeps s) := by
  unfold State.headSleeps
  try dsimp only
  repeat (first
    | with_reducible assumption
    | with_reducible apply keeps_sendCall
    | with_reducible apply keeps_sendCommit
    | with_reducible apply keeps_slpMap
    | with_reducible apply keeps_sendSleep
    | with_reducible apply Keeps.ite
    | (with_reducible apply Keeps.upd; with_reducible first | assumption | apply keeps_sendCall | apply keeps_sendCommit | apply keeps_slpMap | apply keeps_sendSleep | apply Keeps.ite)
    | (refine Keeps.pair (by assumption) ?_)
    | (refine Keeps.pair3 (by assumption) ?_)
    | (intro _ _ _)
    | (intro _ _)
    | (intro _)
    | split
    | dsimp only)

theorem keeps_sendWaiting {s0 : State} (s : State) (e : ℕ × ℕ) (h : Keeps s0 s) :
    Keeps s0 (State.sendWaiting s e) := by
  unfold State.sendWaiting
  try dsimp only
  repeat (first
    | with_reducible assumption
    | with_reducible apply keeps_castVotes
    | with_reducible apply keeps_sendSleep
    | with_reducible apply keeps_sleepCancelled
    | with_reducible apply Keeps.ite
    | (with_reducible apply Keeps.upd; with_reducible first | assumption | apply keeps_castVotes | apply keeps_sendSleep | apply keeps_sleepCancelled | apply Keeps.ite)
    | (refine Keeps.pair (by assumption) ?_)
    | (refine Keeps.pair3 (by assumption) ?_)
    | (intro _ _ _)
    | (intro _ _)
    | (intro _)
    | split
    | dsimp only)

theorem keeps_sleepWindowOpen {s0 : State} (s : State) (h : Keeps s0 s) :
    Keeps s0 (State.sleepWindowOpen s) := by
  unfold State.sleepWindowOpen
  try dsimp only
  repeat (first
    | with_reducible assumption
    | with_reducible apply keeps_sendWaiting
    | with_reducible apply keeps_slpMap
    | with_reducible apply keeps_headSleeps
    | with_reducible apply Keeps.ite
    | (with_reducible apply Keeps.foldl; intro _ _ _)
    | (with_reducible apply Keeps.upd; with_reducible first | assumption | apply keeps_sendWaiting | apply keeps_slpMap | apply keeps_headSleeps | apply Keeps.ite | (apply Keeps.foldl; intro _ _ _))
    | (refine Keeps.pair (by assumption) ?_)
    | (refine Keeps.pair3 (by assumption) ?_)
    | (intro _ _ _)
    | (intro _ _)
    | (intro _)
    | split
    | dsimp only)

theorem keeps_countVotes {s0 : State} (s : State) (h : Keeps s0 s) :
    Keeps s0 (State.countVotes s) := by
  unfold State.countVotes
  try dsimp only
  repeat (first
    | with_reducible assumption
    | with_reducible apply keeps_slpMap
    | with_reducible apply keeps_sleepNext
    | with_reducible apply keeps_voteFails
    | with_reducible apply Keeps.ite
    | (with_reducible apply Keeps.upd; with_reducible first | assumption | apply keeps_slpMap | apply keeps_sleepNext | apply keeps_voteFails | apply Keeps.ite)
    | (refine Keeps.pair (by assumption) ?_)
    | (refine Keeps.pair3 (by assumption) ?_)
    | (intro _ _ _)
    | (intro _ _)
    | (intro _)
    | split
    | dsimp only)

theorem keeps_sleepWindowEnd {s0 : State} (s : State) (h : Keeps s0 s) :
    Keeps s0 (State.sleepWindowEnd s) := by
  unfold State.sleepWindowEnd
  try dsimp only
  repeat (first
    | with_reducible assumption
    | with_reducible apply keeps_countVotes
    | with_reducible apply Keeps.ite
    | (with_reducible apply Keeps.upd; with_reducible first | assumption | apply keeps_countVotes | apply Keeps.ite)
    | (refine Keeps.pair (by assumption) ?_)
    | (refine Keeps.pair3 (by assumption) ?_)
    | (intro _ _ _)
    | (intro _ _)
    | (intro _)
    | split
    | dsimp only)

end Sys2Proof.Machine
end

