-- ==== Sys2Proof/Laws/KeepsMsg.lean ====
section
/-! SUPPORT. The operations of `Sys2Proof/Machine/Msg.lean` keep what `Keeps` names. -/

set_option linter.unusedTactic false
set_option linter.unreachableTactic false

namespace Sys2Proof.Machine

theorem keeps_windowTimes {s0 : State} (s : State) (h : Keeps s0 s) :
    Keeps s0 (State.windowTimes s) := by
  unfold State.windowTimes
  try dsimp only
  repeat (first
    | with_reducible assumption
    | with_reducible apply keeps_sleepWindowOpen
    | with_reducible apply keeps_pollSidebands
    | with_reducible apply keeps_msgMap
    | with_reducible apply Keeps.ite
    | (with_reducible apply Keeps.upd; with_reducible first | assumption | apply keeps_sleepWindowOpen | apply keeps_pollSidebands | apply keeps_msgMap | apply Keeps.ite)
    | (refine Keeps.pair (by assumption) ?_)
    | (refine Keeps.pair3 (by assumption) ?_)
    | (intro _ _ _)
    | (intro _ _)
    | (intro _)
    | split
    | dsimp only)

theorem keeps_windowOpens {s0 : State} (s : State) (p : ℕ) (h : Keeps s0 s) :
    Keeps s0 (State.windowOpens s p) := by
  unfold State.windowOpens
  try dsimp only
  repeat (first
    | with_reducible assumption
    | with_reducible apply keeps_windowTimes
    | with_reducible apply keeps_msgMap
    | with_reducible apply Keeps.ite
    | (with_reducible apply Keeps.upd; with_reducible first | assumption | apply keeps_windowTimes | apply keeps_msgMap | apply Keeps.ite)
    | (refine Keeps.pair (by assumption) ?_)
    | (refine Keeps.pair3 (by assumption) ?_)
    | (intro _ _ _)
    | (intro _ _)
    | (intro _)
    | split
    | dsimp only)

theorem keeps_execMsgWindowOpen {s0 : State} (port : ℕ) (s : State) (h : Keeps s0 s) :
    ∃ u, execMsgWindowOpen port s = finish u ∧ Keeps s0 u := by
  refine ⟨_, rfl, ?_⟩
  try dsimp only
  repeat (first
    | with_reducible assumption
    | with_reducible apply keeps_windowOpens
    | with_reducible apply Keeps.ite
    | (with_reducible apply Keeps.upd; with_reducible first | assumption | apply keeps_windowOpens | apply Keeps.ite)
    | (refine Keeps.pair (by assumption) ?_)
    | (refine Keeps.pair3 (by assumption) ?_)
    | (intro _ _ _)
    | (intro _ _)
    | (intro _)
    | split
    | dsimp only)

theorem keeps_windowOver {s0 : State} (s : State) (h : Keeps s0 s) :
    Keeps s0 (State.windowOver s) := by
  unfold State.windowOver
  try dsimp only
  repeat (first
    | with_reducible assumption
    | with_reducible apply keeps_cycMap
    | with_reducible apply keeps_msgMap
    | with_reducible apply keeps_set
    | with_reducible apply keeps_sleepWindowEnd
    | with_reducible apply keeps_absentWindows
    | with_reducible apply keeps_absentFlows
    | with_reducible apply keeps_mapAtWindowEnd
    | with_reducible apply Keeps.ite
    | (with_reducible apply Keeps.upd; with_reducible first | assumption | apply keeps_cycMap | apply keeps_msgMap | apply keeps_set | apply keeps_sleepWindowEnd | apply keeps_absentWindows | apply keeps_absentFlows | apply keeps_mapAtWindowEnd | apply Keeps.ite)
    | (refine Keeps.pair (by assumption) ?_)
    | (refine Keeps.pair3 (by assumption) ?_)
    | (intro _ _ _)
    | (intro _ _)
    | (intro _)
    | split
    | dsimp only)

theorem keeps_windowCloses {s0 : State} (s : State) (p : ℕ) (h : Keeps s0 s) :
    Keeps s0 (State.windowCloses s p) := by
  unfold State.windowCloses
  try dsimp only
  repeat (first
    | with_reducible assumption
    | with_reducible apply keeps_msgMap
    | with_reducible apply keeps_windowOver
    | with_reducible apply Keeps.ite
    | (with_reducible apply Keeps.upd; with_reducible first | assumption | apply keeps_msgMap | apply keeps_windowOver | apply Keeps.ite)
    | (refine Keeps.pair (by assumption) ?_)
    | (refine Keeps.pair3 (by assumption) ?_)
    | (intro _ _ _)
    | (intro _ _)
    | (intro _)
    | split
    | dsimp only)

theorem keeps_execMsgWindowClose {s0 : State} (port : ℕ) (s : State) (h : Keeps s0 s) :
    ∃ u, execMsgWindowClose port s = finish u ∧ Keeps s0 u := by
  refine ⟨_, rfl, ?_⟩
  try dsimp only
  repeat (first
    | with_reducible assumption
    | with_reducible apply keeps_windowCloses
    | with_reducible apply Keeps.ite
    | (with_reducible apply Keeps.upd; with_reducible first | assumption | apply keeps_windowCloses | apply Keeps.ite)
    | (refine Keeps.pair (by assumption) ?_)
    | (refine Keeps.pair3 (by assumption) ?_)
    | (intro _ _ _)
    | (intro _ _)
    | (intro _)
    | split
    | dsimp only)

theorem keeps_execHeaderLossTimeout {s0 : State} (s : State) (h : Keeps s0 s) :
    ∃ u, execHeaderLossTimeout s = finish u ∧ Keeps s0 u := by
  refine ⟨_, rfl, ?_⟩
  try dsimp only
  repeat (first
    | with_reducible assumption
    | with_reducible apply keeps_msgMap
    | with_reducible apply keeps_cycMap
    | with_reducible apply Keeps.ite
    | (with_reducible apply Keeps.upd; with_reducible first | assumption | apply keeps_msgMap | apply keeps_cycMap | apply Keeps.ite)
    | (refine Keeps.pair (by assumption) ?_)
    | (refine Keeps.pair3 (by assumption) ?_)
    | (intro _ _ _)
    | (intro _ _)
    | (intro _)
    | split
    | dsimp only)

theorem keeps_abortSending {s0 : State} (s : State) (p : ℕ) (h : Keeps s0 s) :
    Keeps s0 (State.abortSending s p) := by
  unfold State.abortSending
  try dsimp only
  repeat (first
    | with_reducible assumption
    | with_reducible apply keeps_msgMap
    | with_reducible apply keeps_bump
    | with_reducible apply keeps_emit
    | with_reducible apply keeps_setMsgQueue
    | with_reducible apply Keeps.ite
    | (with_reducible apply Keeps.upd; with_reducible first | assumption | apply keeps_msgMap | apply keeps_bump | apply keeps_emit | apply keeps_setMsgQueue | apply Keeps.ite)
    | (refine Keeps.pair (by assumption) ?_)
    | (refine Keeps.pair3 (by assumption) ?_)
    | (intro _ _ _)
    | (intro _ _)
    | (intro _)
    | split
    | dsimp only)

theorem keeps_startFrame {s0 : State} (s : State) (p : ℕ) (q : Queued) (h : Keeps s0 s) :
    Keeps s0 (State.startFrame s p q) := by
  unfold State.startFrame
  try dsimp only
  repeat (first
    | with_reducible assumption
    | with_reducible apply keeps_setMsgQueue
    | with_reducible apply keeps_msgMap
    | with_reducible apply keeps_emit
    | with_reducible apply keeps_brgCopySent
    | with_reducible apply Keeps.ite
    | (with_reducible apply Keeps.upd; with_reducible first | assumption | apply keeps_setMsgQueue | apply keeps_msgMap | apply keeps_emit | apply keeps_brgCopySent | apply Keeps.ite)
    | (refine Keeps.pair (by assumption) ?_)
    | (refine Keeps.pair3 (by assumption) ?_)
    | (intro _ _ _)
    | (intro _ _)
    | (intro _)
    | split
    | dsimp only)

theorem keeps_transmitStart {s0 : State} (s : State) (p : ℕ) (h : Keeps s0 s) :
    Keeps s0 (State.transmitStart s p) := by
  unfold State.transmitStart
  try dsimp only
  repeat (first
    | with_reducible assumption
    | with_reducible apply keeps_startFrame
    | with_reducible apply Keeps.ite
    | (with_reducible apply Keeps.upd; with_reducible first | assumption | apply keeps_startFrame | apply Keeps.ite)
    | (refine Keeps.pair (by assumption) ?_)
    | (refine Keeps.pair3 (by assumption) ?_)
    | (intro _ _ _)
    | (intro _ _)
    | (intro _)
    | split
    | dsimp only)

theorem keeps_execMsgTransmitStart {s0 : State} (port : ℕ) (s : State) (h : Keeps s0 s) :
    ∃ u, execMsgTransmitStart port s = finish u ∧ Keeps s0 u := by
  refine ⟨_, rfl, ?_⟩
  try dsimp only
  repeat (first
    | with_reducible assumption
    | with_reducible apply keeps_transmitStart
    | with_reducible apply Keeps.ite
    | (with_reducible apply Keeps.upd; with_reducible first | assumption | apply keeps_transmitStart | apply Keeps.ite)
    | (refine Keeps.pair (by assumption) ?_)
    | (refine Keeps.pair3 (by assumption) ?_)
    | (intro _ _ _)
    | (intro _ _)
    | (intro _)
    | split
    | dsimp only)

theorem keeps_execMsgQueueAgeExpiry {s0 : State} (port : ℕ) (cls : ℕ) (s : State) (h : Keeps s0 s) :
    ∃ u, execMsgQueueAgeExpiry port cls s = finish u ∧ Keeps s0 u := by
  refine ⟨_, rfl, ?_⟩
  try dsimp only
  repeat (first
    | with_reducible assumption
    | with_reducible apply keeps_queueDrop
    | with_reducible apply keeps_setMsgQueue
    | with_reducible apply Keeps.ite
    | (with_reducible apply Keeps.upd; with_reducible first | assumption | apply keeps_queueDrop | apply keeps_setMsgQueue | apply Keeps.ite)
    | (refine Keeps.pair (by assumption) ?_)
    | (refine Keeps.pair3 (by assumption) ?_)
    | (intro _ _ _)
    | (intro _ _)
    | (intro _)
    | split
    | dsimp only)

theorem keeps_police {s0 : State} (s : State) (p : ℕ) (c : ℕ) (groups : ℕ) (h : Keeps s0 s) :
    Keeps s0 (State.police s p c groups).2 := by
  unfold State.police
  try dsimp only
  repeat (first
    | with_reducible assumption
    | with_reducible apply keeps_bump
    | with_reducible apply keeps_msgMap
    | with_reducible apply Keeps.ite
    | (with_reducible apply Keeps.upd; with_reducible first | assumption | apply keeps_bump | apply keeps_msgMap | apply Keeps.ite)
    | (refine Keeps.pair (by assumption) ?_)
    | (refine Keeps.pair3 (by assumption) ?_)
    | (intro _ _ _)
    | (intro _ _)
    | (intro _)
    | split
    | dsimp only)

theorem keeps_policeAlarm {s0 : State} (s : State) (k : ℕ) (h : Keeps s0 s) :
    Keeps s0 (State.policeAlarm s k) := by
  unfold State.policeAlarm
  try dsimp only
  repeat (first
    | with_reducible assumption
    | with_reducible apply keeps_setBit
    | with_reducible apply keeps_rateCheck
    | with_reducible apply keeps_record
    | with_reducible apply Keeps.ite
    | (with_reducible apply Keeps.upd; with_reducible first | assumption | apply keeps_setBit | apply keeps_rateCheck | apply keeps_record | apply Keeps.ite)
    | (refine Keeps.pair (by assumption) ?_)
    | (refine Keeps.pair3 (by assumption) ?_)
    | (intro _ _ _)
    | (intro _ _)
    | (intro _)
    | split
    | dsimp only)

theorem keeps_policeEpoch {s0 : State} (s : State) (h : Keeps s0 s) :
    Keeps s0 (State.policeEpoch s) := by
  unfold State.policeEpoch
  try dsimp only
  repeat (first
    | with_reducible assumption
    | with_reducible apply keeps_msgMap
    | with_reducible apply keeps_line
    | with_reducible apply keeps_policeAlarm
    | with_reducible apply Keeps.ite
    | (with_reducible apply Keeps.foldl; intro _ _ _)
    | (with_reducible apply Keeps.upd; with_reducible first | assumption | apply keeps_msgMap | apply keeps_line | apply keeps_policeAlarm | apply Keeps.ite | (apply Keeps.foldl; intro _ _ _))
    | (refine Keeps.pair (by assumption) ?_)
    | (refine Keeps.pair3 (by assumption) ?_)
    | (intro _ _ _)
    | (intro _ _)
    | (intro _)
    | split
    | dsimp only)

theorem keeps_msgConfigEpoch {s0 : State} (s : State) (h : Keeps s0 s) :
    Keeps s0 (State.msgConfigEpoch s) := by
  unfold State.msgConfigEpoch
  try dsimp only
  repeat (first
    | with_reducible assumption
    | with_reducible apply keeps_msgMap
    | with_reducible apply Keeps.ite
    | (with_reducible apply Keeps.upd; with_reducible first | assumption | apply keeps_msgMap | apply Keeps.ite)
    | (refine Keeps.pair (by assumption) ?_)
    | (refine Keeps.pair3 (by assumption) ?_)
    | (intro _ _ _)
    | (intro _ _)
    | (intro _)
    | split
    | dsimp only)

theorem keeps_dupCheck {s0 : State} (s : State) (f : MsgFrame) (h : Keeps s0 s) :
    Keeps s0 (State.dupCheck s f).2 := by
  unfold State.dupCheck
  try dsimp only
  repeat (first
    | with_reducible assumption
    | with_reducible apply keeps_msgMap
    | with_reducible apply keeps_bump
    | with_reducible apply Keeps.ite
    | (with_reducible apply Keeps.upd; with_reducible first | assumption | apply keeps_msgMap | apply keeps_bump | apply Keeps.ite)
    | (refine Keeps.pair (by assumption) ?_)
    | (refine Keeps.pair3 (by assumption) ?_)
    | (intro _ _ _)
    | (intro _ _)
    | (intro _)
    | split
    | dsimp only)

theorem keeps_execDupRecordLapse {s0 : State} (src : ℕ) (prio : ℕ) (s : State) (h : Keeps s0 s) :
    ∃ u, execDupRecordLapse src prio s = finish u ∧ Keeps s0 u := by
  refine ⟨_, rfl, ?_⟩
  try dsimp only
  repeat (first
    | with_reducible assumption
    | with_reducible apply keeps_msgMap
    | with_reducible apply Keeps.ite
    | (with_reducible apply Keeps.upd; with_reducible first | assumption | apply keeps_msgMap | apply Keeps.ite)
    | (refine Keeps.pair (by assumption) ?_)
    | (refine Keeps.pair3 (by assumption) ?_)
    | (intro _ _ _)
    | (intro _ _)
    | (intro _)
    | split
    | dsimp only)

theorem keeps_localDelivery {s0 : State} (s : State) (ch : ℕ) (f : MsgFrame) (acts : Bool) (h : Keeps s0 s) :
    Keeps s0 (State.localDelivery s ch f acts) := by
  unfold State.localDelivery
  try dsimp only
  repeat (first
    | with_reducible assumption
    | with_reducible apply keeps_deliver
    | with_reducible apply keeps_stackRelay
    | with_reducible apply keeps_deliverLegacy
    | with_reducible apply keeps_unroutable
    | with_reducible apply Keeps.ite
    | (with_reducible apply Keeps.upd; with_reducible first | assumption | apply keeps_deliver | apply keeps_stackRelay | apply keeps_deliverLegacy | apply keeps_unroutable | apply Keeps.ite)
    | (refine Keeps.pair (by assumption) ?_)
    | (refine Keeps.pair3 (by assumption) ?_)
    | (intro _ _ _)
    | (intro _ _)
    | (intro _)
    | split
    | dsimp only)

theorem keeps_forward {s0 : State} (s : State) (p : ℕ) (f : MsgFrame) (h : Keeps s0 s) :
    Keeps s0 (State.forward s p f) := by
  unfold State.forward
  try dsimp only
  repeat (first
    | with_reducible assumption
    | with_reducible apply keeps_enqueue
    | with_reducible apply Keeps.ite
    | (with_reducible apply Keeps.upd; with_reducible first | assumption | apply keeps_enqueue | apply Keeps.ite)
    | (refine Keeps.pair (by assumption) ?_)
    | (refine Keeps.pair3 (by assumption) ?_)
    | (intro _ _ _)
    | (intro _ _)
    | (intro _)
    | split
    | dsimp only)

theorem keeps_route {s0 : State} (s : State) (p : ℕ) (f : MsgFrame) (acts : Bool) (h : Keeps s0 s) :
    Keeps s0 (State.route s p f acts) := by
  unfold State.route
  try dsimp only
  repeat (first
    | with_reducible assumption
    | with_reducible apply keeps_dupCheck
    | with_reducible apply keeps_localDelivery
    | with_reducible apply keeps_forward
    | with_reducible apply keeps_unroutable
    | with_reducible apply Keeps.ite
    | (with_reducible apply Keeps.upd; with_reducible first | assumption | apply keeps_dupCheck | apply keeps_localDelivery | apply keeps_forward | apply keeps_unroutable | apply Keeps.ite)
    | (refine Keeps.pair (by assumption) ?_)
    | (refine Keeps.pair3 (by assumption) ?_)
    | (intro _ _ _)
    | (intro _ _)
    | (intro _)
    | split
    | dsimp only)

theorem keeps_msgReceive {s0 : State} (s : State) (p : ℕ) (f : MsgFrame) (groups : ℕ) (h : Keeps s0 s) :
    Keeps s0 (State.msgReceive s p f groups) := by
  unfold State.msgReceive
  try dsimp only
  repeat (first
    | with_reducible assumption
    | with_reducible apply keeps_police
    | with_reducible apply keeps_bump
    | with_reducible apply keeps_route
    | with_reducible apply Keeps.ite
    | (with_reducible apply Keeps.upd; with_reducible first | assumption | apply keeps_police | apply keeps_bump | apply keeps_route | apply Keeps.ite)
    | (refine Keeps.pair (by assumption) ?_)
    | (refine Keeps.pair3 (by assumption) ?_)
    | (intro _ _ _)
    | (intro _ _)
    | (intro _)
    | split
    | dsimp only)

theorem keeps_execMsgFrameReceive {s0 : State} (port : ℕ) (frame : MsgFrame) (codeGroups : ℕ) (s : State) (h : Keeps s0 s) :
    ∃ u, execMsgFrameReceive port frame codeGroups s = finish u ∧ Keeps s0 u := by
  refine ⟨_, rfl, ?_⟩
  try dsimp only
  repeat (first
    | with_reducible assumption
    | with_reducible apply keeps_msgReceive
    | with_reducible apply Keeps.ite
    | (with_reducible apply Keeps.upd; with_reducible first | assumption | apply keeps_msgReceive | apply Keeps.ite)
    | (refine Keeps.pair (by assumption) ?_)
    | (refine Keeps.pair3 (by assumption) ?_)
    | (intro _ _ _)
    | (intro _ _)
    | (intro _)
    | split
    | dsimp only)

theorem keeps_dropQueued {s0 : State} (s : State) (p : Queued → Bool) (h : Keeps s0 s) :
    Keeps s0 (State.dropQueued s p) := by
  unfold State.dropQueued
  try dsimp only
  repeat (first
    | with_reducible assumption
    | with_reducible apply keeps_msgMap
    | with_reducible apply Keeps.ite
    | (with_reducible apply Keeps.upd; with_reducible first | assumption | apply keeps_msgMap | apply Keeps.ite)
    | (refine Keeps.pair (by assumption) ?_)
    | (refine Keeps.pair3 (by assumption) ?_)
    | (intro _ _ _)
    | (intro _ _)
    | (intro _)
    | split
    | dsimp only)

theorem keeps_reform {s0 : State} (s : State) (q : Queued) (h : Keeps s0 s) :
    Keeps s0 (State.reform s q) := by
  unfold State.reform
  try dsimp only
  repeat (first
    | with_reducible assumption
    | with_reducible apply keeps_routeOwn
    | with_reducible apply keeps_authFail
    | with_reducible apply keeps_takeIv
    | with_reducible apply keeps_exhaustKeys
    | with_reducible apply Keeps.ite
    | (with_reducible apply Keeps.upd; with_reducible first | assumption | apply keeps_routeOwn | apply keeps_authFail | apply keeps_takeIv | apply keeps_exhaustKeys | apply Keeps.ite)
    | (refine Keeps.pair (by assumption) ?_)
    | (refine Keeps.pair3 (by assumption) ?_)
    | (intro _ _ _)
    | (intro _ _)
    | (intro _)
    | split
    | dsimp only)

theorem keeps_returnFrame {s0 : State} (s : State) (q : Queued) (h : Keeps s0 s) :
    Keeps s0 (State.returnFrame s q) := by
  unfold State.returnFrame
  try dsimp only
  repeat (first
    | with_reducible assumption
    | with_reducible apply keeps_msgMap
    | with_reducible apply keeps_reform
    | with_reducible apply Keeps.ite
    | (with_reducible apply Keeps.upd; with_reducible first | assumption | apply keeps_msgMap | apply keeps_reform | apply Keeps.ite)
    | (refine Keeps.pair (by assumption) ?_)
    | (refine Keeps.pair3 (by assumption) ?_)
    | (intro _ _ _)
    | (intro _ _)
    | (intro _)
    | split
    | dsimp only)

theorem keeps_releaseReturned {s0 : State} (s : State) (h : Keeps s0 s) :
    Keeps s0 (State.releaseReturned s) := by
  unfold State.releaseReturned
  try dsimp only
  repeat (first
    | with_reducible assumption
    | with_reducible apply keeps_returnFrame
    | with_reducible apply keeps_msgMap
    | with_reducible apply Keeps.ite
    | (with_reducible apply Keeps.foldl; intro _ _ _)
    | (with_reducible apply Keeps.upd; with_reducible first | assumption | apply keeps_returnFrame | apply keeps_msgMap | apply Keeps.ite | (apply Keeps.foldl; intro _ _ _))
    | (refine Keeps.pair (by assumption) ?_)
    | (refine Keeps.pair3 (by assumption) ?_)
    | (intro _ _ _)
    | (intro _ _)
    | (intro _)
    | split
    | dsimp only)

theorem keeps_msgCommit {s0 : State} (s : State) (kept : Bool) (prev : ℕ) (cont : ℕ → Bool) (h : Keeps s0 s) :
    Keeps s0 (State.msgCommit s kept prev cont) := by
  unfold State.msgCommit
  try dsimp only
  repeat (first
    | with_reducible assumption
    | with_reducible apply keeps_msgMap
    | with_reducible apply keeps_add
    | with_reducible apply keeps_dropQueued
    | with_reducible apply keeps_msgDropped
    | with_reducible apply keeps_returnFrame
    | with_reducible apply Keeps.ite
    | (with_reducible apply Keeps.foldl; intro _ _ _)
    | (with_reducible apply Keeps.upd; with_reducible first | assumption | apply keeps_msgMap | apply keeps_add | apply keeps_dropQueued | apply keeps_msgDropped | apply keeps_returnFrame | apply Keeps.ite | (apply Keeps.foldl; intro _ _ _))
    | (refine Keeps.pair (by assumption) ?_)
    | (refine Keeps.pair3 (by assumption) ?_)
    | (intro _ _ _)
    | (intro _ _)
    | (intro _)
    | split
    | dsimp only)

theorem keeps_reformQueued {s0 : State} (s : State) (h : Keeps s0 s) :
    Keeps s0 (State.reformQueued s) := by
  unfold State.reformQueued
  try dsimp only
  repeat (first
    | with_reducible assumption
    | with_reducible apply keeps_reform
    | with_reducible apply keeps_dropQueued
    | with_reducible apply Keeps.ite
    | (with_reducible apply Keeps.foldl; intro _ _ _)
    | (with_reducible apply Keeps.upd; with_reducible first | assumption | apply keeps_reform | apply keeps_dropQueued | apply Keeps.ite | (apply Keeps.foldl; intro _ _ _))
    | (refine Keeps.pair (by assumption) ?_)
    | (refine Keeps.pair3 (by assumption) ?_)
    | (intro _ _ _)
    | (intro _ _)
    | (intro _)
    | split
    | dsimp only)

end Sys2Proof.Machine
end

