-- ==== Sys2Proof/Laws/KeepsCycle.lean ====
section
/-! SUPPORT. The operations of `Sys2Proof/Machine/Cycle.lean` keep what `Keeps` names. -/

set_option linter.unusedTactic false
set_option linter.unreachableTactic false

namespace Sys2Proof.Machine

theorem keeps_latchFrame {s0 : State} (s : State) (cycle : ℕ) (h : Keeps s0 s) :
    Keeps s0 (State.latchFrame s cycle) := by
  unfold State.latchFrame
  try dsimp only
  repeat (first
    | with_reducible assumption
    | with_reducible apply keeps_cycMap
    | with_reducible apply Keeps.ite
    | (with_reducible apply Keeps.upd; with_reducible first | assumption | apply keeps_cycMap | apply Keeps.ite)
    | (refine Keeps.pair (by assumption) ?_)
    | (refine Keeps.pair3 (by assumption) ?_)
    | (intro _ _ _)
    | (intro _ _)
    | (intro _)
    | split
    | dsimp only)

theorem keeps_commitArea {s0 : State} (f : CycleFrame) (m : SlotMap) (s : State) (q : ℕ) (h : Keeps s0 s) :
    Keeps s0 (State.commitArea f m s q) := by
  unfold State.commitArea
  try dsimp only
  repeat (first
    | with_reducible assumption
    | with_reducible apply keeps_cycMap
    | with_reducible apply keeps_offer
    | with_reducible apply Keeps.ite
    | (with_reducible apply Keeps.upd; with_reducible first | assumption | apply keeps_cycMap | apply keeps_offer | apply Keeps.ite)
    | (refine Keeps.pair (by assumption) ?_)
    | (refine Keeps.pair3 (by assumption) ?_)
    | (intro _ _ _)
    | (intro _ _)
    | (intro _)
    | split
    | dsimp only)

theorem keeps_copyChecked {s0 : State} (s : State) (ok : Bool) (h : Keeps s0 s) :
    Keeps s0 (State.copyChecked s ok) := by
  unfold State.copyChecked
  try dsimp only
  repeat (first
    | with_reducible assumption
    | with_reducible apply keeps_cycMap
    | with_reducible apply keeps_set
    | with_reducible apply keeps_bump
    | with_reducible apply Keeps.ite
    | (with_reducible apply Keeps.upd; with_reducible first | assumption | apply keeps_cycMap | apply keeps_set | apply keeps_bump | apply Keeps.ite)
    | (refine Keeps.pair (by assumption) ?_)
    | (refine Keeps.pair3 (by assumption) ?_)
    | (intro _ _ _)
    | (intro _ _)
    | (intro _)
    | split
    | dsimp only)

theorem keeps_copyVerified {s0 : State} (s : State) (f : CycleFrame) (m : Option SlotMap) (qs : List ℕ) (h : Keeps s0 s) :
    Keeps s0 (State.copyVerified s f m qs) := by
  unfold State.copyVerified
  try dsimp only
  repeat (first
    | with_reducible assumption
    | with_reducible apply keeps_takeFrameEpoch
    | with_reducible apply keeps_commitArea
    | with_reducible apply Keeps.ite
    | (with_reducible apply Keeps.foldl; intro _ _ _)
    | (with_reducible apply Keeps.upd; with_reducible first | assumption | apply keeps_takeFrameEpoch | apply keeps_commitArea | apply Keeps.ite | (apply Keeps.foldl; intro _ _ _))
    | (refine Keeps.pair (by assumption) ?_)
    | (refine Keeps.pair3 (by assumption) ?_)
    | (intro _ _ _)
    | (intro _ _)
    | (intro _)
    | split
    | dsimp only)

theorem keeps_sendOutbound {s0 : State} (s : State) (p : ℕ) (f : CycleFrame) (tx : ℤ) (aborted : Bool) (h : Keeps s0 s) :
    Keeps s0 (State.sendOutbound s p f tx aborted) := by
  unfold State.sendOutbound
  try dsimp only
  repeat (first
    | with_reducible assumption
    | with_reducible apply keeps_emit
    | with_reducible apply keeps_abortSending
    | with_reducible apply keeps_portMap
    | with_reducible apply Keeps.ite
    | (with_reducible apply Keeps.upd; with_reducible first | assumption | apply keeps_emit | apply keeps_abortSending | apply keeps_portMap | apply Keeps.ite)
    | (refine Keeps.pair (by assumption) ?_)
    | (refine Keeps.pair3 (by assumption) ?_)
    | (intro _ _ _)
    | (intro _ _)
    | (intro _)
    | split
    | dsimp only)

theorem keeps_emitLine {s0 : State} (s : State) (p : ℕ) (late : ℤ) (h : Keeps s0 s) :
    Keeps s0 (State.emitLine s p late) := by
  unfold State.emitLine
  try dsimp only
  repeat (first
    | with_reducible assumption
    | with_reducible apply keeps_cycTrailer
    | with_reducible apply keeps_sendOutbound
    | with_reducible apply Keeps.ite
    | (with_reducible apply Keeps.upd; with_reducible first | assumption | apply keeps_cycTrailer | apply keeps_sendOutbound | apply Keeps.ite)
    | (refine Keeps.pair (by assumption) ?_)
    | (refine Keeps.pair3 (by assumption) ?_)
    | (intro _ _ _)
    | (intro _ _)
    | (intro _)
    | split
    | dsimp only)

theorem keeps_emitCycle {s0 : State} (s : State) (lateA : ℤ) (lateB : ℤ) (h : Keeps s0 s) :
    Keeps s0 (State.emitCycle s lateA lateB) := by
  unfold State.emitCycle
  try dsimp only
  repeat (first
    | with_reducible assumption
    | with_reducible apply keeps_useMap
    | with_reducible apply keeps_latchFrame
    | with_reducible apply keeps_emitLine
    | with_reducible apply keeps_load
    | with_reducible apply keeps_cycMap
    | with_reducible apply keeps_inaTrigger
    | with_reducible apply Keeps.ite
    | (with_reducible apply Keeps.upd; with_reducible first | assumption | apply keeps_useMap | apply keeps_latchFrame | apply keeps_emitLine | apply keeps_load | apply keeps_cycMap | apply keeps_inaTrigger | apply Keeps.ite)
    | (refine Keeps.pair (by assumption) ?_)
    | (refine Keeps.pair3 (by assumption) ?_)
    | (intro _ _ _)
    | (intro _ _)
    | (intro _)
    | split
    | dsimp only)

theorem keeps_execCycleFrameEmit {s0 : State} (lateA : ℤ) (lateB : ℤ) (s : State) (h : Keeps s0 s) :
    ∃ u, execCycleFrameEmit lateA lateB s = finish u ∧ Keeps s0 u := by
  refine ⟨_, rfl, ?_⟩
  try dsimp only
  repeat (first
    | with_reducible assumption
    | with_reducible apply keeps_emitCycle
    | with_reducible apply Keeps.ite
    | (with_reducible apply Keeps.upd; with_reducible first | assumption | apply keeps_emitCycle | apply Keeps.ite)
    | (refine Keeps.pair (by assumption) ?_)
    | (refine Keeps.pair3 (by assumption) ?_)
    | (intro _ _ _)
    | (intro _ _)
    | (intro _)
    | split
    | dsimp only)

theorem keeps_checkHeader {s0 : State} (s : State) (p : ℕ) (f : CycleFrame) (outbound : Bool) (h : Keeps s0 s) :
    Keeps s0 (State.checkHeader s p f outbound).2 := by
  unfold State.checkHeader
  try dsimp only
  repeat (first
    | with_reducible assumption
    | with_reducible apply keeps_bump
    | with_reducible apply Keeps.ite
    | (with_reducible apply Keeps.upd; with_reducible first | assumption | apply keeps_bump | apply Keeps.ite)
    | (refine Keeps.pair (by assumption) ?_)
    | (refine Keeps.pair3 (by assumption) ?_)
    | (intro _ _ _)
    | (intro _ _)
    | (intro _)
    | split
    | dsimp only)

theorem keeps_noteHeader {s0 : State} (s : State) (f : CycleFrame) (h : Keeps s0 s) :
    Keeps s0 (State.noteHeader s f) := by
  unfold State.noteHeader
  try dsimp only
  repeat (first
    | with_reducible assumption
    | with_reducible apply keeps_set
    | with_reducible apply keeps_load
    | with_reducible apply Keeps.ite
    | (with_reducible apply Keeps.upd; with_reducible first | assumption | apply keeps_set | apply keeps_load | apply Keeps.ite)
    | (refine Keeps.pair (by assumption) ?_)
    | (refine Keeps.pair3 (by assumption) ?_)
    | (intro _ _ _)
    | (intro _ _)
    | (intro _)
    | split
    | dsimp only)

theorem keeps_firstHeader {s0 : State} (s : State) (f : CycleFrame) (rx : ℤ) (h : Keeps s0 s) :
    Keeps s0 (State.firstHeader s f rx) := by
  unfold State.firstHeader
  try dsimp only
  repeat (first
    | with_reducible assumption
    | with_reducible apply keeps_cycMap
    | with_reducible apply keeps_latchFrame
    | with_reducible apply keeps_noteHeader
    | with_reducible apply keeps_set
    | with_reducible apply keeps_useMap
    | with_reducible apply Keeps.ite
    | (with_reducible apply Keeps.upd; with_reducible first | assumption | apply keeps_cycMap | apply keeps_latchFrame | apply keeps_noteHeader | apply keeps_set | apply keeps_useMap | apply Keeps.ite)
    | (refine Keeps.pair (by assumption) ?_)
    | (refine Keeps.pair3 (by assumption) ?_)
    | (intro _ _ _)
    | (intro _ _)
    | (intro _)
    | split
    | dsimp only)

theorem keeps_takeHeader {s0 : State} (s : State) (f : CycleFrame) (rx : ℤ) (h : Keeps s0 s) :
    Keeps s0 (State.takeHeader s f rx) := by
  unfold State.takeHeader
  try dsimp only
  repeat (first
    | with_reducible assumption
    | with_reducible apply keeps_firstHeader
    | with_reducible apply Keeps.ite
    | (with_reducible apply Keeps.upd; with_reducible first | assumption | apply keeps_firstHeader | apply Keeps.ite)
    | (refine Keeps.pair (by assumption) ?_)
    | (refine Keeps.pair3 (by assumption) ?_)
    | (intro _ _ _)
    | (intro _ _)
    | (intro _)
    | split
    | dsimp only)

theorem keeps_sendReport {s0 : State} (s : State) (p : ℕ) (t3 : ℤ) (h : Keeps s0 s) :
    Keeps s0 (State.sendReport s p t3) := by
  unfold State.sendReport
  try dsimp only
  repeat (first
    | with_reducible assumption
    | with_reducible apply keeps_portMap
    | with_reducible apply keeps_emit
    | with_reducible apply Keeps.ite
    | (with_reducible apply Keeps.upd; with_reducible first | assumption | apply keeps_portMap | apply keeps_emit | apply Keeps.ite)
    | (refine Keeps.pair (by assumption) ?_)
    | (refine Keeps.pair3 (by assumption) ?_)
    | (intro _ _ _)
    | (intro _ _)
    | (intro _)
    | split
    | dsimp only)

theorem keeps_noteSample {s0 : State} (s : State) (p : ℕ) (f : CycleFrame) (rx : ℤ) (h : Keeps s0 s) :
    Keeps s0 (State.noteSample s p f rx) := by
  unfold State.noteSample
  try dsimp only
  repeat (first
    | with_reducible assumption
    | with_reducible apply keeps_timMap
    | with_reducible apply Keeps.ite
    | (with_reducible apply Keeps.upd; with_reducible first | assumption | apply keeps_timMap | apply Keeps.ite)
    | (refine Keeps.pair (by assumption) ?_)
    | (refine Keeps.pair3 (by assumption) ?_)
    | (intro _ _ _)
    | (intro _ _)
    | (intro _)
    | split
    | dsimp only)

theorem keeps_passOn {s0 : State} (s : State) (p : ℕ) (f : CycleFrame) (t0 : Topology) (rx : ℤ) (tx : ℤ) (write : Bool) (aborted : Bool) (h : Keeps s0 s) :
    Keeps s0 (State.passOn s p f t0 rx tx write aborted) := by
  unfold State.passOn
  try dsimp only
  repeat (first
    | with_reducible assumption
    | with_reducible apply keeps_cycRetag
    | with_reducible apply keeps_portMap
    | with_reducible apply keeps_cycMap
    | with_reducible apply keeps_sendReport
    | with_reducible apply keeps_emit
    | with_reducible apply keeps_abortSending
    | with_reducible apply keeps_sendOutbound
    | with_reducible apply Keeps.ite
    | (with_reducible apply Keeps.upd; with_reducible first | assumption | apply keeps_cycRetag | apply keeps_portMap | apply keeps_cycMap | apply keeps_sendReport | apply keeps_emit | apply keeps_abortSending | apply keeps_sendOutbound | apply Keeps.ite)
    | (refine Keeps.pair (by assumption) ?_)
    | (refine Keeps.pair3 (by assumption) ?_)
    | (intro _ _ _)
    | (intro _ _)
    | (intro _)
    | split
    | dsimp only)

theorem keeps_cycleOutbound {s0 : State} (s : State) (p : ℕ) (f : CycleFrame) (rx : ℤ) (tx : ℤ) (errorAt : Option ℕ) (h : Keeps s0 s) :
    Keeps s0 (State.cycleOutbound s p f rx tx errorAt) := by
  unfold State.cycleOutbound
  try dsimp only
  repeat (first
    | with_reducible assumption
    | with_reducible apply keeps_checkHeader
    | with_reducible apply keeps_takeHeader
    | with_reducible apply keeps_bump
    | with_reducible apply keeps_passOn
    | with_reducible apply keeps_copyChecked
    | with_reducible apply keeps_cycMap
    | with_reducible apply keeps_noteSample
    | with_reducible apply keeps_copyVerified
    | with_reducible apply Keeps.ite
    | (with_reducible apply Keeps.upd; with_reducible first | assumption | apply keeps_checkHeader | apply keeps_takeHeader | apply keeps_bump | apply keeps_passOn | apply keeps_copyChecked | apply keeps_cycMap | apply keeps_noteSample | apply keeps_copyVerified | apply Keeps.ite)
    | (refine Keeps.pair (by assumption) ?_)
    | (refine Keeps.pair3 (by assumption) ?_)
    | (intro _ _ _)
    | (intro _ _)
    | (intro _)
    | split
    | dsimp only)

theorem keeps_execCycleFrameOutbound {s0 : State} (port : ℕ) (frame : CycleFrame) (rx : ℤ) (tx : ℤ) (errorAt : Option ℕ) (s : State) (h : Keeps s0 s) :
    ∃ u, execCycleFrameOutbound port frame rx tx errorAt s = finish u ∧ Keeps s0 u := by
  refine ⟨_, rfl, ?_⟩
  try dsimp only
  repeat (first
    | with_reducible assumption
    | with_reducible apply keeps_cycleOutbound
    | with_reducible apply Keeps.ite
    | (with_reducible apply Keeps.upd; with_reducible first | assumption | apply keeps_cycleOutbound | apply Keeps.ite)
    | (refine Keeps.pair (by assumption) ?_)
    | (refine Keeps.pair3 (by assumption) ?_)
    | (intro _ _ _)
    | (intro _ _)
    | (intro _)
    | split
    | dsimp only)

theorem keeps_passBack {s0 : State} (s : State) (p : ℕ) (f : CycleFrame) (rx : ℤ) (tx : ℤ) (aborted : Bool) (h : Keeps s0 s) :
    Keeps s0 (State.passBack s p f rx tx aborted) := by
  unfold State.passBack
  try dsimp only
  repeat (first
    | with_reducible assumption
    | with_reducible apply keeps_portMap
    | with_reducible apply keeps_sendReport
    | with_reducible apply keeps_emit
    | with_reducible apply keeps_abortSending
    | with_reducible apply Keeps.ite
    | (with_reducible apply Keeps.upd; with_reducible first | assumption | apply keeps_portMap | apply keeps_sendReport | apply keeps_emit | apply keeps_abortSending | apply Keeps.ite)
    | (refine Keeps.pair (by assumption) ?_)
    | (refine Keeps.pair3 (by assumption) ?_)
    | (intro _ _ _)
    | (intro _ _)
    | (intro _)
    | split
    | dsimp only)

theorem keeps_shadowFrame {s0 : State} (s : State) (f : CycleFrame) (h : Keeps s0 s) :
    Keeps s0 (State.shadowFrame s f) := by
  unfold State.shadowFrame
  try dsimp only
  repeat (first
    | with_reducible assumption
    | with_reducible apply keeps_cycMap
    | with_reducible apply keeps_noteHeader
    | with_reducible apply keeps_latchFrame
    | with_reducible apply Keeps.ite
    | (with_reducible apply Keeps.upd; with_reducible first | assumption | apply keeps_cycMap | apply keeps_noteHeader | apply keeps_latchFrame | apply Keeps.ite)
    | (refine Keeps.pair (by assumption) ?_)
    | (refine Keeps.pair3 (by assumption) ?_)
    | (intro _ _ _)
    | (intro _ _)
    | (intro _)
    | split
    | dsimp only)

theorem keeps_cycleInbound {s0 : State} (s : State) (p : ℕ) (f : CycleFrame) (rx : ℤ) (tx : ℤ) (errorAt : Option ℕ) (h : Keeps s0 s) :
    Keeps s0 (State.cycleInbound s p f rx tx errorAt) := by
  unfold State.cycleInbound
  try dsimp only
  repeat (first
    | with_reducible assumption
    | with_reducible apply keeps_checkHeader
    | with_reducible apply keeps_passBack
    | with_reducible apply keeps_shadowFrame
    | with_reducible apply keeps_cycMap
    | with_reducible apply keeps_bump
    | with_reducible apply keeps_copyChecked
    | with_reducible apply keeps_copyVerified
    | with_reducible apply Keeps.ite
    | (with_reducible apply Keeps.upd; with_reducible first | assumption | apply keeps_checkHeader | apply keeps_passBack | apply keeps_shadowFrame | apply keeps_cycMap | apply keeps_bump | apply keeps_copyChecked | apply keeps_copyVerified | apply Keeps.ite)
    | (refine Keeps.pair (by assumption) ?_)
    | (refine Keeps.pair3 (by assumption) ?_)
    | (intro _ _ _)
    | (intro _ _)
    | (intro _)
    | split
    | dsimp only)

theorem keeps_execCycleFrameInbound {s0 : State} (port : ℕ) (frame : CycleFrame) (rx : ℤ) (tx : ℤ) (errorAt : Option ℕ) (s : State) (h : Keeps s0 s) :
    ∃ u, execCycleFrameInbound port frame rx tx errorAt s = finish u ∧ Keeps s0 u := by
  refine ⟨_, rfl, ?_⟩
  try dsimp only
  repeat (first
    | with_reducible assumption
    | with_reducible apply keeps_cycleInbound
    | with_reducible apply Keeps.ite
    | (with_reducible apply Keeps.upd; with_reducible first | assumption | apply keeps_cycleInbound | apply Keeps.ite)
    | (refine Keeps.pair (by assumption) ?_)
    | (refine Keeps.pair3 (by assumption) ?_)
    | (intro _ _ _)
    | (intro _ _)
    | (intro _)
    | split
    | dsimp only)

theorem keeps_takeInbox {s0 : State} (s : State) (f : MsgFrame) (h : Keeps s0 s) :
    Keeps s0 (State.takeInbox s f) := by
  unfold State.takeInbox
  try dsimp only
  repeat (first
    | with_reducible assumption
    | with_reducible apply keeps_msgMap
    | with_reducible apply Keeps.ite
    | (with_reducible apply Keeps.upd; with_reducible first | assumption | apply keeps_msgMap | apply Keeps.ite)
    | (refine Keeps.pair (by assumption) ?_)
    | (refine Keeps.pair3 (by assumption) ?_)
    | (intro _ _ _)
    | (intro _ _)
    | (intro _)
    | split
    | dsimp only)

theorem keeps_cmdDeclare {s0 : State} (a : ℕ) (t : State) (h : Keeps s0 t) :
    Keeps s0 ((cmdDeclare ).run a t) := by
  unfold cmdDeclare
  try dsimp only
  repeat (first
    | with_reducible assumption
    | with_reducible apply keeps_sendDecl
    | with_reducible apply Keeps.ite
    | (with_reducible apply Keeps.upd; with_reducible first | assumption | apply keeps_sendDecl | apply Keeps.ite)
    | (refine Keeps.pair (by assumption) ?_)
    | (refine Keeps.pair3 (by assumption) ?_)
    | (intro _ _ _)
    | (intro _ _)
    | (intro _)
    | split
    | dsimp only)

theorem keeps_execDeclare {s0 : State} (path : Path) (arg : ℕ) (s : State) (h : Keeps s0 s) :
    ∃ u, execDeclare path arg s = finish u ∧ Keeps s0 u := by
  refine ⟨_, rfl, ?_⟩
  try dsimp only
  repeat (first
    | with_reducible assumption
    | with_reducible apply keeps_command
    | with_reducible apply keeps_cmdDeclare
    | with_reducible apply Keeps.ite
    | (with_reducible apply Keeps.upd; with_reducible first | assumption | apply keeps_command | apply keeps_cmdDeclare | apply Keeps.ite)
    | (refine Keeps.pair (by assumption) ?_)
    | (refine Keeps.pair3 (by assumption) ?_)
    | (intro _ _ _)
    | (intro _ _)
    | (intro _)
    | split
    | dsimp only)

theorem keeps_execSlotDeclRepeat {s0 : State} (s : State) (h : Keeps s0 s) :
    ∃ u, execSlotDeclRepeat s = finish u ∧ Keeps s0 u := by
  refine ⟨_, rfl, ?_⟩
  try dsimp only
  repeat (first
    | with_reducible assumption
    | with_reducible apply keeps_sendDecl
    | with_reducible apply Keeps.ite
    | (with_reducible apply Keeps.upd; with_reducible first | assumption | apply keeps_sendDecl | apply Keeps.ite)
    | (refine Keeps.pair (by assumption) ?_)
    | (refine Keeps.pair3 (by assumption) ?_)
    | (intro _ _ _)
    | (intro _ _)
    | (intro _)
    | split
    | dsimp only)

theorem keeps_slotDecl {s0 : State} (s : State) (f : MsgFrame) (h : Keeps s0 s) :
    Keeps s0 (State.slotDecl s f) := by
  unfold State.slotDecl
  try dsimp only
  repeat (first
    | with_reducible assumption
    | with_reducible apply keeps_takeInbox
    | with_reducible apply keeps_bump
    | with_reducible apply keeps_takeDecl
    | with_reducible apply Keeps.ite
    | (with_reducible apply Keeps.upd; with_reducible first | assumption | apply keeps_takeInbox | apply keeps_bump | apply keeps_takeDecl | apply Keeps.ite)
    | (refine Keeps.pair (by assumption) ?_)
    | (refine Keeps.pair3 (by assumption) ?_)
    | (intro _ _ _)
    | (intro _ _)
    | (intro _)
    | split
    | dsimp only)

theorem keeps_execSlotDeclReceive {s0 : State} (frame : MsgFrame) (s : State) (h : Keeps s0 s) :
    ∃ u, execSlotDeclReceive frame s = finish u ∧ Keeps s0 u := by
  refine ⟨_, rfl, ?_⟩
  try dsimp only
  repeat (first
    | with_reducible assumption
    | with_reducible apply keeps_slotDecl
    | with_reducible apply Keeps.ite
    | (with_reducible apply Keeps.upd; with_reducible first | assumption | apply keeps_slotDecl | apply Keeps.ite)
    | (refine Keeps.pair (by assumption) ?_)
    | (refine Keeps.pair3 (by assumption) ?_)
    | (intro _ _ _)
    | (intro _ _)
    | (intro _)
    | split
    | dsimp only)

theorem keeps_slotMap {s0 : State} (s : State) (f : MsgFrame) (h : Keeps s0 s) :
    Keeps s0 (State.slotMap s f) := by
  unfold State.slotMap
  try dsimp only
  repeat (first
    | with_reducible assumption
    | with_reducible apply keeps_takeInbox
    | with_reducible apply keeps_holdMap
    | with_reducible apply keeps_cycMap
    | with_reducible apply Keeps.ite
    | (with_reducible apply Keeps.upd; with_reducible first | assumption | apply keeps_takeInbox | apply keeps_holdMap | apply keeps_cycMap | apply Keeps.ite)
    | (refine Keeps.pair (by assumption) ?_)
    | (refine Keeps.pair3 (by assumption) ?_)
    | (intro _ _ _)
    | (intro _ _)
    | (intro _)
    | split
    | dsimp only)

theorem keeps_execSlotMapReceive {s0 : State} (frame : MsgFrame) (s : State) (h : Keeps s0 s) :
    ∃ u, execSlotMapReceive frame s = finish u ∧ Keeps s0 u := by
  refine ⟨_, rfl, ?_⟩
  try dsimp only
  repeat (first
    | with_reducible assumption
    | with_reducible apply keeps_slotMap
    | with_reducible apply Keeps.ite
    | (with_reducible apply Keeps.upd; with_reducible first | assumption | apply keeps_slotMap | apply Keeps.ite)
    | (refine Keeps.pair (by assumption) ?_)
    | (refine Keeps.pair3 (by assumption) ?_)
    | (intro _ _ _)
    | (intro _ _)
    | (intro _)
    | split
    | dsimp only)

theorem keeps_execMapRepeat {s0 : State} (s : State) (h : Keeps s0 s) :
    ∃ u, execMapRepeat s = finish u ∧ Keeps s0 u := by
  refine ⟨_, rfl, ?_⟩
  try dsimp only
  repeat (first
    | with_reducible assumption
    | with_reducible apply keeps_reissueMap
    | with_reducible apply Keeps.ite
    | (with_reducible apply Keeps.upd; with_reducible first | assumption | apply keeps_reissueMap | apply Keeps.ite)
    | (refine Keeps.pair (by assumption) ?_)
    | (refine Keeps.pair3 (by assumption) ?_)
    | (intro _ _ _)
    | (intro _ _)
    | (intro _)
    | split
    | dsimp only)

theorem keeps_cmdMapReissue {s0 : State} (a : ℕ) (t : State) (h : Keeps s0 t) :
    Keeps s0 ((cmdMapReissue ).run a t) := by
  unfold cmdMapReissue
  try dsimp only
  repeat (first
    | with_reducible assumption
    | with_reducible apply keeps_reissueMap
    | with_reducible apply Keeps.ite
    | (with_reducible apply Keeps.upd; with_reducible first | assumption | apply keeps_reissueMap | apply Keeps.ite)
    | (refine Keeps.pair (by assumption) ?_)
    | (refine Keeps.pair3 (by assumption) ?_)
    | (intro _ _ _)
    | (intro _ _)
    | (intro _)
    | split
    | dsimp only)

theorem keeps_execMapReissue {s0 : State} (path : Path) (arg : ℕ) (s : State) (h : Keeps s0 s) :
    ∃ u, execMapReissue path arg s = finish u ∧ Keeps s0 u := by
  refine ⟨_, rfl, ?_⟩
  try dsimp only
  repeat (first
    | with_reducible assumption
    | with_reducible apply keeps_command
    | with_reducible apply keeps_cmdMapReissue
    | with_reducible apply Keeps.ite
    | (with_reducible apply Keeps.upd; with_reducible first | assumption | apply keeps_command | apply keeps_cmdMapReissue | apply Keeps.ite)
    | (refine Keeps.pair (by assumption) ?_)
    | (refine Keeps.pair3 (by assumption) ?_)
    | (intro _ _ _)
    | (intro _ _)
    | (intro _)
    | split
    | dsimp only)

end Sys2Proof.Machine
end

