-- ==== Sys2Proof/Laws/KeepsTime.lean ====
section
/-! SUPPORT. The operations of `Sys2Proof/Machine/Time.lean` keep what `Keeps` names. -/

set_option linter.unusedTactic false
set_option linter.unreachableTactic false

namespace Sys2Proof.Machine

theorem keeps_execHoldoverEntry {s0 : State} (s : State) (h : Keeps s0 s) :
    ∃ u, execHoldoverEntry s = finish u ∧ Keeps s0 u := by
  refine ⟨_, rfl, ?_⟩
  try dsimp only
  repeat (first
    | with_reducible assumption
    | with_reducible apply keeps_setTimState
    | with_reducible apply Keeps.ite
    | (with_reducible apply Keeps.upd; with_reducible first | assumption | apply keeps_setTimState | apply Keeps.ite)
    | (refine Keeps.pair (by assumption) ?_)
    | (refine Keeps.pair3 (by assumption) ?_)
    | (intro _ _ _)
    | (intro _ _)
    | (intro _)
    | split
    | dsimp only)

theorem keeps_execHoldoverExpiry {s0 : State} (s : State) (h : Keeps s0 s) :
    ∃ u, execHoldoverExpiry s = finish u ∧ Keeps s0 u := by
  refine ⟨_, rfl, ?_⟩
  try dsimp only
  repeat (first
    | with_reducible assumption
    | with_reducible apply keeps_assertLine
    | with_reducible apply keeps_load
    | with_reducible apply Keeps.ite
    | (with_reducible apply Keeps.upd; with_reducible first | assumption | apply keeps_assertLine | apply keeps_load | apply Keeps.ite)
    | (refine Keeps.pair (by assumption) ?_)
    | (refine Keeps.pair3 (by assumption) ?_)
    | (intro _ _ _)
    | (intro _ _)
    | (intro _)
    | split
    | dsimp only)

theorem keeps_reformPps {s0 : State} (s : State) (h : Keeps s0 s) :
    Keeps s0 (State.reformPps s) := by
  unfold State.reformPps
  try dsimp only
  repeat (first
    | with_reducible assumption
    | with_reducible apply keeps_reformRate
    | with_reducible apply Keeps.ite
    | (with_reducible apply Keeps.upd; with_reducible first | assumption | apply keeps_reformRate | apply Keeps.ite)
    | (refine Keeps.pair (by assumption) ?_)
    | (refine Keeps.pair3 (by assumption) ?_)
    | (intro _ _ _)
    | (intro _ _)
    | (intro _)
    | split
    | dsimp only)

theorem keeps_steerPps {s0 : State} (s : State) (t0 : ℤ) (h : Keeps s0 s) :
    Keeps s0 (State.steerPps s t0) := by
  unfold State.steerPps
  try dsimp only
  repeat (first
    | with_reducible assumption
    | with_reducible apply keeps_timMap
    | with_reducible apply keeps_reformPps
    | with_reducible apply keeps_timJump
    | with_reducible apply Keeps.ite
    | (with_reducible apply Keeps.upd; with_reducible first | assumption | apply keeps_timMap | apply keeps_reformPps | apply keeps_timJump | apply Keeps.ite)
    | (refine Keeps.pair (by assumption) ?_)
    | (refine Keeps.pair3 (by assumption) ?_)
    | (intro _ _ _)
    | (intro _ _)
    | (intro _)
    | split
    | dsimp only)

theorem keeps_ppsIn {s0 : State} (s : State) (t0 : ℤ) (h : Keeps s0 s) :
    Keeps s0 (State.ppsIn s t0) := by
  unfold State.ppsIn
  try dsimp only
  repeat (first
    | with_reducible assumption
    | with_reducible apply keeps_load
    | with_reducible apply keeps_showTime
    | with_reducible apply keeps_steerPps
    | with_reducible apply keeps_dropLine
    | with_reducible apply keeps_set
    | with_reducible apply Keeps.ite
    | (with_reducible apply Keeps.upd; with_reducible first | assumption | apply keeps_load | apply keeps_showTime | apply keeps_steerPps | apply keeps_dropLine | apply keeps_set | apply Keeps.ite)
    | (refine Keeps.pair (by assumption) ?_)
    | (refine Keeps.pair3 (by assumption) ?_)
    | (intro _ _ _)
    | (intro _ _)
    | (intro _)
    | split
    | dsimp only)

theorem keeps_execPpsInEdge {s0 : State} (t0 : ℤ) (s : State) (h : Keeps s0 s) :
    ∃ u, execPpsInEdge t0 s = finish u ∧ Keeps s0 u := by
  refine ⟨_, rfl, ?_⟩
  try dsimp only
  repeat (first
    | with_reducible assumption
    | with_reducible apply keeps_ppsIn
    | with_reducible apply Keeps.ite
    | (with_reducible apply Keeps.upd; with_reducible first | assumption | apply keeps_ppsIn | apply Keeps.ite)
    | (refine Keeps.pair (by assumption) ?_)
    | (refine Keeps.pair3 (by assumption) ?_)
    | (intro _ _ _)
    | (intro _ _)
    | (intro _)
    | split
    | dsimp only)

theorem keeps_execPpsInLost {s0 : State} (s : State) (h : Keeps s0 s) :
    ∃ u, execPpsInLost s = finish u ∧ Keeps s0 u := by
  refine ⟨_, rfl, ?_⟩
  try dsimp only
  repeat (first
    | with_reducible assumption
    | with_reducible apply keeps_assertLine
    | with_reducible apply keeps_load
    | with_reducible apply Keeps.ite
    | (with_reducible apply Keeps.upd; with_reducible first | assumption | apply keeps_assertLine | apply keeps_load | apply Keeps.ite)
    | (refine Keeps.pair (by assumption) ?_)
    | (refine Keeps.pair3 (by assumption) ?_)
    | (intro _ _ _)
    | (intro _ _)
    | (intro _)
    | split
    | dsimp only)

theorem keeps_ppsRise {s0 : State} (s : State) (h : Keeps s0 s) :
    Keeps s0 (State.ppsRise s) := by
  unfold State.ppsRise
  try dsimp only
  repeat (first
    | with_reducible assumption
    | with_reducible apply keeps_emit
    | with_reducible apply keeps_timMap
    | with_reducible apply Keeps.ite
    | (with_reducible apply Keeps.upd; with_reducible first | assumption | apply keeps_emit | apply keeps_timMap | apply Keeps.ite)
    | (refine Keeps.pair (by assumption) ?_)
    | (refine Keeps.pair3 (by assumption) ?_)
    | (intro _ _ _)
    | (intro _ _)
    | (intro _)
    | split
    | dsimp only)

theorem keeps_execPpsOutEdge {s0 : State} (s : State) (h : Keeps s0 s) :
    ∃ u, execPpsOutEdge s = finish u ∧ Keeps s0 u := by
  refine ⟨_, rfl, ?_⟩
  try dsimp only
  repeat (first
    | with_reducible assumption
    | with_reducible apply keeps_ppsRise
    | with_reducible apply Keeps.ite
    | (with_reducible apply Keeps.upd; with_reducible first | assumption | apply keeps_ppsRise | apply Keeps.ite)
    | (refine Keeps.pair (by assumption) ?_)
    | (refine Keeps.pair3 (by assumption) ?_)
    | (intro _ _ _)
    | (intro _ _)
    | (intro _)
    | split
    | dsimp only)

theorem keeps_execPpsOutPulseEnd {s0 : State} (s : State) (h : Keeps s0 s) :
    ∃ u, execPpsOutPulseEnd s = finish u ∧ Keeps s0 u := by
  refine ⟨_, rfl, ?_⟩
  try dsimp only
  repeat (first
    | with_reducible assumption
    | with_reducible apply keeps_emit
    | with_reducible apply keeps_timMap
    | with_reducible apply Keeps.ite
    | (with_reducible apply Keeps.upd; with_reducible first | assumption | apply keeps_emit | apply keeps_timMap | apply Keeps.ite)
    | (refine Keeps.pair (by assumption) ?_)
    | (refine Keeps.pair3 (by assumption) ?_)
    | (intro _ _ _)
    | (intro _ _)
    | (intro _)
    | split
    | dsimp only)

theorem keeps_cmdStep {s0 : State} (a : ℕ) (t : State) (h : Keeps s0 t) :
    Keeps s0 ((cmdStep ).run a t) := by
  unfold cmdStep
  try dsimp only
  repeat (first
    | with_reducible assumption
    | with_reducible apply keeps_timMap
    | with_reducible apply Keeps.ite
    | (with_reducible apply Keeps.upd; with_reducible first | assumption | apply keeps_timMap | apply Keeps.ite)
    | (refine Keeps.pair (by assumption) ?_)
    | (refine Keeps.pair3 (by assumption) ?_)
    | (intro _ _ _)
    | (intro _ _)
    | (intro _)
    | split
    | dsimp only)

theorem keeps_execStep {s0 : State} (path : Path) (arg : ℕ) (s : State) (h : Keeps s0 s) :
    ∃ u, execStep path arg s = finish u ∧ Keeps s0 u := by
  refine ⟨_, rfl, ?_⟩
  try dsimp only
  repeat (first
    | with_reducible assumption
    | with_reducible apply keeps_command
    | with_reducible apply keeps_cmdStep
    | with_reducible apply Keeps.ite
    | (with_reducible apply Keeps.upd; with_reducible first | assumption | apply keeps_command | apply keeps_cmdStep | apply Keeps.ite)
    | (refine Keeps.pair (by assumption) ?_)
    | (refine Keeps.pair3 (by assumption) ?_)
    | (intro _ _ _)
    | (intro _ _)
    | (intro _)
    | split
    | dsimp only)

theorem keeps_stepApply {s0 : State} (s : State) (h : Keeps s0 s) :
    Keeps s0 (State.stepApply s) := by
  unfold State.stepApply
  try dsimp only
  repeat (first
    | with_reducible assumption
    | with_reducible apply keeps_timMap
    | with_reducible apply keeps_timJump
    | with_reducible apply keeps_showTime
    | with_reducible apply keeps_load
    | with_reducible apply Keeps.ite
    | (with_reducible apply Keeps.upd; with_reducible first | assumption | apply keeps_timMap | apply keeps_timJump | apply keeps_showTime | apply keeps_load | apply Keeps.ite)
    | (refine Keeps.pair (by assumption) ?_)
    | (refine Keeps.pair3 (by assumption) ?_)
    | (intro _ _ _)
    | (intro _ _)
    | (intro _)
    | split
    | dsimp only)

theorem keeps_execStepApply {s0 : State} (s : State) (h : Keeps s0 s) :
    ∃ u, execStepApply s = finish u ∧ Keeps s0 u := by
  refine ⟨_, rfl, ?_⟩
  try dsimp only
  repeat (first
    | with_reducible assumption
    | with_reducible apply keeps_stepApply
    | with_reducible apply Keeps.ite
    | (with_reducible apply Keeps.upd; with_reducible first | assumption | apply keeps_stepApply | apply Keeps.ite)
    | (refine Keeps.pair (by assumption) ?_)
    | (refine Keeps.pair3 (by assumption) ?_)
    | (intro _ _ _)
    | (intro _ _)
    | (intro _)
    | split
    | dsimp only)

theorem keeps_cmdClearValid {s0 : State} (a : ℕ) (t : State) (h : Keeps s0 t) :
    Keeps s0 ((cmdClearValid ).run a t) := by
  unfold cmdClearValid
  try dsimp only
  repeat (first
    | with_reducible assumption
    | with_reducible apply keeps_set
    | with_reducible apply Keeps.ite
    | (with_reducible apply Keeps.upd; with_reducible first | assumption | apply keeps_set | apply Keeps.ite)
    | (refine Keeps.pair (by assumption) ?_)
    | (refine Keeps.pair3 (by assumption) ?_)
    | (intro _ _ _)
    | (intro _ _)
    | (intro _)
    | split
    | dsimp only)

theorem keeps_execClearValid {s0 : State} (path : Path) (arg : ℕ) (s : State) (h : Keeps s0 s) :
    ∃ u, execClearValid path arg s = finish u ∧ Keeps s0 u := by
  refine ⟨_, rfl, ?_⟩
  try dsimp only
  repeat (first
    | with_reducible assumption
    | with_reducible apply keeps_command
    | with_reducible apply keeps_cmdClearValid
    | with_reducible apply Keeps.ite
    | (with_reducible apply Keeps.upd; with_reducible first | assumption | apply keeps_command | apply keeps_cmdClearValid | apply Keeps.ite)
    | (refine Keeps.pair (by assumption) ?_)
    | (refine Keeps.pair3 (by assumption) ?_)
    | (intro _ _ _)
    | (intro _ _)
    | (intro _)
    | split
    | dsimp only)

theorem keeps_latchNow {s0 : State} (s : State) (h : Keeps s0 s) :
    Keeps s0 (State.latchNow s) := by
  unfold State.latchNow
  try dsimp only
  repeat (first
    | with_reducible assumption
    | with_reducible apply keeps_load
    | with_reducible apply Keeps.ite
    | (with_reducible apply Keeps.upd; with_reducible first | assumption | apply keeps_load | apply Keeps.ite)
    | (refine Keeps.pair (by assumption) ?_)
    | (refine Keeps.pair3 (by assumption) ?_)
    | (intro _ _ _)
    | (intro _ _)
    | (intro _)
    | split
    | dsimp only)

theorem keeps_readNow {s0 : State} (s : State) (req : Requester) (h : Keeps s0 s) :
    Keeps s0 (State.readNow s req) := by
  unfold State.readNow
  try dsimp only
  repeat (first
    | with_reducible assumption
    | with_reducible apply keeps_emit
    | with_reducible apply keeps_latchNow
    | with_reducible apply Keeps.ite
    | (with_reducible apply Keeps.upd; with_reducible first | assumption | apply keeps_emit | apply keeps_latchNow | apply Keeps.ite)
    | (refine Keeps.pair (by assumption) ?_)
    | (refine Keeps.pair3 (by assumption) ?_)
    | (intro _ _ _)
    | (intro _ _)
    | (intro _)
    | split
    | dsimp only)

theorem keeps_execTimNowNsRead {s0 : State} (req : Requester) (s : State) (h : Keeps s0 s) :
    ∃ u, execTimNowNsRead req s = finish u ∧ Keeps s0 u := by
  refine ⟨_, rfl, ?_⟩
  try dsimp only
  repeat (first
    | with_reducible assumption
    | with_reducible apply keeps_readNow
    | with_reducible apply Keeps.ite
    | (with_reducible apply Keeps.upd; with_reducible first | assumption | apply keeps_readNow | apply Keeps.ite)
    | (refine Keeps.pair (by assumption) ?_)
    | (refine Keeps.pair3 (by assumption) ?_)
    | (intro _ _ _)
    | (intro _ _)
    | (intro _)
    | split
    | dsimp only)

end Sys2Proof.Machine
end

