-- ==== Sys2Proof/Laws/KeepsHrg.lean ====
section
/-! SUPPORT. The operations of `Sys2Proof/Machine/Hrg.lean` keep what `Keeps` names. -/

set_option linter.unusedTactic false
set_option linter.unreachableTactic false

namespace Sys2Proof.Machine

theorem keeps_hrgMap {s0 : State} (s : State) (f : HrgState → HrgState) (h : Keeps s0 s) :
    Keeps s0 (State.hrgMap s f) := by
  unfold State.hrgMap
  try dsimp only
  repeat (first
    | with_reducible assumption
    | with_reducible apply Keeps.ite
    | (with_reducible apply Keeps.upd; with_reducible first | assumption | apply Keeps.ite)
    | (refine Keeps.pair (by assumption) ?_)
    | (refine Keeps.pair3 (by assumption) ?_)
    | (intro _ _ _)
    | (intro _ _)
    | (intro _)
    | split
    | dsimp only)

theorem keeps_setFetch {s0 : State} (s : State) (g : ℕ) (f : Option (List (ℕ × List (Option Descriptor)))) (h : Keeps s0 s) :
    Keeps s0 (State.setFetch s g f) := by
  unfold State.setFetch
  try dsimp only
  repeat (first
    | with_reducible assumption
    | with_reducible apply keeps_hrgMap
    | with_reducible apply Keeps.ite
    | (with_reducible apply Keeps.upd; with_reducible first | assumption | apply keeps_hrgMap | apply Keeps.ite)
    | (refine Keeps.pair (by assumption) ?_)
    | (refine Keeps.pair3 (by assumption) ?_)
    | (intro _ _ _)
    | (intro _ _)
    | (intro _)
    | split
    | dsimp only)

theorem keeps_flushHeld {s0 : State} (s : State) (h : Keeps s0 s) :
    Keeps s0 (State.flushHeld s) := by
  unfold State.flushHeld
  try dsimp only
  repeat (first
    | with_reducible assumption
    | with_reducible apply keeps_hrgMap
    | with_reducible apply keeps_emit
    | with_reducible apply Keeps.ite
    | (with_reducible apply Keeps.foldl; intro _ _ _)
    | (with_reducible apply Keeps.upd; with_reducible first | assumption | apply keeps_hrgMap | apply keeps_emit | apply Keeps.ite | (apply Keeps.foldl; intro _ _ _))
    | (refine Keeps.pair (by assumption) ?_)
    | (refine Keeps.pair3 (by assumption) ?_)
    | (intro _ _ _)
    | (intro _ _)
    | (intro _)
    | split
    | dsimp only)

theorem keeps_ringStart_ {s0 : State} (s : State) (k : ℕ) (h : Keeps s0 s) :
    Keeps s0 (State.ringStart_ s k) := by
  unfold State.ringStart_
  try dsimp only
  repeat (first
    | with_reducible assumption
    | with_reducible apply keeps_ringError
    | with_reducible apply keeps_load
    | with_reducible apply keeps_setRing
    | with_reducible apply keeps_set
    | with_reducible apply Keeps.ite
    | (with_reducible apply Keeps.upd; with_reducible first | assumption | apply keeps_ringError | apply keeps_load | apply keeps_setRing | apply keeps_set | apply Keeps.ite)
    | (refine Keeps.pair (by assumption) ?_)
    | (refine Keeps.pair3 (by assumption) ?_)
    | (intro _ _ _)
    | (intro _ _)
    | (intro _)
    | split
    | dsimp only)

theorem keeps_ringStopped {s0 : State} (s : State) (k : ℕ) (h : Keeps s0 s) :
    Keeps s0 (State.ringStopped s k) := by
  unfold State.ringStopped
  try dsimp only
  repeat (first
    | with_reducible assumption
    | with_reducible apply keeps_load
    | with_reducible apply keeps_writeBack
    | with_reducible apply keeps_setRing
    | with_reducible apply keeps_ringStart_
    | with_reducible apply Keeps.ite
    | (with_reducible apply Keeps.upd; with_reducible first | assumption | apply keeps_load | apply keeps_writeBack | apply keeps_setRing | apply keeps_ringStart_ | apply Keeps.ite)
    | (refine Keeps.pair (by assumption) ?_)
    | (refine Keeps.pair3 (by assumption) ?_)
    | (intro _ _ _)
    | (intro _ _)
    | (intro _)
    | split
    | dsimp only)

theorem keeps_writeRingCtrl {s0 : State} (s : State) (k : ℕ) (v : ℕ) (h : Keeps s0 s) :
    Keeps s0 (State.writeRingCtrl s k v) := by
  unfold State.writeRingCtrl
  try dsimp only
  repeat (first
    | with_reducible assumption
    | with_reducible apply keeps_load
    | with_reducible apply keeps_set
    | with_reducible apply keeps_ringStart_
    | with_reducible apply Keeps.ite
    | (with_reducible apply Keeps.upd; with_reducible first | assumption | apply keeps_load | apply keeps_set | apply keeps_ringStart_ | apply Keeps.ite)
    | (refine Keeps.pair (by assumption) ?_)
    | (refine Keeps.pair3 (by assumption) ?_)
    | (intro _ _ _)
    | (intro _ _)
    | (intro _)
    | split
    | dsimp only)

theorem keeps_writeRingBase {s0 : State} (s : State) (k : ℕ) (v : ℕ) (h : Keeps s0 s) :
    Keeps s0 (State.writeRingBase s k v) := by
  unfold State.writeRingBase
  try dsimp only
  repeat (first
    | with_reducible assumption
    | with_reducible apply keeps_set
    | with_reducible apply Keeps.ite
    | (with_reducible apply Keeps.upd; with_reducible first | assumption | apply keeps_set | apply Keeps.ite)
    | (refine Keeps.pair (by assumption) ?_)
    | (refine Keeps.pair3 (by assumption) ?_)
    | (intro _ _ _)
    | (intro _ _)
    | (intro _)
    | split
    | dsimp only)

theorem keeps_execRingEnable {s0 : State} (req : Requester) (ring : ℕ) (value : ℕ) (s : State) (h : Keeps s0 s) :
    ∃ u, execRingEnable req ring value s = finish u ∧ Keeps s0 u := by
  refine ⟨_, rfl, ?_⟩
  try dsimp only
  repeat (first
    | with_reducible assumption
    | with_reducible apply keeps_writeRingCtrl
    | with_reducible apply Keeps.ite
    | (with_reducible apply Keeps.upd; with_reducible first | assumption | apply keeps_writeRingCtrl | apply Keeps.ite)
    | (refine Keeps.pair (by assumption) ?_)
    | (refine Keeps.pair3 (by assumption) ?_)
    | (intro _ _ _)
    | (intro _ _)
    | (intro _)
    | split
    | dsimp only)

theorem keeps_execRingDisable {s0 : State} (req : Requester) (ring : ℕ) (value : ℕ) (s : State) (h : Keeps s0 s) :
    ∃ u, execRingDisable req ring value s = finish u ∧ Keeps s0 u := by
  refine ⟨_, rfl, ?_⟩
  try dsimp only
  repeat (first
    | with_reducible assumption
    | with_reducible apply keeps_writeRingCtrl
    | with_reducible apply Keeps.ite
    | (with_reducible apply Keeps.upd; with_reducible first | assumption | apply keeps_writeRingCtrl | apply Keeps.ite)
    | (refine Keeps.pair (by assumption) ?_)
    | (refine Keeps.pair3 (by assumption) ?_)
    | (intro _ _ _)
    | (intro _ _)
    | (intro _)
    | split
    | dsimp only)

theorem keeps_execRingStopDone {s0 : State} (ring : ℕ) (s : State) (h : Keeps s0 s) :
    ∃ u, execRingStopDone ring s = finish u ∧ Keeps s0 u := by
  refine ⟨_, rfl, ?_⟩
  try dsimp only
  repeat (first
    | with_reducible assumption
    | with_reducible apply keeps_ringStopped
    | with_reducible apply Keeps.ite
    | (with_reducible apply Keeps.upd; with_reducible first | assumption | apply keeps_ringStopped | apply Keeps.ite)
    | (refine Keeps.pair (by assumption) ?_)
    | (refine Keeps.pair3 (by assumption) ?_)
    | (intro _ _ _)
    | (intro _ _)
    | (intro _)
    | split
    | dsimp only)

theorem keeps_askEntries {s0 : State} (f : ℕ) (k : ℕ) (a2 : ℕ) (a3 : ℕ) (a4 : ℕ) (a5 : State) (h : Keeps s0 a5) :
    Keeps s0 (State.askEntries f k a2 a3 a4 a5) := by
  induction a2 generalizing a5 a3 a4 with
  | zero =>
    unfold State.askEntries
    try dsimp only
    repeat (first
      | with_reducible assumption
      | with_reducible apply keeps_emit
        | with_reducible apply Keeps.ite
      | (with_reducible apply Keeps.upd; with_reducible first | assumption | apply keeps_emit | apply Keeps.ite)
      | (refine Keeps.pair (by assumption) ?_)
      | (refine Keeps.pair3 (by assumption) ?_)
      | (intro _ _ _)
      | (intro _ _)
      | (intro _)
      | split
      | dsimp only)
  | succ n ih =>
    unfold State.askEntries
    try dsimp only
    repeat (first
      | with_reducible assumption
      | with_reducible apply keeps_emit
      | with_reducible apply ih
      | with_reducible apply Keeps.ite
      | (with_reducible apply Keeps.upd; with_reducible first | assumption | apply keeps_emit | apply Keeps.ite)
      | (refine Keeps.pair (by assumption) ?_)
      | (refine Keeps.pair3 (by assumption) ?_)
      | (intro _ _ _)
      | (intro _ _)
      | (intro _)
      | split
      | dsimp only)

theorem keeps_askBuffers {s0 : State} (s : State) (f : ℕ) (l : List (Option Descriptor)) (h : Keeps s0 s) :
    Keeps s0 (State.askBuffers s f l) := by
  unfold State.askBuffers
  try dsimp only
  repeat (first
    | with_reducible assumption
    | with_reducible apply keeps_emit
    | with_reducible apply Keeps.ite
    | (with_reducible apply Keeps.foldl; intro _ _ _)
    | (with_reducible apply Keeps.upd; with_reducible first | assumption | apply keeps_emit | apply Keeps.ite | (apply Keeps.foldl; intro _ _ _))
    | (refine Keeps.pair (by assumption) ?_)
    | (refine Keeps.pair3 (by assumption) ?_)
    | (intro _ _ _)
    | (intro _ _)
    | (intro _)
    | split
    | dsimp only)

theorem keeps_pollRing {s0 : State} (f : ℕ) (page : Bytes) (read : List (ℕ × List (Option Descriptor)))
    (acc : State × List (ℕ × List (Option Descriptor))) (k : ℕ) (h : Keeps s0 acc.1) :
    Keeps s0 (State.pollRing f page read acc k).1 := by
  obtain ⟨s, l⟩ := acc
  unfold State.pollRing
  dsimp only at h ⊢
  split
  · exact h
  · split
    · exact keeps_ringError _ _ _ _ h
    · split
      · exact keeps_setRing _ _ _ h
      · dsimp only
        apply Keeps.ite
        · exact keeps_askBuffers _ _ _ (keeps_askEntries _ _ _ _ _ _ (keeps_setRing _ _ _ h))
        · exact keeps_askEntries _ _ _ _ _ _ (keeps_setRing _ _ _ h)

theorem keeps_pollRings {s0 : State} (f : ℕ) (page : Bytes) (read : List (ℕ × List (Option Descriptor))) (ks : List ℕ)
    (acc : State × List (ℕ × List (Option Descriptor))) (h : Keeps s0 acc.1) :
    Keeps s0 (ks.foldl (State.pollRing f page read) acc).1 := by
  induction ks generalizing acc with
  | nil => exact h
  | cons k ks ih => exact ih _ (keeps_pollRing f page read acc k h)

theorem keeps_pollFailed {s0 : State} (s : State) (g : ℕ) (h : Keeps s0 s) :
    Keeps s0 (State.pollFailed s g) := by
  unfold State.pollFailed
  try dsimp only
  repeat (first
    | with_reducible assumption
    | with_reducible apply keeps_set
    | with_reducible apply keeps_hrgMap
    | with_reducible apply keeps_ringError
    | with_reducible apply Keeps.ite
    | (with_reducible apply Keeps.foldl; intro _ _ _)
    | (with_reducible apply Keeps.upd; with_reducible first | assumption | apply keeps_set | apply keeps_hrgMap | apply keeps_ringError | apply Keeps.ite | (apply Keeps.foldl; intro _ _ _))
    | (refine Keeps.pair (by assumption) ?_)
    | (refine Keeps.pair3 (by assumption) ?_)
    | (intro _ _ _)
    | (intro _ _)
    | (intro _)
    | split
    | dsimp only)

theorem keeps_poll {s0 : State} (s : State) (g : ℕ) (page : Option Bytes) (read : List (ℕ × List (Option Descriptor))) (h : Keeps s0 s) :
    Keeps s0 (State.poll s g page read) := by
  unfold State.poll
  dsimp only
  split
  · exact h
  · split
    · exact keeps_pollFailed _ _ (keeps_emit _ _ h)
    · refine keeps_evDrain _ _ _ (keeps_setRing _ _ _ (keeps_setFetch _ _ _ (keeps_pollRings _ _ _ _ (_, []) ?_)))
      dsimp only
      exact keeps_hrgMap _ _ (keeps_emit _ _ h)

theorem keeps_execDoorbellPoll {s0 : State} (group : ℕ) (page : Option Bytes) (read : List (ℕ × List (Option Descriptor))) (s : State) (h : Keeps s0 s) :
    ∃ u, execDoorbellPoll group page read s = finish u ∧ Keeps s0 u := by
  refine ⟨_, rfl, ?_⟩
  try dsimp only
  repeat (first
    | with_reducible assumption
    | with_reducible apply keeps_poll
    | with_reducible apply Keeps.ite
    | (with_reducible apply Keeps.upd; with_reducible first | assumption | apply keeps_poll | apply Keeps.ite)
    | (refine Keeps.pair (by assumption) ?_)
    | (refine Keeps.pair3 (by assumption) ?_)
    | (intro _ _ _)
    | (intro _ _)
    | (intro _)
    | split
    | dsimp only)

theorem keeps_takeRead {s0 : State} (k : ℕ) (a1 : List (Option Descriptor)) (a2 : State) (h : Keeps s0 a2) :
    Keeps s0 (State.takeRead k a1 a2) := by
  fun_induction State.takeRead k a1 a2
  · exact h
  · exact keeps_ringError _ _ _ _ (keeps_set _ _ _ h)
  · rename_i ih
    apply ih
    apply Keeps.ite
    · exact keeps_set _ _ _ (keeps_setRing _ _ _ h)
    · exact keeps_setRing _ _ _ h

theorem keeps_fetchDone {s0 : State} (s : State) (g : ℕ) (h : Keeps s0 s) :
    Keeps s0 (State.fetchDone s g) := by
  unfold State.fetchDone
  try dsimp only
  repeat (first
    | with_reducible assumption
    | with_reducible apply keeps_setFetch
    | with_reducible apply keeps_takeRead
    | with_reducible apply Keeps.ite
    | (with_reducible apply Keeps.foldl; intro _ _ _)
    | (with_reducible apply Keeps.upd; with_reducible first | assumption | apply keeps_setFetch | apply keeps_takeRead | apply Keeps.ite | (apply Keeps.foldl; intro _ _ _))
    | (refine Keeps.pair (by assumption) ?_)
    | (refine Keeps.pair3 (by assumption) ?_)
    | (intro _ _ _)
    | (intro _ _)
    | (intro _)
    | split
    | dsimp only)

theorem keeps_execFetchComplete {s0 : State} (group : ℕ) (s : State) (h : Keeps s0 s) :
    ∃ u, execFetchComplete group s = finish u ∧ Keeps s0 u := by
  refine ⟨_, rfl, ?_⟩
  try dsimp only
  repeat (first
    | with_reducible assumption
    | with_reducible apply keeps_fetchDone
    | with_reducible apply Keeps.ite
    | (with_reducible apply Keeps.upd; with_reducible first | assumption | apply keeps_fetchDone | apply Keeps.ite)
    | (refine Keeps.pair (by assumption) ?_)
    | (refine Keeps.pair3 (by assumption) ?_)
    | (intro _ _ _)
    | (intro _ _)
    | (intro _)
    | split
    | dsimp only)

theorem keeps_execEventEntryWrite {s0 : State} (group : ℕ) (event : Option HostEv) (s : State) (h : Keeps s0 s) :
    ∃ u, execEventEntryWrite group event s = finish u ∧ Keeps s0 u := by
  refine ⟨_, rfl, ?_⟩
  try dsimp only
  repeat (first
    | with_reducible assumption
    | with_reducible apply keeps_groupEvent
    | with_reducible apply keeps_evDrain
    | with_reducible apply Keeps.ite
    | (with_reducible apply Keeps.upd; with_reducible first | assumption | apply keeps_groupEvent | apply keeps_evDrain | apply Keeps.ite)
    | (refine Keeps.pair (by assumption) ?_)
    | (refine Keeps.pair3 (by assumption) ?_)
    | (intro _ _ _)
    | (intro _ _)
    | (intro _)
    | split
    | dsimp only)

theorem keeps_execMsixCoalesceTimeout {s0 : State} (ring : ℕ) (s : State) (h : Keeps s0 s) :
    ∃ u, execMsixCoalesceTimeout ring s = finish u ∧ Keeps s0 u := by
  refine ⟨_, rfl, ?_⟩
  try dsimp only
  repeat (first
    | with_reducible assumption
    | with_reducible apply keeps_signalNow
    | with_reducible apply Keeps.ite
    | (with_reducible apply Keeps.upd; with_reducible first | assumption | apply keeps_signalNow | apply Keeps.ite)
    | (refine Keeps.pair (by assumption) ?_)
    | (refine Keeps.pair3 (by assumption) ?_)
    | (intro _ _ _)
    | (intro _ _)
    | (intro _)
    | split
    | dsimp only)

theorem keeps_unmaskVector {s0 : State} (s : State) (f : ℕ) (v : ℕ) (h : Keeps s0 s) :
    Keeps s0 (State.unmaskVector s f v) := by
  unfold State.unmaskVector
  try dsimp only
  repeat (first
    | with_reducible assumption
    | with_reducible apply keeps_set
    | with_reducible apply keeps_hostPost
    | with_reducible apply Keeps.ite
    | (with_reducible apply Keeps.upd; with_reducible first | assumption | apply keeps_set | apply keeps_hostPost | apply Keeps.ite)
    | (refine Keeps.pair (by assumption) ?_)
    | (refine Keeps.pair3 (by assumption) ?_)
    | (intro _ _ _)
    | (intro _ _)
    | (intro _)
    | split
    | dsimp only)

theorem keeps_execMsixUnmask {s0 : State} (function : ℕ) (vector : ℕ) (s : State) (h : Keeps s0 s) :
    ∃ u, execMsixUnmask function vector s = finish u ∧ Keeps s0 u := by
  refine ⟨_, rfl, ?_⟩
  try dsimp only
  repeat (first
    | with_reducible assumption
    | with_reducible apply keeps_unmaskVector
    | with_reducible apply Keeps.ite
    | (with_reducible apply Keeps.upd; with_reducible first | assumption | apply keeps_unmaskVector | apply Keeps.ite)
    | (refine Keeps.pair (by assumption) ?_)
    | (refine Keeps.pair3 (by assumption) ?_)
    | (intro _ _ _)
    | (intro _ _)
    | (intro _)
    | split
    | dsimp only)

theorem keeps_resetGroup {s0 : State} (s : State) (g : ℕ) (h : Keeps s0 s) :
    Keeps s0 (State.resetGroup s g) := by
  unfold State.resetGroup
  try dsimp only
  repeat (first
    | with_reducible assumption
    | with_reducible apply keeps_set
    | with_reducible apply keeps_setFetch
    | with_reducible apply keeps_setRing
    | with_reducible apply Keeps.ite
    | (with_reducible apply Keeps.foldl; intro _ _ _)
    | (with_reducible apply Keeps.upd; with_reducible first | assumption | apply keeps_set | apply keeps_setFetch | apply keeps_setRing | apply Keeps.ite | (apply Keeps.foldl; intro _ _ _))
    | (refine Keeps.pair (by assumption) ?_)
    | (refine Keeps.pair3 (by assumption) ?_)
    | (intro _ _ _)
    | (intro _ _)
    | (intro _)
    | split
    | dsimp only)

theorem keeps_resetMsix {s0 : State} (s : State) (f : ℕ) (h : Keeps s0 s) :
    Keeps s0 (State.resetMsix s f) := by
  unfold State.resetMsix
  try dsimp only
  repeat (first
    | with_reducible assumption
    | with_reducible apply keeps_set
    | with_reducible apply keeps_load
    | with_reducible apply Keeps.ite
    | (with_reducible apply Keeps.foldl; intro _ _ _)
    | (with_reducible apply Keeps.upd; with_reducible first | assumption | apply keeps_set | apply keeps_load | apply Keeps.ite | (apply Keeps.foldl; intro _ _ _))
    | (refine Keeps.pair (by assumption) ?_)
    | (refine Keeps.pair3 (by assumption) ?_)
    | (intro _ _ _)
    | (intro _ _)
    | (intro _)
    | split
    | dsimp only)

theorem keeps_resetFunction {s0 : State} (s : State) (f : ℕ) (h : Keeps s0 s) :
    Keeps s0 (State.resetFunction s f) := by
  unfold State.resetFunction
  try dsimp only
  repeat (first
    | with_reducible assumption
    | with_reducible apply keeps_set
    | with_reducible apply keeps_hrgMap
    | with_reducible apply keeps_resetMsix
    | with_reducible apply Keeps.ite
    | (with_reducible apply Keeps.upd; with_reducible first | assumption | apply keeps_set | apply keeps_hrgMap | apply keeps_resetMsix | apply Keeps.ite)
    | (refine Keeps.pair (by assumption) ?_)
    | (refine Keeps.pair3 (by assumption) ?_)
    | (intro _ _ _)
    | (intro _ _)
    | (intro _)
    | split
    | dsimp only)

theorem keeps_linkReset {s0 : State} (s : State) (h : Keeps s0 s) :
    Keeps s0 (State.linkReset s) := by
  unfold State.linkReset
  try dsimp only
  repeat (first
    | with_reducible assumption
    | with_reducible apply keeps_resetFunction
    | with_reducible apply keeps_resetGroup
    | with_reducible apply keeps_load
    | with_reducible apply keeps_hrgMap
    | with_reducible apply Keeps.ite
    | (with_reducible apply Keeps.foldl; intro _ _ _)
    | (with_reducible apply Keeps.upd; with_reducible first | assumption | apply keeps_resetFunction | apply keeps_resetGroup | apply keeps_load | apply keeps_hrgMap | apply Keeps.ite | (apply Keeps.foldl; intro _ _ _))
    | (refine Keeps.pair (by assumption) ?_)
    | (refine Keeps.pair3 (by assumption) ?_)
    | (intro _ _ _)
    | (intro _ _)
    | (intro _)
    | split
    | dsimp only)

theorem keeps_execPcieLinkDown {s0 : State} (s : State) (h : Keeps s0 s) :
    ∃ u, execPcieLinkDown s = finish u ∧ Keeps s0 u := by
  refine ⟨_, rfl, ?_⟩
  try dsimp only
  repeat (first
    | with_reducible assumption
    | with_reducible apply keeps_set
    | with_reducible apply keeps_linkReset
    | with_reducible apply Keeps.ite
    | (with_reducible apply Keeps.upd; with_reducible first | assumption | apply keeps_set | apply keeps_linkReset | apply Keeps.ite)
    | (refine Keeps.pair (by assumption) ?_)
    | (refine Keeps.pair3 (by assumption) ?_)
    | (intro _ _ _)
    | (intro _ _)
    | (intro _)
    | split
    | dsimp only)

theorem keeps_execPcieHotReset {s0 : State} (s : State) (h : Keeps s0 s) :
    ∃ u, execPcieHotReset s = finish u ∧ Keeps s0 u := by
  refine ⟨_, rfl, ?_⟩
  try dsimp only
  repeat (first
    | with_reducible assumption
    | with_reducible apply keeps_set
    | with_reducible apply keeps_linkReset
    | with_reducible apply Keeps.ite
    | (with_reducible apply Keeps.upd; with_reducible first | assumption | apply keeps_set | apply keeps_linkReset | apply Keeps.ite)
    | (refine Keeps.pair (by assumption) ?_)
    | (refine Keeps.pair3 (by assumption) ?_)
    | (intro _ _ _)
    | (intro _ _)
    | (intro _)
    | split
    | dsimp only)

theorem keeps_flr {s0 : State} (s : State) (h : Keeps s0 s) :
    Keeps s0 (State.flr s) := by
  unfold State.flr
  try dsimp only
  repeat (first
    | with_reducible assumption
    | with_reducible apply keeps_resetFunction
    | with_reducible apply keeps_set
    | with_reducible apply keeps_resetGroup
    | with_reducible apply Keeps.ite
    | (with_reducible apply Keeps.foldl; intro _ _ _)
    | (with_reducible apply Keeps.upd; with_reducible first | assumption | apply keeps_resetFunction | apply keeps_set | apply keeps_resetGroup | apply Keeps.ite | (apply Keeps.foldl; intro _ _ _))
    | (refine Keeps.pair (by assumption) ?_)
    | (refine Keeps.pair3 (by assumption) ?_)
    | (intro _ _ _)
    | (intro _ _)
    | (intro _)
    | split
    | dsimp only)

theorem keeps_execPf1Flr {s0 : State} (s : State) (h : Keeps s0 s) :
    ∃ u, execPf1Flr s = finish u ∧ Keeps s0 u := by
  refine ⟨_, rfl, ?_⟩
  try dsimp only
  repeat (first
    | with_reducible assumption
    | with_reducible apply keeps_flr
    | with_reducible apply Keeps.ite
    | (with_reducible apply Keeps.upd; with_reducible first | assumption | apply keeps_flr | apply Keeps.ite)
    | (refine Keeps.pair (by assumption) ?_)
    | (refine Keeps.pair3 (by assumption) ?_)
    | (intro _ _ _)
    | (intro _ _)
    | (intro _)
    | split
    | dsimp only)

theorem keeps_execBusMasterDisable {s0 : State} (function : ℕ) (s : State) (h : Keeps s0 s) :
    ∃ u, execBusMasterDisable function s = finish u ∧ Keeps s0 u := by
  refine ⟨_, rfl, ?_⟩
  try dsimp only
  repeat (first
    | with_reducible assumption
    | with_reducible apply keeps_set
    | with_reducible apply Keeps.ite
    | (with_reducible apply Keeps.upd; with_reducible first | assumption | apply keeps_set | apply Keeps.ite)
    | (refine Keeps.pair (by assumption) ?_)
    | (refine Keeps.pair3 (by assumption) ?_)
    | (intro _ _ _)
    | (intro _ _)
    | (intro _)
    | split
    | dsimp only)

theorem keeps_busMaster {s0 : State} (s : State) (f : ℕ) (msix : Bool) (h : Keeps s0 s) :
    Keeps s0 (State.busMaster s f msix) := by
  unfold State.busMaster
  try dsimp only
  repeat (first
    | with_reducible assumption
    | with_reducible apply keeps_flushHeld
    | with_reducible apply keeps_load
    | with_reducible apply Keeps.ite
    | (with_reducible apply Keeps.upd; with_reducible first | assumption | apply keeps_flushHeld | apply keeps_load | apply Keeps.ite)
    | (refine Keeps.pair (by assumption) ?_)
    | (refine Keeps.pair3 (by assumption) ?_)
    | (intro _ _ _)
    | (intro _ _)
    | (intro _)
    | split
    | dsimp only)

theorem keeps_execBusMasterEnable {s0 : State} (function : ℕ) (msix : Bool) (s : State) (h : Keeps s0 s) :
    ∃ u, execBusMasterEnable function msix s = finish u ∧ Keeps s0 u := by
  refine ⟨_, rfl, ?_⟩
  try dsimp only
  repeat (first
    | with_reducible assumption
    | with_reducible apply keeps_busMaster
    | with_reducible apply Keeps.ite
    | (with_reducible apply Keeps.upd; with_reducible first | assumption | apply keeps_busMaster | apply Keeps.ite)
    | (refine Keeps.pair (by assumption) ?_)
    | (refine Keeps.pair3 (by assumption) ?_)
    | (intro _ _ _)
    | (intro _ _)
    | (intro _)
    | split
    | dsimp only)

theorem keeps_execD3hotEntry {s0 : State} (function : ℕ) (s : State) (h : Keeps s0 s) :
    ∃ u, execD3hotEntry function s = finish u ∧ Keeps s0 u := by
  refine ⟨_, rfl, ?_⟩
  try dsimp only
  repeat (first
    | with_reducible assumption
    | with_reducible apply keeps_hrgMap
    | with_reducible apply Keeps.ite
    | (with_reducible apply Keeps.upd; with_reducible first | assumption | apply keeps_hrgMap | apply Keeps.ite)
    | (refine Keeps.pair (by assumption) ?_)
    | (refine Keeps.pair3 (by assumption) ?_)
    | (intro _ _ _)
    | (intro _ _)
    | (intro _)
    | split
    | dsimp only)

theorem keeps_execD0Return {s0 : State} (function : ℕ) (s : State) (h : Keeps s0 s) :
    ∃ u, execD0Return function s = finish u ∧ Keeps s0 u := by
  refine ⟨_, rfl, ?_⟩
  try dsimp only
  repeat (first
    | with_reducible assumption
    | with_reducible apply keeps_flushHeld
    | with_reducible apply keeps_hrgMap
    | with_reducible apply Keeps.ite
    | (with_reducible apply Keeps.upd; with_reducible first | assumption | apply keeps_flushHeld | apply keeps_hrgMap | apply Keeps.ite)
    | (refine Keeps.pair (by assumption) ?_)
    | (refine Keeps.pair3 (by assumption) ?_)
    | (intro _ _ _)
    | (intro _ _)
    | (intro _)
    | split
    | dsimp only)

theorem keeps_perstLow {s0 : State} (s : State) (h : Keeps s0 s) :
    Keeps s0 (State.perstLow s) := by
  unfold State.perstLow
  try dsimp only
  repeat (first
    | with_reducible assumption
    | with_reducible apply keeps_set
    | with_reducible apply keeps_linkReset
    | with_reducible apply Keeps.ite
    | (with_reducible apply Keeps.upd; with_reducible first | assumption | apply keeps_set | apply keeps_linkReset | apply Keeps.ite)
    | (refine Keeps.pair (by assumption) ?_)
    | (refine Keeps.pair3 (by assumption) ?_)
    | (intro _ _ _)
    | (intro _ _)
    | (intro _)
    | split
    | dsimp only)

theorem keeps_execPePerstAssert {s0 : State} (s : State) (h : Keeps s0 s) :
    ∃ u, execPePerstAssert s = finish u ∧ Keeps s0 u := by
  refine ⟨_, rfl, ?_⟩
  try dsimp only
  repeat (first
    | with_reducible assumption
    | with_reducible apply keeps_perstLow
    | with_reducible apply Keeps.ite
    | (with_reducible apply Keeps.upd; with_reducible first | assumption | apply keeps_perstLow | apply Keeps.ite)
    | (refine Keeps.pair (by assumption) ?_)
    | (refine Keeps.pair3 (by assumption) ?_)
    | (intro _ _ _)
    | (intro _ _)
    | (intro _)
    | split
    | dsimp only)

theorem keeps_execPePerstDeassert {s0 : State} (s : State) (h : Keeps s0 s) :
    ∃ u, execPePerstDeassert s = finish u ∧ Keeps s0 u := by
  refine ⟨_, rfl, ?_⟩
  try dsimp only
  repeat (first
    | with_reducible assumption
    | with_reducible apply Keeps.ite
    | (with_reducible apply Keeps.upd; with_reducible first | assumption | apply Keeps.ite)
    | (refine Keeps.pair (by assumption) ?_)
    | (refine Keeps.pair3 (by assumption) ?_)
    | (intro _ _ _)
    | (intro _ _)
    | (intro _)
    | split
    | dsimp only)

theorem keeps_endpointReady {s0 : State} (s : State) (speed : ℕ) (width : ℕ) (h : Keeps s0 s) :
    Keeps s0 (State.endpointReady s speed width) := by
  unfold State.endpointReady
  try dsimp only
  repeat (first
    | with_reducible assumption
    | with_reducible apply keeps_load
    | with_reducible apply Keeps.ite
    | (with_reducible apply Keeps.upd; with_reducible first | assumption | apply keeps_load | apply Keeps.ite)
    | (refine Keeps.pair (by assumption) ?_)
    | (refine Keeps.pair3 (by assumption) ?_)
    | (intro _ _ _)
    | (intro _ _)
    | (intro _)
    | split
    | dsimp only)

theorem keeps_execPcieEndpointReady {s0 : State} (speed : ℕ) (width : ℕ) (s : State) (h : Keeps s0 s) :
    ∃ u, execPcieEndpointReady speed width s = finish u ∧ Keeps s0 u := by
  refine ⟨_, rfl, ?_⟩
  try dsimp only
  repeat (first
    | with_reducible assumption
    | with_reducible apply keeps_endpointReady
    | with_reducible apply Keeps.ite
    | (with_reducible apply Keeps.upd; with_reducible first | assumption | apply keeps_endpointReady | apply Keeps.ite)
    | (refine Keeps.pair (by assumption) ?_)
    | (refine Keeps.pair3 (by assumption) ?_)
    | (intro _ _ _)
    | (intro _ _)
    | (intro _)
    | split
    | dsimp only)

end Sys2Proof.Machine
end

