-- ==== Sys2Proof/Laws/KeepsAccess.lean ====
section
/-! SUPPORT. The operations of `Sys2Proof/Machine/Access.lean` keep what `Keeps` names. -/

set_option linter.unusedTactic false
set_option linter.unreachableTactic false

namespace Sys2Proof.Machine

theorem keeps_readClear {s0 : State} (s : State) (h0 : RegHit) (w : ℕ) (n : ℕ) (h : Keeps s0 s) :
    Keeps s0 (State.readClear s h0 w n) := by
  unfold State.readClear
  try dsimp only
  repeat (first
    | with_reducible assumption
    | with_reducible apply keeps_set
    | with_reducible apply Keeps.ite
    | (with_reducible apply Keeps.foldl; intro _ _ _)
    | (with_reducible apply Keeps.upd; with_reducible first | assumption | apply keeps_set | apply Keeps.ite | (apply Keeps.foldl; intro _ _ _))
    | (refine Keeps.pair (by assumption) ?_)
    | (refine Keeps.pair3 (by assumption) ?_)
    | (intro _ _ _)
    | (intro _ _)
    | (intro _)
    | split
    | dsimp only)

theorem keeps_refreshLive {s0 : State} (s : State) (h : Keeps s0 s) :
    Keeps s0 (State.refreshLive s) := by
  unfold State.refreshLive
  try dsimp only
  repeat (first
    | with_reducible assumption
    | with_reducible apply keeps_showCycleTime
    | with_reducible apply keeps_load
    | with_reducible apply Keeps.ite
    | (with_reducible apply Keeps.foldl; intro _ _ _)
    | (with_reducible apply Keeps.upd; with_reducible first | assumption | apply keeps_showCycleTime | apply keeps_load | apply Keeps.ite | (apply Keeps.foldl; intro _ _ _))
    | (refine Keeps.pair (by assumption) ?_)
    | (refine Keeps.pair3 (by assumption) ?_)
    | (intro _ _ _)
    | (intro _ _)
    | (intro _)
    | split
    | dsimp only)

theorem keeps_collectRead {s0 : State} (s : State) (p : ℕ) (h : Keeps s0 s) :
    Keeps s0 (State.collectRead s p) := by
  unfold State.collectRead
  try dsimp only
  repeat (first
    | with_reducible assumption
    | with_reducible apply keeps_brgMap
    | with_reducible apply keeps_set
    | with_reducible apply Keeps.ite
    | (with_reducible apply Keeps.upd; with_reducible first | assumption | apply keeps_brgMap | apply keeps_set | apply Keeps.ite)
    | (refine Keeps.pair (by assumption) ?_)
    | (refine Keeps.pair3 (by assumption) ?_)
    | (intro _ _ _)
    | (intro _ _)
    | (intro _)
    | split
    | dsimp only)

theorem keeps_readEffect {s0 : State} (s : State) (h0 : RegHit) (w : ℕ) (n : ℕ) (h : Keeps s0 s) :
    Keeps s0 (State.readEffect s h0 w n) := by
  unfold State.readEffect
  try dsimp only
  repeat (first
    | with_reducible assumption
    | with_reducible apply keeps_collectRead
    | with_reducible apply keeps_copyRecord
    | with_reducible apply Keeps.ite
    | (with_reducible apply Keeps.upd; with_reducible first | assumption | apply keeps_collectRead | apply keeps_copyRecord | apply Keeps.ite)
    | (refine Keeps.pair (by assumption) ?_)
    | (refine Keeps.pair3 (by assumption) ?_)
    | (intro _ _ _)
    | (intro _ _)
    | (intro _)
    | split
    | dsimp only)

theorem keeps_latchWide {s0 : State} (s : State) (h0 : RegHit) (h : Keeps s0 s) :
    Keeps s0 (State.latchWide s h0) := by
  unfold State.latchWide
  try dsimp only
  repeat (first
    | with_reducible assumption
    | with_reducible apply Keeps.ite
    | (with_reducible apply Keeps.upd; with_reducible first | assumption | apply Keeps.ite)
    | (refine Keeps.pair (by assumption) ?_)
    | (refine Keeps.pair3 (by assumption) ?_)
    | (intro _ _ _)
    | (intro _ _)
    | (intro _)
    | split
    | dsimp only)

theorem keeps_takeWide {s0 : State} (s : State) (h0 : RegHit) (w : ℕ) (h : Keeps s0 s) :
    Keeps s0 (State.takeWide s h0 w).2 := by
  unfold State.takeWide
  try dsimp only
  repeat (first
    | with_reducible assumption
    | with_reducible apply Keeps.ite
    | (with_reducible apply Keeps.upd; with_reducible first | assumption | apply Keeps.ite)
    | (refine Keeps.pair (by assumption) ?_)
    | (refine Keeps.pair3 (by assumption) ?_)
    | (intro _ _ _)
    | (intro _ _)
    | (intro _)
    | split
    | dsimp only)

theorem keeps_takeUpper {s0 : State} (s : State) (req : Requester) (h0 : RegHit) (h : Keeps s0 s) :
    Keeps s0 (State.takeUpper s req h0).2 := by
  unfold State.takeUpper
  try dsimp only
  repeat (first
    | with_reducible assumption
    | with_reducible apply Keeps.ite
    | (with_reducible apply Keeps.upd; with_reducible first | assumption | apply Keeps.ite)
    | (refine Keeps.pair (by assumption) ?_)
    | (refine Keeps.pair3 (by assumption) ?_)
    | (intro _ _ _)
    | (intro _ _)
    | (intro _)
    | split
    | dsimp only)

theorem keeps_readWord {s0 : State} (s : State) (req : Requester) (h0 : RegHit) (h : Keeps s0 s) :
    Keeps s0 (State.readWord s req h0).2 := by
  unfold State.readWord
  try dsimp only
  repeat (first
    | with_reducible assumption
    | with_reducible apply keeps_refreshLive
    | with_reducible apply keeps_readEffect
    | with_reducible apply keeps_readClear
    | with_reducible apply keeps_takeUpper
    | with_reducible apply keeps_latchWide
    | with_reducible apply keeps_takeWide
    | with_reducible apply keeps_latchNow
    | with_reducible apply Keeps.ite
    | (with_reducible apply Keeps.upd; with_reducible first | assumption | apply keeps_refreshLive | apply keeps_readEffect | apply keeps_readClear | apply keeps_takeUpper | apply keeps_latchWide | apply keeps_takeWide | apply keeps_latchNow | apply Keeps.ite)
    | (refine Keeps.pair (by assumption) ?_)
    | (refine Keeps.pair3 (by assumption) ?_)
    | (intro _ _ _)
    | (intro _ _)
    | (intro _)
    | split
    | dsimp only)

theorem keeps_readPair {s0 : State} (s : State) (req : Requester) (h0 : RegHit) (h : Keeps s0 s) :
    Keeps s0 (State.readPair s req h0).2 := by
  unfold State.readPair
  try dsimp only
  repeat (first
    | with_reducible assumption
    | with_reducible apply keeps_refreshLive
    | with_reducible apply keeps_readEffect
    | with_reducible apply keeps_readClear
    | with_reducible apply keeps_readWord
    | with_reducible apply Keeps.ite
    | (with_reducible apply Keeps.upd; with_reducible first | assumption | apply keeps_refreshLive | apply keeps_readEffect | apply keeps_readClear | apply keeps_readWord | apply Keeps.ite)
    | (refine Keeps.pair (by assumption) ?_)
    | (refine Keeps.pair3 (by assumption) ?_)
    | (intro _ _ _)
    | (intro _ _)
    | (intro _)
    | split
    | dsimp only)

theorem keeps_writeField {s0 : State} (s : State) (h0 : RegHit) (v : ℕ) (w : ℕ) (n : ℕ) (f : Access × Bool × Field) (h : Keeps s0 s) :
    Keeps s0 (State.writeField s h0 v w n f) := by
  unfold State.writeField
  try dsimp only
  repeat (first
    | with_reducible assumption
    | with_reducible apply keeps_set
    | with_reducible apply Keeps.ite
    | (with_reducible apply Keeps.upd; with_reducible first | assumption | apply keeps_set | apply Keeps.ite)
    | (refine Keeps.pair (by assumption) ?_)
    | (refine Keeps.pair3 (by assumption) ?_)
    | (intro _ _ _)
    | (intro _ _)
    | (intro _)
    | split
    | dsimp only)

theorem keeps_writeFields {s0 : State} (s : State) (h0 : RegHit) (v : ℕ) (w : ℕ) (n : ℕ) (h : Keeps s0 s) :
    Keeps s0 (State.writeFields s h0 v w n) := by
  unfold State.writeFields
  try dsimp only
  repeat (first
    | with_reducible assumption
    | with_reducible apply keeps_writeField
    | with_reducible apply Keeps.ite
    | (with_reducible apply Keeps.foldl; intro _ _ _)
    | (with_reducible apply Keeps.upd; with_reducible first | assumption | apply keeps_writeField | apply Keeps.ite | (apply Keeps.foldl; intro _ _ _))
    | (refine Keeps.pair (by assumption) ?_)
    | (refine Keeps.pair3 (by assumption) ?_)
    | (intro _ _ _)
    | (intro _ _)
    | (intro _)
    | split
    | dsimp only)

theorem keeps_writeContext {s0 : State} (s : State) (h0 : RegHit) (v : ℕ) (w : ℕ) (n : ℕ) (h : Keeps s0 s) :
    Keeps s0 (State.writeContext s h0 v w n) := by
  unfold State.writeContext
  try dsimp only
  repeat (first
    | with_reducible assumption
    | with_reducible apply keeps_writeFields
    | with_reducible apply keeps_bump
    | with_reducible apply Keeps.ite
    | (with_reducible apply Keeps.upd; with_reducible first | assumption | apply keeps_writeFields | apply keeps_bump | apply Keeps.ite)
    | (refine Keeps.pair (by assumption) ?_)
    | (refine Keeps.pair3 (by assumption) ?_)
    | (intro _ _ _)
    | (intro _ _)
    | (intro _)
    | split
    | dsimp only)

theorem keeps_fixSource {s0 : State} (s : State) (n : ℕ) (sev : ℕ) (h : Keeps s0 s) :
    Keeps s0 (State.fixSource s n sev) := by
  unfold State.fixSource
  try dsimp only
  repeat (first
    | with_reducible assumption
    | with_reducible apply keeps_set
    | with_reducible apply Keeps.ite
    | (with_reducible apply Keeps.upd; with_reducible first | assumption | apply keeps_set | apply Keeps.ite)
    | (refine Keeps.pair (by assumption) ?_)
    | (refine Keeps.pair3 (by assumption) ?_)
    | (intro _ _ _)
    | (intro _ _)
    | (intro _)
    | split
    | dsimp only)

theorem keeps_writeReady {s0 : State} (s : State) (h0 : RegHit) (v : ℕ) (w : ℕ) (n : ℕ) (h : Keeps s0 s) :
    Keeps s0 (State.writeReady s h0 v w n) := by
  unfold State.writeReady
  try dsimp only
  repeat (first
    | with_reducible assumption
    | with_reducible apply keeps_writeFields
    | with_reducible apply keeps_readyCleared
    | with_reducible apply Keeps.ite
    | (with_reducible apply Keeps.upd; with_reducible first | assumption | apply keeps_writeFields | apply keeps_readyCleared | apply Keeps.ite)
    | (refine Keeps.pair (by assumption) ?_)
    | (refine Keeps.pair3 (by assumption) ?_)
    | (intro _ _ _)
    | (intro _ _)
    | (intro _)
    | split
    | dsimp only)

theorem keeps_performWrite {s0 : State} (s : State) (h0 : RegHit) (v : ℕ) (w : ℕ) (n : ℕ) (h : Keeps s0 s) :
    Keeps s0 (State.performWrite s h0 v w n) := by
  unfold State.performWrite
  try dsimp only
  repeat (first
    | with_reducible assumption
    | with_reducible apply keeps_writeRingCtrl
    | with_reducible apply keeps_writeRingBase
    | with_reducible apply keeps_unmaskVector
    | with_reducible apply keeps_set
    | with_reducible apply keeps_writeContext
    | with_reducible apply keeps_clearWritten
    | with_reducible apply keeps_force
    | with_reducible apply keeps_fixSource
    | with_reducible apply keeps_writeFields
    | with_reducible apply keeps_copyRecord
    | with_reducible apply keeps_writeReady
    | with_reducible apply Keeps.ite
    | (with_reducible apply Keeps.upd; with_reducible first | assumption | apply keeps_writeRingCtrl | apply keeps_writeRingBase | apply keeps_unmaskVector | apply keeps_set | apply keeps_writeContext | apply keeps_clearWritten | apply keeps_force | apply keeps_fixSource | apply keeps_writeFields | apply keeps_copyRecord | apply keeps_writeReady | apply Keeps.ite)
    | (refine Keeps.pair (by assumption) ?_)
    | (refine Keeps.pair3 (by assumption) ?_)
    | (intro _ _ _)
    | (intro _ _)
    | (intro _)
    | split
    | dsimp only)

theorem keeps_writeWords {s0 : State} (s : State) (req : Requester) (h0 : RegHit) (v : ℕ) (w : ℕ) (n : ℕ) (h : Keeps s0 s) :
    Keeps s0 (State.writeWords s req h0 v w n).2 := by
  unfold State.writeWords
  try dsimp only
  repeat (first
    | with_reducible assumption
    | with_reducible apply keeps_recordDenied
    | with_reducible apply keeps_performWrite
    | with_reducible apply Keeps.ite
    | (with_reducible apply Keeps.upd; with_reducible first | assumption | apply keeps_recordDenied | apply keeps_performWrite | apply Keeps.ite)
    | (refine Keeps.pair (by assumption) ?_)
    | (refine Keeps.pair3 (by assumption) ?_)
    | (intro _ _ _)
    | (intro _ _)
    | (intro _)
    | split
    | dsimp only)

theorem keeps_takeLower {s0 : State} (s : State) (req : Requester) (h0 : RegHit) (h : Keeps s0 s) :
    Keeps s0 (State.takeLower s req h0).2 := by
  unfold State.takeLower
  try dsimp only
  repeat (first
    | with_reducible assumption
    | with_reducible apply Keeps.ite
    | (with_reducible apply Keeps.upd; with_reducible first | assumption | apply Keeps.ite)
    | (refine Keeps.pair (by assumption) ?_)
    | (refine Keeps.pair3 (by assumption) ?_)
    | (intro _ _ _)
    | (intro _ _)
    | (intro _)
    | split
    | dsimp only)

theorem keeps_holdLower {s0 : State} (s : State) (req : Requester) (h0 : RegHit) (v : ℕ) (h : Keeps s0 s) :
    Keeps s0 (State.holdLower s req h0 v) := by
  unfold State.holdLower
  try dsimp only
  repeat (first
    | with_reducible assumption
    | with_reducible apply keeps_takeLower
    | with_reducible apply Keeps.ite
    | (with_reducible apply Keeps.upd; with_reducible first | assumption | apply keeps_takeLower | apply Keeps.ite)
    | (refine Keeps.pair (by assumption) ?_)
    | (refine Keeps.pair3 (by assumption) ?_)
    | (intro _ _ _)
    | (intro _ _)
    | (intro _)
    | split
    | dsimp only)

theorem keeps_wholeValue {s0 : State} (s : State) (req : Requester) (h0 : RegHit) (v : ℕ) (h : Keeps s0 s) :
    Keeps s0 (State.wholeValue s req h0 v).2 := by
  unfold State.wholeValue
  try dsimp only
  repeat (first
    | with_reducible assumption
    | with_reducible apply keeps_takeLower
    | with_reducible apply Keeps.ite
    | (with_reducible apply Keeps.upd; with_reducible first | assumption | apply keeps_takeLower | apply Keeps.ite)
    | (refine Keeps.pair (by assumption) ?_)
    | (refine Keeps.pair3 (by assumption) ?_)
    | (intro _ _ _)
    | (intro _ _)
    | (intro _)
    | split
    | dsimp only)

theorem keeps_writeReg {s0 : State} (s : State) (req : Requester) (h0 : RegHit) (size : ℕ) (v : ℕ) (h : Keeps s0 s) :
    Keeps s0 (State.writeReg s req h0 size v).2 := by
  unfold State.writeReg
  try dsimp only
  repeat (first
    | with_reducible assumption
    | with_reducible apply keeps_takeLower
    | with_reducible apply keeps_writeWords
    | with_reducible apply keeps_holdLower
    | with_reducible apply keeps_wholeValue
    | with_reducible apply Keeps.ite
    | (with_reducible apply Keeps.upd; with_reducible first | assumption | apply keeps_takeLower | apply keeps_writeWords | apply keeps_holdLower | apply keeps_wholeValue | apply Keeps.ite)
    | (refine Keeps.pair (by assumption) ?_)
    | (refine Keeps.pair3 (by assumption) ?_)
    | (intro _ _ _)
    | (intro _ _)
    | (intro _)
    | split
    | dsimp only)

theorem keeps_badAccess {s0 : State} (s : State) (req : Requester) (write : Bool) (a : ℕ) (be : ℕ) (h : Keeps s0 s) :
    Keeps s0 (State.badAccess s req write a be) := by
  unfold State.badAccess
  try dsimp only
  repeat (first
    | with_reducible assumption
    | with_reducible apply keeps_set
    | with_reducible apply keeps_bump
    | with_reducible apply keeps_load
    | with_reducible apply Keeps.ite
    | (with_reducible apply Keeps.upd; with_reducible first | assumption | apply keeps_set | apply keeps_bump | apply keeps_load | apply Keeps.ite)
    | (refine Keeps.pair (by assumption) ?_)
    | (refine Keeps.pair3 (by assumption) ?_)
    | (intro _ _ _)
    | (intro _ _)
    | (intro _)
    | split
    | dsimp only)

theorem keeps_write {s0 : State} (s : State) (req : Requester) (a : ℕ) (size : ℕ) (v : ℕ) (h : Keeps s0 s) :
    Keeps s0 (State.write s req a size v).2 := by
  unfold State.write
  try dsimp only
  repeat (first
    | with_reducible assumption
    | with_reducible apply keeps_badAccess
    | with_reducible apply keeps_writeReg
    | with_reducible apply Keeps.ite
    | (with_reducible apply Keeps.upd; with_reducible first | assumption | apply keeps_badAccess | apply keeps_writeReg | apply Keeps.ite)
    | (refine Keeps.pair (by assumption) ?_)
    | (refine Keeps.pair3 (by assumption) ?_)
    | (intro _ _ _)
    | (intro _ _)
    | (intro _)
    | split
    | dsimp only)

theorem keeps_writeStep {s0 : State} (s : State) (req : Requester) (a : ℕ) (size : ℕ) (v : ℕ) (h : Keeps s0 s) :
    Keeps s0 (State.writeStep s req a size v) := by
  unfold State.writeStep
  try dsimp only
  repeat (first
    | with_reducible assumption
    | with_reducible apply keeps_write
    | with_reducible apply keeps_emit
    | with_reducible apply Keeps.ite
    | (with_reducible apply Keeps.upd; with_reducible first | assumption | apply keeps_write | apply keeps_emit | apply Keeps.ite)
    | (refine Keeps.pair (by assumption) ?_)
    | (refine Keeps.pair3 (by assumption) ?_)
    | (intro _ _ _)
    | (intro _ _)
    | (intro _)
    | split
    | dsimp only)

theorem keeps_read {s0 : State} (s : State) (req : Requester) (a : ℕ) (size : ℕ) (h : Keeps s0 s) :
    Keeps s0 (State.read s req a size).2 := by
  unfold State.read
  try dsimp only
  repeat (first
    | with_reducible assumption
    | with_reducible apply keeps_badAccess
    | with_reducible apply keeps_readPair
    | with_reducible apply keeps_readWord
    | with_reducible apply Keeps.ite
    | (with_reducible apply Keeps.upd; with_reducible first | assumption | apply keeps_badAccess | apply keeps_readPair | apply keeps_readWord | apply Keeps.ite)
    | (refine Keeps.pair (by assumption) ?_)
    | (refine Keeps.pair3 (by assumption) ?_)
    | (intro _ _ _)
    | (intro _ _)
    | (intro _)
    | split
    | dsimp only)

theorem keeps_readStep {s0 : State} (s : State) (req : Requester) (a : ℕ) (size : ℕ) (h : Keeps s0 s) :
    Keeps s0 (State.readStep s req a size) := by
  unfold State.readStep
  try dsimp only
  repeat (first
    | with_reducible assumption
    | with_reducible apply keeps_read
    | with_reducible apply keeps_emit
    | with_reducible apply Keeps.ite
    | (with_reducible apply Keeps.upd; with_reducible first | assumption | apply keeps_read | apply keeps_emit | apply Keeps.ite)
    | (refine Keeps.pair (by assumption) ?_)
    | (refine Keeps.pair3 (by assumption) ?_)
    | (intro _ _ _)
    | (intro _ _)
    | (intro _)
    | split
    | dsimp only)

theorem keeps_execCanCfgWrite {s0 : State} (req : Requester) (addr : ℕ) (size : ℕ) (value : ℕ) (s : State) (h : Keeps s0 s) :
    ∃ u, execCanCfgWrite req addr size value s = finish u ∧ Keeps s0 u := by
  refine ⟨_, rfl, ?_⟩
  try dsimp only
  repeat (first
    | with_reducible assumption
    | with_reducible apply keeps_writeStep
    | with_reducible apply Keeps.ite
    | (with_reducible apply Keeps.upd; with_reducible first | assumption | apply keeps_writeStep | apply Keeps.ite)
    | (refine Keeps.pair (by assumption) ?_)
    | (refine Keeps.pair3 (by assumption) ?_)
    | (intro _ _ _)
    | (intro _ _)
    | (intro _)
    | split
    | dsimp only)

theorem keeps_execFlowContextWrite {s0 : State} (req : Requester) (addr : ℕ) (size : ℕ) (value : ℕ) (s : State) (h : Keeps s0 s) :
    ∃ u, execFlowContextWrite req addr size value s = finish u ∧ Keeps s0 u := by
  refine ⟨_, rfl, ?_⟩
  try dsimp only
  repeat (first
    | with_reducible assumption
    | with_reducible apply keeps_writeStep
    | with_reducible apply Keeps.ite
    | (with_reducible apply Keeps.upd; with_reducible first | assumption | apply keeps_writeStep | apply Keeps.ite)
    | (refine Keeps.pair (by assumption) ?_)
    | (refine Keeps.pair3 (by assumption) ?_)
    | (intro _ _ _)
    | (intro _ _)
    | (intro _)
    | split
    | dsimp only)

theorem keeps_execReg64LowerWordRead {s0 : State} (req : Requester) (addr : ℕ) (s : State) (h : Keeps s0 s) :
    ∃ u, execReg64LowerWordRead req addr s = finish u ∧ Keeps s0 u := by
  refine ⟨_, rfl, ?_⟩
  try dsimp only
  repeat (first
    | with_reducible assumption
    | with_reducible apply keeps_readStep
    | with_reducible apply Keeps.ite
    | (with_reducible apply Keeps.upd; with_reducible first | assumption | apply keeps_readStep | apply Keeps.ite)
    | (refine Keeps.pair (by assumption) ?_)
    | (refine Keeps.pair3 (by assumption) ?_)
    | (intro _ _ _)
    | (intro _ _)
    | (intro _)
    | split
    | dsimp only)

theorem keeps_execWideRegisterWord0Read {s0 : State} (req : Requester) (addr : ℕ) (s : State) (h : Keeps s0 s) :
    ∃ u, execWideRegisterWord0Read req addr s = finish u ∧ Keeps s0 u := by
  refine ⟨_, rfl, ?_⟩
  try dsimp only
  repeat (first
    | with_reducible assumption
    | with_reducible apply keeps_readStep
    | with_reducible apply Keeps.ite
    | (with_reducible apply Keeps.upd; with_reducible first | assumption | apply keeps_readStep | apply Keeps.ite)
    | (refine Keeps.pair (by assumption) ?_)
    | (refine Keeps.pair3 (by assumption) ?_)
    | (intro _ _ _)
    | (intro _ _)
    | (intro _)
    | split
    | dsimp only)

theorem keeps_execReadClearAccess {s0 : State} (req : Requester) (addr : ℕ) (size : ℕ) (s : State) (h : Keeps s0 s) :
    ∃ u, execReadClearAccess req addr size s = finish u ∧ Keeps s0 u := by
  refine ⟨_, rfl, ?_⟩
  try dsimp only
  repeat (first
    | with_reducible assumption
    | with_reducible apply keeps_readStep
    | with_reducible apply Keeps.ite
    | (with_reducible apply Keeps.upd; with_reducible first | assumption | apply keeps_readStep | apply Keeps.ite)
    | (refine Keeps.pair (by assumption) ?_)
    | (refine Keeps.pair3 (by assumption) ?_)
    | (intro _ _ _)
    | (intro _ _)
    | (intro _)
    | split
    | dsimp only)

theorem keeps_execUnperformedAccess {s0 : State} (req : Requester) (write : Bool) (addr : ℕ) (byteEnables : ℕ) (s : State) (h : Keeps s0 s) :
    ∃ u, execUnperformedAccess req write addr byteEnables s = finish u ∧ Keeps s0 u := by
  refine ⟨_, rfl, ?_⟩
  try dsimp only
  repeat (first
    | with_reducible assumption
    | with_reducible apply keeps_badAccess
    | with_reducible apply keeps_emit
    | with_reducible apply Keeps.ite
    | (with_reducible apply Keeps.upd; with_reducible first | assumption | apply keeps_badAccess | apply keeps_emit | apply Keeps.ite)
    | (refine Keeps.pair (by assumption) ?_)
    | (refine Keeps.pair3 (by assumption) ?_)
    | (intro _ _ _)
    | (intro _ _)
    | (intro _)
    | split
    | dsimp only)

end Sys2Proof.Machine
end

