-- ==== Sys2Proof/Laws/KeepsSwitch.lean ====
section
/-! SUPPORT. The operations of `Sys2Proof/Machine/Switch.lean` keep what `Keeps` names. -/

set_option linter.unusedTactic false
set_option linter.unreachableTactic false

namespace Sys2Proof.Machine

theorem keeps_clearReplay {s0 : State} (s : State) (f : ℕ) (h : Keeps s0 s) :
    Keeps s0 (State.clearReplay s f) := by
  unfold State.clearReplay
  try dsimp only
  repeat (first
    | with_reducible assumption
    | with_reducible apply keeps_load
    | with_reducible apply Keeps.ite
    | (with_reducible apply Keeps.upd; with_reducible first | assumption | apply keeps_load | apply Keeps.ite)
    | (refine Keeps.pair (by assumption) ?_)
    | (refine Keeps.pair3 (by assumption) ?_)
    | (intro _ _ _)
    | (intro _ _)
    | (intro _)
    | split
    | dsimp only)

theorem keeps_flipFlow {s0 : State} (s : State) (h : Keeps s0 s) :
    Keeps s0 (State.flipFlow s) := by
  unfold State.flipFlow
  try dsimp only
  repeat (first
    | with_reducible assumption
    | with_reducible apply keeps_load
    | with_reducible apply keeps_setFlowStatus
    | with_reducible apply keeps_clearReplay
    | with_reducible apply Keeps.ite
    | (with_reducible apply Keeps.foldl; intro _ _ _)
    | (with_reducible apply Keeps.upd; with_reducible first | assumption | apply keeps_load | apply keeps_setFlowStatus | apply keeps_clearReplay | apply Keeps.ite | (apply Keeps.foldl; intro _ _ _))
    | (refine Keeps.pair (by assumption) ?_)
    | (refine Keeps.pair3 (by assumption) ?_)
    | (intro _ _ _)
    | (intro _ _)
    | (intro _)
    | split
    | dsimp only)

theorem keeps_flipFrame {s0 : State} (s : State) (h : Keeps s0 s) :
    Keeps s0 (State.flipFrame s) := by
  unfold State.flipFrame
  try dsimp only
  repeat (first
    | with_reducible assumption
    | with_reducible apply keeps_takeFrameEpoch
    | with_reducible apply Keeps.ite
    | (with_reducible apply Keeps.upd; with_reducible first | assumption | apply keeps_takeFrameEpoch | apply Keeps.ite)
    | (refine Keeps.pair (by assumption) ?_)
    | (refine Keeps.pair3 (by assumption) ?_)
    | (intro _ _ _)
    | (intro _ _)
    | (intro _)
    | split
    | dsimp only)

theorem keeps_keySwitch {s0 : State} (s : State) (h : Keeps s0 s) :
    Keeps s0 (State.keySwitch s).2 := by
  unfold State.keySwitch
  try dsimp only
  repeat (first
    | with_reducible assumption
    | with_reducible apply keeps_flipFrame
    | with_reducible apply keeps_flipFlow
    | with_reducible apply Keeps.ite
    | (with_reducible apply Keeps.upd; with_reducible first | assumption | apply keeps_flipFrame | apply keeps_flipFlow | apply Keeps.ite)
    | (refine Keeps.pair (by assumption) ?_)
    | (refine Keeps.pair3 (by assumption) ?_)
    | (intro _ _ _)
    | (intro _ _)
    | (intro _)
    | split
    | dsimp only)

theorem keeps_switchPoint {s0 : State} (s : State) (h : Keeps s0 s) :
    Keeps s0 (State.switchPoint s) := by
  unfold State.switchPoint
  try dsimp only
  repeat (first
    | with_reducible assumption
    | with_reducible apply keeps_keySwitch
    | with_reducible apply keeps_reformQueued
    | with_reducible apply Keeps.ite
    | (with_reducible apply Keeps.upd; with_reducible first | assumption | apply keeps_keySwitch | apply keeps_reformQueued | apply Keeps.ite)
    | (refine Keeps.pair (by assumption) ?_)
    | (refine Keeps.pair3 (by assumption) ?_)
    | (intro _ _ _)
    | (intro _ _)
    | (intro _)
    | split
    | dsimp only)

theorem keeps_execKeySwitchPoint {s0 : State} (s : State) (h : Keeps s0 s) :
    ∃ u, execKeySwitchPoint s = finish u ∧ Keeps s0 u := by
  refine ⟨_, rfl, ?_⟩
  try dsimp only
  repeat (first
    | with_reducible assumption
    | with_reducible apply keeps_switchPoint
    | with_reducible apply Keeps.ite
    | (with_reducible apply Keeps.upd; with_reducible first | assumption | apply keeps_switchPoint | apply Keeps.ite)
    | (refine Keeps.pair (by assumption) ?_)
    | (refine Keeps.pair3 (by assumption) ?_)
    | (intro _ _ _)
    | (intro _ _)
    | (intro _)
    | split
    | dsimp only)

end Sys2Proof.Machine
end

