-- ==== Sys2Proof/Laws/KeepsInaug.lean ====
section
/-! SUPPORT. The operations of `Sys2Proof/Machine/Inaug.lean` keep what `Keeps` names. -/

set_option linter.unusedTactic false
set_option linter.unreachableTactic false

namespace Sys2Proof.Machine

theorem keeps_sendIna {s0 : State} (s : State) (e : ℕ) (f : InaFrame) (h : Keeps s0 s) :
    Keeps s0 (State.sendIna s e f) := by
  unfold State.sendIna
  try dsimp only
  repeat (first
    | with_reducible assumption
    | with_reducible apply keeps_emit
    | with_reducible apply keeps_abortSending
    | with_reducible apply Keeps.ite
    | (with_reducible apply Keeps.foldl; intro _ _ _)
    | (with_reducible apply Keeps.upd; with_reducible first | assumption | apply keeps_emit | apply keeps_abortSending | apply Keeps.ite | (apply Keeps.foldl; intro _ _ _))
    | (refine Keeps.pair (by assumption) ?_)
    | (refine Keeps.pair3 (by assumption) ?_)
    | (intro _ _ _)
    | (intro _ _)
    | (intro _)
    | split
    | dsimp only)

theorem keeps_takePlaces {s0 : State} (s : State) (l : List (ℕ × Place)) (e : ℕ) (h : Keeps s0 s) :
    Keeps s0 (State.takePlaces s l e) := by
  unfold State.takePlaces
  try dsimp only
  repeat (first
    | with_reducible assumption
    | with_reducible apply keeps_inaMap
    | with_reducible apply Keeps.ite
    | (with_reducible apply Keeps.upd; with_reducible first | assumption | apply keeps_inaMap | apply Keeps.ite)
    | (refine Keeps.pair (by assumption) ?_)
    | (refine Keeps.pair3 (by assumption) ?_)
    | (intro _ _ _)
    | (intro _ _)
    | (intro _)
    | split
    | dsimp only)

theorem keeps_claimHead {s0 : State} (s : State) (e : ℕ) (h : Keeps s0 s) :
    Keeps s0 (State.claimHead s e) := by
  unfold State.claimHead
  try dsimp only
  repeat (first
    | with_reducible assumption
    | with_reducible apply keeps_inaMap
    | with_reducible apply keeps_takePlaces
    | with_reducible apply keeps_sendIna
    | with_reducible apply keeps_set
    | with_reducible apply Keeps.ite
    | (with_reducible apply Keeps.upd; with_reducible first | assumption | apply keeps_inaMap | apply keeps_takePlaces | apply keeps_sendIna | apply keeps_set | apply Keeps.ite)
    | (refine Keeps.pair (by assumption) ?_)
    | (refine Keeps.pair3 (by assumption) ?_)
    | (intro _ _ _)
    | (intro _ _)
    | (intro _)
    | split
    | dsimp only)

theorem keeps_takeTopology {s0 : State} (s : State) (c : Commit) (h : Keeps s0 s) :
    Keeps s0 (State.takeTopology s c) := by
  unfold State.takeTopology
  try dsimp only
  repeat (first
    | with_reducible assumption
    | with_reducible apply keeps_inaMap
    | with_reducible apply Keeps.ite
    | (with_reducible apply Keeps.upd; with_reducible first | assumption | apply keeps_inaMap | apply Keeps.ite)
    | (refine Keeps.pair (by assumption) ?_)
    | (refine Keeps.pair3 (by assumption) ?_)
    | (intro _ _ _)
    | (intro _ _)
    | (intro _)
    | split
    | dsimp only)

theorem keeps_showCommit {s0 : State} (s : State) (c : Commit) (kept : Bool) (since : ℕ) (h : Keeps s0 s) :
    Keeps s0 (State.showCommit s c kept since) := by
  unfold State.showCommit
  try dsimp only
  repeat (first
    | with_reducible assumption
    | with_reducible apply keeps_load
    | with_reducible apply keeps_set
    | with_reducible apply keeps_dropLine
    | with_reducible apply keeps_bump
    | with_reducible apply keeps_line
    | with_reducible apply Keeps.ite
    | (with_reducible apply Keeps.upd; with_reducible first | assumption | apply keeps_load | apply keeps_set | apply keeps_dropLine | apply keeps_bump | apply keeps_line | apply Keeps.ite)
    | (refine Keeps.pair (by assumption) ?_)
    | (refine Keeps.pair3 (by assumption) ?_)
    | (intro _ _ _)
    | (intro _ _)
    | (intro _)
    | split
    | dsimp only)

theorem keeps_clearHops {s0 : State} (s : State) (h : Keeps s0 s) :
    Keeps s0 (State.clearHops s) := by
  unfold State.clearHops
  try dsimp only
  repeat (first
    | with_reducible assumption
    | with_reducible apply keeps_load
    | with_reducible apply Keeps.ite
    | (with_reducible apply Keeps.foldl; intro _ _ _)
    | (with_reducible apply Keeps.upd; with_reducible first | assumption | apply keeps_load | apply Keeps.ite | (apply Keeps.foldl; intro _ _ _))
    | (refine Keeps.pair (by assumption) ?_)
    | (refine Keeps.pair3 (by assumption) ?_)
    | (intro _ _ _)
    | (intro _ _)
    | (intro _)
    | split
    | dsimp only)

theorem keeps_startUids {s0 : State} (s : State) (c : Commit) (h : Keeps s0 s) :
    Keeps s0 (State.startUids s c) := by
  unfold State.startUids
  try dsimp only
  repeat (first
    | with_reducible assumption
    | with_reducible apply keeps_inaMap
    | with_reducible apply Keeps.ite
    | (with_reducible apply Keeps.foldl; intro _ _ _)
    | (with_reducible apply Keeps.upd; with_reducible first | assumption | apply keeps_inaMap | apply Keeps.ite | (apply Keeps.foldl; intro _ _ _))
    | (refine Keeps.pair (by assumption) ?_)
    | (refine Keeps.pair3 (by assumption) ?_)
    | (intro _ _ _)
    | (intro _ _)
    | (intro _)
    | split
    | dsimp only)

theorem keeps_recordCommit {s0 : State} (s : State) (c : Commit) (kept : Bool) (h : Keeps s0 s) :
    Keeps s0 (State.recordCommit s c kept) := by
  unfold State.recordCommit
  try dsimp only
  repeat (first
    | with_reducible assumption
    | with_reducible apply keeps_record
    | with_reducible apply keeps_hostEvent
    | with_reducible apply Keeps.ite
    | (with_reducible apply Keeps.upd; with_reducible first | assumption | apply keeps_record | apply keeps_hostEvent | apply Keeps.ite)
    | (refine Keeps.pair (by assumption) ?_)
    | (refine Keeps.pair3 (by assumption) ?_)
    | (intro _ _ _)
    | (intro _ _)
    | (intro _)
    | split
    | dsimp only)

theorem keeps_applyCommit {s0 : State} (s : State) (c : Commit) (h : Keeps s0 s) :
    Keeps s0 (State.applyCommit s c) := by
  unfold State.applyCommit
  try dsimp only
  repeat (first
    | with_reducible assumption
    | with_reducible apply keeps_takeTopology
    | with_reducible apply keeps_recordCommit
    | with_reducible apply keeps_startUids
    | with_reducible apply keeps_clearHops
    | with_reducible apply keeps_showCommit
    | with_reducible apply keeps_delayAnew
    | with_reducible apply keeps_keySwitch
    | with_reducible apply keeps_cycCommit
    | with_reducible apply keeps_brgCommit
    | with_reducible apply keeps_flowsAtCommit
    | with_reducible apply keeps_msgCommit
    | with_reducible apply keeps_sleepTopology
    | with_reducible apply keeps_timCommit
    | with_reducible apply Keeps.ite
    | (with_reducible apply Keeps.foldl; intro _ _ _)
    | (with_reducible apply Keeps.upd; with_reducible first | assumption | apply keeps_takeTopology | apply keeps_recordCommit | apply keeps_startUids | apply keeps_clearHops | apply keeps_showCommit | apply keeps_delayAnew | apply keeps_keySwitch | apply keeps_cycCommit | apply keeps_brgCommit | apply keeps_flowsAtCommit | apply keeps_msgCommit | apply keeps_sleepTopology | apply keeps_timCommit | apply Keeps.ite | (apply Keeps.foldl; intro _ _ _))
    | (refine Keeps.pair (by assumption) ?_)
    | (refine Keeps.pair3 (by assumption) ?_)
    | (intro _ _ _)
    | (intro _ _)
    | (intro _)
    | split
    | dsimp only)

theorem keeps_commitAlone {s0 : State} (s : State) (h : Keeps s0 s) :
    Keeps s0 (State.commitAlone s) := by
  unfold State.commitAlone
  try dsimp only
  repeat (first
    | with_reducible assumption
    | with_reducible apply keeps_takePlaces
    | with_reducible apply keeps_set
    | with_reducible apply keeps_applyCommit
    | with_reducible apply Keeps.ite
    | (with_reducible apply Keeps.upd; with_reducible first | assumption | apply keeps_takePlaces | apply keeps_set | apply keeps_applyCommit | apply Keeps.ite)
    | (refine Keeps.pair (by assumption) ?_)
    | (refine Keeps.pair3 (by assumption) ?_)
    | (intro _ _ _)
    | (intro _ _)
    | (intro _)
    | split
    | dsimp only)

theorem keeps_enterRun {s0 : State} (s : State) (a : ℕ) (h : Keeps s0 s) :
    Keeps s0 (State.enterRun s a) := by
  unfold State.enterRun
  try dsimp only
  repeat (first
    | with_reducible assumption
    | with_reducible apply keeps_inaMap
    | with_reducible apply keeps_load
    | with_reducible apply Keeps.ite
    | (with_reducible apply Keeps.upd; with_reducible first | assumption | apply keeps_inaMap | apply keeps_load | apply Keeps.ite)
    | (refine Keeps.pair (by assumption) ?_)
    | (refine Keeps.pair3 (by assumption) ?_)
    | (intro _ _ _)
    | (intro _ _)
    | (intro _)
    | split
    | dsimp only)

theorem keeps_startRun {s0 : State} (s : State) (a : ℕ) (h : Keeps s0 s) :
    Keeps s0 (State.startRun s a) := by
  unfold State.startRun
  try dsimp only
  repeat (first
    | with_reducible assumption
    | with_reducible apply keeps_enterRun
    | with_reducible apply keeps_claimHead
    | with_reducible apply keeps_sendIna
    | with_reducible apply keeps_commitAlone
    | with_reducible apply Keeps.ite
    | (with_reducible apply Keeps.upd; with_reducible first | assumption | apply keeps_enterRun | apply keeps_claimHead | apply keeps_sendIna | apply keeps_commitAlone | apply Keeps.ite)
    | (refine Keeps.pair (by assumption) ?_)
    | (refine Keeps.pair3 (by assumption) ?_)
    | (intro _ _ _)
    | (intro _ _)
    | (intro _)
    | split
    | dsimp only)

theorem keeps_joinRun {s0 : State} (s : State) (a : ℕ) (h : Keeps s0 s) :
    Keeps s0 (State.joinRun s a) := by
  unfold State.joinRun
  try dsimp only
  repeat (first
    | with_reducible assumption
    | with_reducible apply keeps_enterRun
    | with_reducible apply keeps_claimHead
    | with_reducible apply Keeps.ite
    | (with_reducible apply Keeps.upd; with_reducible first | assumption | apply keeps_enterRun | apply keeps_claimHead | apply Keeps.ite)
    | (refine Keeps.pair (by assumption) ?_)
    | (refine Keeps.pair3 (by assumption) ?_)
    | (intro _ _ _)
    | (intro _ _)
    | (intro _)
    | split
    | dsimp only)

theorem keeps_firstCopy {s0 : State} (s : State) (p : ℕ) (kind : ℕ) (f : InaFrame) (h : Keeps s0 s) :
    Keeps s0 (State.firstCopy s p kind f).2 := by
  unfold State.firstCopy
  try dsimp only
  repeat (first
    | with_reducible assumption
    | with_reducible apply keeps_inaMap
    | with_reducible apply Keeps.ite
    | (with_reducible apply Keeps.upd; with_reducible first | assumption | apply keeps_inaMap | apply Keeps.ite)
    | (refine Keeps.pair (by assumption) ?_)
    | (refine Keeps.pair3 (by assumption) ?_)
    | (intro _ _ _)
    | (intro _ _)
    | (intro _)
    | split
    | dsimp only)

theorem keeps_takeAlert {s0 : State} (s : State) (e : ℕ) (f : InaFrame) (h : Keeps s0 s) :
    Keeps s0 (State.takeAlert s e f) := by
  unfold State.takeAlert
  try dsimp only
  repeat (first
    | with_reducible assumption
    | with_reducible apply keeps_joinRun
    | with_reducible apply keeps_sendIna
    | with_reducible apply Keeps.ite
    | (with_reducible apply Keeps.upd; with_reducible first | assumption | apply keeps_joinRun | apply keeps_sendIna | apply Keeps.ite)
    | (refine Keeps.pair (by assumption) ?_)
    | (refine Keeps.pair3 (by assumption) ?_)
    | (intro _ _ _)
    | (intro _ _)
    | (intro _)
    | split
    | dsimp only)

theorem keeps_execAlertReceive {s0 : State} (port : ℕ) (frame : InaFrame) (s : State) (h : Keeps s0 s) :
    ∃ u, execAlertReceive port frame s = finish u ∧ Keeps s0 u := by
  refine ⟨_, rfl, ?_⟩
  try dsimp only
  repeat (first
    | with_reducible assumption
    | with_reducible apply keeps_firstCopy
    | with_reducible apply keeps_takeAlert
    | with_reducible apply Keeps.ite
    | (with_reducible apply Keeps.upd; with_reducible first | assumption | apply keeps_firstCopy | apply keeps_takeAlert | apply Keeps.ite)
    | (refine Keeps.pair (by assumption) ?_)
    | (refine Keeps.pair3 (by assumption) ?_)
    | (intro _ _ _)
    | (intro _ _)
    | (intro _)
    | split
    | dsimp only)

theorem keeps_passDisc {s0 : State} (s : State) (e : ℕ) (d : InaFrame) (h : Keeps s0 s) :
    Keeps s0 (State.passDisc s e d) := by
  unfold State.passDisc
  try dsimp only
  repeat (first
    | with_reducible assumption
    | with_reducible apply keeps_inaMap
    | with_reducible apply keeps_takePlaces
    | with_reducible apply keeps_sendIna
    | with_reducible apply keeps_set
    | with_reducible apply Keeps.ite
    | (with_reducible apply Keeps.upd; with_reducible first | assumption | apply keeps_inaMap | apply keeps_takePlaces | apply keeps_sendIna | apply keeps_set | apply Keeps.ite)
    | (refine Keeps.pair (by assumption) ?_)
    | (refine Keeps.pair3 (by assumption) ?_)
    | (intro _ _ _)
    | (intro _ _)
    | (intro _)
    | split
    | dsimp only)

theorem keeps_takeDisc {s0 : State} (s : State) (e : ℕ) (d : InaFrame) (h : Keeps s0 s) :
    Keeps s0 (State.takeDisc s e d) := by
  unfold State.takeDisc
  try dsimp only
  repeat (first
    | with_reducible assumption
    | with_reducible apply keeps_joinRun
    | with_reducible apply keeps_passDisc
    | with_reducible apply Keeps.ite
    | (with_reducible apply Keeps.upd; with_reducible first | assumption | apply keeps_joinRun | apply keeps_passDisc | apply Keeps.ite)
    | (refine Keeps.pair (by assumption) ?_)
    | (refine Keeps.pair3 (by assumption) ?_)
    | (intro _ _ _)
    | (intro _ _)
    | (intro _)
    | split
    | dsimp only)

theorem keeps_execDiscReceive {s0 : State} (port : ℕ) (frame : InaFrame) (s : State) (h : Keeps s0 s) :
    ∃ u, execDiscReceive port frame s = finish u ∧ Keeps s0 u := by
  refine ⟨_, rfl, ?_⟩
  try dsimp only
  repeat (first
    | with_reducible assumption
    | with_reducible apply keeps_firstCopy
    | with_reducible apply keeps_takeDisc
    | with_reducible apply Keeps.ite
    | (with_reducible apply Keeps.upd; with_reducible first | assumption | apply keeps_firstCopy | apply keeps_takeDisc | apply Keeps.ite)
    | (refine Keeps.pair (by assumption) ?_)
    | (refine Keeps.pair3 (by assumption) ?_)
    | (intro _ _ _)
    | (intro _ _)
    | (intro _)
    | split
    | dsimp only)

theorem keeps_answerRet {s0 : State} (s : State) (e : ℕ) (r : InaFrame) (h : Keeps s0 s) :
    Keeps s0 (State.answerRet s e r) := by
  unfold State.answerRet
  try dsimp only
  repeat (first
    | with_reducible assumption
    | with_reducible apply keeps_applyCommit
    | with_reducible apply keeps_sendIna
    | with_reducible apply keeps_inaMap
    | with_reducible apply Keeps.ite
    | (with_reducible apply Keeps.upd; with_reducible first | assumption | apply keeps_applyCommit | apply keeps_sendIna | apply keeps_inaMap | apply Keeps.ite)
    | (refine Keeps.pair (by assumption) ?_)
    | (refine Keeps.pair3 (by assumption) ?_)
    | (intro _ _ _)
    | (intro _ _)
    | (intro _)
    | split
    | dsimp only)

theorem keeps_takeRet {s0 : State} (s : State) (e : ℕ) (r : InaFrame) (h : Keeps s0 s) :
    Keeps s0 (State.takeRet s e r) := by
  unfold State.takeRet
  try dsimp only
  repeat (first
    | with_reducible assumption
    | with_reducible apply keeps_answerRet
    | with_reducible apply keeps_sendIna
    | with_reducible apply keeps_inaMap
    | with_reducible apply Keeps.ite
    | (with_reducible apply Keeps.upd; with_reducible first | assumption | apply keeps_answerRet | apply keeps_sendIna | apply keeps_inaMap | apply Keeps.ite)
    | (refine Keeps.pair (by assumption) ?_)
    | (refine Keeps.pair3 (by assumption) ?_)
    | (intro _ _ _)
    | (intro _ _)
    | (intro _)
    | split
    | dsimp only)

theorem keeps_execRetReceive {s0 : State} (port : ℕ) (frame : InaFrame) (s : State) (h : Keeps s0 s) :
    ∃ u, execRetReceive port frame s = finish u ∧ Keeps s0 u := by
  refine ⟨_, rfl, ?_⟩
  try dsimp only
  repeat (first
    | with_reducible assumption
    | with_reducible apply keeps_firstCopy
    | with_reducible apply keeps_takeRet
    | with_reducible apply Keeps.ite
    | (with_reducible apply Keeps.upd; with_reducible first | assumption | apply keeps_firstCopy | apply keeps_takeRet | apply Keeps.ite)
    | (refine Keeps.pair (by assumption) ?_)
    | (refine Keeps.pair3 (by assumption) ?_)
    | (intro _ _ _)
    | (intro _ _)
    | (intro _)
    | split
    | dsimp only)

theorem keeps_takeCommit {s0 : State} (s : State) (e : ℕ) (f : InaFrame) (h : Keeps s0 s) :
    Keeps s0 (State.takeCommit s e f) := by
  unfold State.takeCommit
  try dsimp only
  repeat (first
    | with_reducible assumption
    | with_reducible apply keeps_set
    | with_reducible apply keeps_applyCommit
    | with_reducible apply keeps_sendIna
    | with_reducible apply Keeps.ite
    | (with_reducible apply Keeps.upd; with_reducible first | assumption | apply keeps_set | apply keeps_applyCommit | apply keeps_sendIna | apply Keeps.ite)
    | (refine Keeps.pair (by assumption) ?_)
    | (refine Keeps.pair3 (by assumption) ?_)
    | (intro _ _ _)
    | (intro _ _)
    | (intro _)
    | split
    | dsimp only)

theorem keeps_execInaugCommitReceive {s0 : State} (port : ℕ) (frame : InaFrame) (s : State) (h : Keeps s0 s) :
    ∃ u, execInaugCommitReceive port frame s = finish u ∧ Keeps s0 u := by
  refine ⟨_, rfl, ?_⟩
  try dsimp only
  repeat (first
    | with_reducible assumption
    | with_reducible apply keeps_firstCopy
    | with_reducible apply keeps_takeCommit
    | with_reducible apply Keeps.ite
    | (with_reducible apply Keeps.upd; with_reducible first | assumption | apply keeps_firstCopy | apply keeps_takeCommit | apply Keeps.ite)
    | (refine Keeps.pair (by assumption) ?_)
    | (refine Keeps.pair3 (by assumption) ?_)
    | (intro _ _ _)
    | (intro _ _)
    | (intro _)
    | split
    | dsimp only)

theorem keeps_takeDone {s0 : State} (s : State) (e : ℕ) (f : InaFrame) (h : Keeps s0 s) :
    Keeps s0 (State.takeDone s e f) := by
  unfold State.takeDone
  try dsimp only
  repeat (first
    | with_reducible assumption
    | with_reducible apply keeps_set
    | with_reducible apply keeps_inaMap
    | with_reducible apply keeps_sendIna
    | with_reducible apply Keeps.ite
    | (with_reducible apply Keeps.upd; with_reducible first | assumption | apply keeps_set | apply keeps_inaMap | apply keeps_sendIna | apply Keeps.ite)
    | (refine Keeps.pair (by assumption) ?_)
    | (refine Keeps.pair3 (by assumption) ?_)
    | (intro _ _ _)
    | (intro _ _)
    | (intro _)
    | split
    | dsimp only)

theorem keeps_execDoneReceive {s0 : State} (port : ℕ) (frame : InaFrame) (s : State) (h : Keeps s0 s) :
    ∃ u, execDoneReceive port frame s = finish u ∧ Keeps s0 u := by
  refine ⟨_, rfl, ?_⟩
  try dsimp only
  repeat (first
    | with_reducible assumption
    | with_reducible apply keeps_firstCopy
    | with_reducible apply keeps_takeDone
    | with_reducible apply Keeps.ite
    | (with_reducible apply Keeps.upd; with_reducible first | assumption | apply keeps_firstCopy | apply keeps_takeDone | apply Keeps.ite)
    | (refine Keeps.pair (by assumption) ?_)
    | (refine Keeps.pair3 (by assumption) ?_)
    | (intro _ _ _)
    | (intro _ _)
    | (intro _)
    | split
    | dsimp only)

theorem keeps_endHoldOver {s0 : State} (s : State) (e : ℕ) (h : Keeps s0 s) :
    Keeps s0 (State.endHoldOver s e) := by
  unfold State.endHoldOver
  try dsimp only
  repeat (first
    | with_reducible assumption
    | with_reducible apply keeps_inaTrigger
    | with_reducible apply keeps_inaMap
    | with_reducible apply Keeps.ite
    | (with_reducible apply Keeps.upd; with_reducible first | assumption | apply keeps_inaTrigger | apply keeps_inaMap | apply Keeps.ite)
    | (refine Keeps.pair (by assumption) ?_)
    | (refine Keeps.pair3 (by assumption) ?_)
    | (intro _ _ _)
    | (intro _ _)
    | (intro _)
    | split
    | dsimp only)

theorem keeps_execEndNotLinkedHold {s0 : State} (side : ℕ) (s : State) (h : Keeps s0 s) :
    ∃ u, execEndNotLinkedHold side s = finish u ∧ Keeps s0 u := by
  refine ⟨_, rfl, ?_⟩
  try dsimp only
  repeat (first
    | with_reducible assumption
    | with_reducible apply keeps_endHoldOver
    | with_reducible apply Keeps.ite
    | (with_reducible apply Keeps.upd; with_reducible first | assumption | apply keeps_endHoldOver | apply Keeps.ite)
    | (refine Keeps.pair (by assumption) ?_)
    | (refine Keeps.pair3 (by assumption) ?_)
    | (intro _ _ _)
    | (intro _ _)
    | (intro _)
    | split
    | dsimp only)

theorem keeps_endHeard {s0 : State} (s : State) (e : ℕ) (h : Keeps s0 s) :
    Keeps s0 (State.endHeard s e) := by
  unfold State.endHeard
  try dsimp only
  repeat (first
    | with_reducible assumption
    | with_reducible apply Keeps.ite
    | (with_reducible apply Keeps.upd; with_reducible first | assumption | apply Keeps.ite)
    | (refine Keeps.pair (by assumption) ?_)
    | (refine Keeps.pair3 (by assumption) ?_)
    | (intro _ _ _)
    | (intro _ _)
    | (intro _)
    | split
    | dsimp only)

theorem keeps_takeHello {s0 : State} (s : State) (p : ℕ) (f : InaFrame) (h : Keeps s0 s) :
    Keeps s0 (State.takeHello s p f) := by
  unfold State.takeHello
  try dsimp only
  repeat (first
    | with_reducible assumption
    | with_reducible apply keeps_portMap
    | with_reducible apply keeps_inaMap
    | with_reducible apply keeps_endHeard
    | with_reducible apply keeps_inaTrigger
    | with_reducible apply Keeps.ite
    | (with_reducible apply Keeps.upd; with_reducible first | assumption | apply keeps_portMap | apply keeps_inaMap | apply keeps_endHeard | apply keeps_inaTrigger | apply Keeps.ite)
    | (refine Keeps.pair (by assumption) ?_)
    | (refine Keeps.pair3 (by assumption) ?_)
    | (intro _ _ _)
    | (intro _ _)
    | (intro _)
    | split
    | dsimp only)

theorem keeps_execHelloReceive {s0 : State} (port : ℕ) (frame : InaFrame) (s : State) (h : Keeps s0 s) :
    ∃ u, execHelloReceive port frame s = finish u ∧ Keeps s0 u := by
  refine ⟨_, rfl, ?_⟩
  try dsimp only
  repeat (first
    | with_reducible assumption
    | with_reducible apply keeps_takeHello
    | with_reducible apply Keeps.ite
    | (with_reducible apply Keeps.upd; with_reducible first | assumption | apply keeps_takeHello | apply Keeps.ite)
    | (refine Keeps.pair (by assumption) ?_)
    | (refine Keeps.pair3 (by assumption) ?_)
    | (intro _ _ _)
    | (intro _ _)
    | (intro _)
    | split
    | dsimp only)

theorem keeps_execHelloRepeat {s0 : State} (port : ℕ) (s : State) (h : Keeps s0 s) :
    ∃ u, execHelloRepeat port s = finish u ∧ Keeps s0 u := by
  refine ⟨_, rfl, ?_⟩
  try dsimp only
  repeat (first
    | with_reducible assumption
    | with_reducible apply keeps_sendHello
    | with_reducible apply Keeps.ite
    | (with_reducible apply Keeps.upd; with_reducible first | assumption | apply keeps_sendHello | apply Keeps.ite)
    | (refine Keeps.pair (by assumption) ?_)
    | (refine Keeps.pair3 (by assumption) ?_)
    | (intro _ _ _)
    | (intro _ _)
    | (intro _)
    | split
    | dsimp only)

theorem keeps_coupleSense {s0 : State} (s : State) (e : ℕ) (level : Bool) (h : Keeps s0 s) :
    Keeps s0 (State.coupleSense s e level) := by
  unfold State.coupleSense
  try dsimp only
  repeat (first
    | with_reducible assumption
    | with_reducible apply keeps_load
    | with_reducible apply keeps_inaTrigger
    | with_reducible apply Keeps.ite
    | (with_reducible apply Keeps.upd; with_reducible first | assumption | apply keeps_load | apply keeps_inaTrigger | apply Keeps.ite)
    | (refine Keeps.pair (by assumption) ?_)
    | (refine Keeps.pair3 (by assumption) ?_)
    | (intro _ _ _)
    | (intro _ _)
    | (intro _)
    | split
    | dsimp only)

theorem keeps_execCoupleSenseDebounced {s0 : State} (side : ℕ) (level : Bool) (s : State) (h : Keeps s0 s) :
    ∃ u, execCoupleSenseDebounced side level s = finish u ∧ Keeps s0 u := by
  refine ⟨_, rfl, ?_⟩
  try dsimp only
  repeat (first
    | with_reducible assumption
    | with_reducible apply keeps_coupleSense
    | with_reducible apply Keeps.ite
    | (with_reducible apply Keeps.upd; with_reducible first | assumption | apply keeps_coupleSense | apply Keeps.ite)
    | (refine Keeps.pair (by assumption) ?_)
    | (refine Keeps.pair3 (by assumption) ?_)
    | (intro _ _ _)
    | (intro _ _)
    | (intro _)
    | split
    | dsimp only)

theorem keeps_cabSense {s0 : State} (s : State) (level : Bool) (h : Keeps s0 s) :
    Keeps s0 (State.cabSense s level) := by
  unfold State.cabSense
  try dsimp only
  repeat (first
    | with_reducible assumption
    | with_reducible apply keeps_load
    | with_reducible apply keeps_inaTrigger
    | with_reducible apply Keeps.ite
    | (with_reducible apply Keeps.upd; with_reducible first | assumption | apply keeps_load | apply keeps_inaTrigger | apply Keeps.ite)
    | (refine Keeps.pair (by assumption) ?_)
    | (refine Keeps.pair3 (by assumption) ?_)
    | (intro _ _ _)
    | (intro _ _)
    | (intro _)
    | split
    | dsimp only)

theorem keeps_execCabActiveDebounced {s0 : State} (level : Bool) (s : State) (h : Keeps s0 s) :
    ∃ u, execCabActiveDebounced level s = finish u ∧ Keeps s0 u := by
  refine ⟨_, rfl, ?_⟩
  try dsimp only
  repeat (first
    | with_reducible assumption
    | with_reducible apply keeps_cabSense
    | with_reducible apply Keeps.ite
    | (with_reducible apply Keeps.upd; with_reducible first | assumption | apply keeps_cabSense | apply Keeps.ite)
    | (refine Keeps.pair (by assumption) ?_)
    | (refine Keeps.pair3 (by assumption) ?_)
    | (intro _ _ _)
    | (intro _ _)
    | (intro _)
    | split
    | dsimp only)

theorem keeps_cmdInaugurate {s0 : State} (a : ℕ) (t : State) (h : Keeps s0 t) :
    Keeps s0 ((cmdInaugurate ).run a t) := by
  unfold cmdInaugurate
  try dsimp only
  repeat (first
    | with_reducible assumption
    | with_reducible apply keeps_inaTrigger
    | with_reducible apply Keeps.ite
    | (with_reducible apply Keeps.upd; with_reducible first | assumption | apply keeps_inaTrigger | apply Keeps.ite)
    | (refine Keeps.pair (by assumption) ?_)
    | (refine Keeps.pair3 (by assumption) ?_)
    | (intro _ _ _)
    | (intro _ _)
    | (intro _)
    | split
    | dsimp only)

theorem keeps_execInaugurate {s0 : State} (path : Path) (arg : ℕ) (s : State) (h : Keeps s0 s) :
    ∃ u, execInaugurate path arg s = finish u ∧ Keeps s0 u := by
  refine ⟨_, rfl, ?_⟩
  try dsimp only
  repeat (first
    | with_reducible assumption
    | with_reducible apply keeps_command
    | with_reducible apply keeps_cmdInaugurate
    | with_reducible apply Keeps.ite
    | (with_reducible apply Keeps.upd; with_reducible first | assumption | apply keeps_command | apply keeps_cmdInaugurate | apply Keeps.ite)
    | (refine Keeps.pair (by assumption) ?_)
    | (refine Keeps.pair3 (by assumption) ?_)
    | (intro _ _ _)
    | (intro _ _)
    | (intro _)
    | split
    | dsimp only)

theorem keeps_execSettleEnd {s0 : State} (s : State) (h : Keeps s0 s) :
    ∃ u, execSettleEnd s = finish u ∧ Keeps s0 u := by
  refine ⟨_, rfl, ?_⟩
  try dsimp only
  repeat (first
    | with_reducible assumption
    | with_reducible apply keeps_startRun
    | with_reducible apply Keeps.ite
    | (with_reducible apply Keeps.upd; with_reducible first | assumption | apply keeps_startRun | apply Keeps.ite)
    | (refine Keeps.pair (by assumption) ?_)
    | (refine Keeps.pair3 (by assumption) ?_)
    | (intro _ _ _)
    | (intro _ _)
    | (intro _)
    | split
    | dsimp only)

theorem keeps_execRunRestartWaitEnd {s0 : State} (s : State) (h : Keeps s0 s) :
    ∃ u, execRunRestartWaitEnd s = finish u ∧ Keeps s0 u := by
  refine ⟨_, rfl, ?_⟩
  try dsimp only
  repeat (first
    | with_reducible assumption
    | with_reducible apply keeps_startRun
    | with_reducible apply Keeps.ite
    | (with_reducible apply Keeps.upd; with_reducible first | assumption | apply keeps_startRun | apply Keeps.ite)
    | (refine Keeps.pair (by assumption) ?_)
    | (refine Keeps.pair3 (by assumption) ?_)
    | (intro _ _ _)
    | (intro _ _)
    | (intro _)
    | split
    | dsimp only)

theorem keeps_execRunTimeout {s0 : State} (s : State) (h : Keeps s0 s) :
    ∃ u, execRunTimeout s = finish u ∧ Keeps s0 u := by
  refine ⟨_, rfl, ?_⟩
  try dsimp only
  repeat (first
    | with_reducible assumption
    | with_reducible apply keeps_abandonRun
    | with_reducible apply Keeps.ite
    | (with_reducible apply Keeps.upd; with_reducible first | assumption | apply keeps_abandonRun | apply Keeps.ite)
    | (refine Keeps.pair (by assumption) ?_)
    | (refine Keeps.pair3 (by assumption) ?_)
    | (intro _ _ _)
    | (intro _ _)
    | (intro _)
    | split
    | dsimp only)

theorem keeps_execFailedRetry {s0 : State} (s : State) (h : Keeps s0 s) :
    ∃ u, execFailedRetry s = finish u ∧ Keeps s0 u := by
  refine ⟨_, rfl, ?_⟩
  try dsimp only
  repeat (first
    | with_reducible assumption
    | with_reducible apply keeps_startRun
    | with_reducible apply Keeps.ite
    | (with_reducible apply Keeps.upd; with_reducible first | assumption | apply keeps_startRun | apply Keeps.ite)
    | (refine Keeps.pair (by assumption) ?_)
    | (refine Keeps.pair3 (by assumption) ?_)
    | (intro _ _ _)
    | (intro _ _)
    | (intro _)
    | split
    | dsimp only)

theorem keeps_execGraceEnd {s0 : State} (s : State) (h : Keeps s0 s) :
    ∃ u, execGraceEnd s = finish u ∧ Keeps s0 u := by
  refine ⟨_, rfl, ?_⟩
  try dsimp only
  repeat (first
    | with_reducible assumption
    | with_reducible apply keeps_set
    | with_reducible apply Keeps.ite
    | (with_reducible apply Keeps.upd; with_reducible first | assumption | apply keeps_set | apply Keeps.ite)
    | (refine Keeps.pair (by assumption) ?_)
    | (refine Keeps.pair3 (by assumption) ?_)
    | (intro _ _ _)
    | (intro _ _)
    | (intro _)
    | split
    | dsimp only)

theorem keeps_sendHops {s0 : State} (s : State) (h : Keeps s0 s) :
    Keeps s0 (State.sendHops s) := by
  unfold State.sendHops
  try dsimp only
  repeat (first
    | with_reducible assumption
    | with_reducible apply keeps_originate
    | with_reducible apply Keeps.ite
    | (with_reducible apply Keeps.foldl; intro _ _ _)
    | (with_reducible apply Keeps.upd; with_reducible first | assumption | apply keeps_originate | apply Keeps.ite | (apply Keeps.foldl; intro _ _ _))
    | (refine Keeps.pair (by assumption) ?_)
    | (refine Keeps.pair3 (by assumption) ?_)
    | (intro _ _ _)
    | (intro _ _)
    | (intro _)
    | split
    | dsimp only)

theorem keeps_execHopdlySend {s0 : State} (s : State) (h : Keeps s0 s) :
    ∃ u, execHopdlySend s = finish u ∧ Keeps s0 u := by
  refine ⟨_, rfl, ?_⟩
  try dsimp only
  repeat (first
    | with_reducible assumption
    | with_reducible apply keeps_sendHops
    | with_reducible apply Keeps.ite
    | (with_reducible apply Keeps.upd; with_reducible first | assumption | apply keeps_sendHops | apply Keeps.ite)
    | (refine Keeps.pair (by assumption) ?_)
    | (refine Keeps.pair3 (by assumption) ?_)
    | (intro _ _ _)
    | (intro _ _)
    | (intro _)
    | split
    | dsimp only)

theorem keeps_takeHop {s0 : State} (s : State) (f : MsgFrame) (h : Keeps s0 s) :
    Keeps s0 (State.takeHop s f) := by
  unfold State.takeHop
  try dsimp only
  repeat (first
    | with_reducible assumption
    | with_reducible apply keeps_takeInbox
    | with_reducible apply keeps_inaMap
    | with_reducible apply keeps_releaseReturned
    | with_reducible apply keeps_resolveWindows
    | with_reducible apply keeps_resolveFlows
    | with_reducible apply Keeps.ite
    | (with_reducible apply Keeps.upd; with_reducible first | assumption | apply keeps_takeInbox | apply keeps_inaMap | apply keeps_releaseReturned | apply keeps_resolveWindows | apply keeps_resolveFlows | apply Keeps.ite)
    | (refine Keeps.pair (by assumption) ?_)
    | (refine Keeps.pair3 (by assumption) ?_)
    | (intro _ _ _)
    | (intro _ _)
    | (intro _)
    | split
    | dsimp only)

theorem keeps_execHopdlyReceive {s0 : State} (frame : MsgFrame) (s : State) (h : Keeps s0 s) :
    ∃ u, execHopdlyReceive frame s = finish u ∧ Keeps s0 u := by
  refine ⟨_, rfl, ?_⟩
  try dsimp only
  repeat (first
    | with_reducible assumption
    | with_reducible apply keeps_takeHop
    | with_reducible apply Keeps.ite
    | (with_reducible apply Keeps.upd; with_reducible first | assumption | apply keeps_takeHop | apply Keeps.ite)
    | (refine Keeps.pair (by assumption) ?_)
    | (refine Keeps.pair3 (by assumption) ?_)
    | (intro _ _ _)
    | (intro _ _)
    | (intro _)
    | split
    | dsimp only)

theorem keeps_hopEpoch {s0 : State} (s : State) (h : Keeps s0 s) :
    Keeps s0 (State.hopEpoch s) := by
  unfold State.hopEpoch
  try dsimp only
  repeat (first
    | with_reducible assumption
    | with_reducible apply keeps_load
    | with_reducible apply keeps_inaMap
    | with_reducible apply Keeps.ite
    | (with_reducible apply Keeps.foldl; intro _ _ _)
    | (with_reducible apply Keeps.upd; with_reducible first | assumption | apply keeps_load | apply keeps_inaMap | apply Keeps.ite | (apply Keeps.foldl; intro _ _ _))
    | (refine Keeps.pair (by assumption) ?_)
    | (refine Keeps.pair3 (by assumption) ?_)
    | (intro _ _ _)
    | (intro _ _)
    | (intro _)
    | split
    | dsimp only)

end Sys2Proof.Machine
end

