-- ==== Sys2Proof/Laws/KeepsConsist.lean ====
section
/-! SUPPORT. The operations of `Sys2Proof/Machine/Consist.lean` keep what `Keeps` names. -/

set_option linter.unusedTactic false
set_option linter.unreachableTactic false

namespace Sys2Proof.Machine

theorem keeps_anchorGuard {s0 : State} (s : State) (start : ℤ) (count : ℕ) (h : Keeps s0 s) :
    Keeps s0 (State.anchorGuard s start count) := by
  unfold State.anchorGuard
  try dsimp only
  repeat (first
    | with_reducible assumption
    | with_reducible apply keeps_cstMap
    | with_reducible apply keeps_record
    | with_reducible apply keeps_load
    | with_reducible apply Keeps.ite
    | (with_reducible apply Keeps.upd; with_reducible first | assumption | apply keeps_cstMap | apply keeps_record | apply keeps_load | apply Keeps.ite)
    | (refine Keeps.pair (by assumption) ?_)
    | (refine Keeps.pair3 (by assumption) ?_)
    | (intro _ _ _)
    | (intro _ _)
    | (intro _)
    | split
    | dsimp only)

theorem keeps_consistSend {s0 : State} (s : State) (id : ℕ) (payload : Bytes) (null_ : Bool) (offset : ℤ) (h : Keeps s0 s) :
    Keeps s0 (State.consistSend s id payload null_ offset) := by
  unfold State.consistSend
  try dsimp only
  repeat (first
    | with_reducible assumption
    | with_reducible apply keeps_cstMap
    | with_reducible apply keeps_anchorGuard
    | with_reducible apply keeps_emit
    | with_reducible apply Keeps.ite
    | (with_reducible apply Keeps.upd; with_reducible first | assumption | apply keeps_cstMap | apply keeps_anchorGuard | apply keeps_emit | apply Keeps.ite)
    | (refine Keeps.pair (by assumption) ?_)
    | (refine Keeps.pair3 (by assumption) ?_)
    | (intro _ _ _)
    | (intro _ _)
    | (intro _)
    | split
    | dsimp only)

theorem keeps_takeContent {s0 : State} (s : State) (id : ℕ) (h : Keeps s0 s) :
    Keeps s0 (State.takeContent s id).2 := by
  unfold State.takeContent
  try dsimp only
  repeat (first
    | with_reducible assumption
    | with_reducible apply keeps_cstMap
    | with_reducible apply Keeps.ite
    | (with_reducible apply Keeps.upd; with_reducible first | assumption | apply keeps_cstMap | apply Keeps.ite)
    | (refine Keeps.pair (by assumption) ?_)
    | (refine Keeps.pair3 (by assumption) ?_)
    | (intro _ _ _)
    | (intro _ _)
    | (intro _)
    | split
    | dsimp only)

theorem keeps_sendStatic {s0 : State} (s : State) (id : ℕ) (offset : ℤ) (h : Keeps s0 s) :
    Keeps s0 (State.sendStatic s id offset) := by
  unfold State.sendStatic
  try dsimp only
  repeat (first
    | with_reducible assumption
    | with_reducible apply keeps_takeContent
    | with_reducible apply keeps_consistSend
    | with_reducible apply Keeps.ite
    | (with_reducible apply Keeps.upd; with_reducible first | assumption | apply keeps_takeContent | apply keeps_consistSend | apply Keeps.ite)
    | (refine Keeps.pair (by assumption) ?_)
    | (refine Keeps.pair3 (by assumption) ?_)
    | (intro _ _ _)
    | (intro _ _)
    | (intro _)
    | split
    | dsimp only)

theorem keeps_sendDynamic {s0 : State} (s : State) (id : ℕ) (offset : ℤ) (h : Keeps s0 s) :
    Keeps s0 (State.sendDynamic s id offset) := by
  unfold State.sendDynamic
  try dsimp only
  repeat (first
    | with_reducible assumption
    | with_reducible apply keeps_takeContent
    | with_reducible apply keeps_consistSend
    | with_reducible apply keeps_cstMap
    | with_reducible apply Keeps.ite
    | (with_reducible apply Keeps.upd; with_reducible first | assumption | apply keeps_takeContent | apply keeps_consistSend | apply keeps_cstMap | apply Keeps.ite)
    | (refine Keeps.pair (by assumption) ?_)
    | (refine Keeps.pair3 (by assumption) ?_)
    | (intro _ _ _)
    | (intro _ _)
    | (intro _)
    | split
    | dsimp only)

theorem keeps_selfCheck {s0 : State} (s : State) (h : Keeps s0 s) :
    Keeps s0 (State.selfCheck s).2 := by
  unfold State.selfCheck
  try dsimp only
  repeat (first
    | with_reducible assumption
    | with_reducible apply keeps_bump
    | with_reducible apply keeps_cstMap
    | with_reducible apply Keeps.ite
    | (with_reducible apply Keeps.upd; with_reducible first | assumption | apply keeps_bump | apply keeps_cstMap | apply Keeps.ite)
    | (refine Keeps.pair (by assumption) ?_)
    | (refine Keeps.pair3 (by assumption) ?_)
    | (intro _ _ _)
    | (intro _ _)
    | (intro _)
    | split
    | dsimp only)

theorem keeps_showPhase {s0 : State} (s : State) (h : Keeps s0 s) :
    Keeps s0 (State.showPhase s) := by
  unfold State.showPhase
  try dsimp only
  repeat (first
    | with_reducible assumption
    | with_reducible apply keeps_load
    | with_reducible apply keeps_set
    | with_reducible apply Keeps.ite
    | (with_reducible apply Keeps.upd; with_reducible first | assumption | apply keeps_load | apply keeps_set | apply Keeps.ite)
    | (refine Keeps.pair (by assumption) ?_)
    | (refine Keeps.pair3 (by assumption) ?_)
    | (intro _ _ _)
    | (intro _ _)
    | (intro _)
    | split
    | dsimp only)

theorem keeps_cstActivate {s0 : State} (s : State) (h : Keeps s0 s) :
    Keeps s0 (State.cstActivate s) := by
  unfold State.cstActivate
  try dsimp only
  repeat (first
    | with_reducible assumption
    | with_reducible apply keeps_cstMap
    | with_reducible apply keeps_dropLine
    | with_reducible apply keeps_load
    | with_reducible apply Keeps.ite
    | (with_reducible apply Keeps.upd; with_reducible first | assumption | apply keeps_cstMap | apply keeps_dropLine | apply keeps_load | apply Keeps.ite)
    | (refine Keeps.pair (by assumption) ?_)
    | (refine Keeps.pair3 (by assumption) ?_)
    | (intro _ _ _)
    | (intro _ _)
    | (intro _)
    | split
    | dsimp only)

theorem keeps_syncLost {s0 : State} (s : State) (h : Keeps s0 s) :
    Keeps s0 (State.syncLost s) := by
  unfold State.syncLost
  try dsimp only
  repeat (first
    | with_reducible assumption
    | with_reducible apply keeps_assertLine
    | with_reducible apply keeps_record
    | with_reducible apply keeps_set
    | with_reducible apply keeps_bump
    | with_reducible apply keeps_cstEnterListen
    | with_reducible apply Keeps.ite
    | (with_reducible apply Keeps.upd; with_reducible first | assumption | apply keeps_assertLine | apply keeps_record | apply keeps_set | apply keeps_bump | apply keeps_cstEnterListen | apply Keeps.ite)
    | (refine Keeps.pair (by assumption) ?_)
    | (refine Keeps.pair3 (by assumption) ?_)
    | (intro _ _ _)
    | (intro _ _)
    | (intro _)
    | split
    | dsimp only)

theorem keeps_actionPoint {s0 : State} (s : State) (id : ℕ) (h : Keeps s0 s) :
    Keeps s0 (State.actionPoint s id) := by
  unfold State.actionPoint
  try dsimp only
  repeat (first
    | with_reducible assumption
    | with_reducible apply keeps_sendStatic
    | with_reducible apply keeps_cstMap
    | with_reducible apply keeps_selfCheck
    | with_reducible apply keeps_sendDynamic
    | with_reducible apply Keeps.ite
    | (with_reducible apply Keeps.upd; with_reducible first | assumption | apply keeps_sendStatic | apply keeps_cstMap | apply keeps_selfCheck | apply keeps_sendDynamic | apply Keeps.ite)
    | (refine Keeps.pair (by assumption) ?_)
    | (refine Keeps.pair3 (by assumption) ?_)
    | (intro _ _ _)
    | (intro _ _)
    | (intro _)
    | split
    | dsimp only)

theorem keeps_execConsistActionPoint {s0 : State} (frameId : ℕ) (s : State) (h : Keeps s0 s) :
    ∃ u, execConsistActionPoint frameId s = finish u ∧ Keeps s0 u := by
  refine ⟨_, rfl, ?_⟩
  try dsimp only
  repeat (first
    | with_reducible assumption
    | with_reducible apply keeps_actionPoint
    | with_reducible apply Keeps.ite
    | (with_reducible apply Keeps.upd; with_reducible first | assumption | apply keeps_actionPoint | apply Keeps.ite)
    | (refine Keeps.pair (by assumption) ?_)
    | (refine Keeps.pair3 (by assumption) ?_)
    | (intro _ _ _)
    | (intro _ _)
    | (intro _)
    | split
    | dsimp only)

theorem keeps_integrate {s0 : State} (s : State) (f : ConsistFrame) (at_ : ℤ) (h : Keeps s0 s) :
    Keeps s0 (State.integrate s f at_) := by
  unfold State.integrate
  try dsimp only
  repeat (first
    | with_reducible assumption
    | with_reducible apply keeps_cstMap
    | with_reducible apply keeps_load
    | with_reducible apply Keeps.ite
    | (with_reducible apply Keeps.upd; with_reducible first | assumption | apply keeps_cstMap | apply keeps_load | apply Keeps.ite)
    | (refine Keeps.pair (by assumption) ?_)
    | (refine Keeps.pair3 (by assumption) ?_)
    | (intro _ _ _)
    | (intro _ _)
    | (intro _)
    | split
    | dsimp only)

theorem keeps_consistData {s0 : State} (s : State) (p : ℕ) (f : ConsistFrame) (h : Keeps s0 s) :
    Keeps s0 (State.consistData s p f) := by
  unfold State.consistData
  try dsimp only
  repeat (first
    | with_reducible assumption
    | with_reducible apply keeps_cstMap
    | with_reducible apply keeps_consistFlowsStale
    | with_reducible apply keeps_clearBit
    | with_reducible apply keeps_offer
    | with_reducible apply Keeps.ite
    | (with_reducible apply Keeps.upd; with_reducible first | assumption | apply keeps_cstMap | apply keeps_consistFlowsStale | apply keeps_clearBit | apply keeps_offer | apply Keeps.ite)
    | (refine Keeps.pair (by assumption) ?_)
    | (refine Keeps.pair3 (by assumption) ?_)
    | (intro _ _ _)
    | (intro _ _)
    | (intro _)
    | split
    | dsimp only)

theorem keeps_onGrid {s0 : State} (s : State) (p : ℕ) (f : ConsistFrame) (x : ℤ) (h : Keeps s0 s) :
    Keeps s0 (State.onGrid s p f x) := by
  unfold State.onGrid
  try dsimp only
  repeat (first
    | with_reducible assumption
    | with_reducible apply keeps_cstMap
    | with_reducible apply keeps_consistData
    | with_reducible apply Keeps.ite
    | (with_reducible apply Keeps.upd; with_reducible first | assumption | apply keeps_cstMap | apply keeps_consistData | apply Keeps.ite)
    | (refine Keeps.pair (by assumption) ?_)
    | (refine Keeps.pair3 (by assumption) ?_)
    | (intro _ _ _)
    | (intro _ _)
    | (intro _)
    | split
    | dsimp only)

theorem keeps_controllerTakes {s0 : State} (s : State) (p : ℕ) (f : ConsistFrame) (rx : ℤ) (h : Keeps s0 s) :
    Keeps s0 (State.controllerTakes s p f rx) := by
  unfold State.controllerTakes
  try dsimp only
  repeat (first
    | with_reducible assumption
    | with_reducible apply keeps_consistData
    | with_reducible apply keeps_integrate
    | with_reducible apply keeps_onGrid
    | with_reducible apply Keeps.ite
    | (with_reducible apply Keeps.upd; with_reducible first | assumption | apply keeps_consistData | apply keeps_integrate | apply keeps_onGrid | apply Keeps.ite)
    | (refine Keeps.pair (by assumption) ?_)
    | (refine Keeps.pair3 (by assumption) ?_)
    | (intro _ _ _)
    | (intro _ _)
    | (intro _)
    | split
    | dsimp only)

theorem keeps_cstPortMap {s0 : State} (s : State) (p : ℕ) (f : CstPort → CstPort) (h : Keeps s0 s) :
    Keeps s0 (State.cstPortMap s p f) := by
  unfold State.cstPortMap
  try dsimp only
  repeat (first
    | with_reducible assumption
    | with_reducible apply keeps_cstMap
    | with_reducible apply Keeps.ite
    | (with_reducible apply Keeps.upd; with_reducible first | assumption | apply keeps_cstMap | apply Keeps.ite)
    | (refine Keeps.pair (by assumption) ?_)
    | (refine Keeps.pair3 (by assumption) ?_)
    | (intro _ _ _)
    | (intro _ _)
    | (intro _)
    | split
    | dsimp only)

theorem keeps_isolate {s0 : State} (s : State) (p : ℕ) (h : Keeps s0 s) :
    Keeps s0 (State.isolate s p) := by
  unfold State.isolate
  try dsimp only
  repeat (first
    | with_reducible assumption
    | with_reducible apply keeps_assertLine
    | with_reducible apply keeps_record
    | with_reducible apply keeps_setBit
    | with_reducible apply keeps_set
    | with_reducible apply Keeps.ite
    | (with_reducible apply Keeps.upd; with_reducible first | assumption | apply keeps_assertLine | apply keeps_record | apply keeps_setBit | apply keeps_set | apply Keeps.ite)
    | (refine Keeps.pair (by assumption) ?_)
    | (refine Keeps.pair3 (by assumption) ?_)
    | (intro _ _ _)
    | (intro _ _)
    | (intro _)
    | split
    | dsimp only)

theorem keeps_outOfSync {s0 : State} (s : State) (p : ℕ) (h : Keeps s0 s) :
    Keeps s0 (State.outOfSync s p) := by
  unfold State.outOfSync
  try dsimp only
  repeat (first
    | with_reducible assumption
    | with_reducible apply keeps_cstPortMap
    | with_reducible apply keeps_cstMap
    | with_reducible apply keeps_setBit
    | with_reducible apply keeps_set
    | with_reducible apply keeps_isolate
    | with_reducible apply Keeps.ite
    | (with_reducible apply Keeps.upd; with_reducible first | assumption | apply keeps_cstPortMap | apply keeps_cstMap | apply keeps_setBit | apply keeps_set | apply keeps_isolate | apply Keeps.ite)
    | (refine Keeps.pair (by assumption) ?_)
    | (refine Keeps.pair3 (by assumption) ?_)
    | (intro _ _ _)
    | (intro _ _)
    | (intro _)
    | split
    | dsimp only)

theorem keeps_violation {s0 : State} (s : State) (p : ℕ) (count : Field) (h : Keeps s0 s) :
    Keeps s0 (State.violation s p count) := by
  unfold State.violation
  try dsimp only
  repeat (first
    | with_reducible assumption
    | with_reducible apply keeps_bump
    | with_reducible apply keeps_rateCheck
    | with_reducible apply keeps_record
    | with_reducible apply keeps_outOfSync
    | with_reducible apply keeps_cstPortMap
    | with_reducible apply Keeps.ite
    | (with_reducible apply Keeps.upd; with_reducible first | assumption | apply keeps_bump | apply keeps_rateCheck | apply keeps_record | apply keeps_outOfSync | apply keeps_cstPortMap | apply Keeps.ite)
    | (refine Keeps.pair (by assumption) ?_)
    | (refine Keeps.pair3 (by assumption) ?_)
    | (intro _ _ _)
    | (intro _ _)
    | (intro _)
    | split
    | dsimp only)

theorem keeps_forwardFrom {s0 : State} (s : State) (p : ℕ) (id : ℕ) (h : Keeps s0 s) :
    Keeps s0 (State.forwardFrom s p id) := by
  unfold State.forwardFrom
  try dsimp only
  repeat (first
    | with_reducible assumption
    | with_reducible apply keeps_cstMap
    | with_reducible apply keeps_emit
    | with_reducible apply Keeps.ite
    | (with_reducible apply Keeps.upd; with_reducible first | assumption | apply keeps_cstMap | apply keeps_emit | apply Keeps.ite)
    | (refine Keeps.pair (by assumption) ?_)
    | (refine Keeps.pair3 (by assumption) ?_)
    | (intro _ _ _)
    | (intro _ _)
    | (intro _)
    | split
    | dsimp only)

theorem keeps_cutFrom {s0 : State} (s : State) (p : ℕ) (h : Keeps s0 s) :
    Keeps s0 (State.cutFrom s p) := by
  unfold State.cutFrom
  try dsimp only
  repeat (first
    | with_reducible assumption
    | with_reducible apply keeps_cstMap
    | with_reducible apply keeps_emit
    | with_reducible apply Keeps.ite
    | (with_reducible apply Keeps.upd; with_reducible first | assumption | apply keeps_cstMap | apply keeps_emit | apply Keeps.ite)
    | (refine Keeps.pair (by assumption) ?_)
    | (refine Keeps.pair3 (by assumption) ?_)
    | (intro _ _ _)
    | (intro _ _)
    | (intro _)
    | split
    | dsimp only)

theorem keeps_startupStart {s0 : State} (s : State) (p : ℕ) (f : ConsistFrame) (rx : ℤ) (h : Keeps s0 s) :
    Keeps s0 (State.startupStart s p f rx) := by
  unfold State.startupStart
  try dsimp only
  repeat (first
    | with_reducible assumption
    | with_reducible apply keeps_bump
    | with_reducible apply keeps_forwardFrom
    | with_reducible apply keeps_cstMap
    | with_reducible apply keeps_cutFrom
    | with_reducible apply keeps_anchorGuard
    | with_reducible apply Keeps.ite
    | (with_reducible apply Keeps.upd; with_reducible first | assumption | apply keeps_bump | apply keeps_forwardFrom | apply keeps_cstMap | apply keeps_cutFrom | apply keeps_anchorGuard | apply Keeps.ite)
    | (refine Keeps.pair (by assumption) ?_)
    | (refine Keeps.pair3 (by assumption) ?_)
    | (intro _ _ _)
    | (intro _ _)
    | (intro _)
    | split
    | dsimp only)

theorem keeps_runStart {s0 : State} (s : State) (p : ℕ) (f : ConsistFrame) (x : ℤ) (h : Keeps s0 s) :
    Keeps s0 (State.runStart s p f x) := by
  unfold State.runStart
  try dsimp only
  repeat (first
    | with_reducible assumption
    | with_reducible apply keeps_violation
    | with_reducible apply keeps_cstMap
    | with_reducible apply keeps_forwardFrom
    | with_reducible apply keeps_bump
    | with_reducible apply keeps_cutFrom
    | with_reducible apply Keeps.ite
    | (with_reducible apply Keeps.upd; with_reducible first | assumption | apply keeps_violation | apply keeps_cstMap | apply keeps_forwardFrom | apply keeps_bump | apply keeps_cutFrom | apply Keeps.ite)
    | (refine Keeps.pair (by assumption) ?_)
    | (refine Keeps.pair3 (by assumption) ?_)
    | (intro _ _ _)
    | (intro _ _)
    | (intro _)
    | split
    | dsimp only)

theorem keeps_guardStart {s0 : State} (s : State) (p : ℕ) (f : ConsistFrame) (rx : ℤ) (h : Keeps s0 s) :
    Keeps s0 (State.guardStart s p f rx) := by
  unfold State.guardStart
  try dsimp only
  repeat (first
    | with_reducible assumption
    | with_reducible apply keeps_runStart
    | with_reducible apply keeps_startupStart
    | with_reducible apply keeps_violation
    | with_reducible apply Keeps.ite
    | (with_reducible apply Keeps.upd; with_reducible first | assumption | apply keeps_runStart | apply keeps_startupStart | apply keeps_violation | apply Keeps.ite)
    | (refine Keeps.pair (by assumption) ?_)
    | (refine Keeps.pair3 (by assumption) ?_)
    | (intro _ _ _)
    | (intro _ _)
    | (intro _)
    | split
    | dsimp only)

theorem keeps_execGuardianFrameStart {s0 : State} (port : ℕ) (frame : ConsistFrame) (rx : ℤ) (s : State) (h : Keeps s0 s) :
    ∃ u, execGuardianFrameStart port frame rx s = finish u ∧ Keeps s0 u := by
  refine ⟨_, rfl, ?_⟩
  try dsimp only
  repeat (first
    | with_reducible assumption
    | with_reducible apply keeps_guardStart
    | with_reducible apply Keeps.ite
    | (with_reducible apply Keeps.upd; with_reducible first | assumption | apply keeps_guardStart | apply Keeps.ite)
    | (refine Keeps.pair (by assumption) ?_)
    | (refine Keeps.pair3 (by assumption) ?_)
    | (intro _ _ _)
    | (intro _ _)
    | (intro _)
    | split
    | dsimp only)

theorem keeps_execGuardianCut {s0 : State} (port : ℕ) (s : State) (h : Keeps s0 s) :
    ∃ u, execGuardianCut port s = finish u ∧ Keeps s0 u := by
  refine ⟨_, rfl, ?_⟩
  try dsimp only
  repeat (first
    | with_reducible assumption
    | with_reducible apply keeps_violation
    | with_reducible apply keeps_cutFrom
    | with_reducible apply Keeps.ite
    | (with_reducible apply Keeps.upd; with_reducible first | assumption | apply keeps_violation | apply keeps_cutFrom | apply Keeps.ite)
    | (refine Keeps.pair (by assumption) ?_)
    | (refine Keeps.pair3 (by assumption) ?_)
    | (intro _ _ _)
    | (intro _ _)
    | (intro _)
    | split
    | dsimp only)

theorem keeps_execGuardianBlankEnd {s0 : State} (port : ℕ) (s : State) (h : Keeps s0 s) :
    ∃ u, execGuardianBlankEnd port s = finish u ∧ Keeps s0 u := by
  refine ⟨_, rfl, ?_⟩
  try dsimp only
  repeat (first
    | with_reducible assumption
    | with_reducible apply keeps_cstMap
    | with_reducible apply keeps_set
    | with_reducible apply Keeps.ite
    | (with_reducible apply Keeps.upd; with_reducible first | assumption | apply keeps_cstMap | apply keeps_set | apply Keeps.ite)
    | (refine Keeps.pair (by assumption) ?_)
    | (refine Keeps.pair3 (by assumption) ?_)
    | (intro _ _ _)
    | (intro _ _)
    | (intro _)
    | split
    | dsimp only)

theorem keeps_execGuardianIdleTimeout {s0 : State} (s : State) (h : Keeps s0 s) :
    ∃ u, execGuardianIdleTimeout s = finish u ∧ Keeps s0 u := by
  refine ⟨_, rfl, ?_⟩
  try dsimp only
  repeat (first
    | with_reducible assumption
    | with_reducible apply keeps_cstMap
    | with_reducible apply keeps_set
    | with_reducible apply Keeps.ite
    | (with_reducible apply Keeps.upd; with_reducible first | assumption | apply keeps_cstMap | apply keeps_set | apply Keeps.ite)
    | (refine Keeps.pair (by assumption) ?_)
    | (refine Keeps.pair3 (by assumption) ?_)
    | (intro _ _ _)
    | (intro _ _)
    | (intro _)
    | split
    | dsimp only)

theorem keeps_guardDone {s0 : State} (s : State) (p : ℕ) (f : ConsistFrame) (rx : ℤ) (h : Keeps s0 s) :
    Keeps s0 (State.guardDone s p f rx) := by
  unfold State.guardDone
  try dsimp only
  repeat (first
    | with_reducible assumption
    | with_reducible apply keeps_cstPortMap
    | with_reducible apply keeps_cstMap
    | with_reducible apply Keeps.ite
    | (with_reducible apply Keeps.upd; with_reducible first | assumption | apply keeps_cstPortMap | apply keeps_cstMap | apply Keeps.ite)
    | (refine Keeps.pair (by assumption) ?_)
    | (refine Keeps.pair3 (by assumption) ?_)
    | (intro _ _ _)
    | (intro _ _)
    | (intro _)
    | split
    | dsimp only)

theorem keeps_consistReceive {s0 : State} (s : State) (p : ℕ) (f : ConsistFrame) (rx : ℤ) (h : Keeps s0 s) :
    Keeps s0 (State.consistReceive s p f rx) := by
  unfold State.consistReceive
  try dsimp only
  repeat (first
    | with_reducible assumption
    | with_reducible apply keeps_wrapUp
    | with_reducible apply keeps_controllerTakes
    | with_reducible apply keeps_guardDone
    | with_reducible apply Keeps.ite
    | (with_reducible apply Keeps.upd; with_reducible first | assumption | apply keeps_wrapUp | apply keeps_controllerTakes | apply keeps_guardDone | apply Keeps.ite)
    | (refine Keeps.pair (by assumption) ?_)
    | (refine Keeps.pair3 (by assumption) ?_)
    | (intro _ _ _)
    | (intro _ _)
    | (intro _)
    | split
    | dsimp only)

theorem keeps_execConsistFrameReceive {s0 : State} (port : ℕ) (frame : ConsistFrame) (rx : ℤ) (s : State) (h : Keeps s0 s) :
    ∃ u, execConsistFrameReceive port frame rx s = finish u ∧ Keeps s0 u := by
  refine ⟨_, rfl, ?_⟩
  try dsimp only
  repeat (first
    | with_reducible assumption
    | with_reducible apply keeps_consistReceive
    | with_reducible apply Keeps.ite
    | (with_reducible apply Keeps.upd; with_reducible first | assumption | apply keeps_consistReceive | apply Keeps.ite)
    | (refine Keeps.pair (by assumption) ?_)
    | (refine Keeps.pair3 (by assumption) ?_)
    | (intro _ _ _)
    | (intro _ _)
    | (intro _)
    | split
    | dsimp only)

theorem keeps_silence {s0 : State} (s : State) (h : Keeps s0 s) :
    Keeps s0 (State.silence s) := by
  unfold State.silence
  try dsimp only
  repeat (first
    | with_reducible assumption
    | with_reducible apply keeps_cstMap
    | with_reducible apply Keeps.ite
    | (with_reducible apply Keeps.upd; with_reducible first | assumption | apply keeps_cstMap | apply Keeps.ite)
    | (refine Keeps.pair (by assumption) ?_)
    | (refine Keeps.pair3 (by assumption) ?_)
    | (intro _ _ _)
    | (intro _ _)
    | (intro _)
    | split
    | dsimp only)

theorem keeps_controllerNit {s0 : State} (s : State) (h : Keeps s0 s) :
    Keeps s0 (State.controllerNit s) := by
  unfold State.controllerNit
  try dsimp only
  repeat (first
    | with_reducible assumption
    | with_reducible apply keeps_silence
    | with_reducible apply keeps_cstMap
    | with_reducible apply keeps_syncLost
    | with_reducible apply keeps_load
    | with_reducible apply Keeps.ite
    | (with_reducible apply Keeps.upd; with_reducible first | assumption | apply keeps_silence | apply keeps_cstMap | apply keeps_syncLost | apply keeps_load | apply Keeps.ite)
    | (refine Keeps.pair (by assumption) ?_)
    | (refine Keeps.pair3 (by assumption) ?_)
    | (intro _ _ _)
    | (intro _ _)
    | (intro _)
    | split
    | dsimp only)

theorem keeps_guardNit {s0 : State} (s : State) (h : Keeps s0 s) :
    Keeps s0 (State.guardNit s) := by
  unfold State.guardNit
  try dsimp only
  repeat (first
    | with_reducible assumption
    | with_reducible apply keeps_cstMap
    | with_reducible apply Keeps.ite
    | (with_reducible apply Keeps.upd; with_reducible first | assumption | apply keeps_cstMap | apply Keeps.ite)
    | (refine Keeps.pair (by assumption) ?_)
    | (refine Keeps.pair3 (by assumption) ?_)
    | (intro _ _ _)
    | (intro _ _)
    | (intro _)
    | split
    | dsimp only)

theorem keeps_execConsistNitCorrection {s0 : State} (s : State) (h : Keeps s0 s) :
    ∃ u, execConsistNitCorrection s = finish u ∧ Keeps s0 u := by
  refine ⟨_, rfl, ?_⟩
  try dsimp only
  repeat (first
    | with_reducible assumption
    | with_reducible apply keeps_controllerNit
    | with_reducible apply keeps_guardNit
    | with_reducible apply Keeps.ite
    | (with_reducible apply Keeps.upd; with_reducible first | assumption | apply keeps_controllerNit | apply keeps_guardNit | apply Keeps.ite)
    | (refine Keeps.pair (by assumption) ?_)
    | (refine Keeps.pair3 (by assumption) ?_)
    | (intro _ _ _)
    | (intro _ _)
    | (intro _)
    | split
    | dsimp only)

theorem keeps_staleSlot {s0 : State} (s : State) (i : ℕ) (h : Keeps s0 s) :
    Keeps s0 (State.staleSlot s i) := by
  unfold State.staleSlot
  try dsimp only
  repeat (first
    | with_reducible assumption
    | with_reducible apply keeps_consistFlowsStale
    | with_reducible apply keeps_set
    | with_reducible apply keeps_setBit
    | with_reducible apply Keeps.ite
    | (with_reducible apply Keeps.upd; with_reducible first | assumption | apply keeps_consistFlowsStale | apply keeps_set | apply keeps_setBit | apply Keeps.ite)
    | (refine Keeps.pair (by assumption) ?_)
    | (refine Keeps.pair3 (by assumption) ?_)
    | (intro _ _ _)
    | (intro _ _)
    | (intro _)
    | split
    | dsimp only)

theorem keeps_countSlots {s0 : State} (s : State) (h : Keeps s0 s) :
    Keeps s0 (State.countSlots s) := by
  unfold State.countSlots
  try dsimp only
  repeat (first
    | with_reducible assumption
    | with_reducible apply keeps_staleSlot
    | with_reducible apply keeps_cstMap
    | with_reducible apply Keeps.ite
    | (with_reducible apply Keeps.foldl; intro _ _ _)
    | (with_reducible apply Keeps.upd; with_reducible first | assumption | apply keeps_staleSlot | apply keeps_cstMap | apply Keeps.ite | (apply Keeps.foldl; intro _ _ _))
    | (refine Keeps.pair (by assumption) ?_)
    | (refine Keeps.pair3 (by assumption) ?_)
    | (intro _ _ _)
    | (intro _ _)
    | (intro _)
    | split
    | dsimp only)

theorem keeps_controllerCycle {s0 : State} (s : State) (h : Keeps s0 s) :
    Keeps s0 (State.controllerCycle s) := by
  unfold State.controllerCycle
  try dsimp only
  repeat (first
    | with_reducible assumption
    | with_reducible apply keeps_set
    | with_reducible apply keeps_cstMap
    | with_reducible apply keeps_showPhase
    | with_reducible apply keeps_countSlots
    | with_reducible apply keeps_cstActivate
    | with_reducible apply Keeps.ite
    | (with_reducible apply Keeps.upd; with_reducible first | assumption | apply keeps_set | apply keeps_cstMap | apply keeps_showPhase | apply keeps_countSlots | apply keeps_cstActivate | apply Keeps.ite)
    | (refine Keeps.pair (by assumption) ?_)
    | (refine Keeps.pair3 (by assumption) ?_)
    | (intro _ _ _)
    | (intro _ _)
    | (intro _)
    | split
    | dsimp only)

theorem keeps_guardCycle {s0 : State} (s : State) (h : Keeps s0 s) :
    Keeps s0 (State.guardCycle s) := by
  unfold State.guardCycle
  try dsimp only
  repeat (first
    | with_reducible assumption
    | with_reducible apply keeps_cstMap
    | with_reducible apply Keeps.ite
    | (with_reducible apply Keeps.upd; with_reducible first | assumption | apply keeps_cstMap | apply Keeps.ite)
    | (refine Keeps.pair (by assumption) ?_)
    | (refine Keeps.pair3 (by assumption) ?_)
    | (intro _ _ _)
    | (intro _ _)
    | (intro _)
    | split
    | dsimp only)

theorem keeps_execConsistCycleStart {s0 : State} (s : State) (h : Keeps s0 s) :
    ∃ u, execConsistCycleStart s = finish u ∧ Keeps s0 u := by
  refine ⟨_, rfl, ?_⟩
  try dsimp only
  repeat (first
    | with_reducible assumption
    | with_reducible apply keeps_controllerCycle
    | with_reducible apply keeps_guardCycle
    | with_reducible apply Keeps.ite
    | (with_reducible apply Keeps.upd; with_reducible first | assumption | apply keeps_controllerCycle | apply keeps_guardCycle | apply Keeps.ite)
    | (refine Keeps.pair (by assumption) ?_)
    | (refine Keeps.pair3 (by assumption) ?_)
    | (intro _ _ _)
    | (intro _ _)
    | (intro _)
    | split
    | dsimp only)

theorem keeps_listenExpiry {s0 : State} (s : State) (h : Keeps s0 s) :
    Keeps s0 (State.listenExpiry s) := by
  unfold State.listenExpiry
  try dsimp only
  repeat (first
    | with_reducible assumption
    | with_reducible apply keeps_load
    | with_reducible apply keeps_bump
    | with_reducible apply keeps_cstMap
    | with_reducible apply keeps_sendStatic
    | with_reducible apply Keeps.ite
    | (with_reducible apply Keeps.upd; with_reducible first | assumption | apply keeps_load | apply keeps_bump | apply keeps_cstMap | apply keeps_sendStatic | apply Keeps.ite)
    | (refine Keeps.pair (by assumption) ?_)
    | (refine Keeps.pair3 (by assumption) ?_)
    | (intro _ _ _)
    | (intro _ _)
    | (intro _)
    | split
    | dsimp only)

theorem keeps_execListenTimerExpiry {s0 : State} (s : State) (h : Keeps s0 s) :
    ∃ u, execListenTimerExpiry s = finish u ∧ Keeps s0 u := by
  refine ⟨_, rfl, ?_⟩
  try dsimp only
  repeat (first
    | with_reducible assumption
    | with_reducible apply keeps_listenExpiry
    | with_reducible apply Keeps.ite
    | (with_reducible apply Keeps.upd; with_reducible first | assumption | apply keeps_listenExpiry | apply Keeps.ite)
    | (refine Keeps.pair (by assumption) ?_)
    | (refine Keeps.pair3 (by assumption) ?_)
    | (intro _ _ _)
    | (intro _ _)
    | (intro _)
    | split
    | dsimp only)

theorem keeps_reportLink {s0 : State} (s : State) (p : ℕ) (h : Keeps s0 s) :
    Keeps s0 (State.reportLink s p) := by
  unfold State.reportLink
  try dsimp only
  repeat (first
    | with_reducible assumption
    | with_reducible apply keeps_rateCheck
    | with_reducible apply keeps_record
    | with_reducible apply keeps_line
    | with_reducible apply Keeps.ite
    | (with_reducible apply Keeps.upd; with_reducible first | assumption | apply keeps_rateCheck | apply keeps_record | apply keeps_line | apply Keeps.ite)
    | (refine Keeps.pair (by assumption) ?_)
    | (refine Keeps.pair3 (by assumption) ?_)
    | (intro _ _ _)
    | (intro _ _)
    | (intro _)
    | split
    | dsimp only)

theorem keeps_consistDown {s0 : State} (s : State) (p : ℕ) (h : Keeps s0 s) :
    Keeps s0 (State.consistDown s p) := by
  unfold State.consistDown
  try dsimp only
  repeat (first
    | with_reducible assumption
    | with_reducible apply keeps_cstPortMap
    | with_reducible apply keeps_reportLink
    | with_reducible apply keeps_bump
    | with_reducible apply keeps_set
    | with_reducible apply Keeps.ite
    | (with_reducible apply Keeps.upd; with_reducible first | assumption | apply keeps_cstPortMap | apply keeps_reportLink | apply keeps_bump | apply keeps_set | apply Keeps.ite)
    | (refine Keeps.pair (by assumption) ?_)
    | (refine Keeps.pair3 (by assumption) ?_)
    | (intro _ _ _)
    | (intro _ _)
    | (intro _)
    | split
    | dsimp only)

theorem keeps_consistCodeError {s0 : State} (s : State) (p : ℕ) (h : Keeps s0 s) :
    Keeps s0 (State.consistCodeError s p) := by
  unfold State.consistCodeError
  try dsimp only
  repeat (first
    | with_reducible assumption
    | with_reducible apply keeps_cstPortMap
    | with_reducible apply keeps_bump
    | with_reducible apply keeps_consistDown
    | with_reducible apply Keeps.ite
    | (with_reducible apply Keeps.upd; with_reducible first | assumption | apply keeps_cstPortMap | apply keeps_bump | apply keeps_consistDown | apply Keeps.ite)
    | (refine Keeps.pair (by assumption) ?_)
    | (refine Keeps.pair3 (by assumption) ?_)
    | (intro _ _ _)
    | (intro _ _)
    | (intro _)
    | split
    | dsimp only)

theorem keeps_execConsistLinkDown {s0 : State} (port : ℕ) (codeError : Bool) (s : State) (h : Keeps s0 s) :
    ∃ u, execConsistLinkDown port codeError s = finish u ∧ Keeps s0 u := by
  refine ⟨_, rfl, ?_⟩
  try dsimp only
  repeat (first
    | with_reducible assumption
    | with_reducible apply keeps_consistCodeError
    | with_reducible apply keeps_consistDown
    | with_reducible apply keeps_set
    | with_reducible apply Keeps.ite
    | (with_reducible apply Keeps.upd; with_reducible first | assumption | apply keeps_consistCodeError | apply keeps_consistDown | apply keeps_set | apply Keeps.ite)
    | (refine Keeps.pair (by assumption) ?_)
    | (refine Keeps.pair3 (by assumption) ?_)
    | (intro _ _ _)
    | (intro _ _)
    | (intro _)
    | split
    | dsimp only)

theorem keeps_execConsistLinkUp {s0 : State} (port : ℕ) (s : State) (h : Keeps s0 s) :
    ∃ u, execConsistLinkUp port s = finish u ∧ Keeps s0 u := by
  refine ⟨_, rfl, ?_⟩
  try dsimp only
  repeat (first
    | with_reducible assumption
    | with_reducible apply keeps_reportLink
    | with_reducible apply keeps_load
    | with_reducible apply Keeps.ite
    | (with_reducible apply Keeps.upd; with_reducible first | assumption | apply keeps_reportLink | apply keeps_load | apply Keeps.ite)
    | (refine Keeps.pair (by assumption) ?_)
    | (refine Keeps.pair3 (by assumption) ?_)
    | (intro _ _ _)
    | (intro _ _)
    | (intro _)
    | split
    | dsimp only)

theorem keeps_cmdRejoin {s0 : State} (a : ℕ) (t : State) (h : Keeps s0 t) :
    Keeps s0 ((cmdRejoin ).run a t) := by
  unfold cmdRejoin
  try dsimp only
  repeat (first
    | with_reducible assumption
    | with_reducible apply keeps_cstEnterListen
    | with_reducible apply Keeps.ite
    | (with_reducible apply Keeps.upd; with_reducible first | assumption | apply keeps_cstEnterListen | apply Keeps.ite)
    | (refine Keeps.pair (by assumption) ?_)
    | (refine Keeps.pair3 (by assumption) ?_)
    | (intro _ _ _)
    | (intro _ _)
    | (intro _)
    | split
    | dsimp only)

theorem keeps_execCstRejoin {s0 : State} (path : Path) (arg : ℕ) (s : State) (h : Keeps s0 s) :
    ∃ u, execCstRejoin path arg s = finish u ∧ Keeps s0 u := by
  refine ⟨_, rfl, ?_⟩
  try dsimp only
  repeat (first
    | with_reducible assumption
    | with_reducible apply keeps_command
    | with_reducible apply keeps_cmdRejoin
    | with_reducible apply Keeps.ite
    | (with_reducible apply Keeps.upd; with_reducible first | assumption | apply keeps_command | apply keeps_cmdRejoin | apply Keeps.ite)
    | (refine Keeps.pair (by assumption) ?_)
    | (refine Keeps.pair3 (by assumption) ?_)
    | (intro _ _ _)
    | (intro _ _)
    | (intro _)
    | split
    | dsimp only)

theorem keeps_portReset {s0 : State} (s : State) (p : ℕ) (h : Keeps s0 s) :
    Keeps s0 (State.portReset s p) := by
  unfold State.portReset
  try dsimp only
  repeat (first
    | with_reducible assumption
    | with_reducible apply keeps_cstMap
    | with_reducible apply keeps_cstPortMap
    | with_reducible apply keeps_set
    | with_reducible apply Keeps.ite
    | (with_reducible apply Keeps.upd; with_reducible first | assumption | apply keeps_cstMap | apply keeps_cstPortMap | apply keeps_set | apply Keeps.ite)
    | (refine Keeps.pair (by assumption) ?_)
    | (refine Keeps.pair3 (by assumption) ?_)
    | (intro _ _ _)
    | (intro _ _)
    | (intro _)
    | split
    | dsimp only)

theorem keeps_cmdPortReset {s0 : State} (a : ℕ) (t : State) (h : Keeps s0 t) :
    Keeps s0 ((cmdPortReset ).run a t) := by
  unfold cmdPortReset
  try dsimp only
  repeat (first
    | with_reducible assumption
    | with_reducible apply keeps_portReset
    | with_reducible apply keeps_line
    | with_reducible apply Keeps.ite
    | (with_reducible apply Keeps.foldl; intro _ _ _)
    | (with_reducible apply Keeps.upd; with_reducible first | assumption | apply keeps_portReset | apply keeps_line | apply Keeps.ite | (apply Keeps.foldl; intro _ _ _))
    | (refine Keeps.pair (by assumption) ?_)
    | (refine Keeps.pair3 (by assumption) ?_)
    | (intro _ _ _)
    | (intro _ _)
    | (intro _)
    | split
    | dsimp only)

theorem keeps_execPortReset {s0 : State} (path : Path) (arg : ℕ) (s : State) (h : Keeps s0 s) :
    ∃ u, execPortReset path arg s = finish u ∧ Keeps s0 u := by
  refine ⟨_, rfl, ?_⟩
  try dsimp only
  repeat (first
    | with_reducible assumption
    | with_reducible apply keeps_command
    | with_reducible apply keeps_cmdPortReset
    | with_reducible apply Keeps.ite
    | (with_reducible apply Keeps.upd; with_reducible first | assumption | apply keeps_command | apply keeps_cmdPortReset | apply Keeps.ite)
    | (refine Keeps.pair (by assumption) ?_)
    | (refine Keeps.pair3 (by assumption) ?_)
    | (intro _ _ _)
    | (intro _ _)
    | (intro _)
    | split
    | dsimp only)

end Sys2Proof.Machine
end

