-- ==== Sys2Proof/Laws/KeepsCan.lean ====
section
/-! SUPPORT. The operations of `Sys2Proof/Machine/Can.lean` keep what `Keeps` names. -/

set_option linter.unusedTactic false
set_option linter.unreachableTactic false

namespace Sys2Proof.Machine

theorem keeps_canPutState {s0 : State} (s : State) (n : ℕ) (st : ℕ) (h : Keeps s0 s) :
    Keeps s0 (State.canPutState s n st) := by
  unfold State.canPutState
  try dsimp only
  repeat (first
    | with_reducible assumption
    | with_reducible apply keeps_set
    | with_reducible apply Keeps.ite
    | (with_reducible apply Keeps.upd; with_reducible first | assumption | apply keeps_set | apply Keeps.ite)
    | (refine Keeps.pair (by assumption) ?_)
    | (refine Keeps.pair3 (by assumption) ?_)
    | (intro _ _ _)
    | (intro _ _)
    | (intro _)
    | split
    | dsimp only)

theorem keeps_canRecord {s0 : State} (s : State) (n : ℕ) (code : ℕ) (h : Keeps s0 s) :
    Keeps s0 (State.canRecord s n code) := by
  unfold State.canRecord
  try dsimp only
  repeat (first
    | with_reducible assumption
    | with_reducible apply keeps_rateCheck
    | with_reducible apply keeps_record
    | with_reducible apply Keeps.ite
    | (with_reducible apply Keeps.upd; with_reducible first | assumption | apply keeps_rateCheck | apply keeps_record | apply Keeps.ite)
    | (refine Keeps.pair (by assumption) ?_)
    | (refine Keeps.pair3 (by assumption) ?_)
    | (intro _ _ _)
    | (intro _ _)
    | (intro _)
    | split
    | dsimp only)

theorem keeps_busOffLine {s0 : State} (s : State) (h : Keeps s0 s) :
    Keeps s0 (State.busOffLine s) := by
  unfold State.busOffLine
  try dsimp only
  repeat (first
    | with_reducible assumption
    | with_reducible apply keeps_line
    | with_reducible apply Keeps.ite
    | (with_reducible apply Keeps.upd; with_reducible first | assumption | apply keeps_line | apply Keeps.ite)
    | (refine Keeps.pair (by assumption) ?_)
    | (refine Keeps.pair3 (by assumption) ?_)
    | (intro _ _ _)
    | (intro _ _)
    | (intro _)
    | split
    | dsimp only)

theorem keeps_canEnterBusOff {s0 : State} (s : State) (n : ℕ) (h : Keeps s0 s) :
    Keeps s0 (State.canEnterBusOff s n) := by
  unfold State.canEnterBusOff
  try dsimp only
  repeat (first
    | with_reducible assumption
    | with_reducible apply keeps_canPutState
    | with_reducible apply keeps_bump
    | with_reducible apply keeps_load
    | with_reducible apply keeps_busOffLine
    | with_reducible apply keeps_canRecord
    | with_reducible apply keeps_legacyLog
    | with_reducible apply Keeps.ite
    | (with_reducible apply Keeps.upd; with_reducible first | assumption | apply keeps_canPutState | apply keeps_bump | apply keeps_load | apply keeps_busOffLine | apply keeps_canRecord | apply keeps_legacyLog | apply Keeps.ite)
    | (refine Keeps.pair (by assumption) ?_)
    | (refine Keeps.pair3 (by assumption) ?_)
    | (intro _ _ _)
    | (intro _ _)
    | (intro _)
    | split
    | dsimp only)

theorem keeps_showLegacyErr {s0 : State} (s : State) (n : ℕ) (changed : Bool) (h : Keeps s0 s) :
    Keeps s0 (State.showLegacyErr s n changed) := by
  unfold State.showLegacyErr
  try dsimp only
  repeat (first
    | with_reducible assumption
    | with_reducible apply keeps_load
    | with_reducible apply keeps_setBit
    | with_reducible apply keeps_clearBit
    | with_reducible apply keeps_setSsr
    | with_reducible apply keeps_setIsr
    | with_reducible apply Keeps.ite
    | (with_reducible apply Keeps.upd; with_reducible first | assumption | apply keeps_load | apply keeps_setBit | apply keeps_clearBit | apply keeps_setSsr | apply keeps_setIsr | apply Keeps.ite)
    | (refine Keeps.pair (by assumption) ?_)
    | (refine Keeps.pair3 (by assumption) ?_)
    | (intro _ _ _)
    | (intro _ _)
    | (intro _)
    | split
    | dsimp only)

theorem keeps_canSetErr {s0 : State} (s : State) (n : ℕ) (tec : ℕ) (rec_ : ℕ) (h : Keeps s0 s) :
    Keeps s0 (State.canSetErr s n tec rec_) := by
  unfold State.canSetErr
  try dsimp only
  repeat (first
    | with_reducible assumption
    | with_reducible apply keeps_load
    | with_reducible apply keeps_set
    | with_reducible apply keeps_canEnterBusOff
    | with_reducible apply keeps_showLegacyErr
    | with_reducible apply Keeps.ite
    | (with_reducible apply Keeps.upd; with_reducible first | assumption | apply keeps_load | apply keeps_set | apply keeps_canEnterBusOff | apply keeps_showLegacyErr | apply Keeps.ite)
    | (refine Keeps.pair (by assumption) ?_)
    | (refine Keeps.pair3 (by assumption) ?_)
    | (intro _ _ _)
    | (intro _ _)
    | (intro _)
    | split
    | dsimp only)

theorem keeps_canAddErr {s0 : State} (s : State) (n : ℕ) (tec : ℕ) (rec_ : ℕ) (h : Keeps s0 s) :
    Keeps s0 (State.canAddErr s n tec rec_) := by
  unfold State.canAddErr
  try dsimp only
  repeat (first
    | with_reducible assumption
    | with_reducible apply keeps_canSetErr
    | with_reducible apply Keeps.ite
    | (with_reducible apply Keeps.upd; with_reducible first | assumption | apply keeps_canSetErr | apply Keeps.ite)
    | (refine Keeps.pair (by assumption) ?_)
    | (refine Keeps.pair3 (by assumption) ?_)
    | (intro _ _ _)
    | (intro _ _)
    | (intro _)
    | split
    | dsimp only)

theorem keeps_canRxOk {s0 : State} (s : State) (n : ℕ) (h : Keeps s0 s) :
    Keeps s0 (State.canRxOk s n) := by
  unfold State.canRxOk
  try dsimp only
  repeat (first
    | with_reducible assumption
    | with_reducible apply keeps_canSetErr
    | with_reducible apply keeps_draw
    | with_reducible apply Keeps.ite
    | (with_reducible apply Keeps.upd; with_reducible first | assumption | apply keeps_canSetErr | apply keeps_draw | apply Keeps.ite)
    | (refine Keeps.pair (by assumption) ?_)
    | (refine Keeps.pair3 (by assumption) ?_)
    | (intro _ _ _)
    | (intro _ _)
    | (intro _)
    | split
    | dsimp only)

theorem keeps_canTxOk {s0 : State} (s : State) (n : ℕ) (h : Keeps s0 s) :
    Keeps s0 (State.canTxOk s n) := by
  unfold State.canTxOk
  try dsimp only
  repeat (first
    | with_reducible assumption
    | with_reducible apply keeps_canSetErr
    | with_reducible apply Keeps.ite
    | (with_reducible apply Keeps.upd; with_reducible first | assumption | apply keeps_canSetErr | apply Keeps.ite)
    | (refine Keeps.pair (by assumption) ?_)
    | (refine Keeps.pair3 (by assumption) ?_)
    | (intro _ _ _)
    | (intro _ _)
    | (intro _)
    | split
    | dsimp only)

theorem keeps_canCountErr {s0 : State} (s : State) (n : ℕ) (kind : ℕ) (h : Keeps s0 s) :
    Keeps s0 (State.canCountErr s n kind) := by
  unfold State.canCountErr
  try dsimp only
  repeat (first
    | with_reducible assumption
    | with_reducible apply keeps_bump
    | with_reducible apply keeps_set
    | with_reducible apply Keeps.ite
    | (with_reducible apply Keeps.upd; with_reducible first | assumption | apply keeps_bump | apply keeps_set | apply Keeps.ite)
    | (refine Keeps.pair (by assumption) ?_)
    | (refine Keeps.pair3 (by assumption) ?_)
    | (intro _ _ _)
    | (intro _ _)
    | (intro _)
    | split
    | dsimp only)

theorem keeps_canRecover {s0 : State} (s : State) (n : ℕ) (h : Keeps s0 s) :
    Keeps s0 (State.canRecover s n) := by
  unfold State.canRecover
  try dsimp only
  repeat (first
    | with_reducible assumption
    | with_reducible apply keeps_canPutState
    | with_reducible apply keeps_set
    | with_reducible apply keeps_canSetErr
    | with_reducible apply keeps_busOffLine
    | with_reducible apply keeps_canRecord
    | with_reducible apply keeps_legacyLog
    | with_reducible apply Keeps.ite
    | (with_reducible apply Keeps.upd; with_reducible first | assumption | apply keeps_canPutState | apply keeps_set | apply keeps_canSetErr | apply keeps_busOffLine | apply keeps_canRecord | apply keeps_legacyLog | apply Keeps.ite)
    | (refine Keeps.pair (by assumption) ?_)
    | (refine Keeps.pair3 (by assumption) ?_)
    | (intro _ _ _)
    | (intro _ _)
    | (intro _)
    | split
    | dsimp only)

theorem keeps_canFaultRecord {s0 : State} (s : State) (n : ℕ) (cond : ℕ) (h : Keeps s0 s) :
    Keeps s0 (State.canFaultRecord s n cond) := by
  unfold State.canFaultRecord
  try dsimp only
  repeat (first
    | with_reducible assumption
    | with_reducible apply keeps_rateCheck
    | with_reducible apply keeps_record
    | with_reducible apply Keeps.ite
    | (with_reducible apply Keeps.upd; with_reducible first | assumption | apply keeps_rateCheck | apply keeps_record | apply Keeps.ite)
    | (refine Keeps.pair (by assumption) ?_)
    | (refine Keeps.pair3 (by assumption) ?_)
    | (intro _ _ _)
    | (intro _ _)
    | (intro _)
    | split
    | dsimp only)

theorem keeps_canCondition {s0 : State} (s : State) (n : ℕ) (cond : ℕ) (on : Bool) (h : Keeps s0 s) :
    Keeps s0 (State.canCondition s n cond on) := by
  unfold State.canCondition
  try dsimp only
  repeat (first
    | with_reducible assumption
    | with_reducible apply keeps_setB
    | with_reducible apply keeps_load
    | with_reducible apply keeps_line
    | with_reducible apply keeps_canFaultRecord
    | with_reducible apply Keeps.ite
    | (with_reducible apply Keeps.upd; with_reducible first | assumption | apply keeps_setB | apply keeps_load | apply keeps_line | apply keeps_canFaultRecord | apply Keeps.ite)
    | (refine Keeps.pair (by assumption) ?_)
    | (refine Keeps.pair3 (by assumption) ?_)
    | (intro _ _ _)
    | (intro _ _)
    | (intro _)
    | split
    | dsimp only)

theorem keeps_canOverrun {s0 : State} (s : State) (n : ℕ) (q : ℕ) (h : Keeps s0 s) :
    Keeps s0 (State.canOverrun s n q) := by
  unfold State.canOverrun
  try dsimp only
  repeat (first
    | with_reducible assumption
    | with_reducible apply keeps_set
    | with_reducible apply keeps_bump
    | with_reducible apply Keeps.ite
    | (with_reducible apply Keeps.upd; with_reducible first | assumption | apply keeps_set | apply keeps_bump | apply Keeps.ite)
    | (refine Keeps.pair (by assumption) ?_)
    | (refine Keeps.pair3 (by assumption) ?_)
    | (intro _ _ _)
    | (intro _ _)
    | (intro _)
    | split
    | dsimp only)

theorem keeps_canStore {s0 : State} (s : State) (n : ℕ) (q : ℕ) (e : Bytes) (h : Keeps s0 s) :
    Keeps s0 (State.canStore s n q e) := by
  unfold State.canStore
  try dsimp only
  repeat (first
    | with_reducible assumption
    | with_reducible apply keeps_flwMap
    | with_reducible apply keeps_chanMap
    | with_reducible apply keeps_canOverrun
    | with_reducible apply Keeps.ite
    | (with_reducible apply Keeps.upd; with_reducible first | assumption | apply keeps_flwMap | apply keeps_chanMap | apply keeps_canOverrun | apply Keeps.ite)
    | (refine Keeps.pair (by assumption) ?_)
    | (refine Keeps.pair3 (by assumption) ?_)
    | (intro _ _ _)
    | (intro _ _)
    | (intro _)
    | split
    | dsimp only)

theorem keeps_canReceive {s0 : State} (s : State) (n : ℕ) (f : CanFrame) (sof : ℕ) (h : Keeps s0 s) :
    Keeps s0 (State.canReceive s n f sof) := by
  unfold State.canReceive
  try dsimp only
  repeat (first
    | with_reducible assumption
    | with_reducible apply keeps_canCondition
    | with_reducible apply keeps_chanMap
    | with_reducible apply keeps_canRxOk
    | with_reducible apply keeps_bump
    | with_reducible apply keeps_draw
    | with_reducible apply keeps_canStore
    | with_reducible apply Keeps.ite
    | (with_reducible apply Keeps.upd; with_reducible first | assumption | apply keeps_canCondition | apply keeps_chanMap | apply keeps_canRxOk | apply keeps_bump | apply keeps_draw | apply keeps_canStore | apply Keeps.ite)
    | (refine Keeps.pair (by assumption) ?_)
    | (refine Keeps.pair3 (by assumption) ?_)
    | (intro _ _ _)
    | (intro _ _)
    | (intro _)
    | split
    | dsimp only)

theorem keeps_ttLine {s0 : State} (s : State) (h : Keeps s0 s) :
    Keeps s0 (State.ttLine s) := by
  unfold State.ttLine
  try dsimp only
  repeat (first
    | with_reducible assumption
    | with_reducible apply keeps_line
    | with_reducible apply Keeps.ite
    | (with_reducible apply Keeps.upd; with_reducible first | assumption | apply keeps_line | apply Keeps.ite)
    | (refine Keeps.pair (by assumption) ?_)
    | (refine Keeps.pair3 (by assumption) ?_)
    | (intro _ _ _)
    | (intro _ _)
    | (intro _)
    | split
    | dsimp only)

theorem keeps_ttSync {s0 : State} (s : State) (n : ℕ) (at_ : ℕ) (count : ℕ) (st : ℕ) (h : Keeps s0 s) :
    Keeps s0 (State.ttSync s n at_ count st) := by
  unfold State.ttSync
  try dsimp only
  repeat (first
    | with_reducible assumption
    | with_reducible apply keeps_ttLine
    | with_reducible apply keeps_chanMap
    | with_reducible apply keeps_load
    | with_reducible apply Keeps.ite
    | (with_reducible apply Keeps.upd; with_reducible first | assumption | apply keeps_ttLine | apply keeps_chanMap | apply keeps_load | apply Keeps.ite)
    | (refine Keeps.pair (by assumption) ?_)
    | (refine Keeps.pair3 (by assumption) ?_)
    | (intro _ _ _)
    | (intro _ _)
    | (intro _)
    | split
    | dsimp only)

theorem keeps_canFrameIn {s0 : State} (s : State) (n : ℕ) (f : CanFrame) (sof : ℕ) (h : Keeps s0 s) :
    Keeps s0 (State.canFrameIn s n f sof) := by
  unfold State.canFrameIn
  try dsimp only
  repeat (first
    | with_reducible assumption
    | with_reducible apply keeps_canReceive
    | with_reducible apply keeps_ttSync
    | with_reducible apply Keeps.ite
    | (with_reducible apply Keeps.upd; with_reducible first | assumption | apply keeps_canReceive | apply keeps_ttSync | apply Keeps.ite)
    | (refine Keeps.pair (by assumption) ?_)
    | (refine Keeps.pair3 (by assumption) ?_)
    | (intro _ _ _)
    | (intro _ _)
    | (intro _)
    | split
    | dsimp only)

theorem keeps_execCanTtReferenceReceive {s0 : State} (channel : ℕ) (frame : CanFrame) (sof : ℕ) (s : State) (h : Keeps s0 s) :
    ∃ u, execCanTtReferenceReceive channel frame sof s = finish u ∧ Keeps s0 u := by
  refine ⟨_, rfl, ?_⟩
  try dsimp only
  repeat (first
    | with_reducible assumption
    | with_reducible apply keeps_canFrameIn
    | with_reducible apply Keeps.ite
    | (with_reducible apply Keeps.upd; with_reducible first | assumption | apply keeps_canFrameIn | apply Keeps.ite)
    | (refine Keeps.pair (by assumption) ?_)
    | (refine Keeps.pair3 (by assumption) ?_)
    | (intro _ _ _)
    | (intro _ _)
    | (intro _)
    | split
    | dsimp only)

theorem keeps_canRxError {s0 : State} (s : State) (n : ℕ) (kind : ℕ) (add : ℕ) (early : Bool) (h : Keeps s0 s) :
    Keeps s0 (State.canRxError s n kind add early) := by
  unfold State.canRxError
  try dsimp only
  repeat (first
    | with_reducible assumption
    | with_reducible apply keeps_canAddErr
    | with_reducible apply keeps_canCountErr
    | with_reducible apply keeps_chanMap
    | with_reducible apply keeps_canCondition
    | with_reducible apply Keeps.ite
    | (with_reducible apply Keeps.upd; with_reducible first | assumption | apply keeps_canAddErr | apply keeps_canCountErr | apply keeps_chanMap | apply keeps_canCondition | apply Keeps.ite)
    | (refine Keeps.pair (by assumption) ?_)
    | (refine Keeps.pair3 (by assumption) ?_)
    | (intro _ _ _)
    | (intro _ _)
    | (intro _)
    | split
    | dsimp only)

theorem keeps_execCanRxError {s0 : State} (channel : ℕ) (kind : ℕ) (add : ℕ) (early : Bool) (s : State) (h : Keeps s0 s) :
    ∃ u, execCanRxError channel kind add early s = finish u ∧ Keeps s0 u := by
  refine ⟨_, rfl, ?_⟩
  try dsimp only
  repeat (first
    | with_reducible assumption
    | with_reducible apply keeps_canRxError
    | with_reducible apply Keeps.ite
    | (with_reducible apply Keeps.upd; with_reducible first | assumption | apply keeps_canRxError | apply Keeps.ite)
    | (refine Keeps.pair (by assumption) ?_)
    | (refine Keeps.pair3 (by assumption) ?_)
    | (intro _ _ _)
    | (intro _ _)
    | (intro _)
    | split
    | dsimp only)

theorem keeps_execCanProtocolException {s0 : State} (channel : ℕ) (s : State) (h : Keeps s0 s) :
    ∃ u, execCanProtocolException channel s = finish u ∧ Keeps s0 u := by
  refine ⟨_, rfl, ?_⟩
  try dsimp only
  repeat (first
    | with_reducible assumption
    | with_reducible apply keeps_chanMap
    | with_reducible apply keeps_bump
    | with_reducible apply Keeps.ite
    | (with_reducible apply Keeps.upd; with_reducible first | assumption | apply keeps_chanMap | apply keeps_bump | apply Keeps.ite)
    | (refine Keeps.pair (by assumption) ?_)
    | (refine Keeps.pair3 (by assumption) ?_)
    | (intro _ _ _)
    | (intro _ _)
    | (intro _)
    | split
    | dsimp only)

theorem keeps_canSend {s0 : State} (s : State) (n : ℕ) (e : CanEntry) (h : Keeps s0 s) :
    Keeps s0 (State.canSend s n e) := by
  unfold State.canSend
  try dsimp only
  repeat (first
    | with_reducible assumption
    | with_reducible apply keeps_emit
    | with_reducible apply keeps_chanMap
    | with_reducible apply Keeps.ite
    | (with_reducible apply Keeps.upd; with_reducible first | assumption | apply keeps_emit | apply keeps_chanMap | apply Keeps.ite)
    | (refine Keeps.pair (by assumption) ?_)
    | (refine Keeps.pair3 (by assumption) ?_)
    | (intro _ _ _)
    | (intro _ _)
    | (intro _)
    | split
    | dsimp only)

theorem keeps_canSelect {s0 : State} (s : State) (n : ℕ) (h : Keeps s0 s) :
    Keeps s0 (State.canSelect s n) := by
  unfold State.canSelect
  try dsimp only
  repeat (first
    | with_reducible assumption
    | with_reducible apply keeps_canSend
    | with_reducible apply Keeps.ite
    | (with_reducible apply Keeps.upd; with_reducible first | assumption | apply keeps_canSend | apply Keeps.ite)
    | (refine Keeps.pair (by assumption) ?_)
    | (refine Keeps.pair3 (by assumption) ?_)
    | (intro _ _ _)
    | (intro _ _)
    | (intro _)
    | split
    | dsimp only)

theorem keeps_slotMiss {s0 : State} (s : State) (n : ℕ) (e : CanEntry) (h : Keeps s0 s) :
    Keeps s0 (State.slotMiss s n e) := by
  unfold State.slotMiss
  try dsimp only
  repeat (first
    | with_reducible assumption
    | with_reducible apply keeps_canComplete
    | with_reducible apply keeps_set
    | with_reducible apply keeps_bump
    | with_reducible apply Keeps.ite
    | (with_reducible apply Keeps.upd; with_reducible first | assumption | apply keeps_canComplete | apply keeps_set | apply keeps_bump | apply Keeps.ite)
    | (refine Keeps.pair (by assumption) ?_)
    | (refine Keeps.pair3 (by assumption) ?_)
    | (intro _ _ _)
    | (intro _ _)
    | (intro _)
    | split
    | dsimp only)

theorem keeps_canAttemptFails {s0 : State} (s : State) (n : ℕ) (e : CanEntry) (pin : Bool) (h : Keeps s0 s) :
    Keeps s0 (State.canAttemptFails s n e pin) := by
  unfold State.canAttemptFails
  try dsimp only
  repeat (first
    | with_reducible assumption
    | with_reducible apply keeps_chanMap
    | with_reducible apply keeps_canComplete
    | with_reducible apply keeps_slotMiss
    | with_reducible apply Keeps.ite
    | (with_reducible apply Keeps.upd; with_reducible first | assumption | apply keeps_chanMap | apply keeps_canComplete | apply keeps_slotMiss | apply Keeps.ite)
    | (refine Keeps.pair (by assumption) ?_)
    | (refine Keeps.pair3 (by assumption) ?_)
    | (intro _ _ _)
    | (intro _ _)
    | (intro _)
    | split
    | dsimp only)

theorem keeps_canToStopped {s0 : State} (s : State) (n : ℕ) (h : Keeps s0 s) :
    Keeps s0 (State.canToStopped s n) := by
  unfold State.canToStopped
  try dsimp only
  repeat (first
    | with_reducible assumption
    | with_reducible apply keeps_ttLine
    | with_reducible apply keeps_load
    | with_reducible apply keeps_canStopEntries
    | with_reducible apply Keeps.ite
    | (with_reducible apply Keeps.upd; with_reducible first | assumption | apply keeps_ttLine | apply keeps_load | apply keeps_canStopEntries | apply Keeps.ite)
    | (refine Keeps.pair (by assumption) ?_)
    | (refine Keeps.pair3 (by assumption) ?_)
    | (intro _ _ _)
    | (intro _ _)
    | (intro _)
    | split
    | dsimp only)

theorem keeps_canStopDue {s0 : State} (s : State) (n : ℕ) (h : Keeps s0 s) :
    Keeps s0 (State.canStopDue s n) := by
  unfold State.canStopDue
  try dsimp only
  repeat (first
    | with_reducible assumption
    | with_reducible apply keeps_canToStopped
    | with_reducible apply Keeps.ite
    | (with_reducible apply Keeps.upd; with_reducible first | assumption | apply keeps_canToStopped | apply Keeps.ite)
    | (refine Keeps.pair (by assumption) ?_)
    | (refine Keeps.pair3 (by assumption) ?_)
    | (intro _ _ _)
    | (intro _ _)
    | (intro _)
    | split
    | dsimp only)

theorem keeps_canLoopCheck {s0 : State} (s : State) (n : ℕ) (mismatch : Bool) (h : Keeps s0 s) :
    Keeps s0 (State.canLoopCheck s n mismatch) := by
  unfold State.canLoopCheck
  try dsimp only
  repeat (first
    | with_reducible assumption
    | with_reducible apply keeps_chanMap
    | with_reducible apply keeps_canCondition
    | with_reducible apply Keeps.ite
    | (with_reducible apply Keeps.upd; with_reducible first | assumption | apply keeps_chanMap | apply keeps_canCondition | apply Keeps.ite)
    | (refine Keeps.pair (by assumption) ?_)
    | (refine Keeps.pair3 (by assumption) ?_)
    | (intro _ _ _)
    | (intro _ _)
    | (intro _)
    | split
    | dsimp only)

theorem keeps_canMeasure {s0 : State} (s : State) (n : ℕ) (e : Bytes) (tdcv : ℕ) (h : Keeps s0 s) :
    Keeps s0 (State.canMeasure s n e tdcv) := by
  unfold State.canMeasure
  try dsimp only
  repeat (first
    | with_reducible assumption
    | with_reducible apply keeps_set
    | with_reducible apply Keeps.ite
    | (with_reducible apply Keeps.upd; with_reducible first | assumption | apply keeps_set | apply Keeps.ite)
    | (refine Keeps.pair (by assumption) ?_)
    | (refine Keeps.pair3 (by assumption) ?_)
    | (intro _ _ _)
    | (intro _ _)
    | (intro _)
    | split
    | dsimp only)

theorem keeps_canTxError {s0 : State} (s : State) (n : ℕ) (kind : ℕ) (add : ℕ) (tdcv : ℕ) (mismatch : Bool) (h : Keeps s0 s) :
    Keeps s0 (State.canTxError s n kind add tdcv mismatch) := by
  unfold State.canTxError
  try dsimp only
  repeat (first
    | with_reducible assumption
    | with_reducible apply keeps_canCountErr
    | with_reducible apply keeps_chanMap
    | with_reducible apply keeps_canStopDue
    | with_reducible apply keeps_canLoopCheck
    | with_reducible apply keeps_canAddErr
    | with_reducible apply keeps_canMeasure
    | with_reducible apply keeps_canAttemptFails
    | with_reducible apply Keeps.ite
    | (with_reducible apply Keeps.upd; with_reducible first | assumption | apply keeps_canCountErr | apply keeps_chanMap | apply keeps_canStopDue | apply keeps_canLoopCheck | apply keeps_canAddErr | apply keeps_canMeasure | apply keeps_canAttemptFails | apply Keeps.ite)
    | (refine Keeps.pair (by assumption) ?_)
    | (refine Keeps.pair3 (by assumption) ?_)
    | (intro _ _ _)
    | (intro _ _)
    | (intro _)
    | split
    | dsimp only)

theorem keeps_refSent {s0 : State} (s : State) (n : ℕ) (h : Keeps s0 s) :
    Keeps s0 (State.refSent s n) := by
  unfold State.refSent
  try dsimp only
  repeat (first
    | with_reducible assumption
    | with_reducible apply keeps_ttSync
    | with_reducible apply keeps_chanMap
    | with_reducible apply keeps_record
    | with_reducible apply keeps_set
    | with_reducible apply keeps_bump
    | with_reducible apply Keeps.ite
    | (with_reducible apply Keeps.upd; with_reducible first | assumption | apply keeps_ttSync | apply keeps_chanMap | apply keeps_record | apply keeps_set | apply keeps_bump | apply Keeps.ite)
    | (refine Keeps.pair (by assumption) ?_)
    | (refine Keeps.pair3 (by assumption) ?_)
    | (intro _ _ _)
    | (intro _ _)
    | (intro _)
    | split
    | dsimp only)

theorem keeps_canTxSuccess {s0 : State} (s : State) (n : ℕ) (tdcv : ℕ) (h : Keeps s0 s) :
    Keeps s0 (State.canTxSuccess s n tdcv) := by
  unfold State.canTxSuccess
  try dsimp only
  repeat (first
    | with_reducible assumption
    | with_reducible apply keeps_canStopDue
    | with_reducible apply keeps_refSent
    | with_reducible apply keeps_canLoopCheck
    | with_reducible apply keeps_canTxOk
    | with_reducible apply keeps_canTxError
    | with_reducible apply keeps_canMeasure
    | with_reducible apply keeps_canComplete
    | with_reducible apply Keeps.ite
    | (with_reducible apply Keeps.upd; with_reducible first | assumption | apply keeps_canStopDue | apply keeps_refSent | apply keeps_canLoopCheck | apply keeps_canTxOk | apply keeps_canTxError | apply keeps_canMeasure | apply keeps_canComplete | apply Keeps.ite)
    | (refine Keeps.pair (by assumption) ?_)
    | (refine Keeps.pair3 (by assumption) ?_)
    | (intro _ _ _)
    | (intro _ _)
    | (intro _)
    | split
    | dsimp only)

theorem keeps_canArbLost {s0 : State} (s : State) (n : ℕ) (h : Keeps s0 s) :
    Keeps s0 (State.canArbLost s n) := by
  unfold State.canArbLost
  try dsimp only
  repeat (first
    | with_reducible assumption
    | with_reducible apply keeps_canStopDue
    | with_reducible apply keeps_canLoopCheck
    | with_reducible apply keeps_chanMap
    | with_reducible apply keeps_canAttemptFails
    | with_reducible apply Keeps.ite
    | (with_reducible apply Keeps.upd; with_reducible first | assumption | apply keeps_canStopDue | apply keeps_canLoopCheck | apply keeps_chanMap | apply keeps_canAttemptFails | apply Keeps.ite)
    | (refine Keeps.pair (by assumption) ?_)
    | (refine Keeps.pair3 (by assumption) ?_)
    | (intro _ _ _)
    | (intro _ _)
    | (intro _)
    | split
    | dsimp only)

theorem keeps_canStartUp {s0 : State} (s : State) (n : ℕ) (h : Keeps s0 s) :
    Keeps s0 (State.canStartUp s n) := by
  unfold State.canStartUp
  try dsimp only
  repeat (first
    | with_reducible assumption
    | with_reducible apply keeps_chanMap
    | with_reducible apply keeps_canPutState
    | with_reducible apply Keeps.ite
    | (with_reducible apply Keeps.upd; with_reducible first | assumption | apply keeps_chanMap | apply keeps_canPutState | apply Keeps.ite)
    | (refine Keeps.pair (by assumption) ?_)
    | (refine Keeps.pair3 (by assumption) ?_)
    | (intro _ _ _)
    | (intro _ _)
    | (intro _)
    | split
    | dsimp only)

theorem keeps_canRecessive {s0 : State} (s : State) (n : ℕ) (h : Keeps s0 s) :
    Keeps s0 (State.canRecessive s n) := by
  unfold State.canRecessive
  try dsimp only
  repeat (first
    | with_reducible assumption
    | with_reducible apply keeps_chanMap
    | with_reducible apply keeps_set
    | with_reducible apply keeps_canRecover
    | with_reducible apply Keeps.ite
    | (with_reducible apply Keeps.upd; with_reducible first | assumption | apply keeps_chanMap | apply keeps_set | apply keeps_canRecover | apply Keeps.ite)
    | (refine Keeps.pair (by assumption) ?_)
    | (refine Keeps.pair3 (by assumption) ?_)
    | (intro _ _ _)
    | (intro _ _)
    | (intro _)
    | split
    | dsimp only)

theorem keeps_execCanRecessive11 {s0 : State} (channel : ℕ) (s : State) (h : Keeps s0 s) :
    ∃ u, execCanRecessive11 channel s = finish u ∧ Keeps s0 u := by
  refine ⟨_, rfl, ?_⟩
  try dsimp only
  repeat (first
    | with_reducible assumption
    | with_reducible apply keeps_canRecessive
    | with_reducible apply Keeps.ite
    | (with_reducible apply Keeps.upd; with_reducible first | assumption | apply keeps_canRecessive | apply Keeps.ite)
    | (refine Keeps.pair (by assumption) ?_)
    | (refine Keeps.pair3 (by assumption) ?_)
    | (intro _ _ _)
    | (intro _ _)
    | (intro _)
    | split
    | dsimp only)

theorem keeps_canHold {s0 : State} (s : State) (n : ℕ) (h : Keeps s0 s) :
    Keeps s0 (State.canHold s n) := by
  unfold State.canHold
  try dsimp only
  repeat (first
    | with_reducible assumption
    | with_reducible apply keeps_canAttemptFails
    | with_reducible apply keeps_canPutState
    | with_reducible apply keeps_chanMap
    | with_reducible apply keeps_canStopDue
    | with_reducible apply keeps_canCondition
    | with_reducible apply Keeps.ite
    | (with_reducible apply Keeps.upd; with_reducible first | assumption | apply keeps_canAttemptFails | apply keeps_canPutState | apply keeps_chanMap | apply keeps_canStopDue | apply keeps_canCondition | apply Keeps.ite)
    | (refine Keeps.pair (by assumption) ?_)
    | (refine Keeps.pair3 (by assumption) ?_)
    | (intro _ _ _)
    | (intro _ _)
    | (intro _)
    | split
    | dsimp only)

theorem keeps_execCanDominantTimeout {s0 : State} (channel : ℕ) (s : State) (h : Keeps s0 s) :
    ∃ u, execCanDominantTimeout channel s = finish u ∧ Keeps s0 u := by
  refine ⟨_, rfl, ?_⟩
  try dsimp only
  repeat (first
    | with_reducible assumption
    | with_reducible apply keeps_canHold
    | with_reducible apply Keeps.ite
    | (with_reducible apply Keeps.upd; with_reducible first | assumption | apply keeps_canHold | apply Keeps.ite)
    | (refine Keeps.pair (by assumption) ?_)
    | (refine Keeps.pair3 (by assumption) ?_)
    | (intro _ _ _)
    | (intro _ _)
    | (intro _)
    | split
    | dsimp only)

theorem keeps_execCanDominantClear {s0 : State} (channel : ℕ) (s : State) (h : Keeps s0 s) :
    ∃ u, execCanDominantClear channel s = finish u ∧ Keeps s0 u := by
  refine ⟨_, rfl, ?_⟩
  try dsimp only
  repeat (first
    | with_reducible assumption
    | with_reducible apply keeps_canCondition
    | with_reducible apply keeps_canStartUp
    | with_reducible apply Keeps.ite
    | (with_reducible apply Keeps.upd; with_reducible first | assumption | apply keeps_canCondition | apply keeps_canStartUp | apply Keeps.ite)
    | (refine Keeps.pair (by assumption) ?_)
    | (refine Keeps.pair3 (by assumption) ?_)
    | (intro _ _ _)
    | (intro _ _)
    | (intro _)
    | split
    | dsimp only)

theorem keeps_canStart {s0 : State} (s : State) (n : ℕ) (h : Keeps s0 s) :
    Keeps s0 (State.canStart s n) := by
  unfold State.canStart
  try dsimp only
  repeat (first
    | with_reducible assumption
    | with_reducible apply keeps_load
    | with_reducible apply keeps_chanMap
    | with_reducible apply keeps_set
    | with_reducible apply keeps_canStartUp
    | with_reducible apply Keeps.ite
    | (with_reducible apply Keeps.upd; with_reducible first | assumption | apply keeps_load | apply keeps_chanMap | apply keeps_set | apply keeps_canStartUp | apply Keeps.ite)
    | (refine Keeps.pair (by assumption) ?_)
    | (refine Keeps.pair3 (by assumption) ?_)
    | (intro _ _ _)
    | (intro _ _)
    | (intro _)
    | split
    | dsimp only)

theorem keeps_cmdCanStart {s0 : State} (n : ℕ) (a : ℕ) (t : State) (h : Keeps s0 t) :
    Keeps s0 ((cmdCanStart n).run a t) := by
  unfold cmdCanStart
  try dsimp only
  repeat (first
    | with_reducible assumption
    | with_reducible apply keeps_canStart
    | with_reducible apply Keeps.ite
    | (with_reducible apply Keeps.upd; with_reducible first | assumption | apply keeps_canStart | apply Keeps.ite)
    | (refine Keeps.pair (by assumption) ?_)
    | (refine Keeps.pair3 (by assumption) ?_)
    | (intro _ _ _)
    | (intro _ _)
    | (intro _)
    | split
    | dsimp only)

theorem keeps_canStop {s0 : State} (s : State) (n : ℕ) (h : Keeps s0 s) :
    Keeps s0 (State.canStop s n) := by
  unfold State.canStop
  try dsimp only
  repeat (first
    | with_reducible assumption
    | with_reducible apply keeps_chanMap
    | with_reducible apply keeps_canCompleteAll
    | with_reducible apply keeps_canToStopped
    | with_reducible apply Keeps.ite
    | (with_reducible apply Keeps.upd; with_reducible first | assumption | apply keeps_chanMap | apply keeps_canCompleteAll | apply keeps_canToStopped | apply Keeps.ite)
    | (refine Keeps.pair (by assumption) ?_)
    | (refine Keeps.pair3 (by assumption) ?_)
    | (intro _ _ _)
    | (intro _ _)
    | (intro _)
    | split
    | dsimp only)

theorem keeps_cmdCanStop {s0 : State} (n : ℕ) (a : ℕ) (t : State) (h : Keeps s0 t) :
    Keeps s0 ((cmdCanStop n).run a t) := by
  unfold cmdCanStop
  try dsimp only
  repeat (first
    | with_reducible assumption
    | with_reducible apply keeps_canStop
    | with_reducible apply Keeps.ite
    | (with_reducible apply Keeps.upd; with_reducible first | assumption | apply keeps_canStop | apply Keeps.ite)
    | (refine Keeps.pair (by assumption) ?_)
    | (refine Keeps.pair3 (by assumption) ?_)
    | (intro _ _ _)
    | (intro _ _)
    | (intro _)
    | split
    | dsimp only)

theorem keeps_canCancelOne {s0 : State} (n : ℕ) (s : State) (e : CanEntry) (h : Keeps s0 s) :
    Keeps s0 (State.canCancelOne n s e) := by
  unfold State.canCancelOne
  try dsimp only
  repeat (first
    | with_reducible assumption
    | with_reducible apply keeps_chanMap
    | with_reducible apply keeps_canComplete
    | with_reducible apply Keeps.ite
    | (with_reducible apply Keeps.upd; with_reducible first | assumption | apply keeps_chanMap | apply keeps_canComplete | apply Keeps.ite)
    | (refine Keeps.pair (by assumption) ?_)
    | (refine Keeps.pair3 (by assumption) ?_)
    | (intro _ _ _)
    | (intro _ _)
    | (intro _)
    | split
    | dsimp only)

theorem keeps_cmdCanCancel {s0 : State} (n : ℕ) (a : ℕ) (t : State) (h : Keeps s0 t) :
    Keeps s0 ((cmdCanCancel n).run a t) := by
  unfold cmdCanCancel
  try dsimp only
  repeat (first
    | with_reducible assumption
    | with_reducible apply keeps_canCancelOne
    | with_reducible apply Keeps.ite
    | (with_reducible apply Keeps.foldl; intro _ _ _)
    | (with_reducible apply Keeps.upd; with_reducible first | assumption | apply keeps_canCancelOne | apply Keeps.ite | (apply Keeps.foldl; intro _ _ _))
    | (refine Keeps.pair (by assumption) ?_)
    | (refine Keeps.pair3 (by assumption) ?_)
    | (intro _ _ _)
    | (intro _ _)
    | (intro _)
    | split
    | dsimp only)

theorem keeps_execCanStart {s0 : State} (path : Path) (channel : ℕ) (arg : ℕ) (s : State) (h : Keeps s0 s) :
    ∃ u, execCanStart path channel arg s = finish u ∧ Keeps s0 u := by
  refine ⟨_, rfl, ?_⟩
  try dsimp only
  repeat (first
    | with_reducible assumption
    | with_reducible apply keeps_command
    | with_reducible apply keeps_cmdCanStart
    | with_reducible apply Keeps.ite
    | (with_reducible apply Keeps.upd; with_reducible first | assumption | apply keeps_command | apply keeps_cmdCanStart | apply Keeps.ite)
    | (refine Keeps.pair (by assumption) ?_)
    | (refine Keeps.pair3 (by assumption) ?_)
    | (intro _ _ _)
    | (intro _ _)
    | (intro _)
    | split
    | dsimp only)

theorem keeps_execCanStop {s0 : State} (path : Path) (channel : ℕ) (arg : ℕ) (s : State) (h : Keeps s0 s) :
    ∃ u, execCanStop path channel arg s = finish u ∧ Keeps s0 u := by
  refine ⟨_, rfl, ?_⟩
  try dsimp only
  repeat (first
    | with_reducible assumption
    | with_reducible apply keeps_command
    | with_reducible apply keeps_cmdCanStop
    | with_reducible apply Keeps.ite
    | (with_reducible apply Keeps.upd; with_reducible first | assumption | apply keeps_command | apply keeps_cmdCanStop | apply Keeps.ite)
    | (refine Keeps.pair (by assumption) ?_)
    | (refine Keeps.pair3 (by assumption) ?_)
    | (intro _ _ _)
    | (intro _ _)
    | (intro _)
    | split
    | dsimp only)

theorem keeps_execCanCancel {s0 : State} (path : Path) (channel : ℕ) (arg : ℕ) (s : State) (h : Keeps s0 s) :
    ∃ u, execCanCancel path channel arg s = finish u ∧ Keeps s0 u := by
  refine ⟨_, rfl, ?_⟩
  try dsimp only
  repeat (first
    | with_reducible assumption
    | with_reducible apply keeps_command
    | with_reducible apply keeps_cmdCanCancel
    | with_reducible apply Keeps.ite
    | (with_reducible apply Keeps.upd; with_reducible first | assumption | apply keeps_command | apply keeps_cmdCanCancel | apply Keeps.ite)
    | (refine Keeps.pair (by assumption) ?_)
    | (refine Keeps.pair3 (by assumption) ?_)
    | (intro _ _ _)
    | (intro _ _)
    | (intro _)
    | split
    | dsimp only)

theorem keeps_refSend {s0 : State} (s : State) (n : ℕ) (h : Keeps s0 s) :
    Keeps s0 (State.refSend s n) := by
  unfold State.refSend
  try dsimp only
  repeat (first
    | with_reducible assumption
    | with_reducible apply keeps_emit
    | with_reducible apply keeps_chanMap
    | with_reducible apply Keeps.ite
    | (with_reducible apply Keeps.upd; with_reducible first | assumption | apply keeps_emit | apply keeps_chanMap | apply Keeps.ite)
    | (refine Keeps.pair (by assumption) ?_)
    | (refine Keeps.pair3 (by assumption) ?_)
    | (intro _ _ _)
    | (intro _ _)
    | (intro _)
    | split
    | dsimp only)

theorem keeps_execCanTtReferenceSend {s0 : State} (channel : ℕ) (s : State) (h : Keeps s0 s) :
    ∃ u, execCanTtReferenceSend channel s = finish u ∧ Keeps s0 u := by
  refine ⟨_, rfl, ?_⟩
  try dsimp only
  repeat (first
    | with_reducible assumption
    | with_reducible apply keeps_refSend
    | with_reducible apply Keeps.ite
    | (with_reducible apply Keeps.upd; with_reducible first | assumption | apply keeps_refSend | apply Keeps.ite)
    | (refine Keeps.pair (by assumption) ?_)
    | (refine Keeps.pair3 (by assumption) ?_)
    | (intro _ _ _)
    | (intro _ _)
    | (intro _)
    | split
    | dsimp only)

theorem keeps_execCanTtFirstReference {s0 : State} (channel : ℕ) (s : State) (h : Keeps s0 s) :
    ∃ u, execCanTtFirstReference channel s = finish u ∧ Keeps s0 u := by
  refine ⟨_, rfl, ?_⟩
  try dsimp only
  repeat (first
    | with_reducible assumption
    | with_reducible apply keeps_refSend
    | with_reducible apply Keeps.ite
    | (with_reducible apply Keeps.upd; with_reducible first | assumption | apply keeps_refSend | apply Keeps.ite)
    | (refine Keeps.pair (by assumption) ?_)
    | (refine Keeps.pair3 (by assumption) ?_)
    | (intro _ _ _)
    | (intro _ _)
    | (intro _)
    | split
    | dsimp only)

theorem keeps_ttLose {s0 : State} (s : State) (n : ℕ) (h : Keeps s0 s) :
    Keeps s0 (State.ttLose s n) := by
  unfold State.ttLose
  try dsimp only
  repeat (first
    | with_reducible assumption
    | with_reducible apply keeps_canCompleteAll
    | with_reducible apply keeps_ttLine
    | with_reducible apply keeps_load
    | with_reducible apply Keeps.ite
    | (with_reducible apply Keeps.upd; with_reducible first | assumption | apply keeps_canCompleteAll | apply keeps_ttLine | apply keeps_load | apply Keeps.ite)
    | (refine Keeps.pair (by assumption) ?_)
    | (refine Keeps.pair3 (by assumption) ?_)
    | (intro _ _ _)
    | (intro _ _)
    | (intro _)
    | split
    | dsimp only)

theorem keeps_refMissing {s0 : State} (s : State) (n : ℕ) (h : Keeps s0 s) :
    Keeps s0 (State.refMissing s n) := by
  unfold State.refMissing
  try dsimp only
  repeat (first
    | with_reducible assumption
    | with_reducible apply keeps_load
    | with_reducible apply keeps_bump
    | with_reducible apply keeps_chanMap
    | with_reducible apply keeps_ttLose
    | with_reducible apply Keeps.ite
    | (with_reducible apply Keeps.upd; with_reducible first | assumption | apply keeps_load | apply keeps_bump | apply keeps_chanMap | apply keeps_ttLose | apply Keeps.ite)
    | (refine Keeps.pair (by assumption) ?_)
    | (refine Keeps.pair3 (by assumption) ?_)
    | (intro _ _ _)
    | (intro _ _)
    | (intro _)
    | split
    | dsimp only)

theorem keeps_execCanTtReferenceMissing {s0 : State} (channel : ℕ) (s : State) (h : Keeps s0 s) :
    ∃ u, execCanTtReferenceMissing channel s = finish u ∧ Keeps s0 u := by
  refine ⟨_, rfl, ?_⟩
  try dsimp only
  repeat (first
    | with_reducible assumption
    | with_reducible apply keeps_refMissing
    | with_reducible apply Keeps.ite
    | (with_reducible apply Keeps.upd; with_reducible first | assumption | apply keeps_refMissing | apply Keeps.ite)
    | (refine Keeps.pair (by assumption) ?_)
    | (refine Keeps.pair3 (by assumption) ?_)
    | (intro _ _ _)
    | (intro _ _)
    | (intro _)
    | split
    | dsimp only)

theorem keeps_windowStart {s0 : State} (s : State) (n : ℕ) (w : ℕ) (busFree : Bool) (h : Keeps s0 s) :
    Keeps s0 (State.windowStart s n w busFree) := by
  unfold State.windowStart
  try dsimp only
  repeat (first
    | with_reducible assumption
    | with_reducible apply keeps_chanMap
    | with_reducible apply keeps_canSend
    | with_reducible apply Keeps.ite
    | (with_reducible apply Keeps.upd; with_reducible first | assumption | apply keeps_chanMap | apply keeps_canSend | apply Keeps.ite)
    | (refine Keeps.pair (by assumption) ?_)
    | (refine Keeps.pair3 (by assumption) ?_)
    | (intro _ _ _)
    | (intro _ _)
    | (intro _)
    | split
    | dsimp only)

theorem keeps_execCanTtWindowStart {s0 : State} (channel : ℕ) (window : ℕ) (busFree : Bool) (s : State) (h : Keeps s0 s) :
    ∃ u, execCanTtWindowStart channel window busFree s = finish u ∧ Keeps s0 u := by
  refine ⟨_, rfl, ?_⟩
  try dsimp only
  repeat (first
    | with_reducible assumption
    | with_reducible apply keeps_windowStart
    | with_reducible apply Keeps.ite
    | (with_reducible apply Keeps.upd; with_reducible first | assumption | apply keeps_windowStart | apply Keeps.ite)
    | (refine Keeps.pair (by assumption) ?_)
    | (refine Keeps.pair3 (by assumption) ?_)
    | (intro _ _ _)
    | (intro _ _)
    | (intro _)
    | split
    | dsimp only)

theorem keeps_windowMissed {s0 : State} (s : State) (n : ℕ) (w : ℕ) (h : Keeps s0 s) :
    Keeps s0 (State.windowMissed s n w) := by
  unfold State.windowMissed
  try dsimp only
  repeat (first
    | with_reducible assumption
    | with_reducible apply keeps_chanMap
    | with_reducible apply keeps_slotMiss
    | with_reducible apply Keeps.ite
    | (with_reducible apply Keeps.upd; with_reducible first | assumption | apply keeps_chanMap | apply keeps_slotMiss | apply Keeps.ite)
    | (refine Keeps.pair (by assumption) ?_)
    | (refine Keeps.pair3 (by assumption) ?_)
    | (intro _ _ _)
    | (intro _ _)
    | (intro _)
    | split
    | dsimp only)

theorem keeps_execCanTtTxenExpiry {s0 : State} (channel : ℕ) (window : ℕ) (s : State) (h : Keeps s0 s) :
    ∃ u, execCanTtTxenExpiry channel window s = finish u ∧ Keeps s0 u := by
  refine ⟨_, rfl, ?_⟩
  try dsimp only
  repeat (first
    | with_reducible assumption
    | with_reducible apply keeps_windowMissed
    | with_reducible apply Keeps.ite
    | (with_reducible apply Keeps.upd; with_reducible first | assumption | apply keeps_windowMissed | apply Keeps.ite)
    | (refine Keeps.pair (by assumption) ?_)
    | (refine Keeps.pair3 (by assumption) ?_)
    | (intro _ _ _)
    | (intro _ _)
    | (intro _)
    | split
    | dsimp only)

end Sys2Proof.Machine
end

