-- ==== Sys2Proof/Laws/KeepsGlnOps.lean ====
section
/-! SUPPORT. The operations of `Sys2Proof/Machine/GlnOps.lean` keep what `Keeps` names. -/

set_option linter.unusedTactic false
set_option linter.unreachableTactic false

namespace Sys2Proof.Machine

theorem keeps_bdrDrop {s0 : State} (s : State) (h : Keeps s0 s) :
    Keeps s0 (State.bdrDrop s) := by
  unfold State.bdrDrop
  try dsimp only
  repeat (first
    | with_reducible assumption
    | with_reducible apply keeps_bump
    | with_reducible apply Keeps.ite
    | (with_reducible apply Keeps.upd; with_reducible first | assumption | apply keeps_bump | apply Keeps.ite)
    | (refine Keeps.pair (by assumption) ?_)
    | (refine Keeps.pair3 (by assumption) ?_)
    | (intro _ _ _)
    | (intro _ _)
    | (intro _)
    | split
    | dsimp only)

theorem keeps_bdrQueue {s0 : State} (s : State) (k : ℕ) (t0 : Telegram) (h : Keeps s0 s) :
    Keeps s0 (State.bdrQueue s k t0) := by
  unfold State.bdrQueue
  try dsimp only
  repeat (first
    | with_reducible assumption
    | with_reducible apply keeps_bdrDrop
    | with_reducible apply keeps_glnMap
    | with_reducible apply Keeps.ite
    | (with_reducible apply Keeps.upd; with_reducible first | assumption | apply keeps_bdrDrop | apply keeps_glnMap | apply Keeps.ite)
    | (refine Keeps.pair (by assumption) ?_)
    | (refine Keeps.pair3 (by assumption) ?_)
    | (intro _ _ _)
    | (intro _ _)
    | (intro _)
    | split
    | dsimp only)

theorem keeps_bdrHold {s0 : State} (s : State) (t0 : Telegram) (h : Keeps s0 s) :
    Keeps s0 (State.bdrHold s t0) := by
  unfold State.bdrHold
  try dsimp only
  repeat (first
    | with_reducible assumption
    | with_reducible apply keeps_glnMap
    | with_reducible apply keeps_bdrDrop
    | with_reducible apply Keeps.ite
    | (with_reducible apply Keeps.upd; with_reducible first | assumption | apply keeps_glnMap | apply keeps_bdrDrop | apply Keeps.ite)
    | (refine Keeps.pair (by assumption) ?_)
    | (refine Keeps.pair3 (by assumption) ?_)
    | (intro _ _ _)
    | (intro _ _)
    | (intro _)
    | split
    | dsimp only)

theorem keeps_translate {s0 : State} (s : State) (k : ℕ) (f : MsgFrame) (h : Keeps s0 s) :
    Keeps s0 (State.translate s k f) := by
  unfold State.translate
  try dsimp only
  repeat (first
    | with_reducible assumption
    | with_reducible apply keeps_bdrHold
    | with_reducible apply keeps_bdrDrop
    | with_reducible apply keeps_bdrQueue
    | with_reducible apply Keeps.ite
    | (with_reducible apply Keeps.upd; with_reducible first | assumption | apply keeps_bdrHold | apply keeps_bdrDrop | apply keeps_bdrQueue | apply Keeps.ite)
    | (refine Keeps.pair (by assumption) ?_)
    | (refine Keeps.pair3 (by assumption) ?_)
    | (intro _ _ _)
    | (intro _ _)
    | (intro _)
    | split
    | dsimp only)

end Sys2Proof.Machine
end

