-- ==== Sys2Proof/Laws/KeepsFlow.lean ====
section
/-! SUPPORT. The operations of `Sys2Proof/Machine/Flow.lean` keep what `Keeps` names. -/

set_option linter.unusedTactic false
set_option linter.unreachableTactic false

namespace Sys2Proof.Machine

theorem keeps_flowTakes {s0 : State} (i : Item) (s : State) (f : ℕ) (h : Keeps s0 s) :
    Keeps s0 (State.flowTakes i s f) := by
  unfold State.flowTakes
  try dsimp only
  repeat (first
    | with_reducible assumption
    | with_reducible apply keeps_runFlow
    | with_reducible apply Keeps.ite
    | (with_reducible apply Keeps.upd; with_reducible first | assumption | apply keeps_runFlow | apply Keeps.ite)
    | (refine Keeps.pair (by assumption) ?_)
    | (refine Keeps.pair3 (by assumption) ?_)
    | (intro _ _ _)
    | (intro _ _)
    | (intro _)
    | split
    | dsimp only)

theorem keeps_workUnit {s0 : State} (s : State) (ch : ℕ) (i : Item) (flows : List ℕ) (h : Keeps s0 s) :
    Keeps s0 (State.workUnit s ch i flows) := by
  unfold State.workUnit
  try dsimp only
  repeat (first
    | with_reducible assumption
    | with_reducible apply keeps_flwMap
    | with_reducible apply keeps_flowTakes
    | with_reducible apply Keeps.ite
    | (with_reducible apply Keeps.foldl; intro _ _ _)
    | (with_reducible apply Keeps.upd; with_reducible first | assumption | apply keeps_flwMap | apply keeps_flowTakes | apply Keeps.ite | (apply Keeps.foldl; intro _ _ _))
    | (refine Keeps.pair (by assumption) ?_)
    | (refine Keeps.pair3 (by assumption) ?_)
    | (intro _ _ _)
    | (intro _ _)
    | (intro _)
    | split
    | dsimp only)

theorem keeps_popItem {s0 : State} (s : State) (ch : ℕ) (h : Keeps s0 s) :
    Keeps s0 (State.popItem s ch) := by
  unfold State.popItem
  try dsimp only
  repeat (first
    | with_reducible assumption
    | with_reducible apply keeps_chanMap
    | with_reducible apply keeps_flwMap
    | with_reducible apply Keeps.ite
    | (with_reducible apply Keeps.upd; with_reducible first | assumption | apply keeps_chanMap | apply keeps_flwMap | apply Keeps.ite)
    | (refine Keeps.pair (by assumption) ?_)
    | (refine Keeps.pair3 (by assumption) ?_)
    | (intro _ _ _)
    | (intro _ _)
    | (intro _)
    | split
    | dsimp only)

theorem keeps_bufferEcc {s0 : State} (s : State) (ecc : ℕ) (h : Keeps s0 s) :
    Keeps s0 (State.bufferEcc s ecc) := by
  unfold State.bufferEcc
  try dsimp only
  repeat (first
    | with_reducible assumption
    | with_reducible apply keeps_bump
    | with_reducible apply keeps_pulse
    | with_reducible apply keeps_set
    | with_reducible apply Keeps.ite
    | (with_reducible apply Keeps.upd; with_reducible first | assumption | apply keeps_bump | apply keeps_pulse | apply keeps_set | apply Keeps.ite)
    | (refine Keeps.pair (by assumption) ?_)
    | (refine Keeps.pair3 (by assumption) ?_)
    | (intro _ _ _)
    | (intro _ _)
    | (intro _)
    | split
    | dsimp only)

theorem keeps_serveChannel {s0 : State} (s : State) (ch : ℕ) (ecc : ℕ) (h : Keeps s0 s) :
    Keeps s0 (State.serveChannel s ch ecc) := by
  unfold State.serveChannel
  try dsimp only
  repeat (first
    | with_reducible assumption
    | with_reducible apply keeps_workUnit
    | with_reducible apply keeps_bufferEcc
    | with_reducible apply keeps_popItem
    | with_reducible apply keeps_translate
    | with_reducible apply keeps_bump
    | with_reducible apply Keeps.ite
    | (with_reducible apply Keeps.upd; with_reducible first | assumption | apply keeps_workUnit | apply keeps_bufferEcc | apply keeps_popItem | apply keeps_translate | apply keeps_bump | apply Keeps.ite)
    | (refine Keeps.pair (by assumption) ?_)
    | (refine Keeps.pair3 (by assumption) ?_)
    | (intro _ _ _)
    | (intro _ _)
    | (intro _)
    | split
    | dsimp only)

theorem keeps_gpioReadback {s0 : State} (s : State) (pins : ℕ) (h : Keeps s0 s) :
    Keeps s0 (State.gpioReadback s pins) := by
  unfold State.gpioReadback
  try dsimp only
  repeat (first
    | with_reducible assumption
    | with_reducible apply keeps_line
    | with_reducible apply keeps_flwMap
    | with_reducible apply Keeps.ite
    | (with_reducible apply Keeps.upd; with_reducible first | assumption | apply keeps_line | apply keeps_flwMap | apply Keeps.ite)
    | (refine Keeps.pair (by assumption) ?_)
    | (refine Keeps.pair3 (by assumption) ?_)
    | (intro _ _ _)
    | (intro _ _)
    | (intro _)
    | split
    | dsimp only)

theorem keeps_gpioScan {s0 : State} (s : State) (pins : ℕ) (h : Keeps s0 s) :
    Keeps s0 (State.gpioScan s pins) := by
  unfold State.gpioScan
  try dsimp only
  repeat (first
    | with_reducible assumption
    | with_reducible apply keeps_gpioReadback
    | with_reducible apply keeps_flwMap
    | with_reducible apply keeps_set
    | with_reducible apply keeps_offer
    | with_reducible apply Keeps.ite
    | (with_reducible apply Keeps.upd; with_reducible first | assumption | apply keeps_gpioReadback | apply keeps_flwMap | apply keeps_set | apply keeps_offer | apply Keeps.ite)
    | (refine Keeps.pair (by assumption) ?_)
    | (refine Keeps.pair3 (by assumption) ?_)
    | (intro _ _ _)
    | (intro _ _)
    | (intro _)
    | split
    | dsimp only)

theorem keeps_aliveEdges {s0 : State} (s : State) (pins : ℕ) (h : Keeps s0 s) :
    Keeps s0 (State.aliveEdges s pins) := by
  unfold State.aliveEdges
  try dsimp only
  repeat (first
    | with_reducible assumption
    | with_reducible apply keeps_set
    | with_reducible apply keeps_flwMap
    | with_reducible apply Keeps.ite
    | (with_reducible apply Keeps.upd; with_reducible first | assumption | apply keeps_set | apply keeps_flwMap | apply Keeps.ite)
    | (refine Keeps.pair (by assumption) ?_)
    | (refine Keeps.pair3 (by assumption) ?_)
    | (intro _ _ _)
    | (intro _ _)
    | (intro _)
    | split
    | dsimp only)

theorem keeps_maintStep {s0 : State} (s : State) (h : Keeps s0 s) :
    Keeps s0 (State.maintStep s) := by
  unfold State.maintStep
  try dsimp only
  repeat (first
    | with_reducible assumption
    | with_reducible apply Keeps.ite
    | (with_reducible apply Keeps.upd; with_reducible first | assumption | apply Keeps.ite)
    | (refine Keeps.pair (by assumption) ?_)
    | (refine Keeps.pair3 (by assumption) ?_)
    | (intro _ _ _)
    | (intro _ _)
    | (intro _)
    | split
    | dsimp only)

theorem keeps_serveSlice {s0 : State} (s : State) (slice : ℕ) (pins : ℕ) (ecc : ℕ) (h : Keeps s0 s) :
    Keeps s0 (State.serveSlice s slice pins ecc) := by
  unfold State.serveSlice
  try dsimp only
  repeat (first
    | with_reducible assumption
    | with_reducible apply keeps_maintStep
    | with_reducible apply keeps_aliveEdges
    | with_reducible apply keeps_serveChannel
    | with_reducible apply keeps_gpioScan
    | with_reducible apply Keeps.ite
    | (with_reducible apply Keeps.upd; with_reducible first | assumption | apply keeps_maintStep | apply keeps_aliveEdges | apply keeps_serveChannel | apply keeps_gpioScan | apply Keeps.ite)
    | (refine Keeps.pair (by assumption) ?_)
    | (refine Keeps.pair3 (by assumption) ?_)
    | (intro _ _ _)
    | (intro _ _)
    | (intro _)
    | split
    | dsimp only)

theorem keeps_execSliceService {s0 : State} (slice : ℕ) (pins : ℕ) (ecc : ℕ) (s : State) (h : Keeps s0 s) :
    ∃ u, execSliceService slice pins ecc s = finish u ∧ Keeps s0 u := by
  refine ⟨_, rfl, ?_⟩
  try dsimp only
  repeat (first
    | with_reducible assumption
    | with_reducible apply keeps_serveSlice
    | with_reducible apply Keeps.ite
    | (with_reducible apply Keeps.upd; with_reducible first | assumption | apply keeps_serveSlice | apply Keeps.ite)
    | (refine Keeps.pair (by assumption) ?_)
    | (refine Keeps.pair3 (by assumption) ?_)
    | (intro _ _ _)
    | (intro _ _)
    | (intro _)
    | split
    | dsimp only)

theorem keeps_startFlow {s0 : State} (s : State) (f : ℕ) (h : Keeps s0 s) :
    Keeps s0 (State.startFlow s f) := by
  unfold State.startFlow
  try dsimp only
  repeat (first
    | with_reducible assumption
    | with_reducible apply keeps_set
    | with_reducible apply keeps_setFlowStatus
    | with_reducible apply keeps_resolveFlow
    | with_reducible apply Keeps.ite
    | (with_reducible apply Keeps.upd; with_reducible first | assumption | apply keeps_set | apply keeps_setFlowStatus | apply keeps_resolveFlow | apply Keeps.ite)
    | (refine Keeps.pair (by assumption) ?_)
    | (refine Keeps.pair3 (by assumption) ?_)
    | (intro _ _ _)
    | (intro _ _)
    | (intro _)
    | split
    | dsimp only)

theorem keeps_cmdFlowEnable {s0 : State} (a : ℕ) (t : State) (h : Keeps s0 t) :
    Keeps s0 ((cmdFlowEnable ).run a t) := by
  unfold cmdFlowEnable
  try dsimp only
  repeat (first
    | with_reducible assumption
    | with_reducible apply keeps_startFlow
    | with_reducible apply Keeps.ite
    | (with_reducible apply Keeps.upd; with_reducible first | assumption | apply keeps_startFlow | apply Keeps.ite)
    | (refine Keeps.pair (by assumption) ?_)
    | (refine Keeps.pair3 (by assumption) ?_)
    | (intro _ _ _)
    | (intro _ _)
    | (intro _)
    | split
    | dsimp only)

theorem keeps_execFlowEnable {s0 : State} (path : Path) (arg : ℕ) (s : State) (h : Keeps s0 s) :
    ∃ u, execFlowEnable path arg s = finish u ∧ Keeps s0 u := by
  refine ⟨_, rfl, ?_⟩
  try dsimp only
  repeat (first
    | with_reducible assumption
    | with_reducible apply keeps_command
    | with_reducible apply keeps_cmdFlowEnable
    | with_reducible apply Keeps.ite
    | (with_reducible apply Keeps.upd; with_reducible first | assumption | apply keeps_command | apply keeps_cmdFlowEnable | apply Keeps.ite)
    | (refine Keeps.pair (by assumption) ?_)
    | (refine Keeps.pair3 (by assumption) ?_)
    | (intro _ _ _)
    | (intro _ _)
    | (intro _)
    | split
    | dsimp only)

theorem keeps_discardItems {s0 : State} (s : State) (f : ℕ) (h : Keeps s0 s) :
    Keeps s0 (State.discardItems s f) := by
  unfold State.discardItems
  try dsimp only
  repeat (first
    | with_reducible assumption
    | with_reducible apply keeps_flwMap
    | with_reducible apply keeps_dropQueued
    | with_reducible apply keeps_msgMap
    | with_reducible apply Keeps.ite
    | (with_reducible apply Keeps.upd; with_reducible first | assumption | apply keeps_flwMap | apply keeps_dropQueued | apply keeps_msgMap | apply Keeps.ite)
    | (refine Keeps.pair (by assumption) ?_)
    | (refine Keeps.pair3 (by assumption) ?_)
    | (intro _ _ _)
    | (intro _ _)
    | (intro _)
    | split
    | dsimp only)

theorem keeps_stopFlow {s0 : State} (s : State) (f : ℕ) (h : Keeps s0 s) :
    Keeps s0 (State.stopFlow s f) := by
  unfold State.stopFlow
  try dsimp only
  repeat (first
    | with_reducible assumption
    | with_reducible apply keeps_flwMap
    | with_reducible apply keeps_load
    | with_reducible apply keeps_putFlowStatus
    | with_reducible apply keeps_discardItems
    | with_reducible apply Keeps.ite
    | (with_reducible apply Keeps.upd; with_reducible first | assumption | apply keeps_flwMap | apply keeps_load | apply keeps_putFlowStatus | apply keeps_discardItems | apply Keeps.ite)
    | (refine Keeps.pair (by assumption) ?_)
    | (refine Keeps.pair3 (by assumption) ?_)
    | (intro _ _ _)
    | (intro _ _)
    | (intro _)
    | split
    | dsimp only)

theorem keeps_cmdFlowDisable {s0 : State} (a : ℕ) (t : State) (h : Keeps s0 t) :
    Keeps s0 ((cmdFlowDisable ).run a t) := by
  unfold cmdFlowDisable
  try dsimp only
  repeat (first
    | with_reducible assumption
    | with_reducible apply keeps_stopFlow
    | with_reducible apply Keeps.ite
    | (with_reducible apply Keeps.upd; with_reducible first | assumption | apply keeps_stopFlow | apply Keeps.ite)
    | (refine Keeps.pair (by assumption) ?_)
    | (refine Keeps.pair3 (by assumption) ?_)
    | (intro _ _ _)
    | (intro _ _)
    | (intro _)
    | split
    | dsimp only)

theorem keeps_execFlowDisable {s0 : State} (path : Path) (arg : ℕ) (s : State) (h : Keeps s0 s) :
    ∃ u, execFlowDisable path arg s = finish u ∧ Keeps s0 u := by
  refine ⟨_, rfl, ?_⟩
  try dsimp only
  repeat (first
    | with_reducible assumption
    | with_reducible apply keeps_command
    | with_reducible apply keeps_cmdFlowDisable
    | with_reducible apply Keeps.ite
    | (with_reducible apply Keeps.upd; with_reducible first | assumption | apply keeps_command | apply keeps_cmdFlowDisable | apply Keeps.ite)
    | (refine Keeps.pair (by assumption) ?_)
    | (refine Keeps.pair3 (by assumption) ?_)
    | (intro _ _ _)
    | (intro _ _)
    | (intro _)
    | split
    | dsimp only)

theorem keeps_cmdSliceApply {s0 : State} (a : ℕ) (t : State) (h : Keeps s0 t) :
    Keeps s0 ((cmdSliceApply ).run a t) := by
  unfold cmdSliceApply
  try dsimp only
  repeat (first
    | with_reducible assumption
    | with_reducible apply keeps_flwMap
    | with_reducible apply Keeps.ite
    | (with_reducible apply Keeps.upd; with_reducible first | assumption | apply keeps_flwMap | apply Keeps.ite)
    | (refine Keeps.pair (by assumption) ?_)
    | (refine Keeps.pair3 (by assumption) ?_)
    | (intro _ _ _)
    | (intro _ _)
    | (intro _)
    | split
    | dsimp only)

theorem keeps_execSliceApply {s0 : State} (path : Path) (arg : ℕ) (s : State) (h : Keeps s0 s) :
    ∃ u, execSliceApply path arg s = finish u ∧ Keeps s0 u := by
  refine ⟨_, rfl, ?_⟩
  try dsimp only
  repeat (first
    | with_reducible assumption
    | with_reducible apply keeps_command
    | with_reducible apply keeps_cmdSliceApply
    | with_reducible apply Keeps.ite
    | (with_reducible apply Keeps.upd; with_reducible first | assumption | apply keeps_command | apply keeps_cmdSliceApply | apply Keeps.ite)
    | (refine Keeps.pair (by assumption) ?_)
    | (refine Keeps.pair3 (by assumption) ?_)
    | (intro _ _ _)
    | (intro _ _)
    | (intro _)
    | split
    | dsimp only)

theorem keeps_execSliceTableSwap {s0 : State} (s : State) (h : Keeps s0 s) :
    ∃ u, execSliceTableSwap s = finish u ∧ Keeps s0 u := by
  refine ⟨_, rfl, ?_⟩
  try dsimp only
  repeat (first
    | with_reducible assumption
    | with_reducible apply keeps_flwMap
    | with_reducible apply keeps_set
    | with_reducible apply Keeps.ite
    | (with_reducible apply Keeps.foldl; intro _ _ _)
    | (with_reducible apply Keeps.upd; with_reducible first | assumption | apply keeps_flwMap | apply keeps_set | apply Keeps.ite | (apply Keeps.foldl; intro _ _ _))
    | (refine Keeps.pair (by assumption) ?_)
    | (refine Keeps.pair3 (by assumption) ?_)
    | (intro _ _ _)
    | (intro _ _)
    | (intro _)
    | split
    | dsimp only)

theorem keeps_runStale {s0 : State} (s : State) (f : ℕ) (h : Keeps s0 s) :
    Keeps s0 (State.runStale s f) := by
  unfold State.runStale
  try dsimp only
  repeat (first
    | with_reducible assumption
    | with_reducible apply keeps_policeItem
    | with_reducible apply Keeps.ite
    | (with_reducible apply Keeps.upd; with_reducible first | assumption | apply keeps_policeItem | apply Keeps.ite)
    | (refine Keeps.pair (by assumption) ?_)
    | (refine Keeps.pair3 (by assumption) ?_)
    | (intro _ _ _)
    | (intro _ _)
    | (intro _)
    | split
    | dsimp only)

theorem keeps_execStaleFlowRun {s0 : State} (flow : ℕ) (s : State) (h : Keeps s0 s) :
    ∃ u, execStaleFlowRun flow s = finish u ∧ Keeps s0 u := by
  refine ⟨_, rfl, ?_⟩
  try dsimp only
  repeat (first
    | with_reducible assumption
    | with_reducible apply keeps_runStale
    | with_reducible apply Keeps.ite
    | (with_reducible apply Keeps.upd; with_reducible first | assumption | apply keeps_runStale | apply Keeps.ite)
    | (refine Keeps.pair (by assumption) ?_)
    | (refine Keeps.pair3 (by assumption) ?_)
    | (intro _ _ _)
    | (intro _ _)
    | (intro _)
    | split
    | dsimp only)

theorem keeps_testChannel {s0 : State} (s : State) (ch : ℕ) (pass : Bool) (h : Keeps s0 s) :
    Keeps s0 (State.testChannel s ch pass) := by
  unfold State.testChannel
  try dsimp only
  repeat (first
    | with_reducible assumption
    | with_reducible apply keeps_flwMap
    | with_reducible apply keeps_retire
    | with_reducible apply Keeps.ite
    | (with_reducible apply Keeps.upd; with_reducible first | assumption | apply keeps_flwMap | apply keeps_retire | apply Keeps.ite)
    | (refine Keeps.pair (by assumption) ?_)
    | (refine Keeps.pair3 (by assumption) ?_)
    | (intro _ _ _)
    | (intro _ _)
    | (intro _)
    | split
    | dsimp only)

theorem keeps_execChannelTest {s0 : State} (channel : ℕ) (pass : Bool) (s : State) (h : Keeps s0 s) :
    ∃ u, execChannelTest channel pass s = finish u ∧ Keeps s0 u := by
  refine ⟨_, rfl, ?_⟩
  try dsimp only
  repeat (first
    | with_reducible assumption
    | with_reducible apply keeps_testChannel
    | with_reducible apply Keeps.ite
    | (with_reducible apply Keeps.upd; with_reducible first | assumption | apply keeps_testChannel | apply Keeps.ite)
    | (refine Keeps.pair (by assumption) ?_)
    | (refine Keeps.pair3 (by assumption) ?_)
    | (intro _ _ _)
    | (intro _ _)
    | (intro _)
    | split
    | dsimp only)

theorem keeps_execLockstepMismatch {s0 : State} (s : State) (h : Keeps s0 s) :
    ∃ u, execLockstepMismatch s = finish u ∧ Keeps s0 u := by
  refine ⟨_, rfl, ?_⟩
  try dsimp only
  repeat (first
    | with_reducible assumption
    | with_reducible apply keeps_assertLine
    | with_reducible apply keeps_load
    | with_reducible apply Keeps.ite
    | (with_reducible apply Keeps.upd; with_reducible first | assumption | apply keeps_assertLine | apply keeps_load | apply Keeps.ite)
    | (refine Keeps.pair (by assumption) ?_)
    | (refine Keeps.pair3 (by assumption) ?_)
    | (intro _ _ _)
    | (intro _ _)
    | (intro _)
    | split
    | dsimp only)

end Sys2Proof.Machine
end

