-- ==== Sys2Proof/Laws/KeepsGline.lean ====
section
/-! SUPPORT. The operations of `Sys2Proof/Machine/Gline.lean` keep what `Keeps` names. -/

set_option linter.unusedTactic false
set_option linter.unreachableTactic false

namespace Sys2Proof.Machine

theorem keeps_gSendEnd {s0 : State} (s : State) (e : ℕ) (t0 : Telegram) (h : Keeps s0 s) :
    Keeps s0 (State.gSendEnd s e t0) := by
  unfold State.gSendEnd
  try dsimp only
  repeat (first
    | with_reducible assumption
    | with_reducible apply keeps_emit
    | with_reducible apply Keeps.ite
    | (with_reducible apply Keeps.foldl; intro _ _ _)
    | (with_reducible apply Keeps.upd; with_reducible first | assumption | apply keeps_emit | apply Keeps.ite | (apply Keeps.foldl; intro _ _ _))
    | (refine Keeps.pair (by assumption) ?_)
    | (refine Keeps.pair3 (by assumption) ?_)
    | (intro _ _ _)
    | (intro _ _)
    | (intro _)
    | split
    | dsimp only)

theorem keeps_gSend {s0 : State} (s : State) (t0 : Telegram) (h : Keeps s0 s) :
    Keeps s0 (State.gSend s t0) := by
  unfold State.gSend
  try dsimp only
  repeat (first
    | with_reducible assumption
    | with_reducible apply keeps_gSendEnd
    | with_reducible apply Keeps.ite
    | (with_reducible apply Keeps.foldl; intro _ _ _)
    | (with_reducible apply Keeps.upd; with_reducible first | assumption | apply keeps_gSendEnd | apply Keeps.ite | (apply Keeps.foldl; intro _ _ _))
    | (refine Keeps.pair (by assumption) ?_)
    | (refine Keeps.pair3 (by assumption) ?_)
    | (intro _ _ _)
    | (intro _ _)
    | (intro _)
    | split
    | dsimp only)

theorem keeps_gRepeat {s0 : State} (s : State) (p : ℕ) (t0 : Telegram) (h : Keeps s0 s) :
    Keeps s0 (State.gRepeat s p t0) := by
  unfold State.gRepeat
  try dsimp only
  repeat (first
    | with_reducible assumption
    | with_reducible apply keeps_emit
    | with_reducible apply Keeps.ite
    | (with_reducible apply Keeps.upd; with_reducible first | assumption | apply keeps_emit | apply Keeps.ite)
    | (refine Keeps.pair (by assumption) ?_)
    | (refine Keeps.pair3 (by assumption) ?_)
    | (intro _ _ _)
    | (intro _ _)
    | (intro _)
    | split
    | dsimp only)

theorem keeps_gShowLines {s0 : State} (s : State) (h : Keeps s0 s) :
    Keeps s0 (State.gShowLines s) := by
  unfold State.gShowLines
  try dsimp only
  repeat (first
    | with_reducible assumption
    | with_reducible apply keeps_load
    | with_reducible apply Keeps.ite
    | (with_reducible apply Keeps.upd; with_reducible first | assumption | apply keeps_load | apply Keeps.ite)
    | (refine Keeps.pair (by assumption) ?_)
    | (refine Keeps.pair3 (by assumption) ?_)
    | (intro _ _ _)
    | (intro _ _)
    | (intro _)
    | split
    | dsimp only)

theorem keeps_gHear {s0 : State} (s : State) (p : ℕ) (t0 : Telegram) (h : Keeps s0 s) :
    Keeps s0 (State.gHear s p t0) := by
  unfold State.gHear
  try dsimp only
  repeat (first
    | with_reducible assumption
    | with_reducible apply keeps_gShowLines
    | with_reducible apply keeps_glnMap
    | with_reducible apply keeps_gRepeat
    | with_reducible apply Keeps.ite
    | (with_reducible apply Keeps.upd; with_reducible first | assumption | apply keeps_gShowLines | apply keeps_glnMap | apply keeps_gRepeat | apply Keeps.ite)
    | (refine Keeps.pair (by assumption) ?_)
    | (refine Keeps.pair3 (by assumption) ?_)
    | (intro _ _ _)
    | (intro _ _)
    | (intro _)
    | split
    | dsimp only)

theorem keeps_gStep {s0 : State} (s : State) (p : ℕ) (type : ℕ) (t0 : Telegram) (act : State → State) (ha : ∀ t, Keeps s0 t → Keeps s0 (act t)) (h : Keeps s0 s) :
    Keeps s0 (State.gStep s p type t0 act) := by
  unfold State.gStep
  try dsimp only
  repeat (first
    | with_reducible assumption
    | with_reducible apply ha
    | with_reducible apply keeps_gHear
    | with_reducible apply Keeps.ite
    | (with_reducible apply Keeps.upd; with_reducible first | assumption | apply ha | apply keeps_gHear | apply Keeps.ite)
    | (refine Keeps.pair (by assumption) ?_)
    | (refine Keeps.pair3 (by assumption) ?_)
    | (intro _ _ _)
    | (intro _ _)
    | (intro _)
    | split
    | dsimp only)

theorem keeps_gStart {s0 : State} (s : State) (h : Keeps s0 s) :
    Keeps s0 (State.gStart s) := by
  unfold State.gStart
  try dsimp only
  repeat (first
    | with_reducible assumption
    | with_reducible apply keeps_glnMap
    | with_reducible apply keeps_load
    | with_reducible apply Keeps.ite
    | (with_reducible apply Keeps.upd; with_reducible first | assumption | apply keeps_glnMap | apply keeps_load | apply Keeps.ite)
    | (refine Keeps.pair (by assumption) ?_)
    | (refine Keeps.pair3 (by assumption) ?_)
    | (intro _ _ _)
    | (intro _ _)
    | (intro _)
    | split
    | dsimp only)

theorem keeps_gTrigger {s0 : State} (s : State) (h : Keeps s0 s) :
    Keeps s0 (State.gTrigger s) := by
  unfold State.gTrigger
  try dsimp only
  repeat (first
    | with_reducible assumption
    | with_reducible apply keeps_gSendEnd
    | with_reducible apply keeps_gStart
    | with_reducible apply Keeps.ite
    | (with_reducible apply Keeps.foldl; intro _ _ _)
    | (with_reducible apply Keeps.upd; with_reducible first | assumption | apply keeps_gSendEnd | apply keeps_gStart | apply Keeps.ite | (apply Keeps.foldl; intro _ _ _))
    | (refine Keeps.pair (by assumption) ?_)
    | (refine Keeps.pair3 (by assumption) ?_)
    | (intro _ _ _)
    | (intro _ _)
    | (intro _)
    | split
    | dsimp only)

theorem keeps_gWithdraw {s0 : State} (s : State) (h : Keeps s0 s) :
    Keeps s0 (State.gWithdraw s) := by
  unfold State.gWithdraw
  try dsimp only
  repeat (first
    | with_reducible assumption
    | with_reducible apply keeps_glnMap
    | with_reducible apply Keeps.ite
    | (with_reducible apply Keeps.upd; with_reducible first | assumption | apply keeps_glnMap | apply Keeps.ite)
    | (refine Keeps.pair (by assumption) ?_)
    | (refine Keeps.pair3 (by assumption) ?_)
    | (intro _ _ _)
    | (intro _ _)
    | (intro _)
    | split
    | dsimp only)

theorem keeps_execClaimReceive {s0 : State} (port : ℕ) (telegram : Telegram) (s : State) (h : Keeps s0 s) :
    ∃ u, execClaimReceive port telegram s = finish u ∧ Keeps s0 u := by
  refine ⟨_, rfl, ?_⟩
  try dsimp only
  repeat (first
    | with_reducible assumption
    | with_reducible apply keeps_gStep
    | with_reducible apply keeps_gWithdraw
    | with_reducible apply Keeps.ite
    | (with_reducible apply Keeps.upd; with_reducible first | assumption | apply keeps_gStep | apply keeps_gWithdraw | apply Keeps.ite)
    | (refine Keeps.pair (by assumption) ?_)
    | (refine Keeps.pair3 (by assumption) ?_)
    | (intro _ _ _)
    | (intro _ _)
    | (intro _)
    | split
    | dsimp only)

theorem keeps_execClaimBackoffExpiry {s0 : State} (s : State) (h : Keeps s0 s) :
    ∃ u, execClaimBackoffExpiry s = finish u ∧ Keeps s0 u := by
  refine ⟨_, rfl, ?_⟩
  try dsimp only
  repeat (first
    | with_reducible assumption
    | with_reducible apply keeps_glnMap
    | with_reducible apply keeps_gSend
    | with_reducible apply Keeps.ite
    | (with_reducible apply Keeps.upd; with_reducible first | assumption | apply keeps_glnMap | apply keeps_gSend | apply Keeps.ite)
    | (refine Keeps.pair (by assumption) ?_)
    | (refine Keeps.pair3 (by assumption) ?_)
    | (intro _ _ _)
    | (intro _ _)
    | (intro _)
    | split
    | dsimp only)

theorem keeps_gDiscard {s0 : State} (s : State) (p : ℕ) (t0 : Telegram) (h : Keeps s0 s) :
    Keeps s0 (State.gDiscard s p t0) := by
  unfold State.gDiscard
  try dsimp only
  repeat (first
    | with_reducible assumption
    | with_reducible apply keeps_bump
    | with_reducible apply keeps_gRepeat
    | with_reducible apply keeps_glnMap
    | with_reducible apply Keeps.ite
    | (with_reducible apply Keeps.upd; with_reducible first | assumption | apply keeps_bump | apply keeps_gRepeat | apply keeps_glnMap | apply Keeps.ite)
    | (refine Keeps.pair (by assumption) ?_)
    | (refine Keeps.pair3 (by assumption) ?_)
    | (intro _ _ _)
    | (intro _ _)
    | (intro _)
    | split
    | dsimp only)

theorem keeps_execGTelegramDiscard {s0 : State} (port : ℕ) (telegram : Telegram) (s : State) (h : Keeps s0 s) :
    ∃ u, execGTelegramDiscard port telegram s = finish u ∧ Keeps s0 u := by
  refine ⟨_, rfl, ?_⟩
  try dsimp only
  repeat (first
    | with_reducible assumption
    | with_reducible apply keeps_gDiscard
    | with_reducible apply Keeps.ite
    | (with_reducible apply Keeps.upd; with_reducible first | assumption | apply keeps_gDiscard | apply Keeps.ite)
    | (refine Keeps.pair (by assumption) ?_)
    | (refine Keeps.pair3 (by assumption) ?_)
    | (intro _ _ _)
    | (intro _ _)
    | (intro _)
    | split
    | dsimp only)

theorem keeps_gName {s0 : State} (s : State) (e : ℕ) (pos : ℕ) (second : Bool) (h : Keeps s0 s) :
    Keeps s0 (State.gName s e pos second) := by
  unfold State.gName
  try dsimp only
  repeat (first
    | with_reducible assumption
    | with_reducible apply keeps_glnMap
    | with_reducible apply keeps_gSendEnd
    | with_reducible apply Keeps.ite
    | (with_reducible apply Keeps.upd; with_reducible first | assumption | apply keeps_glnMap | apply keeps_gSendEnd | apply Keeps.ite)
    | (refine Keeps.pair (by assumption) ?_)
    | (refine Keeps.pair3 (by assumption) ?_)
    | (intro _ _ _)
    | (intro _ _)
    | (intro _)
    | split
    | dsimp only)

theorem keeps_gTopology {s0 : State} (s : State) (pos : ℕ) (orient : ℕ) (vids : List ℕ) (h : Keeps s0 s) :
    Keeps s0 (State.gTopology s pos orient vids) := by
  unfold State.gTopology
  try dsimp only
  repeat (first
    | with_reducible assumption
    | with_reducible apply keeps_load
    | with_reducible apply keeps_setIsr
    | with_reducible apply keeps_setSsr
    | with_reducible apply keeps_set
    | with_reducible apply keeps_wrapUp
    | with_reducible apply keeps_legacyLog
    | with_reducible apply keeps_line
    | with_reducible apply keeps_inaTrigger
    | with_reducible apply Keeps.ite
    | (with_reducible apply Keeps.foldl; intro _ _ _)
    | (with_reducible apply Keeps.upd; with_reducible first | assumption | apply keeps_load | apply keeps_setIsr | apply keeps_setSsr | apply keeps_set | apply keeps_wrapUp | apply keeps_legacyLog | apply keeps_line | apply keeps_inaTrigger | apply Keeps.ite | (apply Keeps.foldl; intro _ _ _))
    | (refine Keeps.pair (by assumption) ?_)
    | (refine Keeps.pair3 (by assumption) ?_)
    | (intro _ _ _)
    | (intro _ _)
    | (intro _)
    | split
    | dsimp only)

theorem keeps_gExcess {s0 : State} (s : State) (n : ℕ) (h : Keeps s0 s) :
    Keeps s0 (State.gExcess s n) := by
  unfold State.gExcess
  try dsimp only
  repeat (first
    | with_reducible assumption
    | with_reducible apply keeps_add
    | with_reducible apply Keeps.ite
    | (with_reducible apply Keeps.upd; with_reducible first | assumption | apply keeps_add | apply Keeps.ite)
    | (refine Keeps.pair (by assumption) ?_)
    | (refine Keeps.pair3 (by assumption) ?_)
    | (intro _ _ _)
    | (intro _ _)
    | (intro _)
    | split
    | dsimp only)

theorem keeps_gFinishNaming {s0 : State} (s : State) (h : Keeps s0 s) :
    Keeps s0 (State.gFinishNaming s) := by
  unfold State.gFinishNaming
  try dsimp only
  repeat (first
    | with_reducible assumption
    | with_reducible apply keeps_gSend
    | with_reducible apply keeps_glnMap
    | with_reducible apply keeps_gTopology
    | with_reducible apply keeps_gExcess
    | with_reducible apply Keeps.ite
    | (with_reducible apply Keeps.upd; with_reducible first | assumption | apply keeps_gSend | apply keeps_glnMap | apply keeps_gTopology | apply keeps_gExcess | apply Keeps.ite)
    | (refine Keeps.pair (by assumption) ?_)
    | (refine Keeps.pair3 (by assumption) ?_)
    | (intro _ _ _)
    | (intro _ _)
    | (intro _)
    | split
    | dsimp only)

theorem keeps_gNextEnd {s0 : State} (s : State) (e : ℕ) (h : Keeps s0 s) :
    Keeps s0 (State.gNextEnd s e) := by
  unfold State.gNextEnd
  try dsimp only
  repeat (first
    | with_reducible assumption
    | with_reducible apply keeps_gName
    | with_reducible apply keeps_gFinishNaming
    | with_reducible apply Keeps.ite
    | (with_reducible apply Keeps.upd; with_reducible first | assumption | apply keeps_gName | apply keeps_gFinishNaming | apply Keeps.ite)
    | (refine Keeps.pair (by assumption) ?_)
    | (refine Keeps.pair3 (by assumption) ?_)
    | (intro _ _ _)
    | (intro _ _)
    | (intro _)
    | split
    | dsimp only)

theorem keeps_gNameOn {s0 : State} (s : State) (e : ℕ) (h : Keeps s0 s) :
    Keeps s0 (State.gNameOn s e) := by
  unfold State.gNameOn
  try dsimp only
  repeat (first
    | with_reducible assumption
    | with_reducible apply keeps_gName
    | with_reducible apply keeps_gFinishNaming
    | with_reducible apply Keeps.ite
    | (with_reducible apply Keeps.upd; with_reducible first | assumption | apply keeps_gName | apply keeps_gFinishNaming | apply Keeps.ite)
    | (refine Keeps.pair (by assumption) ?_)
    | (refine Keeps.pair3 (by assumption) ?_)
    | (intro _ _ _)
    | (intro _ _)
    | (intro _)
    | split
    | dsimp only)

theorem keeps_execClaimWinExpiry {s0 : State} (s : State) (h : Keeps s0 s) :
    ∃ u, execClaimWinExpiry s = finish u ∧ Keeps s0 u := by
  refine ⟨_, rfl, ?_⟩
  try dsimp only
  repeat (first
    | with_reducible assumption
    | with_reducible apply keeps_gNameOn
    | with_reducible apply keeps_set
    | with_reducible apply keeps_glnMap
    | with_reducible apply Keeps.ite
    | (with_reducible apply Keeps.upd; with_reducible first | assumption | apply keeps_gNameOn | apply keeps_set | apply keeps_glnMap | apply Keeps.ite)
    | (refine Keeps.pair (by assumption) ?_)
    | (refine Keeps.pair3 (by assumption) ?_)
    | (intro _ _ _)
    | (intro _ _)
    | (intro _)
    | split
    | dsimp only)

theorem keeps_gTakeName {s0 : State} (s : State) (p : ℕ) (t0 : Telegram) (h : Keeps s0 s) :
    Keeps s0 (State.gTakeName s p t0) := by
  unfold State.gTakeName
  try dsimp only
  repeat (first
    | with_reducible assumption
    | with_reducible apply keeps_gSend
    | with_reducible apply keeps_glnMap
    | with_reducible apply keeps_set
    | with_reducible apply Keeps.ite
    | (with_reducible apply Keeps.upd; with_reducible first | assumption | apply keeps_gSend | apply keeps_glnMap | apply keeps_set | apply Keeps.ite)
    | (refine Keeps.pair (by assumption) ?_)
    | (refine Keeps.pair3 (by assumption) ?_)
    | (intro _ _ _)
    | (intro _ _)
    | (intro _)
    | split
    | dsimp only)

theorem keeps_execNameReceive {s0 : State} (port : ℕ) (telegram : Telegram) (s : State) (h : Keeps s0 s) :
    ∃ u, execNameReceive port telegram s = finish u ∧ Keeps s0 u := by
  refine ⟨_, rfl, ?_⟩
  try dsimp only
  repeat (first
    | with_reducible assumption
    | with_reducible apply keeps_glnMap
    | with_reducible apply keeps_gStep
    | with_reducible apply keeps_gTakeName
    | with_reducible apply Keeps.ite
    | (with_reducible apply Keeps.upd; with_reducible first | assumption | apply keeps_glnMap | apply keeps_gStep | apply keeps_gTakeName | apply Keeps.ite)
    | (refine Keeps.pair (by assumption) ?_)
    | (refine Keeps.pair3 (by assumption) ?_)
    | (intro _ _ _)
    | (intro _ _)
    | (intro _)
    | split
    | dsimp only)

theorem keeps_gNamed {s0 : State} (s : State) (e : ℕ) (pos : ℕ) (t0 : Telegram) (h : Keeps s0 s) :
    Keeps s0 (State.gNamed s e pos t0) := by
  unfold State.gNamed
  try dsimp only
  repeat (first
    | with_reducible assumption
    | with_reducible apply keeps_gNameOn
    | with_reducible apply keeps_glnMap
    | with_reducible apply Keeps.ite
    | (with_reducible apply Keeps.upd; with_reducible first | assumption | apply keeps_gNameOn | apply keeps_glnMap | apply Keeps.ite)
    | (refine Keeps.pair (by assumption) ?_)
    | (refine Keeps.pair3 (by assumption) ?_)
    | (intro _ _ _)
    | (intro _ _)
    | (intro _)
    | split
    | dsimp only)

theorem keeps_gTooMany {s0 : State} (s : State) (h : Keeps s0 s) :
    Keeps s0 (State.gTooMany s) := by
  unfold State.gTooMany
  try dsimp only
  repeat (first
    | with_reducible assumption
    | with_reducible apply keeps_assertLine
    | with_reducible apply keeps_bump
    | with_reducible apply keeps_glnMap
    | with_reducible apply Keeps.ite
    | (with_reducible apply Keeps.upd; with_reducible first | assumption | apply keeps_assertLine | apply keeps_bump | apply keeps_glnMap | apply Keeps.ite)
    | (refine Keeps.pair (by assumption) ?_)
    | (refine Keeps.pair3 (by assumption) ?_)
    | (intro _ _ _)
    | (intro _ _)
    | (intro _)
    | split
    | dsimp only)

theorem keeps_gMiss {s0 : State} (s : State) (pos : ℕ) (h : Keeps s0 s) :
    Keeps s0 (State.gMiss s pos).2 := by
  unfold State.gMiss
  try dsimp only
  repeat (first
    | with_reducible assumption
    | with_reducible apply keeps_glnMap
    | with_reducible apply Keeps.ite
    | (with_reducible apply Keeps.upd; with_reducible first | assumption | apply keeps_glnMap | apply Keeps.ite)
    | (refine Keeps.pair (by assumption) ?_)
    | (refine Keeps.pair3 (by assumption) ?_)
    | (intro _ _ _)
    | (intro _ _)
    | (intro _)
    | split
    | dsimp only)

theorem keeps_gAnswered {s0 : State} (s : State) (pos : ℕ) (h : Keeps s0 s) :
    Keeps s0 (State.gAnswered s pos) := by
  unfold State.gAnswered
  try dsimp only
  repeat (first
    | with_reducible assumption
    | with_reducible apply keeps_glnMap
    | with_reducible apply Keeps.ite
    | (with_reducible apply Keeps.upd; with_reducible first | assumption | apply keeps_glnMap | apply Keeps.ite)
    | (refine Keeps.pair (by assumption) ?_)
    | (refine Keeps.pair3 (by assumption) ?_)
    | (intro _ _ _)
    | (intro _ _)
    | (intro _)
    | split
    | dsimp only)

theorem keeps_gSendData {s0 : State} (s : State) (port : ℕ) (h : Keeps s0 s) :
    Keeps s0 (State.gSendData s port) := by
  unfold State.gSendData
  try dsimp only
  repeat (first
    | with_reducible assumption
    | with_reducible apply keeps_gtnMap
    | with_reducible apply keeps_gSend
    | with_reducible apply keeps_glnMap
    | with_reducible apply Keeps.ite
    | (with_reducible apply Keeps.upd; with_reducible first | assumption | apply keeps_gtnMap | apply keeps_gSend | apply keeps_glnMap | apply Keeps.ite)
    | (refine Keeps.pair (by assumption) ?_)
    | (refine Keeps.pair3 (by assumption) ?_)
    | (intro _ _ _)
    | (intro _ _)
    | (intro _)
    | split
    | dsimp only)

theorem keeps_gMailDone {s0 : State} (s : State) (n : ℕ) (status : ℕ) (h : Keeps s0 s) :
    Keeps s0 (State.gMailDone s n status) := by
  unfold State.gMailDone
  try dsimp only
  repeat (first
    | with_reducible assumption
    | with_reducible apply keeps_releaseMbox
    | with_reducible apply keeps_gtnMap
    | with_reducible apply keeps_glnMap
    | with_reducible apply Keeps.ite
    | (with_reducible apply Keeps.upd; with_reducible first | assumption | apply keeps_releaseMbox | apply keeps_gtnMap | apply keeps_glnMap | apply Keeps.ite)
    | (refine Keeps.pair (by assumption) ?_)
    | (refine Keeps.pair3 (by assumption) ?_)
    | (intro _ _ _)
    | (intro _ _)
    | (intro _)
    | split
    | dsimp only)

theorem keeps_gNextMail {s0 : State} (a0 : ℕ) (a1 : State) (h : Keeps s0 a1) :
    Keeps s0 (State.gNextMail a0 a1).2 := by
  induction a0 generalizing a1 with
  | zero =>
    unfold State.gNextMail
    try dsimp only
    repeat (first
      | with_reducible assumption
      | with_reducible apply keeps_gMailDone
        | with_reducible apply Keeps.ite
      | (with_reducible apply Keeps.upd; with_reducible first | assumption | apply keeps_gMailDone | apply Keeps.ite)
      | (refine Keeps.pair (by assumption) ?_)
      | (refine Keeps.pair3 (by assumption) ?_)
      | (intro _ _ _)
      | (intro _ _)
      | (intro _)
      | split
      | dsimp only)
  | succ n ih =>
    unfold State.gNextMail
    try dsimp only
    repeat (first
      | with_reducible assumption
      | with_reducible apply keeps_gMailDone
      | with_reducible apply ih
      | with_reducible apply Keeps.ite
      | (with_reducible apply Keeps.upd; with_reducible first | assumption | apply keeps_gMailDone | apply Keeps.ite)
      | (refine Keeps.pair (by assumption) ?_)
      | (refine Keeps.pair3 (by assumption) ?_)
      | (intro _ _ _)
      | (intro _ _)
      | (intro _)
      | split
      | dsimp only)

theorem keeps_gSendMail {s0 : State} (s : State) (n : ℕ) (h : Keeps s0 s) :
    Keeps s0 (State.gSendMail s n) := by
  unfold State.gSendMail
  try dsimp only
  repeat (first
    | with_reducible assumption
    | with_reducible apply keeps_glnMap
    | with_reducible apply keeps_gSend
    | with_reducible apply Keeps.ite
    | (with_reducible apply Keeps.upd; with_reducible first | assumption | apply keeps_glnMap | apply keeps_gSend | apply Keeps.ite)
    | (refine Keeps.pair (by assumption) ?_)
    | (refine Keeps.pair3 (by assumption) ?_)
    | (intro _ _ _)
    | (intro _ _)
    | (intro _)
    | split
    | dsimp only)

theorem keeps_gNextQueued {s0 : State} (a0 : ℕ) (a1 : State) (h : Keeps s0 a1) :
    Keeps s0 (State.gNextQueued a0 a1).2 := by
  induction a0 generalizing a1 with
  | zero =>
    unfold State.gNextQueued
    try dsimp only
    repeat (first
      | with_reducible assumption
      | with_reducible apply keeps_bdrDrop
      | with_reducible apply keeps_glnMap
        | with_reducible apply Keeps.ite
      | (with_reducible apply Keeps.upd; with_reducible first | assumption | apply keeps_bdrDrop | apply keeps_glnMap | apply Keeps.ite)
      | (refine Keeps.pair (by assumption) ?_)
      | (refine Keeps.pair3 (by assumption) ?_)
      | (intro _ _ _)
      | (intro _ _)
      | (intro _)
      | split
      | dsimp only)
  | succ n ih =>
    unfold State.gNextQueued
    try dsimp only
    repeat (first
      | with_reducible assumption
      | with_reducible apply keeps_bdrDrop
      | with_reducible apply keeps_glnMap
      | with_reducible apply ih
      | with_reducible apply Keeps.ite
      | (with_reducible apply Keeps.upd; with_reducible first | assumption | apply keeps_bdrDrop | apply keeps_glnMap | apply Keeps.ite)
      | (refine Keeps.pair (by assumption) ?_)
      | (refine Keeps.pair3 (by assumption) ?_)
      | (intro _ _ _)
      | (intro _ _)
      | (intro _)
      | split
      | dsimp only)

theorem keeps_gOwnTurn {s0 : State} (s : State) (h : Keeps s0 s) :
    Keeps s0 (State.gOwnTurn s).2 := by
  unfold State.gOwnTurn
  try dsimp only
  repeat (first
    | with_reducible assumption
    | with_reducible apply keeps_gNextQueued
    | with_reducible apply keeps_gSend
    | with_reducible apply keeps_glnMap
    | with_reducible apply keeps_gNextMail
    | with_reducible apply keeps_gSendMail
    | with_reducible apply Keeps.ite
    | (with_reducible apply Keeps.upd; with_reducible first | assumption | apply keeps_gNextQueued | apply keeps_gSend | apply keeps_glnMap | apply keeps_gNextMail | apply keeps_gSendMail | apply Keeps.ite)
    | (refine Keeps.pair (by assumption) ?_)
    | (refine Keeps.pair3 (by assumption) ?_)
    | (intro _ _ _)
    | (intro _ _)
    | (intro _)
    | split
    | dsimp only)

theorem keeps_gNextMessage {s0 : State} (s : State) (h : Keeps s0 s) :
    Keeps s0 (State.gNextMessage s) := by
  unfold State.gNextMessage
  try dsimp only
  repeat (first
    | with_reducible assumption
    | with_reducible apply keeps_gName
    | with_reducible apply keeps_glnMap
    | with_reducible apply keeps_gSend
    | with_reducible apply keeps_gOwnTurn
    | with_reducible apply Keeps.ite
    | (with_reducible apply Keeps.upd; with_reducible first | assumption | apply keeps_gName | apply keeps_glnMap | apply keeps_gSend | apply keeps_gOwnTurn | apply Keeps.ite)
    | (refine Keeps.pair (by assumption) ?_)
    | (refine Keeps.pair3 (by assumption) ?_)
    | (intro _ _ _)
    | (intro _ _)
    | (intro _)
    | split
    | dsimp only)

theorem keeps_gNextPoll {s0 : State} (a0 : ℕ) (a1 : State) (h : Keeps s0 a1) :
    Keeps s0 (State.gNextPoll a0 a1) := by
  induction a0 generalizing a1 with
  | zero =>
    unfold State.gNextPoll
    try dsimp only
    repeat (first
      | with_reducible assumption
      | with_reducible apply keeps_gNextMessage
      | with_reducible apply keeps_glnMap
      | with_reducible apply keeps_gSendData
      | with_reducible apply keeps_gSend
        | with_reducible apply Keeps.ite
      | (with_reducible apply Keeps.upd; with_reducible first | assumption | apply keeps_gNextMessage | apply keeps_glnMap | apply keeps_gSendData | apply keeps_gSend | apply Keeps.ite)
      | (refine Keeps.pair (by assumption) ?_)
      | (refine Keeps.pair3 (by assumption) ?_)
      | (intro _ _ _)
      | (intro _ _)
      | (intro _)
      | split
      | dsimp only)
  | succ n ih =>
    unfold State.gNextPoll
    try dsimp only
    repeat (first
      | with_reducible assumption
      | with_reducible apply keeps_gNextMessage
      | with_reducible apply keeps_glnMap
      | with_reducible apply keeps_gSendData
      | with_reducible apply keeps_gSend
      | with_reducible apply ih
      | with_reducible apply Keeps.ite
      | (with_reducible apply Keeps.upd; with_reducible first | assumption | apply keeps_gNextMessage | apply keeps_glnMap | apply keeps_gSendData | apply keeps_gSend | apply Keeps.ite)
      | (refine Keeps.pair (by assumption) ?_)
      | (refine Keeps.pair3 (by assumption) ?_)
      | (intro _ _ _)
      | (intro _ _)
      | (intro _)
      | split
      | dsimp only)

theorem keeps_gGoOn {s0 : State} (s : State) (h : Keeps s0 s) :
    Keeps s0 (State.gGoOn s) := by
  unfold State.gGoOn
  try dsimp only
  repeat (first
    | with_reducible assumption
    | with_reducible apply keeps_gNextPoll
    | with_reducible apply Keeps.ite
    | (with_reducible apply Keeps.upd; with_reducible first | assumption | apply keeps_gNextPoll | apply Keeps.ite)
    | (refine Keeps.pair (by assumption) ?_)
    | (refine Keeps.pair3 (by assumption) ?_)
    | (intro _ _ _)
    | (intro _ _)
    | (intro _)
    | split
    | dsimp only)

theorem keeps_execNameAckReceive {s0 : State} (port : ℕ) (telegram : Telegram) (s : State) (h : Keeps s0 s) :
    ∃ u, execNameAckReceive port telegram s = finish u ∧ Keeps s0 u := by
  refine ⟨_, rfl, ?_⟩
  try dsimp only
  repeat (first
    | with_reducible assumption
    | with_reducible apply keeps_gStep
    | with_reducible apply keeps_gNamed
    | with_reducible apply keeps_gNextEnd
    | with_reducible apply keeps_gTooMany
    | with_reducible apply keeps_gTrigger
    | with_reducible apply Keeps.ite
    | (with_reducible apply Keeps.upd; with_reducible first | assumption | apply keeps_gStep | apply keeps_gNamed | apply keeps_gNextEnd | apply keeps_gTooMany | apply keeps_gTrigger | apply Keeps.ite)
    | (refine Keeps.pair (by assumption) ?_)
    | (refine Keeps.pair3 (by assumption) ?_)
    | (intro _ _ _)
    | (intro _ _)
    | (intro _)
    | split
    | dsimp only)

theorem keeps_gTimeout {s0 : State} (s : State) (h : Keeps s0 s) :
    Keeps s0 (State.gTimeout s) := by
  unfold State.gTimeout
  try dsimp only
  repeat (first
    | with_reducible assumption
    | with_reducible apply keeps_bump
    | with_reducible apply keeps_gMiss
    | with_reducible apply keeps_gTrigger
    | with_reducible apply keeps_gGoOn
    | with_reducible apply keeps_glnMap
    | with_reducible apply keeps_gNextEnd
    | with_reducible apply keeps_gName
    | with_reducible apply Keeps.ite
    | (with_reducible apply Keeps.upd; with_reducible first | assumption | apply keeps_bump | apply keeps_gMiss | apply keeps_gTrigger | apply keeps_gGoOn | apply keeps_glnMap | apply keeps_gNextEnd | apply keeps_gName | apply Keeps.ite)
    | (refine Keeps.pair (by assumption) ?_)
    | (refine Keeps.pair3 (by assumption) ?_)
    | (intro _ _ _)
    | (intro _ _)
    | (intro _)
    | split
    | dsimp only)

theorem keeps_execAnswerTimeout {s0 : State} (s : State) (h : Keeps s0 s) :
    ∃ u, execAnswerTimeout s = finish u ∧ Keeps s0 u := by
  refine ⟨_, rfl, ?_⟩
  try dsimp only
  repeat (first
    | with_reducible assumption
    | with_reducible apply keeps_gTimeout
    | with_reducible apply Keeps.ite
    | (with_reducible apply Keeps.upd; with_reducible first | assumption | apply keeps_gTimeout | apply Keeps.ite)
    | (refine Keeps.pair (by assumption) ?_)
    | (refine Keeps.pair3 (by assumption) ?_)
    | (intro _ _ _)
    | (intro _ _)
    | (intro _)
    | split
    | dsimp only)

theorem keeps_execTopologyReceive {s0 : State} (port : ℕ) (telegram : Telegram) (s : State) (h : Keeps s0 s) :
    ∃ u, execTopologyReceive port telegram s = finish u ∧ Keeps s0 u := by
  refine ⟨_, rfl, ?_⟩
  try dsimp only
  repeat (first
    | with_reducible assumption
    | with_reducible apply keeps_gStep
    | with_reducible apply keeps_gTopology
    | with_reducible apply Keeps.ite
    | (with_reducible apply Keeps.upd; with_reducible first | assumption | apply keeps_gStep | apply keeps_gTopology | apply Keeps.ite)
    | (refine Keeps.pair (by assumption) ?_)
    | (refine Keeps.pair3 (by assumption) ?_)
    | (intro _ _ _)
    | (intro _ _)
    | (intro _)
    | split
    | dsimp only)

theorem keeps_gWriteSink {s0 : State} (s : State) (n : ℕ) (t0 : Telegram) (status : ℕ) (h : Keeps s0 s) :
    Keeps s0 (State.gWriteSink s n t0 status) := by
  unfold State.gWriteSink
  try dsimp only
  repeat (first
    | with_reducible assumption
    | with_reducible apply keeps_setMboxBytes
    | with_reducible apply keeps_releaseMbox
    | with_reducible apply keeps_setRam
    | with_reducible apply Keeps.ite
    | (with_reducible apply Keeps.upd; with_reducible first | assumption | apply keeps_setMboxBytes | apply keeps_releaseMbox | apply keeps_setRam | apply Keeps.ite)
    | (refine Keeps.pair (by assumption) ?_)
    | (refine Keeps.pair3 (by assumption) ?_)
    | (intro _ _ _)
    | (intro _ _)
    | (intro _)
    | split
    | dsimp only)

theorem keeps_gSink {s0 : State} (t0 : Telegram) (s : State) (n : ℕ) (h : Keeps s0 s) :
    Keeps s0 (State.gSink t0 s n) := by
  unfold State.gSink
  try dsimp only
  repeat (first
    | with_reducible assumption
    | with_reducible apply keeps_gtnMap
    | with_reducible apply keeps_bump
    | with_reducible apply keeps_gWriteSink
    | with_reducible apply Keeps.ite
    | (with_reducible apply Keeps.upd; with_reducible first | assumption | apply keeps_gtnMap | apply keeps_bump | apply keeps_gWriteSink | apply Keeps.ite)
    | (refine Keeps.pair (by assumption) ?_)
    | (refine Keeps.pair3 (by assumption) ?_)
    | (intro _ _ _)
    | (intro _ _)
    | (intro _)
    | split
    | dsimp only)

theorem keeps_gCopySource {s0 : State} (s : State) (n : ℕ) (h : Keeps s0 s) :
    Keeps s0 (State.gCopySource s n) := by
  unfold State.gCopySource
  try dsimp only
  repeat (first
    | with_reducible assumption
    | with_reducible apply keeps_releaseMbox
    | with_reducible apply keeps_gtnMap
    | with_reducible apply Keeps.ite
    | (with_reducible apply Keeps.upd; with_reducible first | assumption | apply keeps_releaseMbox | apply keeps_gtnMap | apply Keeps.ite)
    | (refine Keeps.pair (by assumption) ?_)
    | (refine Keeps.pair3 (by assumption) ?_)
    | (intro _ _ _)
    | (intro _ _)
    | (intro _)
    | split
    | dsimp only)

theorem keeps_gAccount {s0 : State} (s : State) (h : Keeps s0 s) :
    Keeps s0 (State.gAccount s) := by
  unfold State.gAccount
  try dsimp only
  repeat (first
    | with_reducible assumption
    | with_reducible apply keeps_add
    | with_reducible apply keeps_setSsr
    | with_reducible apply Keeps.ite
    | (with_reducible apply Keeps.upd; with_reducible first | assumption | apply keeps_add | apply keeps_setSsr | apply Keeps.ite)
    | (refine Keeps.pair (by assumption) ?_)
    | (refine Keeps.pair3 (by assumption) ?_)
    | (intro _ _ _)
    | (intro _ _)
    | (intro _)
    | split
    | dsimp only)

theorem keeps_gPeriod {s0 : State} (s : State) (h : Keeps s0 s) :
    Keeps s0 (State.gPeriod s) := by
  unfold State.gPeriod
  try dsimp only
  repeat (first
    | with_reducible assumption
    | with_reducible apply keeps_setIsr
    | with_reducible apply keeps_gAccount
    | with_reducible apply keeps_gCopySource
    | with_reducible apply keeps_gtnMap
    | with_reducible apply keeps_glnMap
    | with_reducible apply Keeps.ite
    | (with_reducible apply Keeps.foldl; intro _ _ _)
    | (with_reducible apply Keeps.upd; with_reducible first | assumption | apply keeps_setIsr | apply keeps_gAccount | apply keeps_gCopySource | apply keeps_gtnMap | apply keeps_glnMap | apply Keeps.ite | (apply Keeps.foldl; intro _ _ _))
    | (refine Keeps.pair (by assumption) ?_)
    | (refine Keeps.pair3 (by assumption) ?_)
    | (intro _ _ _)
    | (intro _ _)
    | (intro _)
    | split
    | dsimp only)

theorem keeps_execPeriodReceive {s0 : State} (port : ℕ) (telegram : Telegram) (s : State) (h : Keeps s0 s) :
    ∃ u, execPeriodReceive port telegram s = finish u ∧ Keeps s0 u := by
  refine ⟨_, rfl, ?_⟩
  try dsimp only
  repeat (first
    | with_reducible assumption
    | with_reducible apply keeps_gStep
    | with_reducible apply keeps_gPeriod
    | with_reducible apply Keeps.ite
    | (with_reducible apply Keeps.upd; with_reducible first | assumption | apply keeps_gStep | apply keeps_gPeriod | apply Keeps.ite)
    | (refine Keeps.pair (by assumption) ?_)
    | (refine Keeps.pair3 (by assumption) ?_)
    | (intro _ _ _)
    | (intro _ _)
    | (intro _)
    | split
    | dsimp only)

theorem keeps_gStartPeriod {s0 : State} (s : State) (h : Keeps s0 s) :
    Keeps s0 (State.gStartPeriod s) := by
  unfold State.gStartPeriod
  try dsimp only
  repeat (first
    | with_reducible assumption
    | with_reducible apply keeps_gPeriod
    | with_reducible apply keeps_gSend
    | with_reducible apply keeps_gGoOn
    | with_reducible apply keeps_glnMap
    | with_reducible apply Keeps.ite
    | (with_reducible apply Keeps.upd; with_reducible first | assumption | apply keeps_gPeriod | apply keeps_gSend | apply keeps_gGoOn | apply keeps_glnMap | apply Keeps.ite)
    | (refine Keeps.pair (by assumption) ?_)
    | (refine Keeps.pair3 (by assumption) ?_)
    | (intro _ _ _)
    | (intro _ _)
    | (intro _)
    | split
    | dsimp only)

theorem keeps_execPeriodTimer {s0 : State} (s : State) (h : Keeps s0 s) :
    ∃ u, execPeriodTimer s = finish u ∧ Keeps s0 u := by
  refine ⟨_, rfl, ?_⟩
  try dsimp only
  repeat (first
    | with_reducible assumption
    | with_reducible apply keeps_gStartPeriod
    | with_reducible apply Keeps.ite
    | (with_reducible apply Keeps.upd; with_reducible first | assumption | apply keeps_gStartPeriod | apply Keeps.ite)
    | (refine Keeps.pair (by assumption) ?_)
    | (refine Keeps.pair3 (by assumption) ?_)
    | (intro _ _ _)
    | (intro _ _)
    | (intro _)
    | split
    | dsimp only)

theorem keeps_execPeriodMissingTimeout {s0 : State} (s : State) (h : Keeps s0 s) :
    ∃ u, execPeriodMissingTimeout s = finish u ∧ Keeps s0 u := by
  refine ⟨_, rfl, ?_⟩
  try dsimp only
  repeat (first
    | with_reducible assumption
    | with_reducible apply keeps_gTrigger
    | with_reducible apply Keeps.ite
    | (with_reducible apply Keeps.upd; with_reducible first | assumption | apply keeps_gTrigger | apply Keeps.ite)
    | (refine Keeps.pair (by assumption) ?_)
    | (refine Keeps.pair3 (by assumption) ?_)
    | (intro _ _ _)
    | (intro _ _)
    | (intro _)
    | split
    | dsimp only)

theorem keeps_execGResetReceive {s0 : State} (port : ℕ) (telegram : Telegram) (s : State) (h : Keeps s0 s) :
    ∃ u, execGResetReceive port telegram s = finish u ∧ Keeps s0 u := by
  refine ⟨_, rfl, ?_⟩
  try dsimp only
  repeat (first
    | with_reducible assumption
    | with_reducible apply keeps_gStep
    | with_reducible apply keeps_gStart
    | with_reducible apply Keeps.ite
    | (with_reducible apply Keeps.upd; with_reducible first | assumption | apply keeps_gStep | apply keeps_gStart | apply Keeps.ite)
    | (refine Keeps.pair (by assumption) ?_)
    | (refine Keeps.pair3 (by assumption) ?_)
    | (intro _ _ _)
    | (intro _ _)
    | (intro _)
    | split
    | dsimp only)

theorem keeps_execPdPollReceive {s0 : State} (port : ℕ) (telegram : Telegram) (s : State) (h : Keeps s0 s) :
    ∃ u, execPdPollReceive port telegram s = finish u ∧ Keeps s0 u := by
  refine ⟨_, rfl, ?_⟩
  try dsimp only
  repeat (first
    | with_reducible assumption
    | with_reducible apply keeps_gStep
    | with_reducible apply keeps_gSendData
    | with_reducible apply Keeps.ite
    | (with_reducible apply Keeps.upd; with_reducible first | assumption | apply keeps_gStep | apply keeps_gSendData | apply Keeps.ite)
    | (refine Keeps.pair (by assumption) ?_)
    | (refine Keeps.pair3 (by assumption) ?_)
    | (intro _ _ _)
    | (intro _ _)
    | (intro _)
    | split
    | dsimp only)

theorem keeps_gTube {s0 : State} (s : State) (p : ℕ) (k : ℕ) (dst : ℕ) (prio : ℕ) (t0 : Telegram) (h : Keeps s0 s) :
    Keeps s0 (State.gTube s p k dst prio t0) := by
  unfold State.gTube
  try dsimp only
  repeat (first
    | with_reducible assumption
    | with_reducible apply keeps_draw
    | with_reducible apply keeps_stampFrame
    | with_reducible apply keeps_routeOwn
    | with_reducible apply Keeps.ite
    | (with_reducible apply Keeps.upd; with_reducible first | assumption | apply keeps_draw | apply keeps_stampFrame | apply keeps_routeOwn | apply Keeps.ite)
    | (refine Keeps.pair (by assumption) ?_)
    | (refine Keeps.pair3 (by assumption) ?_)
    | (intro _ _ _)
    | (intro _ _)
    | (intro _)
    | split
    | dsimp only)

theorem keeps_execPdDataReceive {s0 : State} (port : ℕ) (telegram : Telegram) (s : State) (h : Keeps s0 s) :
    ∃ u, execPdDataReceive port telegram s = finish u ∧ Keeps s0 u := by
  refine ⟨_, rfl, ?_⟩
  try dsimp only
  repeat (first
    | with_reducible assumption
    | with_reducible apply keeps_gStep
    | with_reducible apply keeps_gSink
    | with_reducible apply keeps_gTube
    | with_reducible apply keeps_gGoOn
    | with_reducible apply keeps_gAnswered
    | with_reducible apply Keeps.ite
    | (with_reducible apply Keeps.foldl; intro _ _ _)
    | (with_reducible apply Keeps.upd; with_reducible first | assumption | apply keeps_gStep | apply keeps_gSink | apply keeps_gTube | apply keeps_gGoOn | apply keeps_gAnswered | apply Keeps.ite | (apply Keeps.foldl; intro _ _ _))
    | (refine Keeps.pair (by assumption) ?_)
    | (refine Keeps.pair3 (by assumption) ?_)
    | (intro _ _ _)
    | (intro _ _)
    | (intro _)
    | split
    | dsimp only)

theorem keeps_execMsgPollReceive {s0 : State} (port : ℕ) (telegram : Telegram) (s : State) (h : Keeps s0 s) :
    ∃ u, execMsgPollReceive port telegram s = finish u ∧ Keeps s0 u := by
  refine ⟨_, rfl, ?_⟩
  try dsimp only
  repeat (first
    | with_reducible assumption
    | with_reducible apply keeps_gStep
    | with_reducible apply keeps_gNextMail
    | with_reducible apply keeps_gSendMail
    | with_reducible apply keeps_gSend
    | with_reducible apply Keeps.ite
    | (with_reducible apply Keeps.upd; with_reducible first | assumption | apply keeps_gStep | apply keeps_gNextMail | apply keeps_gSendMail | apply keeps_gSend | apply Keeps.ite)
    | (refine Keeps.pair (by assumption) ?_)
    | (refine Keeps.pair3 (by assumption) ?_)
    | (intro _ _ _)
    | (intro _ _)
    | (intro _)
    | split
    | dsimp only)

theorem keeps_gDeliver {s0 : State} (s : State) (t0 : Telegram) (h : Keeps s0 s) :
    Keeps s0 (State.gDeliver s t0) := by
  unfold State.gDeliver
  try dsimp only
  repeat (first
    | with_reducible assumption
    | with_reducible apply keeps_setMboxBytes
    | with_reducible apply keeps_releaseMbox
    | with_reducible apply keeps_setRam
    | with_reducible apply Keeps.ite
    | (with_reducible apply Keeps.upd; with_reducible first | assumption | apply keeps_setMboxBytes | apply keeps_releaseMbox | apply keeps_setRam | apply Keeps.ite)
    | (refine Keeps.pair (by assumption) ?_)
    | (refine Keeps.pair3 (by assumption) ?_)
    | (intro _ _ _)
    | (intro _ _)
    | (intro _)
    | split
    | dsimp only)

theorem keeps_gMessage {s0 : State} (s : State) (p : ℕ) (t0 : Telegram) (h : Keeps s0 s) :
    Keeps s0 (State.gMessage s p t0) := by
  unfold State.gMessage
  try dsimp only
  repeat (first
    | with_reducible assumption
    | with_reducible apply keeps_gSend
    | with_reducible apply keeps_gTube
    | with_reducible apply keeps_gDeliver
    | with_reducible apply Keeps.ite
    | (with_reducible apply Keeps.upd; with_reducible first | assumption | apply keeps_gSend | apply keeps_gTube | apply keeps_gDeliver | apply Keeps.ite)
    | (refine Keeps.pair (by assumption) ?_)
    | (refine Keeps.pair3 (by assumption) ?_)
    | (intro _ _ _)
    | (intro _ _)
    | (intro _)
    | split
    | dsimp only)

theorem keeps_execGMsgReceive {s0 : State} (port : ℕ) (telegram : Telegram) (s : State) (h : Keeps s0 s) :
    ∃ u, execGMsgReceive port telegram s = finish u ∧ Keeps s0 u := by
  refine ⟨_, rfl, ?_⟩
  try dsimp only
  repeat (first
    | with_reducible assumption
    | with_reducible apply keeps_gStep
    | with_reducible apply keeps_gMessage
    | with_reducible apply keeps_gAnswered
    | with_reducible apply keeps_gGoOn
    | with_reducible apply keeps_glnMap
    | with_reducible apply Keeps.ite
    | (with_reducible apply Keeps.upd; with_reducible first | assumption | apply keeps_gStep | apply keeps_gMessage | apply keeps_gAnswered | apply keeps_gGoOn | apply keeps_glnMap | apply Keeps.ite)
    | (refine Keeps.pair (by assumption) ?_)
    | (refine Keeps.pair3 (by assumption) ?_)
    | (intro _ _ _)
    | (intro _ _)
    | (intro _)
    | split
    | dsimp only)

theorem keeps_execMsgAckReceive {s0 : State} (port : ℕ) (telegram : Telegram) (s : State) (h : Keeps s0 s) :
    ∃ u, execMsgAckReceive port telegram s = finish u ∧ Keeps s0 u := by
  refine ⟨_, rfl, ?_⟩
  try dsimp only
  repeat (first
    | with_reducible assumption
    | with_reducible apply keeps_gStep
    | with_reducible apply keeps_glnMap
    | with_reducible apply keeps_gMailDone
    | with_reducible apply keeps_gGoOn
    | with_reducible apply Keeps.ite
    | (with_reducible apply Keeps.upd; with_reducible first | assumption | apply keeps_gStep | apply keeps_glnMap | apply keeps_gMailDone | apply keeps_gGoOn | apply Keeps.ite)
    | (refine Keeps.pair (by assumption) ?_)
    | (refine Keeps.pair3 (by assumption) ?_)
    | (intro _ _ _)
    | (intro _ _)
    | (intro _)
    | split
    | dsimp only)

theorem keeps_execNoneReceive {s0 : State} (port : ℕ) (telegram : Telegram) (s : State) (h : Keeps s0 s) :
    ∃ u, execNoneReceive port telegram s = finish u ∧ Keeps s0 u := by
  refine ⟨_, rfl, ?_⟩
  try dsimp only
  repeat (first
    | with_reducible assumption
    | with_reducible apply keeps_gStep
    | with_reducible apply keeps_gGoOn
    | with_reducible apply keeps_gAnswered
    | with_reducible apply Keeps.ite
    | (with_reducible apply Keeps.upd; with_reducible first | assumption | apply keeps_gStep | apply keeps_gGoOn | apply keeps_gAnswered | apply Keeps.ite)
    | (refine Keeps.pair (by assumption) ?_)
    | (refine Keeps.pair3 (by assumption) ?_)
    | (intro _ _ _)
    | (intro _ _)
    | (intro _)
    | split
    | dsimp only)

theorem keeps_gSwitch {s0 : State} (s : State) (e : ℕ) (line : ℕ) (h : Keeps s0 s) :
    Keeps s0 (State.gSwitch s e line) := by
  unfold State.gSwitch
  try dsimp only
  repeat (first
    | with_reducible assumption
    | with_reducible apply keeps_gShowLines
    | with_reducible apply keeps_glnMap
    | with_reducible apply keeps_setIsr
    | with_reducible apply keeps_setSsr
    | with_reducible apply keeps_bump
    | with_reducible apply keeps_record
    | with_reducible apply keeps_legacyLog
    | with_reducible apply Keeps.ite
    | (with_reducible apply Keeps.upd; with_reducible first | assumption | apply keeps_gShowLines | apply keeps_glnMap | apply keeps_setIsr | apply keeps_setSsr | apply keeps_bump | apply keeps_record | apply keeps_legacyLog | apply Keeps.ite)
    | (refine Keeps.pair (by assumption) ?_)
    | (refine Keeps.pair3 (by assumption) ?_)
    | (intro _ _ _)
    | (intro _ _)
    | (intro _)
    | split
    | dsimp only)

theorem keeps_execGLineSwitch {s0 : State} (side : ℕ) (s : State) (h : Keeps s0 s) :
    ∃ u, execGLineSwitch side s = finish u ∧ Keeps s0 u := by
  refine ⟨_, rfl, ?_⟩
  try dsimp only
  repeat (first
    | with_reducible assumption
    | with_reducible apply keeps_gSwitch
    | with_reducible apply Keeps.ite
    | (with_reducible apply Keeps.upd; with_reducible first | assumption | apply keeps_gSwitch | apply Keeps.ite)
    | (refine Keeps.pair (by assumption) ?_)
    | (refine Keeps.pair3 (by assumption) ?_)
    | (intro _ _ _)
    | (intro _ _)
    | (intro _)
    | split
    | dsimp only)

theorem keeps_gForce {s0 : State} (s : State) (h : Keeps s0 s) :
    Keeps s0 (State.gForce s) := by
  unfold State.gForce
  try dsimp only
  repeat (first
    | with_reducible assumption
    | with_reducible apply keeps_gSwitch
    | with_reducible apply Keeps.ite
    | (with_reducible apply Keeps.foldl; intro _ _ _)
    | (with_reducible apply Keeps.upd; with_reducible first | assumption | apply keeps_gSwitch | apply Keeps.ite | (apply Keeps.foldl; intro _ _ _))
    | (refine Keeps.pair (by assumption) ?_)
    | (refine Keeps.pair3 (by assumption) ?_)
    | (intro _ _ _)
    | (intro _ _)
    | (intro _)
    | split
    | dsimp only)

theorem keeps_execGPortDown {s0 : State} (port : ℕ) (s : State) (h : Keeps s0 s) :
    ∃ u, execGPortDown port s = finish u ∧ Keeps s0 u := by
  refine ⟨_, rfl, ?_⟩
  try dsimp only
  repeat (first
    | with_reducible assumption
    | with_reducible apply keeps_gShowLines
    | with_reducible apply keeps_glnMap
    | with_reducible apply Keeps.ite
    | (with_reducible apply Keeps.upd; with_reducible first | assumption | apply keeps_gShowLines | apply keeps_glnMap | apply Keeps.ite)
    | (refine Keeps.pair (by assumption) ?_)
    | (refine Keeps.pair3 (by assumption) ?_)
    | (intro _ _ _)
    | (intro _ _)
    | (intro _)
    | split
    | dsimp only)

theorem keeps_execBorderNamingTimeout {s0 : State} (s : State) (h : Keeps s0 s) :
    ∃ u, execBorderNamingTimeout s = finish u ∧ Keeps s0 u := by
  refine ⟨_, rfl, ?_⟩
  try dsimp only
  repeat (first
    | with_reducible assumption
    | with_reducible apply keeps_gTrigger
    | with_reducible apply keeps_assertLine
    | with_reducible apply Keeps.ite
    | (with_reducible apply Keeps.upd; with_reducible first | assumption | apply keeps_gTrigger | apply keeps_assertLine | apply Keeps.ite)
    | (refine Keeps.pair (by assumption) ?_)
    | (refine Keeps.pair3 (by assumption) ?_)
    | (intro _ _ _)
    | (intro _ _)
    | (intro _)
    | split
    | dsimp only)

end Sys2Proof.Machine
end

