-- ==== Sys2Proof/Laws/KeepsGtn.lean ====
section
/-! SUPPORT. The operations of `Sys2Proof/Machine/Gtn.lean` keep what `Keeps` names. -/

set_option linter.unusedTactic false
set_option linter.unreachableTactic false

namespace Sys2Proof.Machine

theorem keeps_gtnClear {s0 : State} (s : State) (r : ℕ) (high : Bool) (h : Keeps s0 s) :
    Keeps s0 (State.gtnClear s r high) := by
  unfold State.gtnClear
  try dsimp only
  repeat (first
    | with_reducible assumption
    | with_reducible apply keeps_set
    | with_reducible apply Keeps.ite
    | (with_reducible apply Keeps.foldl; intro _ _ _)
    | (with_reducible apply Keeps.upd; with_reducible first | assumption | apply keeps_set | apply Keeps.ite | (apply Keeps.foldl; intro _ _ _))
    | (refine Keeps.pair (by assumption) ?_)
    | (refine Keeps.pair3 (by assumption) ?_)
    | (intro _ _ _)
    | (intro _ _)
    | (intro _)
    | split
    | dsimp only)

theorem keeps_gtnLowEffect {s0 : State} (s : State) (r : ℕ) (value : ℕ) (high : Option ℕ) (h : Keeps s0 s) :
    Keeps s0 (State.gtnLowEffect s r value high) := by
  unfold State.gtnLowEffect
  try dsimp only
  repeat (first
    | with_reducible assumption
    | with_reducible apply keeps_set
    | with_reducible apply keeps_gtnMap
    | with_reducible apply keeps_clearBit
    | with_reducible apply keeps_gtnClear
    | with_reducible apply Keeps.ite
    | (with_reducible apply Keeps.upd; with_reducible first | assumption | apply keeps_set | apply keeps_gtnMap | apply keeps_clearBit | apply keeps_gtnClear | apply Keeps.ite)
    | (refine Keeps.pair (by assumption) ?_)
    | (refine Keeps.pair3 (by assumption) ?_)
    | (intro _ _ _)
    | (intro _ _)
    | (intro _)
    | split
    | dsimp only)

theorem keeps_gtnRead {s0 : State} (s : State) (a : ℕ) (h : Keeps s0 s) :
    Keeps s0 (State.gtnRead s a).2 := by
  unfold State.gtnRead
  try dsimp only
  repeat (first
    | with_reducible assumption
    | with_reducible apply keeps_gtnClear
    | with_reducible apply keeps_gtnMap
    | with_reducible apply keeps_gtnLowEffect
    | with_reducible apply Keeps.ite
    | (with_reducible apply Keeps.upd; with_reducible first | assumption | apply keeps_gtnClear | apply keeps_gtnMap | apply keeps_gtnLowEffect | apply Keeps.ite)
    | (refine Keeps.pair (by assumption) ?_)
    | (refine Keeps.pair3 (by assumption) ?_)
    | (intro _ _ _)
    | (intro _ _)
    | (intro _)
    | split
    | dsimp only)

theorem keeps_softReset {s0 : State} (s : State) (h : Keeps s0 s) :
    Keeps s0 (State.softReset s) := by
  unfold State.softReset
  try dsimp only
  repeat (first
    | with_reducible assumption
    | with_reducible apply keeps_startBoot
    | with_reducible apply Keeps.ite
    | (with_reducible apply Keeps.upd; with_reducible first | assumption | apply keeps_startBoot | apply Keeps.ite)
    | (refine Keeps.pair (by assumption) ?_)
    | (refine Keeps.pair3 (by assumption) ?_)
    | (intro _ _ _)
    | (intro _ _)
    | (intro _)
    | split
    | dsimp only)

theorem keeps_nodeEnable {s0 : State} (s : State) (on : Bool) (h : Keeps s0 s) :
    Keeps s0 (State.nodeEnable s on) := by
  unfold State.nodeEnable
  try dsimp only
  repeat (first
    | with_reducible assumption
    | with_reducible apply keeps_gTrigger
    | with_reducible apply keeps_load
    | with_reducible apply keeps_glnMap
    | with_reducible apply Keeps.ite
    | (with_reducible apply Keeps.upd; with_reducible first | assumption | apply keeps_gTrigger | apply keeps_load | apply keeps_glnMap | apply Keeps.ite)
    | (refine Keeps.pair (by assumption) ?_)
    | (refine Keeps.pair3 (by assumption) ?_)
    | (intro _ _ _)
    | (intro _ _)
    | (intro _)
    | split
    | dsimp only)

theorem keeps_writeCsr {s0 : State} (s : State) (v : ℕ) (h : Keeps s0 s) :
    Keeps s0 (State.writeCsr s v) := by
  unfold State.writeCsr
  try dsimp only
  repeat (first
    | with_reducible assumption
    | with_reducible apply keeps_softReset
    | with_reducible apply keeps_load
    | with_reducible apply keeps_nodeEnable
    | with_reducible apply Keeps.ite
    | (with_reducible apply Keeps.upd; with_reducible first | assumption | apply keeps_softReset | apply keeps_load | apply keeps_nodeEnable | apply Keeps.ite)
    | (refine Keeps.pair (by assumption) ?_)
    | (refine Keeps.pair3 (by assumption) ?_)
    | (intro _ _ _)
    | (intro _ _)
    | (intro _)
    | split
    | dsimp only)

theorem keeps_writeWdr {s0 : State} (s : State) (v : ℕ) (h : Keeps s0 s) :
    Keeps s0 (State.writeWdr s v) := by
  unfold State.writeWdr
  try dsimp only
  repeat (first
    | with_reducible assumption
    | with_reducible apply keeps_load
    | with_reducible apply Keeps.ite
    | (with_reducible apply Keeps.upd; with_reducible first | assumption | apply keeps_load | apply Keeps.ite)
    | (refine Keeps.pair (by assumption) ?_)
    | (refine Keeps.pair3 (by assumption) ?_)
    | (intro _ _ _)
    | (intro _ _)
    | (intro _)
    | split
    | dsimp only)

theorem keeps_writeElc {s0 : State} (s : State) (v : ℕ) (h : Keeps s0 s) :
    Keeps s0 (State.writeElc s v) := by
  unfold State.writeElc
  try dsimp only
  repeat (first
    | with_reducible assumption
    | with_reducible apply keeps_load
    | with_reducible apply keeps_gtnMap
    | with_reducible apply Keeps.ite
    | (with_reducible apply Keeps.upd; with_reducible first | assumption | apply keeps_load | apply keeps_gtnMap | apply Keeps.ite)
    | (refine Keeps.pair (by assumption) ?_)
    | (refine Keeps.pair3 (by assumption) ?_)
    | (intro _ _ _)
    | (intro _ _)
    | (intro _)
    | split
    | dsimp only)

theorem keeps_takeMbox {s0 : State} (s : State) (n : ℕ) (h : Keeps s0 s) :
    Keeps s0 (State.takeMbox s n) := by
  unfold State.takeMbox
  try dsimp only
  repeat (first
    | with_reducible assumption
    | with_reducible apply keeps_gWriteSink
    | with_reducible apply keeps_gtnMap
    | with_reducible apply Keeps.ite
    | (with_reducible apply Keeps.upd; with_reducible first | assumption | apply keeps_gWriteSink | apply keeps_gtnMap | apply Keeps.ite)
    | (refine Keeps.pair (by assumption) ?_)
    | (refine Keeps.pair3 (by assumption) ?_)
    | (intro _ _ _)
    | (intro _ _)
    | (intro _)
    | split
    | dsimp only)

theorem keeps_writeMbc {s0 : State} (s : State) (n : ℕ) (v : ℕ) (h : Keeps s0 s) :
    Keeps s0 (State.writeMbc s n v) := by
  unfold State.writeMbc
  try dsimp only
  repeat (first
    | with_reducible assumption
    | with_reducible apply keeps_setSsr
    | with_reducible apply keeps_load
    | with_reducible apply keeps_takeMbox
    | with_reducible apply Keeps.ite
    | (with_reducible apply Keeps.upd; with_reducible first | assumption | apply keeps_setSsr | apply keeps_load | apply keeps_takeMbox | apply Keeps.ite)
    | (refine Keeps.pair (by assumption) ?_)
    | (refine Keeps.pair3 (by assumption) ?_)
    | (intro _ _ _)
    | (intro _ _)
    | (intro _)
    | split
    | dsimp only)

theorem keeps_setRun {s0 : State} (s : State) (x : ℕ) (on : Bool) (h : Keeps s0 s) :
    Keeps s0 (State.setRun s x on) := by
  unfold State.setRun
  try dsimp only
  repeat (first
    | with_reducible assumption
    | with_reducible apply keeps_chanMap
    | with_reducible apply keeps_load
    | with_reducible apply keeps_set
    | with_reducible apply keeps_stopCanMboxes
    | with_reducible apply keeps_gtnMap
    | with_reducible apply Keeps.ite
    | (with_reducible apply Keeps.upd; with_reducible first | assumption | apply keeps_chanMap | apply keeps_load | apply keeps_set | apply keeps_stopCanMboxes | apply keeps_gtnMap | apply Keeps.ite)
    | (refine Keeps.pair (by assumption) ?_)
    | (refine Keeps.pair3 (by assumption) ?_)
    | (intro _ _ _)
    | (intro _ _)
    | (intro _)
    | split
    | dsimp only)

theorem keeps_writeCcr {s0 : State} (s : State) (x : ℕ) (v : ℕ) (h : Keeps s0 s) :
    Keeps s0 (State.writeCcr s x v) := by
  unfold State.writeCcr
  try dsimp only
  repeat (first
    | with_reducible assumption
    | with_reducible apply keeps_setRun
    | with_reducible apply keeps_load
    | with_reducible apply Keeps.ite
    | (with_reducible apply Keeps.upd; with_reducible first | assumption | apply keeps_setRun | apply keeps_load | apply Keeps.ite)
    | (refine Keeps.pair (by assumption) ?_)
    | (refine Keeps.pair3 (by assumption) ?_)
    | (intro _ _ _)
    | (intro _ _)
    | (intro _)
    | split
    | dsimp only)

theorem keeps_gtnStore {s0 : State} (s : State) (r : ℕ) (v : ℕ) (h : Keeps s0 s) :
    Keeps s0 (State.gtnStore s r v) := by
  unfold State.gtnStore
  try dsimp only
  repeat (first
    | with_reducible assumption
    | with_reducible apply keeps_set
    | with_reducible apply Keeps.ite
    | (with_reducible apply Keeps.foldl; intro _ _ _)
    | (with_reducible apply Keeps.upd; with_reducible first | assumption | apply keeps_set | apply Keeps.ite | (apply Keeps.foldl; intro _ _ _))
    | (refine Keeps.pair (by assumption) ?_)
    | (refine Keeps.pair3 (by assumption) ?_)
    | (intro _ _ _)
    | (intro _ _)
    | (intro _)
    | split
    | dsimp only)

theorem keeps_gtnWriteReg {s0 : State} (s : State) (r : ℕ) (v : ℕ) (h : Keeps s0 s) :
    Keeps s0 (State.gtnWriteReg s r v) := by
  unfold State.gtnWriteReg
  try dsimp only
  repeat (first
    | with_reducible assumption
    | with_reducible apply keeps_writeCsr
    | with_reducible apply keeps_gForce
    | with_reducible apply keeps_gtnStore
    | with_reducible apply keeps_writeWdr
    | with_reducible apply keeps_writeMbc
    | with_reducible apply keeps_writeCcr
    | with_reducible apply keeps_writeElc
    | with_reducible apply Keeps.ite
    | (with_reducible apply Keeps.upd; with_reducible first | assumption | apply keeps_writeCsr | apply keeps_gForce | apply keeps_gtnStore | apply keeps_writeWdr | apply keeps_writeMbc | apply keeps_writeCcr | apply keeps_writeElc | apply Keeps.ite)
    | (refine Keeps.pair (by assumption) ?_)
    | (refine Keeps.pair3 (by assumption) ?_)
    | (intro _ _ _)
    | (intro _ _)
    | (intro _)
    | split
    | dsimp only)

theorem keeps_gtnWrite {s0 : State} (s : State) (a : ℕ) (v : ℕ) (h : Keeps s0 s) :
    Keeps s0 (State.gtnWrite s a v) := by
  unfold State.gtnWrite
  try dsimp only
  repeat (first
    | with_reducible assumption
    | with_reducible apply keeps_setSsr
    | with_reducible apply keeps_setRam
    | with_reducible apply keeps_gtnMap
    | with_reducible apply keeps_gtnWriteReg
    | with_reducible apply Keeps.ite
    | (with_reducible apply Keeps.upd; with_reducible first | assumption | apply keeps_setSsr | apply keeps_setRam | apply keeps_gtnMap | apply keeps_gtnWriteReg | apply Keeps.ite)
    | (refine Keeps.pair (by assumption) ?_)
    | (refine Keeps.pair3 (by assumption) ?_)
    | (intro _ _ _)
    | (intro _ _)
    | (intro _)
    | split
    | dsimp only)

theorem keeps_ghRead {s0 : State} (s : State) (a : ℕ) (h : Keeps s0 s) :
    Keeps s0 (State.ghRead s a) := by
  unfold State.ghRead
  try dsimp only
  repeat (first
    | with_reducible assumption
    | with_reducible apply keeps_gtnRead
    | with_reducible apply keeps_emit
    | with_reducible apply Keeps.ite
    | (with_reducible apply Keeps.upd; with_reducible first | assumption | apply keeps_gtnRead | apply keeps_emit | apply Keeps.ite)
    | (refine Keeps.pair (by assumption) ?_)
    | (refine Keeps.pair3 (by assumption) ?_)
    | (intro _ _ _)
    | (intro _ _)
    | (intro _)
    | split
    | dsimp only)

theorem keeps_ghWrite {s0 : State} (s : State) (a : ℕ) (v : ℕ) (h : Keeps s0 s) :
    Keeps s0 (State.ghWrite s a v) := by
  unfold State.ghWrite
  try dsimp only
  repeat (first
    | with_reducible assumption
    | with_reducible apply keeps_gtnWrite
    | with_reducible apply Keeps.ite
    | (with_reducible apply Keeps.upd; with_reducible first | assumption | apply keeps_gtnWrite | apply Keeps.ite)
    | (refine Keeps.pair (by assumption) ?_)
    | (refine Keeps.pair3 (by assumption) ?_)
    | (intro _ _ _)
    | (intro _ _)
    | (intro _)
    | split
    | dsimp only)

theorem keeps_ghStrobe {s0 : State} (s : State) (write : Bool) (a : ℕ) (v : ℕ) (early : Bool) (h : Keeps s0 s) :
    Keeps s0 (State.ghStrobe s write a v early) := by
  unfold State.ghStrobe
  try dsimp only
  repeat (first
    | with_reducible assumption
    | with_reducible apply keeps_draw
    | with_reducible apply keeps_emit
    | with_reducible apply keeps_gtnMap
    | with_reducible apply keeps_ghWrite
    | with_reducible apply keeps_ghRead
    | with_reducible apply Keeps.ite
    | (with_reducible apply Keeps.upd; with_reducible first | assumption | apply keeps_draw | apply keeps_emit | apply keeps_gtnMap | apply keeps_ghWrite | apply keeps_ghRead | apply Keeps.ite)
    | (refine Keeps.pair (by assumption) ?_)
    | (refine Keeps.pair3 (by assumption) ?_)
    | (intro _ _ _)
    | (intro _ _)
    | (intro _)
    | split
    | dsimp only)

theorem keeps_execGhBusRead {s0 : State} (addr : ℕ) (early : Bool) (s : State) (h : Keeps s0 s) :
    ∃ u, execGhBusRead addr early s = finish u ∧ Keeps s0 u := by
  refine ⟨_, rfl, ?_⟩
  try dsimp only
  repeat (first
    | with_reducible assumption
    | with_reducible apply keeps_ghStrobe
    | with_reducible apply Keeps.ite
    | (with_reducible apply Keeps.upd; with_reducible first | assumption | apply keeps_ghStrobe | apply Keeps.ite)
    | (refine Keeps.pair (by assumption) ?_)
    | (refine Keeps.pair3 (by assumption) ?_)
    | (intro _ _ _)
    | (intro _ _)
    | (intro _)
    | split
    | dsimp only)

theorem keeps_execGhHighWordRead {s0 : State} (addr : ℕ) (early : Bool) (s : State) (h : Keeps s0 s) :
    ∃ u, execGhHighWordRead addr early s = finish u ∧ Keeps s0 u := by
  refine ⟨_, rfl, ?_⟩
  try dsimp only
  repeat (first
    | with_reducible assumption
    | with_reducible apply keeps_ghStrobe
    | with_reducible apply Keeps.ite
    | (with_reducible apply Keeps.upd; with_reducible first | assumption | apply keeps_ghStrobe | apply Keeps.ite)
    | (refine Keeps.pair (by assumption) ?_)
    | (refine Keeps.pair3 (by assumption) ?_)
    | (intro _ _ _)
    | (intro _ _)
    | (intro _)
    | split
    | dsimp only)

theorem keeps_execGhBusWrite {s0 : State} (addr : ℕ) (value : ℕ) (early : Bool) (s : State) (h : Keeps s0 s) :
    ∃ u, execGhBusWrite addr value early s = finish u ∧ Keeps s0 u := by
  refine ⟨_, rfl, ?_⟩
  try dsimp only
  repeat (first
    | with_reducible assumption
    | with_reducible apply keeps_ghStrobe
    | with_reducible apply Keeps.ite
    | (with_reducible apply Keeps.upd; with_reducible first | assumption | apply keeps_ghStrobe | apply Keeps.ite)
    | (refine Keeps.pair (by assumption) ?_)
    | (refine Keeps.pair3 (by assumption) ?_)
    | (intro _ _ _)
    | (intro _ _)
    | (intro _)
    | split
    | dsimp only)

theorem keeps_execGhHighWordWrite {s0 : State} (addr : ℕ) (value : ℕ) (early : Bool) (s : State) (h : Keeps s0 s) :
    ∃ u, execGhHighWordWrite addr value early s = finish u ∧ Keeps s0 u := by
  refine ⟨_, rfl, ?_⟩
  try dsimp only
  repeat (first
    | with_reducible assumption
    | with_reducible apply keeps_ghStrobe
    | with_reducible apply Keeps.ite
    | (with_reducible apply Keeps.upd; with_reducible first | assumption | apply keeps_ghStrobe | apply Keeps.ite)
    | (refine Keeps.pair (by assumption) ?_)
    | (refine Keeps.pair3 (by assumption) ?_)
    | (intro _ _ _)
    | (intro _ _)
    | (intro _)
    | split
    | dsimp only)

theorem keeps_execGhLowWordWrite {s0 : State} (addr : ℕ) (value : ℕ) (early : Bool) (s : State) (h : Keeps s0 s) :
    ∃ u, execGhLowWordWrite addr value early s = finish u ∧ Keeps s0 u := by
  refine ⟨_, rfl, ?_⟩
  try dsimp only
  repeat (first
    | with_reducible assumption
    | with_reducible apply keeps_ghStrobe
    | with_reducible apply Keeps.ite
    | (with_reducible apply Keeps.upd; with_reducible first | assumption | apply keeps_ghStrobe | apply Keeps.ite)
    | (refine Keeps.pair (by assumption) ?_)
    | (refine Keeps.pair3 (by assumption) ?_)
    | (intro _ _ _)
    | (intro _ _)
    | (intro _)
    | split
    | dsimp only)

theorem keeps_execSsrLowWordRead {s0 : State} (early : Bool) (s : State) (h : Keeps s0 s) :
    ∃ u, execSsrLowWordRead early s = finish u ∧ Keeps s0 u := by
  refine ⟨_, rfl, ?_⟩
  try dsimp only
  repeat (first
    | with_reducible assumption
    | with_reducible apply keeps_ghStrobe
    | with_reducible apply Keeps.ite
    | (with_reducible apply Keeps.upd; with_reducible first | assumption | apply keeps_ghStrobe | apply Keeps.ite)
    | (refine Keeps.pair (by assumption) ?_)
    | (refine Keeps.pair3 (by assumption) ?_)
    | (intro _ _ _)
    | (intro _ _)
    | (intro _)
    | split
    | dsimp only)

theorem keeps_execIvrLowWordRead {s0 : State} (early : Bool) (s : State) (h : Keeps s0 s) :
    ∃ u, execIvrLowWordRead early s = finish u ∧ Keeps s0 u := by
  refine ⟨_, rfl, ?_⟩
  try dsimp only
  repeat (first
    | with_reducible assumption
    | with_reducible apply keeps_ghStrobe
    | with_reducible apply Keeps.ite
    | (with_reducible apply Keeps.upd; with_reducible first | assumption | apply keeps_ghStrobe | apply Keeps.ite)
    | (refine Keeps.pair (by assumption) ?_)
    | (refine Keeps.pair3 (by assumption) ?_)
    | (intro _ _ _)
    | (intro _ _)
    | (intro _)
    | split
    | dsimp only)

theorem keeps_execEld3LowWordRead {s0 : State} (early : Bool) (s : State) (h : Keeps s0 s) :
    ∃ u, execEld3LowWordRead early s = finish u ∧ Keeps s0 u := by
  refine ⟨_, rfl, ?_⟩
  try dsimp only
  repeat (first
    | with_reducible assumption
    | with_reducible apply keeps_ghStrobe
    | with_reducible apply Keeps.ite
    | (with_reducible apply Keeps.upd; with_reducible first | assumption | apply keeps_ghStrobe | apply Keeps.ite)
    | (refine Keeps.pair (by assumption) ?_)
    | (refine Keeps.pair3 (by assumption) ?_)
    | (intro _ _ _)
    | (intro _ _)
    | (intro _)
    | split
    | dsimp only)

theorem keeps_execLegacySoftReset {s0 : State} (lower : ℕ) (s : State) (h : Keeps s0 s) :
    ∃ u, execLegacySoftReset lower s = finish u ∧ Keeps s0 u := by
  refine ⟨_, rfl, ?_⟩
  try dsimp only
  repeat (first
    | with_reducible assumption
    | with_reducible apply keeps_ghStrobe
    | with_reducible apply Keeps.ite
    | (with_reducible apply Keeps.upd; with_reducible first | assumption | apply keeps_ghStrobe | apply Keeps.ite)
    | (refine Keeps.pair (by assumption) ?_)
    | (refine Keeps.pair3 (by assumption) ?_)
    | (intro _ _ _)
    | (intro _ _)
    | (intro _)
    | split
    | dsimp only)

theorem keeps_execNodeEnableWrite {s0 : State} (lower : ℕ) (s : State) (h : Keeps s0 s) :
    ∃ u, execNodeEnableWrite lower s = finish u ∧ Keeps s0 u := by
  refine ⟨_, rfl, ?_⟩
  try dsimp only
  repeat (first
    | with_reducible assumption
    | with_reducible apply keeps_ghStrobe
    | with_reducible apply Keeps.ite
    | (with_reducible apply Keeps.upd; with_reducible first | assumption | apply keeps_ghStrobe | apply Keeps.ite)
    | (refine Keeps.pair (by assumption) ?_)
    | (refine Keeps.pair3 (by assumption) ?_)
    | (intro _ _ _)
    | (intro _ _)
    | (intro _)
    | split
    | dsimp only)

theorem keeps_execElogClear {s0 : State} (lower : ℕ) (s : State) (h : Keeps s0 s) :
    ∃ u, execElogClear lower s = finish u ∧ Keeps s0 u := by
  refine ⟨_, rfl, ?_⟩
  try dsimp only
  repeat (first
    | with_reducible assumption
    | with_reducible apply keeps_ghStrobe
    | with_reducible apply Keeps.ite
    | (with_reducible apply Keeps.upd; with_reducible first | assumption | apply keeps_ghStrobe | apply Keeps.ite)
    | (refine Keeps.pair (by assumption) ?_)
    | (refine Keeps.pair3 (by assumption) ?_)
    | (intro _ _ _)
    | (intro _ _)
    | (intro _)
    | split
    | dsimp only)

theorem keeps_execWdrWrite {s0 : State} (lower : ℕ) (s : State) (h : Keeps s0 s) :
    ∃ u, execWdrWrite lower s = finish u ∧ Keeps s0 u := by
  refine ⟨_, rfl, ?_⟩
  try dsimp only
  repeat (first
    | with_reducible assumption
    | with_reducible apply keeps_ghStrobe
    | with_reducible apply Keeps.ite
    | (with_reducible apply Keeps.upd; with_reducible first | assumption | apply keeps_ghStrobe | apply Keeps.ite)
    | (refine Keeps.pair (by assumption) ?_)
    | (refine Keeps.pair3 (by assumption) ?_)
    | (intro _ _ _)
    | (intro _ _)
    | (intro _)
    | split
    | dsimp only)

theorem keeps_execMbcHandover {s0 : State} (mailbox : ℕ) (lower : ℕ) (s : State) (h : Keeps s0 s) :
    ∃ u, execMbcHandover mailbox lower s = finish u ∧ Keeps s0 u := by
  refine ⟨_, rfl, ?_⟩
  try dsimp only
  repeat (first
    | with_reducible assumption
    | with_reducible apply keeps_ghStrobe
    | with_reducible apply Keeps.ite
    | (with_reducible apply Keeps.upd; with_reducible first | assumption | apply keeps_ghStrobe | apply Keeps.ite)
    | (refine Keeps.pair (by assumption) ?_)
    | (refine Keeps.pair3 (by assumption) ?_)
    | (intro _ _ _)
    | (intro _ _)
    | (intro _)
    | split
    | dsimp only)

theorem keeps_execGtnCanRunWrite {s0 : State} (channel : ℕ) (lower : ℕ) (s : State) (h : Keeps s0 s) :
    ∃ u, execGtnCanRunWrite channel lower s = finish u ∧ Keeps s0 u := by
  refine ⟨_, rfl, ?_⟩
  try dsimp only
  repeat (first
    | with_reducible assumption
    | with_reducible apply keeps_ghStrobe
    | with_reducible apply Keeps.ite
    | (with_reducible apply Keeps.upd; with_reducible first | assumption | apply keeps_ghStrobe | apply Keeps.ite)
    | (refine Keeps.pair (by assumption) ?_)
    | (refine Keeps.pair3 (by assumption) ?_)
    | (intro _ _ _)
    | (intro _ _)
    | (intro _)
    | split
    | dsimp only)

theorem keeps_execGhBootHoldEnd {s0 : State} (s : State) (h : Keeps s0 s) :
    ∃ u, execGhBootHoldEnd s = finish u ∧ Keeps s0 u := by
  refine ⟨_, rfl, ?_⟩
  try dsimp only
  repeat (first
    | with_reducible assumption
    | with_reducible apply keeps_gtnMap
    | with_reducible apply keeps_ghWrite
    | with_reducible apply keeps_ghRead
    | with_reducible apply Keeps.ite
    | (with_reducible apply Keeps.upd; with_reducible first | assumption | apply keeps_gtnMap | apply keeps_ghWrite | apply keeps_ghRead | apply Keeps.ite)
    | (refine Keeps.pair (by assumption) ?_)
    | (refine Keeps.pair3 (by assumption) ?_)
    | (intro _ _ _)
    | (intro _ _)
    | (intro _)
    | split
    | dsimp only)

theorem keeps_execGtnWatchdogExpiry {s0 : State} (s : State) (h : Keeps s0 s) :
    ∃ u, execGtnWatchdogExpiry s = finish u ∧ Keeps s0 u := by
  refine ⟨_, rfl, ?_⟩
  try dsimp only
  repeat (first
    | with_reducible assumption
    | with_reducible apply keeps_legacyLog
    | with_reducible apply keeps_set
    | with_reducible apply keeps_setSsr
    | with_reducible apply keeps_setIsr
    | with_reducible apply Keeps.ite
    | (with_reducible apply Keeps.upd; with_reducible first | assumption | apply keeps_legacyLog | apply keeps_set | apply keeps_setSsr | apply keeps_setIsr | apply Keeps.ite)
    | (refine Keeps.pair (by assumption) ?_)
    | (refine Keeps.pair3 (by assumption) ?_)
    | (intro _ _ _)
    | (intro _ _)
    | (intro _)
    | split
    | dsimp only)

theorem keeps_execGhIrqReleaseEnd {s0 : State} (s : State) (h : Keeps s0 s) :
    ∃ u, execGhIrqReleaseEnd s = finish u ∧ Keeps s0 u := by
  refine ⟨_, rfl, ?_⟩
  try dsimp only
  repeat (first
    | with_reducible assumption
    | with_reducible apply keeps_gtnMap
    | with_reducible apply Keeps.ite
    | (with_reducible apply Keeps.upd; with_reducible first | assumption | apply keeps_gtnMap | apply Keeps.ite)
    | (refine Keeps.pair (by assumption) ?_)
    | (refine Keeps.pair3 (by assumption) ?_)
    | (intro _ _ _)
    | (intro _ _)
    | (intro _)
    | split
    | dsimp only)

theorem keeps_execGtnTick {s0 : State} (s : State) (h : Keeps s0 s) :
    ∃ u, execGtnTick s = finish u ∧ Keeps s0 u := by
  refine ⟨_, rfl, ?_⟩
  try dsimp only
  repeat (first
    | with_reducible assumption
    | with_reducible apply keeps_setIsr
    | with_reducible apply Keeps.ite
    | (with_reducible apply Keeps.upd; with_reducible first | assumption | apply keeps_setIsr | apply Keeps.ite)
    | (refine Keeps.pair (by assumption) ?_)
    | (refine Keeps.pair3 (by assumption) ?_)
    | (intro _ _ _)
    | (intro _ _)
    | (intro _)
    | split
    | dsimp only)

theorem keeps_putCanMbox {s0 : State} (s : State) (n : ℕ) (f : CanFrame) (tmr : ℕ) (h : Keeps s0 s) :
    Keeps s0 (State.putCanMbox s n f tmr) := by
  unfold State.putCanMbox
  try dsimp only
  repeat (first
    | with_reducible assumption
    | with_reducible apply keeps_setRam
    | with_reducible apply keeps_setMboxBytes
    | with_reducible apply keeps_releaseMbox
    | with_reducible apply Keeps.ite
    | (with_reducible apply Keeps.upd; with_reducible first | assumption | apply keeps_setRam | apply keeps_setMboxBytes | apply keeps_releaseMbox | apply Keeps.ite)
    | (refine Keeps.pair (by assumption) ?_)
    | (refine Keeps.pair3 (by assumption) ?_)
    | (intro _ _ _)
    | (intro _ _)
    | (intro _)
    | split
    | dsimp only)

theorem keeps_legacyReceive {s0 : State} (s : State) (x : ℕ) (f : CanFrame) (sof : ℕ) (h : Keeps s0 s) :
    Keeps s0 (State.legacyReceive s x f sof) := by
  unfold State.legacyReceive
  try dsimp only
  repeat (first
    | with_reducible assumption
    | with_reducible apply keeps_canCondition
    | with_reducible apply keeps_chanMap
    | with_reducible apply keeps_canRxOk
    | with_reducible apply keeps_bump
    | with_reducible apply keeps_putCanMbox
    | with_reducible apply Keeps.ite
    | (with_reducible apply Keeps.upd; with_reducible first | assumption | apply keeps_canCondition | apply keeps_chanMap | apply keeps_canRxOk | apply keeps_bump | apply keeps_putCanMbox | apply Keeps.ite)
    | (refine Keeps.pair (by assumption) ?_)
    | (refine Keeps.pair3 (by assumption) ?_)
    | (intro _ _ _)
    | (intro _ _)
    | (intro _)
    | split
    | dsimp only)

theorem keeps_execGtnCanRx {s0 : State} (channel : ℕ) (frame : CanFrame) (sof : ℕ) (s : State) (h : Keeps s0 s) :
    ∃ u, execGtnCanRx channel frame sof s = finish u ∧ Keeps s0 u := by
  refine ⟨_, rfl, ?_⟩
  try dsimp only
  repeat (first
    | with_reducible assumption
    | with_reducible apply keeps_legacyReceive
    | with_reducible apply Keeps.ite
    | (with_reducible apply Keeps.upd; with_reducible first | assumption | apply keeps_legacyReceive | apply Keeps.ite)
    | (refine Keeps.pair (by assumption) ?_)
    | (refine Keeps.pair3 (by assumption) ?_)
    | (intro _ _ _)
    | (intro _ _)
    | (intro _)
    | split
    | dsimp only)

theorem keeps_legacySelect {s0 : State} (s : State) (x : ℕ) (h : Keeps s0 s) :
    Keeps s0 (State.legacySelect s x) := by
  unfold State.legacySelect
  try dsimp only
  repeat (first
    | with_reducible assumption
    | with_reducible apply keeps_gtnMap
    | with_reducible apply keeps_emit
    | with_reducible apply keeps_chanMap
    | with_reducible apply Keeps.ite
    | (with_reducible apply Keeps.upd; with_reducible first | assumption | apply keeps_gtnMap | apply keeps_emit | apply keeps_chanMap | apply Keeps.ite)
    | (refine Keeps.pair (by assumption) ?_)
    | (refine Keeps.pair3 (by assumption) ?_)
    | (intro _ _ _)
    | (intro _ _)
    | (intro _)
    | split
    | dsimp only)

theorem keeps_legacySent {s0 : State} (s : State) (x : ℕ) (h : Keeps s0 s) :
    Keeps s0 (State.legacySent s x) := by
  unfold State.legacySent
  try dsimp only
  repeat (first
    | with_reducible assumption
    | with_reducible apply keeps_chanMap
    | with_reducible apply keeps_canLoopCheck
    | with_reducible apply keeps_canTxOk
    | with_reducible apply keeps_bump
    | with_reducible apply keeps_gtnMap
    | with_reducible apply keeps_releaseMbox
    | with_reducible apply Keeps.ite
    | (with_reducible apply Keeps.upd; with_reducible first | assumption | apply keeps_chanMap | apply keeps_canLoopCheck | apply keeps_canTxOk | apply keeps_bump | apply keeps_gtnMap | apply keeps_releaseMbox | apply Keeps.ite)
    | (refine Keeps.pair (by assumption) ?_)
    | (refine Keeps.pair3 (by assumption) ?_)
    | (intro _ _ _)
    | (intro _ _)
    | (intro _)
    | split
    | dsimp only)

theorem keeps_execGtnCanTxDone {s0 : State} (channel : ℕ) (s : State) (h : Keeps s0 s) :
    ∃ u, execGtnCanTxDone channel s = finish u ∧ Keeps s0 u := by
  refine ⟨_, rfl, ?_⟩
  try dsimp only
  repeat (first
    | with_reducible assumption
    | with_reducible apply keeps_legacySent
    | with_reducible apply Keeps.ite
    | (with_reducible apply Keeps.upd; with_reducible first | assumption | apply keeps_legacySent | apply Keeps.ite)
    | (refine Keeps.pair (by assumption) ?_)
    | (refine Keeps.pair3 (by assumption) ?_)
    | (intro _ _ _)
    | (intro _ _)
    | (intro _)
    | split
    | dsimp only)

theorem keeps_legacyFails {s0 : State} (s : State) (x : ℕ) (err : Option (ℕ × ℕ × Bool)) (h : Keeps s0 s) :
    Keeps s0 (State.legacyFails s x err) := by
  unfold State.legacyFails
  try dsimp only
  repeat (first
    | with_reducible assumption
    | with_reducible apply keeps_chanMap
    | with_reducible apply keeps_canLoopCheck
    | with_reducible apply keeps_canAddErr
    | with_reducible apply keeps_canCountErr
    | with_reducible apply Keeps.ite
    | (with_reducible apply Keeps.upd; with_reducible first | assumption | apply keeps_chanMap | apply keeps_canLoopCheck | apply keeps_canAddErr | apply keeps_canCountErr | apply Keeps.ite)
    | (refine Keeps.pair (by assumption) ?_)
    | (refine Keeps.pair3 (by assumption) ?_)
    | (intro _ _ _)
    | (intro _ _)
    | (intro _)
    | split
    | dsimp only)

theorem keeps_execCanFrameReceive {s0 : State} (channel : ℕ) (frame : CanFrame) (sof : ℕ) (s : State) (h : Keeps s0 s) :
    ∃ u, execCanFrameReceive channel frame sof s = finish u ∧ Keeps s0 u := by
  refine ⟨_, rfl, ?_⟩
  try dsimp only
  repeat (first
    | with_reducible assumption
    | with_reducible apply keeps_legacyReceive
    | with_reducible apply keeps_canFrameIn
    | with_reducible apply Keeps.ite
    | (with_reducible apply Keeps.upd; with_reducible first | assumption | apply keeps_legacyReceive | apply keeps_canFrameIn | apply Keeps.ite)
    | (refine Keeps.pair (by assumption) ?_)
    | (refine Keeps.pair3 (by assumption) ?_)
    | (intro _ _ _)
    | (intro _ _)
    | (intro _)
    | split
    | dsimp only)

theorem keeps_execCanTxSelect {s0 : State} (channel : ℕ) (s : State) (h : Keeps s0 s) :
    ∃ u, execCanTxSelect channel s = finish u ∧ Keeps s0 u := by
  refine ⟨_, rfl, ?_⟩
  try dsimp only
  repeat (first
    | with_reducible assumption
    | with_reducible apply keeps_legacySelect
    | with_reducible apply keeps_canSelect
    | with_reducible apply Keeps.ite
    | (with_reducible apply Keeps.upd; with_reducible first | assumption | apply keeps_legacySelect | apply keeps_canSelect | apply Keeps.ite)
    | (refine Keeps.pair (by assumption) ?_)
    | (refine Keeps.pair3 (by assumption) ?_)
    | (intro _ _ _)
    | (intro _ _)
    | (intro _)
    | split
    | dsimp only)

theorem keeps_execCanTxSuccess {s0 : State} (channel : ℕ) (tdcv : ℕ) (s : State) (h : Keeps s0 s) :
    ∃ u, execCanTxSuccess channel tdcv s = finish u ∧ Keeps s0 u := by
  refine ⟨_, rfl, ?_⟩
  try dsimp only
  repeat (first
    | with_reducible assumption
    | with_reducible apply keeps_legacySent
    | with_reducible apply keeps_canTxSuccess
    | with_reducible apply Keeps.ite
    | (with_reducible apply Keeps.upd; with_reducible first | assumption | apply keeps_legacySent | apply keeps_canTxSuccess | apply Keeps.ite)
    | (refine Keeps.pair (by assumption) ?_)
    | (refine Keeps.pair3 (by assumption) ?_)
    | (intro _ _ _)
    | (intro _ _)
    | (intro _)
    | split
    | dsimp only)

theorem keeps_execCanTxArbLost {s0 : State} (channel : ℕ) (s : State) (h : Keeps s0 s) :
    ∃ u, execCanTxArbLost channel s = finish u ∧ Keeps s0 u := by
  refine ⟨_, rfl, ?_⟩
  try dsimp only
  repeat (first
    | with_reducible assumption
    | with_reducible apply keeps_legacyFails
    | with_reducible apply keeps_canArbLost
    | with_reducible apply Keeps.ite
    | (with_reducible apply Keeps.upd; with_reducible first | assumption | apply keeps_legacyFails | apply keeps_canArbLost | apply Keeps.ite)
    | (refine Keeps.pair (by assumption) ?_)
    | (refine Keeps.pair3 (by assumption) ?_)
    | (intro _ _ _)
    | (intro _ _)
    | (intro _)
    | split
    | dsimp only)

theorem keeps_execCanTxError {s0 : State} (channel : ℕ) (kind : ℕ) (add : ℕ) (tdcv : ℕ) (loop : Bool) (s : State) (h : Keeps s0 s) :
    ∃ u, execCanTxError channel kind add tdcv loop s = finish u ∧ Keeps s0 u := by
  refine ⟨_, rfl, ?_⟩
  try dsimp only
  repeat (first
    | with_reducible assumption
    | with_reducible apply keeps_legacyFails
    | with_reducible apply keeps_canTxError
    | with_reducible apply Keeps.ite
    | (with_reducible apply Keeps.upd; with_reducible first | assumption | apply keeps_legacyFails | apply keeps_canTxError | apply Keeps.ite)
    | (refine Keeps.pair (by assumption) ?_)
    | (refine Keeps.pair3 (by assumption) ?_)
    | (intro _ _ _)
    | (intro _ _)
    | (intro _)
    | split
    | dsimp only)

end Sys2Proof.Machine
end

