-- ==== Sys2Proof/Laws/KeepsRecorder.lean ====
section
/-! SUPPORT. The operations of `Sys2Proof/Machine/Recorder.lean` keep what `Keeps` names. -/

set_option linter.unusedTactic false
set_option linter.unreachableTactic false

namespace Sys2Proof.Machine

theorem keeps_execRecorderEventEnqueue {s0 : State} (base : ℕ) (code : ℕ) (payload : Bytes) (s : State) (h : Keeps s0 s) :
    ∃ u, execRecorderEventEnqueue base code payload s = finish u ∧ Keeps s0 u := by
  refine ⟨_, rfl, ?_⟩
  try dsimp only
  repeat (first
    | with_reducible assumption
    | with_reducible apply keeps_record
    | with_reducible apply Keeps.ite
    | (with_reducible apply Keeps.upd; with_reducible first | assumption | apply keeps_record | apply Keeps.ite)
    | (refine Keeps.pair (by assumption) ?_)
    | (refine Keeps.pair3 (by assumption) ?_)
    | (intro _ _ _)
    | (intro _ _)
    | (intro _)
    | split
    | dsimp only)

theorem keeps_writeFailed {s0 : State} (s : State) (h : Keeps s0 s) :
    Keeps s0 (State.writeFailed s) := by
  unfold State.writeFailed
  try dsimp only
  repeat (first
    | with_reducible assumption
    | with_reducible apply keeps_unmarkNext
    | with_reducible apply keeps_set
    | with_reducible apply keeps_bump
    | with_reducible apply keeps_recAdvance
    | with_reducible apply Keeps.ite
    | (with_reducible apply Keeps.upd; with_reducible first | assumption | apply keeps_unmarkNext | apply keeps_set | apply keeps_bump | apply keeps_recAdvance | apply Keeps.ite)
    | (refine Keeps.pair (by assumption) ?_)
    | (refine Keeps.pair3 (by assumption) ?_)
    | (intro _ _ _)
    | (intro _ _)
    | (intro _)
    | split
    | dsimp only)

theorem keeps_eventLost {s0 : State} (s : State) (e : RecEvent) (h : Keeps s0 s) :
    Keeps s0 (State.eventLost s e) := by
  unfold State.eventLost
  try dsimp only
  repeat (first
    | with_reducible assumption
    | with_reducible apply Keeps.ite
    | (with_reducible apply Keeps.upd; with_reducible first | assumption | apply Keeps.ite)
    | (refine Keeps.pair (by assumption) ?_)
    | (refine Keeps.pair3 (by assumption) ?_)
    | (intro _ _ _)
    | (intro _ _)
    | (intro _)
    | split
    | dsimp only)

theorem keeps_writeEnds {s0 : State} (s : State) (ok : Bool) (h : Keeps s0 s) :
    Keeps s0 (State.writeEnds s ok) := by
  unfold State.writeEnds
  try dsimp only
  repeat (first
    | with_reducible assumption
    | with_reducible apply keeps_recTake
    | with_reducible apply keeps_recWritten
    | with_reducible apply keeps_putRecord
    | with_reducible apply keeps_writeFailed
    | with_reducible apply keeps_pulse
    | with_reducible apply keeps_eventLost
    | with_reducible apply Keeps.ite
    | (with_reducible apply Keeps.upd; with_reducible first | assumption | apply keeps_recTake | apply keeps_recWritten | apply keeps_putRecord | apply keeps_writeFailed | apply keeps_pulse | apply keeps_eventLost | apply Keeps.ite)
    | (refine Keeps.pair (by assumption) ?_)
    | (refine Keeps.pair3 (by assumption) ?_)
    | (intro _ _ _)
    | (intro _ _)
    | (intro _)
    | split
    | dsimp only)

theorem keeps_execRecordWriteDone {s0 : State} (readBackOk : Bool) (s : State) (h : Keeps s0 s) :
    ∃ u, execRecordWriteDone readBackOk s = finish u ∧ Keeps s0 u := by
  refine ⟨_, rfl, ?_⟩
  try dsimp only
  repeat (first
    | with_reducible assumption
    | with_reducible apply keeps_writeEnds
    | with_reducible apply Keeps.ite
    | (with_reducible apply Keeps.upd; with_reducible first | assumption | apply keeps_writeEnds | apply Keeps.ite)
    | (refine Keeps.pair (by assumption) ?_)
    | (refine Keeps.pair3 (by assumption) ?_)
    | (intro _ _ _)
    | (intro _ _)
    | (intro _)
    | split
    | dsimp only)

theorem keeps_drainLog {s0 : State} (a0 : ℕ) (a1 : State) (h : Keeps s0 a1) :
    Keeps s0 (State.drainLog a0 a1) := by
  induction a0 generalizing a1 with
  | zero =>
    unfold State.drainLog
    try dsimp only
    repeat (first
      | with_reducible assumption
      | with_reducible apply keeps_writeEnds
        | with_reducible apply Keeps.ite
      | (with_reducible apply Keeps.upd; with_reducible first | assumption | apply keeps_writeEnds | apply Keeps.ite)
      | (refine Keeps.pair (by assumption) ?_)
      | (refine Keeps.pair3 (by assumption) ?_)
      | (intro _ _ _)
      | (intro _ _)
      | (intro _)
      | split
      | dsimp only)
  | succ n ih =>
    unfold State.drainLog
    try dsimp only
    repeat (first
      | with_reducible assumption
      | with_reducible apply keeps_writeEnds
      | with_reducible apply ih
      | with_reducible apply Keeps.ite
      | (with_reducible apply Keeps.upd; with_reducible first | assumption | apply keeps_writeEnds | apply Keeps.ite)
      | (refine Keeps.pair (by assumption) ?_)
      | (refine Keeps.pair3 (by assumption) ?_)
      | (intro _ _ _)
      | (intro _ _)
      | (intro _)
      | split
      | dsimp only)

theorem keeps_scanMarks {s0 : State} (s : State) (h : Keeps s0 s) :
    Keeps s0 (State.scanMarks s) := by
  unfold State.scanMarks
  try dsimp only
  repeat (first
    | with_reducible assumption
    | with_reducible apply keeps_load
    | with_reducible apply Keeps.ite
    | (with_reducible apply Keeps.foldl; intro _ _ _)
    | (with_reducible apply Keeps.upd; with_reducible first | assumption | apply keeps_load | apply Keeps.ite | (apply Keeps.foldl; intro _ _ _))
    | (refine Keeps.pair (by assumption) ?_)
    | (refine Keeps.pair3 (by assumption) ?_)
    | (intro _ _ _)
    | (intro _ _)
    | (intro _)
    | split
    | dsimp only)

theorem keeps_scanSeq {s0 : State} (s : State) (h : Keeps s0 s) :
    Keeps s0 (State.scanSeq s) := by
  unfold State.scanSeq
  try dsimp only
  repeat (first
    | with_reducible assumption
    | with_reducible apply keeps_set
    | with_reducible apply Keeps.ite
    | (with_reducible apply Keeps.upd; with_reducible first | assumption | apply keeps_set | apply Keeps.ite)
    | (refine Keeps.pair (by assumption) ?_)
    | (refine Keeps.pair3 (by assumption) ?_)
    | (intro _ _ _)
    | (intro _ _)
    | (intro _)
    | split
    | dsimp only)

theorem keeps_bootScan {s0 : State} (s : State) (h : Keeps s0 s) :
    Keeps s0 (State.bootScan s) := by
  unfold State.bootScan
  try dsimp only
  repeat (first
    | with_reducible assumption
    | with_reducible apply keeps_scanSeq
    | with_reducible apply keeps_scanMarks
    | with_reducible apply keeps_finishClear
    | with_reducible apply keeps_recTake
    | with_reducible apply keeps_set
    | with_reducible apply Keeps.ite
    | (with_reducible apply Keeps.upd; with_reducible first | assumption | apply keeps_scanSeq | apply keeps_scanMarks | apply keeps_finishClear | apply keeps_recTake | apply keeps_set | apply Keeps.ite)
    | (refine Keeps.pair (by assumption) ?_)
    | (refine Keeps.pair3 (by assumption) ?_)
    | (intro _ _ _)
    | (intro _ _)
    | (intro _)
    | split
    | dsimp only)

theorem keeps_execRecorderBootScan {s0 : State} (s : State) (h : Keeps s0 s) :
    ∃ u, execRecorderBootScan s = finish u ∧ Keeps s0 u := by
  refine ⟨_, rfl, ?_⟩
  try dsimp only
  repeat (first
    | with_reducible assumption
    | with_reducible apply keeps_bootScan
    | with_reducible apply Keeps.ite
    | (with_reducible apply Keeps.upd; with_reducible first | assumption | apply keeps_bootScan | apply Keeps.ite)
    | (refine Keeps.pair (by assumption) ?_)
    | (refine Keeps.pair3 (by assumption) ?_)
    | (intro _ _ _)
    | (intro _ _)
    | (intro _)
    | split
    | dsimp only)

theorem keeps_execRecRdIdxWrite {s0 : State} (req : Requester) (index : ℕ) (s : State) (h : Keeps s0 s) :
    ∃ u, execRecRdIdxWrite req index s = finish u ∧ Keeps s0 u := by
  refine ⟨_, rfl, ?_⟩
  try dsimp only
  repeat (first
    | with_reducible assumption
    | with_reducible apply keeps_writeStep
    | with_reducible apply Keeps.ite
    | (with_reducible apply Keeps.upd; with_reducible first | assumption | apply keeps_writeStep | apply Keeps.ite)
    | (refine Keeps.pair (by assumption) ?_)
    | (refine Keeps.pair3 (by assumption) ?_)
    | (intro _ _ _)
    | (intro _ _)
    | (intro _)
    | split
    | dsimp only)

theorem keeps_execRecRdData7HighRead {s0 : State} (req : Requester) (s : State) (h : Keeps s0 s) :
    ∃ u, execRecRdData7HighRead req s = finish u ∧ Keeps s0 u := by
  refine ⟨_, rfl, ?_⟩
  try dsimp only
  repeat (first
    | with_reducible assumption
    | with_reducible apply keeps_readStep
    | with_reducible apply Keeps.ite
    | (with_reducible apply Keeps.upd; with_reducible first | assumption | apply keeps_readStep | apply Keeps.ite)
    | (refine Keeps.pair (by assumption) ?_)
    | (refine Keeps.pair3 (by assumption) ?_)
    | (intro _ _ _)
    | (intro _ _)
    | (intro _)
    | split
    | dsimp only)

theorem keeps_cmdRecClear {s0 : State} (a : ℕ) (t : State) (h : Keeps s0 t) :
    Keeps s0 ((cmdRecClear ).run a t) := by
  unfold cmdRecClear
  try dsimp only
  repeat (first
    | with_reducible assumption
    | with_reducible apply keeps_set
    | with_reducible apply Keeps.ite
    | (with_reducible apply Keeps.upd; with_reducible first | assumption | apply keeps_set | apply Keeps.ite)
    | (refine Keeps.pair (by assumption) ?_)
    | (refine Keeps.pair3 (by assumption) ?_)
    | (intro _ _ _)
    | (intro _ _)
    | (intro _)
    | split
    | dsimp only)

theorem keeps_execRecClear {s0 : State} (path : Path) (arg : ℕ) (s : State) (h : Keeps s0 s) :
    ∃ u, execRecClear path arg s = finish u ∧ Keeps s0 u := by
  refine ⟨_, rfl, ?_⟩
  try dsimp only
  repeat (first
    | with_reducible assumption
    | with_reducible apply keeps_command
    | with_reducible apply keeps_cmdRecClear
    | with_reducible apply Keeps.ite
    | (with_reducible apply Keeps.upd; with_reducible first | assumption | apply keeps_command | apply keeps_cmdRecClear | apply Keeps.ite)
    | (refine Keeps.pair (by assumption) ?_)
    | (refine Keeps.pair3 (by assumption) ?_)
    | (intro _ _ _)
    | (intro _ _)
    | (intro _)
    | split
    | dsimp only)

theorem keeps_execRecClearDone {s0 : State} (s : State) (h : Keeps s0 s) :
    ∃ u, execRecClearDone s = finish u ∧ Keeps s0 u := by
  refine ⟨_, rfl, ?_⟩
  try dsimp only
  repeat (first
    | with_reducible assumption
    | with_reducible apply keeps_recTake
    | with_reducible apply keeps_endCmd
    | with_reducible apply keeps_finishClear
    | with_reducible apply Keeps.ite
    | (with_reducible apply Keeps.upd; with_reducible first | assumption | apply keeps_recTake | apply keeps_endCmd | apply keeps_finishClear | apply Keeps.ite)
    | (refine Keeps.pair (by assumption) ?_)
    | (refine Keeps.pair3 (by assumption) ?_)
    | (intro _ _ _)
    | (intro _ _)
    | (intro _)
    | split
    | dsimp only)

end Sys2Proof.Machine
end

