-- ==== Sys2Proof/Laws/KeepsBridge.lean ====
section
/-! SUPPORT. The operations of `Sys2Proof/Machine/Bridge.lean` keep what `Keeps` names. -/

set_option linter.unusedTactic false
set_option linter.unreachableTactic false

namespace Sys2Proof.Machine

theorem keeps_apDenied {s0 : State} (s : State) (req : Requester) (p : ℕ) (v : ℕ) (h : Keeps s0 s) :
    Keeps s0 (State.apDenied s req p v) := by
  unfold State.apDenied
  try dsimp only
  repeat (first
    | with_reducible assumption
    | with_reducible apply keeps_emit
    | with_reducible apply keeps_recordDenied
    | with_reducible apply Keeps.ite
    | (with_reducible apply Keeps.upd; with_reducible first | assumption | apply keeps_emit | apply keeps_recordDenied | apply Keeps.ite)
    | (refine Keeps.pair (by assumption) ?_)
    | (refine Keeps.pair3 (by assumption) ?_)
    | (intro _ _ _)
    | (intro _ _)
    | (intro _)
    | split
    | dsimp only)

theorem keeps_apRequest {s0 : State} (s : State) (req : Requester) (p : ℕ) (v : ℕ) (op : ℕ) (h : Keeps s0 s) :
    Keeps s0 (State.apRequest s req p v op) := by
  unfold State.apRequest
  try dsimp only
  repeat (first
    | with_reducible assumption
    | with_reducible apply keeps_apDenied
    | with_reducible apply keeps_set
    | with_reducible apply keeps_brgMap
    | with_reducible apply keeps_issueRequest
    | with_reducible apply Keeps.ite
    | (with_reducible apply Keeps.upd; with_reducible first | assumption | apply keeps_apDenied | apply keeps_set | apply keeps_brgMap | apply keeps_issueRequest | apply Keeps.ite)
    | (refine Keeps.pair (by assumption) ?_)
    | (refine Keeps.pair3 (by assumption) ?_)
    | (intro _ _ _)
    | (intro _ _)
    | (intro _)
    | split
    | dsimp only)

theorem keeps_execApReqWr {s0 : State} (req : Requester) (port : ℕ) (value : ℕ) (s : State) (h : Keeps s0 s) :
    ∃ u, execApReqWr req port value s = finish u ∧ Keeps s0 u := by
  refine ⟨_, rfl, ?_⟩
  try dsimp only
  repeat (first
    | with_reducible assumption
    | with_reducible apply keeps_apRequest
    | with_reducible apply Keeps.ite
    | (with_reducible apply Keeps.upd; with_reducible first | assumption | apply keeps_apRequest | apply Keeps.ite)
    | (refine Keeps.pair (by assumption) ?_)
    | (refine Keeps.pair3 (by assumption) ?_)
    | (intro _ _ _)
    | (intro _ _)
    | (intro _)
    | split
    | dsimp only)

theorem keeps_execApReqRd {s0 : State} (req : Requester) (port : ℕ) (value : ℕ) (s : State) (h : Keeps s0 s) :
    ∃ u, execApReqRd req port value s = finish u ∧ Keeps s0 u := by
  refine ⟨_, rfl, ?_⟩
  try dsimp only
  repeat (first
    | with_reducible assumption
    | with_reducible apply keeps_apRequest
    | with_reducible apply Keeps.ite
    | (with_reducible apply Keeps.upd; with_reducible first | assumption | apply keeps_apRequest | apply Keeps.ite)
    | (refine Keeps.pair (by assumption) ?_)
    | (refine Keeps.pair3 (by assumption) ?_)
    | (intro _ _ _)
    | (intro _ _)
    | (intro _)
    | split
    | dsimp only)

theorem keeps_execApReqUnlock {s0 : State} (req : Requester) (port : ℕ) (value : ℕ) (s : State) (h : Keeps s0 s) :
    ∃ u, execApReqUnlock req port value s = finish u ∧ Keeps s0 u := by
  refine ⟨_, rfl, ?_⟩
  try dsimp only
  repeat (first
    | with_reducible assumption
    | with_reducible apply keeps_apRequest
    | with_reducible apply Keeps.ite
    | (with_reducible apply Keeps.upd; with_reducible first | assumption | apply keeps_apRequest | apply Keeps.ite)
    | (refine Keeps.pair (by assumption) ?_)
    | (refine Keeps.pair3 (by assumption) ?_)
    | (intro _ _ _)
    | (intro _ _)
    | (intro _)
    | split
    | dsimp only)

theorem keeps_execApStatusRead {s0 : State} (req : Requester) (port : ℕ) (s : State) (h : Keeps s0 s) :
    ∃ u, execApStatusRead req port s = finish u ∧ Keeps s0 u := by
  refine ⟨_, rfl, ?_⟩
  try dsimp only
  repeat (first
    | with_reducible assumption
    | with_reducible apply keeps_readStep
    | with_reducible apply Keeps.ite
    | (with_reducible apply Keeps.upd; with_reducible first | assumption | apply keeps_readStep | apply Keeps.ite)
    | (refine Keeps.pair (by assumption) ?_)
    | (refine Keeps.pair3 (by assumption) ?_)
    | (intro _ _ _)
    | (intro _ _)
    | (intro _)
    | split
    | dsimp only)

theorem keeps_admitWaiting {s0 : State} (a0 : ℕ) (a1 : State) (h : Keeps s0 a1) :
    Keeps s0 (State.admitWaiting a0 a1) := by
  induction a0 generalizing a1 with
  | zero =>
    unfold State.admitWaiting
    try dsimp only
    repeat (first
      | with_reducible assumption
      | with_reducible apply keeps_sendWrite
      | with_reducible apply keeps_brgMap
        | with_reducible apply Keeps.ite
      | (with_reducible apply Keeps.upd; with_reducible first | assumption | apply keeps_sendWrite | apply keeps_brgMap | apply Keeps.ite)
      | (refine Keeps.pair (by assumption) ?_)
      | (refine Keeps.pair3 (by assumption) ?_)
      | (intro _ _ _)
      | (intro _ _)
      | (intro _)
      | split
      | dsimp only)
  | succ n ih =>
    unfold State.admitWaiting
    try dsimp only
    repeat (first
      | with_reducible assumption
      | with_reducible apply keeps_sendWrite
      | with_reducible apply keeps_brgMap
      | with_reducible apply ih
      | with_reducible apply Keeps.ite
      | (with_reducible apply Keeps.upd; with_reducible first | assumption | apply keeps_sendWrite | apply keeps_brgMap | apply Keeps.ite)
      | (refine Keeps.pair (by assumption) ?_)
      | (refine Keeps.pair3 (by assumption) ?_)
      | (intro _ _ _)
      | (intro _ _)
      | (intro _)
      | split
      | dsimp only)

theorem keeps_freePosted {s0 : State} (s : State) (h : Keeps s0 s) :
    Keeps s0 (State.freePosted s) := by
  unfold State.freePosted
  try dsimp only
  repeat (first
    | with_reducible assumption
    | with_reducible apply keeps_showPosted
    | with_reducible apply keeps_brgMap
    | with_reducible apply keeps_admitWaiting
    | with_reducible apply Keeps.ite
    | (with_reducible apply Keeps.upd; with_reducible first | assumption | apply keeps_showPosted | apply keeps_brgMap | apply keeps_admitWaiting | apply Keeps.ite)
    | (refine Keeps.pair (by assumption) ?_)
    | (refine Keeps.pair3 (by assumption) ?_)
    | (intro _ _ _)
    | (intro _ _)
    | (intro _)
    | split
    | dsimp only)

theorem keeps_execPostedEntryFree {s0 : State} (s : State) (h : Keeps s0 s) :
    ∃ u, execPostedEntryFree s = finish u ∧ Keeps s0 u := by
  refine ⟨_, rfl, ?_⟩
  try dsimp only
  repeat (first
    | with_reducible assumption
    | with_reducible apply keeps_freePosted
    | with_reducible apply Keeps.ite
    | (with_reducible apply Keeps.upd; with_reducible first | assumption | apply keeps_freePosted | apply Keeps.ite)
    | (refine Keeps.pair (by assumption) ?_)
    | (refine Keeps.pair3 (by assumption) ?_)
    | (intro _ _ _)
    | (intro _ _)
    | (intro _)
    | split
    | dsimp only)

theorem keeps_brgTake {s0 : State} (s : State) (f : MsgFrame) (h : Keeps s0 s) :
    Keeps s0 (State.brgTake s f).2 := by
  unfold State.brgTake
  try dsimp only
  repeat (first
    | with_reducible assumption
    | with_reducible apply keeps_takeInbox
    | with_reducible apply keeps_bump
    | with_reducible apply Keeps.ite
    | (with_reducible apply Keeps.upd; with_reducible first | assumption | apply keeps_takeInbox | apply keeps_bump | apply Keeps.ite)
    | (refine Keeps.pair (by assumption) ?_)
    | (refine Keeps.pair3 (by assumption) ?_)
    | (intro _ _ _)
    | (intro _ _)
    | (intro _)
    | split
    | dsimp only)

theorem keeps_respond {s0 : State} (s : State) (f : MsgFrame) (op : ℕ) (data : Bytes) (status : ℕ) (h : Keeps s0 s) :
    Keeps s0 (State.respond s f op data status) := by
  unfold State.respond
  try dsimp only
  repeat (first
    | with_reducible assumption
    | with_reducible apply keeps_originate
    | with_reducible apply Keeps.ite
    | (with_reducible apply Keeps.upd; with_reducible first | assumption | apply keeps_originate | apply Keeps.ite)
    | (refine Keeps.pair (by assumption) ?_)
    | (refine Keeps.pair3 (by assumption) ?_)
    | (intro _ _ _)
    | (intro _ _)
    | (intro _)
    | split
    | dsimp only)

theorem keeps_sendNotice {s0 : State} (s : State) (f : MsgFrame) (status : ℕ) (h : Keeps s0 s) :
    Keeps s0 (State.sendNotice s f status) := by
  unfold State.sendNotice
  try dsimp only
  repeat (first
    | with_reducible assumption
    | with_reducible apply keeps_originate
    | with_reducible apply keeps_bump
    | with_reducible apply Keeps.ite
    | (with_reducible apply Keeps.upd; with_reducible first | assumption | apply keeps_originate | apply keeps_bump | apply Keeps.ite)
    | (refine Keeps.pair (by assumption) ?_)
    | (refine Keeps.pair3 (by assumption) ?_)
    | (intro _ _ _)
    | (intro _ _)
    | (intro _)
    | split
    | dsimp only)

theorem keeps_failRequest {s0 : State} (s : State) (f : MsgFrame) (status : ℕ) (h : Keeps s0 s) :
    Keeps s0 (State.failRequest s f status) := by
  unfold State.failRequest
  try dsimp only
  repeat (first
    | with_reducible assumption
    | with_reducible apply keeps_respond
    | with_reducible apply keeps_sendNotice
    | with_reducible apply keeps_set
    | with_reducible apply keeps_bump
    | with_reducible apply Keeps.ite
    | (with_reducible apply Keeps.upd; with_reducible first | assumption | apply keeps_respond | apply keeps_sendNotice | apply keeps_set | apply keeps_bump | apply Keeps.ite)
    | (refine Keeps.pair (by assumption) ?_)
    | (refine Keeps.pair3 (by assumption) ?_)
    | (intro _ _ _)
    | (intro _ _)
    | (intro _)
    | split
    | dsimp only)

theorem keeps_performRequest {s0 : State} (s : State) (f : MsgFrame) (dma : Option ℕ) (h : Keeps s0 s) :
    Keeps s0 (State.performRequest s f dma) := by
  unfold State.performRequest
  try dsimp only
  repeat (first
    | with_reducible assumption
    | with_reducible apply keeps_writeReg
    | with_reducible apply keeps_failRequest
    | with_reducible apply keeps_read
    | with_reducible apply keeps_respond
    | with_reducible apply keeps_emit
    | with_reducible apply Keeps.ite
    | (with_reducible apply Keeps.upd; with_reducible first | assumption | apply keeps_writeReg | apply keeps_failRequest | apply keeps_read | apply keeps_respond | apply keeps_emit | apply Keeps.ite)
    | (refine Keeps.pair (by assumption) ?_)
    | (refine Keeps.pair3 (by assumption) ?_)
    | (intro _ _ _)
    | (intro _ _)
    | (intro _)
    | split
    | dsimp only)

theorem keeps_grantLock {s0 : State} (s : State) (f : MsgFrame) (h : Keeps s0 s) :
    Keeps s0 (State.grantLock s f) := by
  unfold State.grantLock
  try dsimp only
  repeat (first
    | with_reducible assumption
    | with_reducible apply keeps_set
    | with_reducible apply keeps_brgMap
    | with_reducible apply Keeps.ite
    | (with_reducible apply Keeps.upd; with_reducible first | assumption | apply keeps_set | apply keeps_brgMap | apply Keeps.ite)
    | (refine Keeps.pair (by assumption) ?_)
    | (refine Keeps.pair3 (by assumption) ?_)
    | (intro _ _ _)
    | (intro _ _)
    | (intro _)
    | split
    | dsimp only)

theorem keeps_refuseLock {s0 : State} (s : State) (f : MsgFrame) (h : Keeps s0 s) :
    Keeps s0 (State.refuseLock s f) := by
  unfold State.refuseLock
  try dsimp only
  repeat (first
    | with_reducible assumption
    | with_reducible apply keeps_brgMap
    | with_reducible apply keeps_respond
    | with_reducible apply Keeps.ite
    | (with_reducible apply Keeps.upd; with_reducible first | assumption | apply keeps_brgMap | apply keeps_respond | apply Keeps.ite)
    | (refine Keeps.pair (by assumption) ?_)
    | (refine Keeps.pair3 (by assumption) ?_)
    | (intro _ _ _)
    | (intro _ _)
    | (intro _)
    | split
    | dsimp only)

theorem keeps_noteOrder {s0 : State} (s : State) (f : MsgFrame) (h : Keeps s0 s) :
    Keeps s0 (State.noteOrder s f) := by
  unfold State.noteOrder
  try dsimp only
  repeat (first
    | with_reducible assumption
    | with_reducible apply keeps_brgMap
    | with_reducible apply Keeps.ite
    | (with_reducible apply Keeps.foldl; intro _ _ _)
    | (with_reducible apply Keeps.upd; with_reducible first | assumption | apply keeps_brgMap | apply Keeps.ite | (apply Keeps.foldl; intro _ _ _))
    | (refine Keeps.pair (by assumption) ?_)
    | (refine Keeps.pair3 (by assumption) ?_)
    | (intro _ _ _)
    | (intro _ _)
    | (intro _)
    | split
    | dsimp only)

theorem keeps_holdRequest {s0 : State} (s : State) (f : MsgFrame) (gap : Bool) (h : Keeps s0 s) :
    Keeps s0 (State.holdRequest s f gap) := by
  unfold State.holdRequest
  try dsimp only
  repeat (first
    | with_reducible assumption
    | with_reducible apply keeps_brgMap
    | with_reducible apply keeps_failRequest
    | with_reducible apply Keeps.ite
    | (with_reducible apply Keeps.upd; with_reducible first | assumption | apply keeps_brgMap | apply keeps_failRequest | apply Keeps.ite)
    | (refine Keeps.pair (by assumption) ?_)
    | (refine Keeps.pair3 (by assumption) ?_)
    | (intro _ _ _)
    | (intro _ _)
    | (intro _)
    | split
    | dsimp only)

theorem keeps_releaseNext {s0 : State} (s : State) (f : MsgFrame) (h : Keeps s0 s) :
    Keeps s0 (State.releaseNext s f) := by
  unfold State.releaseNext
  try dsimp only
  repeat (first
    | with_reducible assumption
    | with_reducible apply keeps_releaseHeld
    | with_reducible apply Keeps.ite
    | (with_reducible apply Keeps.upd; with_reducible first | assumption | apply keeps_releaseHeld | apply Keeps.ite)
    | (refine Keeps.pair (by assumption) ?_)
    | (refine Keeps.pair3 (by assumption) ?_)
    | (intro _ _ _)
    | (intro _ _)
    | (intro _)
    | split
    | dsimp only)

theorem keeps_runRequest {s0 : State} (s : State) (f : MsgFrame) (dma : Option ℕ) (h : Keeps s0 s) :
    Keeps s0 (State.runRequest s f dma) := by
  unfold State.runRequest
  try dsimp only
  repeat (first
    | with_reducible assumption
    | with_reducible apply keeps_failRequest
    | with_reducible apply keeps_noteOrder
    | with_reducible apply keeps_performRequest
    | with_reducible apply keeps_grantLock
    | with_reducible apply keeps_unlockTarget
    | with_reducible apply keeps_releaseNext
    | with_reducible apply Keeps.ite
    | (with_reducible apply Keeps.upd; with_reducible first | assumption | apply keeps_failRequest | apply keeps_noteOrder | apply keeps_performRequest | apply keeps_grantLock | apply keeps_unlockTarget | apply keeps_releaseNext | apply Keeps.ite)
    | (refine Keeps.pair (by assumption) ?_)
    | (refine Keeps.pair3 (by assumption) ?_)
    | (intro _ _ _)
    | (intro _ _)
    | (intro _)
    | split
    | dsimp only)

theorem keeps_atTarget {s0 : State} (s : State) (f : MsgFrame) (dma : Option ℕ) (h : Keeps s0 s) :
    Keeps s0 (State.atTarget s f dma) := by
  unfold State.atTarget
  try dsimp only
  repeat (first
    | with_reducible assumption
    | with_reducible apply keeps_failRequest
    | with_reducible apply keeps_bump
    | with_reducible apply keeps_refuseLock
    | with_reducible apply keeps_holdRequest
    | with_reducible apply keeps_runRequest
    | with_reducible apply Keeps.ite
    | (with_reducible apply Keeps.upd; with_reducible first | assumption | apply keeps_failRequest | apply keeps_bump | apply keeps_refuseLock | apply keeps_holdRequest | apply keeps_runRequest | apply Keeps.ite)
    | (refine Keeps.pair (by assumption) ?_)
    | (refine Keeps.pair3 (by assumption) ?_)
    | (intro _ _ _)
    | (intro _ _)
    | (intro _)
    | split
    | dsimp only)

theorem keeps_takeRequest {s0 : State} (s : State) (f : MsgFrame) (op : ℕ) (act : State → State) (ha : ∀ t, Keeps s0 t → Keeps s0 (act t)) (h : Keeps s0 s) :
    Keeps s0 (State.takeRequest s f op act) := by
  unfold State.takeRequest
  try dsimp only
  repeat (first
    | with_reducible assumption
    | with_reducible apply ha
    | with_reducible apply keeps_brgTake
    | with_reducible apply Keeps.ite
    | (with_reducible apply Keeps.upd; with_reducible first | assumption | apply ha | apply keeps_brgTake | apply Keeps.ite)
    | (refine Keeps.pair (by assumption) ?_)
    | (refine Keeps.pair3 (by assumption) ?_)
    | (intro _ _ _)
    | (intro _ _)
    | (intro _)
    | split
    | dsimp only)

theorem keeps_execBrgWrRequest {s0 : State} (frame : MsgFrame) (dma : Option ℕ) (s : State) (h : Keeps s0 s) :
    ∃ u, execBrgWrRequest frame dma s = finish u ∧ Keeps s0 u := by
  refine ⟨_, rfl, ?_⟩
  try dsimp only
  repeat (first
    | with_reducible assumption
    | with_reducible apply keeps_takeRequest
    | with_reducible apply keeps_atTarget
    | with_reducible apply Keeps.ite
    | (with_reducible apply Keeps.upd; with_reducible first | assumption | apply keeps_takeRequest | apply keeps_atTarget | apply Keeps.ite)
    | (refine Keeps.pair (by assumption) ?_)
    | (refine Keeps.pair3 (by assumption) ?_)
    | (intro _ _ _)
    | (intro _ _)
    | (intro _)
    | split
    | dsimp only)

theorem keeps_execBrgRdRequest {s0 : State} (frame : MsgFrame) (dma : Option ℕ) (s : State) (h : Keeps s0 s) :
    ∃ u, execBrgRdRequest frame dma s = finish u ∧ Keeps s0 u := by
  refine ⟨_, rfl, ?_⟩
  try dsimp only
  repeat (first
    | with_reducible assumption
    | with_reducible apply keeps_takeRequest
    | with_reducible apply keeps_atTarget
    | with_reducible apply Keeps.ite
    | (with_reducible apply Keeps.upd; with_reducible first | assumption | apply keeps_takeRequest | apply keeps_atTarget | apply Keeps.ite)
    | (refine Keeps.pair (by assumption) ?_)
    | (refine Keeps.pair3 (by assumption) ?_)
    | (intro _ _ _)
    | (intro _ _)
    | (intro _)
    | split
    | dsimp only)

theorem keeps_execBrgUnlockRequest {s0 : State} (frame : MsgFrame) (s : State) (h : Keeps s0 s) :
    ∃ u, execBrgUnlockRequest frame s = finish u ∧ Keeps s0 u := by
  refine ⟨_, rfl, ?_⟩
  try dsimp only
  repeat (first
    | with_reducible assumption
    | with_reducible apply keeps_takeRequest
    | with_reducible apply keeps_unlockTarget
    | with_reducible apply Keeps.ite
    | (with_reducible apply Keeps.upd; with_reducible first | assumption | apply keeps_takeRequest | apply keeps_unlockTarget | apply Keeps.ite)
    | (refine Keeps.pair (by assumption) ?_)
    | (refine Keeps.pair3 (by assumption) ?_)
    | (intro _ _ _)
    | (intro _ _)
    | (intro _)
    | split
    | dsimp only)

theorem keeps_execSbPollReceive {s0 : State} (frame : MsgFrame) (s : State) (h : Keeps s0 s) :
    ∃ u, execSbPollReceive frame s = finish u ∧ Keeps s0 u := by
  refine ⟨_, rfl, ?_⟩
  try dsimp only
  repeat (first
    | with_reducible assumption
    | with_reducible apply keeps_takeRequest
    | with_reducible apply keeps_respond
    | with_reducible apply Keeps.ite
    | (with_reducible apply Keeps.upd; with_reducible first | assumption | apply keeps_takeRequest | apply keeps_respond | apply Keeps.ite)
    | (refine Keeps.pair (by assumption) ?_)
    | (refine Keeps.pair3 (by assumption) ?_)
    | (intro _ _ _)
    | (intro _ _)
    | (intro _)
    | split
    | dsimp only)

theorem keeps_lateResponse {s0 : State} (s : State) (f : MsgFrame) (h : Keeps s0 s) :
    Keeps s0 (State.lateResponse s f) := by
  unfold State.lateResponse
  try dsimp only
  repeat (first
    | with_reducible assumption
    | with_reducible apply keeps_bump
    | with_reducible apply keeps_set
    | with_reducible apply keeps_hostEvent
    | with_reducible apply Keeps.ite
    | (with_reducible apply Keeps.upd; with_reducible first | assumption | apply keeps_bump | apply keeps_set | apply keeps_hostEvent | apply Keeps.ite)
    | (refine Keeps.pair (by assumption) ?_)
    | (refine Keeps.pair3 (by assumption) ?_)
    | (intro _ _ _)
    | (intro _ _)
    | (intro _)
    | split
    | dsimp only)

theorem keeps_readData {s0 : State} (s : State) (f : MsgFrame) (h : Keeps s0 s) :
    Keeps s0 (State.readData s f) := by
  unfold State.readData
  try dsimp only
  repeat (first
    | with_reducible assumption
    | with_reducible apply keeps_lateResponse
    | with_reducible apply keeps_set
    | with_reducible apply keeps_finishRequest
    | with_reducible apply keeps_brgMap
    | with_reducible apply keeps_endLockOf
    | with_reducible apply Keeps.ite
    | (with_reducible apply Keeps.upd; with_reducible first | assumption | apply keeps_lateResponse | apply keeps_set | apply keeps_finishRequest | apply keeps_brgMap | apply keeps_endLockOf | apply Keeps.ite)
    | (refine Keeps.pair (by assumption) ?_)
    | (refine Keeps.pair3 (by assumption) ?_)
    | (intro _ _ _)
    | (intro _ _)
    | (intro _)
    | split
    | dsimp only)

theorem keeps_execRdDataReceive {s0 : State} (frame : MsgFrame) (s : State) (h : Keeps s0 s) :
    ∃ u, execRdDataReceive frame s = finish u ∧ Keeps s0 u := by
  refine ⟨_, rfl, ?_⟩
  try dsimp only
  repeat (first
    | with_reducible assumption
    | with_reducible apply keeps_takeRequest
    | with_reducible apply keeps_readData
    | with_reducible apply Keeps.ite
    | (with_reducible apply Keeps.upd; with_reducible first | assumption | apply keeps_takeRequest | apply keeps_readData | apply Keeps.ite)
    | (refine Keeps.pair (by assumption) ?_)
    | (refine Keeps.pair3 (by assumption) ?_)
    | (intro _ _ _)
    | (intro _ _)
    | (intro _)
    | split
    | dsimp only)

theorem keeps_readError {s0 : State} (s : State) (f : MsgFrame) (h : Keeps s0 s) :
    Keeps s0 (State.readError s f) := by
  unfold State.readError
  try dsimp only
  repeat (first
    | with_reducible assumption
    | with_reducible apply keeps_finishRequest
    | with_reducible apply keeps_lateResponse
    | with_reducible apply Keeps.ite
    | (with_reducible apply Keeps.upd; with_reducible first | assumption | apply keeps_finishRequest | apply keeps_lateResponse | apply Keeps.ite)
    | (refine Keeps.pair (by assumption) ?_)
    | (refine Keeps.pair3 (by assumption) ?_)
    | (intro _ _ _)
    | (intro _ _)
    | (intro _)
    | split
    | dsimp only)

theorem keeps_execErrReceive {s0 : State} (frame : MsgFrame) (s : State) (h : Keeps s0 s) :
    ∃ u, execErrReceive frame s = finish u ∧ Keeps s0 u := by
  refine ⟨_, rfl, ?_⟩
  try dsimp only
  repeat (first
    | with_reducible assumption
    | with_reducible apply keeps_takeRequest
    | with_reducible apply keeps_readError
    | with_reducible apply Keeps.ite
    | (with_reducible apply Keeps.upd; with_reducible first | assumption | apply keeps_takeRequest | apply keeps_readError | apply Keeps.ite)
    | (refine Keeps.pair (by assumption) ?_)
    | (refine Keeps.pair3 (by assumption) ?_)
    | (intro _ _ _)
    | (intro _ _)
    | (intro _)
    | split
    | dsimp only)

theorem keeps_lockFailed {s0 : State} (s : State) (r : BrgReq) (h : Keeps s0 s) :
    Keeps s0 (State.lockFailed s r) := by
  unfold State.lockFailed
  try dsimp only
  repeat (first
    | with_reducible assumption
    | with_reducible apply keeps_finishRequest
    | with_reducible apply keeps_postedFault
    | with_reducible apply keeps_endLockOf
    | with_reducible apply Keeps.ite
    | (with_reducible apply Keeps.upd; with_reducible first | assumption | apply keeps_finishRequest | apply keeps_postedFault | apply keeps_endLockOf | apply Keeps.ite)
    | (refine Keeps.pair (by assumption) ?_)
    | (refine Keeps.pair3 (by assumption) ?_)
    | (intro _ _ _)
    | (intro _ _)
    | (intro _)
    | split
    | dsimp only)

theorem keeps_lockRetried {s0 : State} (s : State) (f : MsgFrame) (h : Keeps s0 s) :
    Keeps s0 (State.lockRetried s f) := by
  unfold State.lockRetried
  try dsimp only
  repeat (first
    | with_reducible assumption
    | with_reducible apply keeps_lateResponse
    | with_reducible apply keeps_bump
    | with_reducible apply keeps_lockFailed
    | with_reducible apply keeps_set
    | with_reducible apply keeps_readMap
    | with_reducible apply Keeps.ite
    | (with_reducible apply Keeps.upd; with_reducible first | assumption | apply keeps_lateResponse | apply keeps_bump | apply keeps_lockFailed | apply keeps_set | apply keeps_readMap | apply Keeps.ite)
    | (refine Keeps.pair (by assumption) ?_)
    | (refine Keeps.pair3 (by assumption) ?_)
    | (intro _ _ _)
    | (intro _ _)
    | (intro _)
    | split
    | dsimp only)

theorem keeps_execLockRetryReceive {s0 : State} (frame : MsgFrame) (s : State) (h : Keeps s0 s) :
    ∃ u, execLockRetryReceive frame s = finish u ∧ Keeps s0 u := by
  refine ⟨_, rfl, ?_⟩
  try dsimp only
  repeat (first
    | with_reducible assumption
    | with_reducible apply keeps_takeRequest
    | with_reducible apply keeps_lockRetried
    | with_reducible apply Keeps.ite
    | (with_reducible apply Keeps.upd; with_reducible first | assumption | apply keeps_takeRequest | apply keeps_lockRetried | apply Keeps.ite)
    | (refine Keeps.pair (by assumption) ?_)
    | (refine Keeps.pair3 (by assumption) ?_)
    | (intro _ _ _)
    | (intro _ _)
    | (intro _)
    | split
    | dsimp only)

theorem keeps_resendLock {s0 : State} (s : State) (r : BrgReq) (h : Keeps s0 s) :
    Keeps s0 (State.resendLock s r) := by
  unfold State.resendLock
  try dsimp only
  repeat (first
    | with_reducible assumption
    | with_reducible apply keeps_readMap
    | with_reducible apply keeps_set
    | with_reducible apply keeps_sendRequest
    | with_reducible apply Keeps.ite
    | (with_reducible apply Keeps.upd; with_reducible first | assumption | apply keeps_readMap | apply keeps_set | apply keeps_sendRequest | apply Keeps.ite)
    | (refine Keeps.pair (by assumption) ?_)
    | (refine Keeps.pair3 (by assumption) ?_)
    | (intro _ _ _)
    | (intro _ _)
    | (intro _)
    | split
    | dsimp only)

theorem keeps_execLockFreeReceive {s0 : State} (frame : MsgFrame) (s : State) (h : Keeps s0 s) :
    ∃ u, execLockFreeReceive frame s = finish u ∧ Keeps s0 u := by
  refine ⟨_, rfl, ?_⟩
  try dsimp only
  repeat (first
    | with_reducible assumption
    | with_reducible apply keeps_takeRequest
    | with_reducible apply keeps_resendLock
    | with_reducible apply Keeps.ite
    | (with_reducible apply Keeps.upd; with_reducible first | assumption | apply keeps_takeRequest | apply keeps_resendLock | apply Keeps.ite)
    | (refine Keeps.pair (by assumption) ?_)
    | (refine Keeps.pair3 (by assumption) ?_)
    | (intro _ _ _)
    | (intro _ _)
    | (intro _)
    | split
    | dsimp only)

theorem keeps_execLockRetryTimer {s0 : State} (who : ℕ) (window : ℕ) (bseq : ℕ) (s : State) (h : Keeps s0 s) :
    ∃ u, execLockRetryTimer who window bseq s = finish u ∧ Keeps s0 u := by
  refine ⟨_, rfl, ?_⟩
  try dsimp only
  repeat (first
    | with_reducible assumption
    | with_reducible apply keeps_resendLock
    | with_reducible apply Keeps.ite
    | (with_reducible apply Keeps.upd; with_reducible first | assumption | apply keeps_resendLock | apply Keeps.ite)
    | (refine Keeps.pair (by assumption) ?_)
    | (refine Keeps.pair3 (by assumption) ?_)
    | (intro _ _ _)
    | (intro _ _)
    | (intro _)
    | split
    | dsimp only)

theorem keeps_sidebandData {s0 : State} (s : State) (f : MsgFrame) (h : Keeps s0 s) :
    Keeps s0 (State.sidebandData s f) := by
  unfold State.sidebandData
  try dsimp only
  repeat (first
    | with_reducible assumption
    | with_reducible apply keeps_load
    | with_reducible apply Keeps.ite
    | (with_reducible apply Keeps.upd; with_reducible first | assumption | apply keeps_load | apply Keeps.ite)
    | (refine Keeps.pair (by assumption) ?_)
    | (refine Keeps.pair3 (by assumption) ?_)
    | (intro _ _ _)
    | (intro _ _)
    | (intro _)
    | split
    | dsimp only)

theorem keeps_execSbDataReceive {s0 : State} (frame : MsgFrame) (s : State) (h : Keeps s0 s) :
    ∃ u, execSbDataReceive frame s = finish u ∧ Keeps s0 u := by
  refine ⟨_, rfl, ?_⟩
  try dsimp only
  repeat (first
    | with_reducible assumption
    | with_reducible apply keeps_takeRequest
    | with_reducible apply keeps_sidebandData
    | with_reducible apply Keeps.ite
    | (with_reducible apply Keeps.upd; with_reducible first | assumption | apply keeps_takeRequest | apply keeps_sidebandData | apply Keeps.ite)
    | (refine Keeps.pair (by assumption) ?_)
    | (refine Keeps.pair3 (by assumption) ?_)
    | (intro _ _ _)
    | (intro _ _)
    | (intro _)
    | split
    | dsimp only)

theorem keeps_faultNotice {s0 : State} (s : State) (f : MsgFrame) (h : Keeps s0 s) :
    Keeps s0 (State.faultNotice s f) := by
  unfold State.faultNotice
  try dsimp only
  repeat (first
    | with_reducible assumption
    | with_reducible apply keeps_brgTake
    | with_reducible apply keeps_endLockOf
    | with_reducible apply keeps_postedFault
    | with_reducible apply Keeps.ite
    | (with_reducible apply Keeps.upd; with_reducible first | assumption | apply keeps_brgTake | apply keeps_endLockOf | apply keeps_postedFault | apply Keeps.ite)
    | (refine Keeps.pair (by assumption) ?_)
    | (refine Keeps.pair3 (by assumption) ?_)
    | (intro _ _ _)
    | (intro _ _)
    | (intro _)
    | split
    | dsimp only)

theorem keeps_execFaultNoticeReceive {s0 : State} (frame : MsgFrame) (s : State) (h : Keeps s0 s) :
    ∃ u, execFaultNoticeReceive frame s = finish u ∧ Keeps s0 u := by
  refine ⟨_, rfl, ?_⟩
  try dsimp only
  repeat (first
    | with_reducible assumption
    | with_reducible apply keeps_faultNotice
    | with_reducible apply Keeps.ite
    | (with_reducible apply Keeps.upd; with_reducible first | assumption | apply keeps_faultNotice | apply Keeps.ite)
    | (refine Keeps.pair (by assumption) ?_)
    | (refine Keeps.pair3 (by assumption) ?_)
    | (intro _ _ _)
    | (intro _ _)
    | (intro _)
    | split
    | dsimp only)

theorem keeps_skipGap {s0 : State} (s : State) (origin : ℕ) (win : ℕ) (h : Keeps s0 s) :
    Keeps s0 (State.skipGap s origin win) := by
  unfold State.skipGap
  try dsimp only
  repeat (first
    | with_reducible assumption
    | with_reducible apply keeps_brgMap
    | with_reducible apply keeps_releaseHeld
    | with_reducible apply Keeps.ite
    | (with_reducible apply Keeps.foldl; intro _ _ _)
    | (with_reducible apply Keeps.upd; with_reducible first | assumption | apply keeps_brgMap | apply keeps_releaseHeld | apply Keeps.ite | (apply Keeps.foldl; intro _ _ _))
    | (refine Keeps.pair (by assumption) ?_)
    | (refine Keeps.pair3 (by assumption) ?_)
    | (intro _ _ _)
    | (intro _ _)
    | (intro _)
    | split
    | dsimp only)

theorem keeps_execBseqGapExpiry {s0 : State} (origin : ℕ) (window : ℕ) (s : State) (h : Keeps s0 s) :
    ∃ u, execBseqGapExpiry origin window s = finish u ∧ Keeps s0 u := by
  refine ⟨_, rfl, ?_⟩
  try dsimp only
  repeat (first
    | with_reducible assumption
    | with_reducible apply keeps_skipGap
    | with_reducible apply Keeps.ite
    | (with_reducible apply Keeps.upd; with_reducible first | assumption | apply keeps_skipGap | apply Keeps.ite)
    | (refine Keeps.pair (by assumption) ?_)
    | (refine Keeps.pair3 (by assumption) ?_)
    | (intro _ _ _)
    | (intro _ _)
    | (intro _)
    | split
    | dsimp only)

theorem keeps_execOrderStateLapse {s0 : State} (origin : ℕ) (window : ℕ) (s : State) (h : Keeps s0 s) :
    ∃ u, execOrderStateLapse origin window s = finish u ∧ Keeps s0 u := by
  refine ⟨_, rfl, ?_⟩
  try dsimp only
  repeat (first
    | with_reducible assumption
    | with_reducible apply keeps_brgMap
    | with_reducible apply Keeps.ite
    | (with_reducible apply Keeps.upd; with_reducible first | assumption | apply keeps_brgMap | apply Keeps.ite)
    | (refine Keeps.pair (by assumption) ?_)
    | (refine Keeps.pair3 (by assumption) ?_)
    | (intro _ _ _)
    | (intro _ _)
    | (intro _)
    | split
    | dsimp only)

theorem keeps_responseTimeout {s0 : State} (s : State) (who : ℕ) (win : ℕ) (bseq : ℕ) (h : Keeps s0 s) :
    Keeps s0 (State.responseTimeout s who win bseq) := by
  unfold State.responseTimeout
  try dsimp only
  repeat (first
    | with_reducible assumption
    | with_reducible apply keeps_finishRequest
    | with_reducible apply keeps_set
    | with_reducible apply keeps_bump
    | with_reducible apply Keeps.ite
    | (with_reducible apply Keeps.upd; with_reducible first | assumption | apply keeps_finishRequest | apply keeps_set | apply keeps_bump | apply Keeps.ite)
    | (refine Keeps.pair (by assumption) ?_)
    | (refine Keeps.pair3 (by assumption) ?_)
    | (intro _ _ _)
    | (intro _ _)
    | (intro _)
    | split
    | dsimp only)

theorem keeps_execResponseTimeout {s0 : State} (who : ℕ) (window : ℕ) (bseq : ℕ) (s : State) (h : Keeps s0 s) :
    ∃ u, execResponseTimeout who window bseq s = finish u ∧ Keeps s0 u := by
  refine ⟨_, rfl, ?_⟩
  try dsimp only
  repeat (first
    | with_reducible assumption
    | with_reducible apply keeps_responseTimeout
    | with_reducible apply Keeps.ite
    | (with_reducible apply Keeps.upd; with_reducible first | assumption | apply keeps_responseTimeout | apply Keeps.ite)
    | (refine Keeps.pair (by assumption) ?_)
    | (refine Keeps.pair3 (by assumption) ?_)
    | (intro _ _ _)
    | (intro _ _)
    | (intro _)
    | split
    | dsimp only)

theorem keeps_discardRead {s0 : State} (s : State) (p : ℕ) (h : Keeps s0 s) :
    Keeps s0 (State.discardRead s p) := by
  unfold State.discardRead
  try dsimp only
  repeat (first
    | with_reducible assumption
    | with_reducible apply keeps_brgMap
    | with_reducible apply keeps_bump
    | with_reducible apply keeps_set
    | with_reducible apply keeps_record
    | with_reducible apply keeps_sendUnlock
    | with_reducible apply Keeps.ite
    | (with_reducible apply Keeps.upd; with_reducible first | assumption | apply keeps_brgMap | apply keeps_bump | apply keeps_set | apply keeps_record | apply keeps_sendUnlock | apply Keeps.ite)
    | (refine Keeps.pair (by assumption) ?_)
    | (refine Keeps.pair3 (by assumption) ?_)
    | (intro _ _ _)
    | (intro _ _)
    | (intro _)
    | split
    | dsimp only)

theorem keeps_execReadDiscardTimeout {s0 : State} (port : ℕ) (s : State) (h : Keeps s0 s) :
    ∃ u, execReadDiscardTimeout port s = finish u ∧ Keeps s0 u := by
  refine ⟨_, rfl, ?_⟩
  try dsimp only
  repeat (first
    | with_reducible assumption
    | with_reducible apply keeps_discardRead
    | with_reducible apply Keeps.ite
    | (with_reducible apply Keeps.upd; with_reducible first | assumption | apply keeps_discardRead | apply Keeps.ite)
    | (refine Keeps.pair (by assumption) ?_)
    | (refine Keeps.pair3 (by assumption) ?_)
    | (intro _ _ _)
    | (intro _ _)
    | (intro _)
    | split
    | dsimp only)

theorem keeps_lockExpires {s0 : State} (s : State) (h : Keeps s0 s) :
    Keeps s0 (State.lockExpires s) := by
  unfold State.lockExpires
  try dsimp only
  repeat (first
    | with_reducible assumption
    | with_reducible apply keeps_set
    | with_reducible apply keeps_bump
    | with_reducible apply keeps_unlockTarget
    | with_reducible apply keeps_sendNotice
    | with_reducible apply Keeps.ite
    | (with_reducible apply Keeps.upd; with_reducible first | assumption | apply keeps_set | apply keeps_bump | apply keeps_unlockTarget | apply keeps_sendNotice | apply Keeps.ite)
    | (refine Keeps.pair (by assumption) ?_)
    | (refine Keeps.pair3 (by assumption) ?_)
    | (intro _ _ _)
    | (intro _ _)
    | (intro _)
    | split
    | dsimp only)

theorem keeps_execTargetLockTimeout {s0 : State} (s : State) (h : Keeps s0 s) :
    ∃ u, execTargetLockTimeout s = finish u ∧ Keeps s0 u := by
  refine ⟨_, rfl, ?_⟩
  try dsimp only
  repeat (first
    | with_reducible assumption
    | with_reducible apply keeps_lockExpires
    | with_reducible apply Keeps.ite
    | (with_reducible apply Keeps.upd; with_reducible first | assumption | apply keeps_lockExpires | apply Keeps.ite)
    | (refine Keeps.pair (by assumption) ?_)
    | (refine Keeps.pair3 (by assumption) ?_)
    | (intro _ _ _)
    | (intro _ _)
    | (intro _)
    | split
    | dsimp only)

theorem keeps_enableWindow {s0 : State} (s : State) (w : ℕ) (h : Keeps s0 s) :
    Keeps s0 (State.enableWindow s w) := by
  unfold State.enableWindow
  try dsimp only
  repeat (first
    | with_reducible assumption
    | with_reducible apply keeps_set
    | with_reducible apply keeps_putWin
    | with_reducible apply keeps_resolveWindow
    | with_reducible apply Keeps.ite
    | (with_reducible apply Keeps.upd; with_reducible first | assumption | apply keeps_set | apply keeps_putWin | apply keeps_resolveWindow | apply Keeps.ite)
    | (refine Keeps.pair (by assumption) ?_)
    | (refine Keeps.pair3 (by assumption) ?_)
    | (intro _ _ _)
    | (intro _ _)
    | (intro _)
    | split
    | dsimp only)

theorem keeps_cmdWinEnable {s0 : State} (a : ℕ) (t : State) (h : Keeps s0 t) :
    Keeps s0 ((cmdWinEnable ).run a t) := by
  unfold cmdWinEnable
  try dsimp only
  repeat (first
    | with_reducible assumption
    | with_reducible apply keeps_enableWindow
    | with_reducible apply Keeps.ite
    | (with_reducible apply Keeps.upd; with_reducible first | assumption | apply keeps_enableWindow | apply Keeps.ite)
    | (refine Keeps.pair (by assumption) ?_)
    | (refine Keeps.pair3 (by assumption) ?_)
    | (intro _ _ _)
    | (intro _ _)
    | (intro _)
    | split
    | dsimp only)

theorem keeps_execWinEnable {s0 : State} (path : Path) (arg : ℕ) (s : State) (h : Keeps s0 s) :
    ∃ u, execWinEnable path arg s = finish u ∧ Keeps s0 u := by
  refine ⟨_, rfl, ?_⟩
  try dsimp only
  repeat (first
    | with_reducible assumption
    | with_reducible apply keeps_command
    | with_reducible apply keeps_cmdWinEnable
    | with_reducible apply Keeps.ite
    | (with_reducible apply Keeps.upd; with_reducible first | assumption | apply keeps_command | apply keeps_cmdWinEnable | apply Keeps.ite)
    | (refine Keeps.pair (by assumption) ?_)
    | (refine Keeps.pair3 (by assumption) ?_)
    | (intro _ _ _)
    | (intro _ _)
    | (intro _)
    | split
    | dsimp only)

theorem keeps_cmdWinDisable {s0 : State} (a : ℕ) (t : State) (h : Keeps s0 t) :
    Keeps s0 ((cmdWinDisable ).run a t) := by
  unfold cmdWinDisable
  try dsimp only
  repeat (first
    | with_reducible assumption
    | with_reducible apply keeps_closeRequests
    | with_reducible apply keeps_putWin
    | with_reducible apply Keeps.ite
    | (with_reducible apply Keeps.upd; with_reducible first | assumption | apply keeps_closeRequests | apply keeps_putWin | apply Keeps.ite)
    | (refine Keeps.pair (by assumption) ?_)
    | (refine Keeps.pair3 (by assumption) ?_)
    | (intro _ _ _)
    | (intro _ _)
    | (intro _)
    | split
    | dsimp only)

theorem keeps_execWinDisable {s0 : State} (path : Path) (arg : ℕ) (s : State) (h : Keeps s0 s) :
    ∃ u, execWinDisable path arg s = finish u ∧ Keeps s0 u := by
  refine ⟨_, rfl, ?_⟩
  try dsimp only
  repeat (first
    | with_reducible assumption
    | with_reducible apply keeps_command
    | with_reducible apply keeps_cmdWinDisable
    | with_reducible apply Keeps.ite
    | (with_reducible apply Keeps.upd; with_reducible first | assumption | apply keeps_command | apply keeps_cmdWinDisable | apply Keeps.ite)
    | (refine Keeps.pair (by assumption) ?_)
    | (refine Keeps.pair3 (by assumption) ?_)
    | (intro _ _ _)
    | (intro _ _)
    | (intro _)
    | split
    | dsimp only)

end Sys2Proof.Machine
end

