-- ==== Sys2Proof/Laws/KeepsPairOps.lean ====
section
/-! SUPPORT. The operations of `Sys2Proof/Machine/PairOps.lean` keep what `Keeps` names. -/

set_option linter.unusedTactic false
set_option linter.unreachableTactic false

namespace Sys2Proof.Machine

theorem keeps_pairMap {s0 : State} (s : State) (f : PairState → PairState) (h : Keeps s0 s) :
    Keeps s0 (State.pairMap s f) := by
  unfold State.pairMap
  try dsimp only
  repeat (first
    | with_reducible assumption
    | with_reducible apply Keeps.ite
    | (with_reducible apply Keeps.upd; with_reducible first | assumption | apply Keeps.ite)
    | (refine Keeps.pair (by assumption) ?_)
    | (refine Keeps.pair3 (by assumption) ?_)
    | (intro _ _ _)
    | (intro _ _)
    | (intro _)
    | split
    | dsimp only)

theorem keeps_formReport {s0 : State} (s : State) (h : Keeps s0 s) :
    Keeps s0 (State.formReport s) := by
  unfold State.formReport
  try dsimp only
  repeat (first
    | with_reducible assumption
    | with_reducible apply keeps_draw
    | with_reducible apply keeps_pairMap
    | with_reducible apply Keeps.ite
    | (with_reducible apply Keeps.upd; with_reducible first | assumption | apply keeps_draw | apply keeps_pairMap | apply Keeps.ite)
    | (refine Keeps.pair (by assumption) ?_)
    | (refine Keeps.pair3 (by assumption) ?_)
    | (intro _ _ _)
    | (intro _ _)
    | (intro _)
    | split
    | dsimp only)

theorem keeps_sendUpdate {s0 : State} (s : State) (h : Keeps s0 s) :
    Keeps s0 (State.sendUpdate s) := by
  unfold State.sendUpdate
  try dsimp only
  repeat (first
    | with_reducible assumption
    | with_reducible apply keeps_cycMap
    | with_reducible apply keeps_emit
    | with_reducible apply Keeps.ite
    | (with_reducible apply Keeps.upd; with_reducible first | assumption | apply keeps_cycMap | apply keeps_emit | apply Keeps.ite)
    | (refine Keeps.pair (by assumption) ?_)
    | (refine Keeps.pair3 (by assumption) ?_)
    | (intro _ _ _)
    | (intro _ _)
    | (intro _)
    | split
    | dsimp only)

theorem keeps_pairEpoch {s0 : State} (s : State) (h : Keeps s0 s) :
    Keeps s0 (State.pairEpoch s) := by
  unfold State.pairEpoch
  try dsimp only
  repeat (first
    | with_reducible assumption
    | with_reducible apply keeps_formReport
    | with_reducible apply keeps_sendUpdate
    | with_reducible apply Keeps.ite
    | (with_reducible apply Keeps.upd; with_reducible first | assumption | apply keeps_formReport | apply keeps_sendUpdate | apply Keeps.ite)
    | (refine Keeps.pair (by assumption) ?_)
    | (refine Keeps.pair3 (by assumption) ?_)
    | (intro _ _ _)
    | (intro _ _)
    | (intro _)
    | split
    | dsimp only)

theorem keeps_setSync {s0 : State} (s : State) (st : ℕ) (h : Keeps s0 s) :
    Keeps s0 (State.setSync s st) := by
  unfold State.setSync
  try dsimp only
  repeat (first
    | with_reducible assumption
    | with_reducible apply keeps_set
    | with_reducible apply keeps_record
    | with_reducible apply keeps_emit
    | with_reducible apply keeps_bump
    | with_reducible apply Keeps.ite
    | (with_reducible apply Keeps.upd; with_reducible first | assumption | apply keeps_set | apply keeps_record | apply keeps_emit | apply keeps_bump | apply Keeps.ite)
    | (refine Keeps.pair (by assumption) ?_)
    | (refine Keeps.pair3 (by assumption) ?_)
    | (intro _ _ _)
    | (intro _ _)
    | (intro _)
    | split
    | dsimp only)

theorem keeps_pairOutOfStep {s0 : State} (s : State) (h : Keeps s0 s) :
    Keeps s0 (State.pairOutOfStep s) := by
  unfold State.pairOutOfStep
  try dsimp only
  repeat (first
    | with_reducible assumption
    | with_reducible apply keeps_setSync
    | with_reducible apply Keeps.ite
    | (with_reducible apply Keeps.upd; with_reducible first | assumption | apply keeps_setSync | apply Keeps.ite)
    | (refine Keeps.pair (by assumption) ?_)
    | (refine Keeps.pair3 (by assumption) ?_)
    | (intro _ _ _)
    | (intro _ _)
    | (intro _)
    | split
    | dsimp only)

theorem keeps_standbyStart {s0 : State} (s : State) (h : Keeps s0 s) :
    Keeps s0 (State.standbyStart s) := by
  unfold State.standbyStart
  try dsimp only
  repeat (first
    | with_reducible assumption
    | with_reducible apply keeps_pairOutOfStep
    | with_reducible apply Keeps.ite
    | (with_reducible apply Keeps.upd; with_reducible first | assumption | apply keeps_pairOutOfStep | apply Keeps.ite)
    | (refine Keeps.pair (by assumption) ?_)
    | (refine Keeps.pair3 (by assumption) ?_)
    | (intro _ _ _)
    | (intro _ _)
    | (intro _)
    | split
    | dsimp only)

theorem keeps_testStep {s0 : State} (s : State) (h : Keeps s0 s) :
    Keeps s0 (State.testStep s) := by
  unfold State.testStep
  try dsimp only
  repeat (first
    | with_reducible assumption
    | with_reducible apply keeps_setSync
    | with_reducible apply Keeps.ite
    | (with_reducible apply Keeps.upd; with_reducible first | assumption | apply keeps_setSync | apply Keeps.ite)
    | (refine Keeps.pair (by assumption) ?_)
    | (refine Keeps.pair3 (by assumption) ?_)
    | (intro _ _ _)
    | (intro _ _)
    | (intro _)
    | split
    | dsimp only)

end Sys2Proof.Machine
end

