-- ==== Sys2Proof/Laws/KeepsEpoch.lean ====
section
/-! SUPPORT. The operations of `Sys2Proof/Machine/Epoch.lean` keep what `Keeps` names. -/

set_option linter.unusedTactic false
set_option linter.unreachableTactic false

namespace Sys2Proof.Machine

theorem keeps_fillBucket {s0 : State} (s : State) (f : ℕ) (h : Keeps s0 s) :
    Keeps s0 (State.fillBucket s f) := by
  unfold State.fillBucket
  try dsimp only
  repeat (first
    | with_reducible assumption
    | with_reducible apply keeps_set
    | with_reducible apply Keeps.ite
    | (with_reducible apply Keeps.upd; with_reducible first | assumption | apply keeps_set | apply Keeps.ite)
    | (refine Keeps.pair (by assumption) ?_)
    | (refine Keeps.pair3 (by assumption) ?_)
    | (intro _ _ _)
    | (intro _ _)
    | (intro _)
    | split
    | dsimp only)

theorem keeps_gpioPeriodic {s0 : State} (s : State) (h : Keeps s0 s) :
    Keeps s0 (State.gpioPeriodic s) := by
  unfold State.gpioPeriodic
  try dsimp only
  repeat (first
    | with_reducible assumption
    | with_reducible apply keeps_offer
    | with_reducible apply Keeps.ite
    | (with_reducible apply Keeps.upd; with_reducible first | assumption | apply keeps_offer | apply Keeps.ite)
    | (refine Keeps.pair (by assumption) ?_)
    | (refine Keeps.pair3 (by assumption) ?_)
    | (intro _ _ _)
    | (intro _ _)
    | (intro _)
    | split
    | dsimp only)

theorem keeps_countEpoch {s0 : State} (s : State) (h : Keeps s0 s) :
    Keeps s0 (State.countEpoch s) := by
  unfold State.countEpoch
  try dsimp only
  repeat (first
    | with_reducible assumption
    | with_reducible apply keeps_policeEpoch
    | with_reducible apply keeps_freshEpoch
    | with_reducible apply keeps_msgConfigEpoch
    | with_reducible apply keeps_budgetCheck
    | with_reducible apply keeps_sidebandEpoch
    | with_reducible apply keeps_fillBucket
    | with_reducible apply keeps_sleepWindowEnd
    | with_reducible apply keeps_sleepWindowOpen
    | with_reducible apply keeps_pairEpoch
    | with_reducible apply keeps_switchPoint
    | with_reducible apply keeps_gpioPeriodic
    | with_reducible apply Keeps.ite
    | (with_reducible apply Keeps.foldl; intro _ _ _)
    | (with_reducible apply Keeps.upd; with_reducible first | assumption | apply keeps_policeEpoch | apply keeps_freshEpoch | apply keeps_msgConfigEpoch | apply keeps_budgetCheck | apply keeps_sidebandEpoch | apply keeps_fillBucket | apply keeps_sleepWindowEnd | apply keeps_sleepWindowOpen | apply keeps_pairEpoch | apply keeps_switchPoint | apply keeps_gpioPeriodic | apply Keeps.ite | (apply Keeps.foldl; intro _ _ _))
    | (refine Keeps.pair (by assumption) ?_)
    | (refine Keeps.pair3 (by assumption) ?_)
    | (intro _ _ _)
    | (intro _ _)
    | (intro _)
    | split
    | dsimp only)

theorem keeps_noticesDue {s0 : State} (s : State) (h : Keeps s0 s) :
    Keeps s0 (State.noticesDue s) := by
  unfold State.noticesDue
  try dsimp only
  repeat (first
    | with_reducible assumption
    | with_reducible apply keeps_portMap
    | with_reducible apply Keeps.ite
    | (with_reducible apply Keeps.foldl; intro _ _ _)
    | (with_reducible apply Keeps.upd; with_reducible first | assumption | apply keeps_portMap | apply Keeps.ite | (apply Keeps.foldl; intro _ _ _))
    | (refine Keeps.pair (by assumption) ?_)
    | (refine Keeps.pair3 (by assumption) ?_)
    | (intro _ _ _)
    | (intro _ _)
    | (intro _)
    | split
    | dsimp only)

theorem keeps_declEpoch {s0 : State} (s : State) (h : Keeps s0 s) :
    Keeps s0 (State.declEpoch s) := by
  unfold State.declEpoch
  try dsimp only
  repeat (first
    | with_reducible assumption
    | with_reducible apply keeps_sendDecl
    | with_reducible apply Keeps.ite
    | (with_reducible apply Keeps.upd; with_reducible first | assumption | apply keeps_sendDecl | apply Keeps.ite)
    | (refine Keeps.pair (by assumption) ?_)
    | (refine Keeps.pair3 (by assumption) ?_)
    | (intro _ _ _)
    | (intro _ _)
    | (intro _)
    | split
    | dsimp only)

theorem keeps_epoch {s0 : State} (s : State) (receiving : ℕ) (h : Keeps s0 s) :
    Keeps s0 (State.epoch s receiving) := by
  unfold State.epoch
  try dsimp only
  repeat (first
    | with_reducible assumption
    | with_reducible apply keeps_declEpoch
    | with_reducible apply keeps_noticesDue
    | with_reducible apply keeps_countEpoch
    | with_reducible apply keeps_hopEpoch
    | with_reducible apply keeps_timEpoch
    | with_reducible apply keeps_epochPorts
    | with_reducible apply Keeps.ite
    | (with_reducible apply Keeps.upd; with_reducible first | assumption | apply keeps_declEpoch | apply keeps_noticesDue | apply keeps_countEpoch | apply keeps_hopEpoch | apply keeps_timEpoch | apply keeps_epochPorts | apply Keeps.ite)
    | (refine Keeps.pair (by assumption) ?_)
    | (refine Keeps.pair3 (by assumption) ?_)
    | (intro _ _ _)
    | (intro _ _)
    | (intro _)
    | split
    | dsimp only)

theorem keeps_calibrationEpoch {s0 : State} (s : State) (receiving : ℕ) (h : Keeps s0 s) :
    Keeps s0 (State.calibrationEpoch s receiving) := by
  unfold State.calibrationEpoch
  try dsimp only
  repeat (first
    | with_reducible assumption
    | with_reducible apply keeps_epoch
    | with_reducible apply keeps_frameOutcome
    | with_reducible apply keeps_cycMap
    | with_reducible apply Keeps.ite
    | (with_reducible apply Keeps.upd; with_reducible first | assumption | apply keeps_epoch | apply keeps_frameOutcome | apply keeps_cycMap | apply Keeps.ite)
    | (refine Keeps.pair (by assumption) ?_)
    | (refine Keeps.pair3 (by assumption) ?_)
    | (intro _ _ _)
    | (intro _ _)
    | (intro _)
    | split
    | dsimp only)

theorem keeps_execCalibrationEpoch {s0 : State} (receiving : ℕ) (s : State) (h : Keeps s0 s) :
    ∃ u, execCalibrationEpoch receiving s = finish u ∧ Keeps s0 u := by
  refine ⟨_, rfl, ?_⟩
  try dsimp only
  repeat (first
    | with_reducible assumption
    | with_reducible apply keeps_calibrationEpoch
    | with_reducible apply Keeps.ite
    | (with_reducible apply Keeps.upd; with_reducible first | assumption | apply keeps_calibrationEpoch | apply Keeps.ite)
    | (refine Keeps.pair (by assumption) ?_)
    | (refine Keeps.pair3 (by assumption) ?_)
    | (intro _ _ _)
    | (intro _ _)
    | (intro _)
    | split
    | dsimp only)

theorem keeps_execLateLineTimeout {s0 : State} (line : ℕ) (s : State) (h : Keeps s0 s) :
    ∃ u, execLateLineTimeout line s = finish u ∧ Keeps s0 u := by
  refine ⟨_, rfl, ?_⟩
  try dsimp only
  repeat (first
    | with_reducible assumption
    | with_reducible apply keeps_cycMap
    | with_reducible apply Keeps.ite
    | (with_reducible apply Keeps.upd; with_reducible first | assumption | apply keeps_cycMap | apply Keeps.ite)
    | (refine Keeps.pair (by assumption) ?_)
    | (refine Keeps.pair3 (by assumption) ?_)
    | (intro _ _ _)
    | (intro _ _)
    | (intro _)
    | split
    | dsimp only)

theorem keeps_execFreeEpoch {s0 : State} (s : State) (h : Keeps s0 s) :
    ∃ u, execFreeEpoch s = finish u ∧ Keeps s0 u := by
  refine ⟨_, rfl, ?_⟩
  try dsimp only
  repeat (first
    | with_reducible assumption
    | with_reducible apply keeps_epoch
    | with_reducible apply Keeps.ite
    | (with_reducible apply Keeps.upd; with_reducible first | assumption | apply keeps_epoch | apply Keeps.ite)
    | (refine Keeps.pair (by assumption) ?_)
    | (refine Keeps.pair3 (by assumption) ?_)
    | (intro _ _ _)
    | (intro _ _)
    | (intro _)
    | split
    | dsimp only)

end Sys2Proof.Machine
end

