-- ==== Sys2Proof/Laws/KeepsPair.lean ====
section
/-! SUPPORT. The operations of `Sys2Proof/Machine/Pair.lean` keep what `Keeps` names. -/

set_option linter.unusedTactic false
set_option linter.unreachableTactic false

namespace Sys2Proof.Machine

theorem keeps_dropTraffic {s0 : State} (s : State) (h : Keeps s0 s) :
    Keeps s0 (State.dropTraffic s) := by
  unfold State.dropTraffic
  try dsimp only
  repeat (first
    | with_reducible assumption
    | with_reducible apply keeps_msgMap
    | with_reducible apply keeps_endOutLock
    | with_reducible apply keeps_showPosted
    | with_reducible apply keeps_brgMap
    | with_reducible apply Keeps.ite
    | (with_reducible apply Keeps.upd; with_reducible first | assumption | apply keeps_msgMap | apply keeps_endOutLock | apply keeps_showPosted | apply keeps_brgMap | apply Keeps.ite)
    | (refine Keeps.pair (by assumption) ?_)
    | (refine Keeps.pair3 (by assumption) ?_)
    | (intro _ _ _)
    | (intro _ _)
    | (intro _)
    | split
    | dsimp only)

theorem keeps_deselected {s0 : State} (s : State) (h : Keeps s0 s) :
    Keeps s0 (State.deselected s) := by
  unfold State.deselected
  try dsimp only
  repeat (first
    | with_reducible assumption
    | with_reducible apply keeps_pairMap
    | with_reducible apply keeps_dropLine
    | with_reducible apply keeps_set
    | with_reducible apply keeps_enterSafeMode
    | with_reducible apply keeps_dropTraffic
    | with_reducible apply keeps_abortTransitions
    | with_reducible apply keeps_pairOutOfStep
    | with_reducible apply Keeps.ite
    | (with_reducible apply Keeps.upd; with_reducible first | assumption | apply keeps_pairMap | apply keeps_dropLine | apply keeps_set | apply keeps_enterSafeMode | apply keeps_dropTraffic | apply keeps_abortTransitions | apply keeps_pairOutOfStep | apply Keeps.ite)
    | (refine Keeps.pair (by assumption) ?_)
    | (refine Keeps.pair3 (by assumption) ?_)
    | (intro _ _ _)
    | (intro _ _)
    | (intro _)
    | split
    | dsimp only)

theorem keeps_variantB {s0 : State} (s : State) (h : Keeps s0 s) :
    Keeps s0 (State.variantB s) := by
  unfold State.variantB
  try dsimp only
  repeat (first
    | with_reducible assumption
    | with_reducible apply keeps_load
    | with_reducible apply keeps_pairMap
    | with_reducible apply keeps_cycMap
    | with_reducible apply Keeps.ite
    | (with_reducible apply Keeps.upd; with_reducible first | assumption | apply keeps_load | apply keeps_pairMap | apply keeps_cycMap | apply Keeps.ite)
    | (refine Keeps.pair (by assumption) ?_)
    | (refine Keeps.pair3 (by assumption) ?_)
    | (intro _ _ _)
    | (intro _ _)
    | (intro _)
    | split
    | dsimp only)

theorem keeps_selected {s0 : State} (s : State) (h : Keeps s0 s) :
    Keeps s0 (State.selected s) := by
  unfold State.selected
  try dsimp only
  repeat (first
    | with_reducible assumption
    | with_reducible apply keeps_variantB
    | with_reducible apply keeps_pairMap
    | with_reducible apply Keeps.ite
    | (with_reducible apply Keeps.upd; with_reducible first | assumption | apply keeps_variantB | apply keeps_pairMap | apply Keeps.ite)
    | (refine Keeps.pair (by assumption) ?_)
    | (refine Keeps.pair3 (by assumption) ?_)
    | (intro _ _ _)
    | (intro _ _)
    | (intro _)
    | split
    | dsimp only)

theorem keeps_takeRefSw {s0 : State} (s : State) (level : ℕ) (h : Keeps s0 s) :
    Keeps s0 (State.takeRefSw s level) := by
  unfold State.takeRefSw
  try dsimp only
  repeat (first
    | with_reducible assumption
    | with_reducible apply keeps_pairMap
    | with_reducible apply keeps_set
    | with_reducible apply keeps_deselected
    | with_reducible apply keeps_selected
    | with_reducible apply Keeps.ite
    | (with_reducible apply Keeps.upd; with_reducible first | assumption | apply keeps_pairMap | apply keeps_set | apply keeps_deselected | apply keeps_selected | apply Keeps.ite)
    | (refine Keeps.pair (by assumption) ?_)
    | (refine Keeps.pair3 (by assumption) ?_)
    | (intro _ _ _)
    | (intro _ _)
    | (intro _)
    | split
    | dsimp only)

theorem keeps_execRefSwTake {s0 : State} (level : ℕ) (s : State) (h : Keeps s0 s) :
    ∃ u, execRefSwTake level s = finish u ∧ Keeps s0 u := by
  refine ⟨_, rfl, ?_⟩
  try dsimp only
  repeat (first
    | with_reducible assumption
    | with_reducible apply keeps_takeRefSw
    | with_reducible apply Keeps.ite
    | (with_reducible apply Keeps.upd; with_reducible first | assumption | apply keeps_takeRefSw | apply Keeps.ite)
    | (refine Keeps.pair (by assumption) ?_)
    | (refine Keeps.pair3 (by assumption) ?_)
    | (intro _ _ _)
    | (intro _ _)
    | (intro _)
    | split
    | dsimp only)

theorem keeps_claimToken {s0 : State} (s : State) (h : Keeps s0 s) :
    Keeps s0 (State.claimToken s) := by
  unfold State.claimToken
  try dsimp only
  repeat (first
    | with_reducible assumption
    | with_reducible apply keeps_pairMap
    | with_reducible apply keeps_dropLine
    | with_reducible apply keeps_load
    | with_reducible apply keeps_bump
    | with_reducible apply Keeps.ite
    | (with_reducible apply Keeps.upd; with_reducible first | assumption | apply keeps_pairMap | apply keeps_dropLine | apply keeps_load | apply keeps_bump | apply Keeps.ite)
    | (refine Keeps.pair (by assumption) ?_)
    | (refine Keeps.pair3 (by assumption) ?_)
    | (intro _ _ _)
    | (intro _ _)
    | (intro _)
    | split
    | dsimp only)

theorem keeps_takeOver {s0 : State} (s : State) (h : Keeps s0 s) :
    Keeps s0 (State.takeOver s) := by
  unfold State.takeOver
  try dsimp only
  repeat (first
    | with_reducible assumption
    | with_reducible apply keeps_setMode
    | with_reducible apply keeps_setB
    | with_reducible apply keeps_claimToken
    | with_reducible apply keeps_setTimState
    | with_reducible apply keeps_timMap
    | with_reducible apply Keeps.ite
    | (with_reducible apply Keeps.upd; with_reducible first | assumption | apply keeps_setMode | apply keeps_setB | apply keeps_claimToken | apply keeps_setTimState | apply keeps_timMap | apply Keeps.ite)
    | (refine Keeps.pair (by assumption) ?_)
    | (refine Keeps.pair3 (by assumption) ?_)
    | (intro _ _ _)
    | (intro _ _)
    | (intro _)
    | split
    | dsimp only)

theorem keeps_execInterlockClaim {s0 : State} (s : State) (h : Keeps s0 s) :
    ∃ u, execInterlockClaim s = finish u ∧ Keeps s0 u := by
  refine ⟨_, rfl, ?_⟩
  try dsimp only
  repeat (first
    | with_reducible assumption
    | with_reducible apply keeps_takeOver
    | with_reducible apply keeps_claimToken
    | with_reducible apply Keeps.ite
    | (with_reducible apply Keeps.upd; with_reducible first | assumption | apply keeps_takeOver | apply keeps_claimToken | apply Keeps.ite)
    | (refine Keeps.pair (by assumption) ?_)
    | (refine Keeps.pair3 (by assumption) ?_)
    | (intro _ _ _)
    | (intro _ _)
    | (intro _)
    | split
    | dsimp only)

theorem keeps_execInterlockFault {s0 : State} (s : State) (h : Keeps s0 s) :
    ∃ u, execInterlockFault s = finish u ∧ Keeps s0 u := by
  refine ⟨_, rfl, ?_⟩
  try dsimp only
  repeat (first
    | with_reducible assumption
    | with_reducible apply keeps_assertLine
    | with_reducible apply keeps_set
    | with_reducible apply keeps_pairMap
    | with_reducible apply Keeps.ite
    | (with_reducible apply Keeps.upd; with_reducible first | assumption | apply keeps_assertLine | apply keeps_set | apply keeps_pairMap | apply Keeps.ite)
    | (refine Keeps.pair (by assumption) ?_)
    | (refine Keeps.pair3 (by assumption) ?_)
    | (intro _ _ _)
    | (intro _ _)
    | (intro _)
    | split
    | dsimp only)

theorem keeps_safeRanges {s0 : State} (s : State) (h : Keeps s0 s) :
    Keeps s0 (State.safeRanges s) := by
  unfold State.safeRanges
  try dsimp only
  repeat (first
    | with_reducible assumption
    | with_reducible apply keeps_publish
    | with_reducible apply Keeps.ite
    | (with_reducible apply Keeps.foldl; intro _ _ _)
    | (with_reducible apply Keeps.upd; with_reducible first | assumption | apply keeps_publish | apply Keeps.ite | (apply Keeps.foldl; intro _ _ _))
    | (refine Keeps.pair (by assumption) ?_)
    | (refine Keeps.pair3 (by assumption) ?_)
    | (intro _ _ _)
    | (intro _ _)
    | (intro _)
    | split
    | dsimp only)

theorem keeps_deadlineB {s0 : State} (s : State) (h : Keeps s0 s) :
    Keeps s0 (State.deadlineB s) := by
  unfold State.deadlineB
  try dsimp only
  repeat (first
    | with_reducible assumption
    | with_reducible apply keeps_set
    | with_reducible apply keeps_record
    | with_reducible apply keeps_pairMap
    | with_reducible apply keeps_safeRanges
    | with_reducible apply keeps_cycMap
    | with_reducible apply Keeps.ite
    | (with_reducible apply Keeps.upd; with_reducible first | assumption | apply keeps_set | apply keeps_record | apply keeps_pairMap | apply keeps_safeRanges | apply keeps_cycMap | apply Keeps.ite)
    | (refine Keeps.pair (by assumption) ?_)
    | (refine Keeps.pair3 (by assumption) ?_)
    | (intro _ _ _)
    | (intro _ _)
    | (intro _)
    | split
    | dsimp only)

theorem keeps_execVariantBDeadline {s0 : State} (s : State) (h : Keeps s0 s) :
    ∃ u, execVariantBDeadline s = finish u ∧ Keeps s0 u := by
  refine ⟨_, rfl, ?_⟩
  try dsimp only
  repeat (first
    | with_reducible assumption
    | with_reducible apply keeps_deadlineB
    | with_reducible apply Keeps.ite
    | (with_reducible apply Keeps.upd; with_reducible first | assumption | apply keeps_deadlineB | apply Keeps.ite)
    | (refine Keeps.pair (by assumption) ?_)
    | (refine Keeps.pair3 (by assumption) ?_)
    | (intro _ _ _)
    | (intro _ _)
    | (intro _)
    | split
    | dsimp only)

theorem keeps_refereeLost {s0 : State} (s : State) (h : Keeps s0 s) :
    Keeps s0 (State.refereeLost s) := by
  unfold State.refereeLost
  try dsimp only
  repeat (first
    | with_reducible assumption
    | with_reducible apply keeps_assertLine
    | with_reducible apply keeps_load
    | with_reducible apply keeps_pairMap
    | with_reducible apply Keeps.ite
    | (with_reducible apply Keeps.upd; with_reducible first | assumption | apply keeps_assertLine | apply keeps_load | apply keeps_pairMap | apply Keeps.ite)
    | (refine Keeps.pair (by assumption) ?_)
    | (refine Keeps.pair3 (by assumption) ?_)
    | (intro _ _ _)
    | (intro _ _)
    | (intro _)
    | split
    | dsimp only)

theorem keeps_replyReport {s0 : State} (s : State) (h : Keeps s0 s) :
    Keeps s0 (State.replyReport s) := by
  unfold State.replyReport
  try dsimp only
  repeat (first
    | with_reducible assumption
    | with_reducible apply keeps_formReport
    | with_reducible apply keeps_pairMap
    | with_reducible apply keeps_emit
    | with_reducible apply Keeps.ite
    | (with_reducible apply Keeps.upd; with_reducible first | assumption | apply keeps_formReport | apply keeps_pairMap | apply keeps_emit | apply Keeps.ite)
    | (refine Keeps.pair (by assumption) ?_)
    | (refine Keeps.pair3 (by assumption) ?_)
    | (intro _ _ _)
    | (intro _ _)
    | (intro _)
    | split
    | dsimp only)

theorem keeps_takeSync {s0 : State} (s : State) (f : SyncFrame) (h : Keeps s0 s) :
    Keeps s0 (State.takeSync s f) := by
  unfold State.takeSync
  try dsimp only
  repeat (first
    | with_reducible assumption
    | with_reducible apply keeps_pairMap
    | with_reducible apply keeps_replyReport
    | with_reducible apply keeps_dropLine
    | with_reducible apply keeps_load
    | with_reducible apply Keeps.ite
    | (with_reducible apply Keeps.upd; with_reducible first | assumption | apply keeps_pairMap | apply keeps_replyReport | apply keeps_dropLine | apply keeps_load | apply Keeps.ite)
    | (refine Keeps.pair (by assumption) ?_)
    | (refine Keeps.pair3 (by assumption) ?_)
    | (intro _ _ _)
    | (intro _ _)
    | (intro _)
    | split
    | dsimp only)

theorem keeps_missSync {s0 : State} (s : State) (h : Keeps s0 s) :
    Keeps s0 (State.missSync s) := by
  unfold State.missSync
  try dsimp only
  repeat (first
    | with_reducible assumption
    | with_reducible apply keeps_pairMap
    | with_reducible apply keeps_refereeLost
    | with_reducible apply Keeps.ite
    | (with_reducible apply Keeps.upd; with_reducible first | assumption | apply keeps_pairMap | apply keeps_refereeLost | apply Keeps.ite)
    | (refine Keeps.pair (by assumption) ?_)
    | (refine Keeps.pair3 (by assumption) ?_)
    | (intro _ _ _)
    | (intro _ _)
    | (intro _)
    | split
    | dsimp only)

theorem keeps_execSyncReceive {s0 : State} (sync : Option SyncFrame) (s : State) (h : Keeps s0 s) :
    ∃ u, execSyncReceive sync s = finish u ∧ Keeps s0 u := by
  refine ⟨_, rfl, ?_⟩
  try dsimp only
  repeat (first
    | with_reducible assumption
    | with_reducible apply keeps_takeSync
    | with_reducible apply keeps_missSync
    | with_reducible apply Keeps.ite
    | (with_reducible apply Keeps.upd; with_reducible first | assumption | apply keeps_takeSync | apply keeps_missSync | apply Keeps.ite)
    | (refine Keeps.pair (by assumption) ?_)
    | (refine Keeps.pair3 (by assumption) ?_)
    | (intro _ _ _)
    | (intro _ _)
    | (intro _)
    | split
    | dsimp only)

theorem keeps_execRefLost {s0 : State} (s : State) (h : Keeps s0 s) :
    ∃ u, execRefLost s = finish u ∧ Keeps s0 u := by
  refine ⟨_, rfl, ?_⟩
  try dsimp only
  repeat (first
    | with_reducible assumption
    | with_reducible apply keeps_refereeLost
    | with_reducible apply keeps_pairMap
    | with_reducible apply Keeps.ite
    | (with_reducible apply Keeps.upd; with_reducible first | assumption | apply keeps_refereeLost | apply keeps_pairMap | apply Keeps.ite)
    | (refine Keeps.pair (by assumption) ?_)
    | (refine Keeps.pair3 (by assumption) ?_)
    | (intro _ _ _)
    | (intro _ _)
    | (intro _)
    | split
    | dsimp only)

theorem keeps_takeHealth {s0 : State} (s : State) (m : ℕ) (r : ReportIn) (h : Keeps s0 s) :
    Keeps s0 (State.takeHealth s m r) := by
  unfold State.takeHealth
  try dsimp only
  repeat (first
    | with_reducible assumption
    | with_reducible apply keeps_pairMap
    | with_reducible apply keeps_load
    | with_reducible apply keeps_bump
    | with_reducible apply Keeps.ite
    | (with_reducible apply Keeps.upd; with_reducible first | assumption | apply keeps_pairMap | apply keeps_load | apply keeps_bump | apply Keeps.ite)
    | (refine Keeps.pair (by assumption) ?_)
    | (refine Keeps.pair3 (by assumption) ?_)
    | (intro _ _ _)
    | (intro _ _)
    | (intro _)
    | split
    | dsimp only)

theorem keeps_switchTo {s0 : State} (s : State) (m : ℕ) (h : Keeps s0 s) :
    Keeps s0 (State.switchTo s m) := by
  unfold State.switchTo
  try dsimp only
  repeat (first
    | with_reducible assumption
    | with_reducible apply keeps_emit
    | with_reducible apply keeps_bump
    | with_reducible apply keeps_load
    | with_reducible apply keeps_draw
    | with_reducible apply keeps_record
    | with_reducible apply Keeps.ite
    | (with_reducible apply Keeps.upd; with_reducible first | assumption | apply keeps_emit | apply keeps_bump | apply keeps_load | apply keeps_draw | apply keeps_record | apply Keeps.ite)
    | (refine Keeps.pair (by assumption) ?_)
    | (refine Keeps.pair3 (by assumption) ?_)
    | (intro _ _ _)
    | (intro _ _)
    | (intro _)
    | split
    | dsimp only)

theorem keeps_noteCriteria {s0 : State} (s : State) (h : Keeps s0 s) :
    Keeps s0 (State.noteCriteria s) := by
  unfold State.noteCriteria
  try dsimp only
  repeat (first
    | with_reducible assumption
    | with_reducible apply keeps_record
    | with_reducible apply keeps_pairMap
    | with_reducible apply Keeps.ite
    | (with_reducible apply Keeps.upd; with_reducible first | assumption | apply keeps_record | apply keeps_pairMap | apply Keeps.ite)
    | (refine Keeps.pair (by assumption) ?_)
    | (refine Keeps.pair3 (by assumption) ?_)
    | (intro _ _ _)
    | (intro _ _)
    | (intro _)
    | split
    | dsimp only)

theorem keeps_judge {s0 : State} (s : State) (h : Keeps s0 s) :
    Keeps s0 (State.judge s) := by
  unfold State.judge
  try dsimp only
  repeat (first
    | with_reducible assumption
    | with_reducible apply keeps_noteCriteria
    | with_reducible apply keeps_set
    | with_reducible apply keeps_switchTo
    | with_reducible apply Keeps.ite
    | (with_reducible apply Keeps.upd; with_reducible first | assumption | apply keeps_noteCriteria | apply keeps_set | apply keeps_switchTo | apply Keeps.ite)
    | (refine Keeps.pair (by assumption) ?_)
    | (refine Keeps.pair3 (by assumption) ?_)
    | (intro _ _ _)
    | (intro _ _)
    | (intro _)
    | split
    | dsimp only)

theorem keeps_execRefereeEvaluate {s0 : State} (report0 : ReportIn) (report1 : ReportIn) (s : State) (h : Keeps s0 s) :
    ∃ u, execRefereeEvaluate report0 report1 s = finish u ∧ Keeps s0 u := by
  refine ⟨_, rfl, ?_⟩
  try dsimp only
  repeat (first
    | with_reducible assumption
    | with_reducible apply keeps_judge
    | with_reducible apply keeps_takeHealth
    | with_reducible apply Keeps.ite
    | (with_reducible apply Keeps.upd; with_reducible first | assumption | apply keeps_judge | apply keeps_takeHealth | apply Keeps.ite)
    | (refine Keeps.pair (by assumption) ?_)
    | (refine Keeps.pair3 (by assumption) ?_)
    | (intro _ _ _)
    | (intro _ _)
    | (intro _)
    | split
    | dsimp only)

theorem keeps_sendSync {s0 : State} (s : State) (h : Keeps s0 s) :
    Keeps s0 (State.sendSync s) := by
  unfold State.sendSync
  try dsimp only
  repeat (first
    | with_reducible assumption
    | with_reducible apply keeps_pairMap
    | with_reducible apply keeps_emit
    | with_reducible apply Keeps.ite
    | (with_reducible apply Keeps.upd; with_reducible first | assumption | apply keeps_pairMap | apply keeps_emit | apply Keeps.ite)
    | (refine Keeps.pair (by assumption) ?_)
    | (refine Keeps.pair3 (by assumption) ?_)
    | (intro _ _ _)
    | (intro _ _)
    | (intro _)
    | split
    | dsimp only)

theorem keeps_execRefereeSyncSend {s0 : State} (s : State) (h : Keeps s0 s) :
    ∃ u, execRefereeSyncSend s = finish u ∧ Keeps s0 u := by
  refine ⟨_, rfl, ?_⟩
  try dsimp only
  repeat (first
    | with_reducible assumption
    | with_reducible apply keeps_sendSync
    | with_reducible apply Keeps.ite
    | (with_reducible apply Keeps.upd; with_reducible first | assumption | apply keeps_sendSync | apply Keeps.ite)
    | (refine Keeps.pair (by assumption) ?_)
    | (refine Keeps.pair3 (by assumption) ?_)
    | (intro _ _ _)
    | (intro _ _)
    | (intro _)
    | split
    | dsimp only)

theorem keeps_aliveStops {s0 : State} (s : State) (m : ℕ) (h : Keeps s0 s) :
    Keeps s0 (State.aliveStops s m) := by
  unfold State.aliveStops
  try dsimp only
  repeat (first
    | with_reducible assumption
    | with_reducible apply keeps_set
    | with_reducible apply keeps_judge
    | with_reducible apply keeps_pairMap
    | with_reducible apply Keeps.ite
    | (with_reducible apply Keeps.upd; with_reducible first | assumption | apply keeps_set | apply keeps_judge | apply keeps_pairMap | apply Keeps.ite)
    | (refine Keeps.pair (by assumption) ?_)
    | (refine Keeps.pair3 (by assumption) ?_)
    | (intro _ _ _)
    | (intro _ _)
    | (intro _)
    | split
    | dsimp only)

theorem keeps_execAliveWatchTimeout {s0 : State} (member : ℕ) (s : State) (h : Keeps s0 s) :
    ∃ u, execAliveWatchTimeout member s = finish u ∧ Keeps s0 u := by
  refine ⟨_, rfl, ?_⟩
  try dsimp only
  repeat (first
    | with_reducible assumption
    | with_reducible apply keeps_aliveStops
    | with_reducible apply Keeps.ite
    | (with_reducible apply Keeps.upd; with_reducible first | assumption | apply keeps_aliveStops | apply Keeps.ite)
    | (refine Keeps.pair (by assumption) ?_)
    | (refine Keeps.pair3 (by assumption) ?_)
    | (intro _ _ _)
    | (intro _ _)
    | (intro _)
    | split
    | dsimp only)

theorem keeps_execRefereeAdoptEnd {s0 : State} (report0 : ReportIn) (report1 : ReportIn) (s : State) (h : Keeps s0 s) :
    ∃ u, execRefereeAdoptEnd report0 report1 s = finish u ∧ Keeps s0 u := by
  refine ⟨_, rfl, ?_⟩
  try dsimp only
  repeat (first
    | with_reducible assumption
    | with_reducible apply keeps_takeHealth
    | with_reducible apply keeps_record
    | with_reducible apply keeps_emit
    | with_reducible apply keeps_load
    | with_reducible apply Keeps.ite
    | (with_reducible apply Keeps.upd; with_reducible first | assumption | apply keeps_takeHealth | apply keeps_record | apply keeps_emit | apply keeps_load | apply Keeps.ite)
    | (refine Keeps.pair (by assumption) ?_)
    | (refine Keeps.pair3 (by assumption) ?_)
    | (intro _ _ _)
    | (intro _ _)
    | (intro _)
    | split
    | dsimp only)

theorem keeps_cmdSelect {s0 : State} (a : ℕ) (t : State) (h : Keeps s0 t) :
    Keeps s0 ((cmdSelect ).run a t) := by
  unfold cmdSelect
  try dsimp only
  repeat (first
    | with_reducible assumption
    | with_reducible apply keeps_switchTo
    | with_reducible apply Keeps.ite
    | (with_reducible apply Keeps.upd; with_reducible first | assumption | apply keeps_switchTo | apply Keeps.ite)
    | (refine Keeps.pair (by assumption) ?_)
    | (refine Keeps.pair3 (by assumption) ?_)
    | (intro _ _ _)
    | (intro _ _)
    | (intro _)
    | split
    | dsimp only)

theorem keeps_execSelect {s0 : State} (path : Path) (arg : ℕ) (s : State) (h : Keeps s0 s) :
    ∃ u, execSelect path arg s = finish u ∧ Keeps s0 u := by
  refine ⟨_, rfl, ?_⟩
  try dsimp only
  repeat (first
    | with_reducible assumption
    | with_reducible apply keeps_command
    | with_reducible apply keeps_cmdSelect
    | with_reducible apply Keeps.ite
    | (with_reducible apply Keeps.upd; with_reducible first | assumption | apply keeps_command | apply keeps_cmdSelect | apply Keeps.ite)
    | (refine Keeps.pair (by assumption) ?_)
    | (refine Keeps.pair3 (by assumption) ?_)
    | (intro _ _ _)
    | (intro _ _)
    | (intro _)
    | split
    | dsimp only)

theorem keeps_cmdResync {s0 : State} (a : ℕ) (t : State) (h : Keeps s0 t) :
    Keeps s0 ((cmdResync ).run a t) := by
  unfold cmdResync
  try dsimp only
  repeat (first
    | with_reducible assumption
    | with_reducible apply keeps_setSync
    | with_reducible apply Keeps.ite
    | (with_reducible apply Keeps.upd; with_reducible first | assumption | apply keeps_setSync | apply Keeps.ite)
    | (refine Keeps.pair (by assumption) ?_)
    | (refine Keeps.pair3 (by assumption) ?_)
    | (intro _ _ _)
    | (intro _ _)
    | (intro _)
    | split
    | dsimp only)

theorem keeps_execResync {s0 : State} (path : Path) (arg : ℕ) (s : State) (h : Keeps s0 s) :
    ∃ u, execResync path arg s = finish u ∧ Keeps s0 u := by
  refine ⟨_, rfl, ?_⟩
  try dsimp only
  repeat (first
    | with_reducible assumption
    | with_reducible apply keeps_command
    | with_reducible apply keeps_cmdResync
    | with_reducible apply Keeps.ite
    | (with_reducible apply Keeps.upd; with_reducible first | assumption | apply keeps_command | apply keeps_cmdResync | apply Keeps.ite)
    | (refine Keeps.pair (by assumption) ?_)
    | (refine Keeps.pair3 (by assumption) ?_)
    | (intro _ _ _)
    | (intro _ _)
    | (intro _)
    | split
    | dsimp only)

theorem keeps_pairLinkLost {s0 : State} (s : State) (h : Keeps s0 s) :
    Keeps s0 (State.pairLinkLost s) := by
  unfold State.pairLinkLost
  try dsimp only
  repeat (first
    | with_reducible assumption
    | with_reducible apply keeps_assertLine
    | with_reducible apply keeps_bump
    | with_reducible apply keeps_set
    | with_reducible apply keeps_pairOutOfStep
    | with_reducible apply Keeps.ite
    | (with_reducible apply Keeps.upd; with_reducible first | assumption | apply keeps_assertLine | apply keeps_bump | apply keeps_set | apply keeps_pairOutOfStep | apply Keeps.ite)
    | (refine Keeps.pair (by assumption) ?_)
    | (refine Keeps.pair3 (by assumption) ?_)
    | (intro _ _ _)
    | (intro _ _)
    | (intro _)
    | split
    | dsimp only)

theorem keeps_execPairLinkDown {s0 : State} (s : State) (h : Keeps s0 s) :
    ∃ u, execPairLinkDown s = finish u ∧ Keeps s0 u := by
  refine ⟨_, rfl, ?_⟩
  try dsimp only
  repeat (first
    | with_reducible assumption
    | with_reducible apply keeps_pairLinkLost
    | with_reducible apply Keeps.ite
    | (with_reducible apply Keeps.upd; with_reducible first | assumption | apply keeps_pairLinkLost | apply Keeps.ite)
    | (refine Keeps.pair (by assumption) ?_)
    | (refine Keeps.pair3 (by assumption) ?_)
    | (intro _ _ _)
    | (intro _ _)
    | (intro _)
    | split
    | dsimp only)

theorem keeps_execPairLinkUp {s0 : State} (s : State) (h : Keeps s0 s) :
    ∃ u, execPairLinkUp s = finish u ∧ Keeps s0 u := by
  refine ⟨_, rfl, ?_⟩
  try dsimp only
  repeat (first
    | with_reducible assumption
    | with_reducible apply keeps_dropLine
    | with_reducible apply keeps_set
    | with_reducible apply keeps_pairOutOfStep
    | with_reducible apply Keeps.ite
    | (with_reducible apply Keeps.upd; with_reducible first | assumption | apply keeps_dropLine | apply keeps_set | apply keeps_pairOutOfStep | apply Keeps.ite)
    | (refine Keeps.pair (by assumption) ?_)
    | (refine Keeps.pair3 (by assumption) ?_)
    | (intro _ _ _)
    | (intro _ _)
    | (intro _)
    | split
    | dsimp only)

theorem keeps_afterLoads {s0 : State} (s : State) (h : Keeps s0 s) :
    Keeps s0 (State.afterLoads s) := by
  unfold State.afterLoads
  try dsimp only
  repeat (first
    | with_reducible assumption
    | with_reducible apply keeps_set
    | with_reducible apply keeps_cycMap
    | with_reducible apply keeps_portMap
    | with_reducible apply Keeps.ite
    | (with_reducible apply Keeps.foldl; intro _ _ _)
    | (with_reducible apply Keeps.upd; with_reducible first | assumption | apply keeps_set | apply keeps_cycMap | apply keeps_portMap | apply Keeps.ite | (apply Keeps.foldl; intro _ _ _))
    | (refine Keeps.pair (by assumption) ?_)
    | (refine Keeps.pair3 (by assumption) ?_)
    | (intro _ _ _)
    | (intro _ _)
    | (intro _)
    | split
    | dsimp only)

theorem keeps_takeTransfer {s0 : State} (s : State) (t0 : PairTransfer) (h : Keeps s0 s) :
    Keeps s0 (State.takeTransfer s t0) := by
  unfold State.takeTransfer
  try dsimp only
  repeat (first
    | with_reducible assumption
    | with_reducible apply keeps_load
    | with_reducible apply keeps_cycMap
    | with_reducible apply keeps_inaMap
    | with_reducible apply keeps_setSync
    | with_reducible apply keeps_afterLoads
    | with_reducible apply Keeps.ite
    | (with_reducible apply Keeps.foldl; intro _ _ _)
    | (with_reducible apply Keeps.upd; with_reducible first | assumption | apply keeps_load | apply keeps_cycMap | apply keeps_inaMap | apply keeps_setSync | apply keeps_afterLoads | apply Keeps.ite | (apply Keeps.foldl; intro _ _ _))
    | (refine Keeps.pair (by assumption) ?_)
    | (refine Keeps.pair3 (by assumption) ?_)
    | (intro _ _ _)
    | (intro _ _)
    | (intro _)
    | split
    | dsimp only)

theorem keeps_execStateTransferDone {s0 : State} (state : PairTransfer) (s : State) (h : Keeps s0 s) :
    ∃ u, execStateTransferDone state s = finish u ∧ Keeps s0 u := by
  refine ⟨_, rfl, ?_⟩
  try dsimp only
  repeat (first
    | with_reducible assumption
    | with_reducible apply keeps_takeTransfer
    | with_reducible apply Keeps.ite
    | (with_reducible apply Keeps.upd; with_reducible first | assumption | apply keeps_takeTransfer | apply Keeps.ite)
    | (refine Keeps.pair (by assumption) ?_)
    | (refine Keeps.pair3 (by assumption) ?_)
    | (intro _ _ _)
    | (intro _ _)
    | (intro _)
    | split
    | dsimp only)

theorem keeps_takePairTime {s0 : State} (s : State) (t0 : ℤ) (h : Keeps s0 s) :
    Keeps s0 (State.takePairTime s t0) := by
  unfold State.takePairTime
  try dsimp only
  repeat (first
    | with_reducible assumption
    | with_reducible apply keeps_showTime
    | with_reducible apply keeps_setTimState
    | with_reducible apply keeps_timMap
    | with_reducible apply Keeps.ite
    | (with_reducible apply Keeps.upd; with_reducible first | assumption | apply keeps_showTime | apply keeps_setTimState | apply keeps_timMap | apply Keeps.ite)
    | (refine Keeps.pair (by assumption) ?_)
    | (refine Keeps.pair3 (by assumption) ?_)
    | (intro _ _ _)
    | (intro _ _)
    | (intro _)
    | split
    | dsimp only)

theorem keeps_takeUpdate {s0 : State} (s : State) (u : PairUpdate) (h : Keeps s0 s) :
    Keeps s0 (State.takeUpdate s u) := by
  unfold State.takeUpdate
  try dsimp only
  repeat (first
    | with_reducible assumption
    | with_reducible apply keeps_set
    | with_reducible apply keeps_load
    | with_reducible apply keeps_cycMap
    | with_reducible apply keeps_inaMap
    | with_reducible apply keeps_pairMap
    | with_reducible apply keeps_takePairTime
    | with_reducible apply keeps_afterLoads
    | with_reducible apply Keeps.ite
    | (with_reducible apply Keeps.foldl; intro _ _ _)
    | (with_reducible apply Keeps.upd; with_reducible first | assumption | apply keeps_set | apply keeps_load | apply keeps_cycMap | apply keeps_inaMap | apply keeps_pairMap | apply keeps_takePairTime | apply keeps_afterLoads | apply Keeps.ite | (apply Keeps.foldl; intro _ _ _))
    | (refine Keeps.pair (by assumption) ?_)
    | (refine Keeps.pair3 (by assumption) ?_)
    | (intro _ _ _)
    | (intro _ _)
    | (intro _)
    | split
    | dsimp only)

theorem keeps_execPairUpdateReceive {s0 : State} (update : Option PairUpdate) (s : State) (h : Keeps s0 s) :
    ∃ u, execPairUpdateReceive update s = finish u ∧ Keeps s0 u := by
  refine ⟨_, rfl, ?_⟩
  try dsimp only
  repeat (first
    | with_reducible assumption
    | with_reducible apply keeps_takeUpdate
    | with_reducible apply keeps_pairOutOfStep
    | with_reducible apply Keeps.ite
    | (with_reducible apply Keeps.upd; with_reducible first | assumption | apply keeps_takeUpdate | apply keeps_pairOutOfStep | apply Keeps.ite)
    | (refine Keeps.pair (by assumption) ?_)
    | (refine Keeps.pair3 (by assumption) ?_)
    | (intro _ _ _)
    | (intro _ _)
    | (intro _)
    | split
    | dsimp only)

theorem keeps_execPairTestStepEnd {s0 : State} (s : State) (h : Keeps s0 s) :
    ∃ u, execPairTestStepEnd s = finish u ∧ Keeps s0 u := by
  refine ⟨_, rfl, ?_⟩
  try dsimp only
  repeat (first
    | with_reducible assumption
    | with_reducible apply keeps_setSync
    | with_reducible apply Keeps.ite
    | (with_reducible apply Keeps.upd; with_reducible first | assumption | apply keeps_setSync | apply Keeps.ite)
    | (refine Keeps.pair (by assumption) ?_)
    | (refine Keeps.pair3 (by assumption) ?_)
    | (intro _ _ _)
    | (intro _ _)
    | (intro _)
    | split
    | dsimp only)

end Sys2Proof.Machine
end

