-- ==== Sys2Proof/Laws/KeepsStkOps.lean ====
section
/-! SUPPORT. The operations of `Sys2Proof/Machine/StkOps.lean` keep what `Keeps` names. -/

set_option linter.unusedTactic false
set_option linter.unreachableTactic false

namespace Sys2Proof.Machine

theorem keeps_stkMap {s0 : State} (s : State) (f : StkState → StkState) (h : Keeps s0 s) :
    Keeps s0 (State.stkMap s f) := by
  unfold State.stkMap
  try dsimp only
  repeat (first
    | with_reducible assumption
    | with_reducible apply Keeps.ite
    | (with_reducible apply Keeps.upd; with_reducible first | assumption | apply Keeps.ite)
    | (refine Keeps.pair (by assumption) ?_)
    | (refine Keeps.pair3 (by assumption) ?_)
    | (intro _ _ _)
    | (intro _ _)
    | (intro _)
    | split
    | dsimp only)

theorem keeps_sendBeacon {s0 : State} (s : State) (asleep : Bool) (h : Keeps s0 s) :
    Keeps s0 (State.sendBeacon s asleep) := by
  unfold State.sendBeacon
  try dsimp only
  repeat (first
    | with_reducible assumption
    | with_reducible apply keeps_stkMap
    | with_reducible apply keeps_emit
    | with_reducible apply Keeps.ite
    | (with_reducible apply Keeps.upd; with_reducible first | assumption | apply keeps_stkMap | apply keeps_emit | apply Keeps.ite)
    | (refine Keeps.pair (by assumption) ?_)
    | (refine Keeps.pair3 (by assumption) ?_)
    | (intro _ _ _)
    | (intro _ _)
    | (intro _)
    | split
    | dsimp only)

end Sys2Proof.Machine
end

