-- ==== Sys2Proof/Laws/KeepsSleep.lean ====
section
/-! SUPPORT. The operations of `Sys2Proof/Machine/Sleep.lean` keep what `Keeps` names. -/

set_option linter.unusedTactic false
set_option linter.unreachableTactic false

namespace Sys2Proof.Machine

theorem keeps_takeSleep {s0 : State} (s : State) (m : SleepMsg) (h : Keeps s0 s) :
    Keeps s0 (State.takeSleep s m) := by
  unfold State.takeSleep
  try dsimp only
  repeat (first
    | with_reducible assumption
    | with_reducible apply keeps_msgMap
    | with_reducible apply Keeps.ite
    | (with_reducible apply Keeps.upd; with_reducible first | assumption | apply keeps_msgMap | apply Keeps.ite)
    | (refine Keeps.pair (by assumption) ?_)
    | (refine Keeps.pair3 (by assumption) ?_)
    | (intro _ _ _)
    | (intro _ _)
    | (intro _)
    | split
    | dsimp only)

theorem keeps_onSleep {s0 : State} (s : State) (m : SleepMsg) (kind : ℕ) (act : State → State) (ha : ∀ t, Keeps s0 t → Keeps s0 (act t)) (h : Keeps s0 s) :
    Keeps s0 (State.onSleep s m kind act) := by
  unfold State.onSleep
  try dsimp only
  repeat (first
    | with_reducible assumption
    | with_reducible apply ha
    | with_reducible apply keeps_takeSleep
    | with_reducible apply Keeps.ite
    | (with_reducible apply Keeps.upd; with_reducible first | assumption | apply ha | apply keeps_takeSleep | apply Keeps.ite)
    | (refine Keeps.pair (by assumption) ?_)
    | (refine Keeps.pair3 (by assumption) ?_)
    | (intro _ _ _)
    | (intro _ _)
    | (intro _)
    | split
    | dsimp only)

theorem keeps_execSleepReqReceive {s0 : State} (msg : SleepMsg) (s : State) (h : Keeps s0 s) :
    ∃ u, execSleepReqReceive msg s = finish u ∧ Keeps s0 u := by
  refine ⟨_, rfl, ?_⟩
  try dsimp only
  repeat (first
    | with_reducible assumption
    | with_reducible apply keeps_onSleep
    | with_reducible apply keeps_startVote
    | with_reducible apply Keeps.ite
    | (with_reducible apply Keeps.upd; with_reducible first | assumption | apply keeps_onSleep | apply keeps_startVote | apply Keeps.ite)
    | (refine Keeps.pair (by assumption) ?_)
    | (refine Keeps.pair3 (by assumption) ?_)
    | (intro _ _ _)
    | (intro _ _)
    | (intro _)
    | split
    | dsimp only)

theorem keeps_takeCall {s0 : State} (s : State) (m : SleepMsg) (h : Keeps s0 s) :
    Keeps s0 (State.takeCall s m) := by
  unfold State.takeCall
  try dsimp only
  repeat (first
    | with_reducible assumption
    | with_reducible apply keeps_load
    | with_reducible apply keeps_sleepNext
    | with_reducible apply Keeps.ite
    | (with_reducible apply Keeps.upd; with_reducible first | assumption | apply keeps_load | apply keeps_sleepNext | apply Keeps.ite)
    | (refine Keeps.pair (by assumption) ?_)
    | (refine Keeps.pair3 (by assumption) ?_)
    | (intro _ _ _)
    | (intro _ _)
    | (intro _)
    | split
    | dsimp only)

theorem keeps_execSleepCallReceive {s0 : State} (msg : SleepMsg) (s : State) (h : Keeps s0 s) :
    ∃ u, execSleepCallReceive msg s = finish u ∧ Keeps s0 u := by
  refine ⟨_, rfl, ?_⟩
  try dsimp only
  repeat (first
    | with_reducible assumption
    | with_reducible apply keeps_onSleep
    | with_reducible apply keeps_takeCall
    | with_reducible apply Keeps.ite
    | (with_reducible apply Keeps.upd; with_reducible first | assumption | apply keeps_onSleep | apply keeps_takeCall | apply Keeps.ite)
    | (refine Keeps.pair (by assumption) ?_)
    | (refine Keeps.pair3 (by assumption) ?_)
    | (intro _ _ _)
    | (intro _ _)
    | (intro _)
    | split
    | dsimp only)

theorem keeps_execSleepVoteReceive {s0 : State} (msg : SleepMsg) (s : State) (h : Keeps s0 s) :
    ∃ u, execSleepVoteReceive msg s = finish u ∧ Keeps s0 u := by
  refine ⟨_, rfl, ?_⟩
  try dsimp only
  repeat (first
    | with_reducible assumption
    | with_reducible apply keeps_onSleep
    | with_reducible apply keeps_noteVote
    | with_reducible apply Keeps.ite
    | (with_reducible apply Keeps.upd; with_reducible first | assumption | apply keeps_onSleep | apply keeps_noteVote | apply Keeps.ite)
    | (refine Keeps.pair (by assumption) ?_)
    | (refine Keeps.pair3 (by assumption) ?_)
    | (intro _ _ _)
    | (intro _ _)
    | (intro _)
    | split
    | dsimp only)

theorem keeps_takeSleepCommit {s0 : State} (s : State) (m : SleepMsg) (h : Keeps s0 s) :
    Keeps s0 (State.takeSleepCommit s m) := by
  unfold State.takeSleepCommit
  try dsimp only
  repeat (first
    | with_reducible assumption
    | with_reducible apply keeps_sleepNext
    | with_reducible apply keeps_slpMap
    | with_reducible apply keeps_load
    | with_reducible apply Keeps.ite
    | (with_reducible apply Keeps.upd; with_reducible first | assumption | apply keeps_sleepNext | apply keeps_slpMap | apply keeps_load | apply Keeps.ite)
    | (refine Keeps.pair (by assumption) ?_)
    | (refine Keeps.pair3 (by assumption) ?_)
    | (intro _ _ _)
    | (intro _ _)
    | (intro _)
    | split
    | dsimp only)

theorem keeps_execSleepCommitReceive {s0 : State} (msg : SleepMsg) (s : State) (h : Keeps s0 s) :
    ∃ u, execSleepCommitReceive msg s = finish u ∧ Keeps s0 u := by
  refine ⟨_, rfl, ?_⟩
  try dsimp only
  repeat (first
    | with_reducible assumption
    | with_reducible apply keeps_onSleep
    | with_reducible apply keeps_takeSleepCommit
    | with_reducible apply Keeps.ite
    | (with_reducible apply Keeps.upd; with_reducible first | assumption | apply keeps_onSleep | apply keeps_takeSleepCommit | apply Keeps.ite)
    | (refine Keeps.pair (by assumption) ?_)
    | (refine Keeps.pair3 (by assumption) ?_)
    | (intro _ _ _)
    | (intro _ _)
    | (intro _)
    | split
    | dsimp only)

theorem keeps_takeCancel {s0 : State} (s : State) (code : ℕ) (h : Keeps s0 s) :
    Keeps s0 (State.takeCancel s code) := by
  unfold State.takeCancel
  try dsimp only
  repeat (first
    | with_reducible assumption
    | with_reducible apply keeps_voteFails
    | with_reducible apply keeps_sleepCancelled
    | with_reducible apply Keeps.ite
    | (with_reducible apply Keeps.upd; with_reducible first | assumption | apply keeps_voteFails | apply keeps_sleepCancelled | apply Keeps.ite)
    | (refine Keeps.pair (by assumption) ?_)
    | (refine Keeps.pair3 (by assumption) ?_)
    | (intro _ _ _)
    | (intro _ _)
    | (intro _)
    | split
    | dsimp only)

theorem keeps_execSleepCancelReceive {s0 : State} (msg : SleepMsg) (s : State) (h : Keeps s0 s) :
    ∃ u, execSleepCancelReceive msg s = finish u ∧ Keeps s0 u := by
  refine ⟨_, rfl, ?_⟩
  try dsimp only
  repeat (first
    | with_reducible assumption
    | with_reducible apply keeps_onSleep
    | with_reducible apply keeps_takeCancel
    | with_reducible apply Keeps.ite
    | (with_reducible apply Keeps.upd; with_reducible first | assumption | apply keeps_onSleep | apply keeps_takeCancel | apply Keeps.ite)
    | (refine Keeps.pair (by assumption) ?_)
    | (refine Keeps.pair3 (by assumption) ?_)
    | (intro _ _ _)
    | (intro _ _)
    | (intro _)
    | split
    | dsimp only)

theorem keeps_execSleepStayReceive {s0 : State} (msg : SleepMsg) (s : State) (h : Keeps s0 s) :
    ∃ u, execSleepStayReceive msg s = finish u ∧ Keeps s0 u := by
  refine ⟨_, rfl, ?_⟩
  try dsimp only
  repeat (first
    | with_reducible assumption
    | with_reducible apply keeps_onSleep
    | with_reducible apply keeps_confirmWake
    | with_reducible apply Keeps.ite
    | (with_reducible apply Keeps.upd; with_reducible first | assumption | apply keeps_onSleep | apply keeps_confirmWake | apply Keeps.ite)
    | (refine Keeps.pair (by assumption) ?_)
    | (refine Keeps.pair3 (by assumption) ?_)
    | (intro _ _ _)
    | (intro _ _)
    | (intro _)
    | split
    | dsimp only)

theorem keeps_stopCan {s0 : State} (s : State) (h : Keeps s0 s) :
    Keeps s0 (State.stopCan s) := by
  unfold State.stopCan
  try dsimp only
  repeat (first
    | with_reducible assumption
    | with_reducible apply keeps_set
    | with_reducible apply keeps_canStopEntries
    | with_reducible apply Keeps.ite
    | (with_reducible apply Keeps.foldl; intro _ _ _)
    | (with_reducible apply Keeps.upd; with_reducible first | assumption | apply keeps_set | apply keeps_canStopEntries | apply Keeps.ite | (apply Keeps.foldl; intro _ _ _))
    | (refine Keeps.pair (by assumption) ?_)
    | (refine Keeps.pair3 (by assumption) ?_)
    | (intro _ _ _)
    | (intro _ _)
    | (intro _)
    | split
    | dsimp only)

theorem keeps_enterSleep {s0 : State} (s : State) (cause : ℕ) (cycle : ℕ) (h : Keeps s0 s) :
    Keeps s0 (State.enterSleep s cause cycle) := by
  unfold State.enterSleep
  try dsimp only
  repeat (first
    | with_reducible assumption
    | with_reducible apply keeps_sendBeacon
    | with_reducible apply keeps_record
    | with_reducible apply keeps_stopCan
    | with_reducible apply keeps_linkReset
    | with_reducible apply keeps_flwMap
    | with_reducible apply keeps_set
    | with_reducible apply keeps_bump
    | with_reducible apply keeps_releaseInterlock
    | with_reducible apply keeps_slpMap
    | with_reducible apply keeps_setModeSleep
    | with_reducible apply Keeps.ite
    | (with_reducible apply Keeps.upd; with_reducible first | assumption | apply keeps_sendBeacon | apply keeps_record | apply keeps_stopCan | apply keeps_linkReset | apply keeps_flwMap | apply keeps_set | apply keeps_bump | apply keeps_releaseInterlock | apply keeps_slpMap | apply keeps_setModeSleep | apply Keeps.ite)
    | (refine Keeps.pair (by assumption) ?_)
    | (refine Keeps.pair3 (by assumption) ?_)
    | (intro _ _ _)
    | (intro _ _)
    | (intro _)
    | split
    | dsimp only)

theorem keeps_execSleepInstant {s0 : State} (s : State) (h : Keeps s0 s) :
    ∃ u, execSleepInstant s = finish u ∧ Keeps s0 u := by
  refine ⟨_, rfl, ?_⟩
  try dsimp only
  repeat (first
    | with_reducible assumption
    | with_reducible apply keeps_enterSleep
    | with_reducible apply Keeps.ite
    | (with_reducible apply Keeps.upd; with_reducible first | assumption | apply keeps_enterSleep | apply Keeps.ite)
    | (refine Keeps.pair (by assumption) ?_)
    | (refine Keeps.pair3 (by assumption) ?_)
    | (intro _ _ _)
    | (intro _ _)
    | (intro _)
    | split
    | dsimp only)

theorem keeps_showWakeSrc {s0 : State} (s : State) (h : Keeps s0 s) :
    Keeps s0 (State.showWakeSrc s) := by
  unfold State.showWakeSrc
  try dsimp only
  repeat (first
    | with_reducible assumption
    | with_reducible apply keeps_load
    | with_reducible apply Keeps.ite
    | (with_reducible apply Keeps.upd; with_reducible first | assumption | apply keeps_load | apply Keeps.ite)
    | (refine Keeps.pair (by assumption) ?_)
    | (refine Keeps.pair3 (by assumption) ?_)
    | (intro _ _ _)
    | (intro _ _)
    | (intro _)
    | split
    | dsimp only)

theorem keeps_wakeIfLatched {s0 : State} (s : State) (h : Keeps s0 s) :
    Keeps s0 (State.wakeIfLatched s) := by
  unfold State.wakeIfLatched
  try dsimp only
  repeat (first
    | with_reducible assumption
    | with_reducible apply keeps_startBoot
    | with_reducible apply keeps_showWakeSrc
    | with_reducible apply Keeps.ite
    | (with_reducible apply Keeps.upd; with_reducible first | assumption | apply keeps_startBoot | apply keeps_showWakeSrc | apply Keeps.ite)
    | (refine Keeps.pair (by assumption) ?_)
    | (refine Keeps.pair3 (by assumption) ?_)
    | (intro _ _ _)
    | (intro _ _)
    | (intro _)
    | split
    | dsimp only)

theorem keeps_execSleepEntryDone {s0 : State} (s : State) (h : Keeps s0 s) :
    ∃ u, execSleepEntryDone s = finish u ∧ Keeps s0 u := by
  refine ⟨_, rfl, ?_⟩
  try dsimp only
  repeat (first
    | with_reducible assumption
    | with_reducible apply keeps_wakeIfLatched
    | with_reducible apply keeps_slpMap
    | with_reducible apply keeps_drainLog
    | with_reducible apply Keeps.ite
    | (with_reducible apply Keeps.upd; with_reducible first | assumption | apply keeps_wakeIfLatched | apply keeps_slpMap | apply keeps_drainLog | apply Keeps.ite)
    | (refine Keeps.pair (by assumption) ?_)
    | (refine Keeps.pair3 (by assumption) ?_)
    | (intro _ _ _)
    | (intro _ _)
    | (intro _)
    | split
    | dsimp only)

theorem keeps_wake {s0 : State} (s : State) (src : ℕ) (h : Keeps s0 s) :
    Keeps s0 (State.wake s src) := by
  unfold State.wake
  try dsimp only
  repeat (first
    | with_reducible assumption
    | with_reducible apply keeps_wakeIfLatched
    | with_reducible apply keeps_noteWake
    | with_reducible apply Keeps.ite
    | (with_reducible apply Keeps.upd; with_reducible first | assumption | apply keeps_wakeIfLatched | apply keeps_noteWake | apply Keeps.ite)
    | (refine Keeps.pair (by assumption) ?_)
    | (refine Keeps.pair3 (by assumption) ?_)
    | (intro _ _ _)
    | (intro _ _)
    | (intro _)
    | split
    | dsimp only)

theorem keeps_execWakeLineActivity {s0 : State} (port : ℕ) (s : State) (h : Keeps s0 s) :
    ∃ u, execWakeLineActivity port s = finish u ∧ Keeps s0 u := by
  refine ⟨_, rfl, ?_⟩
  try dsimp only
  repeat (first
    | with_reducible assumption
    | with_reducible apply keeps_wake
    | with_reducible apply Keeps.ite
    | (with_reducible apply Keeps.upd; with_reducible first | assumption | apply keeps_wake | apply Keeps.ite)
    | (refine Keeps.pair (by assumption) ?_)
    | (refine Keeps.pair3 (by assumption) ?_)
    | (intro _ _ _)
    | (intro _ _)
    | (intro _)
    | split
    | dsimp only)

theorem keeps_execWakeCanPattern {s0 : State} (channel : ℕ) (s : State) (h : Keeps s0 s) :
    ∃ u, execWakeCanPattern channel s = finish u ∧ Keeps s0 u := by
  refine ⟨_, rfl, ?_⟩
  try dsimp only
  repeat (first
    | with_reducible assumption
    | with_reducible apply keeps_wake
    | with_reducible apply Keeps.ite
    | (with_reducible apply Keeps.upd; with_reducible first | assumption | apply keeps_wake | apply Keeps.ite)
    | (refine Keeps.pair (by assumption) ?_)
    | (refine Keeps.pair3 (by assumption) ?_)
    | (intro _ _ _)
    | (intro _ _)
    | (intro _)
    | split
    | dsimp only)

theorem keeps_wakePin {s0 : State} (s : State) (i : ℕ) (active : Bool) (h : Keeps s0 s) :
    Keeps s0 (State.wakePin s i active) := by
  unfold State.wakePin
  try dsimp only
  repeat (first
    | with_reducible assumption
    | with_reducible apply keeps_clearBit
    | with_reducible apply keeps_wake
    | with_reducible apply keeps_setBit
    | with_reducible apply Keeps.ite
    | (with_reducible apply Keeps.upd; with_reducible first | assumption | apply keeps_clearBit | apply keeps_wake | apply keeps_setBit | apply Keeps.ite)
    | (refine Keeps.pair (by assumption) ?_)
    | (refine Keeps.pair3 (by assumption) ?_)
    | (intro _ _ _)
    | (intro _ _)
    | (intro _)
    | split
    | dsimp only)

theorem keeps_execWakePin {s0 : State} (pin : ℕ) (active : Bool) (s : State) (h : Keeps s0 s) :
    ∃ u, execWakePin pin active s = finish u ∧ Keeps s0 u := by
  refine ⟨_, rfl, ?_⟩
  try dsimp only
  repeat (first
    | with_reducible assumption
    | with_reducible apply keeps_wakePin
    | with_reducible apply Keeps.ite
    | (with_reducible apply Keeps.upd; with_reducible first | assumption | apply keeps_wakePin | apply Keeps.ite)
    | (refine Keeps.pair (by assumption) ?_)
    | (refine Keeps.pair3 (by assumption) ?_)
    | (intro _ _ _)
    | (intro _ _)
    | (intro _)
    | split
    | dsimp only)

theorem keeps_execWakeTimer {s0 : State} (s : State) (h : Keeps s0 s) :
    ∃ u, execWakeTimer s = finish u ∧ Keeps s0 u := by
  refine ⟨_, rfl, ?_⟩
  try dsimp only
  repeat (first
    | with_reducible assumption
    | with_reducible apply keeps_wake
    | with_reducible apply Keeps.ite
    | (with_reducible apply Keeps.upd; with_reducible first | assumption | apply keeps_wake | apply Keeps.ite)
    | (refine Keeps.pair (by assumption) ?_)
    | (refine Keeps.pair3 (by assumption) ?_)
    | (intro _ _ _)
    | (intro _ _)
    | (intro _)
    | split
    | dsimp only)

theorem keeps_execFalseWakeTimeout {s0 : State} (s : State) (h : Keeps s0 s) :
    ∃ u, execFalseWakeTimeout s = finish u ∧ Keeps s0 u := by
  refine ⟨_, rfl, ?_⟩
  try dsimp only
  repeat (first
    | with_reducible assumption
    | with_reducible apply keeps_slpMap
    | with_reducible apply Keeps.ite
    | (with_reducible apply Keeps.upd; with_reducible first | assumption | apply keeps_slpMap | apply Keeps.ite)
    | (refine Keeps.pair (by assumption) ?_)
    | (refine Keeps.pair3 (by assumption) ?_)
    | (intro _ _ _)
    | (intro _ _)
    | (intro _)
    | split
    | dsimp only)

theorem keeps_execFalseWakeFallback {s0 : State} (s : State) (h : Keeps s0 s) :
    ∃ u, execFalseWakeFallback s = finish u ∧ Keeps s0 u := by
  refine ⟨_, rfl, ?_⟩
  try dsimp only
  repeat (first
    | with_reducible assumption
    | with_reducible apply keeps_enterSleep
    | with_reducible apply Keeps.ite
    | (with_reducible apply Keeps.upd; with_reducible first | assumption | apply keeps_enterSleep | apply Keeps.ite)
    | (refine Keeps.pair (by assumption) ?_)
    | (refine Keeps.pair3 (by assumption) ?_)
    | (intro _ _ _)
    | (intro _ _)
    | (intro _)
    | split
    | dsimp only)

theorem keeps_releaseHold {s0 : State} (s : State) (e : ℕ) (h : Keeps s0 s) :
    Keeps s0 (State.releaseHold s e) := by
  unfold State.releaseHold
  try dsimp only
  repeat (first
    | with_reducible assumption
    | with_reducible apply keeps_endHeard
    | with_reducible apply keeps_endHoldOver
    | with_reducible apply Keeps.ite
    | (with_reducible apply Keeps.upd; with_reducible first | assumption | apply keeps_endHeard | apply keeps_endHoldOver | apply Keeps.ite)
    | (refine Keeps.pair (by assumption) ?_)
    | (refine Keeps.pair3 (by assumption) ?_)
    | (intro _ _ _)
    | (intro _ _)
    | (intro _)
    | split
    | dsimp only)

theorem keeps_execWakeLinkHoldEnd {s0 : State} (s : State) (h : Keeps s0 s) :
    ∃ u, execWakeLinkHoldEnd s = finish u ∧ Keeps s0 u := by
  refine ⟨_, rfl, ?_⟩
  try dsimp only
  repeat (first
    | with_reducible assumption
    | with_reducible apply keeps_releaseHold
    | with_reducible apply Keeps.ite
    | (with_reducible apply Keeps.upd; with_reducible first | assumption | apply keeps_releaseHold | apply Keeps.ite)
    | (refine Keeps.pair (by assumption) ?_)
    | (refine Keeps.pair3 (by assumption) ?_)
    | (intro _ _ _)
    | (intro _ _)
    | (intro _)
    | split
    | dsimp only)

end Sys2Proof.Machine
end

