-- ==== Sys2Proof/Laws/KeepsKeys.lean ====
section
/-! SUPPORT. The operations of `Sys2Proof/Machine/Keys.lean` keep what `Keeps` names. -/

set_option linter.unusedTactic false
set_option linter.unreachableTactic false

namespace Sys2Proof.Machine

theorem keeps_keyMap {s0 : State} (s : State) (f : KeyState → KeyState) (h : Keeps s0 s) :
    Keeps s0 (State.keyMap s f) := by
  unfold State.keyMap
  try dsimp only
  repeat (first
    | with_reducible assumption
    | with_reducible apply Keeps.ite
    | (with_reducible apply Keeps.upd; with_reducible first | assumption | apply Keeps.ite)
    | (refine Keeps.pair (by assumption) ?_)
    | (refine Keeps.pair3 (by assumption) ?_)
    | (intro _ _ _)
    | (intro _ _)
    | (intro _)
    | split
    | dsimp only)

theorem keeps_showVault {s0 : State} (s : State) (h : Keeps s0 s) :
    Keeps s0 (State.showVault s) := by
  unfold State.showVault
  try dsimp only
  repeat (first
    | with_reducible assumption
    | with_reducible apply keeps_load
    | with_reducible apply keeps_showSlots
    | with_reducible apply Keeps.ite
    | (with_reducible apply Keeps.upd; with_reducible first | assumption | apply keeps_load | apply keeps_showSlots | apply Keeps.ite)
    | (refine Keeps.pair (by assumption) ?_)
    | (refine Keeps.pair3 (by assumption) ?_)
    | (intro _ _ _)
    | (intro _ _)
    | (intro _)
    | split
    | dsimp only)

theorem keeps_startKeyWrite {s0 : State} (s : State) (slot : ℕ) (h : Keeps s0 s) :
    Keeps s0 (State.startKeyWrite s slot) := by
  unfold State.startKeyWrite
  try dsimp only
  repeat (first
    | with_reducible assumption
    | with_reducible apply keeps_keyMap
    | with_reducible apply keeps_setBank
    | with_reducible apply Keeps.ite
    | (with_reducible apply Keeps.upd; with_reducible first | assumption | apply keeps_keyMap | apply keeps_setBank | apply Keeps.ite)
    | (refine Keeps.pair (by assumption) ?_)
    | (refine Keeps.pair3 (by assumption) ?_)
    | (intro _ _ _)
    | (intro _ _)
    | (intro _)
    | split
    | dsimp only)

theorem keeps_cmdKeyWrite {s0 : State} (a : ℕ) (t : State) (h : Keeps s0 t) :
    Keeps s0 ((cmdKeyWrite ).run a t) := by
  unfold cmdKeyWrite
  try dsimp only
  repeat (first
    | with_reducible assumption
    | with_reducible apply keeps_startKeyWrite
    | with_reducible apply Keeps.ite
    | (with_reducible apply Keeps.upd; with_reducible first | assumption | apply keeps_startKeyWrite | apply Keeps.ite)
    | (refine Keeps.pair (by assumption) ?_)
    | (refine Keeps.pair3 (by assumption) ?_)
    | (intro _ _ _)
    | (intro _ _)
    | (intro _)
    | split
    | dsimp only)

theorem keeps_execKeyWrite {s0 : State} (path : Path) (arg : ℕ) (s : State) (h : Keeps s0 s) :
    ∃ u, execKeyWrite path arg s = finish u ∧ Keeps s0 u := by
  refine ⟨_, rfl, ?_⟩
  try dsimp only
  repeat (first
    | with_reducible assumption
    | with_reducible apply keeps_command
    | with_reducible apply keeps_cmdKeyWrite
    | with_reducible apply Keeps.ite
    | (with_reducible apply Keeps.upd; with_reducible first | assumption | apply keeps_command | apply keeps_cmdKeyWrite | apply Keeps.ite)
    | (refine Keeps.pair (by assumption) ?_)
    | (refine Keeps.pair3 (by assumption) ?_)
    | (intro _ _ _)
    | (intro _ _)
    | (intro _)
    | split
    | dsimp only)

theorem keeps_endKeyWrite {s0 : State} (s : State) (slot : ℕ) (key : ℕ) (b : ℕ) (h : Keeps s0 s) :
    Keeps s0 (State.endKeyWrite s slot key b) := by
  unfold State.endKeyWrite
  try dsimp only
  repeat (first
    | with_reducible assumption
    | with_reducible apply keeps_keyMap
    | with_reducible apply keeps_setBank
    | with_reducible apply keeps_endCmd
    | with_reducible apply keeps_bump
    | with_reducible apply keeps_set
    | with_reducible apply keeps_showVault
    | with_reducible apply Keeps.ite
    | (with_reducible apply Keeps.upd; with_reducible first | assumption | apply keeps_keyMap | apply keeps_setBank | apply keeps_endCmd | apply keeps_bump | apply keeps_set | apply keeps_showVault | apply Keeps.ite)
    | (refine Keeps.pair (by assumption) ?_)
    | (refine Keeps.pair3 (by assumption) ?_)
    | (intro _ _ _)
    | (intro _ _)
    | (intro _)
    | split
    | dsimp only)

theorem keeps_execKeyWriteDone {s0 : State} (s : State) (h : Keeps s0 s) :
    ∃ u, execKeyWriteDone s = finish u ∧ Keeps s0 u := by
  refine ⟨_, rfl, ?_⟩
  try dsimp only
  repeat (first
    | with_reducible assumption
    | with_reducible apply keeps_endKeyWrite
    | with_reducible apply Keeps.ite
    | (with_reducible apply Keeps.upd; with_reducible first | assumption | apply keeps_endKeyWrite | apply Keeps.ite)
    | (refine Keeps.pair (by assumption) ?_)
    | (refine Keeps.pair3 (by assumption) ?_)
    | (intro _ _ _)
    | (intro _ _)
    | (intro _)
    | split
    | dsimp only)

theorem keeps_cmdKeyErase {s0 : State} (a : ℕ) (t : State) (h : Keeps s0 t) :
    Keeps s0 ((cmdKeyErase ).run a t) := by
  unfold cmdKeyErase
  try dsimp only
  repeat (first
    | with_reducible assumption
    | with_reducible apply keeps_keyMap
    | with_reducible apply Keeps.ite
    | (with_reducible apply Keeps.upd; with_reducible first | assumption | apply keeps_keyMap | apply Keeps.ite)
    | (refine Keeps.pair (by assumption) ?_)
    | (refine Keeps.pair3 (by assumption) ?_)
    | (intro _ _ _)
    | (intro _ _)
    | (intro _)
    | split
    | dsimp only)

theorem keeps_execKeyErase {s0 : State} (path : Path) (arg : ℕ) (s : State) (h : Keeps s0 s) :
    ∃ u, execKeyErase path arg s = finish u ∧ Keeps s0 u := by
  refine ⟨_, rfl, ?_⟩
  try dsimp only
  repeat (first
    | with_reducible assumption
    | with_reducible apply keeps_command
    | with_reducible apply keeps_cmdKeyErase
    | with_reducible apply Keeps.ite
    | (with_reducible apply Keeps.upd; with_reducible first | assumption | apply keeps_command | apply keeps_cmdKeyErase | apply Keeps.ite)
    | (refine Keeps.pair (by assumption) ?_)
    | (refine Keeps.pair3 (by assumption) ?_)
    | (intro _ _ _)
    | (intro _ _)
    | (intro _)
    | split
    | dsimp only)

theorem keeps_endKeyErase {s0 : State} (s : State) (slot : ℕ) (h : Keeps s0 s) :
    Keeps s0 (State.endKeyErase s slot) := by
  unfold State.endKeyErase
  try dsimp only
  repeat (first
    | with_reducible assumption
    | with_reducible apply keeps_keyMap
    | with_reducible apply keeps_setBank
    | with_reducible apply keeps_endCmd
    | with_reducible apply keeps_bump
    | with_reducible apply keeps_showVault
    | with_reducible apply Keeps.ite
    | (with_reducible apply Keeps.upd; with_reducible first | assumption | apply keeps_keyMap | apply keeps_setBank | apply keeps_endCmd | apply keeps_bump | apply keeps_showVault | apply Keeps.ite)
    | (refine Keeps.pair (by assumption) ?_)
    | (refine Keeps.pair3 (by assumption) ?_)
    | (intro _ _ _)
    | (intro _ _)
    | (intro _)
    | split
    | dsimp only)

theorem keeps_execKeyEraseDone {s0 : State} (s : State) (h : Keeps s0 s) :
    ∃ u, execKeyEraseDone s = finish u ∧ Keeps s0 u := by
  refine ⟨_, rfl, ?_⟩
  try dsimp only
  repeat (first
    | with_reducible assumption
    | with_reducible apply keeps_endKeyErase
    | with_reducible apply Keeps.ite
    | (with_reducible apply Keeps.upd; with_reducible first | assumption | apply keeps_endKeyErase | apply Keeps.ite)
    | (refine Keeps.pair (by assumption) ?_)
    | (refine Keeps.pair3 (by assumption) ?_)
    | (intro _ _ _)
    | (intro _ _)
    | (intro _)
    | split
    | dsimp only)

theorem keeps_cmdKeySwitch {s0 : State} (a : ℕ) (t : State) (h : Keeps s0 t) :
    Keeps s0 ((cmdKeySwitch ).run a t) := by
  unfold cmdKeySwitch
  try dsimp only
  repeat (first
    | with_reducible assumption
    | with_reducible apply keeps_keyMap
    | with_reducible apply Keeps.ite
    | (with_reducible apply Keeps.upd; with_reducible first | assumption | apply keeps_keyMap | apply Keeps.ite)
    | (refine Keeps.pair (by assumption) ?_)
    | (refine Keeps.pair3 (by assumption) ?_)
    | (intro _ _ _)
    | (intro _ _)
    | (intro _)
    | split
    | dsimp only)

theorem keeps_execKeySwitch {s0 : State} (path : Path) (arg : ℕ) (s : State) (h : Keeps s0 s) :
    ∃ u, execKeySwitch path arg s = finish u ∧ Keeps s0 u := by
  refine ⟨_, rfl, ?_⟩
  try dsimp only
  repeat (first
    | with_reducible assumption
    | with_reducible apply keeps_command
    | with_reducible apply keeps_cmdKeySwitch
    | with_reducible apply Keeps.ite
    | (with_reducible apply Keeps.upd; with_reducible first | assumption | apply keeps_command | apply keeps_cmdKeySwitch | apply Keeps.ite)
    | (refine Keeps.pair (by assumption) ?_)
    | (refine Keeps.pair3 (by assumption) ?_)
    | (intro _ _ _)
    | (intro _ _)
    | (intro _)
    | split
    | dsimp only)

theorem keeps_zeroize {s0 : State} (s : State) (h : Keeps s0 s) :
    Keeps s0 (State.zeroize s) := by
  unfold State.zeroize
  try dsimp only
  repeat (first
    | with_reducible assumption
    | with_reducible apply keeps_bump
    | with_reducible apply keeps_load
    | with_reducible apply keeps_showVault
    | with_reducible apply Keeps.ite
    | (with_reducible apply Keeps.upd; with_reducible first | assumption | apply keeps_bump | apply keeps_load | apply keeps_showVault | apply Keeps.ite)
    | (refine Keeps.pair (by assumption) ?_)
    | (refine Keeps.pair3 (by assumption) ?_)
    | (intro _ _ _)
    | (intro _ _)
    | (intro _)
    | split
    | dsimp only)

theorem keeps_abortVault {s0 : State} (s : State) (st : Status) (h : Keeps s0 s) :
    Keeps s0 (State.abortVault s st) := by
  unfold State.abortVault
  try dsimp only
  repeat (first
    | with_reducible assumption
    | with_reducible apply keeps_endCmd
    | with_reducible apply keeps_keyMap
    | with_reducible apply Keeps.ite
    | (with_reducible apply Keeps.upd; with_reducible first | assumption | apply keeps_endCmd | apply keeps_keyMap | apply Keeps.ite)
    | (refine Keeps.pair (by assumption) ?_)
    | (refine Keeps.pair3 (by assumption) ?_)
    | (intro _ _ _)
    | (intro _ _)
    | (intro _)
    | split
    | dsimp only)

theorem keeps_showTamperLive {s0 : State} (s : State) (live : ℕ) (h : Keeps s0 s) :
    Keeps s0 (State.showTamperLive s live) := by
  unfold State.showTamperLive
  try dsimp only
  repeat (first
    | with_reducible assumption
    | with_reducible apply keeps_load
    | with_reducible apply keeps_keyMap
    | with_reducible apply Keeps.ite
    | (with_reducible apply Keeps.upd; with_reducible first | assumption | apply keeps_load | apply keeps_keyMap | apply Keeps.ite)
    | (refine Keeps.pair (by assumption) ?_)
    | (refine Keeps.pair3 (by assumption) ?_)
    | (intro _ _ _)
    | (intro _ _)
    | (intro _)
    | split
    | dsimp only)

theorem keeps_tamperLatch {s0 : State} (s : State) (sources : ℕ) (h : Keeps s0 s) :
    Keeps s0 (State.tamperLatch s sources) := by
  unfold State.tamperLatch
  try dsimp only
  repeat (first
    | with_reducible assumption
    | with_reducible apply keeps_zeroize
    | with_reducible apply keeps_abortVault
    | with_reducible apply keeps_showTamperLive
    | with_reducible apply keeps_set
    | with_reducible apply keeps_keyMap
    | with_reducible apply Keeps.ite
    | (with_reducible apply Keeps.upd; with_reducible first | assumption | apply keeps_zeroize | apply keeps_abortVault | apply keeps_showTamperLive | apply keeps_set | apply keeps_keyMap | apply Keeps.ite)
    | (refine Keeps.pair (by assumption) ?_)
    | (refine Keeps.pair3 (by assumption) ?_)
    | (intro _ _ _)
    | (intro _ _)
    | (intro _)
    | split
    | dsimp only)

theorem keeps_tamperOutcome {s0 : State} (s : State) (h : Keeps s0 s) :
    Keeps s0 (State.tamperOutcome s) := by
  unfold State.tamperOutcome
  try dsimp only
  repeat (first
    | with_reducible assumption
    | with_reducible apply keeps_keyMap
    | with_reducible apply keeps_wake
    | with_reducible apply keeps_abortTransitions
    | with_reducible apply keeps_record
    | with_reducible apply keeps_bootToSafe
    | with_reducible apply keeps_countSafe
    | with_reducible apply keeps_enterSafeMode
    | with_reducible apply Keeps.ite
    | (with_reducible apply Keeps.upd; with_reducible first | assumption | apply keeps_keyMap | apply keeps_wake | apply keeps_abortTransitions | apply keeps_record | apply keeps_bootToSafe | apply keeps_countSafe | apply keeps_enterSafeMode | apply Keeps.ite)
    | (refine Keeps.pair (by assumption) ?_)
    | (refine Keeps.pair3 (by assumption) ?_)
    | (intro _ _ _)
    | (intro _ _)
    | (intro _)
    | split
    | dsimp only)

theorem keeps_tamperAlarm {s0 : State} (s : State) (sources : ℕ) (h : Keeps s0 s) :
    Keeps s0 (State.tamperAlarm s sources) := by
  unfold State.tamperAlarm
  try dsimp only
  repeat (first
    | with_reducible assumption
    | with_reducible apply keeps_tamperLatch
    | with_reducible apply keeps_tamperOutcome
    | with_reducible apply keeps_assertLine
    | with_reducible apply Keeps.ite
    | (with_reducible apply Keeps.upd; with_reducible first | assumption | apply keeps_tamperLatch | apply keeps_tamperOutcome | apply keeps_assertLine | apply Keeps.ite)
    | (refine Keeps.pair (by assumption) ?_)
    | (refine Keeps.pair3 (by assumption) ?_)
    | (intro _ _ _)
    | (intro _ _)
    | (intro _)
    | split
    | dsimp only)

theorem keeps_execTamperAlarm {s0 : State} (sources : ℕ) (s : State) (h : Keeps s0 s) :
    ∃ u, execTamperAlarm sources s = finish u ∧ Keeps s0 u := by
  refine ⟨_, rfl, ?_⟩
  try dsimp only
  repeat (first
    | with_reducible assumption
    | with_reducible apply keeps_tamperAlarm
    | with_reducible apply Keeps.ite
    | (with_reducible apply Keeps.upd; with_reducible first | assumption | apply keeps_tamperAlarm | apply Keeps.ite)
    | (refine Keeps.pair (by assumption) ?_)
    | (refine Keeps.pair3 (by assumption) ?_)
    | (intro _ _ _)
    | (intro _ _)
    | (intro _)
    | split
    | dsimp only)

theorem keeps_tamperOver {s0 : State} (s : State) (h : Keeps s0 s) :
    Keeps s0 (State.tamperOver s) := by
  unfold State.tamperOver
  try dsimp only
  repeat (first
    | with_reducible assumption
    | with_reducible apply keeps_showTamperLive
    | with_reducible apply Keeps.ite
    | (with_reducible apply Keeps.upd; with_reducible first | assumption | apply keeps_showTamperLive | apply Keeps.ite)
    | (refine Keeps.pair (by assumption) ?_)
    | (refine Keeps.pair3 (by assumption) ?_)
    | (intro _ _ _)
    | (intro _ _)
    | (intro _)
    | split
    | dsimp only)

theorem keeps_cmdTamperClear {s0 : State} (a : ℕ) (t : State) (h : Keeps s0 t) :
    Keeps s0 ((cmdTamperClear ).run a t) := by
  unfold cmdTamperClear
  try dsimp only
  repeat (first
    | with_reducible assumption
    | with_reducible apply keeps_record
    | with_reducible apply Keeps.ite
    | (with_reducible apply Keeps.upd; with_reducible first | assumption | apply keeps_record | apply Keeps.ite)
    | (refine Keeps.pair (by assumption) ?_)
    | (refine Keeps.pair3 (by assumption) ?_)
    | (intro _ _ _)
    | (intro _ _)
    | (intro _)
    | split
    | dsimp only)

theorem keeps_execTamperClear {s0 : State} (path : Path) (arg : ℕ) (s : State) (h : Keeps s0 s) :
    ∃ u, execTamperClear path arg s = finish u ∧ Keeps s0 u := by
  refine ⟨_, rfl, ?_⟩
  try dsimp only
  repeat (first
    | with_reducible assumption
    | with_reducible apply keeps_command
    | with_reducible apply keeps_cmdTamperClear
    | with_reducible apply Keeps.ite
    | (with_reducible apply Keeps.upd; with_reducible first | assumption | apply keeps_command | apply keeps_cmdTamperClear | apply Keeps.ite)
    | (refine Keeps.pair (by assumption) ?_)
    | (refine Keeps.pair3 (by assumption) ?_)
    | (intro _ _ _)
    | (intro _ _)
    | (intro _)
    | split
    | dsimp only)

end Sys2Proof.Machine
end

