-- ==== Sys2Proof/Laws/KeepsFaults.lean ====
section
/-! SUPPORT. The operations of `Sys2Proof/Machine/Faults.lean` keep what `Keeps` names. -/

set_option linter.unusedTactic false
set_option linter.unreachableTactic false

namespace Sys2Proof.Machine

theorem keeps_showClocks {s0 : State} (s : State) (h : Keeps s0 s) :
    Keeps s0 (State.showClocks s) := by
  unfold State.showClocks
  try dsimp only
  repeat (first
    | with_reducible assumption
    | with_reducible apply keeps_set
    | with_reducible apply keeps_load
    | with_reducible apply Keeps.ite
    | (with_reducible apply Keeps.upd; with_reducible first | assumption | apply keeps_set | apply keeps_load | apply Keeps.ite)
    | (refine Keeps.pair (by assumption) ?_)
    | (refine Keeps.pair3 (by assumption) ?_)
    | (intro _ _ _)
    | (intro _ _)
    | (intro _)
    | split
    | dsimp only)

theorem keeps_latchLines {s0 : State} (s : State) (mask : ℕ) (h : Keeps s0 s) :
    Keeps s0 (State.latchLines s mask) := by
  unfold State.latchLines
  try dsimp only
  repeat (first
    | with_reducible assumption
    | with_reducible apply keeps_showClocks
    | with_reducible apply keeps_raiseLines
    | with_reducible apply Keeps.ite
    | (with_reducible apply Keeps.upd; with_reducible first | assumption | apply keeps_showClocks | apply keeps_raiseLines | apply Keeps.ite)
    | (refine Keeps.pair (by assumption) ?_)
    | (refine Keeps.pair3 (by assumption) ?_)
    | (intro _ _ _)
    | (intro _ _)
    | (intro _)
    | split
    | dsimp only)

theorem keeps_execFaultLatch {s0 : State} (lines : ℕ) (s : State) (h : Keeps s0 s) :
    ∃ u, execFaultLatch lines s = finish u ∧ Keeps s0 u := by
  refine ⟨_, rfl, ?_⟩
  try dsimp only
  repeat (first
    | with_reducible assumption
    | with_reducible apply keeps_latchLines
    | with_reducible apply Keeps.ite
    | (with_reducible apply Keeps.upd; with_reducible first | assumption | apply keeps_latchLines | apply Keeps.ite)
    | (refine Keeps.pair (by assumption) ?_)
    | (refine Keeps.pair3 (by assumption) ?_)
    | (intro _ _ _)
    | (intro _ _)
    | (intro _)
    | split
    | dsimp only)

theorem keeps_execFaultLineDeassert {s0 : State} (source : ℕ) (s : State) (h : Keeps s0 s) :
    ∃ u, execFaultLineDeassert source s = finish u ∧ Keeps s0 u := by
  refine ⟨_, rfl, ?_⟩
  try dsimp only
  repeat (first
    | with_reducible assumption
    | with_reducible apply keeps_dropLine
    | with_reducible apply keeps_tamperOver
    | with_reducible apply keeps_showClocks
    | with_reducible apply Keeps.ite
    | (with_reducible apply Keeps.upd; with_reducible first | assumption | apply keeps_dropLine | apply keeps_tamperOver | apply keeps_showClocks | apply Keeps.ite)
    | (refine Keeps.pair (by assumption) ?_)
    | (refine Keeps.pair3 (by assumption) ?_)
    | (intro _ _ _)
    | (intro _ _)
    | (intro _)
    | split
    | dsimp only)

theorem keeps_timerExpires {s0 : State} (s : State) (n : ℕ) (h : Keeps s0 s) :
    Keeps s0 (State.timerExpires s n) := by
  unfold State.timerExpires
  try dsimp only
  repeat (first
    | with_reducible assumption
    | with_reducible apply keeps_askEscalate
    | with_reducible apply keeps_clearBit
    | with_reducible apply Keeps.ite
    | (with_reducible apply Keeps.upd; with_reducible first | assumption | apply keeps_askEscalate | apply keeps_clearBit | apply Keeps.ite)
    | (refine Keeps.pair (by assumption) ?_)
    | (refine Keeps.pair3 (by assumption) ?_)
    | (intro _ _ _)
    | (intro _ _)
    | (intro _)
    | split
    | dsimp only)

theorem keeps_execReactionTimerExpiry {s0 : State} (source : ℕ) (s : State) (h : Keeps s0 s) :
    ∃ u, execReactionTimerExpiry source s = finish u ∧ Keeps s0 u := by
  refine ⟨_, rfl, ?_⟩
  try dsimp only
  repeat (first
    | with_reducible assumption
    | with_reducible apply keeps_timerExpires
    | with_reducible apply Keeps.ite
    | (with_reducible apply Keeps.upd; with_reducible first | assumption | apply keeps_timerExpires | apply Keeps.ite)
    | (refine Keeps.pair (by assumption) ?_)
    | (refine Keeps.pair3 (by assumption) ?_)
    | (intro _ _ _)
    | (intro _ _)
    | (intro _)
    | split
    | dsimp only)

theorem keeps_execFltForceWrite {s0 : State} (req : Requester) (value : ℕ) (s : State) (h : Keeps s0 s) :
    ∃ u, execFltForceWrite req value s = finish u ∧ Keeps s0 u := by
  refine ⟨_, rfl, ?_⟩
  try dsimp only
  repeat (first
    | with_reducible assumption
    | with_reducible apply keeps_writeStep
    | with_reducible apply Keeps.ite
    | (with_reducible apply Keeps.upd; with_reducible first | assumption | apply keeps_writeStep | apply Keeps.ite)
    | (refine Keeps.pair (by assumption) ?_)
    | (refine Keeps.pair3 (by assumption) ?_)
    | (intro _ _ _)
    | (intro _ _)
    | (intro _)
    | split
    | dsimp only)

theorem keeps_execFltRawClear {s0 : State} (req : Requester) (mask : ℕ) (s : State) (h : Keeps s0 s) :
    ∃ u, execFltRawClear req mask s = finish u ∧ Keeps s0 u := by
  refine ⟨_, rfl, ?_⟩
  try dsimp only
  repeat (first
    | with_reducible assumption
    | with_reducible apply keeps_writeStep
    | with_reducible apply Keeps.ite
    | (with_reducible apply Keeps.upd; with_reducible first | assumption | apply keeps_writeStep | apply Keeps.ite)
    | (refine Keeps.pair (by assumption) ?_)
    | (refine Keeps.pair3 (by assumption) ?_)
    | (intro _ _ _)
    | (intro _ _)
    | (intro _)
    | split
    | dsimp only)

theorem keeps_halfPeriod {s0 : State} (s : State) (h : Keeps s0 s) :
    Keeps s0 (State.halfPeriod s) := by
  unfold State.halfPeriod
  try dsimp only
  repeat (first
    | with_reducible assumption
    | with_reducible apply keeps_dropLine
    | with_reducible apply keeps_assertLine
    | with_reducible apply Keeps.ite
    | (with_reducible apply Keeps.upd; with_reducible first | assumption | apply keeps_dropLine | apply keeps_assertLine | apply Keeps.ite)
    | (refine Keeps.pair (by assumption) ?_)
    | (refine Keeps.pair3 (by assumption) ?_)
    | (intro _ _ _)
    | (intro _ _)
    | (intro _)
    | split
    | dsimp only)

theorem keeps_execAliveHalfPeriod {s0 : State} (s : State) (h : Keeps s0 s) :
    ∃ u, execAliveHalfPeriod s = finish u ∧ Keeps s0 u := by
  refine ⟨_, rfl, ?_⟩
  try dsimp only
  repeat (first
    | with_reducible assumption
    | with_reducible apply keeps_halfPeriod
    | with_reducible apply Keeps.ite
    | (with_reducible apply Keeps.upd; with_reducible first | assumption | apply keeps_halfPeriod | apply Keeps.ite)
    | (refine Keeps.pair (by assumption) ?_)
    | (refine Keeps.pair3 (by assumption) ?_)
    | (intro _ _ _)
    | (intro _ _)
    | (intro _)
    | split
    | dsimp only)

theorem keeps_latentTest {s0 : State} (s : State) (c : ℕ) (pass : Bool) (h : Keeps s0 s) :
    Keeps s0 (State.latentTest s c pass) := by
  unfold State.latentTest
  try dsimp only
  repeat (first
    | with_reducible assumption
    | with_reducible apply keeps_testStep
    | with_reducible apply keeps_setB
    | with_reducible apply keeps_set
    | with_reducible apply keeps_pulse
    | with_reducible apply keeps_bump
    | with_reducible apply Keeps.ite
    | (with_reducible apply Keeps.upd; with_reducible first | assumption | apply keeps_testStep | apply keeps_setB | apply keeps_set | apply keeps_pulse | apply keeps_bump | apply Keeps.ite)
    | (refine Keeps.pair (by assumption) ?_)
    | (refine Keeps.pair3 (by assumption) ?_)
    | (intro _ _ _)
    | (intro _ _)
    | (intro _)
    | split
    | dsimp only)

theorem keeps_execLatentTest {s0 : State} (checker : ℕ) (pass : Bool) (s : State) (h : Keeps s0 s) :
    ∃ u, execLatentTest checker pass s = finish u ∧ Keeps s0 u := by
  refine ⟨_, rfl, ?_⟩
  try dsimp only
  repeat (first
    | with_reducible assumption
    | with_reducible apply keeps_latentTest
    | with_reducible apply Keeps.ite
    | (with_reducible apply Keeps.upd; with_reducible first | assumption | apply keeps_latentTest | apply Keeps.ite)
    | (refine Keeps.pair (by assumption) ?_)
    | (refine Keeps.pair3 (by assumption) ?_)
    | (intro _ _ _)
    | (intro _ _)
    | (intro _)
    | split
    | dsimp only)

end Sys2Proof.Machine
end

