-- ==== Sys2Proof/Laws/KeepsPower.lean ====
section
/-! SUPPORT. The operations of `Sys2Proof/Machine/Power.lean` keep what `Keeps` names. -/

set_option linter.unusedTactic false
set_option linter.unreachableTactic false

namespace Sys2Proof.Machine

theorem keeps_pwrMap {s0 : State} (s : State) (f : PwrState → PwrState) (h : Keeps s0 s) :
    Keeps s0 (State.pwrMap s f) := by
  unfold State.pwrMap
  try dsimp only
  repeat (first
    | with_reducible assumption
    | with_reducible apply Keeps.ite
    | (with_reducible apply Keeps.upd; with_reducible first | assumption | apply Keeps.ite)
    | (refine Keeps.pair (by assumption) ?_)
    | (refine Keeps.pair3 (by assumption) ?_)
    | (intro _ _ _)
    | (intro _ _)
    | (intro _)
    | split
    | dsimp only)

theorem keeps_showVin {s0 : State} (s : State) (mv : ℕ) (h : Keeps s0 s) :
    Keeps s0 (State.showVin s mv) := by
  unfold State.showVin
  try dsimp only
  repeat (first
    | with_reducible assumption
    | with_reducible apply keeps_set
    | with_reducible apply Keeps.ite
    | (with_reducible apply Keeps.upd; with_reducible first | assumption | apply keeps_set | apply Keeps.ite)
    | (refine Keeps.pair (by assumption) ?_)
    | (refine Keeps.pair3 (by assumption) ?_)
    | (intro _ _ _)
    | (intro _ _)
    | (intro _)
    | split
    | dsimp only)

theorem keeps_overvoltage {s0 : State} (s : State) (mv : ℕ) (h : Keeps s0 s) :
    Keeps s0 (State.overvoltage s mv) := by
  unfold State.overvoltage
  try dsimp only
  repeat (first
    | with_reducible assumption
    | with_reducible apply keeps_bump
    | with_reducible apply keeps_load
    | with_reducible apply keeps_showVin
    | with_reducible apply keeps_assertLine
    | with_reducible apply Keeps.ite
    | (with_reducible apply Keeps.upd; with_reducible first | assumption | apply keeps_bump | apply keeps_load | apply keeps_showVin | apply keeps_assertLine | apply Keeps.ite)
    | (refine Keeps.pair (by assumption) ?_)
    | (refine Keeps.pair3 (by assumption) ?_)
    | (intro _ _ _)
    | (intro _ _)
    | (intro _)
    | split
    | dsimp only)

theorem keeps_execVinOvervoltage {s0 : State} (millivolts : ℕ) (s : State) (h : Keeps s0 s) :
    ∃ u, execVinOvervoltage millivolts s = finish u ∧ Keeps s0 u := by
  refine ⟨_, rfl, ?_⟩
  try dsimp only
  repeat (first
    | with_reducible assumption
    | with_reducible apply keeps_overvoltage
    | with_reducible apply Keeps.ite
    | (with_reducible apply Keeps.upd; with_reducible first | assumption | apply keeps_overvoltage | apply Keeps.ite)
    | (refine Keeps.pair (by assumption) ?_)
    | (refine Keeps.pair3 (by assumption) ?_)
    | (intro _ _ _)
    | (intro _ _)
    | (intro _)
    | split
    | dsimp only)

theorem keeps_execVinSwitchOpen {s0 : State} (millivolts : ℕ) (s : State) (h : Keeps s0 s) :
    ∃ u, execVinSwitchOpen millivolts s = finish u ∧ Keeps s0 u := by
  refine ⟨_, rfl, ?_⟩
  try dsimp only
  repeat (first
    | with_reducible assumption
    | with_reducible apply keeps_pwrMap
    | with_reducible apply keeps_showVin
    | with_reducible apply Keeps.ite
    | (with_reducible apply Keeps.upd; with_reducible first | assumption | apply keeps_pwrMap | apply keeps_showVin | apply Keeps.ite)
    | (refine Keeps.pair (by assumption) ?_)
    | (refine Keeps.pair3 (by assumption) ?_)
    | (intro _ _ _)
    | (intro _ _)
    | (intro _)
    | split
    | dsimp only)

theorem keeps_execVinSwitchClose {s0 : State} (millivolts : ℕ) (s : State) (h : Keeps s0 s) :
    ∃ u, execVinSwitchClose millivolts s = finish u ∧ Keeps s0 u := by
  refine ⟨_, rfl, ?_⟩
  try dsimp only
  repeat (first
    | with_reducible assumption
    | with_reducible apply keeps_pwrMap
    | with_reducible apply keeps_showVin
    | with_reducible apply Keeps.ite
    | (with_reducible apply Keeps.upd; with_reducible first | assumption | apply keeps_pwrMap | apply keeps_showVin | apply Keeps.ite)
    | (refine Keeps.pair (by assumption) ?_)
    | (refine Keeps.pair3 (by assumption) ?_)
    | (intro _ _ _)
    | (intro _ _)
    | (intro _)
    | split
    | dsimp only)

theorem keeps_execRegulatorLimit {s0 : State} (regulator : ℕ) (s : State) (h : Keeps s0 s) :
    ∃ u, execRegulatorLimit regulator s = finish u ∧ Keeps s0 u := by
  refine ⟨_, rfl, ?_⟩
  try dsimp only
  repeat (first
    | with_reducible assumption
    | with_reducible apply keeps_assertLine
    | with_reducible apply keeps_set
    | with_reducible apply keeps_setBit
    | with_reducible apply Keeps.ite
    | (with_reducible apply Keeps.upd; with_reducible first | assumption | apply keeps_assertLine | apply keeps_set | apply keeps_setBit | apply Keeps.ite)
    | (refine Keeps.pair (by assumption) ?_)
    | (refine Keeps.pair3 (by assumption) ?_)
    | (intro _ _ _)
    | (intro _ _)
    | (intro _)
    | split
    | dsimp only)

theorem keeps_vbatFalls {s0 : State} (s : State) (mv : ℕ) (h : Keeps s0 s) :
    Keeps s0 (State.vbatFalls s mv) := by
  unfold State.vbatFalls
  try dsimp only
  repeat (first
    | with_reducible assumption
    | with_reducible apply keeps_load
    | with_reducible apply keeps_assertLine
    | with_reducible apply keeps_set
    | with_reducible apply Keeps.ite
    | (with_reducible apply Keeps.upd; with_reducible first | assumption | apply keeps_load | apply keeps_assertLine | apply keeps_set | apply Keeps.ite)
    | (refine Keeps.pair (by assumption) ?_)
    | (refine Keeps.pair3 (by assumption) ?_)
    | (intro _ _ _)
    | (intro _ _)
    | (intro _)
    | split
    | dsimp only)

theorem keeps_execVbatLow {s0 : State} (millivolts : ℕ) (s : State) (h : Keeps s0 s) :
    ∃ u, execVbatLow millivolts s = finish u ∧ Keeps s0 u := by
  refine ⟨_, rfl, ?_⟩
  try dsimp only
  repeat (first
    | with_reducible assumption
    | with_reducible apply keeps_vbatFalls
    | with_reducible apply Keeps.ite
    | (with_reducible apply Keeps.upd; with_reducible first | assumption | apply keeps_vbatFalls | apply Keeps.ite)
    | (refine Keeps.pair (by assumption) ?_)
    | (refine Keeps.pair3 (by assumption) ?_)
    | (intro _ _ _)
    | (intro _ _)
    | (intro _)
    | split
    | dsimp only)

theorem keeps_execVbatSwitchover {s0 : State} (s : State) (h : Keeps s0 s) :
    ∃ u, execVbatSwitchover s = finish u ∧ Keeps s0 u := by
  refine ⟨_, rfl, ?_⟩
  try dsimp only
  repeat (first
    | with_reducible assumption
    | with_reducible apply keeps_pwrMap
    | with_reducible apply Keeps.ite
    | (with_reducible apply Keeps.upd; with_reducible first | assumption | apply keeps_pwrMap | apply Keeps.ite)
    | (refine Keeps.pair (by assumption) ?_)
    | (refine Keeps.pair3 (by assumption) ?_)
    | (intro _ _ _)
    | (intro _ _)
    | (intro _)
    | split
    | dsimp only)

theorem keeps_cutStore {s0 : State} (s : State) (h : Keeps s0 s) :
    Keeps s0 (State.cutStore s) := by
  unfold State.cutStore
  try dsimp only
  repeat (first
    | with_reducible assumption
    | with_reducible apply keeps_setImageBank
    | with_reducible apply Keeps.ite
    | (with_reducible apply Keeps.upd; with_reducible first | assumption | apply keeps_setImageBank | apply Keeps.ite)
    | (refine Keeps.pair (by assumption) ?_)
    | (refine Keeps.pair3 (by assumption) ?_)
    | (intro _ _ _)
    | (intro _ _)
    | (intro _)
    | split
    | dsimp only)

theorem keeps_abandonAll {s0 : State} (s : State) (h : Keeps s0 s) :
    Keeps s0 (State.abandonAll s) := by
  unfold State.abandonAll
  try dsimp only
  repeat (first
    | with_reducible assumption
    | with_reducible apply keeps_cutStore
    | with_reducible apply keeps_endCmd
    | with_reducible apply keeps_set
    | with_reducible apply Keeps.ite
    | (with_reducible apply Keeps.foldl; intro _ _ _)
    | (with_reducible apply Keeps.upd; with_reducible first | assumption | apply keeps_cutStore | apply keeps_endCmd | apply keeps_set | apply Keeps.ite | (apply Keeps.foldl; intro _ _ _))
    | (refine Keeps.pair (by assumption) ?_)
    | (refine Keeps.pair3 (by assumption) ?_)
    | (intro _ _ _)
    | (intro _ _)
    | (intro _)
    | split
    | dsimp only)

theorem keeps_holdReset {s0 : State} (s : State) (cause : ℕ) (h : Keeps s0 s) :
    Keeps s0 (State.holdReset s cause) := by
  unfold State.holdReset
  try dsimp only
  repeat (first
    | with_reducible assumption
    | with_reducible apply keeps_setMode
    | with_reducible apply keeps_putMode
    | with_reducible apply keeps_abandonAll
    | with_reducible apply keeps_releaseInterlock
    | with_reducible apply keeps_linkReset
    | with_reducible apply Keeps.ite
    | (with_reducible apply Keeps.upd; with_reducible first | assumption | apply keeps_setMode | apply keeps_putMode | apply keeps_abandonAll | apply keeps_releaseInterlock | apply keeps_linkReset | apply Keeps.ite)
    | (refine Keeps.pair (by assumption) ?_)
    | (refine Keeps.pair3 (by assumption) ?_)
    | (intro _ _ _)
    | (intro _ _)
    | (intro _)
    | split
    | dsimp only)

theorem keeps_drainAll {s0 : State} (s : State) (h : Keeps s0 s) :
    Keeps s0 (State.drainAll s) := by
  unfold State.drainAll
  try dsimp only
  repeat (first
    | with_reducible assumption
    | with_reducible apply keeps_drainLog
    | with_reducible apply keeps_recTake
    | with_reducible apply keeps_pushLost
    | with_reducible apply Keeps.ite
    | (with_reducible apply Keeps.upd; with_reducible first | assumption | apply keeps_drainLog | apply keeps_recTake | apply keeps_pushLost | apply Keeps.ite)
    | (refine Keeps.pair (by assumption) ?_)
    | (refine Keeps.pair3 (by assumption) ?_)
    | (intro _ _ _)
    | (intro _ _)
    | (intro _)
    | split
    | dsimp only)

theorem keeps_brownsOut {s0 : State} (s : State) (h : Keeps s0 s) :
    Keeps s0 (State.brownsOut s) := by
  unfold State.brownsOut
  try dsimp only
  repeat (first
    | with_reducible assumption
    | with_reducible apply keeps_bump
    | with_reducible apply keeps_record
    | with_reducible apply keeps_drainAll
    | with_reducible apply keeps_holdReset
    | with_reducible apply keeps_pwrMap
    | with_reducible apply Keeps.ite
    | (with_reducible apply Keeps.upd; with_reducible first | assumption | apply keeps_bump | apply keeps_record | apply keeps_drainAll | apply keeps_holdReset | apply keeps_pwrMap | apply Keeps.ite)
    | (refine Keeps.pair (by assumption) ?_)
    | (refine Keeps.pair3 (by assumption) ?_)
    | (intro _ _ _)
    | (intro _ _)
    | (intro _)
    | split
    | dsimp only)

theorem keeps_execBrownOut {s0 : State} (s : State) (h : Keeps s0 s) :
    ∃ u, execBrownOut s = finish u ∧ Keeps s0 u := by
  refine ⟨_, rfl, ?_⟩
  try dsimp only
  repeat (first
    | with_reducible assumption
    | with_reducible apply keeps_brownsOut
    | with_reducible apply Keeps.ite
    | (with_reducible apply Keeps.upd; with_reducible first | assumption | apply keeps_brownsOut | apply Keeps.ite)
    | (refine Keeps.pair (by assumption) ?_)
    | (refine Keeps.pair3 (by assumption) ?_)
    | (intro _ _ _)
    | (intro _ _)
    | (intro _)
    | split
    | dsimp only)

theorem keeps_execBrownOutRecovery {s0 : State} (s : State) (h : Keeps s0 s) :
    ∃ u, execBrownOutRecovery s = finish u ∧ Keeps s0 u := by
  refine ⟨_, rfl, ?_⟩
  try dsimp only
  repeat (first
    | with_reducible assumption
    | with_reducible apply keeps_pwrMap
    | with_reducible apply Keeps.ite
    | (with_reducible apply Keeps.upd; with_reducible first | assumption | apply keeps_pwrMap | apply Keeps.ite)
    | (refine Keeps.pair (by assumption) ?_)
    | (refine Keeps.pair3 (by assumption) ?_)
    | (intro _ _ _)
    | (intro _ _)
    | (intro _)
    | split
    | dsimp only)

theorem keeps_execUvlo {s0 : State} (s : State) (h : Keeps s0 s) :
    ∃ u, execUvlo s = finish u ∧ Keeps s0 u := by
  refine ⟨_, rfl, ?_⟩
  try dsimp only
  repeat (first
    | with_reducible assumption
    | with_reducible apply keeps_pwrMap
    | with_reducible apply Keeps.ite
    | (with_reducible apply Keeps.upd; with_reducible first | assumption | apply keeps_pwrMap | apply Keeps.ite)
    | (refine Keeps.pair (by assumption) ?_)
    | (refine Keeps.pair3 (by assumption) ?_)
    | (intro _ _ _)
    | (intro _ _)
    | (intro _)
    | split
    | dsimp only)

theorem keeps_execResetNAssert {s0 : State} (s : State) (h : Keeps s0 s) :
    ∃ u, execResetNAssert s = finish u ∧ Keeps s0 u := by
  refine ⟨_, rfl, ?_⟩
  try dsimp only
  repeat (first
    | with_reducible assumption
    | with_reducible apply keeps_drainAll
    | with_reducible apply keeps_holdReset
    | with_reducible apply Keeps.ite
    | (with_reducible apply Keeps.upd; with_reducible first | assumption | apply keeps_drainAll | apply keeps_holdReset | apply Keeps.ite)
    | (refine Keeps.pair (by assumption) ?_)
    | (refine Keeps.pair3 (by assumption) ?_)
    | (intro _ _ _)
    | (intro _ _)
    | (intro _)
    | split
    | dsimp only)

theorem keeps_loseAlwaysOn {s0 : State} (s : State) (h : Keeps s0 s) :
    Keeps s0 (State.loseAlwaysOn s) := by
  unfold State.loseAlwaysOn
  try dsimp only
  repeat (first
    | with_reducible assumption
    | with_reducible apply keeps_set
    | with_reducible apply Keeps.ite
    | (with_reducible apply Keeps.foldl; intro _ _ _)
    | (with_reducible apply Keeps.upd; with_reducible first | assumption | apply keeps_set | apply Keeps.ite | (apply Keeps.foldl; intro _ _ _))
    | (refine Keeps.pair (by assumption) ?_)
    | (refine Keeps.pair3 (by assumption) ?_)
    | (intro _ _ _)
    | (intro _ _)
    | (intro _)
    | split
    | dsimp only)

theorem keeps_alwaysOnLost {s0 : State} (s : State) (h : Keeps s0 s) :
    Keeps s0 (State.alwaysOnLost s) := by
  unfold State.alwaysOnLost
  try dsimp only
  repeat (first
    | with_reducible assumption
    | with_reducible apply keeps_loseAlwaysOn
    | with_reducible apply keeps_pwrMap
    | with_reducible apply Keeps.ite
    | (with_reducible apply Keeps.upd; with_reducible first | assumption | apply keeps_loseAlwaysOn | apply keeps_pwrMap | apply Keeps.ite)
    | (refine Keeps.pair (by assumption) ?_)
    | (refine Keeps.pair3 (by assumption) ?_)
    | (intro _ _ _)
    | (intro _ _)
    | (intro _)
    | split
    | dsimp only)

theorem keeps_execAlwaysOnPowerLoss {s0 : State} (s : State) (h : Keeps s0 s) :
    ∃ u, execAlwaysOnPowerLoss s = finish u ∧ Keeps s0 u := by
  refine ⟨_, rfl, ?_⟩
  try dsimp only
  repeat (first
    | with_reducible assumption
    | with_reducible apply keeps_alwaysOnLost
    | with_reducible apply Keeps.ite
    | (with_reducible apply Keeps.upd; with_reducible first | assumption | apply keeps_alwaysOnLost | apply Keeps.ite)
    | (refine Keeps.pair (by assumption) ?_)
    | (refine Keeps.pair3 (by assumption) ?_)
    | (intro _ _ _)
    | (intro _ _)
    | (intro _)
    | split
    | dsimp only)

theorem keeps_powersUp {s0 : State} (s : State) (h : Keeps s0 s) :
    Keeps s0 (State.powersUp s) := by
  unfold State.powersUp
  try dsimp only
  repeat (first
    | with_reducible assumption
    | with_reducible apply keeps_pwrMap
    | with_reducible apply keeps_load
    | with_reducible apply Keeps.ite
    | (with_reducible apply Keeps.upd; with_reducible first | assumption | apply keeps_pwrMap | apply keeps_load | apply Keeps.ite)
    | (refine Keeps.pair (by assumption) ?_)
    | (refine Keeps.pair3 (by assumption) ?_)
    | (intro _ _ _)
    | (intro _ _)
    | (intro _)
    | split
    | dsimp only)

theorem keeps_execPowerOn {s0 : State} (s : State) (h : Keeps s0 s) :
    ∃ u, execPowerOn s = finish u ∧ Keeps s0 u := by
  refine ⟨_, rfl, ?_⟩
  try dsimp only
  repeat (first
    | with_reducible assumption
    | with_reducible apply keeps_powersUp
    | with_reducible apply Keeps.ite
    | (with_reducible apply Keeps.upd; with_reducible first | assumption | apply keeps_powersUp | apply Keeps.ite)
    | (refine Keeps.pair (by assumption) ?_)
    | (refine Keeps.pair3 (by assumption) ?_)
    | (intro _ _ _)
    | (intro _ _)
    | (intro _)
    | split
    | dsimp only)

theorem keeps_showTemps {s0 : State} (s : State) (t0 : ℤ) (t1 : ℤ) (h : Keeps s0 s) :
    Keeps s0 (State.showTemps s t0 t1) := by
  unfold State.showTemps
  try dsimp only
  repeat (first
    | with_reducible assumption
    | with_reducible apply keeps_load
    | with_reducible apply keeps_set
    | with_reducible apply keeps_line
    | with_reducible apply Keeps.ite
    | (with_reducible apply Keeps.upd; with_reducible first | assumption | apply keeps_load | apply keeps_set | apply keeps_line | apply Keeps.ite)
    | (refine Keeps.pair (by assumption) ?_)
    | (refine Keeps.pair3 (by assumption) ?_)
    | (intro _ _ _)
    | (intro _ _)
    | (intro _)
    | split
    | dsimp only)

theorem keeps_governShedding {s0 : State} (s : State) (shed : Bool) (h : Keeps s0 s) :
    Keeps s0 (State.governShedding s shed) := by
  unfold State.governShedding
  try dsimp only
  repeat (first
    | with_reducible assumption
    | with_reducible apply keeps_set
    | with_reducible apply keeps_bump
    | with_reducible apply keeps_shedFlows
    | with_reducible apply keeps_unshedFlows
    | with_reducible apply keeps_pwrMap
    | with_reducible apply Keeps.ite
    | (with_reducible apply Keeps.upd; with_reducible first | assumption | apply keeps_set | apply keeps_bump | apply keeps_shedFlows | apply keeps_unshedFlows | apply keeps_pwrMap | apply Keeps.ite)
    | (refine Keeps.pair (by assumption) ?_)
    | (refine Keeps.pair3 (by assumption) ?_)
    | (intro _ _ _)
    | (intro _ _)
    | (intro _)
    | split
    | dsimp only)

theorem keeps_govern {s0 : State} (s : State) (t0 : ℤ) (h : Keeps s0 s) :
    Keeps s0 (State.govern s t0) := by
  unfold State.govern
  try dsimp only
  repeat (first
    | with_reducible assumption
    | with_reducible apply keeps_set
    | with_reducible apply keeps_governShedding
    | with_reducible apply keeps_line
    | with_reducible apply Keeps.ite
    | (with_reducible apply Keeps.upd; with_reducible first | assumption | apply keeps_set | apply keeps_governShedding | apply keeps_line | apply Keeps.ite)
    | (refine Keeps.pair (by assumption) ?_)
    | (refine Keeps.pair3 (by assumption) ?_)
    | (intro _ _ _)
    | (intro _ _)
    | (intro _)
    | split
    | dsimp only)

theorem keeps_execThermalMeasure {s0 : State} (t0 : ℤ) (t1 : ℤ) (s : State) (h : Keeps s0 s) :
    ∃ u, execThermalMeasure t0 t1 s = finish u ∧ Keeps s0 u := by
  refine ⟨_, rfl, ?_⟩
  try dsimp only
  repeat (first
    | with_reducible assumption
    | with_reducible apply keeps_govern
    | with_reducible apply keeps_showTemps
    | with_reducible apply Keeps.ite
    | (with_reducible apply Keeps.upd; with_reducible first | assumption | apply keeps_govern | apply keeps_showTemps | apply Keeps.ite)
    | (refine Keeps.pair (by assumption) ?_)
    | (refine Keeps.pair3 (by assumption) ?_)
    | (intro _ _ _)
    | (intro _ _)
    | (intro _)
    | split
    | dsimp only)

end Sys2Proof.Machine
end

