-- ==== Sys2Proof/Laws/KeepsStack.lean ====
section
/-! SUPPORT. The operations of `Sys2Proof/Machine/Stack.lean` keep what `Keeps` names. -/

set_option linter.unusedTactic false
set_option linter.unreachableTactic false

namespace Sys2Proof.Machine

theorem keeps_beaconMissing {s0 : State} (s : State) (h : Keeps s0 s) :
    Keeps s0 (State.beaconMissing s) := by
  unfold State.beaconMissing
  try dsimp only
  repeat (first
    | with_reducible assumption
    | with_reducible apply keeps_stkMap
    | with_reducible apply keeps_bump
    | with_reducible apply keeps_assertLine
    | with_reducible apply keeps_load
    | with_reducible apply Keeps.ite
    | (with_reducible apply Keeps.upd; with_reducible first | assumption | apply keeps_stkMap | apply keeps_bump | apply keeps_assertLine | apply keeps_load | apply Keeps.ite)
    | (refine Keeps.pair (by assumption) ?_)
    | (refine Keeps.pair3 (by assumption) ?_)
    | (intro _ _ _)
    | (intro _ _)
    | (intro _)
    | split
    | dsimp only)

theorem keeps_execBeaconSend {s0 : State} (s : State) (h : Keeps s0 s) :
    ∃ u, execBeaconSend s = finish u ∧ Keeps s0 u := by
  refine ⟨_, rfl, ?_⟩
  try dsimp only
  repeat (first
    | with_reducible assumption
    | with_reducible apply keeps_sendBeacon
    | with_reducible apply keeps_beaconMissing
    | with_reducible apply Keeps.ite
    | (with_reducible apply Keeps.upd; with_reducible first | assumption | apply keeps_sendBeacon | apply keeps_beaconMissing | apply Keeps.ite)
    | (refine Keeps.pair (by assumption) ?_)
    | (refine Keeps.pair3 (by assumption) ?_)
    | (intro _ _ _)
    | (intro _ _)
    | (intro _)
    | split
    | dsimp only)

theorem keeps_stackDup {s0 : State} (s : State) (h : Keeps s0 s) :
    Keeps s0 (State.stackDup s) := by
  unfold State.stackDup
  try dsimp only
  repeat (first
    | with_reducible assumption
    | with_reducible apply keeps_dropLine
    | with_reducible apply keeps_load
    | with_reducible apply Keeps.ite
    | (with_reducible apply Keeps.upd; with_reducible first | assumption | apply keeps_dropLine | apply keeps_load | apply Keeps.ite)
    | (refine Keeps.pair (by assumption) ?_)
    | (refine Keeps.pair3 (by assumption) ?_)
    | (intro _ _ _)
    | (intro _ _)
    | (intro _)
    | split
    | dsimp only)

theorem keeps_takeMembers {s0 : State} (s : State) (b : Beacon) (h : Keeps s0 s) :
    Keeps s0 (State.takeMembers s b) := by
  unfold State.takeMembers
  try dsimp only
  repeat (first
    | with_reducible assumption
    | with_reducible apply keeps_load
    | with_reducible apply keeps_set
    | with_reducible apply Keeps.ite
    | (with_reducible apply Keeps.upd; with_reducible first | assumption | apply keeps_load | apply keeps_set | apply Keeps.ite)
    | (refine Keeps.pair (by assumption) ?_)
    | (refine Keeps.pair3 (by assumption) ?_)
    | (intro _ _ _)
    | (intro _ _)
    | (intro _)
    | split
    | dsimp only)

theorem keeps_ringHealed {s0 : State} (s : State) (h : Keeps s0 s) :
    Keeps s0 (State.ringHealed s) := by
  unfold State.ringHealed
  try dsimp only
  repeat (first
    | with_reducible assumption
    | with_reducible apply keeps_dropLine
    | with_reducible apply keeps_bump
    | with_reducible apply keeps_set
    | with_reducible apply Keeps.ite
    | (with_reducible apply Keeps.upd; with_reducible first | assumption | apply keeps_dropLine | apply keeps_bump | apply keeps_set | apply Keeps.ite)
    | (refine Keeps.pair (by assumption) ?_)
    | (refine Keeps.pair3 (by assumption) ?_)
    | (intro _ _ _)
    | (intro _ _)
    | (intro _)
    | split
    | dsimp only)

theorem keeps_readyWithdrawn {s0 : State} (s : State) (h : Keeps s0 s) :
    Keeps s0 (State.readyWithdrawn s) := by
  unfold State.readyWithdrawn
  try dsimp only
  repeat (first
    | with_reducible assumption
    | with_reducible apply keeps_castVotes
    | with_reducible apply keeps_sleepNext
    | with_reducible apply Keeps.ite
    | (with_reducible apply Keeps.upd; with_reducible first | assumption | apply keeps_castVotes | apply keeps_sleepNext | apply Keeps.ite)
    | (refine Keeps.pair (by assumption) ?_)
    | (refine Keeps.pair3 (by assumption) ?_)
    | (intro _ _ _)
    | (intro _ _)
    | (intro _)
    | split
    | dsimp only)

theorem keeps_ownBeacon {s0 : State} (s : State) (b : Beacon) (h : Keeps s0 s) :
    Keeps s0 (State.ownBeacon s b) := by
  unfold State.ownBeacon
  try dsimp only
  repeat (first
    | with_reducible assumption
    | with_reducible apply keeps_load
    | with_reducible apply keeps_takeMembers
    | with_reducible apply keeps_ringHealed
    | with_reducible apply keeps_readyWithdrawn
    | with_reducible apply keeps_stkMap
    | with_reducible apply Keeps.ite
    | (with_reducible apply Keeps.upd; with_reducible first | assumption | apply keeps_load | apply keeps_takeMembers | apply keeps_ringHealed | apply keeps_readyWithdrawn | apply keeps_stkMap | apply Keeps.ite)
    | (refine Keeps.pair (by assumption) ?_)
    | (refine Keeps.pair3 (by assumption) ?_)
    | (intro _ _ _)
    | (intro _ _)
    | (intro _)
    | split
    | dsimp only)

theorem keeps_beaconBack {s0 : State} (s : State) (b : Beacon) (h : Keeps s0 s) :
    Keeps s0 (State.beaconBack s b) := by
  unfold State.beaconBack
  try dsimp only
  repeat (first
    | with_reducible assumption
    | with_reducible apply keeps_bump
    | with_reducible apply keeps_ownBeacon
    | with_reducible apply keeps_stackDup
    | with_reducible apply Keeps.ite
    | (with_reducible apply Keeps.upd; with_reducible first | assumption | apply keeps_bump | apply keeps_ownBeacon | apply keeps_stackDup | apply Keeps.ite)
    | (refine Keeps.pair (by assumption) ?_)
    | (refine Keeps.pair3 (by assumption) ?_)
    | (intro _ _ _)
    | (intro _ _)
    | (intro _)
    | split
    | dsimp only)

theorem keeps_execBeaconReturn {s0 : State} (beacon : Beacon) (s : State) (h : Keeps s0 s) :
    ∃ u, execBeaconReturn beacon s = finish u ∧ Keeps s0 u := by
  refine ⟨_, rfl, ?_⟩
  try dsimp only
  repeat (first
    | with_reducible assumption
    | with_reducible apply keeps_beaconBack
    | with_reducible apply Keeps.ite
    | (with_reducible apply Keeps.upd; with_reducible first | assumption | apply keeps_beaconBack | apply Keeps.ite)
    | (refine Keeps.pair (by assumption) ?_)
    | (refine Keeps.pair3 (by assumption) ?_)
    | (intro _ _ _)
    | (intro _ _)
    | (intro _)
    | split
    | dsimp only)

theorem keeps_memberTopology {s0 : State} (s : State) (b : Beacon) (h : Keeps s0 s) :
    Keeps s0 (State.memberTopology s b) := by
  unfold State.memberTopology
  try dsimp only
  repeat (first
    | with_reducible assumption
    | with_reducible apply keeps_inaMap
    | with_reducible apply Keeps.ite
    | (with_reducible apply Keeps.upd; with_reducible first | assumption | apply keeps_inaMap | apply Keeps.ite)
    | (refine Keeps.pair (by assumption) ?_)
    | (refine Keeps.pair3 (by assumption) ?_)
    | (intro _ _ _)
    | (intro _ _)
    | (intro _)
    | split
    | dsimp only)

theorem keeps_memberCommit {s0 : State} (s : State) (b : Beacon) (h : Keeps s0 s) :
    Keeps s0 (State.memberCommit s b) := by
  unfold State.memberCommit
  try dsimp only
  repeat (first
    | with_reducible assumption
    | with_reducible apply keeps_clearHops
    | with_reducible apply keeps_showCommit
    | with_reducible apply keeps_memberTopology
    | with_reducible apply keeps_recordCommit
    | with_reducible apply keeps_inaMap
    | with_reducible apply keeps_keySwitch
    | with_reducible apply keeps_cycCommit
    | with_reducible apply keeps_brgCommit
    | with_reducible apply keeps_flowsAtCommit
    | with_reducible apply keeps_msgCommit
    | with_reducible apply keeps_sleepTopology
    | with_reducible apply keeps_timCommit
    | with_reducible apply Keeps.ite
    | (with_reducible apply Keeps.upd; with_reducible first | assumption | apply keeps_clearHops | apply keeps_showCommit | apply keeps_memberTopology | apply keeps_recordCommit | apply keeps_inaMap | apply keeps_keySwitch | apply keeps_cycCommit | apply keeps_brgCommit | apply keeps_flowsAtCommit | apply keeps_msgCommit | apply keeps_sleepTopology | apply keeps_timCommit | apply Keeps.ite)
    | (refine Keeps.pair (by assumption) ?_)
    | (refine Keeps.pair3 (by assumption) ?_)
    | (intro _ _ _)
    | (intro _ _)
    | (intro _)
    | split
    | dsimp only)

theorem keeps_memberEpoch {s0 : State} (s : State) (b : Beacon) (rx : ℤ) (h : Keeps s0 s) :
    Keeps s0 (State.memberEpoch s b rx) := by
  unfold State.memberEpoch
  try dsimp only
  repeat (first
    | with_reducible assumption
    | with_reducible apply keeps_countEpoch
    | with_reducible apply keeps_hopEpoch
    | with_reducible apply keeps_timEpoch
    | with_reducible apply keeps_timMap
    | with_reducible apply Keeps.ite
    | (with_reducible apply Keeps.upd; with_reducible first | assumption | apply keeps_countEpoch | apply keeps_hopEpoch | apply keeps_timEpoch | apply keeps_timMap | apply Keeps.ite)
    | (refine Keeps.pair (by assumption) ?_)
    | (refine Keeps.pair3 (by assumption) ?_)
    | (intro _ _ _)
    | (intro _ _)
    | (intro _)
    | split
    | dsimp only)

theorem keeps_takeBeacon {s0 : State} (s : State) (b : Beacon) (rx : ℤ) (h : Keeps s0 s) :
    Keeps s0 (State.takeBeacon s b rx) := by
  unfold State.takeBeacon
  try dsimp only
  repeat (first
    | with_reducible assumption
    | with_reducible apply keeps_dropLine
    | with_reducible apply keeps_load
    | with_reducible apply keeps_memberCommit
    | with_reducible apply keeps_setB
    | with_reducible apply keeps_memberEpoch
    | with_reducible apply keeps_enterSleep
    | with_reducible apply Keeps.ite
    | (with_reducible apply Keeps.upd; with_reducible first | assumption | apply keeps_dropLine | apply keeps_load | apply keeps_memberCommit | apply keeps_setB | apply keeps_memberEpoch | apply keeps_enterSleep | apply Keeps.ite)
    | (refine Keeps.pair (by assumption) ?_)
    | (refine Keeps.pair3 (by assumption) ?_)
    | (intro _ _ _)
    | (intro _ _)
    | (intro _)
    | split
    | dsimp only)

theorem keeps_forwardBeacon {s0 : State} (s : State) (b : Beacon) (rx : ℤ) (tx : ℤ) (h : Keeps s0 s) :
    Keeps s0 (State.forwardBeacon s b rx tx) := by
  unfold State.forwardBeacon
  try dsimp only
  repeat (first
    | with_reducible assumption
    | with_reducible apply keeps_emit
    | with_reducible apply keeps_bump
    | with_reducible apply keeps_stackDup
    | with_reducible apply keeps_takeBeacon
    | with_reducible apply keeps_load
    | with_reducible apply Keeps.ite
    | (with_reducible apply Keeps.upd; with_reducible first | assumption | apply keeps_emit | apply keeps_bump | apply keeps_stackDup | apply keeps_takeBeacon | apply keeps_load | apply Keeps.ite)
    | (refine Keeps.pair (by assumption) ?_)
    | (refine Keeps.pair3 (by assumption) ?_)
    | (intro _ _ _)
    | (intro _ _)
    | (intro _)
    | split
    | dsimp only)

theorem keeps_execBeaconForward {s0 : State} (beacon : Beacon) (rx : ℤ) (tx : ℤ) (s : State) (h : Keeps s0 s) :
    ∃ u, execBeaconForward beacon rx tx s = finish u ∧ Keeps s0 u := by
  refine ⟨_, rfl, ?_⟩
  try dsimp only
  repeat (first
    | with_reducible assumption
    | with_reducible apply keeps_forwardBeacon
    | with_reducible apply Keeps.ite
    | (with_reducible apply Keeps.upd; with_reducible first | assumption | apply keeps_forwardBeacon | apply Keeps.ite)
    | (refine Keeps.pair (by assumption) ?_)
    | (refine Keeps.pair3 (by assumption) ?_)
    | (intro _ _ _)
    | (intro _ _)
    | (intro _)
    | split
    | dsimp only)

theorem keeps_orphaned {s0 : State} (s : State) (h : Keeps s0 s) :
    Keeps s0 (State.orphaned s) := by
  unfold State.orphaned
  try dsimp only
  repeat (first
    | with_reducible assumption
    | with_reducible apply keeps_assertLine
    | with_reducible apply keeps_load
    | with_reducible apply keeps_add
    | with_reducible apply keeps_flowsStale
    | with_reducible apply Keeps.ite
    | (with_reducible apply Keeps.upd; with_reducible first | assumption | apply keeps_assertLine | apply keeps_load | apply keeps_add | apply keeps_flowsStale | apply Keeps.ite)
    | (refine Keeps.pair (by assumption) ?_)
    | (refine Keeps.pair3 (by assumption) ?_)
    | (intro _ _ _)
    | (intro _ _)
    | (intro _)
    | split
    | dsimp only)

theorem keeps_execStackOrphanTimeout {s0 : State} (s : State) (h : Keeps s0 s) :
    ∃ u, execStackOrphanTimeout s = finish u ∧ Keeps s0 u := by
  refine ⟨_, rfl, ?_⟩
  try dsimp only
  repeat (first
    | with_reducible assumption
    | with_reducible apply keeps_orphaned
    | with_reducible apply Keeps.ite
    | (with_reducible apply Keeps.upd; with_reducible first | assumption | apply keeps_orphaned | apply Keeps.ite)
    | (refine Keeps.pair (by assumption) ?_)
    | (refine Keeps.pair3 (by assumption) ?_)
    | (intro _ _ _)
    | (intro _ _)
    | (intro _)
    | split
    | dsimp only)

theorem keeps_stackTake {s0 : State} (s : State) (f : MsgFrame) (h : Keeps s0 s) :
    Keeps s0 (State.stackTake s f) := by
  unfold State.stackTake
  try dsimp only
  repeat (first
    | with_reducible assumption
    | with_reducible apply keeps_offer
    | with_reducible apply keeps_deliver
    | with_reducible apply Keeps.ite
    | (with_reducible apply Keeps.upd; with_reducible first | assumption | apply keeps_offer | apply keeps_deliver | apply Keeps.ite)
    | (refine Keeps.pair (by assumption) ?_)
    | (refine Keeps.pair3 (by assumption) ?_)
    | (intro _ _ _)
    | (intro _ _)
    | (intro _)
    | split
    | dsimp only)

theorem keeps_stackCopy {s0 : State} (s : State) (f : MsgFrame) (acts : Bool) (h : Keeps s0 s) :
    Keeps s0 (State.stackCopy s f acts) := by
  unfold State.stackCopy
  try dsimp only
  repeat (first
    | with_reducible assumption
    | with_reducible apply keeps_dupCheck
    | with_reducible apply keeps_stackTake
    | with_reducible apply Keeps.ite
    | (with_reducible apply Keeps.upd; with_reducible first | assumption | apply keeps_dupCheck | apply keeps_stackTake | apply Keeps.ite)
    | (refine Keeps.pair (by assumption) ?_)
    | (refine Keeps.pair3 (by assumption) ?_)
    | (intro _ _ _)
    | (intro _ _)
    | (intro _)
    | split
    | dsimp only)

theorem keeps_stackToLines {s0 : State} (s : State) (f : MsgFrame) (acts : Bool) (h : Keeps s0 s) :
    Keeps s0 (State.stackToLines s f acts) := by
  unfold State.stackToLines
  try dsimp only
  repeat (first
    | with_reducible assumption
    | with_reducible apply keeps_sendEnd
    | with_reducible apply keeps_deliverLegacy
    | with_reducible apply keeps_unroutable
    | with_reducible apply Keeps.ite
    | (with_reducible apply Keeps.foldl; intro _ _ _)
    | (with_reducible apply Keeps.upd; with_reducible first | assumption | apply keeps_sendEnd | apply keeps_deliverLegacy | apply keeps_unroutable | apply Keeps.ite | (apply Keeps.foldl; intro _ _ _))
    | (refine Keeps.pair (by assumption) ?_)
    | (refine Keeps.pair3 (by assumption) ?_)
    | (intro _ _ _)
    | (intro _ _)
    | (intro _)
    | split
    | dsimp only)

theorem keeps_stackStrip {s0 : State} (s : State) (f : MsgFrame) (h : Keeps s0 s) :
    Keeps s0 (State.stackStrip s f) := by
  unfold State.stackStrip
  try dsimp only
  repeat (first
    | with_reducible assumption
    | with_reducible apply keeps_bump
    | with_reducible apply Keeps.ite
    | (with_reducible apply Keeps.upd; with_reducible first | assumption | apply keeps_bump | apply Keeps.ite)
    | (refine Keeps.pair (by assumption) ?_)
    | (refine Keeps.pair3 (by assumption) ?_)
    | (intro _ _ _)
    | (intro _ _)
    | (intro _)
    | split
    | dsimp only)

theorem keeps_masterFrame {s0 : State} (s : State) (f : MsgFrame) (acts : Bool) (h : Keeps s0 s) :
    Keeps s0 (State.masterFrame s f acts) := by
  unfold State.masterFrame
  try dsimp only
  repeat (first
    | with_reducible assumption
    | with_reducible apply keeps_stackStrip
    | with_reducible apply keeps_stackRelay
    | with_reducible apply keeps_stackToLines
    | with_reducible apply keeps_stackCopy
    | with_reducible apply keeps_stackTake
    | with_reducible apply keeps_unroutable
    | with_reducible apply Keeps.ite
    | (with_reducible apply Keeps.upd; with_reducible first | assumption | apply keeps_stackStrip | apply keeps_stackRelay | apply keeps_stackToLines | apply keeps_stackCopy | apply keeps_stackTake | apply keeps_unroutable | apply Keeps.ite)
    | (refine Keeps.pair (by assumption) ?_)
    | (refine Keeps.pair3 (by assumption) ?_)
    | (intro _ _ _)
    | (intro _ _)
    | (intro _)
    | split
    | dsimp only)

theorem keeps_memberFrame {s0 : State} (s : State) (f : MsgFrame) (acts : Bool) (h : Keeps s0 s) :
    Keeps s0 (State.memberFrame s f acts) := by
  unfold State.memberFrame
  try dsimp only
  repeat (first
    | with_reducible assumption
    | with_reducible apply keeps_stackRelay
    | with_reducible apply keeps_stackCopy
    | with_reducible apply keeps_stackTake
    | with_reducible apply keeps_unroutable
    | with_reducible apply Keeps.ite
    | (with_reducible apply Keeps.upd; with_reducible first | assumption | apply keeps_stackRelay | apply keeps_stackCopy | apply keeps_stackTake | apply keeps_unroutable | apply Keeps.ite)
    | (refine Keeps.pair (by assumption) ?_)
    | (refine Keeps.pair3 (by assumption) ?_)
    | (intro _ _ _)
    | (intro _ _)
    | (intro _)
    | split
    | dsimp only)

theorem keeps_stackFrame {s0 : State} (s : State) (f : MsgFrame) (h : Keeps s0 s) :
    Keeps s0 (State.stackFrame s f) := by
  unfold State.stackFrame
  try dsimp only
  repeat (first
    | with_reducible assumption
    | with_reducible apply keeps_memberFrame
    | with_reducible apply keeps_masterFrame
    | with_reducible apply keeps_bump
    | with_reducible apply keeps_stackStrip
    | with_reducible apply Keeps.ite
    | (with_reducible apply Keeps.upd; with_reducible first | assumption | apply keeps_memberFrame | apply keeps_masterFrame | apply keeps_bump | apply keeps_stackStrip | apply Keeps.ite)
    | (refine Keeps.pair (by assumption) ?_)
    | (refine Keeps.pair3 (by assumption) ?_)
    | (intro _ _ _)
    | (intro _ _)
    | (intro _)
    | split
    | dsimp only)

theorem keeps_execStackFrameReceive {s0 : State} (frame : MsgFrame) (s : State) (h : Keeps s0 s) :
    ∃ u, execStackFrameReceive frame s = finish u ∧ Keeps s0 u := by
  refine ⟨_, rfl, ?_⟩
  try dsimp only
  repeat (first
    | with_reducible assumption
    | with_reducible apply keeps_stackFrame
    | with_reducible apply Keeps.ite
    | (with_reducible apply Keeps.upd; with_reducible first | assumption | apply keeps_stackFrame | apply Keeps.ite)
    | (refine Keeps.pair (by assumption) ?_)
    | (refine Keeps.pair3 (by assumption) ?_)
    | (intro _ _ _)
    | (intro _ _)
    | (intro _)
    | split
    | dsimp only)

theorem keeps_execStackLaneDown {s0 : State} (s : State) (h : Keeps s0 s) :
    ∃ u, execStackLaneDown s = finish u ∧ Keeps s0 u := by
  refine ⟨_, rfl, ?_⟩
  try dsimp only
  repeat (first
    | with_reducible assumption
    | with_reducible apply keeps_set
    | with_reducible apply Keeps.ite
    | (with_reducible apply Keeps.upd; with_reducible first | assumption | apply keeps_set | apply Keeps.ite)
    | (refine Keeps.pair (by assumption) ?_)
    | (refine Keeps.pair3 (by assumption) ?_)
    | (intro _ _ _)
    | (intro _ _)
    | (intro _)
    | split
    | dsimp only)

theorem keeps_execStackLaneUp {s0 : State} (s : State) (h : Keeps s0 s) :
    ∃ u, execStackLaneUp s = finish u ∧ Keeps s0 u := by
  refine ⟨_, rfl, ?_⟩
  try dsimp only
  repeat (first
    | with_reducible assumption
    | with_reducible apply keeps_set
    | with_reducible apply Keeps.ite
    | (with_reducible apply Keeps.upd; with_reducible first | assumption | apply keeps_set | apply Keeps.ite)
    | (refine Keeps.pair (by assumption) ?_)
    | (refine Keeps.pair3 (by assumption) ?_)
    | (intro _ _ _)
    | (intro _ _)
    | (intro _)
    | split
    | dsimp only)

theorem keeps_cmdBypass {s0 : State} (a : ℕ) (t : State) (h : Keeps s0 t) :
    Keeps s0 ((cmdBypass ).run a t) := by
  unfold cmdBypass
  try dsimp only
  repeat (first
    | with_reducible assumption
    | with_reducible apply keeps_dropLine
    | with_reducible apply keeps_stkMap
    | with_reducible apply Keeps.ite
    | (with_reducible apply Keeps.upd; with_reducible first | assumption | apply keeps_dropLine | apply keeps_stkMap | apply Keeps.ite)
    | (refine Keeps.pair (by assumption) ?_)
    | (refine Keeps.pair3 (by assumption) ?_)
    | (intro _ _ _)
    | (intro _ _)
    | (intro _)
    | split
    | dsimp only)

theorem keeps_execBypass {s0 : State} (path : Path) (arg : ℕ) (s : State) (h : Keeps s0 s) :
    ∃ u, execBypass path arg s = finish u ∧ Keeps s0 u := by
  refine ⟨_, rfl, ?_⟩
  try dsimp only
  repeat (first
    | with_reducible assumption
    | with_reducible apply keeps_command
    | with_reducible apply keeps_cmdBypass
    | with_reducible apply Keeps.ite
    | (with_reducible apply Keeps.upd; with_reducible first | assumption | apply keeps_command | apply keeps_cmdBypass | apply Keeps.ite)
    | (refine Keeps.pair (by assumption) ?_)
    | (refine Keeps.pair3 (by assumption) ?_)
    | (intro _ _ _)
    | (intro _ _)
    | (intro _)
    | split
    | dsimp only)

theorem keeps_cmdStkRejoin {s0 : State} (a : ℕ) (t : State) (h : Keeps s0 t) :
    Keeps s0 ((cmdStkRejoin ).run a t) := by
  unfold cmdStkRejoin
  try dsimp only
  repeat (first
    | with_reducible assumption
    | with_reducible apply keeps_stkMap
    | with_reducible apply keeps_set
    | with_reducible apply Keeps.ite
    | (with_reducible apply Keeps.upd; with_reducible first | assumption | apply keeps_stkMap | apply keeps_set | apply Keeps.ite)
    | (refine Keeps.pair (by assumption) ?_)
    | (refine Keeps.pair3 (by assumption) ?_)
    | (intro _ _ _)
    | (intro _ _)
    | (intro _)
    | split
    | dsimp only)

theorem keeps_execStkRejoin {s0 : State} (path : Path) (arg : ℕ) (s : State) (h : Keeps s0 s) :
    ∃ u, execStkRejoin path arg s = finish u ∧ Keeps s0 u := by
  refine ⟨_, rfl, ?_⟩
  try dsimp only
  repeat (first
    | with_reducible assumption
    | with_reducible apply keeps_command
    | with_reducible apply keeps_cmdStkRejoin
    | with_reducible apply Keeps.ite
    | (with_reducible apply Keeps.upd; with_reducible first | assumption | apply keeps_command | apply keeps_cmdStkRejoin | apply Keeps.ite)
    | (refine Keeps.pair (by assumption) ?_)
    | (refine Keeps.pair3 (by assumption) ?_)
    | (intro _ _ _)
    | (intro _ _)
    | (intro _)
    | split
    | dsimp only)

theorem keeps_execStackWakeActivity {s0 : State} (s : State) (h : Keeps s0 s) :
    ∃ u, execStackWakeActivity s = finish u ∧ Keeps s0 u := by
  refine ⟨_, rfl, ?_⟩
  try dsimp only
  repeat (first
    | with_reducible assumption
    | with_reducible apply keeps_wake
    | with_reducible apply Keeps.ite
    | (with_reducible apply Keeps.upd; with_reducible first | assumption | apply keeps_wake | apply Keeps.ite)
    | (refine Keeps.pair (by assumption) ?_)
    | (refine Keeps.pair3 (by assumption) ?_)
    | (intro _ _ _)
    | (intro _ _)
    | (intro _)
    | split
    | dsimp only)

end Sys2Proof.Machine
end

