-- ==== Sys2Proof/Laws/KeepsBoot.lean ====
section
/-! SUPPORT. The operations of `Sys2Proof/Machine/Boot.lean` keep what `Keeps` names. -/

set_option linter.unusedTactic false
set_option linter.unreachableTactic false

namespace Sys2Proof.Machine

theorem keeps_bootGo {s0 : State} (s : State) (step : ℕ) (h : Keeps s0 s) :
    Keeps s0 (State.bootGo s step) := by
  unfold State.bootGo
  try dsimp only
  repeat (first
    | with_reducible assumption
    | with_reducible apply Keeps.ite
    | (with_reducible apply Keeps.upd; with_reducible first | assumption | apply Keeps.ite)
    | (refine Keeps.pair (by assumption) ?_)
    | (refine Keeps.pair3 (by assumption) ?_)
    | (intro _ _ _)
    | (intro _ _)
    | (intro _)
    | split
    | dsimp only)

theorem keeps_bootWait {s0 : State} (s : State) (sub : ℕ) (h : Keeps s0 s) :
    Keeps s0 (State.bootWait s sub) := by
  unfold State.bootWait
  try dsimp only
  repeat (first
    | with_reducible assumption
    | with_reducible apply keeps_set
    | with_reducible apply keeps_bootGo
    | with_reducible apply Keeps.ite
    | (with_reducible apply Keeps.upd; with_reducible first | assumption | apply keeps_set | apply keeps_bootGo | apply Keeps.ite)
    | (refine Keeps.pair (by assumption) ?_)
    | (refine Keeps.pair3 (by assumption) ?_)
    | (intro _ _ _)
    | (intro _ _)
    | (intro _)
    | split
    | dsimp only)

theorem keeps_goTest {s0 : State} (s : State) (h : Keeps s0 s) :
    Keeps s0 (State.goTest s) := by
  unfold State.goTest
  try dsimp only
  repeat (first
    | with_reducible assumption
    | with_reducible apply keeps_record
    | with_reducible apply keeps_bootWait
    | with_reducible apply Keeps.ite
    | (with_reducible apply Keeps.upd; with_reducible first | assumption | apply keeps_record | apply keeps_bootWait | apply Keeps.ite)
    | (refine Keeps.pair (by assumption) ?_)
    | (refine Keeps.pair3 (by assumption) ?_)
    | (intro _ _ _)
    | (intro _ _)
    | (intro _)
    | split
    | dsimp only)

theorem keeps_releaseReset {s0 : State} (s : State) (straps : ℕ) (h : Keeps s0 s) :
    Keeps s0 (State.releaseReset s straps) := by
  unfold State.releaseReset
  try dsimp only
  repeat (first
    | with_reducible assumption
    | with_reducible apply keeps_startBoot
    | with_reducible apply keeps_set
    | with_reducible apply Keeps.ite
    | (with_reducible apply Keeps.upd; with_reducible first | assumption | apply keeps_startBoot | apply keeps_set | apply Keeps.ite)
    | (refine Keeps.pair (by assumption) ?_)
    | (refine Keeps.pair3 (by assumption) ?_)
    | (intro _ _ _)
    | (intro _ _)
    | (intro _)
    | split
    | dsimp only)

theorem keeps_execInternalResetRelease {s0 : State} (straps : ℕ) (s : State) (h : Keeps s0 s) :
    ∃ u, execInternalResetRelease straps s = finish u ∧ Keeps s0 u := by
  refine ⟨_, rfl, ?_⟩
  try dsimp only
  repeat (first
    | with_reducible assumption
    | with_reducible apply keeps_releaseReset
    | with_reducible apply Keeps.ite
    | (with_reducible apply Keeps.upd; with_reducible first | assumption | apply keeps_releaseReset | apply Keeps.ite)
    | (refine Keeps.pair (by assumption) ?_)
    | (refine Keeps.pair3 (by assumption) ?_)
    | (intro _ _ _)
    | (intro _ _)
    | (intro _)
    | split
    | dsimp only)

theorem keeps_zeroizeAll {s0 : State} (s : State) (h : Keeps s0 s) :
    Keeps s0 (State.zeroizeAll s) := by
  unfold State.zeroizeAll
  have k := keeps_zeroize s h
  exact Keeps.updOtp ⟨Nat.le_refl _, Nat.le_refl _, Nat.le_refl _, Nat.le_refl _⟩ k

theorem keeps_showOtp {s0 : State} (s : State) (h : Keeps s0 s) :
    Keeps s0 (State.showOtp s) := by
  unfold State.showOtp
  try dsimp only
  repeat (first
    | with_reducible assumption
    | with_reducible apply keeps_load
    | with_reducible apply Keeps.ite
    | (with_reducible apply Keeps.upd; with_reducible first | assumption | apply keeps_load | apply Keeps.ite)
    | (refine Keeps.pair (by assumption) ?_)
    | (refine Keeps.pair3 (by assumption) ?_)
    | (intro _ _ _)
    | (intro _ _)
    | (intro _)
    | split
    | dsimp only)

theorem keeps_otpRead {s0 : State} (s : State) (h : Keeps s0 s) :
    Keeps s0 (State.otpRead s) := by
  unfold State.otpRead
  try dsimp only
  repeat (first
    | with_reducible assumption
    | with_reducible apply keeps_showOtp
    | with_reducible apply keeps_pulse
    | with_reducible apply keeps_bootGo
    | with_reducible apply keeps_showQueue
    | with_reducible apply keeps_zeroizeAll
    | with_reducible apply Keeps.ite
    | (with_reducible apply Keeps.upd; with_reducible first | assumption | apply keeps_showOtp | apply keeps_pulse | apply keeps_bootGo | apply keeps_showQueue | apply keeps_zeroizeAll | apply Keeps.ite)
    | (refine Keeps.pair (by assumption) ?_)
    | (refine Keeps.pair3 (by assumption) ?_)
    | (intro _ _ _)
    | (intro _ _)
    | (intro _)
    | split
    | dsimp only)

theorem keeps_execBootOtpReadDone {s0 : State} (s : State) (h : Keeps s0 s) :
    ∃ u, execBootOtpReadDone s = finish u ∧ Keeps s0 u := by
  refine ⟨_, rfl, ?_⟩
  try dsimp only
  repeat (first
    | with_reducible assumption
    | with_reducible apply keeps_otpRead
    | with_reducible apply Keeps.ite
    | (with_reducible apply Keeps.upd; with_reducible first | assumption | apply keeps_otpRead | apply Keeps.ite)
    | (refine Keeps.pair (by assumption) ?_)
    | (refine Keeps.pair3 (by assumption) ?_)
    | (intro _ _ _)
    | (intro _ _)
    | (intro _)
    | split
    | dsimp only)

theorem keeps_readTamper {s0 : State} (s : State) (h : Keeps s0 s) :
    Keeps s0 (State.readTamper s) := by
  unfold State.readTamper
  try dsimp only
  repeat (first
    | with_reducible assumption
    | with_reducible apply keeps_keyMap
    | with_reducible apply keeps_record
    | with_reducible apply Keeps.ite
    | (with_reducible apply Keeps.upd; with_reducible first | assumption | apply keeps_keyMap | apply keeps_record | apply Keeps.ite)
    | (refine Keeps.pair (by assumption) ?_)
    | (refine Keeps.pair3 (by assumption) ?_)
    | (intro _ _ _)
    | (intro _ _)
    | (intro _)
    | split
    | dsimp only)

theorem keeps_vaultCheck {s0 : State} (s : State) (recordEcc : Bool) (h : Keeps s0 s) :
    Keeps s0 (State.vaultCheck s recordEcc).2 := by
  unfold State.vaultCheck
  try dsimp only
  repeat (first
    | with_reducible assumption
    | with_reducible apply keeps_readTamper
    | with_reducible apply keeps_set
    | with_reducible apply keeps_showVault
    | with_reducible apply keeps_pulse
    | with_reducible apply Keeps.ite
    | (with_reducible apply Keeps.upd; with_reducible first | assumption | apply keeps_readTamper | apply keeps_set | apply keeps_showVault | apply keeps_pulse | apply Keeps.ite)
    | (refine Keeps.pair (by assumption) ?_)
    | (refine Keeps.pair3 (by assumption) ?_)
    | (intro _ _ _)
    | (intro _ _)
    | (intro _)
    | split
    | dsimp only)

theorem keeps_afterVault {s0 : State} (s : State) (h : Keeps s0 s) :
    Keeps s0 (State.afterVault s) := by
  unfold State.afterVault
  try dsimp only
  repeat (first
    | with_reducible assumption
    | with_reducible apply keeps_bootWait
    | with_reducible apply keeps_bootGo
    | with_reducible apply keeps_bootToSafe
    | with_reducible apply keeps_goTest
    | with_reducible apply Keeps.ite
    | (with_reducible apply Keeps.upd; with_reducible first | assumption | apply keeps_bootWait | apply keeps_bootGo | apply keeps_bootToSafe | apply keeps_goTest | apply Keeps.ite)
    | (refine Keeps.pair (by assumption) ?_)
    | (refine Keeps.pair3 (by assumption) ?_)
    | (intro _ _ _)
    | (intro _ _)
    | (intro _)
    | split
    | dsimp only)

theorem keeps_selfTested {s0 : State} (s : State) (pass : Bool) (failed : List ℕ) (recordEcc : Bool) (h : Keeps s0 s) :
    Keeps s0 (State.selfTested s pass failed recordEcc) := by
  unfold State.selfTested
  try dsimp only
  repeat (first
    | with_reducible assumption
    | with_reducible apply keeps_retire
    | with_reducible apply keeps_bootToSafe
    | with_reducible apply keeps_vaultCheck
    | with_reducible apply keeps_afterVault
    | with_reducible apply Keeps.ite
    | (with_reducible apply Keeps.foldl; intro _ _ _)
    | (with_reducible apply Keeps.upd; with_reducible first | assumption | apply keeps_retire | apply keeps_bootToSafe | apply keeps_vaultCheck | apply keeps_afterVault | apply Keeps.ite | (apply Keeps.foldl; intro _ _ _))
    | (refine Keeps.pair (by assumption) ?_)
    | (refine Keeps.pair3 (by assumption) ?_)
    | (intro _ _ _)
    | (intro _ _)
    | (intro _)
    | split
    | dsimp only)

theorem keeps_execBootSelftestDone {s0 : State} (pass : Bool) (failedChannels : List ℕ) (recordEcc : Bool) (s : State) (h : Keeps s0 s) :
    ∃ u, execBootSelftestDone pass failedChannels recordEcc s = finish u ∧ Keeps s0 u := by
  refine ⟨_, rfl, ?_⟩
  try dsimp only
  repeat (first
    | with_reducible assumption
    | with_reducible apply keeps_selfTested
    | with_reducible apply Keeps.ite
    | (with_reducible apply Keeps.upd; with_reducible first | assumption | apply keeps_selfTested | apply Keeps.ite)
    | (refine Keeps.pair (by assumption) ?_)
    | (refine Keeps.pair3 (by assumption) ?_)
    | (intro _ _ _)
    | (intro _ _)
    | (intro _)
    | split
    | dsimp only)

theorem keeps_takeImage {s0 : State} (s : State) (i : Image) (src : ℕ) (h : Keeps s0 s) :
    Keeps s0 (State.takeImage s i src) := by
  unfold State.takeImage
  try dsimp only
  repeat (first
    | with_reducible assumption
    | with_reducible apply keeps_bootGo
    | with_reducible apply keeps_load
    | with_reducible apply Keeps.ite
    | (with_reducible apply Keeps.upd; with_reducible first | assumption | apply keeps_bootGo | apply keeps_load | apply Keeps.ite)
    | (refine Keeps.pair (by assumption) ?_)
    | (refine Keeps.pair3 (by assumption) ?_)
    | (intro _ _ _)
    | (intro _ _)
    | (intro _)
    | split
    | dsimp only)

theorem keeps_imageFails {s0 : State} (s : State) (result : ℕ) (h : Keeps s0 s) :
    Keeps s0 (State.imageFails s result) := by
  unfold State.imageFails
  try dsimp only
  repeat (first
    | with_reducible assumption
    | with_reducible apply keeps_bootWait
    | with_reducible apply keeps_set
    | with_reducible apply keeps_bootToSafe
    | with_reducible apply Keeps.ite
    | (with_reducible apply Keeps.upd; with_reducible first | assumption | apply keeps_bootWait | apply keeps_set | apply keeps_bootToSafe | apply Keeps.ite)
    | (refine Keeps.pair (by assumption) ?_)
    | (refine Keeps.pair3 (by assumption) ?_)
    | (intro _ _ _)
    | (intro _ _)
    | (intro _)
    | split
    | dsimp only)

theorem keeps_verifyImages {s0 : State} (s : State) (h : Keeps s0 s) :
    Keeps s0 (State.verifyImages s) := by
  unfold State.verifyImages
  try dsimp only
  repeat (first
    | with_reducible assumption
    | with_reducible apply keeps_imageFails
    | with_reducible apply keeps_takeImage
    | with_reducible apply keeps_pulse
    | with_reducible apply Keeps.ite
    | (with_reducible apply Keeps.upd; with_reducible first | assumption | apply keeps_imageFails | apply keeps_takeImage | apply keeps_pulse | apply Keeps.ite)
    | (refine Keeps.pair (by assumption) ?_)
    | (refine Keeps.pair3 (by assumption) ?_)
    | (intro _ _ _)
    | (intro _ _)
    | (intro _)
    | split
    | dsimp only)

theorem keeps_execBootImageVerified {s0 : State} (s : State) (h : Keeps s0 s) :
    ∃ u, execBootImageVerified s = finish u ∧ Keeps s0 u := by
  refine ⟨_, rfl, ?_⟩
  try dsimp only
  repeat (first
    | with_reducible assumption
    | with_reducible apply keeps_verifyImages
    | with_reducible apply Keeps.ite
    | (with_reducible apply Keeps.upd; with_reducible first | assumption | apply keeps_verifyImages | apply Keeps.ite)
    | (refine Keeps.pair (by assumption) ?_)
    | (refine Keeps.pair3 (by assumption) ?_)
    | (intro _ _ _)
    | (intro _ _)
    | (intro _)
    | split
    | dsimp only)

theorem keeps_applyImage {s0 : State} (s : State) (i : Image) (h : Keeps s0 s) :
    Keeps s0 (State.applyImage s i) := by
  unfold State.applyImage
  try dsimp only
  repeat (first
    | with_reducible assumption
    | with_reducible apply keeps_load
    | with_reducible apply keeps_fixSource
    | with_reducible apply keeps_msgConfigEpoch
    | with_reducible apply Keeps.ite
    | (with_reducible apply Keeps.foldl; intro _ _ _)
    | (with_reducible apply Keeps.upd; with_reducible first | assumption | apply keeps_load | apply keeps_fixSource | apply keeps_msgConfigEpoch | apply Keeps.ite | (apply Keeps.foldl; intro _ _ _))
    | (refine Keeps.pair (by assumption) ?_)
    | (refine Keeps.pair3 (by assumption) ?_)
    | (intro _ _ _)
    | (intro _ _)
    | (intro _)
    | split
    | dsimp only)

theorem keeps_startGtn {s0 : State} (s : State) (h : Keeps s0 s) :
    Keeps s0 (State.startGtn s) := by
  unfold State.startGtn
  try dsimp only
  repeat (first
    | with_reducible assumption
    | with_reducible apply keeps_gtnMap
    | with_reducible apply keeps_set
    | with_reducible apply keeps_legacyLog
    | with_reducible apply keeps_setSsr
    | with_reducible apply Keeps.ite
    | (with_reducible apply Keeps.foldl; intro _ _ _)
    | (with_reducible apply Keeps.upd; with_reducible first | assumption | apply keeps_gtnMap | apply keeps_set | apply keeps_legacyLog | apply keeps_setSsr | apply Keeps.ite | (apply Keeps.foldl; intro _ _ _))
    | (refine Keeps.pair (by assumption) ?_)
    | (refine Keeps.pair3 (by assumption) ?_)
    | (intro _ _ _)
    | (intro _ _)
    | (intro _)
    | split
    | dsimp only)

theorem keeps_startMode {s0 : State} (s : State) (m : ℕ) (h : Keeps s0 s) :
    Keeps s0 (State.startMode s m) := by
  unfold State.startMode
  try dsimp only
  repeat (first
    | with_reducible assumption
    | with_reducible apply keeps_startGtn
    | with_reducible apply keeps_gForce
    | with_reducible apply keeps_gStart
    | with_reducible apply keeps_standbyStart
    | with_reducible apply Keeps.ite
    | (with_reducible apply Keeps.upd; with_reducible first | assumption | apply keeps_startGtn | apply keeps_gForce | apply keeps_gStart | apply keeps_standbyStart | apply Keeps.ite)
    | (refine Keeps.pair (by assumption) ?_)
    | (refine Keeps.pair3 (by assumption) ?_)
    | (intro _ _ _)
    | (intro _ _)
    | (intro _)
    | split
    | dsimp only)

theorem keeps_endBoot {s0 : State} (s : State) (m : ℕ) (h : Keeps s0 s) :
    Keeps s0 (State.endBoot s m) := by
  unfold State.endBoot
  try dsimp only
  repeat (first
    | with_reducible assumption
    | with_reducible apply keeps_closeBoot
    | with_reducible apply keeps_startMode
    | with_reducible apply keeps_setMode
    | with_reducible apply keeps_set
    | with_reducible apply Keeps.ite
    | (with_reducible apply Keeps.upd; with_reducible first | assumption | apply keeps_closeBoot | apply keeps_startMode | apply keeps_setMode | apply keeps_set | apply Keeps.ite)
    | (refine Keeps.pair (by assumption) ?_)
    | (refine Keeps.pair3 (by assumption) ?_)
    | (intro _ _ _)
    | (intro _ _)
    | (intro _)
    | split
    | dsimp only)

theorem keeps_applyBoot {s0 : State} (s : State) (h : Keeps s0 s) :
    Keeps s0 (State.applyBoot s) := by
  unfold State.applyBoot
  try dsimp only
  repeat (first
    | with_reducible assumption
    | with_reducible apply keeps_endBoot
    | with_reducible apply keeps_applyImage
    | with_reducible apply keeps_bootGo
    | with_reducible apply keeps_set
    | with_reducible apply Keeps.ite
    | (with_reducible apply Keeps.upd; with_reducible first | assumption | apply keeps_endBoot | apply keeps_applyImage | apply keeps_bootGo | apply keeps_set | apply Keeps.ite)
    | (refine Keeps.pair (by assumption) ?_)
    | (refine Keeps.pair3 (by assumption) ?_)
    | (intro _ _ _)
    | (intro _ _)
    | (intro _)
    | split
    | dsimp only)

theorem keeps_execBootEnd {s0 : State} (s : State) (h : Keeps s0 s) :
    ∃ u, execBootEnd s = finish u ∧ Keeps s0 u := by
  refine ⟨_, rfl, ?_⟩
  try dsimp only
  repeat (first
    | with_reducible assumption
    | with_reducible apply keeps_applyBoot
    | with_reducible apply Keeps.ite
    | (with_reducible apply Keeps.upd; with_reducible first | assumption | apply keeps_applyBoot | apply Keeps.ite)
    | (refine Keeps.pair (by assumption) ?_)
    | (refine Keeps.pair3 (by assumption) ?_)
    | (intro _ _ _)
    | (intro _ _)
    | (intro _)
    | split
    | dsimp only)

end Sys2Proof.Machine
end

