-- ==== Sys2Proof/Laws/KeepsWakeBoot.lean ====
section
/-! SUPPORT. The operations of `Sys2Proof/Machine/WakeBoot.lean` keep what `Keeps` names. -/

set_option linter.unusedTactic false
set_option linter.unreachableTactic false

namespace Sys2Proof.Machine

theorem putAll_sorted (l : List (Nat × Nat)) {t : List (Nat × Nat)} (h : tabSorted t = true) :
    tabSorted (putAll l t) = true := by
  unfold putAll
  induction l generalizing t with
  | nil => exact h
  | cons e l ih => exact ih (tabSorted_put _ _ h)

theorem keeps_restoreArea {s0 : State} (s : State) (r : Resume) (h : Keeps s0 s) :
    Keeps s0 (State.restoreArea s r) := by
  unfold State.restoreArea
  dsimp only
  exact keeps_msgConfigEpoch _ (keeps_set _ _ _ (keeps_showMap _ _ (keeps_cycMap _ _ (keeps_slpMap _ _
    (Keeps.updRegs (fun x => putAll_sorted r.regs x) h)))))

theorem keeps_restoreTime {s0 : State} (s : State) (r : Resume) (h : Keeps s0 s) :
    Keeps s0 (State.restoreTime s r) := by
  unfold State.restoreTime
  try dsimp only
  repeat (first
    | with_reducible assumption
    | with_reducible apply keeps_set
    | with_reducible apply keeps_timMap
    | with_reducible apply Keeps.ite
    | (with_reducible apply Keeps.upd; with_reducible first | assumption | apply keeps_set | apply keeps_timMap | apply Keeps.ite)
    | (refine Keeps.pair (by assumption) ?_)
    | (refine Keeps.pair3 (by assumption) ?_)
    | (intro _ _ _)
    | (intro _ _)
    | (intro _)
    | split
    | dsimp only)

theorem keeps_startServo {s0 : State} (s : State) (m : ℕ) (h : Keeps s0 s) :
    Keeps s0 (State.startServo s m) := by
  unfold State.startServo
  try dsimp only
  repeat (first
    | with_reducible assumption
    | with_reducible apply keeps_set
    | with_reducible apply Keeps.ite
    | (with_reducible apply Keeps.upd; with_reducible first | assumption | apply keeps_set | apply Keeps.ite)
    | (refine Keeps.pair (by assumption) ?_)
    | (refine Keeps.pair3 (by assumption) ?_)
    | (intro _ _ _)
    | (intro _ _)
    | (intro _)
    | split
    | dsimp only)

theorem keeps_restoreFlows {s0 : State} (s : State) (h : Keeps s0 s) :
    Keeps s0 (State.restoreFlows s) := by
  unfold State.restoreFlows
  try dsimp only
  repeat (first
    | with_reducible assumption
    | with_reducible apply keeps_startFlow
    | with_reducible apply keeps_putWin
    | with_reducible apply keeps_resolveWindow
    | with_reducible apply keeps_set
    | with_reducible apply Keeps.ite
    | (with_reducible apply Keeps.foldl; intro _ _ _)
    | (with_reducible apply Keeps.upd; with_reducible first | assumption | apply keeps_startFlow | apply keeps_putWin | apply keeps_resolveWindow | apply keeps_set | apply Keeps.ite | (apply Keeps.foldl; intro _ _ _))
    | (refine Keeps.pair (by assumption) ?_)
    | (refine Keeps.pair3 (by assumption) ?_)
    | (intro _ _ _)
    | (intro _ _)
    | (intro _)
    | split
    | dsimp only)

theorem keeps_startWatch {s0 : State} (s : State) (h : Keeps s0 s) :
    Keeps s0 (State.startWatch s) := by
  unfold State.startWatch
  try dsimp only
  repeat (first
    | with_reducible assumption
    | with_reducible apply keeps_load
    | with_reducible apply keeps_set
    | with_reducible apply keeps_slpMap
    | with_reducible apply keeps_confirmWake
    | with_reducible apply Keeps.ite
    | (with_reducible apply Keeps.upd; with_reducible first | assumption | apply keeps_load | apply keeps_set | apply keeps_slpMap | apply keeps_confirmWake | apply Keeps.ite)
    | (refine Keeps.pair (by assumption) ?_)
    | (refine Keeps.pair3 (by assumption) ?_)
    | (intro _ _ _)
    | (intro _ _)
    | (intro _)
    | split
    | dsimp only)

theorem keeps_endWake {s0 : State} (s : State) (m : ℕ) (h : Keeps s0 s) :
    Keeps s0 (State.endWake s m) := by
  unfold State.endWake
  try dsimp only
  repeat (first
    | with_reducible assumption
    | with_reducible apply keeps_startWatch
    | with_reducible apply keeps_endBoot
    | with_reducible apply keeps_startServo
    | with_reducible apply Keeps.ite
    | (with_reducible apply Keeps.upd; with_reducible first | assumption | apply keeps_startWatch | apply keeps_endBoot | apply keeps_startServo | apply Keeps.ite)
    | (refine Keeps.pair (by assumption) ?_)
    | (refine Keeps.pair3 (by assumption) ?_)
    | (intro _ _ _)
    | (intro _ _)
    | (intro _)
    | split
    | dsimp only)

theorem keeps_resumeFrom {s0 : State} (s : State) (r : Resume) (h : Keeps s0 s) :
    Keeps s0 (State.resumeFrom s r) := by
  unfold State.resumeFrom
  try dsimp only
  repeat (first
    | with_reducible assumption
    | with_reducible apply keeps_restoreFlows
    | with_reducible apply keeps_restoreTime
    | with_reducible apply keeps_restoreArea
    | with_reducible apply keeps_bootGo
    | with_reducible apply keeps_endWake
    | with_reducible apply Keeps.ite
    | (with_reducible apply Keeps.upd; with_reducible first | assumption | apply keeps_restoreFlows | apply keeps_restoreTime | apply keeps_restoreArea | apply keeps_bootGo | apply keeps_endWake | apply Keeps.ite)
    | (refine Keeps.pair (by assumption) ?_)
    | (refine Keeps.pair3 (by assumption) ?_)
    | (intro _ _ _)
    | (intro _ _)
    | (intro _)
    | split
    | dsimp only)

theorem keeps_bootInstead {s0 : State} (s : State) (h : Keeps s0 s) :
    Keeps s0 (State.bootInstead s) := by
  unfold State.bootInstead
  try dsimp only
  repeat (first
    | with_reducible assumption
    | with_reducible apply keeps_set
    | with_reducible apply keeps_startBoot
    | with_reducible apply keeps_flwMap
    | with_reducible apply Keeps.ite
    | (with_reducible apply Keeps.upd; with_reducible first | assumption | apply keeps_set | apply keeps_startBoot | apply keeps_flwMap | apply Keeps.ite)
    | (refine Keeps.pair (by assumption) ?_)
    | (refine Keeps.pair3 (by assumption) ?_)
    | (intro _ _ _)
    | (intro _ _)
    | (intro _)
    | split
    | dsimp only)

theorem keeps_wakeBoot {s0 : State} (s : State) (selftestPass : Bool) (crcOk : Bool) (h : Keeps s0 s) :
    Keeps s0 (State.wakeBoot s selftestPass crcOk) := by
  unfold State.wakeBoot
  try dsimp only
  repeat (first
    | with_reducible assumption
    | with_reducible apply keeps_bootToSafe
    | with_reducible apply keeps_vaultCheck
    | with_reducible apply keeps_resumeFrom
    | with_reducible apply keeps_bootInstead
    | with_reducible apply Keeps.ite
    | (with_reducible apply Keeps.upd; with_reducible first | assumption | apply keeps_bootToSafe | apply keeps_vaultCheck | apply keeps_resumeFrom | apply keeps_bootInstead | apply Keeps.ite)
    | (refine Keeps.pair (by assumption) ?_)
    | (refine Keeps.pair3 (by assumption) ?_)
    | (intro _ _ _)
    | (intro _ _)
    | (intro _)
    | split
    | dsimp only)

theorem keeps_execWakeBootEnd {s0 : State} (selftestPass : Bool) (resumeCrcOk : Bool) (s : State) (h : Keeps s0 s) :
    ∃ u, execWakeBootEnd selftestPass resumeCrcOk s = finish u ∧ Keeps s0 u := by
  refine ⟨_, rfl, ?_⟩
  try dsimp only
  repeat (first
    | with_reducible assumption
    | with_reducible apply keeps_wakeBoot
    | with_reducible apply Keeps.ite
    | (with_reducible apply Keeps.upd; with_reducible first | assumption | apply keeps_wakeBoot | apply Keeps.ite)
    | (refine Keeps.pair (by assumption) ?_)
    | (refine Keeps.pair3 (by assumption) ?_)
    | (intro _ _ _)
    | (intro _ _)
    | (intro _)
    | split
    | dsimp only)

theorem keeps_endAnyBoot {s0 : State} (s : State) (m : ℕ) (h : Keeps s0 s) :
    Keeps s0 (State.endAnyBoot s m) := by
  unfold State.endAnyBoot
  try dsimp only
  repeat (first
    | with_reducible assumption
    | with_reducible apply keeps_endWake
    | with_reducible apply keeps_endBoot
    | with_reducible apply Keeps.ite
    | (with_reducible apply Keeps.upd; with_reducible first | assumption | apply keeps_endWake | apply keeps_endBoot | apply Keeps.ite)
    | (refine Keeps.pair (by assumption) ?_)
    | (refine Keeps.pair3 (by assumption) ?_)
    | (intro _ _ _)
    | (intro _ _)
    | (intro _)
    | split
    | dsimp only)

theorem keeps_finalStep {s0 : State} (s : State) (interlockFree : Bool) (h : Keeps s0 s) :
    Keeps s0 (State.finalStep s interlockFree) := by
  unfold State.finalStep
  try dsimp only
  repeat (first
    | with_reducible assumption
    | with_reducible apply keeps_endAnyBoot
    | with_reducible apply keeps_claimToken
    | with_reducible apply keeps_releaseInterlock
    | with_reducible apply Keeps.ite
    | (with_reducible apply Keeps.upd; with_reducible first | assumption | apply keeps_endAnyBoot | apply keeps_claimToken | apply keeps_releaseInterlock | apply Keeps.ite)
    | (refine Keeps.pair (by assumption) ?_)
    | (refine Keeps.pair3 (by assumption) ?_)
    | (intro _ _ _)
    | (intro _ _)
    | (intro _)
    | split
    | dsimp only)

theorem keeps_execPairBootFinalStep {s0 : State} (interlockFree : Bool) (s : State) (h : Keeps s0 s) :
    ∃ u, execPairBootFinalStep interlockFree s = finish u ∧ Keeps s0 u := by
  refine ⟨_, rfl, ?_⟩
  try dsimp only
  repeat (first
    | with_reducible assumption
    | with_reducible apply keeps_finalStep
    | with_reducible apply Keeps.ite
    | (with_reducible apply Keeps.upd; with_reducible first | assumption | apply keeps_finalStep | apply Keeps.ite)
    | (refine Keeps.pair (by assumption) ?_)
    | (refine Keeps.pair3 (by assumption) ?_)
    | (intro _ _ _)
    | (intro _ _)
    | (intro _)
    | split
    | dsimp only)

end Sys2Proof.Machine
end

