-- ==== Sys2Proof/Laws/KeepsRings.lean ====
section
/-! SUPPORT. The operations of `Sys2Proof/Machine/Rings.lean` keep what `Keeps` names. -/

set_option linter.unusedTactic false
set_option linter.unreachableTactic false

namespace Sys2Proof.Machine

/-- A command's effect keeps what `Keeps` names. -/
def cmdKeeps (c : CmdSpec) : Prop := ∀ (s0 t : State) (a : ℕ), Keeps s0 t → Keeps s0 (c.run a t)

theorem glbCommands_keep (straps : ℕ) : ∀ c ∈ glbCommands straps, cmdKeeps c := by
  intro c hc
  simp only [glbCommands, List.mem_cons, List.not_mem_nil, or_false] at hc
  rcases hc with rfl | rfl | rfl | rfl | rfl | rfl | rfl | rfl | rfl | rfl | rfl <;> intro s0 t a h
  · exact keeps_cmdRestart straps a t h
  · exact keeps_cmdEnterSafe a t h
  · exact keeps_cmdConfigDone a t h
  · exact keeps_cmdEnterTest a t h
  · exact keeps_cmdSleepVote a t h
  · exact keeps_cmdConfigStore a t h
  · exact keeps_cmdDebugOpen a t h
  · exact keeps_cmdLcPersonalize a t h
  · exact keeps_cmdLcField a t h
  · exact keeps_cmdLcReturn a t h
  · exact keeps_cmdLcScrap a t h

theorem lnCommands_keep (p : ℕ) : ∀ c ∈ lnCommands p, cmdKeeps c := by
  intro c hc
  simp only [lnCommands, List.mem_cons, List.not_mem_nil, or_false] at hc
  rcases hc with rfl | rfl | rfl | rfl <;> intro s0 t a h
  · exact keeps_cmdRecalibrate p a t h
  · exact keeps_cmdSetDelayBase p a t h
  · exact keeps_cmdEchoReset p a t h
  · exact keeps_cmdKaTest p a t h

theorem canCommands_keep (n : ℕ) : ∀ c ∈ canCommands n, cmdKeeps c := by
  intro c hc
  simp only [canCommands, List.mem_cons, List.not_mem_nil, or_false] at hc
  rcases hc with rfl | rfl | rfl <;> intro s0 t a h
  · exact keeps_cmdCanStart n a t h
  · exact keeps_cmdCanStop n a t h
  · exact keeps_cmdCanCancel n a t h

theorem blockCommands_keep : ∀ c ∈ blockCommands, cmdKeeps c := by
  intro c hc
  simp only [blockCommands, List.mem_cons, List.not_mem_nil, or_false] at hc
  rcases hc with rfl | rfl | rfl | rfl | rfl | rfl | rfl | rfl | rfl | rfl | rfl | rfl | rfl | rfl | rfl | rfl | rfl | rfl | rfl | rfl | rfl <;> intro s0 t a h
  · exact keeps_cmdRecClear a t h
  · exact keeps_cmdKeyWrite a t h
  · exact keeps_cmdKeyErase a t h
  · exact keeps_cmdKeySwitch a t h
  · exact keeps_cmdTamperClear a t h
  · exact keeps_cmdStep a t h
  · exact keeps_cmdClearValid a t h
  · exact keeps_cmdInaugurate a t h
  · exact keeps_cmdDeclare a t h
  · exact keeps_cmdMapReissue a t h
  · exact keeps_cmdFlowEnable a t h
  · exact keeps_cmdFlowDisable a t h
  · exact keeps_cmdSliceApply a t h
  · exact keeps_cmdRejoin a t h
  · exact keeps_cmdPortReset a t h
  · exact keeps_cmdWinEnable a t h
  · exact keeps_cmdWinDisable a t h
  · exact keeps_cmdResync a t h
  · exact keeps_cmdSelect a t h
  · exact keeps_cmdBypass a t h
  · exact keeps_cmdStkRejoin a t h

theorem allCommands_keep (straps : ℕ) : ∀ c ∈ allCommands straps, cmdKeeps c := by
  intro c hc
  simp only [allCommands, List.mem_append, List.mem_flatten, List.mem_map] at hc
  rcases hc with ((hc | ⟨_, ⟨p, _, rfl⟩, hc⟩) | ⟨_, ⟨n, _, rfl⟩, hc⟩) | hc
  exacts [glbCommands_keep straps c hc, lnCommands_keep p c hc, canCommands_keep n c hc, blockCommands_keep c hc]

theorem keeps_issue {s0 : State} (s : State) (path : Path) (straps : ℕ) (base : ℕ) (code : ℕ) (arg : ℕ)
    (h : Keeps s0 s) : Keeps s0 (State.issue s path straps base code arg).2 := by
  unfold State.issue
  split
  · rename_i c hc
    exact keeps_runCmd _ _ _ _ (fun a t ht => allCommands_keep straps c (List.mem_of_find?_eq_some hc) s0 t a ht) h
  · exact keeps_unknownCmd _ _ _ _ _ h

theorem keeps_handItem {s0 : State} (s : State) (k : ℕ) (i : Item) (h : Keeps s0 s) :
    Keeps s0 (State.handItem s k i) := by
  unfold State.handItem
  try dsimp only
  repeat (first
    | with_reducible assumption
    | with_reducible apply keeps_flwMap
    | with_reducible apply keeps_completeTx
    | with_reducible apply keeps_flowTakes
    | with_reducible apply Keeps.ite
    | (with_reducible apply Keeps.foldl; intro _ _ _)
    | (with_reducible apply Keeps.upd; with_reducible first | assumption | apply keeps_flwMap | apply keeps_completeTx | apply keeps_flowTakes | apply Keeps.ite | (apply Keeps.foldl; intro _ _ _))
    | (refine Keeps.pair (by assumption) ?_)
    | (refine Keeps.pair3 (by assumption) ?_)
    | (intro _ _ _)
    | (intro _ _)
    | (intro _)
    | split
    | dsimp only)

theorem keeps_dataDesc {s0 : State} (s : State) (k : ℕ) (d : Descriptor) (h : Keeps s0 s) :
    Keeps s0 (State.dataDesc s k d) := by
  unfold State.dataDesc
  try dsimp only
  repeat (first
    | with_reducible assumption
    | with_reducible apply keeps_completeTx
    | with_reducible apply keeps_handItem
    | with_reducible apply Keeps.ite
    | (with_reducible apply Keeps.upd; with_reducible first | assumption | apply keeps_completeTx | apply keeps_handItem | apply Keeps.ite)
    | (refine Keeps.pair (by assumption) ?_)
    | (refine Keeps.pair3 (by assumption) ?_)
    | (intro _ _ _)
    | (intro _ _)
    | (intro _)
    | split
    | dsimp only)

theorem keeps_cmdDesc {s0 : State} (s : State) (k : ℕ) (d : Descriptor) (h : Keeps s0 s) :
    Keeps s0 (State.cmdDesc s k d) := by
  unfold State.cmdDesc
  try dsimp only
  repeat (first
    | with_reducible assumption
    | with_reducible apply keeps_issue
    | with_reducible apply keeps_completeTx
    | with_reducible apply Keeps.ite
    | (with_reducible apply Keeps.upd; with_reducible first | assumption | apply keeps_issue | apply keeps_completeTx | apply Keeps.ite)
    | (refine Keeps.pair (by assumption) ?_)
    | (refine Keeps.pair3 (by assumption) ?_)
    | (intro _ _ _)
    | (intro _ _)
    | (intro _)
    | split
    | dsimp only)

theorem keeps_bridgeDesc {s0 : State} (s : State) (k : ℕ) (d : Descriptor) (h : Keeps s0 s) :
    Keeps s0 (State.bridgeDesc s k d) := by
  unfold State.bridgeDesc
  try dsimp only
  repeat (first
    | with_reducible assumption
    | with_reducible apply keeps_completeTx
    | with_reducible apply keeps_issueRequest
    | with_reducible apply Keeps.ite
    | (with_reducible apply Keeps.upd; with_reducible first | assumption | apply keeps_completeTx | apply keeps_issueRequest | apply Keeps.ite)
    | (refine Keeps.pair (by assumption) ?_)
    | (refine Keeps.pair3 (by assumption) ?_)
    | (intro _ _ _)
    | (intro _ _)
    | (intro _)
    | split
    | dsimp only)

theorem keeps_txDesc {s0 : State} (s : State) (k : ℕ) (kind : ℕ) (act : Descriptor → State) (ha : ∀ d, Keeps s0 (act d)) (h : Keeps s0 s) :
    Keeps s0 (State.txDesc s k kind act) := by
  unfold State.txDesc
  try dsimp only
  repeat (first
    | with_reducible assumption
    | with_reducible apply ha
    | with_reducible apply keeps_completeTx
    | with_reducible apply Keeps.ite
    | (with_reducible apply Keeps.upd; with_reducible first | assumption | apply ha | apply keeps_completeTx | apply Keeps.ite)
    | (refine Keeps.pair (by assumption) ?_)
    | (refine Keeps.pair3 (by assumption) ?_)
    | (intro _ _ _)
    | (intro _ _)
    | (intro _)
    | split
    | dsimp only)

theorem keeps_execTxDescData {s0 : State} (ring : ℕ) (s : State) (h : Keeps s0 s) :
    ∃ u, execTxDescData ring s = finish u ∧ Keeps s0 u := by
  refine ⟨_, rfl, ?_⟩
  try dsimp only
  repeat (first
    | with_reducible assumption
    | with_reducible apply keeps_txDesc
    | with_reducible apply keeps_dataDesc
    | with_reducible apply Keeps.ite
    | (with_reducible apply Keeps.upd; with_reducible first | assumption | apply keeps_txDesc | apply keeps_dataDesc | apply Keeps.ite)
    | (refine Keeps.pair (by assumption) ?_)
    | (refine Keeps.pair3 (by assumption) ?_)
    | (intro _ _ _)
    | (intro _ _)
    | (intro _)
    | split
    | dsimp only)

theorem keeps_execTxDescCmd {s0 : State} (ring : ℕ) (s : State) (h : Keeps s0 s) :
    ∃ u, execTxDescCmd ring s = finish u ∧ Keeps s0 u := by
  refine ⟨_, rfl, ?_⟩
  try dsimp only
  repeat (first
    | with_reducible assumption
    | with_reducible apply keeps_txDesc
    | with_reducible apply keeps_cmdDesc
    | with_reducible apply Keeps.ite
    | (with_reducible apply Keeps.upd; with_reducible first | assumption | apply keeps_txDesc | apply keeps_cmdDesc | apply Keeps.ite)
    | (refine Keeps.pair (by assumption) ?_)
    | (refine Keeps.pair3 (by assumption) ?_)
    | (intro _ _ _)
    | (intro _ _)
    | (intro _)
    | split
    | dsimp only)

theorem keeps_execTxDescBridge {s0 : State} (ring : ℕ) (s : State) (h : Keeps s0 s) :
    ∃ u, execTxDescBridge ring s = finish u ∧ Keeps s0 u := by
  refine ⟨_, rfl, ?_⟩
  try dsimp only
  repeat (first
    | with_reducible assumption
    | with_reducible apply keeps_txDesc
    | with_reducible apply keeps_bridgeDesc
    | with_reducible apply Keeps.ite
    | (with_reducible apply Keeps.upd; with_reducible first | assumption | apply keeps_txDesc | apply keeps_bridgeDesc | apply Keeps.ite)
    | (refine Keeps.pair (by assumption) ?_)
    | (refine Keeps.pair3 (by assumption) ?_)
    | (intro _ _ _)
    | (intro _ _)
    | (intro _)
    | split
    | dsimp only)

end Sys2Proof.Machine
end

