-- ==== Sys2Proof/Laws/KeepsRegisters.lean ====
section
/-! SUPPORT. The operations of `Sys2Proof/Machine/Registers.lean` keep what `Keeps` names. -/

set_option linter.unusedTactic false
set_option linter.unreachableTactic false

namespace Sys2Proof.Machine

theorem keeps_commandWrite {s0 : State} (s : State) (req : Requester) (base : ℕ) (v : ℕ) (h : Keeps s0 s) :
    Keeps s0 (State.commandWrite s req base v) := by
  unfold State.commandWrite
  try dsimp only
  repeat (first
    | with_reducible assumption
    | with_reducible apply keeps_debugOpen
    | with_reducible apply keeps_issue
    | with_reducible apply keeps_emit
    | with_reducible apply Keeps.ite
    | (with_reducible apply Keeps.upd; with_reducible first | assumption | apply keeps_debugOpen | apply keeps_issue | apply keeps_emit | apply Keeps.ite)
    | (refine Keeps.pair (by assumption) ?_)
    | (refine Keeps.pair3 (by assumption) ?_)
    | (intro _ _ _)
    | (intro _ _)
    | (intro _)
    | split
    | dsimp only)

theorem keeps_accessPortWrite {s0 : State} (s : State) (req : Requester) (p : ℕ) (v : ℕ) (h : Keeps s0 s) :
    Keeps s0 (State.accessPortWrite s req p v) := by
  unfold State.accessPortWrite
  try dsimp only
  repeat (first
    | with_reducible assumption
    | with_reducible apply keeps_apRequest
    | with_reducible apply Keeps.ite
    | (with_reducible apply Keeps.upd; with_reducible first | assumption | apply keeps_apRequest | apply Keeps.ite)
    | (refine Keeps.pair (by assumption) ?_)
    | (refine Keeps.pair3 (by assumption) ?_)
    | (intro _ _ _)
    | (intro _ _)
    | (intro _)
    | split
    | dsimp only)

theorem keeps_writeAt {s0 : State} (s : State) (req : Requester) (a : ℕ) (size : ℕ) (v : ℕ) (h : Keeps s0 s) :
    Keeps s0 (State.writeAt s req a size v) := by
  unfold State.writeAt
  try dsimp only
  repeat (first
    | with_reducible assumption
    | with_reducible apply keeps_writeStep
    | with_reducible apply keeps_commandWrite
    | with_reducible apply keeps_accessPortWrite
    | with_reducible apply keeps_gForce
    | with_reducible apply Keeps.ite
    | (with_reducible apply Keeps.upd; with_reducible first | assumption | apply keeps_writeStep | apply keeps_commandWrite | apply keeps_accessPortWrite | apply keeps_gForce | apply Keeps.ite)
    | (refine Keeps.pair (by assumption) ?_)
    | (refine Keeps.pair3 (by assumption) ?_)
    | (intro _ _ _)
    | (intro _ _)
    | (intro _)
    | split
    | dsimp only)

theorem keeps_execRegisterWrite {s0 : State} (req : Requester) (addr : ℕ) (size : ℕ) (value : ℕ) (s : State) (h : Keeps s0 s) :
    ∃ u, execRegisterWrite req addr size value s = finish u ∧ Keeps s0 u := by
  refine ⟨_, rfl, ?_⟩
  try dsimp only
  repeat (first
    | with_reducible assumption
    | with_reducible apply keeps_writeAt
    | with_reducible apply Keeps.ite
    | (with_reducible apply Keeps.upd; with_reducible first | assumption | apply keeps_writeAt | apply Keeps.ite)
    | (refine Keeps.pair (by assumption) ?_)
    | (refine Keeps.pair3 (by assumption) ?_)
    | (intro _ _ _)
    | (intro _ _)
    | (intro _)
    | split
    | dsimp only)

theorem keeps_execReg64LowerWordWrite {s0 : State} (req : Requester) (addr : ℕ) (value : ℕ) (s : State) (h : Keeps s0 s) :
    ∃ u, execReg64LowerWordWrite req addr value s = finish u ∧ Keeps s0 u := by
  refine ⟨_, rfl, ?_⟩
  try dsimp only
  repeat (first
    | with_reducible assumption
    | with_reducible apply keeps_writeStep
    | with_reducible apply Keeps.ite
    | (with_reducible apply Keeps.upd; with_reducible first | assumption | apply keeps_writeStep | apply Keeps.ite)
    | (refine Keeps.pair (by assumption) ?_)
    | (refine Keeps.pair3 (by assumption) ?_)
    | (intro _ _ _)
    | (intro _ _)
    | (intro _)
    | split
    | dsimp only)

theorem keeps_execReg64UpperWordWrite {s0 : State} (req : Requester) (addr : ℕ) (value : ℕ) (s : State) (h : Keeps s0 s) :
    ∃ u, execReg64UpperWordWrite req addr value s = finish u ∧ Keeps s0 u := by
  refine ⟨_, rfl, ?_⟩
  try dsimp only
  repeat (first
    | with_reducible assumption
    | with_reducible apply keeps_writeStep
    | with_reducible apply Keeps.ite
    | (with_reducible apply Keeps.upd; with_reducible first | assumption | apply keeps_writeStep | apply Keeps.ite)
    | (refine Keeps.pair (by assumption) ?_)
    | (refine Keeps.pair3 (by assumption) ?_)
    | (intro _ _ _)
    | (intro _ _)
    | (intro _)
    | split
    | dsimp only)

end Sys2Proof.Machine
end

