-- ==== Sys2Proof/Laws/Exec.lean ====
section
/-! SUPPORT. Every command answers a next state, and keeps what `Keeps` names. -/

namespace Sys2Proof.Machine

theorem keeps_answer {s : State} {o : Host.Outcome State Fault Refusal} (h : ∃ u, o = finish u ∧ Keeps s u) :
    ∃ t, o = .next t ∧ Keeps s t := by
  obtain ⟨u, rfl, k⟩ := h
  exact ⟨u.settled, rfl, keeps_settled u k⟩

/-- Every command of the table answers a next state that keeps the fuses, the queue and elapsed time. -/
theorem exec_keeps (c : Instr) (s : State) : ∃ t, exec c s = .next t ∧ Keeps s t := by
  cases c with
  | registerWrite req addr size value => exact keeps_answer (keeps_execRegisterWrite req addr size value s (Keeps.refl s))
  | reg64LowerWordWrite req addr value => exact keeps_answer (keeps_execReg64LowerWordWrite req addr value s (Keeps.refl s))
  | reg64UpperWordWrite req addr value => exact keeps_answer (keeps_execReg64UpperWordWrite req addr value s (Keeps.refl s))
  | reg64LowerWordRead req addr => exact keeps_answer (keeps_execReg64LowerWordRead req addr s (Keeps.refl s))
  | wideRegisterWord0Read req addr => exact keeps_answer (keeps_execWideRegisterWord0Read req addr s (Keeps.refl s))
  | readClearAccess req addr size => exact keeps_answer (keeps_execReadClearAccess req addr size s (Keeps.refl s))
  | unperformedAccess req write addr byteEnables => exact keeps_answer (keeps_execUnperformedAccess req write addr byteEnables s (Keeps.refl s))
  | restart path arg straps => exact keeps_answer (keeps_execRestart path arg straps s (Keeps.refl s))
  | enterSafe path arg => exact keeps_answer (keeps_execEnterSafe path arg s (Keeps.refl s))
  | configDone path arg => exact keeps_answer (keeps_execConfigDone path arg s (Keeps.refl s))
  | configFetchDone image => exact keeps_answer (keeps_execConfigFetchDone image s (Keeps.refl s))
  | enterTest path arg => exact keeps_answer (keeps_execEnterTest path arg s (Keeps.refl s))
  | sleepVote path arg => exact keeps_answer (keeps_execSleepVote path arg s (Keeps.refl s))
  | configStore path arg => exact keeps_answer (keeps_execConfigStore path arg s (Keeps.refl s))
  | configStoreDone image => exact keeps_answer (keeps_execConfigStoreDone image s (Keeps.refl s))
  | debugOpen path arg => exact keeps_answer (keeps_execDebugOpen path arg s (Keeps.refl s))
  | dbgToken tag => exact keeps_answer (keeps_execDbgToken tag s (Keeps.refl s))
  | authBusyEnd => exact keeps_answer (keeps_execAuthBusyEnd s (Keeps.refl s))
  | lcPersonalize path arg => exact keeps_answer (keeps_execLcPersonalize path arg s (Keeps.refl s))
  | lcField path arg => exact keeps_answer (keeps_execLcField path arg s (Keeps.refl s))
  | lcReturn path arg => exact keeps_answer (keeps_execLcReturn path arg s (Keeps.refl s))
  | lcScrap path arg => exact keeps_answer (keeps_execLcScrap path arg s (Keeps.refl s))
  | powerOn => exact keeps_answer (keeps_execPowerOn s (Keeps.refl s))
  | resetNAssert => exact keeps_answer (keeps_execResetNAssert s (Keeps.refl s))
  | internalResetRelease straps => exact keeps_answer (keeps_execInternalResetRelease straps s (Keeps.refl s))
  | bootOtpReadDone => exact keeps_answer (keeps_execBootOtpReadDone s (Keeps.refl s))
  | bootSelftestDone pass failedChannels recordEcc => exact keeps_answer (keeps_execBootSelftestDone pass failedChannels recordEcc s (Keeps.refl s))
  | pcieEndpointReady speed width => exact keeps_answer (keeps_execPcieEndpointReady speed width s (Keeps.refl s))
  | bootImageVerified => exact keeps_answer (keeps_execBootImageVerified s (Keeps.refl s))
  | bootEnd => exact keeps_answer (keeps_execBootEnd s (Keeps.refl s))
  | debugWaitTimeout => exact keeps_answer (keeps_execDebugWaitTimeout s (Keeps.refl s))
  | recorderBootScan => exact keeps_answer (keeps_execRecorderBootScan s (Keeps.refl s))
  | wakeBootEnd selftestPass resumeCrcOk => exact keeps_answer (keeps_execWakeBootEnd selftestPass resumeCrcOk s (Keeps.refl s))
  | linkLossOfSignal port => exact keeps_answer (keeps_execLinkLossOfSignal port s (Keeps.refl s))
  | linkCodeError port alignmentLost => exact keeps_answer (keeps_execLinkCodeError port alignmentLost s (Keeps.refl s))
  | signalDetect port => exact keeps_answer (keeps_execSignalDetect port s (Keeps.refl s))
  | acquireSettingTimer port eye => exact keeps_answer (keeps_execAcquireSettingTimer port eye s (Keeps.refl s))
  | acquireTimeout port => exact keeps_answer (keeps_execAcquireTimeout port s (Keeps.refl s))
  | rxPolarityDetect port => exact keeps_answer (keeps_execRxPolarityDetect port s (Keeps.refl s))
  | linkUp port => exact keeps_answer (keeps_execLinkUp port s (Keeps.refl s))
  | shadowUpdate port ctle taps eye => exact keeps_answer (keeps_execShadowUpdate port ctle taps eye s (Keeps.refl s))
  | calTimeout port => exact keeps_answer (keeps_execCalTimeout port s (Keeps.refl s))
  | prelockEqStep port => exact keeps_answer (keeps_execPrelockEqStep port s (Keeps.refl s))
  | keepalivePulse port => exact keeps_answer (keeps_execKeepalivePulse port s (Keeps.refl s))
  | keepaliveTimeout port => exact keeps_answer (keeps_execKeepaliveTimeout port s (Keeps.refl s))
  | pairShortDetect port shield dist rho => exact keeps_answer (keeps_execPairShortDetect port shield dist rho s (Keeps.refl s))
  | pairOpenDetect port dist rho => exact keeps_answer (keeps_execPairOpenDetect port dist rho s (Keeps.refl s))
  | pairSwapDetect port => exact keeps_answer (keeps_execPairSwapDetect port s (Keeps.refl s))
  | commonModeDetect port vcm => exact keeps_answer (keeps_execCommonModeDetect port vcm s (Keeps.refl s))
  | pairFaultClear port condition => exact keeps_answer (keeps_execPairFaultClear port condition s (Keeps.refl s))
  | echoScanDone port dist rho => exact keeps_answer (keeps_execEchoScanDone port dist rho s (Keeps.refl s))
  | hopReportReceive port report => exact keeps_answer (keeps_execHopReportReceive port report s (Keeps.refl s))
  | hopNoticeReceive port notice => exact keeps_answer (keeps_execHopNoticeReceive port notice s (Keeps.refl s))
  | calibrationEpoch receiving => exact keeps_answer (keeps_execCalibrationEpoch receiving s (Keeps.refl s))
  | lateLineTimeout line => exact keeps_answer (keeps_execLateLineTimeout line s (Keeps.refl s))
  | freeEpoch => exact keeps_answer (keeps_execFreeEpoch s (Keeps.refl s))
  | deferredRxChange port => exact keeps_answer (keeps_execDeferredRxChange port s (Keeps.refl s))
  | recalibrate path port arg => exact keeps_answer (keeps_execRecalibrate path port arg s (Keeps.refl s))
  | setDelayBase path port arg => exact keeps_answer (keeps_execSetDelayBase path port arg s (Keeps.refl s))
  | echoReset path port arg => exact keeps_answer (keeps_execEchoReset path port arg s (Keeps.refl s))
  | kaTest path port arg => exact keeps_answer (keeps_execKaTest path port arg s (Keeps.refl s))
  | kaTestEnd port reachedSleep => exact keeps_answer (keeps_execKaTestEnd port reachedSleep s (Keeps.refl s))
  | endNotLinkedHold side => exact keeps_answer (keeps_execEndNotLinkedHold side s (Keeps.refl s))
  | helloReceive port frame => exact keeps_answer (keeps_execHelloReceive port frame s (Keeps.refl s))
  | helloRepeat port => exact keeps_answer (keeps_execHelloRepeat port s (Keeps.refl s))
  | coupleSenseDebounced side level => exact keeps_answer (keeps_execCoupleSenseDebounced side level s (Keeps.refl s))
  | cabActiveDebounced level => exact keeps_answer (keeps_execCabActiveDebounced level s (Keeps.refl s))
  | inaugurate path arg => exact keeps_answer (keeps_execInaugurate path arg s (Keeps.refl s))
  | settleEnd => exact keeps_answer (keeps_execSettleEnd s (Keeps.refl s))
  | alertReceive port frame => exact keeps_answer (keeps_execAlertReceive port frame s (Keeps.refl s))
  | discReceive port frame => exact keeps_answer (keeps_execDiscReceive port frame s (Keeps.refl s))
  | retReceive port frame => exact keeps_answer (keeps_execRetReceive port frame s (Keeps.refl s))
  | inaugCommitReceive port frame => exact keeps_answer (keeps_execInaugCommitReceive port frame s (Keeps.refl s))
  | doneReceive port frame => exact keeps_answer (keeps_execDoneReceive port frame s (Keeps.refl s))
  | runRestartWaitEnd => exact keeps_answer (keeps_execRunRestartWaitEnd s (Keeps.refl s))
  | runTimeout => exact keeps_answer (keeps_execRunTimeout s (Keeps.refl s))
  | failedRetry => exact keeps_answer (keeps_execFailedRetry s (Keeps.refl s))
  | graceEnd => exact keeps_answer (keeps_execGraceEnd s (Keeps.refl s))
  | hopdlySend => exact keeps_answer (keeps_execHopdlySend s (Keeps.refl s))
  | hopdlyReceive frame => exact keeps_answer (keeps_execHopdlyReceive frame s (Keeps.refl s))
  | cycleFrameEmit lateA lateB => exact keeps_answer (keeps_execCycleFrameEmit lateA lateB s (Keeps.refl s))
  | cycleFrameOutbound port frame rx tx errorAt => exact keeps_answer (keeps_execCycleFrameOutbound port frame rx tx errorAt s (Keeps.refl s))
  | cycleFrameInbound port frame rx tx errorAt => exact keeps_answer (keeps_execCycleFrameInbound port frame rx tx errorAt s (Keeps.refl s))
  | declare path arg => exact keeps_answer (keeps_execDeclare path arg s (Keeps.refl s))
  | slotDeclRepeat => exact keeps_answer (keeps_execSlotDeclRepeat s (Keeps.refl s))
  | slotDeclReceive frame => exact keeps_answer (keeps_execSlotDeclReceive frame s (Keeps.refl s))
  | slotMapReceive frame => exact keeps_answer (keeps_execSlotMapReceive frame s (Keeps.refl s))
  | mapRepeat => exact keeps_answer (keeps_execMapRepeat s (Keeps.refl s))
  | mapReissue path arg => exact keeps_answer (keeps_execMapReissue path arg s (Keeps.refl s))
  | msgWindowOpen port => exact keeps_answer (keeps_execMsgWindowOpen port s (Keeps.refl s))
  | msgWindowClose port => exact keeps_answer (keeps_execMsgWindowClose port s (Keeps.refl s))
  | headerLossTimeout => exact keeps_answer (keeps_execHeaderLossTimeout s (Keeps.refl s))
  | msgFrameReceive port frame codeGroups => exact keeps_answer (keeps_execMsgFrameReceive port frame codeGroups s (Keeps.refl s))
  | msgTransmitStart port => exact keeps_answer (keeps_execMsgTransmitStart port s (Keeps.refl s))
  | msgQueueAgeExpiry port cls => exact keeps_answer (keeps_execMsgQueueAgeExpiry port cls s (Keeps.refl s))
  | dupRecordLapse src prio => exact keeps_answer (keeps_execDupRecordLapse src prio s (Keeps.refl s))
  | holdoverEntry => exact keeps_answer (keeps_execHoldoverEntry s (Keeps.refl s))
  | holdoverExpiry => exact keeps_answer (keeps_execHoldoverExpiry s (Keeps.refl s))
  | ppsInEdge t => exact keeps_answer (keeps_execPpsInEdge t s (Keeps.refl s))
  | ppsInLost => exact keeps_answer (keeps_execPpsInLost s (Keeps.refl s))
  | ppsOutEdge => exact keeps_answer (keeps_execPpsOutEdge s (Keeps.refl s))
  | ppsOutPulseEnd => exact keeps_answer (keeps_execPpsOutPulseEnd s (Keeps.refl s))
  | step path arg => exact keeps_answer (keeps_execStep path arg s (Keeps.refl s))
  | stepApply => exact keeps_answer (keeps_execStepApply s (Keeps.refl s))
  | clearValid path arg => exact keeps_answer (keeps_execClearValid path arg s (Keeps.refl s))
  | timNowNsRead req => exact keeps_answer (keeps_execTimNowNsRead req s (Keeps.refl s))
  | consistFrameReceive port frame rx => exact keeps_answer (keeps_execConsistFrameReceive port frame rx s (Keeps.refl s))
  | consistActionPoint frameId => exact keeps_answer (keeps_execConsistActionPoint frameId s (Keeps.refl s))
  | guardianFrameStart port frame rx => exact keeps_answer (keeps_execGuardianFrameStart port frame rx s (Keeps.refl s))
  | guardianCut port => exact keeps_answer (keeps_execGuardianCut port s (Keeps.refl s))
  | guardianBlankEnd port => exact keeps_answer (keeps_execGuardianBlankEnd port s (Keeps.refl s))
  | guardianIdleTimeout => exact keeps_answer (keeps_execGuardianIdleTimeout s (Keeps.refl s))
  | consistNitCorrection => exact keeps_answer (keeps_execConsistNitCorrection s (Keeps.refl s))
  | consistCycleStart => exact keeps_answer (keeps_execConsistCycleStart s (Keeps.refl s))
  | listenTimerExpiry => exact keeps_answer (keeps_execListenTimerExpiry s (Keeps.refl s))
  | consistLinkDown port codeError => exact keeps_answer (keeps_execConsistLinkDown port codeError s (Keeps.refl s))
  | consistLinkUp port => exact keeps_answer (keeps_execConsistLinkUp port s (Keeps.refl s))
  | cstRejoin path arg => exact keeps_answer (keeps_execCstRejoin path arg s (Keeps.refl s))
  | portReset path arg => exact keeps_answer (keeps_execPortReset path arg s (Keeps.refl s))
  | canFrameReceive channel frame sof => exact keeps_answer (keeps_execCanFrameReceive channel frame sof s (Keeps.refl s))
  | canRxError channel kind add early => exact keeps_answer (keeps_execCanRxError channel kind add early s (Keeps.refl s))
  | canProtocolException channel => exact keeps_answer (keeps_execCanProtocolException channel s (Keeps.refl s))
  | canTxSelect channel => exact keeps_answer (keeps_execCanTxSelect channel s (Keeps.refl s))
  | canTxSuccess channel tdcv => exact keeps_answer (keeps_execCanTxSuccess channel tdcv s (Keeps.refl s))
  | canTxArbLost channel => exact keeps_answer (keeps_execCanTxArbLost channel s (Keeps.refl s))
  | canTxError channel kind add tdcv loop => exact keeps_answer (keeps_execCanTxError channel kind add tdcv loop s (Keeps.refl s))
  | canRecessive11 channel => exact keeps_answer (keeps_execCanRecessive11 channel s (Keeps.refl s))
  | canStart path channel arg => exact keeps_answer (keeps_execCanStart path channel arg s (Keeps.refl s))
  | canStop path channel arg => exact keeps_answer (keeps_execCanStop path channel arg s (Keeps.refl s))
  | canCancel path channel arg => exact keeps_answer (keeps_execCanCancel path channel arg s (Keeps.refl s))
  | canCfgWrite req addr size value => exact keeps_answer (keeps_execCanCfgWrite req addr size value s (Keeps.refl s))
  | canDominantTimeout channel => exact keeps_answer (keeps_execCanDominantTimeout channel s (Keeps.refl s))
  | canDominantClear channel => exact keeps_answer (keeps_execCanDominantClear channel s (Keeps.refl s))
  | canTtReferenceReceive channel frame sof => exact keeps_answer (keeps_execCanTtReferenceReceive channel frame sof s (Keeps.refl s))
  | canTtReferenceSend channel => exact keeps_answer (keeps_execCanTtReferenceSend channel s (Keeps.refl s))
  | canTtReferenceMissing channel => exact keeps_answer (keeps_execCanTtReferenceMissing channel s (Keeps.refl s))
  | canTtWindowStart channel window busFree => exact keeps_answer (keeps_execCanTtWindowStart channel window busFree s (Keeps.refl s))
  | canTtTxenExpiry channel window => exact keeps_answer (keeps_execCanTtTxenExpiry channel window s (Keeps.refl s))
  | sliceService slice pins ecc => exact keeps_answer (keeps_execSliceService slice pins ecc s (Keeps.refl s))
  | lockstepMismatch => exact keeps_answer (keeps_execLockstepMismatch s (Keeps.refl s))
  | flowEnable path arg => exact keeps_answer (keeps_execFlowEnable path arg s (Keeps.refl s))
  | flowDisable path arg => exact keeps_answer (keeps_execFlowDisable path arg s (Keeps.refl s))
  | sliceApply path arg => exact keeps_answer (keeps_execSliceApply path arg s (Keeps.refl s))
  | sliceTableSwap => exact keeps_answer (keeps_execSliceTableSwap s (Keeps.refl s))
  | flowContextWrite req addr size value => exact keeps_answer (keeps_execFlowContextWrite req addr size value s (Keeps.refl s))
  | staleFlowRun flow => exact keeps_answer (keeps_execStaleFlowRun flow s (Keeps.refl s))
  | channelTest channel pass => exact keeps_answer (keeps_execChannelTest channel pass s (Keeps.refl s))
  | thermalMeasure t0 t1 => exact keeps_answer (keeps_execThermalMeasure t0 t1 s (Keeps.refl s))
  | apReqWr req port value => exact keeps_answer (keeps_execApReqWr req port value s (Keeps.refl s))
  | apReqRd req port value => exact keeps_answer (keeps_execApReqRd req port value s (Keeps.refl s))
  | apReqUnlock req port value => exact keeps_answer (keeps_execApReqUnlock req port value s (Keeps.refl s))
  | apStatusRead req port => exact keeps_answer (keeps_execApStatusRead req port s (Keeps.refl s))
  | postedEntryFree => exact keeps_answer (keeps_execPostedEntryFree s (Keeps.refl s))
  | brgWrRequest frame dma => exact keeps_answer (keeps_execBrgWrRequest frame dma s (Keeps.refl s))
  | brgRdRequest frame dma => exact keeps_answer (keeps_execBrgRdRequest frame dma s (Keeps.refl s))
  | brgUnlockRequest frame => exact keeps_answer (keeps_execBrgUnlockRequest frame s (Keeps.refl s))
  | sbPollReceive frame => exact keeps_answer (keeps_execSbPollReceive frame s (Keeps.refl s))
  | rdDataReceive frame => exact keeps_answer (keeps_execRdDataReceive frame s (Keeps.refl s))
  | errReceive frame => exact keeps_answer (keeps_execErrReceive frame s (Keeps.refl s))
  | lockRetryReceive frame => exact keeps_answer (keeps_execLockRetryReceive frame s (Keeps.refl s))
  | lockFreeReceive frame => exact keeps_answer (keeps_execLockFreeReceive frame s (Keeps.refl s))
  | sbDataReceive frame => exact keeps_answer (keeps_execSbDataReceive frame s (Keeps.refl s))
  | faultNoticeReceive frame => exact keeps_answer (keeps_execFaultNoticeReceive frame s (Keeps.refl s))
  | bseqGapExpiry origin window => exact keeps_answer (keeps_execBseqGapExpiry origin window s (Keeps.refl s))
  | orderStateLapse origin window => exact keeps_answer (keeps_execOrderStateLapse origin window s (Keeps.refl s))
  | responseTimeout who window bseq => exact keeps_answer (keeps_execResponseTimeout who window bseq s (Keeps.refl s))
  | readDiscardTimeout port => exact keeps_answer (keeps_execReadDiscardTimeout port s (Keeps.refl s))
  | targetLockTimeout => exact keeps_answer (keeps_execTargetLockTimeout s (Keeps.refl s))
  | lockRetryTimer who window bseq => exact keeps_answer (keeps_execLockRetryTimer who window bseq s (Keeps.refl s))
  | winEnable path arg => exact keeps_answer (keeps_execWinEnable path arg s (Keeps.refl s))
  | winDisable path arg => exact keeps_answer (keeps_execWinDisable path arg s (Keeps.refl s))
  | doorbellPoll group page read => exact keeps_answer (keeps_execDoorbellPoll group page read s (Keeps.refl s))
  | fetchComplete group => exact keeps_answer (keeps_execFetchComplete group s (Keeps.refl s))
  | txDescData ring => exact keeps_answer (keeps_execTxDescData ring s (Keeps.refl s))
  | txDescCmd ring => exact keeps_answer (keeps_execTxDescCmd ring s (Keeps.refl s))
  | txDescBridge ring => exact keeps_answer (keeps_execTxDescBridge ring s (Keeps.refl s))
  | eventEntryWrite group event => exact keeps_answer (keeps_execEventEntryWrite group event s (Keeps.refl s))
  | msixCoalesceTimeout ring => exact keeps_answer (keeps_execMsixCoalesceTimeout ring s (Keeps.refl s))
  | msixUnmask function vector => exact keeps_answer (keeps_execMsixUnmask function vector s (Keeps.refl s))
  | ringEnable req ring value => exact keeps_answer (keeps_execRingEnable req ring value s (Keeps.refl s))
  | ringDisable req ring value => exact keeps_answer (keeps_execRingDisable req ring value s (Keeps.refl s))
  | ringStopDone ring => exact keeps_answer (keeps_execRingStopDone ring s (Keeps.refl s))
  | pcieLinkDown => exact keeps_answer (keeps_execPcieLinkDown s (Keeps.refl s))
  | pcieHotReset => exact keeps_answer (keeps_execPcieHotReset s (Keeps.refl s))
  | pf1Flr => exact keeps_answer (keeps_execPf1Flr s (Keeps.refl s))
  | busMasterDisable function => exact keeps_answer (keeps_execBusMasterDisable function s (Keeps.refl s))
  | d3hotEntry function => exact keeps_answer (keeps_execD3hotEntry function s (Keeps.refl s))
  | pePerstAssert => exact keeps_answer (keeps_execPePerstAssert s (Keeps.refl s))
  | ghBusRead addr early => exact keeps_answer (keeps_execGhBusRead addr early s (Keeps.refl s))
  | ghHighWordRead addr early => exact keeps_answer (keeps_execGhHighWordRead addr early s (Keeps.refl s))
  | ghBusWrite addr value early => exact keeps_answer (keeps_execGhBusWrite addr value early s (Keeps.refl s))
  | ghHighWordWrite addr value early => exact keeps_answer (keeps_execGhHighWordWrite addr value early s (Keeps.refl s))
  | ghLowWordWrite addr value early => exact keeps_answer (keeps_execGhLowWordWrite addr value early s (Keeps.refl s))
  | ssrLowWordRead early => exact keeps_answer (keeps_execSsrLowWordRead early s (Keeps.refl s))
  | ivrLowWordRead early => exact keeps_answer (keeps_execIvrLowWordRead early s (Keeps.refl s))
  | eld3LowWordRead early => exact keeps_answer (keeps_execEld3LowWordRead early s (Keeps.refl s))
  | legacySoftReset lower => exact keeps_answer (keeps_execLegacySoftReset lower s (Keeps.refl s))
  | nodeEnableWrite lower => exact keeps_answer (keeps_execNodeEnableWrite lower s (Keeps.refl s))
  | elogClear lower => exact keeps_answer (keeps_execElogClear lower s (Keeps.refl s))
  | wdrWrite lower => exact keeps_answer (keeps_execWdrWrite lower s (Keeps.refl s))
  | mbcHandover mailbox lower => exact keeps_answer (keeps_execMbcHandover mailbox lower s (Keeps.refl s))
  | gtnCanRunWrite channel lower => exact keeps_answer (keeps_execGtnCanRunWrite channel lower s (Keeps.refl s))
  | gtnWatchdogExpiry => exact keeps_answer (keeps_execGtnWatchdogExpiry s (Keeps.refl s))
  | ghIrqReleaseEnd => exact keeps_answer (keeps_execGhIrqReleaseEnd s (Keeps.refl s))
  | gtnTick => exact keeps_answer (keeps_execGtnTick s (Keeps.refl s))
  | ghBootHoldEnd => exact keeps_answer (keeps_execGhBootHoldEnd s (Keeps.refl s))
  | gtnCanRx channel frame sof => exact keeps_answer (keeps_execGtnCanRx channel frame sof s (Keeps.refl s))
  | gtnCanTxDone channel => exact keeps_answer (keeps_execGtnCanTxDone channel s (Keeps.refl s))
  | claimReceive port telegram => exact keeps_answer (keeps_execClaimReceive port telegram s (Keeps.refl s))
  | nameReceive port telegram => exact keeps_answer (keeps_execNameReceive port telegram s (Keeps.refl s))
  | nameAckReceive port telegram => exact keeps_answer (keeps_execNameAckReceive port telegram s (Keeps.refl s))
  | topologyReceive port telegram => exact keeps_answer (keeps_execTopologyReceive port telegram s (Keeps.refl s))
  | periodReceive port telegram => exact keeps_answer (keeps_execPeriodReceive port telegram s (Keeps.refl s))
  | pdPollReceive port telegram => exact keeps_answer (keeps_execPdPollReceive port telegram s (Keeps.refl s))
  | pdDataReceive port telegram => exact keeps_answer (keeps_execPdDataReceive port telegram s (Keeps.refl s))
  | msgPollReceive port telegram => exact keeps_answer (keeps_execMsgPollReceive port telegram s (Keeps.refl s))
  | gMsgReceive port telegram => exact keeps_answer (keeps_execGMsgReceive port telegram s (Keeps.refl s))
  | msgAckReceive port telegram => exact keeps_answer (keeps_execMsgAckReceive port telegram s (Keeps.refl s))
  | noneReceive port telegram => exact keeps_answer (keeps_execNoneReceive port telegram s (Keeps.refl s))
  | gResetReceive port telegram => exact keeps_answer (keeps_execGResetReceive port telegram s (Keeps.refl s))
  | claimBackoffExpiry => exact keeps_answer (keeps_execClaimBackoffExpiry s (Keeps.refl s))
  | claimWinExpiry => exact keeps_answer (keeps_execClaimWinExpiry s (Keeps.refl s))
  | answerTimeout => exact keeps_answer (keeps_execAnswerTimeout s (Keeps.refl s))
  | periodTimer => exact keeps_answer (keeps_execPeriodTimer s (Keeps.refl s))
  | periodMissingTimeout => exact keeps_answer (keeps_execPeriodMissingTimeout s (Keeps.refl s))
  | gLineSwitch side => exact keeps_answer (keeps_execGLineSwitch side s (Keeps.refl s))
  | gPortDown port => exact keeps_answer (keeps_execGPortDown port s (Keeps.refl s))
  | borderNamingTimeout => exact keeps_answer (keeps_execBorderNamingTimeout s (Keeps.refl s))
  | refSwTake level => exact keeps_answer (keeps_execRefSwTake level s (Keeps.refl s))
  | interlockClaim => exact keeps_answer (keeps_execInterlockClaim s (Keeps.refl s))
  | interlockFault => exact keeps_answer (keeps_execInterlockFault s (Keeps.refl s))
  | refereeSyncSend => exact keeps_answer (keeps_execRefereeSyncSend s (Keeps.refl s))
  | syncReceive sync => exact keeps_answer (keeps_execSyncReceive sync s (Keeps.refl s))
  | refereeEvaluate report0 report1 => exact keeps_answer (keeps_execRefereeEvaluate report0 report1 s (Keeps.refl s))
  | aliveWatchTimeout member => exact keeps_answer (keeps_execAliveWatchTimeout member s (Keeps.refl s))
  | refereeAdoptEnd report0 report1 => exact keeps_answer (keeps_execRefereeAdoptEnd report0 report1 s (Keeps.refl s))
  | refLost => exact keeps_answer (keeps_execRefLost s (Keeps.refl s))
  | select path arg => exact keeps_answer (keeps_execSelect path arg s (Keeps.refl s))
  | resync path arg => exact keeps_answer (keeps_execResync path arg s (Keeps.refl s))
  | pairLinkDown => exact keeps_answer (keeps_execPairLinkDown s (Keeps.refl s))
  | pairLinkUp => exact keeps_answer (keeps_execPairLinkUp s (Keeps.refl s))
  | stateTransferDone state => exact keeps_answer (keeps_execStateTransferDone state s (Keeps.refl s))
  | pairUpdateReceive update => exact keeps_answer (keeps_execPairUpdateReceive update s (Keeps.refl s))
  | pairTestStepEnd => exact keeps_answer (keeps_execPairTestStepEnd s (Keeps.refl s))
  | variantBDeadline => exact keeps_answer (keeps_execVariantBDeadline s (Keeps.refl s))
  | pairBootFinalStep interlockFree => exact keeps_answer (keeps_execPairBootFinalStep interlockFree s (Keeps.refl s))
  | sleepReqReceive msg => exact keeps_answer (keeps_execSleepReqReceive msg s (Keeps.refl s))
  | sleepCallReceive msg => exact keeps_answer (keeps_execSleepCallReceive msg s (Keeps.refl s))
  | sleepVoteReceive msg => exact keeps_answer (keeps_execSleepVoteReceive msg s (Keeps.refl s))
  | sleepCommitReceive msg => exact keeps_answer (keeps_execSleepCommitReceive msg s (Keeps.refl s))
  | sleepCancelReceive msg => exact keeps_answer (keeps_execSleepCancelReceive msg s (Keeps.refl s))
  | sleepStayReceive msg => exact keeps_answer (keeps_execSleepStayReceive msg s (Keeps.refl s))
  | sleepInstant => exact keeps_answer (keeps_execSleepInstant s (Keeps.refl s))
  | sleepEntryDone => exact keeps_answer (keeps_execSleepEntryDone s (Keeps.refl s))
  | wakeLineActivity port => exact keeps_answer (keeps_execWakeLineActivity port s (Keeps.refl s))
  | wakeCanPattern channel => exact keeps_answer (keeps_execWakeCanPattern channel s (Keeps.refl s))
  | wakePin pin active => exact keeps_answer (keeps_execWakePin pin active s (Keeps.refl s))
  | wakeTimer => exact keeps_answer (keeps_execWakeTimer s (Keeps.refl s))
  | falseWakeTimeout => exact keeps_answer (keeps_execFalseWakeTimeout s (Keeps.refl s))
  | falseWakeFallback => exact keeps_answer (keeps_execFalseWakeFallback s (Keeps.refl s))
  | wakeLinkHoldEnd => exact keeps_answer (keeps_execWakeLinkHoldEnd s (Keeps.refl s))
  | faultLatch lines => exact keeps_answer (keeps_execFaultLatch lines s (Keeps.refl s))
  | faultLineDeassert source => exact keeps_answer (keeps_execFaultLineDeassert source s (Keeps.refl s))
  | reactionTimerExpiry source => exact keeps_answer (keeps_execReactionTimerExpiry source s (Keeps.refl s))
  | fltForceWrite req value => exact keeps_answer (keeps_execFltForceWrite req value s (Keeps.refl s))
  | fltRawClear req mask => exact keeps_answer (keeps_execFltRawClear req mask s (Keeps.refl s))
  | aliveHalfPeriod => exact keeps_answer (keeps_execAliveHalfPeriod s (Keeps.refl s))
  | latentTest checker pass => exact keeps_answer (keeps_execLatentTest checker pass s (Keeps.refl s))
  | recorderEventEnqueue base code payload => exact keeps_answer (keeps_execRecorderEventEnqueue base code payload s (Keeps.refl s))
  | recordWriteDone readBackOk => exact keeps_answer (keeps_execRecordWriteDone readBackOk s (Keeps.refl s))
  | recRdIdxWrite req index => exact keeps_answer (keeps_execRecRdIdxWrite req index s (Keeps.refl s))
  | recRdData7HighRead req => exact keeps_answer (keeps_execRecRdData7HighRead req s (Keeps.refl s))
  | recClear path arg => exact keeps_answer (keeps_execRecClear path arg s (Keeps.refl s))
  | recClearDone => exact keeps_answer (keeps_execRecClearDone s (Keeps.refl s))
  | keyWrite path arg => exact keeps_answer (keeps_execKeyWrite path arg s (Keeps.refl s))
  | keyWriteDone => exact keeps_answer (keeps_execKeyWriteDone s (Keeps.refl s))
  | keyErase path arg => exact keeps_answer (keeps_execKeyErase path arg s (Keeps.refl s))
  | keyEraseDone => exact keeps_answer (keeps_execKeyEraseDone s (Keeps.refl s))
  | keySwitch path arg => exact keeps_answer (keeps_execKeySwitch path arg s (Keeps.refl s))
  | keySwitchPoint => exact keeps_answer (keeps_execKeySwitchPoint s (Keeps.refl s))
  | tamperAlarm sources => exact keeps_answer (keeps_execTamperAlarm sources s (Keeps.refl s))
  | tamperClear path arg => exact keeps_answer (keeps_execTamperClear path arg s (Keeps.refl s))
  | beaconSend => exact keeps_answer (keeps_execBeaconSend s (Keeps.refl s))
  | beaconForward beacon rx tx => exact keeps_answer (keeps_execBeaconForward beacon rx tx s (Keeps.refl s))
  | beaconReturn beacon => exact keeps_answer (keeps_execBeaconReturn beacon s (Keeps.refl s))
  | stackOrphanTimeout => exact keeps_answer (keeps_execStackOrphanTimeout s (Keeps.refl s))
  | stackFrameReceive frame => exact keeps_answer (keeps_execStackFrameReceive frame s (Keeps.refl s))
  | stackLaneDown => exact keeps_answer (keeps_execStackLaneDown s (Keeps.refl s))
  | stackLaneUp => exact keeps_answer (keeps_execStackLaneUp s (Keeps.refl s))
  | bypass path arg => exact keeps_answer (keeps_execBypass path arg s (Keeps.refl s))
  | stkRejoin path arg => exact keeps_answer (keeps_execStkRejoin path arg s (Keeps.refl s))
  | vinOvervoltage millivolts => exact keeps_answer (keeps_execVinOvervoltage millivolts s (Keeps.refl s))
  | vinSwitchOpen millivolts => exact keeps_answer (keeps_execVinSwitchOpen millivolts s (Keeps.refl s))
  | regulatorLimit regulator => exact keeps_answer (keeps_execRegulatorLimit regulator s (Keeps.refl s))
  | vbatLow millivolts => exact keeps_answer (keeps_execVbatLow millivolts s (Keeps.refl s))
  | vbatSwitchover => exact keeps_answer (keeps_execVbatSwitchover s (Keeps.refl s))
  | brownOut => exact keeps_answer (keeps_execBrownOut s (Keeps.refl s))
  | brownOutRecovery => exact keeps_answer (keeps_execBrownOutRecovery s (Keeps.refl s))
  | uvlo => exact keeps_answer (keeps_execUvlo s (Keeps.refl s))
  | lcProgramDone cells straps => exact keeps_answer (keeps_execLcProgramDone cells straps s (Keeps.refl s))
  | pePerstDeassert => exact keeps_answer (keeps_execPePerstDeassert s (Keeps.refl s))
  | d0Return function => exact keeps_answer (keeps_execD0Return function s (Keeps.refl s))
  | busMasterEnable function msix => exact keeps_answer (keeps_execBusMasterEnable function msix s (Keeps.refl s))
  | vinSwitchClose millivolts => exact keeps_answer (keeps_execVinSwitchClose millivolts s (Keeps.refl s))
  | alwaysOnPowerLoss => exact keeps_answer (keeps_execAlwaysOnPowerLoss s (Keeps.refl s))
  | gTelegramDiscard port telegram => exact keeps_answer (keeps_execGTelegramDiscard port telegram s (Keeps.refl s))
  | stackWakeActivity => exact keeps_answer (keeps_execStackWakeActivity s (Keeps.refl s))
  | canTtFirstReference channel => exact keeps_answer (keeps_execCanTtFirstReference channel s (Keeps.refl s))
  | jtagTestInstruction ports scan => exact keeps_answer (keeps_execJtagTestInstruction ports scan s (Keeps.refl s))

end Sys2Proof.Machine
end

