-- ==== Sys2Proof/Laws/Frames.lean ====
section
/-! SUPPORT. What the predicates of a frame say: fields listed, ranges of bit addresses, and frames that widen. -/

namespace Sys2Proof.Machine

theorem named_eq_false_iff {l : List Field} {k : Nat} : named l k = false ↔ ∀ f ∈ l, f.key ≠ k := by
  simp [named]

theorem named_eq_true_iff {l : List Field} {k : Nat} : named l k = true ↔ ∃ f ∈ l, f.key = k := by
  simp [named]

theorem mem_forEach {n : Nat} {l : List (Nat → Field)} {f : Field} :
    f ∈ forEach n l ↔ ∃ i, i < n ∧ ∃ g ∈ l, g i = f := by
  simp [forEach]

theorem within_eq_false_iff {a b k : Nat} : within a b k = false ↔ k < 8 * a ∨ 8 * b ≤ k := by
  simp [within]; omega

/-- Nothing changed: any frame holds. -/
theorem Frame.refl (s : State) (r : Nat → Bool) : Frame s s r s := ⟨fun _ _ _ => rfl, rfl⟩

/-- A frame that allows more registers follows from one that allows fewer. -/
theorem Frame.mono {s u t : State} {r r' : Nat → Bool} (h : Frame s u r t) (le : ∀ k, r k = true → r' k = true) :
    Frame s u r' t := by
  refine ⟨fun f hf hr => h.get f hf ?_, h.rest⟩
  cases hk : r f.key with
  | false => rfl
  | true => exact absurd (le _ hk) (by simp [hr])

end Sys2Proof.Machine
end

