-- ==== Sys2Proof/Tests/Slice0.lean ====
section
/-! SUPPORT. Tests of the model: well-formedness refuses what is out of range; a few values that the spec gives; and
for every statement of Certificates/Slice0/Obligations.lean states and operands that meet its hypotheses together,
clause by clause. The witnesses are small: each is a node at position 2 of 3 in some mode (`wS`) with the fields that
the clause speaks of. -/

set_option Elab.async false

namespace Sys2Proof.Tests

open Sys2Proof Sys2Proof.Machine Sys2Proof.Machine.Reg

/-! ### Operands and states that the tests share -/

def wFrame : MsgFrame := ⟨0, 1, 2, 7, 3, 0, 0, 0, 0, [], 0⟩
def wTele : Telegram := { type := 1, dest := 1, src := 0 }
def wDesc : Descriptor := ⟨[], none⟩
def wSleep : SleepMsg := ⟨1, 0, 0, 0, 0, 0⟩
def wIna : InaFrame := { kind := 2, attempt := 0, topo := 0, uid := 1 }
def wCan : CanFrame := ⟨0x123, false, false, false, 0, false, false, []⟩
def wBeacon : Beacon := ⟨0, 0, 1, false, false, 1, 1, 0, false, false, false, 0, 0, 0, 0, 0, 1, 1, 1, true⟩
def wCyc : CycleFrame := ⟨0, 0, 0, 0, 0, 0, 0, 0, 0, 0, [], []⟩
def wReq : BrgReq := { who := 0, win := 0, bseq := 1, tag := 0, op := 1 }
def wItem : Item := { ch := 0, sel := 0, data := [] }
def wImage0 : Image := ⟨0x43574E4F, 1, modeNative, 0, 64, 1, 0, 0, [], [], [], []⟩
def wImage : Image := { wImage0 with crc := crc32 (imageBytes wImage0 0 (zeros 32)) }
def wEntry : CanEntry := { element := [], flow := 0, report := none, order := 0 }
def wCst : ConsistFrame := ⟨1, 0, 0, 0, 0, 0, [], 0⟩
def wTopo : Topology := {}
def wSync : SyncFrame := ⟨0, false, 0, false, false, 0⟩
def wTransfer : PairTransfer := ⟨[], [], []⟩
def wUpdate : PairUpdate := ⟨[], none, 0, [], [], none⟩
def wReport : Report := ⟨0, 1, true, false, 2, true, true, false, false, false, false, 0, 0, 0, 0, 0, 0, 0, 0⟩
def wOrder : BrgOrder := ⟨1, 0, 0, 0⟩
def wQueued : Queued := ⟨wFrame, false, none, none⟩
def wDup : DupRecord := ⟨1, 0, 0, 0⟩
def wEvent : RecEvent := ⟨0, 0, 0, 0, 0, 0, 1, []⟩
def wHopR : HopReport := ⟨0, 0, 0, 0, 0, false⟩
def wHopN : HopNotice := ⟨0, 0, 0, 0, 0, false⟩
def wResume : Resume := ⟨modeNative, [], 0, 0, 0, {}, ⟨0, 0, []⟩, [], 0⟩
def wCell : RecCell := ⟨[], 0, false⟩
def wClaim : Claim := ⟨false, 0, 0, 0⟩
def wHit : RegHit := (findReg 0).getD ⟨⟨"", 0, 1, 4, 1, 0, 32, []⟩, 0, 0, 0, 0⟩
def wS (m : Nat) (l : List (Field × Nat)) : State :=
  { State.reset.load ((GLB_MODE_MODE, m) :: (INA_POS_POSITION, 2) :: (INA_POS_VEH_COUNT, 3) ::
      [0, 1, 2, 3].flatMap (fun p => [(LN_CFG_ENABLE p, 1), (LN_STATUS_LINK p, 2), (LN_TRX_STATE p, trxNormal)]) ++
      [(HRG_STATUS_LINK_UP, 1), (HRG_STATUS_BME0, 1), (HRG_STATUS_MSIX0, 1), (GTN_CSR_NODE_EN, 1)] ++ l) with
    glb := { makerUid := 5 }
    ina := { topo := { counter := 0, pos := 2, n := 3, linked1 := true, linked2 := true } } }
def wB (l : List Nat) : Bytes := l.map (BitVec.ofNat 8)
def wPay (t : Nat) (l : List Nat) : MsgFrame := { wFrame with type := t, payload := wB l }
def wSealed (f : MsgFrame) : MsgFrame := { f with len := f.payload.length, crc := msgCrc f }
def wData : Descriptor := ⟨wB [0, 0, 0, 0, 0, 0, 0, 0, 4, 0, 1], some (wB [1, 2, 3, 4])⟩
def wCanDesc : Descriptor := ⟨wB [0, 0, 0, 0, 0, 0, 0, 0, 0, 0, 2], none⟩
def wReqDesc : Descriptor := ⟨wB [0, 0, 0, 0, 0, 0, 0, 0, 0, 1, 3], none⟩
def wTt : CanEntry := { element := wB [0, 0, 0, 0, 0, 0, 0, 1], flow := 0, report := none, order := 0 }
def wCycOk (dir : Nat) : CycleFrame := let f := { wCyc with flags := 8 + dir }; { f with hcrc := cycHcrc f }
def wT : Topology := { counter := 0, pos := 2, n := 3, linked1 := true, linked2 := true }
def wCstOk : ConsistFrame := cstSeal wCst
def wGtnPd : State := wS modeGtn [(GTN_PDC_PD_EN, 1), (GTN_MBC_KIND 0, mbPdSrc)]
def wWake : State := { wS modeBoot [(GLB_BOOT_STATUS_WAKE_BOOT, 1)] with resume := some wResume }
def wWakeT : State := (({ wWake with hrg := { wWake.hrg with trained := true } } : State).vaultCheck false).2

/-! ### Well-formedness refuses what is out of range -/

/-- InaFrame: a term with one field past its width is refused, the plain one taken. -/
theorem test_wf_InaFrame : (wIna : InaFrame).wf = true
    ∧ ([{ wIna with kind := 2 ^ 8 },
      { wIna with attempt := 2 ^ 8 },
      { wIna with topo := 2 ^ 16 },
      { wIna with uid := 2 ^ 64 },
      { wIna with hash := 2 ^ 32 },
      { wIna with pos := 2 ^ 16 },
      { wIna with kept := 2 ^ 16 },
      { wIna with flags := 2 ^ 8 },
      { wIna with uptime := 2 ^ 32 }] : List InaFrame).all (fun x => !x.wf) = true := by decide +kernel

/-- HopReport: a term with one field past its width is refused, the plain one taken. -/
theorem test_wf_HopReport : (wHopR : HopReport).wf = true
    ∧ ([{ wHopR with residence := 2 ^ 32 },
      { wHopR with topo := 2 ^ 16 },
      { wHopR with flags := 2 ^ 8 },
      { wHopR with reserved := 2 ^ 8 },
      { wHopR with crc := 2 ^ 8 }] : List HopReport).all (fun x => !x.wf) = true := by decide +kernel

/-- HopNotice: a term with one field past its width is refused, the plain one taken. -/
theorem test_wf_HopNotice : (wHopN : HopNotice).wf = true
    ∧ ([{ wHopN with delay := 2 ^ 32 },
      { wHopN with topo := 2 ^ 16 },
      { wHopN with flags := 2 ^ 8 },
      { wHopN with samples := 2 ^ 8 },
      { wHopN with crc := 2 ^ 8 }] : List HopNotice).all (fun x => !x.wf) = true := by decide +kernel

/-- CycleFrame: a term with one field past its width is refused, the plain one taken. -/
theorem test_wf_CycleFrame : (wCyc : CycleFrame).wf = true
    ∧ ([{ wCyc with topo := 2 ^ 16 },
      { wCyc with cycle := 2 ^ 32 },
      { wCyc with flags := 2 ^ 8 },
      { wCyc with mapSeq := 2 ^ 8 },
      { wCyc with bcycle := 2 ^ 16 },
      { wCyc with slotLen := 2 ^ 16 },
      { wCyc with timeS := 2 ^ 48 },
      { wCyc with timeNs := 2 ^ 32 },
      { wCyc with hcrc := 2 ^ 16 },
      { wCyc with corr := 2 ^ 63 },
      { wCyc with corr := -(2 ^ 63) - 1 }] : List CycleFrame).all (fun x => !x.wf) = true := by decide +kernel

/-- MsgFrame: a term with one field past its width is refused, the plain one taken. -/
theorem test_wf_MsgFrame : (wFrame : MsgFrame).wf = true
    ∧ ([{ wFrame with topo := 2 ^ 16 },
      { wFrame with dst := 2 ^ 16 },
      { wFrame with src := 2 ^ 16 },
      { wFrame with type := 2 ^ 4 },
      { wFrame with prio := 2 ^ 3 },
      { wFrame with flags := 2 ^ 8 },
      { wFrame with seq := 2 ^ 16 },
      { wFrame with len := 2 ^ 12 },
      { wFrame with stream := 2 ^ 16 },
      { wFrame with crc := 2 ^ 32 }] : List MsgFrame).all (fun x => !x.wf) = true := by decide +kernel

/-- CanFrame: a term with one field past its width is refused, the plain one taken. -/
theorem test_wf_CanFrame : (wCan : CanFrame).wf = true
    ∧ ([{ wCan with id := 2 ^ 11 },
      { wCan with ide := true, id := 2 ^ 29 },
      { wCan with dlc := 16 },
      { wCan with data := zeros 65 }] : List CanFrame).all (fun x => !x.wf) = true := by decide +kernel

/-- ConsistFrame: a term with one field past its width is refused, the plain one taken. -/
theorem test_wf_ConsistFrame : (wCst : ConsistFrame).wf = true
    ∧ ([{ wCst with frameId := 2 ^ 16 },
      { wCst with sender := 2 ^ 8 },
      { wCst with cycle := 2 ^ 8 },
      { wCst with len := 2 ^ 8 },
      { wCst with flags := 2 ^ 8 },
      { wCst with hcrc := 2 ^ 16 },
      { wCst with crc := 2 ^ 32 }] : List ConsistFrame).all (fun x => !x.wf) = true := by decide +kernel

/-- Beacon: a term with one field past its width is refused, the plain one taken. -/
theorem test_wf_Beacon : (wBeacon : Beacon).wf = true
    ∧ ([{ wBeacon with topo := 2 ^ 16 },
      { wBeacon with pos := 2 ^ 9 },
      { wBeacon with orient := 2 },
      { wBeacon with role := 2 ^ 3 },
      { wBeacon with n := 2 ^ 16 },
      { wBeacon with keptLen := 2 ^ 16 },
      { wBeacon with tstate := 2 ^ 8 },
      { wBeacon with count := 2 ^ 32 },
      { wBeacon with timeS := 2 ^ 48 },
      { wBeacon with timeNs := 2 ^ 32 },
      { wBeacon with masterUid := 2 ^ 64 },
      { wBeacon with present := 2 ^ 64 },
      { wBeacon with ready := 2 ^ 64 }] : List Beacon).all (fun x => !x.wf) = true := by decide +kernel

/-- Telegram: a term with one field past its width is refused, the plain one taken. -/
theorem test_wf_Telegram : (wTele : Telegram).wf = true
    ∧ ([{ wTele with type := 2 ^ 8 },
      { wTele with dest := 2 ^ 8 },
      { wTele with src := 2 ^ 8 },
      { wTele with flags := 2 ^ 8 },
      { wTele with data := zeros 256 }] : List Telegram).all (fun x => !x.wf) = true := by decide +kernel

/-- SleepMsg: a term with one field past its width is refused, the plain one taken. -/
theorem test_wf_SleepMsg : (wSleep : SleepMsg).wf = true
    ∧ ([{ wSleep with kind := 2 ^ 8 },
      { wSleep with code := 2 ^ 8 },
      { wSleep with voteId := 2 ^ 16 },
      { wSleep with topo := 2 ^ 16 },
      { wSleep with pos := 2 ^ 16 },
      { wSleep with sleepAt := 2 ^ 32 }] : List SleepMsg).all (fun x => !x.wf) = true := by decide +kernel

/-- SyncFrame: a term with one field past its width is refused, the plain one taken. -/
theorem test_wf_SyncFrame : (wSync : SyncFrame).wf = true
    ∧ ([{ wSync with sel := 2 },
      { wSync with state := 4 },
      { wSync with frame := 2 ^ 16 }] : List SyncFrame).all (fun x => !x.wf) = true := by decide +kernel

/-- Report: a term with one field past its width is refused, the plain one taken. -/
theorem test_wf_Report : (wReport : Report).wf = true
    ∧ ([{ wReport with member := 2 },
      { wReport with mode := 8 },
      { wReport with sync := 4 },
      { wReport with seq := 2 ^ 32 },
      { wReport with cycle := 2 ^ 32 },
      { wReport with topo := 2 ^ 16 },
      { wReport with progress := 2 ^ 8 },
      { wReport with latent := 2 ^ 8 },
      { wReport with scrub := 2 ^ 32 },
      { wReport with rxChecks := 2 ^ 16 },
      { wReport with status := 2 ^ 64 }] : List Report).all (fun x => !x.wf) = true := by decide +kernel

/-- Image: a term with one field past its width is refused, the plain one taken. -/
theorem test_wf_Image : ({ wImage0 with reserved := zeros 11, tag := zeros 32 } : Image).wf = true
    ∧ ([{ wImage0 with reserved := zeros 11, tag := zeros 32, magic := 2 ^ 32 },
      { wImage0 with reserved := zeros 11, tag := zeros 32, version := 2 ^ 16 },
      { wImage0 with reserved := zeros 11, tag := zeros 32, targetMode := 2 ^ 8 },
      { wImage0 with reserved := zeros 11, tag := zeros 32, role := 2 ^ 8 },
      { wImage0 with reserved := zeros 11, tag := zeros 32, length := 2 ^ 32 },
      { wImage0 with reserved := zeros 11, tag := zeros 32, serial := 2 ^ 32 },
      { wImage0 with reserved := zeros 11, tag := zeros 32, crc := 2 ^ 32 },
      { wImage0 with reserved := zeros 11, tag := zeros 32, keySlot := 2 ^ 8 },
      { wImage0 with reserved := zeros 10, tag := zeros 32 },
      { wImage0 with reserved := zeros 11, tag := zeros 31 },
      { wImage0 with reserved := zeros 11, tag := zeros 32, loads := [(GLB_MODE_MODE, 16)] }] : List Image).all (fun x => !x.wf) = true := by decide +kernel


/-! Every range check of Instr.wf: the operands in range are taken, one past its range is refused. -/

theorem test_wf_commands_a : ([.registerWrite .pf0 0 4 0,
    .reg64LowerWordWrite .pf0 0 0,
    .reg64UpperWordWrite .pf0 0 0,
    .reg64LowerWordRead .pf0 0,
    .wideRegisterWord0Read .pf0 0,
    .readClearAccess .pf0 0 4,
    .unperformedAccess .pf0 false 0 0,
    .restart (.reg .pf0) 0 0,
    .enterSafe (.reg .pf0) 0,
    .configDone (.reg .pf0) 0,
    .configFetchDone none,
    .enterTest (.reg .pf0) 0,
    .sleepVote (.reg .pf0) 0,
    .configStore (.reg .pf0) 0,
    .configStoreDone none,
    .debugOpen (.reg .pf0) 0,
    .dbgToken 0,
    .lcPersonalize (.reg .pf0) 0,
    .lcField (.reg .pf0) 0,
    .lcReturn (.reg .pf0) 0,
    .lcScrap (.reg .pf0) 0,
    .internalResetRelease 0,
    .bootSelftestDone false [] false,
    .pcieEndpointReady 1 1,
    .linkLossOfSignal 0,
    .linkCodeError 0 false,
    .signalDetect 0,
    .acquireSettingTimer 0 0,
    .acquireTimeout 0,
    .rxPolarityDetect 0,
    .linkUp 0,
    .shadowUpdate 0 0 [] 0,
    .calTimeout 0,
    .prelockEqStep 0,
    .keepalivePulse 0,
    .keepaliveTimeout 0,
    .pairShortDetect 0 false 0 0,
    .pairOpenDetect 0 0 0,
    .pairSwapDetect 0,
    .commonModeDetect 0 0,
    .pairFaultClear 0 1,
    .echoScanDone 0 0 0,
    .hopReportReceive 0 wHopR,
    .hopNoticeReceive 0 wHopN,
    .calibrationEpoch 0,
    .lateLineTimeout 0,
    .deferredRxChange 0,
    .recalibrate (.reg .pf0) 0 0,
    .setDelayBase (.reg .pf0) 0 0,
    .echoReset (.reg .pf0) 0 0,
    .kaTest (.reg .pf0) 0 0,
    .kaTestEnd 0 false,
    .endNotLinkedHold 1,
    .helloReceive 0 wIna,
    .helloRepeat 0,
    .coupleSenseDebounced 1 false,
    .inaugurate (.reg .pf0) 0,
    .alertReceive 0 wIna,
    .discReceive 0 wIna,
    .retReceive 0 wIna,
    .inaugCommitReceive 0 wIna,
    .doneReceive 0 wIna,
    .hopdlyReceive wFrame,
    .cycleFrameOutbound 0 wCyc 0 0 none,
    .cycleFrameInbound 0 wCyc 0 0 none,
    .declare (.reg .pf0) 0,
    .slotDeclReceive wFrame,
    .slotMapReceive wFrame,
    .mapReissue (.reg .pf0) 0,
    .msgWindowOpen 0,
    .msgWindowClose 0,
    .msgFrameReceive 0 wFrame 0,
    .msgTransmitStart 0,
    .msgQueueAgeExpiry 0 0,
    .dupRecordLapse 0 0,
    .step (.reg .pf0) 0,
    .clearValid (.reg .pf0) 0,
    .timNowNsRead .pf0,
    .consistFrameReceive 0 wCst 0,
    .consistActionPoint 0] : List Instr).all Instr.wf = true := by decide +kernel

theorem test_wf_commands_b : ([.guardianFrameStart 0 wCst 0,
    .guardianCut 0,
    .guardianBlankEnd 0,
    .consistLinkDown 0 false,
    .consistLinkUp 0,
    .cstRejoin (.reg .pf0) 0,
    .portReset (.reg .pf0) 0,
    .canFrameReceive 0 wCan 0,
    .canRxError 0 0 0 false,
    .canProtocolException 0,
    .canTxSelect 0,
    .canTxSuccess 0 0,
    .canTxArbLost 0,
    .canTxError 0 0 0 0 false,
    .canRecessive11 0,
    .canStart (.reg .pf0) 0 0,
    .canStop (.reg .pf0) 0 0,
    .canCancel (.reg .pf0) 0 0,
    .canCfgWrite .pf0 0 4 0,
    .canDominantTimeout 0,
    .canDominantClear 0,
    .canTtReferenceReceive 0 wCan 0,
    .canTtReferenceSend 0,
    .canTtReferenceMissing 0,
    .canTtWindowStart 0 0 false,
    .canTtTxenExpiry 0 0,
    .sliceService 0 0 0,
    .flowEnable (.reg .pf0) 0,
    .flowDisable (.reg .pf0) 0,
    .sliceApply (.reg .pf0) 0,
    .flowContextWrite .pf0 0 4 0,
    .staleFlowRun 0,
    .channelTest 0 false,
    .apReqWr .pf0 0 0,
    .apReqRd .pf0 0 0,
    .apReqUnlock .pf0 0 0,
    .apStatusRead .pf0 0,
    .brgWrRequest wFrame none,
    .brgRdRequest wFrame none,
    .brgUnlockRequest wFrame,
    .sbPollReceive wFrame,
    .rdDataReceive wFrame,
    .errReceive wFrame,
    .lockRetryReceive wFrame,
    .lockFreeReceive wFrame,
    .sbDataReceive wFrame,
    .faultNoticeReceive wFrame,
    .bseqGapExpiry 0 0,
    .orderStateLapse 0 0,
    .responseTimeout 0 0 0,
    .readDiscardTimeout 0,
    .lockRetryTimer 0 0 0,
    .winEnable (.reg .pf0) 0,
    .winDisable (.reg .pf0) 0,
    .doorbellPoll 0 none [],
    .fetchComplete 0,
    .txDescData 0,
    .txDescCmd 0,
    .txDescBridge 0,
    .eventEntryWrite 0 none,
    .msixCoalesceTimeout 0,
    .msixUnmask 0 0,
    .ringEnable .pf0 0 0,
    .ringDisable .pf0 0 0,
    .ringStopDone 0,
    .busMasterDisable 0,
    .d3hotEntry 0,
    .ghBusRead 0 false,
    .ghHighWordRead 0 false,
    .ghBusWrite 0 0 false,
    .ghHighWordWrite 0 0 false,
    .ghLowWordWrite 0 0 false,
    .legacySoftReset 0,
    .nodeEnableWrite 0,
    .elogClear 0,
    .wdrWrite 0,
    .mbcHandover 0 0,
    .gtnCanRunWrite 0 0,
    .gtnCanRx 0 wCan 0,
    .gtnCanTxDone 0] : List Instr).all Instr.wf = true := by decide +kernel

theorem test_wf_commands_c : ([.claimReceive 0 wTele,
    .nameReceive 0 wTele,
    .nameAckReceive 0 wTele,
    .topologyReceive 0 wTele,
    .periodReceive 0 wTele,
    .pdPollReceive 0 wTele,
    .pdDataReceive 0 wTele,
    .msgPollReceive 0 wTele,
    .gMsgReceive 0 wTele,
    .msgAckReceive 0 wTele,
    .noneReceive 0 wTele,
    .gResetReceive 0 wTele,
    .gLineSwitch 1,
    .gPortDown 0,
    .refSwTake 0,
    .syncReceive none,
    .refereeEvaluate .missing .missing,
    .aliveWatchTimeout 0,
    .refereeAdoptEnd .missing .missing,
    .select (.reg .pf0) 0,
    .resync (.reg .pf0) 0,
    .stateTransferDone wTransfer,
    .pairUpdateReceive none,
    .sleepReqReceive wSleep,
    .sleepCallReceive wSleep,
    .sleepVoteReceive wSleep,
    .sleepCommitReceive wSleep,
    .sleepCancelReceive wSleep,
    .sleepStayReceive wSleep,
    .wakeLineActivity 0,
    .wakeCanPattern 0,
    .wakePin 0 false,
    .faultLatch 0,
    .faultLineDeassert 0,
    .reactionTimerExpiry 0,
    .fltForceWrite .pf0 0,
    .fltRawClear .pf0 0,
    .latentTest 0 false,
    .recorderEventEnqueue 0 0 [],
    .recRdIdxWrite .pf0 0,
    .recRdData7HighRead .pf0,
    .recClear (.reg .pf0) 0,
    .keyWrite (.reg .pf0) 0,
    .keyErase (.reg .pf0) 0,
    .keySwitch (.reg .pf0) 0,
    .tamperAlarm 0,
    .tamperClear (.reg .pf0) 0,
    .beaconForward wBeacon 0 0,
    .beaconReturn wBeacon,
    .stackFrameReceive wFrame,
    .bypass (.reg .pf0) 0,
    .stkRejoin (.reg .pf0) 0,
    .regulatorLimit 0,
    .lcProgramDone 0 0,
    .d0Return 0,
    .busMasterEnable 0 false,
    .gTelegramDiscard 0 wTele,
    .canTtFirstReference 0,
    .jtagTestInstruction [] false] : List Instr).all Instr.wf = true := by decide +kernel

theorem test_wf_refuses_a : ([.registerWrite (.bridge (2 ^ 16) 0) 0 4 0,
    .registerWrite .pf0 (2 ^ 32) 4 0,
    .registerWrite .pf0 0 5 0,
    .registerWrite .pf0 0 4 (2 ^ 32),
    .reg64LowerWordWrite (.bridge (2 ^ 16) 0) 0 0,
    .reg64LowerWordWrite .pf0 (2 ^ 20) 0,
    .reg64LowerWordWrite .pf0 0 (2 ^ 32),
    .reg64UpperWordWrite (.bridge (2 ^ 16) 0) 0 0,
    .reg64UpperWordWrite .pf0 (2 ^ 20) 0,
    .reg64UpperWordWrite .pf0 0 (2 ^ 32),
    .reg64LowerWordRead (.bridge (2 ^ 16) 0) 0,
    .reg64LowerWordRead .pf0 (2 ^ 20),
    .wideRegisterWord0Read (.bridge (2 ^ 16) 0) 0,
    .wideRegisterWord0Read .pf0 (2 ^ 20),
    .readClearAccess (.bridge (2 ^ 16) 0) 0 4,
    .readClearAccess .pf0 (2 ^ 20) 4,
    .readClearAccess .pf0 0 5,
    .unperformedAccess (.bridge (2 ^ 16) 0) false 0 0,
    .unperformedAccess .pf0 false (2 ^ 20) 0,
    .unperformedAccess .pf0 false 0 (2 ^ 8),
    .restart (.reg (.bridge 0 32)) 0 0,
    .restart (.reg .pf0) 65536 0,
    .restart (.reg .pf0) 0 8,
    .enterSafe (.reg (.bridge 0 32)) 0,
    .enterSafe (.reg .pf0) 65536,
    .configDone (.reg (.bridge 0 32)) 0,
    .configDone (.reg .pf0) 65536,
    .configFetchDone (some wImage0),
    .enterTest (.reg (.bridge 0 32)) 0,
    .enterTest (.reg .pf0) 65536,
    .sleepVote (.reg (.bridge 0 32)) 0,
    .sleepVote (.reg .pf0) 65536,
    .configStore (.reg (.bridge 0 32)) 0,
    .configStore (.reg .pf0) 65536,
    .configStoreDone (some wImage0),
    .debugOpen (.reg (.bridge 0 32)) 0,
    .debugOpen (.reg .pf0) 65536,
    .dbgToken (2 ^ 256),
    .lcPersonalize (.reg (.bridge 0 32)) 0,
    .lcPersonalize (.reg .pf0) 65536,
    .lcField (.reg (.bridge 0 32)) 0,
    .lcField (.reg .pf0) 65536,
    .lcReturn (.reg (.bridge 0 32)) 0,
    .lcReturn (.reg .pf0) 65536,
    .lcScrap (.reg (.bridge 0 32)) 0,
    .lcScrap (.reg .pf0) 65536,
    .internalResetRelease 8,
    .bootSelftestDone false [129] false] : List Instr).all (fun i => !i.wf) = true := by decide +kernel

theorem test_wf_refuses_b : ([.pcieEndpointReady 4 1,
    .pcieEndpointReady 0 1,
    .pcieEndpointReady 1 3,
    .linkLossOfSignal 4,
    .linkCodeError 4 false,
    .signalDetect 4,
    .acquireSettingTimer 4 0,
    .acquireSettingTimer 0 256,
    .acquireTimeout 4,
    .rxPolarityDetect 4,
    .linkUp 4,
    .shadowUpdate 4 0 [] 0,
    .shadowUpdate 0 256 [] 0,
    .shadowUpdate 0 0 [] 256,
    .calTimeout 4,
    .prelockEqStep 4,
    .keepalivePulse 4,
    .keepaliveTimeout 4,
    .pairShortDetect 4 false 0 0,
    .pairOpenDetect 4 0 0,
    .pairSwapDetect 4,
    .commonModeDetect 4 0,
    .pairFaultClear 4 1,
    .pairFaultClear 0 12,
    .pairFaultClear 0 0,
    .echoScanDone 4 0 0,
    .hopReportReceive 4 wHopR,
    .hopReportReceive 0 { wHopR with flags := 256 },
    .hopNoticeReceive 4 wHopN,
    .hopNoticeReceive 0 { wHopN with flags := 256 },
    .calibrationEpoch 16,
    .lateLineTimeout 2,
    .deferredRxChange 4,
    .recalibrate (.reg (.bridge 0 32)) 0 0,
    .recalibrate (.reg .pf0) 4 0,
    .recalibrate (.reg .pf0) 0 65536,
    .setDelayBase (.reg (.bridge 0 32)) 0 0,
    .setDelayBase (.reg .pf0) 4 0,
    .setDelayBase (.reg .pf0) 0 65536,
    .echoReset (.reg (.bridge 0 32)) 0 0,
    .echoReset (.reg .pf0) 4 0,
    .echoReset (.reg .pf0) 0 65536,
    .kaTest (.reg (.bridge 0 32)) 0 0,
    .kaTest (.reg .pf0) 4 0,
    .kaTest (.reg .pf0) 0 65536,
    .kaTestEnd 4 false,
    .endNotLinkedHold 3,
    .helloReceive 4 wIna] : List Instr).all (fun i => !i.wf) = true := by decide +kernel

theorem test_wf_refuses_c : ([.helloReceive 0 { wIna with kind := 256 },
    .helloRepeat 4,
    .coupleSenseDebounced 3 false,
    .inaugurate (.reg (.bridge 0 32)) 0,
    .inaugurate (.reg .pf0) 65536,
    .alertReceive 4 wIna,
    .alertReceive 0 { wIna with kind := 256 },
    .discReceive 4 wIna,
    .discReceive 0 { wIna with kind := 256 },
    .retReceive 4 wIna,
    .retReceive 0 { wIna with kind := 256 },
    .inaugCommitReceive 4 wIna,
    .inaugCommitReceive 0 { wIna with kind := 256 },
    .doneReceive 4 wIna,
    .doneReceive 0 { wIna with kind := 256 },
    .hopdlyReceive { wFrame with type := 16 },
    .cycleFrameOutbound 4 wCyc 0 0 none,
    .cycleFrameOutbound 0 { wCyc with flags := 256 } 0 0 none,
    .cycleFrameInbound 4 wCyc 0 0 none,
    .cycleFrameInbound 0 { wCyc with flags := 256 } 0 0 none,
    .declare (.reg (.bridge 0 32)) 0,
    .declare (.reg .pf0) 65536,
    .slotDeclReceive { wFrame with type := 16 },
    .slotMapReceive { wFrame with type := 16 },
    .mapReissue (.reg (.bridge 0 32)) 0,
    .mapReissue (.reg .pf0) 65536,
    .msgWindowOpen 4,
    .msgWindowClose 4,
    .msgFrameReceive 4 wFrame 0,
    .msgFrameReceive 0 { wFrame with type := 16 } 0,
    .msgTransmitStart 4,
    .msgQueueAgeExpiry 4 0,
    .msgQueueAgeExpiry 0 8,
    .dupRecordLapse (2 ^ 16) 0,
    .dupRecordLapse 0 8,
    .step (.reg (.bridge 0 32)) 0,
    .step (.reg .pf0) 65536,
    .clearValid (.reg (.bridge 0 32)) 0,
    .clearValid (.reg .pf0) 65536,
    .timNowNsRead (.bridge (2 ^ 16) 0),
    .consistFrameReceive 8 wCst 0,
    .consistFrameReceive 0 { wCst with flags := 256 } 0,
    .consistActionPoint 577,
    .guardianFrameStart 8 wCst 0,
    .guardianFrameStart 0 { wCst with flags := 256 } 0,
    .guardianCut 8,
    .guardianBlankEnd 8,
    .consistLinkDown 8 false] : List Instr).all (fun i => !i.wf) = true := by decide +kernel

theorem test_wf_refuses_d : ([.consistLinkUp 8,
    .cstRejoin (.reg (.bridge 0 32)) 0,
    .cstRejoin (.reg .pf0) 65536,
    .portReset (.reg (.bridge 0 32)) 0,
    .portReset (.reg .pf0) 65536,
    .canFrameReceive 12 wCan 0,
    .canFrameReceive 0 { wCan with dlc := 16 } 0,
    .canRxError 12 0 0 false,
    .canRxError 0 5 0 false,
    .canProtocolException 12,
    .canTxSelect 12,
    .canTxSuccess 12 0,
    .canTxArbLost 12,
    .canTxError 12 0 0 0 false,
    .canTxError 0 5 0 0 false,
    .canRecessive11 12,
    .canStart (.reg (.bridge 0 32)) 0 0,
    .canStart (.reg .pf0) 12 0,
    .canStart (.reg .pf0) 0 65536,
    .canStop (.reg (.bridge 0 32)) 0 0,
    .canStop (.reg .pf0) 12 0,
    .canStop (.reg .pf0) 0 65536,
    .canCancel (.reg (.bridge 0 32)) 0 0,
    .canCancel (.reg .pf0) 12 0,
    .canCancel (.reg .pf0) 0 65536,
    .canCfgWrite (.bridge (2 ^ 16) 0) 0 4 0,
    .canCfgWrite .pf0 (2 ^ 20) 4 0,
    .canCfgWrite .pf0 0 5 0,
    .canCfgWrite .pf0 0 4 (2 ^ 32),
    .canDominantTimeout 12,
    .canDominantClear 12,
    .canTtReferenceReceive 12 wCan 0,
    .canTtReferenceReceive 0 { wCan with dlc := 16 } 0,
    .canTtReferenceSend 12,
    .canTtReferenceMissing 12,
    .canTtWindowStart 12 0 false,
    .canTtWindowStart 0 32 false,
    .canTtTxenExpiry 12 0,
    .canTtTxenExpiry 0 32,
    .sliceService 64 0 0,
    .sliceService 0 (2 ^ 32) 0,
    .flowEnable (.reg (.bridge 0 32)) 0,
    .flowEnable (.reg .pf0) 65536,
    .flowDisable (.reg (.bridge 0 32)) 0,
    .flowDisable (.reg .pf0) 65536,
    .sliceApply (.reg (.bridge 0 32)) 0,
    .sliceApply (.reg .pf0) 65536,
    .flowContextWrite (.bridge (2 ^ 16) 0) 0 4 0] : List Instr).all (fun i => !i.wf) = true := by decide +kernel

theorem test_wf_refuses_e : ([.flowContextWrite .pf0 (2 ^ 20) 4 0,
    .flowContextWrite .pf0 0 5 0,
    .flowContextWrite .pf0 0 4 (2 ^ 32),
    .staleFlowRun 1024,
    .channelTest 129 false,
    .apReqWr (.bridge (2 ^ 16) 0) 0 0,
    .apReqWr .pf0 8 0,
    .apReqWr .pf0 0 (2 ^ 64),
    .apReqRd (.bridge (2 ^ 16) 0) 0 0,
    .apReqRd .pf0 8 0,
    .apReqRd .pf0 0 (2 ^ 64),
    .apReqUnlock (.bridge (2 ^ 16) 0) 0 0,
    .apReqUnlock .pf0 8 0,
    .apReqUnlock .pf0 0 (2 ^ 64),
    .apStatusRead (.bridge (2 ^ 16) 0) 0,
    .apStatusRead .pf0 8,
    .brgWrRequest { wFrame with type := 16 } none,
    .brgRdRequest { wFrame with type := 16 } none,
    .brgUnlockRequest { wFrame with type := 16 },
    .sbPollReceive { wFrame with type := 16 },
    .rdDataReceive { wFrame with type := 16 },
    .errReceive { wFrame with type := 16 },
    .lockRetryReceive { wFrame with type := 16 },
    .lockFreeReceive { wFrame with type := 16 },
    .sbDataReceive { wFrame with type := 16 },
    .faultNoticeReceive { wFrame with type := 16 },
    .bseqGapExpiry (2 ^ 16) 0,
    .bseqGapExpiry 0 32,
    .orderStateLapse (2 ^ 16) 0,
    .orderStateLapse 0 32,
    .responseTimeout 0 32 0,
    .responseTimeout 0 0 65536,
    .readDiscardTimeout 8,
    .lockRetryTimer 0 32 0,
    .lockRetryTimer 0 0 65536,
    .winEnable (.reg (.bridge 0 32)) 0,
    .winEnable (.reg .pf0) 65536,
    .winDisable (.reg (.bridge 0 32)) 0,
    .winDisable (.reg .pf0) 65536,
    .doorbellPoll 4 none [],
    .doorbellPoll 0 none [(64, [])],
    .fetchComplete 4,
    .txDescData 64,
    .txDescCmd 64,
    .txDescBridge 64,
    .eventEntryWrite 4 none,
    .eventEntryWrite 0 (some { code := 2 ^ 16, payload := [] }),
    .msixCoalesceTimeout 132] : List Instr).all (fun i => !i.wf) = true := by decide +kernel

theorem test_wf_refuses_f : ([.msixUnmask 2 0,
    .msixUnmask 0 64,
    .ringEnable (.bridge (2 ^ 16) 0) 0 0,
    .ringEnable .pf0 132 0,
    .ringEnable .pf0 0 (2 ^ 32),
    .ringDisable (.bridge (2 ^ 16) 0) 0 0,
    .ringDisable .pf0 132 0,
    .ringDisable .pf0 0 (2 ^ 32),
    .ringStopDone 132,
    .busMasterDisable 2,
    .d3hotEntry 2,
    .ghBusRead (2 ^ 11) false,
    .ghHighWordRead (2 ^ 11) false,
    .ghBusWrite (2 ^ 11) 0 false,
    .ghBusWrite 0 (2 ^ 16) false,
    .ghHighWordWrite (2 ^ 11) 0 false,
    .ghHighWordWrite 0 (2 ^ 16) false,
    .ghLowWordWrite (2 ^ 11) 0 false,
    .ghLowWordWrite 0 (2 ^ 16) false,
    .legacySoftReset (2 ^ 16),
    .nodeEnableWrite (2 ^ 16),
    .elogClear (2 ^ 16),
    .wdrWrite (2 ^ 16),
    .mbcHandover 16 0,
    .mbcHandover 0 (2 ^ 16),
    .gtnCanRunWrite 2 0,
    .gtnCanRunWrite 0 (2 ^ 16),
    .gtnCanRx 2 wCan 0,
    .gtnCanRx 0 { wCan with dlc := 16 } 0,
    .gtnCanTxDone 2,
    .claimReceive 4 wTele,
    .claimReceive 0 { wTele with flags := 256 },
    .nameReceive 4 wTele,
    .nameReceive 0 { wTele with flags := 256 },
    .nameAckReceive 4 wTele,
    .nameAckReceive 0 { wTele with flags := 256 },
    .topologyReceive 4 wTele,
    .topologyReceive 0 { wTele with flags := 256 },
    .periodReceive 4 wTele,
    .periodReceive 0 { wTele with flags := 256 },
    .pdPollReceive 4 wTele,
    .pdPollReceive 0 { wTele with flags := 256 },
    .pdDataReceive 4 wTele,
    .pdDataReceive 0 { wTele with flags := 256 },
    .msgPollReceive 4 wTele,
    .msgPollReceive 0 { wTele with flags := 256 },
    .gMsgReceive 4 wTele,
    .gMsgReceive 0 { wTele with flags := 256 }] : List Instr).all (fun i => !i.wf) = true := by decide +kernel

theorem test_wf_refuses_g : ([.msgAckReceive 4 wTele,
    .msgAckReceive 0 { wTele with flags := 256 },
    .noneReceive 4 wTele,
    .noneReceive 0 { wTele with flags := 256 },
    .gResetReceive 4 wTele,
    .gResetReceive 0 { wTele with flags := 256 },
    .gLineSwitch 3,
    .gPortDown 4,
    .refSwTake 2,
    .syncReceive (some { wSync with sel := 2 }),
    .refereeEvaluate (.report { wReport with member := 2 }) .missing,
    .refereeEvaluate .missing (.report { wReport with member := 2 }),
    .aliveWatchTimeout 2,
    .refereeAdoptEnd (.report { wReport with member := 2 }) .missing,
    .refereeAdoptEnd .missing (.report { wReport with member := 2 }),
    .select (.reg (.bridge 0 32)) 0,
    .select (.reg .pf0) 65536,
    .resync (.reg (.bridge 0 32)) 0,
    .resync (.reg .pf0) 65536,
    .stateTransferDone { wTransfer with loads := [(GLB_MODE_MODE, 16)] },
    .pairUpdateReceive (some { wUpdate with gpio := 2 ^ 32 }),
    .sleepReqReceive { wSleep with kind := 256 },
    .sleepCallReceive { wSleep with kind := 256 },
    .sleepVoteReceive { wSleep with kind := 256 },
    .sleepCommitReceive { wSleep with kind := 256 },
    .sleepCancelReceive { wSleep with kind := 256 },
    .sleepStayReceive { wSleep with kind := 256 },
    .wakeLineActivity 4,
    .wakeCanPattern 12,
    .wakePin 4 false,
    .faultLatch (2 ^ 64),
    .faultLineDeassert 64,
    .reactionTimerExpiry 64,
    .fltForceWrite (.bridge (2 ^ 16) 0) 0,
    .fltForceWrite .pf0 (2 ^ 64),
    .fltRawClear (.bridge (2 ^ 16) 0) 0,
    .fltRawClear .pf0 (2 ^ 64),
    .latentTest 5 false,
    .recorderEventEnqueue 65536 0 [],
    .recorderEventEnqueue 0 65536 [],
    .recRdIdxWrite (.bridge (2 ^ 16) 0) 0,
    .recRdIdxWrite .pf0 (2 ^ 32),
    .recRdData7HighRead (.bridge (2 ^ 16) 0),
    .recClear (.reg (.bridge 0 32)) 0,
    .recClear (.reg .pf0) 65536,
    .keyWrite (.reg (.bridge 0 32)) 0,
    .keyWrite (.reg .pf0) 65536,
    .keyErase (.reg (.bridge 0 32)) 0] : List Instr).all (fun i => !i.wf) = true := by decide +kernel

theorem test_wf_refuses_h : ([.keyErase (.reg .pf0) 65536,
    .keySwitch (.reg (.bridge 0 32)) 0,
    .keySwitch (.reg .pf0) 65536,
    .tamperAlarm (2 ^ 64),
    .tamperClear (.reg (.bridge 0 32)) 0,
    .tamperClear (.reg .pf0) 65536,
    .beaconForward { wBeacon with role := 8 } 0 0,
    .beaconReturn { wBeacon with role := 8 },
    .stackFrameReceive { wFrame with type := 16 },
    .bypass (.reg (.bridge 0 32)) 0,
    .bypass (.reg .pf0) 65536,
    .stkRejoin (.reg (.bridge 0 32)) 0,
    .stkRejoin (.reg .pf0) 65536,
    .regulatorLimit 4,
    .lcProgramDone 9 0,
    .lcProgramDone 0 8,
    .d0Return 2,
    .busMasterEnable 2 false,
    .gTelegramDiscard 4 wTele,
    .gTelegramDiscard 0 { wTele with flags := 256 },
    .canTtFirstReference 12,
    .jtagTestInstruction [(4, 0)] false] : List Instr).all (fun i => !i.wf) = true := by decide +kernel

/-- An update record (Table 14.10): a term with one value past its field is refused. -/
theorem test_wf_PairUpdate : wUpdate.wf = true
    ∧ ([{ wUpdate with gpio := 2 ^ 32 }, { wUpdate with loads := [(GLB_MODE_MODE, 16)] }, { wUpdate with crcs := [(12, 0)] },
      { wUpdate with crcs := [(0, 2 ^ 32)] }] : List PairUpdate).all (fun x => !x.wf) = true := by decide +kernel

theorem test_wf_HostEv : (⟨0, zeros 16⟩ : HostEv).wf = true
    ∧ ([⟨2 ^ 16, []⟩, ⟨0, zeros 17⟩] : List HostEv).all (fun x => !x.wf) = true := by decide +kernel

theorem test_wf_origin : reqWf (.bridge 0xFFFF 31) = true ∧ reqWf (.bridge 0x10000 0) = false ∧ reqWf (.bridge 0 32) = false := by decide

theorem test_wf_descriptors : descriptorsWf (63, [some ⟨zeros 32, none⟩, none]) = true ∧ descriptorsWf (64, []) = false
    ∧ descriptorsWf (0, [some ⟨zeros 31, none⟩]) = false := by decide

/-! ### What the machine does

The expected values are the spec's: its examples, its tables, and the check values of the polynomials it names. -/

/-- The state after a command, if it answers one, else the state before. -/
def after (c : Instr) (s : State) : State :=
  match exec c s with
  | .next t => t
  | _ => s

/-- R2, R36: the node comes out of reset in BOOT, and no command waits. -/
theorem test_reset_boot : State.reset.mode = modeBoot ∧ State.reset.pending = [] := by decide +kernel

/-- Chapter 00, the example of a train address: 0x0283 is position 11, stack position 3; 0x4000 is the own stack
master; 0xBFFF is the group of all devices. -/
theorem test_train_address : addrPos 0x0283 = 11 ∧ addrStk 0x0283 = 3 ∧ addrGroup 0x0283 = false ∧ addrLocal 0x4000 = true
    ∧ addrStk 0x4000 = 0 ∧ addrGroup groupAll = true ∧ addrLocal groupAll = false ∧ addrGroupNo groupAll = 0x3FFF := by decide

/-- The check values, over the text 123456789, of the three polynomials that R80, R126 and Table 2.5 name. -/
theorem test_check_values : crc8 (wB [49, 50, 51, 52, 53, 54, 55, 56, 57]) = 0xF4
    ∧ crc16 (wB [49, 50, 51, 52, 53, 54, 55, 56, 57]) = 0x29B1
    ∧ crc32 (wB [49, 50, 51, 52, 53, 54, 55, 56, 57]) = 0xCBF43926 := by decide +kernel

/-- Chapter 09, the example of a tube: CAN5, identifier 0x18FF5012, DLC 9, FDF, BRS. -/
theorem test_tube_header :
    (tubePayload { ch := 0x35, sel := 0, data := wB [0x12, 0x50, 0xFF, 0x38, 0x39, 0, 0, 0] ++ zeros 72 } false).map
        (fun b => (b.take 12, b.length))
      = some (wB [0x01, 0x35, 0x14, 0x00, 0x12, 0x50, 0xFF, 0x38, 0x39, 0, 0, 0], 24) := by decide +kernel

/-- Chapter 10, the example of byte lanes: 0x11223344 at a big-endian export, by address and by data. -/
theorem test_byte_lanes :
    (wS modeNative [(BRG_WIN_CTRL_FAR_BE 0, 1)]).laneBytes 0 4 0x11223344 = wB [0x44, 0x33, 0x22, 0x11]
    ∧ (wS modeNative [(BRG_WIN_CTRL_FAR_BE 0, 1), (BRG_WIN_CTRL_LANES 0, 1)]).laneBytes 0 4 0x11223344
      = wB [0x11, 0x22, 0x33, 0x44] := by decide +kernel

/-- R15: a write by local PF0 changes INA_CFG.DOWN_HOLD (bits 23:18); a write by PF1 does not. -/
theorem test_register_write :
    (after (.registerWrite .pf0 0xA000 4 (20 * 2 ^ 18)) (wS modeBoot [])).get INA_CFG_DOWN_HOLD = 20
    ∧ (after (.registerWrite .pf1 0xA000 4 (20 * 2 ^ 18)) (wS modeBoot [])).get INA_CFG_DOWN_HOLD = 10 := by decide +kernel

/-- R38: ENTER_SAFE takes a native node to SAFE; PF1 may not command it (R16). -/
theorem test_enter_safe : (after (.enterSafe (.reg .pf0) 0) (wS modeNative [])).mode = modeSafe
    ∧ (after (.enterSafe (.reg .pf1) 0) (wS modeNative [])).mode = modeNative := by decide +kernel

/-- Table 8.8: a transmit error counter of 248 that goes up by 8 takes the channel to bus-off. -/
theorem test_can_bus_off :
    (after (.canTxError 4 0 8 0 false) ({ wS modeNative [(CAN_STATUS_STATE 4, canRunning), (CAN_ERRCNT_TEC 4, 248), (CAN_STATUS_CONF 4, 1)] with
        can := [(4, { entries := [wEntry], sending := some 0 })] })).get (CAN_STATUS_CONF 4) = 2 := by decide +kernel

/-- Chapter 17, the example of SOURCE and INSTANCE: L1B at 0x0_8800 is SOURCE 0x08 with INSTANCE 2. -/
theorem test_record_source : ((wS modeNative []).stamp 0x8800 0x1001 []).source = 0x08
    ∧ bits ((wS modeNative []).stamp 0x8800 0x1001 []).flags 6 2 = 2
    ∧ ((wS modeNative []).stamp 0x12400 0x1001 []).source = 0x12
    ∧ bits ((wS modeNative []).stamp 0x12400 0x1001 []).flags 6 2 = 1 := by decide +kernel

/-- The front command runs, the rest waits; with none waiting 8 ns pass (notes/assumptions/8.md). -/
theorem test_step :
    (match step { wS modeNative [] with pending := [.enterSafe (.reg .pf0) 0, .freeEpoch] } with
      | .next t => (t.mode, t.pending) | _ => (0, [])) = (modeSafe, [.freeEpoch])
    ∧ (match step (wS modeNative []) with | .next t => t.elapsed | _ => 0) = 8 := by decide +kernel

/-- R51: a field of 8 cells is set from 5 programmed cells on; 1 to 4 show as partial; the highest set field decides. -/
theorem test_life_cycle_cells :
    ({ State.reset.otp with pers := 5 } : OtpState).lifeCycle = lcPersonalized
    ∧ ({ State.reset.otp with pers := 4 } : OtpState).lifeCycle = lcMaker
    ∧ ({ State.reset.otp with pers := 8, field := 8, scrap := 5 } : OtpState).lifeCycle = lcScrapped
    ∧ ({ State.reset.otp with pers := 8, field := 3 } : OtpState).lifeCycle = lcPersonalized := by decide +kernel

/-- Table 20.12: from 135 °C on the governor shuts down; 122 °C sheds; 116 °C is normal (1 °C is 8 units). -/
theorem test_governor :
    (after (.thermalMeasure 1080 1000) (wS modeNative [])).get CLK_STATUS_GOV = 3
    ∧ (after (.thermalMeasure 976 970) (wS modeNative [])).get FLW_STATUS_SHEDDING = 1
    ∧ (after (.thermalMeasure 928 920) (wS modeNative [])).get CLK_STATUS_GOV = 0 := by decide +kernel

/-- R132: the third position would pass 1,024 units, and it and the fourth get 0. -/
theorem test_slot_sizes : assignSizes 0 [64, 950, 20, 1] = [64, 950, 0, 0] := by decide

/-- R220 and Table 8.3: DLC 9 to 15 mean 12 to 64 bytes in FD and 8 in a classical frame. -/
theorem test_dlc : [9, 10, 11, 12, 13, 14, 15].map (dlcBytes true) = [12, 16, 20, 24, 32, 48, 64]
    ∧ dlcBytes false 15 = 8 := by decide

/-- R92: a cab-active claim beats one without; else the higher priority, the longer uptime, the lower UID. -/
theorem test_claims : (⟨true, 0, 0, 9⟩ : Claim).better ⟨false, 7, 100, 1⟩ = true
    ∧ (⟨false, 2, 0, 9⟩ : Claim).better ⟨false, 1, 100, 1⟩ = true := by decide

/-! ### Every statement's hypotheses are met

One conjunct for each clause that has hypotheses, in the clauses' order. -/

theorem zeroPair (x : Nat × State) (h : x.1 = 0) : x = (0, x.2) := Prod.ext h rfl
theorem found {s : State} {req : Requester} {a : Nat} (hr : req ≠ .pf1) (ha : a < 0x300000) (h : (findReg a).isSome = true) :
    s.reach req a = some ((findReg a).getD wHit) := by
  obtain ⟨x, hx⟩ := Option.isSome_iff_exists.mp h
  cases req <;> simp_all [State.reach]
/-- The bytes of a string read back from the number that holds them. -/
theorem le_ofLe (l : Bytes) : le l.length (ofLe l) = l := by
  induction l with
  | nil => rfl
  | cons b t ih =>
    have h : (b.toNat + 256 * ofLe t) / 256 = ofLe t := by have := b.isLt; omega
    have hb : BitVec.ofNat 8 (b.toNat + 256 * ofLe t) = b := BitVec.eq_of_toNat_eq (by simp; exact b.isLt)
    simp [ofLe, le, h, ih, hb]

theorem ofLe_lt (l : Bytes) : ofLe l < 256 ^ l.length := by
  induction l with
  | nil => simp [ofLe]
  | cons b t ih => have := b.isLt; simp only [ofLe, List.length_cons, Nat.pow_succ]; omega

theorem fit_length (n : Nat) (l : Bytes) : (fit n l).length = n := by simp [fit, zeros]; omega

/-- The key that a bank of zeros masks in slot 0. -/
def wKey (s : State) : Nat := Nat.xor 0 (s.storageKey 0 0 0)

/-- A committed bank with that key. -/
def wBank (s : State) (purpose : Nat) : KeyBank :=
  let r : KeyBank := { purpose := purpose, state := bankCommitted, kcv := kcvOf (wKey s) }
  { r with crc := crc32 (bankRecord r) }

/-- The vault holds one key, in slot 0. -/
def wKeyed (s : State) (purpose : Nat) : State := { s with mram.banks := [(0, wBank s purpose)] }

/-- The vault holds one key, and the host has put its tag over a command into GLB_AUTH_RESP. -/
def wAuth (s : State) (purpose code arg : Nat) : State :=
  wKeyed (s.set GLB_AUTH_RESP_TAG (ofLe (fit 32 (Config.hmacSha256 (wKey s) (s.authMessage code arg))))) purpose

theorem keyed_slot (s : State) (p : Nat) :
    (wKeyed s p).slotOf p = some 0 ∧ (wKeyed s p).keyFor 0 p = some (wKey s) := by
  have hb : (wKeyed s p).keyBank 0 0 = wBank s p := by simp [wKeyed, State.keyBank, tabGet, tabFind]
  have h1 : (wKeyed s p).keyBank 0 1 = zeroBank := by simp [wKeyed, State.keyBank, tabGet, tabFind]
  have hz : bankIsCommitted zeroBank = false := by decide
  have hc : bankIsCommitted (wBank s p) = true := by simp [bankIsCommitted, wBank, bankCrcOk, bankRecord]
  have hi : (wKeyed s p).bankInUse 0 = some 0 := by simp [State.bankInUse, hb, h1, hc, hz]
  have hm : (wKeyed s p).unmask 0 0 = wKey s := by simp only [State.unmask, hb]; rfl
  have hk : kcvOf (wKey s) = (wBank s p).kcv := rfl
  have hu : (wKeyed s p).slotUsable 0 p = true := by
    simp [State.slotUsable, State.slotPurpose, State.slotState, hi, hb, hm, hk, h1]
    rfl
  have hr : List.range 64 = 0 :: (List.range 63).map (· + 1) := by decide
  exact ⟨by simp [State.slotOf, hr, hu], by simp [State.keyFor, hu, hi, hm]⟩

theorem auth_passes (s : State) (p code arg : Nat) :
    (wAuth s p code arg).tagPasses
      (((wAuth s p code arg).slotOf p).bind (fun i => (wAuth s p code arg).keyFor i p)) code arg = true := by
  rw [wAuth, (keyed_slot _ p).1, Option.bind_some, (keyed_slot _ p).2]
  have hn : ∀ (v : Nat) (f : Field), GLB_AUTH_RESP_TAG.key ≠ f.key → (s.set GLB_AUTH_RESP_TAG v).get f = s.get f :=
    fun v f h => State.get_set_ne s v h
  have hk : ∀ v, wKey (s.set GLB_AUTH_RESP_TAG v) = wKey s := by
    intro v
    simp only [wKey, State.storageKey, State.keyRoot, State.usesDeviceRoot, State.lc, State.flag,
      hn v GLB_LC_STATE (by decide), hn v GLB_LC_DEBUG_OPEN (by decide)]
    rfl
  have hm : ∀ v, (wKeyed (s.set GLB_AUTH_RESP_TAG v) p).authMessage code arg = s.authMessage code arg := by
    intro v
    show (s.set GLB_AUTH_RESP_TAG v).authMessage code arg = _
    simp only [State.authMessage, hn v GLB_UID_UID (by decide), hn v GLB_AUTH_NONCE_NONCE (by decide)]
  have hl := fit_length 32 (Config.hmacSha256 (wKey s) (s.authMessage code arg))
  have hb := ofLe_lt (fit 32 (Config.hmacSha256 (wKey s) (s.authMessage code arg)))
  have he := le_ofLe (fit 32 (Config.hmacSha256 (wKey s) (s.authMessage code arg)))
  rw [hl] at hb he
  simp only [State.tagPasses, hm, hk]
  show (_ == le 32 ((s.set GLB_AUTH_RESP_TAG _).get GLB_AUTH_RESP_TAG)) = true
  rw [State.get_set_same, Nat.mod_eq_of_lt (lt_of_lt_of_eq hb (by decide)), he]
  simp

/-- What the checks of R35 read of a node whose GLB_AUTH_RESP has been written is as before. -/
theorem auth_get (s : State) (p code arg : Nat) (f : Field) (h : GLB_AUTH_RESP_TAG.key ≠ f.key) :
    (wAuth s p code arg).get f = s.get f := State.get_set_ne s _ h

theorem debugOpen_accepted :
    (wAuth { wS modeBoot [(GLB_LC_STATE, lcPersonalized), (GLB_MODE_SUBSTATE, subDebugWait)] with
      glb := { bootStep := 4 } } purposeDebug 0x10 0).accepts cmdDebugOpen (.reg .pf0) 0 := by
  show State.checkCmd _ cmdDebugOpen (.reg .pf0) 0 = .ok
  unfold State.checkCmd
  rw [show cmdDebugOpen.authKey = fun s => (s.slotOf purposeDebug).bind (fun i => s.keyFor i purposeDebug) from rfl]
  simp only [show cmdDebugOpen.code = 0x10 from rfl, auth_passes]
  simp only [cmdDebugOpen, State.mayCommand, State.pf0ReadOnly, State.mode, State.lc, State.flag, State.inBoot,
    auth_get _ _ _ _ GLB_MODE_MODE (by decide), auth_get _ _ _ _ GLB_LC_STATE (by decide), auth_get _ _ _ _ GLB_MODE_PREV_MODE (by decide),
    auth_get _ _ _ _ GLB_MODE_BUSY (by decide), auth_get _ _ _ _ GLB_MODE_SUBSTATE (by decide)]
  rw [show (wAuth { wS modeBoot [(GLB_LC_STATE, lcPersonalized), (GLB_MODE_SUBSTATE, subDebugWait)] with
      glb := { bootStep := 4 } } purposeDebug 0x10 0).glb = { bootStep := 4 } from rfl]
  decide +kernel
theorem lcReturn_accepted :
    (wAuth (wS modeSafe [(GLB_LC_STATE, lcField)]) purposeLifecycle 0x13 0).accepts cmdLcReturn (.reg .pf0) 0 := by
  show State.checkCmd _ cmdLcReturn (.reg .pf0) 0 = .ok
  unfold State.checkCmd
  rw [show cmdLcReturn.authKey = fun s => (s.slotOf purposeLifecycle).bind (fun i => s.keyFor i purposeLifecycle) from rfl]
  simp only [show cmdLcReturn.code = 0x13 from rfl, auth_passes]
  simp only [cmdLcReturn, State.mayCommand, State.pf0ReadOnly, State.mode, State.lc, State.flag, State.inBoot,
    auth_get _ _ _ _ GLB_MODE_MODE (by decide), auth_get _ _ _ _ GLB_LC_STATE (by decide), auth_get _ _ _ _ GLB_MODE_PREV_MODE (by decide),
    auth_get _ _ _ _ GLB_MODE_BUSY (by decide), auth_get _ _ _ _ GLB_MODE_SUBSTATE (by decide)]
  rw [show (wAuth (wS modeSafe [(GLB_LC_STATE, lcField)]) purposeLifecycle 0x13 0).glb = { makerUid := 5 } from rfl]
  decide +kernel

theorem test_witness_LifeCycleNeverReturns :
    ∃ s t : State, step s = .next t :=
  ⟨State.reset, _, rfl⟩

theorem test_witness_RegisterStoreStaysSorted :
    ∃ s t : State, s.regsSorted ∧ step s = .next t :=
  ⟨State.reset, _, rfl, rfl⟩

theorem test_witness_RegisterWritesFollowAccessTypes :
    (∃ (req : Requester) (a v : Nat) (s : State) (h : RegHit), s.lc ≠ lcScrapped ∧ s.reach req a = some h ∧ h.takes a
      4 = true ∧ h.row.width = 32 ∧ plainRegister h = true ∧ s.prvRefuses req h v h.word 1 = false ∧ req ≠ .pf1 ∧
      commandAt a = none ∧ accessPortAt a = none ∧ a ≠ INA_BDR_CFG_SW_MODE.key / 32 * 4) ∧
    (∃ (h : RegHit) (w n : Nat) (f : Field), h.inWords f w n = true) ∧
    (∃ (f g : Field), f.key ≠ g.key) ∧
    (∃ (req : Requester) (a v : Nat) (s : State) (h : RegHit), s.lc ≠ lcScrapped ∧ s.reach req a = some h ∧ h.takes a
      4 = true ∧ h.row.width = 32 ∧ s.prvRefuses req h v h.word 1 = true ∧ req ≠ .pf0 ∧ req ≠ .pf1 ∧ commandAt a =
      none ∧ accessPortAt a = none ∧ a ≠ INA_BDR_CFG_SW_MODE.key / 32 * 4) ∧
    (∃ (req : Requester) (a : Nat) (s : State) (h : RegHit), s.lc ≠ lcScrapped ∧ s.reach req a = some h ∧ h.row.width
      = 64 ∧ h.word = 0 ∧ a % 4 = 0) ∧
    (∃ (req : Requester) (a low : Nat) (s : State) (h : RegHit), s.lc ≠ lcScrapped ∧ s.reach req a = some h ∧
      h.row.width = 64 ∧ h.word = 1 ∧ a % 4 = 0 ∧ s.latch.lower.find? (fun e => e.1 == req && e.2.1 == h.base) = some
      (req, h.base, low)) ∧
    (∃ (h : RegHit) (f : Access × Bool × Field), h.fieldsApart ∧ f ∈ h.fields) ∧
    (∃ (h : RegHit) (w n : Nat) (f : Access × Bool × Field), f ∈ h.fields ∧ f.1 = .rc ∧ h.inWords f.2.2 w n = true) :=
  ⟨⟨(Requester.pf0), 20568, 0, (wS modeNative []), ((findReg 20568).getD wHit), by decide +kernel, found (by decide)
     (by decide) (by decide +kernel), by decide +kernel, by decide +kernel, by decide +kernel, by decide +kernel,
     by decide +kernel, by decide +kernel, by decide +kernel, by decide +kernel⟩,
   ⟨((findReg 45068).getD wHit), 0, 1, CYC_CFG_AUTH, by decide +kernel⟩,
   ⟨CLK_VIN_VIN, CYC_CFG_AUTH, by decide +kernel⟩,
   ⟨(Requester.flow), 49216, 0, (wS modeNative []), ((findReg 49216).getD wHit), by decide +kernel, found (by
     decide) (by decide) (by decide +kernel), by decide +kernel, by decide +kernel, by decide +kernel,
     by decide +kernel, by decide +kernel, by decide +kernel, by decide +kernel, by decide +kernel⟩,
   ⟨(Requester.pf0), 20528, (wS modeNative []), ((findReg 20528).getD wHit), by decide +kernel, found (by decide)
     (by decide) (by decide +kernel), by decide +kernel, by decide +kernel, by decide +kernel⟩,
   ⟨(Requester.pf0), 20532, 0, ({ (wS modeNative []) with latch.lower := [(Requester.pf0, 20528, 0)] } : State),
     ((findReg 20532).getD wHit), by decide +kernel, found (by decide) (by decide) (by decide +kernel),
     by decide +kernel, by decide +kernel, by decide +kernel, by decide +kernel⟩,
   ⟨(findReg 0x14).getD wHit, (.wo, true, GLB_CMD_CODE), by decide +kernel⟩,
   ⟨(findReg 0xA040).getD wHit, 0, 1, (.rc, false, INA_STAT_RESTARTS), by decide +kernel⟩⟩

theorem test_witness_AccessesAreGated :
    (∃ (a be : Nat), be < 16 ∧ a < 2 ^ 20) ∧
    (∃ (req : Requester) (a v : Nat) (s : State) (h : RegHit), s.lc ≠ lcScrapped ∧ s.reach req a = some h ∧ h.takes a
      4 = true ∧ h.row.width = 32 ∧ canStoppedOnly.contains h.row.name = true ∧ h.i < 12 ∧ s.prvRefuses req h v h.word
      1 = false) ∧
    (∃ (req : Requester) (a v : Nat) (s : State) (h : RegHit), s.lc ≠ lcScrapped ∧ s.reach req a = some h ∧ h.takes a
      4 = true ∧ h.row.width = 32 ∧ 0x40000 ≤ a ∧ a < 0x60000 ∧ 0x40000 ≤ h.base ∧ h.base < 0x60000 ∧
      (["HRG_RING_CTRL", "HRG_RING_BASE", "MSIX_CTRL"].contains h.row.name) = false ∧ s.prvRefuses req h v h.word 1 =
      false) :=
  ⟨⟨0, 0, by decide +kernel⟩,
   ⟨(Requester.pf0), 131072, 0, (wS modeNative []), ((findReg 131072).getD wHit), by decide +kernel, found (by
     decide) (by decide) (by decide +kernel), by decide +kernel, by decide +kernel, by decide +kernel,
     by decide +kernel, by decide +kernel⟩,
   ⟨(Requester.pf0), 262148, 0, (wS modeNative []), ((findReg 262148).getD wHit), by decide +kernel, found (by
     decide) (by decide) (by decide +kernel), by decide +kernel, by decide +kernel, by decide +kernel,
     by decide +kernel, by decide +kernel, by decide +kernel, by decide +kernel, by decide +kernel⟩⟩

theorem test_witness_ReadsLatchAndClear :
    (∃ (req : Requester) (a : Nat) (s : State) (h : RegHit), s.lc ≠ lcScrapped ∧ s.reach req a = some h ∧ h.row.width
      = 64 ∧ h.word = 0 ∧ a % 4 = 0 ∧ h.takes a 4 = true ∧ h.row.name ≠ "BRG_AP_STATUS" ∧ h.row.name ≠ "REC_RD_DATA") ∧
    (∃ (req : Requester) (a : Nat) (s : State) (h : RegHit), s.lc ≠ lcScrapped ∧ s.reach req a = some h ∧ h.latches =
      true ∧ h.word = 0 ∧ h.takes a 4 = true) ∧
    (∃ (req : Requester) (a : Nat) (s : State) (h : RegHit), s.lc ≠ lcScrapped ∧ s.reach req a = some h ∧ h.row.width
      = 32 ∧ h.takes a 4 = true ∧ h.row.name ≠ "TIM_NOW_NS" ∧ h.row.name ≠ "BRG_AP_STATUS" ∧ h.row.name ≠
      "REC_RD_DATA") ∧
    (∃ (h : RegHit) (w n : Nat) (f : Access × Bool × Field), f ∈ h.fields ∧ f.1 = .rc ∧ h.inWords f.2.2 w n = true) ∧
    (∃ (s : State), s.lc ≠ lcScrapped) :=
  ⟨⟨(Requester.pf0), 20504, (wS modeNative []), ((findReg 20504).getD wHit), by decide +kernel, found (by decide)
     (by decide) (by decide +kernel), by decide +kernel, by decide +kernel, by decide +kernel, by decide +kernel,
     by decide +kernel, by decide +kernel⟩,
   ⟨(Requester.pf0), 16416, (wS modeNative []), ((findReg 16416).getD wHit), by decide +kernel, found (by decide)
     (by decide) (by decide +kernel), by decide +kernel, by decide +kernel, by decide +kernel⟩,
   ⟨(Requester.pf0), 45088, (wS modeNative []), ((findReg 45088).getD wHit), by decide +kernel, found (by decide)
     (by decide) (by decide +kernel), by decide +kernel, by decide +kernel, by decide +kernel, by decide +kernel,
     by decide +kernel⟩,
   ⟨((findReg 45088).getD wHit), 0, 1, ((((findReg 45088).getD wHit).fields.filter (fun e => e.1 ==
     Access.rc)).headD (Access.rw, false, CYC_CFG_AUTH)), by decide +kernel⟩,
   ⟨(wS modeNative []), by decide +kernel⟩⟩

theorem test_witness_CommandsAreCheckedAndReported :
    (∃ (c : CmdSpec) (path : Path) (arg : Nat) (s : State), c.auth s = false ∧ s.checkCmd c path arg ≠ .ok) ∧
    (∃ (c : CmdSpec) (s : State), c.auth s = false ∧ c.code < 256) :=
  ⟨⟨cmdRecClear, (.reg .pf0), 0, (wS modeNative []), by decide +kernel⟩,
   ⟨cmdRecClear, (wS modeNative []), by decide +kernel⟩⟩

theorem test_witness_BootEntryAndSequence :
    (∃ (path : Path) (arg straps : Nat) (s : State), s.accepts (cmdRestart straps) path arg ∧ s.glb.held = false) ∧
    (∃ (s : State), s.glb.held = true ∧ s.pwr.regulators = true ∧ s.pwr.brownOut = false) ∧
    (∃ (lower : Nat) (s : State), s.mode = modeGtn ∧ hasBit lower 0 = true ∧ lower < 2 ^ 16) ∧
    (∃ (s : State), s.bootAt 0 = true) ∧
    (∃ (s : State), s.bootAt 1 = true) ∧
    (∃ (s : State), s.bootAt 1 = true ∧ (({ s with hrg := { s.hrg with trained := true } }).vaultCheck false).1 = 0 ∧
      s.get GLB_BOOT_STATUS_BOOTSEL = 2) ∧
    (∃ (b : Nat) (i : Image) (s : State), s.bootAt 2 = true ∧ s.bankOrder.head? = some (b, i) ∧ s.checkImage i (some
      (s.get GLB_BOOT_STATUS_BOOTSEL)) = 0 ∧ b < 2) ∧
    (∃ (s : State), s.bootAt 2 = true ∧ s.bankOrder = [] ∧ s.get GLB_BOOT_STATUS_BOOTSEL ≠ 1) ∧
    (∃ (i : Image) (s : State), s.bootAt 3 = true ∧ s.glb.bootImage = some i ∧ (i.targetMode = modeNative ∨
      i.targetMode = modeReferee)) ∧
    (∃ (s : State), s.bootAt 3 = true ∧ s.glb.bootImage = none) :=
  ⟨⟨(.reg .pf0), 0, 0, ({ (wS modeNative []) with glb.held := false } : State), by decide +kernel⟩,
   ⟨({ (wS modeNative []) with glb.held := true, pwr.regulators := true, pwr.brownOut := false } : State),
     by decide +kernel⟩,
   ⟨1, (wS modeGtn []), by decide +kernel⟩,
   ⟨({ (wS modeBoot []) with glb.bootStep := 0 } : State), by decide +kernel⟩,
   ⟨({ (wS modeBoot []) with glb.bootStep := 1 } : State), by decide +kernel⟩,
   ⟨({ (wS modeBoot [(GLB_BOOT_STATUS_BOOTSEL, 2)]) with glb.bootStep := 1 } : State), by decide +kernel⟩,
   ⟨0, wImage, ({ (wS modeBoot []) with glb.bootStep := 2, mram.bank0 := some wImage } : State), by decide +kernel⟩,
   ⟨({ (wS modeBoot []) with glb.bootStep := 2 } : State), by decide +kernel⟩,
   ⟨{ wImage with targetMode := modeNative },
     ({ (wS modeBoot []) with glb.bootStep := 3, glb.bootImage := some ({ wImage with targetMode := modeNative }) } :
     State), by decide +kernel⟩,
   ⟨({ (wS modeBoot []) with glb.bootStep := 3, glb.bootImage := none } : State), by decide +kernel⟩⟩

theorem test_witness_ConfigurationAndModeCommands :
    (∃ (path : Path) (arg : Nat) (s : State), s.accepts cmdConfigDone path arg) ∧
    (∃ (path : Path) (arg : Nat) (s : State), s.accepts cmdConfigStore path arg) ∧
    (∃ (i : Image) (s : State), s.glbRuns 0x03 = true ∧ s.inBoot subHostWait = true ∧ s.checkImage i (some (s.get
      GLB_BOOT_STATUS_BOOTSEL)) = 0 ∧ (i.targetMode = modeNative ∨ i.targetMode = modeReferee)) ∧
    (∃ (i : Image) (s : State), s.glbRuns 0x03 = true ∧ s.inBoot subHostWait = true ∧ s.checkImage i (some (s.get
      GLB_BOOT_STATUS_BOOTSEL)) ≠ 0) ∧
    (∃ (i : Image) (s : State), s.glbRuns 0x06 = true ∧ s.checkImage i none = 0 ∧ s.serialStale i = false) ∧
    (∃ (i : Image) (s : State), s.glbRuns 0x06 = true ∧ s.checkImage i none ≠ 0) ∧
    (∃ (path : Path) (arg : Nat) (s : State), s.accepts cmdEnterSafe path arg) ∧
    (∃ (path : Path) (arg : Nat) (s : State), s.accepts cmdEnterTest path arg) ∧
    (∃ (path : Path) (arg : Nat) (s : State), s.accepts cmdSleepVote path arg ∧ s.sleepHead = false ∧ s.stackMember =
      false) ∧
    (∃ (s : State), s.mode = modeBoot ∧ s.glb.held = false ∧ s.flag GLB_BOOT_STATUS_WAKE_BOOT = true ∧ s.glb.bootStep
      = 0) ∧
    (∃ (s t : State) (r : Resume), s.mode = modeBoot ∧ s.glb.held = false ∧ s.flag GLB_BOOT_STATUS_WAKE_BOOT = true ∧
      s.glb.bootStep = 0 ∧ ({ s with hrg := { s.hrg with trained := true } }).vaultCheck false = (0, t) ∧ t.resume =
      some r ∧ (((t.restoreArea r).restoreTime r).restoreFlows).pairMember = false ∧ r.mode = modeNative) ∧
    (∃ (s : State), s.inBoot subDebugWait = true) :=
  ⟨⟨(.reg .pf0), 0,
     ({ (wS modeBoot [(GLB_CFG_LEN_LEN, 64), (GLB_MODE_SUBSTATE, subHostWait)]) with glb.bootStep := 4 } : State),
     by decide +kernel⟩,
   ⟨(.reg .pf0), 0,
     ({ (wS modeNative [(GLB_CFG_LEN_LEN, 64), (GLB_MODE_SUBSTATE, subHostWait)]) with glb.bootStep := 4 } : State),
     by decide +kernel⟩,
   ⟨wImage,
     ({ (wS modeBoot [(GLB_MODE_SUBSTATE, subHostWait)]) with glb.running := [(0, 0x03, 0, none)], glb.bootStep := 4 }
     : State), by decide +kernel⟩,
   ⟨wImage0,
     ({ (wS modeBoot [(GLB_MODE_SUBSTATE, subHostWait)]) with glb.running := [(0, 0x03, 0, none)], glb.bootStep := 4 }
     : State), by decide +kernel⟩,
   ⟨wImage, ({ (wS modeNative []) with glb.running := [(0, 0x06, 0, none)] } : State), by decide +kernel⟩,
   ⟨wImage0, ({ (wS modeNative []) with glb.running := [(0, 0x06, 0, none)] } : State), by decide +kernel⟩,
   ⟨(.reg .pf0), 0, (wS modeNative []), by decide +kernel⟩,
   ⟨(.reg .pf0), 0,
     ({ (wS modeBoot [(GLB_CFG_LEN_LEN, 64), (GLB_MODE_SUBSTATE, subHostWait)]) with glb.bootStep := 4 } : State),
     by decide +kernel⟩,
   ⟨(.reg .pf0), 0, (wS modeNative [(INA_STATUS_ROLE, roleMid)]), by decide +kernel⟩,
   ⟨({ (wS modeBoot [(GLB_BOOT_STATUS_WAKE_BOOT, 1)]) with glb.held := false, glb.bootStep := 0 } : State),
     by decide +kernel⟩,
   ⟨wWake, wWakeT, wResume, by decide +kernel, by decide +kernel, by decide +kernel, by decide +kernel, zeroPair _
     (by decide +kernel), by decide +kernel, by decide +kernel, by decide +kernel⟩,
   ⟨({ (wS modeBoot [(GLB_MODE_SUBSTATE, subDebugWait)]) with glb.bootStep := 4 } : State), by decide +kernel⟩⟩

theorem test_witness_LifeCycleCommandsProgram :
    (∃ (path : Path) (arg : Nat) (s : State), s.accepts cmdLcPersonalize path arg) ∧
    (∃ (path : Path) (arg : Nat) (s : State), s.accepts cmdLcField path arg) ∧
    (∃ (path : Path) (arg : Nat) (s : State), s.accepts cmdLcReturn path arg) ∧
    (∃ (path : Path) (arg : Nat) (s : State), s.accepts cmdLcScrap path arg) ∧
    (∃ (s : State), s.key.program = none) ∧
    (∃ (code cells : Nat) (s : State), s.key.program = some code ∧ code ≠ 0x12 ∧ 5 ≤ (s.otp.program code
      cells).cellsOf code) ∧
    (∃ (cells : Nat) (s : State), s.key.program = some 0x12 ∧ 5 ≤ (s.otp.program 0x12 cells).field) ∧
    (∃ (code cells : Nat) (s : State), s.key.program = some code ∧ (s.otp.program code cells).cellsOf code < 5) :=
  ⟨⟨(.reg .pf0), 0, ({ (wS modeBoot [(GLB_LC_DATA_UID, 1), (GLB_MODE_SUBSTATE, subTest)]) with glb.bootStep := 4 } :
     State), by decide +kernel⟩,
   ⟨(.reg .pf0), 0, (wS modeNative [(GLB_LC_STATE, lcPersonalized)]), by decide +kernel⟩,
   ⟨.reg .pf0, 0, _, lcReturn_accepted⟩,
   ⟨(.reg .pf0), 0, (wS modeSafe []), by decide +kernel⟩,
   ⟨({ (wS modeNative []) with key.program := none } : State), by decide +kernel⟩,
   ⟨0x11, 5, ({ (wS modeNative []) with key.program := some 0x11 } : State), by decide +kernel⟩,
   ⟨8, ({ (wS modeNative []) with key.program := some 0x12 } : State), by decide +kernel⟩,
   ⟨0, 0, ({ (wS modeNative []) with key.program := some 0 } : State), by decide +kernel⟩⟩

theorem test_witness_DebugAccess :
    (∃ (path : Path) (arg : Nat) (s : State), s.accepts cmdDebugOpen path arg) ∧
    (∃ (path : Path) (arg : Nat) (s : State), s.checkCmd cmdDebugOpen path (arg % 65536) = .authFail) ∧
    (∃ (s : State), s.inBoot subDebugWait = true) ∧
    (∃ (s : State), s.inBoot subDebugWait = false) :=
  ⟨⟨.reg .pf0, 0, _, debugOpen_accepted⟩,
   ⟨(.reg .pf0), 0,
     ({ (wS modeBoot [(GLB_LC_STATE, lcPersonalized), (GLB_MODE_SUBSTATE, subDebugWait)]) with glb.bootStep := 4 } :
     State), by decide +kernel⟩,
   ⟨({ (wS modeBoot [(GLB_MODE_SUBSTATE, subDebugWait)]) with glb.bootStep := 4 } : State), by decide +kernel⟩,
   ⟨(wS modeNative []), by decide +kernel⟩⟩

theorem test_witness_ResetsAndSupplyLoss :
    (∃ (s : State), s.pwr.regulators = false) ∧
    (∃ (s : State), s.pwr.regulators = true) ∧
    (∃ (s : State), s.pwr.regulators = true ∧ s.pwr.brownOut = false) :=
  ⟨⟨({ (wS modeNative []) with pwr.regulators := false } : State), by decide +kernel⟩,
   ⟨({ (wS modeNative []) with pwr.regulators := true } : State), by decide +kernel⟩,
   ⟨({ (wS modeNative []) with pwr.regulators := true, pwr.brownOut := false } : State), by decide +kernel⟩⟩

theorem test_witness_SupplyAndThermalMonitors :
    (∃ (mv : Nat) (s : State), s.pwr.regulators = true ∧ 6000 < mv) ∧
    (∃ (r : Nat) (s : State), r < 4 ∧ s.pwr.regulators = true) ∧
    (∃ (mv : Nat) (s : State), s.pwr.regulators = true ∧ mv < 2000 ∧ s.flag CLK_CFG_VBAT_EN = true) ∧
    (∃ (mv : Nat) (s : State), s.pwr.regulators = true ∧ mv < 2000 ∧ s.flag CLK_CFG_VBAT_EN = false) ∧
    (∃ (s : State), s.corePowered = true ∧ s.glb.held = false ∧ s.get CLK_STATUS_GOV ≠ 3) :=
  ⟨⟨6001, ({ (wS modeNative []) with pwr.regulators := true } : State), by decide +kernel⟩,
   ⟨0, ({ (wS modeNative []) with pwr.regulators := true } : State), by decide +kernel⟩,
   ⟨0, ({ (wS modeNative [(CLK_CFG_VBAT_EN, 1)]) with pwr.regulators := true } : State), by decide +kernel⟩,
   ⟨0, ({ (wS modeNative [(CLK_CFG_VBAT_EN, 0)]) with pwr.regulators := true } : State), by decide +kernel⟩,
   ⟨({ (wS modeNative []) with glb.held := false } : State), by decide +kernel⟩⟩

theorem test_witness_CollectorCommands_escalation :
    (∃ (n sev cause : Nat) (s : State), n < 64 ∧ sev < 4 ∧ cause < 2 ∧ s.flt.escalate = some (n, sev, cause) ∧
      s.escalationLapses = false) ∧
    (∃ (x : Nat × Nat × Nat) (s : State), s.flt.escalate = some x ∧ s.escalationLapses = true) ∧
    (∃ (s : State), s.flt.escalate = none) :=
  ⟨⟨0, 0, 0, ({ (wS modeNative []) with flt.escalate := some (0, 0, 0) } : State), by decide +kernel⟩,
   ⟨(0,0,0), ({ (wS modeSafe []) with flt.escalate := some ((0,0,0)) } : State), by decide +kernel⟩,
   ⟨({ (wS modeNative []) with flt.escalate := none } : State), by decide +kernel⟩⟩

theorem test_witness_CollectorCommands :
    (∃ (s : State), s.collectorRuns = true) ∧
    (∃ (n : Nat), n < 64 ∧ n ≠ 8) ∧
    (∃ (n : Nat) (s : State), s.collectorRuns = true ∧ s.flt.timers.any (fun e => e.1 == n) = true ∧ s.flt.escalate =
      none ∧ n < 64) ∧
    (∃ (s : State), s.inModes [modeGtn, modeNative, modeBorder, modeStandby, modeReferee] = true ∧ s.flt.heartbeat =
      true) ∧
    (∃ (s : State), s.inModes [modeGtn, modeNative, modeBorder, modeStandby, modeReferee] = true ∧ s.flt.heartbeat =
      false) ∧
    (∃ (s : State), s.inModes [modeGtn, modeNative, modeBorder, modeStandby, modeReferee] = false) ∧
    (∃ (c : Nat) (s : State), c < 5 ∧ s.engineAlive = true) :=
  ⟨⟨(wS modeNative []), by decide +kernel⟩,
   ⟨0, by decide +kernel⟩,
   ⟨0, ({ (wS modeNative []) with flt.escalate := none, flt.timers := [(0, 100)] } : State), by decide +kernel⟩,
   ⟨({ (wS modeNative []) with flt.heartbeat := true } : State), by decide +kernel⟩,
   ⟨({ (wS modeNative []) with flt.heartbeat := false } : State), by decide +kernel⟩,
   ⟨(wS modeSleep []), by decide +kernel⟩,
   ⟨0, (wS modeNative []), by decide +kernel⟩⟩

theorem test_witness_FaultLinesLatchAndClear :
    (∃ (n : Nat) (s : State), n < 64 ∧ s.collectorRuns = true ∧ hasBit s.flt.lines n = false) ∧
    (∃ (n : Nat) (s : State), n < 64 ∧ s.collectorRuns = true ∧ s.ackA n = true) ∧
    (∃ (n : Nat) (s : State), n < 64 ∧ s.ackA n = false) ∧
    (∃ (n : Nat) (s : State), s.collectorRuns = true ∧ n < 64 ∧ s.bitAt FLT_RAW_RAW n = false ∧ s.bitAt
      FLT_STATUS_STATUS n = false ∧ s.fltSeverity n = 2 ∧ hasBit s.flt.lines n = false ∧ s.flt.escalate = none) ∧
    (∃ (n : Nat), n < 64) ∧
    (∃ (s : State), s.lc ≠ lcScrapped ∧ s.pf0ReadOnly = false) :=
  ⟨⟨0, (wS modeNative []), by decide +kernel⟩,
   ⟨0, (wS modeNative [(FLT_SRC_CFG_ACK 0, 1)]), by decide +kernel⟩,
   ⟨0, (wS modeNative []), by decide +kernel⟩,
   ⟨0, ({ (wS modeNative []) with flt.escalate := none } : State), by decide +kernel⟩,
   ⟨0, by decide +kernel⟩,
   ⟨wS modeNative [], by decide +kernel⟩⟩

theorem test_witness_RecorderTakesAndWrites :
    (∃ (code : Nat) (s : State), s.recorderRuns = true ∧ s.queueTakes code = true ∧ s.rcd.writing.isSome = true) ∧
    (∃ (code : Nat) (s : State), s.recorderRuns = true ∧ s.queueTakes code = true ∧ s.rcd.writing = none ∧
      s.rcd.queue = [] ∧ s.flag REC_STATUS_READY = true ∧ s.flag REC_STATUS_CLEARING = false) ∧
    (∃ (code : Nat) (s : State), s.recorderRuns = true ∧ s.queueTakes code = false) ∧
    (∃ (s : State), s.recorderRuns = false) ∧
    (∃ (e : RecEvent) (second : Bool) (s : State), s.rcd.writing = some (e, second) ∧ s.mram.wp = false ∧ s.rcd.queue
      = []) ∧
    (∃ (e : RecEvent) (s : State), s.rcd.writing = some (e, false) ∧ s.mram.wp = false) ∧
    (∃ (s : State), s.rcd.writing = none) ∧
    (∃ (s : State), s.mram.wp = true) :=
  ⟨⟨0, ({ (wS modeNative []) with rcd.writing := some (wEvent, false) } : State), by decide +kernel⟩,
   ⟨0,
     ({ (wS modeNative [(REC_STATUS_READY, 1), (REC_STATUS_CLEARING, 0)]) with rcd.writing := none, rcd.queue := [] }
     : State), by decide +kernel⟩,
   ⟨0, ({ (wS modeNative []) with rcd.onlyBrownOut := true } : State), by decide +kernel⟩,
   ⟨(wS modeSleep []), by decide +kernel⟩,
   ⟨wEvent, false,
     ({ (wS modeNative []) with rcd.writing := some (wEvent, false), rcd.queue := [], mram.wp := false } : State),
     by decide +kernel⟩,
   ⟨wEvent, ({ (wS modeNative []) with rcd.writing := some (wEvent, false), mram.wp := false } : State),
     by decide +kernel⟩,
   ⟨({ (wS modeNative []) with rcd.writing := none } : State), by decide +kernel⟩,
   ⟨({ (wS modeNative []) with mram.wp := true } : State), by decide +kernel⟩⟩

theorem test_witness_RecorderScanReadAndClear :
    (∃ (s : State), s.recorderRuns = true ∧ s.mode = modeBoot ∧ s.flag REC_STATUS_READY = false ∧ s.glb.held = false) ∧
    (∃ (i : Nat) (c : RecCell) (s : State), i < 65536 ∧ s.cell i = some c) ∧
    (∃ (path : Path) (arg : Nat) (s : State), s.accepts cmdRecClear path arg) ∧
    (∃ (arg slot : Nat) (s : State), s.rcd.clearing = some (arg, slot) ∧ s.rcd.writing = none ∧ s.flag
      REC_STATUS_READY = true) ∧
    (∃ (s : State), s.rcd.clearing = none) :=
  ⟨⟨({ (wS modeBoot [(REC_STATUS_READY, 0)]) with glb.held := false } : State), by decide +kernel⟩,
   ⟨0, wCell, ({ (wS modeNative []) with mram.cells := [(0, wCell)] } : State), by decide +kernel⟩,
   ⟨(.reg .pf0), 1, (wS modeNative []), by decide +kernel⟩,
   ⟨0, 0, ({ (wS modeNative [(REC_STATUS_READY, 1)]) with rcd.clearing := some (0, 0), rcd.writing := none } :
     State), by decide +kernel⟩,
   ⟨({ (wS modeNative []) with rcd.clearing := none } : State), by decide +kernel⟩⟩

theorem test_witness_LinkStatesChange :
    (∃ (p : Nat), p < 4) ∧
    (∃ (p : Nat) (s : State), s.receiverOn p = true ∧ s.nelmin p = true ∧ s.get (LN_STATUS_LINK p) ≠ linkDown) ∧
    (∃ (p : Nat) (s : State), s.receiverOn p = true ∧ s.get (LN_STATUS_LINK p) = linkDown) ∧
    (∃ (p : Nat) (s : State), p < 4 ∧ s.get (LN_STATUS_LINK p) = linkAcquire) ∧
    (∃ (p : Nat) (s : State), s.get (LN_STATUS_LINK p) = linkAcquire ∧ s.receiverOn p = true) ∧
    (∃ (p : Nat) (s : State), p < 4 ∧ s.get (LN_STATUS_LINK p) = linkAcquire ∧ s.flag (LN_STATUS_RX_INV p) = true) ∧
    (∃ (p : Nat) (s : State), p < 4 ∧ s.get (LN_STATUS_LINK p) = linkAcquire ∧ s.flag (LN_STATUS_RX_INV p) = false) :=
  ⟨⟨0, by decide +kernel⟩,
   ⟨0, (wS modeNative []), by decide +kernel⟩,
   ⟨0, (wS modeNative [((LN_STATUS_LINK 0), linkDown)]), by decide +kernel⟩,
   ⟨0, (wS modeNative [((LN_STATUS_LINK 0), linkAcquire)]), by decide +kernel⟩,
   ⟨0, (wS modeNative [((LN_STATUS_LINK 0), linkAcquire)]), by decide +kernel⟩,
   ⟨0, (wS modeNative [((LN_STATUS_LINK 0), linkAcquire), ((LN_STATUS_RX_INV 0), 1)]), by decide +kernel⟩,
   ⟨0, (wS modeNative [((LN_STATUS_LINK 0), linkAcquire), ((LN_STATUS_RX_INV 0), 0)]), by decide +kernel⟩⟩

theorem test_witness_EqualizerAndPairFaults :
    (∃ (p : Nat) (s : State), s.get (LN_STATUS_LINK p) = linkAcquire ∧ (s.port p).sweepDone = false ∧ (s.port
      p).sweep < 15) ∧
    (∃ (p eye : Nat) (s : State), p < 4 ∧ s.get (LN_STATUS_LINK p) = linkAcquire ∧ (s.port p).sweepDone = false ∧
      (s.port p).sweep = 15 ∧ (s.port p).bestEye < eye ∧ eye < 128) ∧
    (∃ (p : Nat) (s : State), p < 4 ∧ s.lineUp p = true) ∧
    (∃ (p : Nat) (s : State), p < 4 ∧ s.lineUp p = true ∧ s.flag (LN_STATUS_CAL_LOCK p) = false ∧ (s.port p).shCtle ≤
      15) ∧
    (∃ (p : Nat) (s : State), p < 4 ∧ s.flag (LN_STATUS_CAL_LOCK p) = true) ∧
    (∃ (p : Nat) (s : State), p < 4 ∧ (s.port p).deferred = true ∧ s.lineUp p = true) ∧
    (∃ (p : Nat) (s : State), (s.port p).deferred = false) ∧
    (∃ (p : Nat) (s : State), p < 4 ∧ s.lineUp p = true ∧ s.flag (LN_STATUS_CAL_LOCK p) = false) ∧
    (∃ (p : Nat) (shield : Bool) (rho : Int) (s : State), s.transmitterOn p = true ∧ (shield = true ∨ rho ≤ -77)) ∧
    (∃ (p : Nat) (rho : Int) (s : State), s.transmitterOn p = true ∧ rho > -77) ∧
    (∃ (p dist : Nat) (rho : Int) (s : State), s.transmitterOn p = true ∧ 77 ≤ rho ∧ (s.beforeCoupler p dist = true ∨
      (s.atCoupler p dist = true ∧ s.coupled (portEnd p) = true))) ∧
    (∃ (p dist : Nat) (rho : Int) (s : State), s.transmitterOn p = true ∧ 77 ≤ rho ∧ s.beforeCoupler p dist = false ∧
      s.atCoupler p dist = true ∧ s.coupled (portEnd p) = false) ∧
    (∃ (p : Nat) (s : State), s.transmitterOn p = true) ∧
    (∃ (p : Nat), p < 4) ∧
    (∃ (p c : Nat) (s : State), p < 4 ∧ 1 ≤ c ∧ c ≤ 11 ∧ hasBit (s.port p).live c = true) ∧
    (∃ (p : Nat) (s : State), s.transmitterOn p = true ∧ s.nelmin p = true) :=
  ⟨⟨0, ({ (wS modeNative [((LN_STATUS_LINK 0), linkAcquire)]) with ports := [(0, { sweepDone := false })] } :
     State), by decide +kernel⟩,
   ⟨0, 5,
     ({ (wS modeNative [((LN_STATUS_LINK 0), linkAcquire)]) with ports := [(0, { sweepDone := false, sweep := 15 })] }
     : State), by decide +kernel⟩,
   ⟨0, (wS modeNative [(LN_STATUS_LINK 0, 2)]), by decide +kernel⟩,
   ⟨0, (wS modeNative [(LN_STATUS_LINK 0, 2), ((LN_STATUS_CAL_LOCK 0), 0)]), by decide +kernel⟩,
   ⟨0, (wS modeNative [((LN_STATUS_CAL_LOCK 0), 1)]), by decide +kernel⟩,
   ⟨0, ({ (wS modeNative [(LN_STATUS_LINK 0, 2)]) with ports := [(0, { deferred := true })] } : State),
     by decide +kernel⟩,
   ⟨0, ({ (wS modeNative []) with ports := [(0, { deferred := false })] } : State), by decide +kernel⟩,
   ⟨0, (wS modeNative [(LN_STATUS_LINK 0, 2), ((LN_STATUS_CAL_LOCK 0), 0)]), by decide +kernel⟩,
   ⟨0, true, 0, (wS modeNative []), by decide +kernel⟩,
   ⟨0, 0, (wS modeNative []), by decide +kernel⟩,
   ⟨0, 0, 77, (wS modeNative [(LN_CFG_COUPLER_DIST 0, 2)]), by decide +kernel⟩,
   ⟨0, 10, 77, (wS modeNative [(LN_CFG_COUPLER_DIST 0, 2)]), by decide +kernel⟩,
   ⟨0, (wS modeNative []), by decide +kernel⟩,
   ⟨0, by decide +kernel⟩,
   ⟨0, 1, ({ (wS modeNative []) with ports := [(0, { live := 2 })] } : State), by decide +kernel⟩,
   ⟨0, (wS modeNative []), by decide +kernel⟩⟩

theorem test_witness_LinkStatesChange_commands :
    (∃ (p : Nat) (s : State), p < 4 ∧ s.glb.held = false ∧ ¬(s.mode = modeSleep ∧ s.slp.entered = true) ∧ s.flag
      (LN_TRX_KA_TEST p) = false) ∧
    (∃ (p : Nat) (s : State), p < 4 ∧ s.mode ≠ modeSleep) ∧
    (∃ (path : Path) (p arg : Nat) (s : State), p < 4 ∧ s.accepts (cmdKaTest p) path arg) ∧
    (∃ (p : Nat) (s : State), p < 4 ∧ s.flag (LN_TRX_KA_TEST p) = true) ∧
    (∃ (path : Path) (p arg : Nat) (s : State), p < 4 ∧ s.accepts (cmdRecalibrate p) path arg) ∧
    (∃ (path : Path) (p arg : Nat) (s : State), p < 4 ∧ s.accepts (cmdSetDelayBase p) path arg) ∧
    (∃ (path : Path) (p arg : Nat) (s : State), p < 4 ∧ s.accepts (cmdEchoReset p) path arg) :=
  ⟨⟨0, ({ (wS modeNative [((LN_TRX_KA_TEST 0), 0)]) with glb.held := false } : State), by decide +kernel⟩,
   ⟨0, (wS modeNative []), by decide +kernel⟩,
   ⟨(.reg .pf0), 0, 0, (wS modeSafe []), by decide +kernel⟩,
   ⟨0, (wS modeNative [((LN_TRX_KA_TEST 0), 1)]), by decide +kernel⟩,
   ⟨(.reg .pf0), 0, 0, (wS modeNative []), by decide +kernel⟩,
   ⟨(.reg .pf0), 0, 0, (wS modeNative [(LN_DELAY_VALID 0, 1)]), by decide +kernel⟩,
   ⟨(.reg .pf0), 0, 0, (wS modeNative []), by decide +kernel⟩⟩

theorem test_witness_RunsStart_triggers :
    (∃ (side : Nat) (level : Bool) (s : State), s.quiet ∧ side = 1 ∧ s.get INA_SENSE_CS1_DEB ≠ b2n level) ∧
    (∃ (side : Nat) (level : Bool) (s : State), side = 2 ∧ s.get INA_SENSE_CS2_DEB = b2n level) ∧
    (∃ (level : Bool) (s : State), s.quiet ∧ s.cabActive ≠ level) ∧
    (∃ (level : Bool) (s : State), s.cabActive = level) ∧
    (∃ (path : Path) (arg : Nat) (s : State), s.accepts cmdInaugurate path arg ∧ (s.begun cmdInaugurate path
      arg).quiet) ∧
    (∃ (s : State), s.quiet ∧ s.ina.hold1 = true ∧ s.slp.holdEnd1 = false) ∧
    (∃ (p : Nat) (f : InaFrame) (s : State), s.quiet ∧ s.receiverOn p = true ∧ s.lineUp p = true ∧ f.kind = 1 ∧
      s.ina.fresh (portEnd p) = true ∧ ¬(f.uid = s.recordedNbr (portEnd p) ∧ f.topo = s.topo)) ∧
    (∃ (p : Nat) (f : InaFrame) (s : State), s.inaRuns = true ∧ s.receiverOn p = true ∧ s.lineUp p = true ∧ f.kind =
      1 ∧ s.ina.fresh (portEnd p) = false) :=
  ⟨⟨1, true, (wS modeNative []), by decide +kernel⟩,
   ⟨2, false, (wS modeNative [(INA_SENSE_CS2_DEB, b2n false)]), by decide +kernel⟩,
   ⟨true, (wS modeNative []), by decide +kernel⟩,
   ⟨false, (wS modeNative []), by decide +kernel⟩,
   ⟨(.reg .pf0), 0, (wS modeNative []), by decide +kernel⟩,
   ⟨({ (wS modeNative []) with ina.hold1 := true, slp.holdEnd1 := false } : State), by decide +kernel⟩,
   ⟨0, { wIna with kind := 1 }, ({ (wS modeNative [(LN_STATUS_LINK 0, 2)]) with ina.fresh1 := true } : State),
     by decide +kernel⟩,
   ⟨0, { wIna with kind := 1 }, (wS modeNative [(LN_STATUS_LINK 0, 2)]), by decide +kernel⟩⟩

theorem test_witness_RunsStart :
    (∃ (a e : Nat) (s : State), a < 256 ∧ s.onlyEnd = some e) ∧
    (∃ (a : Nat) (s : State), a < 256 ∧ s.bothEnds = true) ∧
    (∃ (s : State), s.endUp 1 = false ∧ s.endUp 2 = false ∧ s.topo < 65535 ∧ s.mode = modeNative) ∧
    (∃ (p : Nat) (f : InaFrame) (s : State), (s.firstCopy p 2 f).1 = true ∧ s.inaState = inaIdle ∧ s.bothEnds = true
      ∧ f.attempt < 256) :=
  ⟨⟨0, 1, (wS modeNative [(LN_STATUS_LINK 2, 0), (LN_STATUS_LINK 3, 0)]), by decide +kernel⟩,
   ⟨0, (wS modeNative []), by decide +kernel⟩,
   ⟨(wS modeNative [(LN_STATUS_LINK 0, 0), (LN_STATUS_LINK 1, 0), (LN_STATUS_LINK 2, 0), (LN_STATUS_LINK 3, 0)]),
     by decide +kernel⟩,
   ⟨0, { wIna with kind := 2 }, (wS modeNative [(INA_STATUS_STATE, inaIdle)]), by decide +kernel⟩⟩

theorem test_witness_RunFramesCommit :
    (∃ (p : Nat) (d : InaFrame) (s : State), (s.firstCopy p 3 d).1 = true ∧ s.inRun = true ∧ d.attempt =
      s.ina.attempt ∧ s.legacyCount = 0 ∧ d.pos < 256 ∧ (s.ina.best = none ∨ ∃ b, s.ina.best = some b ∧ b.better
      (inaClaim d) = false)) ∧
    (∃ (p : Nat) (d : InaFrame) (b : Claim) (s : State), (s.firstCopy p 3 d).1 = true ∧ s.inRun = true ∧ d.attempt =
      s.ina.attempt ∧ s.ina.best = some b ∧ b.better (inaClaim d) = true) ∧
    (∃ (p : Nat) (r : InaFrame) (s : State), (s.firstCopy p 4 r).1 = true ∧ s.ofRun r = true ∧ s.inaState =
      inaHeadWait ∧ r.pos ≤ 256 ∧ r.hash < 2 ^ 32 ∧ (serialMax r.topo s.topo + 1) % 65536 ≠ 0) ∧
    (∃ (p : Nat) (r : InaFrame) (s : State), (s.firstCopy p 4 r).1 = true ∧ s.ofRun r = true ∧ s.inaState = inaRelay) ∧
    (∃ (p : Nat) (f : InaFrame) (s : State), (s.firstCopy p 5 f).1 = true ∧ s.ofRun f = true ∧ (s.inaState = inaRelay
      ∨ s.inaState = inaTailWait) ∧ f.topo < 65536 ∧ f.pos ≤ 256 ∧ f.hash < 2 ^ 32) ∧
    (∃ (p : Nat) (f : InaFrame) (s : State), (s.firstCopy p 6 f).1 = true ∧ f.topo = s.topo ∧ s.ina.committed = true) ∧
    (∃ (s : State), s.inaRuns = true ∧ s.inRun = true ∧ s.flag INA_STATUS_FAILED = false) ∧
    (∃ (p : Nat) (d : InaFrame) (s : State), (s.firstCopy p 3 d).1 = true ∧ s.inRun = true ∧ d.attempt =
      s.ina.attempt ∧ s.legacyCount = 0 ∧ d.pos < 256 ∧ (s.ina.best = none ∨ ∃ b, s.ina.best = some b ∧ b.better
      (inaClaim d) = false) ∧ s.inaSends = true ∧ s.mode ≠ modeBorder ∧ s.endUp (3 - portEnd p) = true) :=
  ⟨⟨0, { wIna with kind := 3 }, ({ (wS modeNative [(INA_STATUS_STATE, inaRelay)]) with ina.best := none } : State),
     by decide +kernel⟩,
   ⟨0, { wIna with kind := 3 }, (⟨true, 0, 0, 0⟩ : Claim),
     ({ (wS modeNative [(INA_STATUS_STATE, inaRelay)]) with ina.best := some ⟨true, 0, 0, 0⟩ } : State),
     by decide +kernel⟩,
   ⟨0, { wIna with kind := 4 },
     ({ (wS modeNative [(INA_STATUS_STATE, inaHeadWait)]) with ina.best := some ⟨false, 0, 0, 1⟩ } : State),
     by decide +kernel⟩,
   ⟨0, { wIna with kind := 4 },
     ({ (wS modeNative [(INA_STATUS_STATE, inaRelay)]) with ina.best := some ⟨false, 0, 0, 1⟩ } : State),
     by decide +kernel⟩,
   ⟨0, { wIna with kind := 5 },
     ({ (wS modeNative [(INA_STATUS_STATE, inaRelay)]) with ina.best := some ⟨false, 0, 0, 1⟩ } : State),
     by decide +kernel⟩,
   ⟨0, { wIna with kind := 6 }, ({ (wS modeNative []) with ina.committed := true } : State), by decide +kernel⟩,
   ⟨(wS modeNative [(INA_STATUS_STATE, inaRelay), (INA_STATUS_FAILED, 0)]), by decide +kernel⟩,
   ⟨0, { wIna with kind := 3 }, ({ (wS modeNative [(INA_STATUS_STATE, inaRelay)]) with ina.best := none } : State),
     by decide +kernel⟩⟩

theorem test_witness_HopDelayAndEpochs :
    (∃ (p : Nat) (h : HopReport) (s : State), s.receiverOn p = true ∧ s.lineUp p = true ∧ s.hopBad h.crc h.topo
      h.codeError (hopReportBytes h) = true) ∧
    (∃ (p : Nat) (h : HopReport) (t1 t4 : Int) (s : State), s.receiverOn p = true ∧ s.lineUp p = true ∧ s.hopBad
      h.crc h.topo h.codeError (hopReportBytes h) = false ∧ s.isDownstream p = true ∧ hasBit h.flags 0 = true ∧ s.flag
      (LN_STATUS_CAL_LOCK p) = true ∧ (s.port p).t1 = some t1 ∧ (s.port p).t4 = some t4 ∧ s.flag (LN_DELAY_VALID p) =
      false) ∧
    (∃ (p : Nat) (d : HopNotice) (s : State), s.receiverOn p = true ∧ s.lineUp p = true ∧ s.hopBad d.crc d.topo
      d.codeError (hopNoticeBytes d) = true) ∧
    (∃ (p : Nat) (d : HopNotice) (s : State), s.receiverOn p = true ∧ s.lineUp p = true ∧ s.hopBad d.crc d.topo
      d.codeError (hopNoticeBytes d) = false ∧ s.isUpstream p = true) ∧
    (∃ (p d n : Nat) (valid : Bool) (s : State), p < 4 ∧ (s.port p).ready = some (d, valid, n) ∧ d < 2 ^ 20) ∧
    (∃ (s : State), s.keepsEpochs = true ∧ s.freeEpochs = false ∧ s.epochDue = true) ∧
    (∃ (s : State), (s.keepsEpochs = false ∨ s.freeEpochs = true ∨ s.epochDue = false)) ∧
    (∃ (line : Nat) (s : State), line < 2 ∧ s.cyc.inbound ≠ 0 ∧ hasBit s.cyc.inbound line = false) ∧
    (∃ (s : State), s.inaSends = true ∧ s.position ≠ 0 ∧ s.isHead = false ∧ s.mode ≠ modeBorder) ∧
    (∃ (s : State), s.inaSends = false) ∧
    (∃ (f : MsgFrame) (q : Nat) (s : State), (s.takeInbox f).controlActs f 2 = true ∧ ofLe (slice 2 2 f.payload) =
      s.topo ∧ ofLe (slice 0 2 f.payload) = q ∧ 1 < q ∧ q ≤ s.trainLen) ∧
    (∃ (d i : Nat) (v : Bool) (s : State), i < 256 ∧ d < 2 ^ 20 ∧ s.ina.hopPending = [(i, d, v)]) :=
  ⟨⟨0, ({ wHopR with codeError := true } : HopReport), (wS modeNative [(LN_STATUS_LINK 0, 2)]), by decide +kernel⟩,
   ⟨2, (let h : HopReport := { wHopR with flags := 1 }; { h with crc := crc8 (hopReportBytes h) }), 0, 5,
     ({ (wS modeNative [(LN_STATUS_LINK 2, 2), ((LN_STATUS_CAL_LOCK 2), 1), ((LN_DELAY_VALID 2), 0)]) with ports := [(2, { t1 := some 0, t4 := some 5 })] }
     : State), by decide +kernel⟩,
   ⟨0, { wHopN with codeError := true }, (wS modeNative [(LN_STATUS_LINK 0, 2)]), by decide +kernel⟩,
   ⟨0, { wHopN with crc := crc8 (hopNoticeBytes wHopN) }, (wS modeNative [(LN_STATUS_LINK 0, 2)]),
     by decide +kernel⟩,
   ⟨0, 0, 0, false, ({ (wS modeNative []) with ports := [(0, { ready := some (0, false, 0) })] } : State),
     by decide +kernel⟩,
   ⟨(wS modeNative [(INA_STATUS_ROLE, roleHead)]), by decide +kernel⟩,
   ⟨(wS modeNative []), by decide +kernel⟩,
   ⟨0, ({ (wS modeNative []) with cyc.inbound := 2 } : State), by decide +kernel⟩,
   ⟨(wS modeNative [(INA_STATUS_ROLE, roleMid)]), by decide +kernel⟩,
   ⟨(wS modeStandby []), by decide +kernel⟩,
   ⟨wPay 2 [2, 0, 0, 0], 2, (wS modeNative []), by decide +kernel⟩,
   ⟨0, 0, false, ({ (wS modeNative []) with ina.hopPending := [(0, 0, false)] } : State), by decide +kernel⟩⟩

theorem test_witness_CycleFramesRun :
    (∃ (s : State), s.emitsCycles = true ∧ s.sleepHolds = false ∧ s.cyc.nextCycle < 2 ^ 32) ∧
    (∃ (s : State), (s.emitsCycles = false ∨ s.sleepHolds = true)) ∧
    (∃ (p : Nat) (s : State), s.hearsCycles p = false) ∧
    (∃ (p : Nat) (f : CycleFrame) (s : State), s.hearsCycles p = true ∧ f.hcrc ≠ cycHcrc f ∧ s.frameTopology f ≠ none) ∧
    (∃ (p : Nat) (f : CycleFrame) (t : Topology) (s : State), s.hearsCycles p = true ∧ s.checkHeader p f true = (some
      t, s) ∧ f.topo = s.ina.topo.counter ∧ s.cyc.latched = none ∧ f.cycle < 2 ^ 32 ∧ f.mapSeq < 256) ∧
    (∃ (f : CycleFrame) (m : SlotMap) (q : Nat) (s : State), s.inBlock q = false ∧ 0 < m.size q ∧ s.cyc.done.contains
      q = false ∧ (m.area q f.slots).take 2 = le 2 f.cycle) ∧
    (∃ (f : CycleFrame) (m : SlotMap) (q : Nat), (m.area q f.slots).take 2 ≠ le 2 f.cycle) ∧
    (∃ (p : Nat) (f : CycleFrame) (t : Topology) (s : State), s.hearsCycles p = true ∧ s.checkHeader p f false =
      (some t, s) ∧ s.mode ≠ modeStandby) ∧
    (∃ (p : Nat) (f : CycleFrame) (t : Topology) (s : State), s.hearsCycles p = true ∧ s.checkHeader p f false =
      (some t, s)) :=
  ⟨⟨(wS modeNative [(INA_STATUS_ROLE, roleHead)]), by decide +kernel⟩,
   ⟨(wS modeNative []), by decide +kernel⟩,
   ⟨0, (wS modeNative [(LN_STATUS_LINK 0, 0)]), by decide +kernel⟩,
   ⟨0, wCyc, (wS modeNative []), by decide +kernel⟩,
   ⟨0, wCycOk 0, wT, ({ (wS modeNative []) with cyc.latched := none } : State), by decide +kernel⟩,
   ⟨wCyc, (⟨0, 0, [1]⟩ : SlotMap), 1, (wS modeNative []), by decide +kernel⟩,
   ⟨{ wCyc with slots := wB [1] }, (⟨0, 0, [1]⟩ : SlotMap), 1, by decide +kernel⟩,
   ⟨2, wCycOk 1, wT, (wS modeNative []), by decide +kernel⟩,
   ⟨2, wCycOk 1, wT, (wS modeNative []), by decide +kernel⟩⟩

theorem test_witness_SlotMapsAndDeclarations :
    (∃ (path : Path) (arg : Nat) (s : State), s.accepts cmdDeclare path arg) ∧
    (∃ (s : State), s.isHead = false) ∧
    (∃ (s : State), s.isHead = true) ∧
    (∃ (f : MsgFrame) (q z : Nat) (s : State), (s.takeInbox f).controlActs f 3 = true ∧ s.isHead = true ∧ ofLe (slice
      0 2 f.payload) = q ∧ ofLe (slice 2 1 f.payload) = z ∧ z ≤ 64 ∧ 1 ≤ q ∧ q ≤ s.trainLen) ∧
    (∃ (f : MsgFrame) (s : State), (s.takeInbox f).controlActs f 3 = true ∧ s.isHead = true ∧ 64 < ofLe (slice 2 1
      f.payload)) ∧
    (∃ (f : MsgFrame) (s : State), (s.takeInbox f).controlActs f 4 = true ∧ s.isHead = false ∧ ofLe (slice 2 2
      f.payload) = s.trainLen) ∧
    (∃ (path : Path) (arg : Nat) (s : State), s.accepts cmdMapReissue path arg) ∧
    (∃ (l : List Nat) (k : Nat), k < l.length) ∧
    (∃ (s : State), 1024 < s.askedSizes.sum ∧ s.recorderRuns = true ∧ s.rcd.writing.isSome = true ∧
      s.queueTakes 0x2003 = true) :=
  ⟨⟨(.reg .pf0), 0, (wS modeNative []), by decide +kernel⟩,
   ⟨(wS modeNative [(INA_STATUS_ROLE, roleMid)]), by decide +kernel⟩,
   ⟨(wS modeNative [(INA_STATUS_ROLE, roleHead)]), by decide +kernel⟩,
   ⟨wPay 3 [2, 0, 5], 2, 5, (wS modeNative [(INA_STATUS_ROLE, roleHead)]), by decide +kernel⟩,
   ⟨wPay 3 [2, 0, 65], (wS modeNative [(INA_STATUS_ROLE, roleHead)]), by decide +kernel⟩,
   ⟨wPay 4 [0, 0, 3, 0], (wS modeNative [(INA_STATUS_ROLE, roleMid)]), by decide +kernel⟩,
   ⟨(.reg .pf0), 0, (wS modeNative [(INA_STATUS_ROLE, roleHead)]), by decide +kernel⟩,
   ⟨[64], 0, by decide⟩,
   ⟨({ (wS modeNative [(INA_POS_VEH_COUNT, 18)]) with
      cyc.decls := (List.range 18).map (fun q => (q + 1, 60)), rcd.writing := some (wEvent, false) } : State), by decide +kernel⟩⟩

theorem test_witness_MessageSwitch :
    (∃ (p g : Nat) (f : MsgFrame) (s : State), s.inaRuns = true ∧ s.receiverOn p = true ∧ s.lineUp p = true ∧
      s.portLinked p = true ∧ f.type ≠ 1 ∧ s.bucket p (f.prio % 8) < g) ∧
    (∃ (p g : Nat) (f : MsgFrame) (s : State), s.inaRuns = true ∧ s.receiverOn p = true ∧ s.lineUp p = true ∧
      s.portLinked p = true ∧ f.type ≠ 1 ∧ g ≤ s.bucket p (f.prio % 8) ∧ msgWellFormed f g = false) ∧
    (∃ (p g : Nat) (f : MsgFrame) (s : State), s.inaRuns = true ∧ s.receiverOn p = true ∧ s.lineUp p = true ∧
      s.portLinked p = true ∧ f.type ≠ 1 ∧ g ≤ s.bucket p (f.prio % 8) ∧ msgWellFormed f g = true ∧ f.topo ≠ s.topo ∧
      s.graceTakes f = false) ∧
    (∃ (p g o : Nat) (f : MsgFrame) (s : State), s.inaRuns = true ∧ s.receiverOn p = true ∧ s.lineUp p = true ∧
      s.portLinked p = true ∧ f.type ≠ 1 ∧ g ≤ s.bucket p (f.prio % 8) ∧ msgWellFormed f g = true ∧ f.topo = s.topo ∧
      addrGroup f.dst = false ∧ addrLocal f.dst = false ∧ s.inBlock (addrPos f.dst) = false ∧ s.tailCannot f = false ∧
      s.transitPort p f = some o ∧ s.inaSends = true ∧ s.portLinked o = true ∧ s.lineUp o = true ∧ ((s.msgQueue o
      f.prio).map (fun x => msgStored x.frame)).sum + msgStored f ≤ s.msgDepth f.prio) ∧
    (∃ (p : Nat) (q : Queued) (s : State), s.inaSends = true ∧ s.transmitterOn p = true ∧ s.lineUp p = true ∧
      s.portLinked p = true ∧ s.windowOpen p = true ∧ s.portBusy p = false ∧ s.nextToSend p = some q ∧ bridgeOwner q =
      none) ∧
    (∃ (p : Nat) (s : State), (s.windowOpen p = false ∨ s.portBusy p = true ∨ s.inaSends = false)) ∧
    (∃ (p c : Nat) (q : Queued) (t : List Queued) (s : State), p < 4 ∧ c < 8 ∧ s.msgQueue p c = q :: t ∧ bridgeOwner
      q = none) :=
  ⟨⟨0, 5000, wFrame,
     ({ (wS modeNative [(LN_STATUS_LINK 0, 2), (MSG_POL_BURST 3, 1), (MSG_POL_RATE 3, 1)]) with msg.buckets := [(3, 0)] }
     : State), by decide +kernel⟩,
   ⟨0, 0, wFrame, (wS modeNative [(LN_STATUS_LINK 0, 2)]), by decide +kernel⟩,
   ⟨0, 0, wSealed { wFrame with prio := 7, topo := 9 }, (wS modeNative [(LN_STATUS_LINK 0, 2)]), by decide +kernel⟩,
   ⟨2, 0, 0, wSealed { wFrame with prio := 7, dst := 0 }, (wS modeNative [(LN_STATUS_LINK 2, 2), (LN_STATUS_LINK 0,
     2)]), by decide +kernel⟩,
   ⟨0, wQueued, ({ (wS modeNative [(LN_STATUS_LINK 0, 2)]) with msg.queues := [(3, [wQueued])], msg.open_ := 1 } :
     State), by decide +kernel⟩,
   ⟨0, (wS modeStandby [(LN_STATUS_LINK 0, 0), (LN_STATUS_LINK 1, 0)]), by decide +kernel⟩,
   ⟨0, 3, wQueued, [], ({ (wS modeNative []) with msg.queues := [(3, [wQueued])] } : State), by decide +kernel⟩⟩

theorem test_witness_MessageWindowsAndDuplicates :
    (∃ (p : Nat) (s : State), s.inaRuns = true ∧ p < 4 ∧ s.cyc.headerLost = false ∧ s.msg.open_ = 0 ∧ s.isHead = true) ∧
    (∃ (p : Nat) (s : State), s.inaRuns = true ∧ p < 4 ∧ s.cyc.headerLost = false ∧ s.msg.open_ ≠ 0) ∧
    (∃ (p : Nat) (s : State), s.inaRuns = true ∧ p < 4 ∧ s.cyc.headerLost = false ∧ clearBitOf s.msg.open_ p ≠ 0) ∧
    (∃ (p : Nat) (s : State), s.inaRuns = true ∧ p < 4 ∧ s.cyc.headerLost = false ∧ clearBitOf s.msg.open_ p = 0 ∧
      s.msg.closed = false) ∧
    (∃ (r : DupRecord) (seq : Nat), dupTakes r seq = true) ∧
    (∃ (f : MsgFrame) (s : State), (s.dupCheck f).1 = true ∧ s.msg.dups.find? (fun r => r.src == f.src && r.prio ==
      f.prio) = none) :=
  ⟨⟨0, ({ (wS modeNative [(INA_STATUS_ROLE, roleHead)]) with cyc.headerLost := false, msg.open_ := 0 } : State),
     by decide +kernel⟩,
   ⟨0, ({ (wS modeNative []) with cyc.headerLost := false, msg.open_ := 1 } : State), by decide +kernel⟩,
   ⟨0, ({ (wS modeNative []) with cyc.headerLost := false, msg.open_ := 3 } : State), by decide +kernel⟩,
   ⟨0, ({ (wS modeNative []) with cyc.headerLost := false, msg.closed := false } : State), by decide +kernel⟩,
   ⟨wDup, 1, by decide +kernel⟩,
   ⟨wFrame, (wS modeNative []), by decide +kernel⟩⟩

theorem test_witness_TrainTime :
    (∃ (s : State), s.follows = true ∧ s.timState = timLocked) ∧
    (∃ (s : State), (s.follows = false ∨ s.timState ≠ timLocked)) ∧
    (∃ (s : State), s.timState = timFree) ∧
    (∃ (v : Int) (t : Nat) (s : State), s.isHead = true ∧ s.tim.step = some (v, t) ∧ t + 10000 ≤ s.uptime) ∧
    (∃ (v : Int) (t : Nat) (s : State), s.isHead = true ∧ s.tim.step = some (v, t) ∧ s.uptime < t + 10000) ∧
    (∃ (x : Int × Nat) (s : State), s.isHead = false ∧ s.tim.step = some x) ∧
    (∃ (s : State), s.mode ≠ modeSleep ∧ s.flag TIM_CFG_PPS_IN_EN = true ∧ s.isHead = true ∧ s.running = true ∧
      s.tim.ppsEdges = []) ∧
    (∃ (s : State), s.timState = timHoldover) ∧
    (∃ (s : State), s.timState ≠ timHoldover) ∧
    (∃ (s : State), s.mode ≠ modeSleep ∧ s.flag TIM_CFG_PPS_IN_EN = false) ∧
    (∃ (s : State), s.flag TIM_CFG_PPS_IN_EN = true ∧ s.isHead = true ∧ s.running = true) ∧
    (∃ (s : State), s.ppsActive = true ∧ s.mode ≠ modeSleep ∧ s.tim.ppsLast = none) ∧
    (∃ (s : State), s.ppsActive = false) ∧
    (∃ (s : State), s.tim.ppsOut = true) ∧
    (∃ (path : Path) (arg : Nat) (s : State), s.accepts cmdStep path arg) ∧
    (∃ (path : Path) (arg : Nat) (s : State), s.accepts cmdClearValid path arg) :=
  ⟨⟨(wS modeNative [(TIM_STATUS_STATE, timLocked)]), by decide +kernel⟩,
   ⟨(wS modeNative []), by decide +kernel⟩,
   ⟨(wS modeNative [(TIM_STATUS_STATE, timFree)]), by decide +kernel⟩,
   ⟨0, 0, ({ (wS modeNative [(INA_STATUS_ROLE, roleHead)]) with tim.step := some (0, 0), uptime := 10000 } : State),
     by decide +kernel⟩,
   ⟨0, 0, ({ (wS modeNative [(INA_STATUS_ROLE, roleHead)]) with tim.step := some (0, 0) } : State),
     by decide +kernel⟩,
   ⟨(0, 0), ({ (wS modeNative [(INA_STATUS_ROLE, roleMid)]) with tim.step := some ((0, 0)) } : State),
     by decide +kernel⟩,
   ⟨({ (wS modeNative [(TIM_CFG_PPS_IN_EN, 1), (INA_STATUS_ROLE, roleHead)]) with tim.ppsEdges := [] } : State),
     by decide +kernel⟩,
   ⟨(wS modeNative [(TIM_STATUS_STATE, timHoldover)]), by decide +kernel⟩,
   ⟨(wS modeNative []), by decide +kernel⟩,
   ⟨(wS modeNative [(TIM_CFG_PPS_IN_EN, 0)]), by decide +kernel⟩,
   ⟨(wS modeNative [(TIM_CFG_PPS_IN_EN, 1), (INA_STATUS_ROLE, roleHead)]), by decide +kernel⟩,
   ⟨({ (wS modeNative [(TIM_PPS_CFG_MODE, 2)]) with tim.ppsLast := none } : State), by decide +kernel⟩,
   ⟨(wS modeNative []), by decide +kernel⟩,
   ⟨({ (wS modeNative []) with tim.ppsOut := true } : State), by decide +kernel⟩,
   ⟨(.reg .pf0), 0, (wS modeNative [(INA_STATUS_ROLE, roleHead)]), by decide +kernel⟩,
   ⟨(.reg .pf0), 0, (wS modeNative [(INA_STATUS_ROLE, roleHead)]), by decide +kernel⟩⟩

theorem test_witness_ConsistControllers :
    (∃ (i : Nat) (s : State), s.cstRuns = true ∧ s.get CST_STATUS_STATE = cstListen ∧ s.flag CST_STATUS_COLDSTART =
      true ∧ s.coldSlot = some i) ∧
    (∃ (s : State), s.coldSlot = none) ∧
    (∃ (f : ConsistFrame) (s : State), s.cstRuns = true ∧ s.isStar = false ∧ s.get (CST_PSTATUS_LINK 0) = 2 ∧ s.get
      CST_STATUS_STATE = cstListen ∧ s.gridFree f = true) ∧
    (∃ (s : State), s.cstRuns = true ∧ (s.get CST_STATUS_STATE = cstColdstart ∨ s.get CST_STATUS_STATE = cstIntegrate
      ∨ s.get CST_STATUS_STATE = cstActive)) ∧
    (∃ (s : State), s.cstRuns = true ∧ (s.get CST_STATUS_STATE = cstIntegrate ∨ s.get CST_STATUS_STATE = cstActive) ∧
      s.lockBc = false ∧ 400 < (corrections s.cst.devs s.cst.lastDevs).1.natAbs) ∧
    (∃ (path : Path) (arg : Nat) (s : State), s.accepts cmdRejoin path arg) ∧
    (∃ (l : List Int) (b : Int), 0 ≤ b ∧ (∀ x ∈ l, -b ≤ x ∧ x ≤ b)) ∧
    (∃ (id : Nat) (s : State), s.cstRuns = true ∧ s.get CST_STATUS_STATE = cstActive ∧ s.isStar = false ∧ id ≤ 64 ∧
      s.frameOwner s.cstCycle id = s.spoke ∧ s.meanDev = none ∧ s.cstSends = true) ∧
    (∃ (id : Nat) (s : State), (s.cstRuns = false ∨ s.frameOwner s.cstCycle id ≠ s.spoke)) ∧
    (∃ (id : Nat) (eo : Int) (s : State), s.cstRuns = true ∧ s.get CST_STATUS_STATE = cstActive ∧ s.isStar = false ∧
      s.frameOwner s.cstCycle id = s.spoke ∧ s.meanDev = some eo ∧ 180 < eo.natAbs) :=
  ⟨⟨1, (wS modeNative [(CST_STATUS_EN, 1), (CST_STATUS_STATE, cstListen), (CST_STATUS_COLDSTART, 1), (CST_SCHED0_S,
     1), (CST_SLOT_COLD_SLOT 0, 1), (CST_STATUS_COLDSTART, 1), (CST_SLOT_OWNER 0, 0)]), by decide +kernel⟩,
   ⟨(wS modeNative []), by decide +kernel⟩,
   ⟨wCstOk, (wS modeNative [(CST_STATUS_EN, 1), ((CST_PSTATUS_LINK 0), 2), (CST_STATUS_STATE, cstListen),
     (CST_SCHED0_S, 1), (CST_SCHED1_P_S, 0), (CST_SLOT_OWNER 0, 0)]), by decide +kernel⟩,
   ⟨(wS modeNative [(CST_STATUS_EN, 1), (CST_STATUS_STATE, cstColdstart)]), by decide +kernel⟩,
   
     ⟨({ (wS modeNative [(CST_STATUS_EN, 1), (CST_STATUS_STATE, cstIntegrate)]) with cst.devs := [⟨1, 500, true, true⟩] }
     : State), by decide +kernel⟩,
   ⟨(.reg .pf0), 0, (wS modeNative []), by decide +kernel⟩,
   ⟨[], 0, by decide +kernel⟩,
   ⟨1, (wS modeNative [(CST_STATUS_EN, 1), (CST_STATUS_STATE, cstActive), (CST_SCHED0_S, 1), (CST_SLOT_OWNER 0,
     0)]), by decide +kernel⟩,
   ⟨0, (wS modeSafe []), by decide +kernel⟩,
   ⟨1, (200 : Int),
     ({ (wS modeNative [(CST_STATUS_EN, 1), (CST_STATUS_STATE, cstActive), (CST_SCHED0_S, 1), (CST_SLOT_OWNER 0, 0)]) with cst.devs := [⟨1, 200, true, true⟩, ⟨2, 200, true, true⟩] }
     : State), by decide +kernel⟩⟩

theorem test_witness_GuardianAndConsistLinks :
    (∃ (p : Nat) (rx : Int) (s : State), s.cstRuns = true ∧ s.isStar = true ∧ p < 8 ∧ s.get (CST_PSTATUS_LINK p) = 2
      ∧ s.get CST_STATUS_GSTATE = guardRun ∧ 0 ≤ s.toNominal s.cst.gRate (rx - s.cst.gStart) ∧ s.toNominal s.cst.gRate
      (rx - s.cst.gStart) < s.dynStart ∧ s.slotOwner s.cst.gCycle ((fdiv (s.toNominal s.cst.gRate (rx - s.cst.gStart))
      (Nat.max 1 s.slotNs)).toNat + 1) ≠ p) ∧
    (∃ (p i : Nat) (f : ConsistFrame) (rx : Int) (s : State), s.cstRuns = true ∧ s.isStar = true ∧ p < 8 ∧ s.get
      (CST_PSTATUS_LINK p) = 2 ∧ s.get CST_STATUS_GSTATE = guardRun ∧ 0 ≤ s.toNominal s.cst.gRate (rx - s.cst.gStart)
      ∧ s.toNominal s.cst.gRate (rx - s.cst.gStart) < s.dynStart ∧ (fdiv (s.toNominal s.cst.gRate (rx - s.cst.gStart))
      (Nat.max 1 s.slotNs)).toNat + 1 = i ∧ s.slotOwner s.cst.gCycle i = p ∧ (s.toNominal s.cst.gRate (rx -
      s.cst.gStart) - s.slotAp i).natAbs ≤ 200 ∧ s.get (CST_PSTATUS_GUARD p) = 0 ∧ cstHeaderOk f = true ∧ isCold f =
      false) ∧
    (∃ (p : Nat) (f : ConsistFrame) (s : State), s.cstRuns = true ∧ s.isStar = true ∧ p < 8 ∧ s.get (CST_PSTATUS_LINK
      p) = 2 ∧ s.get CST_STATUS_GSTATE ≠ guardRun ∧ s.get (CST_PSTATUS_GUARD p) = 0 ∧ s.cst.locked = none ∧ isCold f =
      false) ∧
    (∃ (p id : Nat) (s : State), p < 8 ∧ s.cst.forwarding = some (p, id)) ∧
    (∃ (p : Nat) (s : State), p < 8 ∧ s.get (CST_PSTATUS_GUARD p) = 0 ∧ (s.cstPort p).violations = 1) ∧
    (∃ (p : Nat) (s : State), p < 8 ∧ s.get (CST_PSTATUS_GUARD p) = 1 ∧ tabGet 0 s.cst.blanked p = 0) ∧
    (∃ (s : State), s.get CST_STATUS_GSTATE = guardRun) ∧
    (∃ (p : Nat), p < 8) ∧
    (∃ (p : Nat) (s : State), p < 8 ∧ (noteCodeError s.uptime 40960 (s.cstPort p).codeErrs).length < 16) ∧
    (∃ (p : Nat) (s : State), p < 8 ∧ s.get (CST_PSTATUS_LINK p) ≠ 2) ∧
    (∃ (p : Nat) (s : State), s.get (CST_PSTATUS_LINK p) = 2) ∧
    (∃ (path : Path) (arg : Nat) (s : State), s.accepts cmdPortReset path arg) :=
  ⟨⟨0, (400 : Int), (wS modeNative [(CST_STATUS_EN, 1), (CST_STATUS_ROLE, 1), ((CST_PSTATUS_LINK 0), 2),
     (CST_STATUS_GSTATE, guardRun), (CST_SCHED0_S, 2), (CST_SCHED0_L_SLOT, 1000), (CST_SLOT_OWNER 0, 1)]),
     by decide +kernel⟩,
   ⟨0, 1, wCstOk, (400 : Int), (wS modeNative [(CST_STATUS_EN, 1), (CST_STATUS_ROLE, 1), ((CST_PSTATUS_LINK 0), 2),
     (CST_STATUS_GSTATE, guardRun), ((CST_PSTATUS_GUARD 0), 0), (CST_SCHED0_S, 2), (CST_SCHED0_L_SLOT, 1000),
     (CST_SLOT_OWNER 0, 0)]), by decide +kernel⟩,
   ⟨0, wCst,
     ({ (wS modeNative [(CST_STATUS_EN, 1), (CST_STATUS_ROLE, 1), ((CST_PSTATUS_LINK 0), 2), ((CST_PSTATUS_GUARD 0), 0)]) with cst.locked := none }
     : State), by decide +kernel⟩,
   ⟨0, 0, ({ (wS modeNative []) with cst.forwarding := some (0, 0) } : State), by decide +kernel⟩,
   ⟨0, ({ (wS modeNative [((CST_PSTATUS_GUARD 0), 0)]) with cst.ports := [(0, { violations := 1 })] } : State),
     by decide +kernel⟩,
   ⟨0, (wS modeNative [((CST_PSTATUS_GUARD 0), 1)]), by decide +kernel⟩,
   ⟨(wS modeNative [(CST_STATUS_GSTATE, guardRun)]), by decide +kernel⟩,
   ⟨0, by decide +kernel⟩,
   ⟨0, (wS modeNative []), by decide +kernel⟩,
   ⟨0, (wS modeNative []), by decide +kernel⟩,
   ⟨0, (wS modeNative [((CST_PSTATUS_LINK 0), 2)]), by decide +kernel⟩,
   ⟨(.reg .pf0), 0, (wS modeNative [(CST_STATUS_ROLE, 1)]), by decide +kernel⟩⟩

theorem test_witness_CanFaultConfinement :
    (∃ (n : Nat) (s : State), n < 12 ∧ s.inGtn = false ∧ s.canReceives n = true ∧ s.canListens n = false) ∧
    (∃ (n : Nat) (s : State), n < 12 ∧ s.inGtn = false ∧ s.canListens n = true) ∧
    (∃ (n : Nat) (e : CanEntry) (s : State), n < 12 ∧ s.inGtn = false ∧ (s.chan n).sendingRef = false ∧ s.canCurrent
      n = some e ∧ e.cancelled = false ∧ elemTt e.element = false ∧ elemOneShot e.element = false ∧ (s.chan
      n).stopping = false ∧ s.canListens n = false) ∧
    (∃ (n tec : Nat) (s : State), n < 12 ∧ s.inGtn = false ∧ s.get (CAN_STATUS_CONF n) ≠ 2 ∧ 256 ≤ tec) ∧
    (∃ (n : Nat) (s : State), n < 12 ∧ s.inGtn = false ∧ s.canState n = canBusOff ∧ s.get (CAN_STATUS_CONF n) = 2 ∧
      s.get (CAN_STATUS_BOR_CNT n) = 127) ∧
    (∃ (n : Nat) (s : State), n < 12 ∧ s.inGtn = false ∧ s.canState n = canBusOff ∧ s.get (CAN_STATUS_CONF n) = 2 ∧
      s.get (CAN_STATUS_BOR_CNT n) < 127) ∧
    (∃ (n : Nat) (s : State), n < 12 ∧ s.canState n = canIntegrating ∧ s.get (CAN_STATUS_CONF n) ≠ 2) :=
  ⟨⟨0, (wS modeNative [(CAN_STATUS_STATE 0, canRunning)]), by decide +kernel⟩,
   ⟨0, (wS modeNative [(CAN_STATUS_STATE 0, canListen)]), by decide +kernel⟩,
   ⟨0, wEntry,
     ({ (wS modeNative []) with can := [(0, { sendingRef := false, stopping := false, entries := [wEntry], sending := some 0 })] }
     : State), by decide +kernel⟩,
   ⟨0, 256, (wS modeNative []), by decide +kernel⟩,
   ⟨0, (wS modeNative [((CAN_STATUS_CONF 0), 2), ((CAN_STATUS_BOR_CNT 0), 127), (CAN_STATUS_STATE 0, canBusOff)]),
     by decide +kernel⟩,
   ⟨0, (wS modeNative [((CAN_STATUS_CONF 0), 2), (CAN_STATUS_STATE 0, canBusOff)]), by decide +kernel⟩,
   ⟨0, (wS modeNative [(CAN_STATUS_STATE 0, canIntegrating)]), by decide +kernel⟩⟩

theorem test_witness_CanFramesSentAndReceived :
    (∃ (n : Nat) (e : CanEntry) (s : State), n < 12 ∧ s.inGtn = false ∧ s.canMayStart n = true ∧ s.canChoice n = some
      e) ∧
    (∃ (n : Nat) (s : State), s.inGtn = false ∧ (s.canMayStart n = false ∨ s.canChoice n = none)) ∧
    (∃ (n : Nat) (e : CanEntry) (s : State), n < 12 ∧ s.inGtn = false ∧ (s.chan n).sendingRef = false ∧ s.canCurrent
      n = some e ∧ (elemFdf e.element && elemBrs e.element) = false ∧ e.cancelled = false ∧ (s.chan n).stopping =
      false) ∧
    (∃ (n : Nat) (e : CanEntry) (s : State), n < 12 ∧ s.inGtn = false ∧ (s.chan n).sendingRef = false ∧ s.canCurrent
      n = some e ∧ e.cancelled = false ∧ elemTt e.element = false ∧ elemOneShot e.element = false ∧ (s.chan
      n).stopping = false) ∧
    (∃ (path : Path) (n arg : Nat) (s : State), n < 12 ∧ s.accepts (cmdCanCancel n) path arg) ∧
    (∃ (n i : Nat) (f : CanFrame) (s : State), n < 12 ∧ s.inGtn = false ∧ s.canReceives n = true ∧ (f.fdf = false ∨
      s.flag (CAN_CFG_FD_EN n) = true) ∧ s.isReference n f = false ∧ s.canFilter n f = (3, i)) ∧
    (∃ (n i : Nat) (f : CanFrame) (s : State), n < 12 ∧ s.inGtn = false ∧ s.canReceives n = true ∧ (f.fdf = false ∨
      s.flag (CAN_CFG_FD_EN n) = true) ∧ s.isReference n f = false ∧ s.canFilter n f = (1, i) ∧ (s.chan n).rxq0.length
      < s.get (CAN_RXQCFG_DEPTH0 n) + 1) ∧
    (∃ (n i : Nat) (f : CanFrame) (s : State), n < 12 ∧ s.inGtn = false ∧ s.canReceives n = true ∧ (f.fdf = false ∨
      s.flag (CAN_CFG_FD_EN n) = true) ∧ s.isReference n f = false ∧ s.canFilter n f = (1, i) ∧ s.get
      (CAN_RXQCFG_DEPTH0 n) + 1 ≤ (s.chan n).rxq0.length ∧ s.flag (CAN_RXQCFG_OVW0 n) = false) ∧
    (∃ (n : Nat) (s : State), n < 12 ∧ s.canReceives n = true ∧ s.inGtn = false ∧ s.flag (CAN_CFG_PXE n) = true) :=
  ⟨⟨0, wEntry, ({ (wS modeNative [(CAN_STATUS_STATE 0, canRunning)]) with can := [(0, { entries := [wEntry] })] } :
     State), by decide +kernel⟩,
   ⟨0, (wS modeNative []), by decide +kernel⟩,
   ⟨0, wEntry,
     ({ (wS modeNative []) with can := [(0, { sendingRef := false, stopping := false, entries := [wEntry], sending := some 0 })] }
     : State), by decide +kernel⟩,
   ⟨0, wEntry,
     ({ (wS modeNative []) with can := [(0, { sendingRef := false, stopping := false, entries := [wEntry], sending := some 0 })] }
     : State), by decide +kernel⟩,
   ⟨(.reg .pf0), 0, 0, ({ (wS modeNative []) with can := [(0, { entries := [wEntry] })] } : State),
     by decide +kernel⟩,
   ⟨0, 63, { wCan with fdf := false }, (wS modeNative [(CAN_STATUS_STATE 0, canRunning)]), by decide +kernel⟩,
   ⟨0, 63, { wCan with fdf := false }, (wS modeNative [(CAN_STATUS_STATE 0, canRunning), (CAN_CFG_NOMATCH 0, 1),
     (CAN_RXQCFG_DEPTH0 0, 1)]), by decide +kernel⟩,
   ⟨0, 63, { wCan with fdf := false },
     ({ (wS modeNative [(CAN_STATUS_STATE 0, canRunning), ((CAN_RXQCFG_OVW0 0), 0), (CAN_CFG_NOMATCH 0, 1), (CAN_RXQCFG_DEPTH0 0, 1)]) with can := [(0, { rxq0 := [(0, []), (1, [])] })] }
     : State), by decide +kernel⟩,
   ⟨0, (wS modeNative [(CAN_STATUS_STATE 0, canRunning), ((CAN_CFG_PXE 0), 1)]), by decide +kernel⟩⟩

theorem test_witness_CanStartStopAndTriggered :
    (∃ (path : Path) (n arg : Nat) (s : State), n < 12 ∧ s.accepts (cmdCanStart n) path arg ∧ s.canState n =
      canStopped ∧ s.flag (CAN_CFG_LISTEN_ONLY n) = false ∧ s.canForced n = false ∧ s.get (CAN_STATUS_CONF n) ≠ 2) ∧
    (∃ (path : Path) (n arg : Nat) (s : State), n < 12 ∧ s.accepts (cmdCanStop n) path arg ∧ s.canState n ≠
      canStopped ∧ s.canState n ≠ canRetired ∧ (s.chan n).forced = false ∧ (s.chan n).sending = none ∧ (s.chan
      n).sendingRef = false) ∧
    (∃ (n : Nat) (s : State), n < 12 ∧ s.inGtn = false ∧ [canIntegrating, canRunning, canBusOff, canListen].contains
      (s.canState n) = true ∧ (s.chan n).stopping = false) ∧
    (∃ (n : Nat) (s : State), n < 12 ∧ s.inGtn = false ∧ s.canState n = canHeld ∧ s.flag (CAN_FAULT_LIVE_DOM n) =
      true ∧ s.flag (CAN_CFG_LISTEN_ONLY n) = false ∧ s.canForced n = false ∧ s.get (CAN_STATUS_CONF n) ≠ 2) ∧
    (∃ (n : Nat) (f : CanFrame) (s : State), n < 12 ∧ s.canReceives n = true ∧ (f.fdf = false ∨ s.flag (CAN_CFG_FD_EN
      n) = true) ∧ s.isReference n f = true) ∧
    (∃ (n : Nat) (s : State), n < 12 ∧ s.refMayStart n = true ∧ s.ttState n = ttMaster) ∧
    (∃ (n : Nat) (s : State), n < 12 ∧ s.refMayStart n = true ∧ (s.chan n).refSeen = false) ∧
    (∃ (n : Nat) (s : State), n < 12 ∧ s.ttState n ≠ ttOff ∧ (s.chan n).refSeen = true ∧ s.get (CAN_TTSTATUS_MISSED
      n) < 7) ∧
    (∃ (n : Nat) (s : State), n < 12 ∧ s.ttState n = ttFollower ∧ (s.chan n).refSeen = true ∧ s.get
      (CAN_TTSTATUS_MISSED n) = 7) ∧
    (∃ (n w : Nat) (e : CanEntry) (s : State), n < 12 ∧ w < 32 ∧ s.ttState n = ttFollower ∧ s.get (CAN_WIN_KIND n w)
      = 1 ∧ s.windowActive n w (s.get (CAN_TTSTATUS_CYCLE n)) = true ∧ canBound (s.chan n) w = some e) ∧
    (∃ (n w : Nat) (e : CanEntry) (s : State), n < 12 ∧ w < 32 ∧ canBound (s.chan n) w = some e ∧ e.offered = true ∧
      s.triesUsed n e = true) ∧
    (∃ (n w : Nat) (s : State), canBound (s.chan n) w = none) :=
  ⟨⟨(.reg .pf0), 0, 0, (wS modeNative [((CAN_CFG_LISTEN_ONLY 0), 0)]), by decide +kernel⟩,
   ⟨(.reg .pf0), 0, 0,
     ({ (wS modeNative [(CAN_STATUS_STATE 0, canRunning)]) with can := [(0, { forced := false, sending := none, sendingRef := false })] }
     : State), by decide +kernel⟩,
   ⟨0, ({ (wS modeNative [(CAN_STATUS_STATE 0, canRunning)]) with can := [(0, { stopping := false })] } : State),
     by decide +kernel⟩,
   ⟨0, (wS modeNative [((CAN_FAULT_LIVE_DOM 0), 1), ((CAN_CFG_LISTEN_ONLY 0), 0), (CAN_STATUS_STATE 0, canHeld)]),
     by decide +kernel⟩,
   ⟨0, { wCan with fdf := false }, (wS modeNative [(CAN_STATUS_STATE 0, canRunning), (CAN_CFG_TT_EN 0, 1),
     (CAN_TTREF_REF_ID 0, 291)]), by decide +kernel⟩,
   ⟨0, (wS modeNative [(CAN_CFG_TT_EN 0, 1), (CAN_TTCFG_MASTER_EN 0, 1), (CAN_STATUS_STATE 0, canRunning),
     (CAN_TTSTATUS_TT_STATE 0, ttMaster)]), by decide +kernel⟩,
   ⟨0,
     ({ (wS modeNative [(CAN_CFG_TT_EN 0, 1), (CAN_TTCFG_MASTER_EN 0, 1), (CAN_STATUS_STATE 0, canRunning)]) with can := [(0, { refSeen := false })] }
     : State), by decide +kernel⟩,
   ⟨0, ({ (wS modeNative [(CAN_TTSTATUS_TT_STATE 0, ttFollower)]) with can := [(0, { refSeen := true })] } : State),
     by decide +kernel⟩,
   ⟨0,
     ({ (wS modeNative [((CAN_TTSTATUS_MISSED 0), 7), (CAN_TTSTATUS_TT_STATE 0, ttFollower)]) with can := [(0, { refSeen := true })] }
     : State), by decide +kernel⟩,
   ⟨0, 0, wTt,
     ({ (wS modeNative [((CAN_WIN_KIND 0 0), 1), (CAN_TTSTATUS_TT_STATE 0, ttFollower)]) with can := [(0, { entries := [wTt] })] }
     : State), by decide +kernel⟩,
   ⟨0, 0, { wTt with offered := true },
     ({ (wS modeNative []) with can := [(0, { entries := [{ wTt with offered := true }] })] } : State),
     by decide +kernel⟩,
   ⟨0, 0, (wS modeNative []), by decide +kernel⟩⟩

theorem test_witness_SlicesServe :
    (∃ (slice : Nat) (s : State), (64 ≤ slice ∨ s.engineAlive = false)) ∧
    (∃ (slice : Nat) (s : State), slice < 64 ∧ s.engineAlive = true ∧ s.sliceOwner slice = chMaint) ∧
    (∃ (slice : Nat) (s : State), slice < 64 ∧ s.engineRuns = true ∧ s.sliceOwner slice = 0 ∧ s.flag
      FLW_CFG_SPARE_USE = false) ∧
    (∃ (slice ch : Nat) (i : Item) (s : State), slice < 64 ∧ s.engineRuns = true ∧ s.sliceOwner slice = ch ∧
      queuedChannels.contains ch = true ∧ ch ≠ chGpio ∧ tabFind ch s.flw.work = none ∧ s.frontItem ch = some i ∧
      i.frame = none ∧ (s.popItem ch).matching i = []) ∧
    (∃ (slice ch : Nat) (i : Item) (s : State), slice < 64 ∧ s.engineRuns = true ∧ s.sliceOwner slice = ch ∧
      queuedChannels.contains ch = true ∧ ch ≠ chGpio ∧ tabFind ch s.flw.work = none ∧ s.frontItem ch = some i) ∧
    (∃ (slice ch : Nat) (i : Item) (fs : List Nat) (s : State), slice < 64 ∧ s.engineRuns = true ∧ s.sliceOwner slice
      = ch ∧ queuedChannels.contains ch = true ∧ ch ≠ chGpio ∧ tabFind ch s.flw.work = some (i, fs)) ∧
    (∃ (f : Nat) (s : State), s.flowStatus f = flowShed) ∧
    (∃ (f : Nat) (s : State), s.flowStatus f ≠ flowShed ∧ flowCounts (s.flowStatus f) = false) ∧
    (∃ (f : Nat) (i : Item) (s : State), s.get (FCTX_RATE f) ≠ 0 ∧ s.get (FCTX_BUCKET f) < i.data.length) :=
  ⟨⟨64, (wS modeNative []), by decide +kernel⟩,
   ⟨0, (wS modeNative [(FLW_SLICE_ENTRY 0, chMaint)]), by decide +kernel⟩,
   ⟨0, (wS modeNative [(FLW_CFG_SPARE_USE, 0), (FLW_SLICE_ENTRY 0, 0)]), by decide +kernel⟩,
   ⟨0, 0x10, { wItem with ch := 0x10 },
     ({ (wS modeNative [(FLW_SLICE_ENTRY 0, 0x10)]) with flw.ingress := [(0x10, [{ wItem with ch := 0x10 }])] } :
     State), by decide +kernel⟩,
   ⟨0, 0x10, { wItem with ch := 0x10, frame := some wFrame },
     ({ (wS modeNative [(FLW_SLICE_ENTRY 0, 0x10)]) with flw.ingress := [(0x10, [{ wItem with ch := 0x10, frame := some wFrame }])] }
     : State), by decide +kernel⟩,
   ⟨0, 0x10, { wItem with ch := 0x10 }, [],
     ({ (wS modeNative [(FLW_SLICE_ENTRY 0, 0x10)]) with flw.work := [(0x10, ({ wItem with ch := 0x10 }, []))] } :
     State), by decide +kernel⟩,
   ⟨0, (wS modeNative [(FCTX_STATUS 0, flowShed)]), by decide +kernel⟩,
   ⟨0, (wS modeNative []), by decide +kernel⟩,
   ⟨0, { wItem with data := [1] }, (wS modeNative [(FCTX_RATE 0, 1)]), by decide +kernel⟩⟩

theorem test_witness_FlowsAndSliceTable :
    (∃ (path : Path) (arg f : Nat) (s : State), s.accepts cmdFlowEnable path arg ∧ arg % 65536 = f ∧ s.isRetired
      (s.get (FCTX_SRC_CH f)) = true ∧ s.flag FLW_STATUS_SHEDDING = false) ∧
    (∃ (path : Path) (arg f : Nat) (s : State), s.accepts cmdFlowEnable path arg ∧ arg % 65536 = f ∧ s.isRetired
      (s.get (FCTX_SRC_CH f)) = false ∧ s.isRetired (s.get (FCTX_DST_CH f)) = false ∧ (s.get (FCTX_AUTH f) = 0 ∨
      s.flw.ivDone = false) ∧ s.flag FLW_STATUS_SHEDDING = false) ∧
    (∃ (path : Path) (arg : Nat) (s : State), s.accepts cmdFlowDisable path arg) ∧
    (∃ (path : Path) (arg : Nat) (s : State), s.accepts cmdFlowEnable path arg) ∧
    (∃ (path : Path) (arg : Nat) (s : State), s.accepts cmdSliceApply path arg) ∧
    (∃ (s : State), s.shadowOk = true) ∧
    (∃ (s : State), s.flw.applyDue = true ∧ s.engineAlive = true) ∧
    (∃ (s : State), (s.flw.applyDue = false ∨ s.engineAlive = false)) ∧
    (∃ (k : Nat) (path : Path) (s : State), k < 64 ∧ s.isRetired (s.shadowEntry k) = true ∧
      s.mayCommand path 0xC000 3 = true) :=
  ⟨⟨(.reg .pf0), 0, 0, (wS modeNative [(FLW_STATUS_SHEDDING, 0), (FCTX_SRC_CH 0, 0x30), (FCTX_DST_CH 0, 0x40),
     (FLW_RETIRED_CAN, 1)]), by decide +kernel⟩,
   ⟨(.reg .pf0), 0, 0, (wS modeNative [((FCTX_AUTH 0), 0), (FLW_STATUS_SHEDDING, 0), (FCTX_SRC_CH 0, 0x40),
     (FCTX_DST_CH 0, 0x40)]), by decide +kernel⟩,
   ⟨(.reg .pf0), 0, (wS modeNative []), by decide +kernel⟩,
   ⟨(.reg .pf0), 0, (wS modeNative [(FCTX_SRC_CH 0, 0x40), (FCTX_DST_CH 0, 0x40)]), by decide +kernel⟩,
   ⟨(.reg .pf0), 0, (wS modeNative []), by decide +kernel⟩,
   ⟨(wS modeNative []), by decide +kernel⟩,
   ⟨({ (wS modeNative []) with flw.applyDue := true } : State), by decide +kernel⟩,
   ⟨({ (wS modeNative []) with flw.applyDue := false } : State), by decide +kernel⟩,
   ⟨0, .reg .pf0, ((wS modeNative []).retire 0x37 1).set (FLW_SLICE_SH_ENTRY 0) 0x37, by decide +kernel⟩⟩

theorem test_witness_SlicesServe_stale :
    (∃ (f : Nat) (s : State), (1024 ≤ f ∨ s.engineRuns = false ∨ s.flowStatus f ≠ flowStale ∨ s.get (FCTX_STALE_ACT
      f) = 2)) ∧
    (∃ (f : Nat) (i : Item) (s : State), f < 1024 ∧ s.engineRuns = true ∧ s.flowStatus f = flowStale ∧ s.get
      (FCTX_STALE_ACT f) = 0 ∧ s.heldItem f = some i) ∧
    (∃ (f : Nat) (s : State), f < 1024 ∧ s.engineRuns = true ∧ s.flowStatus f = flowStale ∧ s.get (FCTX_STALE_ACT f)
      = 1 ∧ s.get (FCTX_RATE f) = 0 ∧ s.get (FCTX_TUBE f) ≠ 2 ∧ s.get (FCTX_DST_CH f) = chGpio ∧ s.flag
      PAIR_STATUS_PENDING = false) ∧
    (∃ (ch : Nat) (s : State), s.engineAlive = true ∧ retirable.contains ch = true ∧ s.isRetired ch = false) ∧
    (∃ (ch : Nat) (s : State), s.engineAlive = true ∧ retirable.contains ch = true ∧ s.isRetired ch = false ∧ tabGet
      0 s.flw.testFails ch = 0) ∧
    (∃ (ch : Nat) (s : State), s.engineAlive = true ∧ retirable.contains ch = true ∧ s.isRetired ch = false ∧ tabGet
      0 s.flw.testFails ch ≠ 0) ∧
    (∃ (s : State), s.engineAlive = true) ∧
    (∃ (s : State), s.engineAlive = false) :=
  ⟨⟨1024, (wS modeNative []), by decide +kernel⟩,
   ⟨0, wItem,
     ({ (wS modeNative [((FCTX_STALE_ACT 0), 0), (FCTX_STATUS 0, flowStale)]) with flw.last := [(0, wItem)] } :
     State), by decide +kernel⟩,
   ⟨0, (wS modeNative [((FCTX_STALE_ACT 0), 1), ((FCTX_RATE 0), 0), ((FCTX_DST_CH 0), chGpio), (PAIR_STATUS_PENDING,
     0), (FCTX_STATUS 0, flowStale)]), by decide +kernel⟩,
   ⟨0x20, (wS modeNative []), by decide +kernel⟩,
   ⟨0x20, (wS modeNative []), by decide +kernel⟩,
   ⟨0x20, ({ (wS modeNative []) with flw.testFails := [(0x20, 1)] } : State), by decide +kernel⟩,
   ⟨(wS modeNative []), by decide +kernel⟩,
   ⟨(wS modeSleep []), by decide +kernel⟩⟩

theorem test_witness_BridgeRequestsLeave :
    (∃ (op p : Nat) (req : Requester) (s : State), op ∈ [opWr, opRd, opUnlock] ∧ p < 8 ∧ (req ≠ .pf0 ∨ s.pf0ReadOnly
      = true)) ∧
    (∃ (op p : Nat) (s : State), op ∈ [opWr, opRd, opUnlock] ∧ p < 8 ∧ s.pf0ReadOnly = false ∧ s.get
      (BRG_AP_STATUS_STATUS p) = brgRetry) ∧
    (∃ (op p v st : Nat) (s : State), op ∈ [opWr, opRd, opUnlock] ∧ p < 8 ∧ s.pf0ReadOnly = false ∧ s.get
      (BRG_AP_STATUS_STATUS p) ≠ brgRetry ∧ (s.apReady p v).refuseRequest (s.apCall p v op) = some st) ∧
    (∃ (op p v : Nat) (s : State), op ∈ [opWr, opRd, opUnlock] ∧ p < 8 ∧ s.pf0ReadOnly = false ∧ s.get
      (BRG_AP_STATUS_STATUS p) ≠ brgRetry ∧ (s.apReady p v).refuseRequest (s.apCall p v op) = none ∧ s.winState (bits
      v 8 5) = winResolving) ∧
    (∃ (p v : Nat) (s : State), p < 8 ∧ s.pf0ReadOnly = false ∧ s.get (BRG_AP_STATUS_STATUS p) ≠ brgRetry ∧
      (s.apReady p v).refuseRequest (s.apCall p v opWr) = none ∧ s.winState (bits v 8 5) ≠ winResolving ∧ s.routable
      (s.winAddr (bits v 8 5)) = true ∧ s.brg.posted.length < 256) ∧
    (∃ (p v : Nat) (s : State), p < 8 ∧ s.pf0ReadOnly = false ∧ s.get (BRG_AP_STATUS_STATUS p) ≠ brgRetry ∧
      (s.apReady p v).refuseRequest (s.apCall p v opWr) = none ∧ s.winState (bits v 8 5) ≠ winResolving ∧ s.routable
      (s.winAddr (bits v 8 5)) = true ∧ 256 ≤ s.brg.posted.length) ∧
    (∃ (p v : Nat) (s : State), p < 8 ∧ s.pf0ReadOnly = false ∧ s.get (BRG_AP_STATUS_STATUS p) ≠ brgRetry ∧
      (s.apReady p v).refuseRequest (s.apCall p v opRd) = none ∧ s.winState (bits v 8 5) ≠ winResolving ∧ s.routable
      (s.winAddr (bits v 8 5)) = true) ∧
    (∃ (p v : Nat) (s : State), p < 8 ∧ s.pf0ReadOnly = false ∧ s.get (BRG_AP_STATUS_STATUS p) ≠ brgRetry ∧
      (s.apReady p v).refuseRequest (s.apCall p v opUnlock) = none ∧ s.winState (bits v 8 5) ≠ winResolving ∧
      s.routable (s.winAddr (bits v 8 5)) = true) ∧
    (∃ (p : Nat), p < 8) ∧
    (∃ (p v rse : Nat) (lock : Bool) (s : State), tabFind p s.brg.arrived = some (v, rse, lock)) ∧
    (∃ (s : State), s.brg.waiting = []) ∧
    (∃ (r : BrgReq) (s : State), s.brg.waiting = [r] ∧ (s.brg.posted.filter (fun r => !(r.left == 0))).length < 256) ∧
    (∃ (path : Path) (arg w : Nat) (s : State), s.accepts cmdWinEnable path arg ∧ arg % 65536 = w ∧ s.get
      (BRG_WIN_CTRL_BIND w) = 0) ∧
    (∃ (path : Path) (arg w : Nat) (s : State), s.accepts cmdWinEnable path arg ∧ arg % 65536 = w ∧ s.get
      (BRG_WIN_CTRL_BIND w) ≠ 0 ∧ s.uidPosition (s.get (BRG_WIN_UID_UID w)) = none) ∧
    (∃ (path : Path) (arg w q : Nat) (s : State), s.accepts cmdWinEnable path arg ∧ arg % 65536 = w ∧ s.get
      (BRG_WIN_CTRL_BIND w) ≠ 0 ∧ s.uidPosition (s.get (BRG_WIN_UID_UID w)) = some q ∧ s.brg.parked = []) ∧
    (∃ (path : Path) (arg : Nat) (s : State), s.accepts cmdWinDisable path arg) :=
  ⟨⟨opWr, 0, (Requester.pf1), (wS modeNative []), by decide +kernel⟩,
   ⟨opWr, 0, (wS modeNative [((BRG_AP_STATUS_STATUS 0), brgRetry)]), by decide +kernel⟩,
   ⟨opWr, 0, 0, brgBadArg, (wS modeNative []), by decide +kernel⟩,
   ⟨opWr, 0, 0, (wS modeNative [(BRG_WIN_STATUS_STATE 0, winResolving)]), by decide +kernel⟩,
   ⟨0, 0, (wS modeNative [(BRG_WIN_STATUS_STATE 0, winActive)]), by decide +kernel⟩,
   ⟨0, 0, ({ (wS modeNative [(BRG_WIN_STATUS_STATE 0, winActive)]) with brg.posted := List.replicate 256 wReq } :
     State), by decide +kernel⟩,
   ⟨0, 0, (wS modeNative [(BRG_WIN_STATUS_STATE 0, winActive)]), by decide +kernel⟩,
   ⟨0, 0, (wS modeNative [(BRG_WIN_STATUS_STATE 0, winActive)]), by decide +kernel⟩,
   ⟨0, by decide +kernel⟩,
   ⟨0, 0, 0, false, ({ (wS modeNative []) with brg.arrived := [(0, (0, 0, false))] } : State), by decide +kernel⟩,
   ⟨({ (wS modeNative []) with brg.waiting := [] } : State), by decide +kernel⟩,
   ⟨wReq, ({ (wS modeNative []) with brg.waiting := [wReq] } : State), by decide +kernel⟩,
   ⟨(.reg .pf0), 0, 0, (wS modeNative [((BRG_WIN_CTRL_BIND 0), 0)]), by decide +kernel⟩,
   ⟨(.reg .pf0), 0, 0, (wS modeNative [(BRG_WIN_CTRL_BIND 0, 1), (BRG_WIN_UID_UID 0, 7)]), by decide +kernel⟩,
   ⟨(.reg .pf0), 0, 0, 1,
     ({ (wS modeNative [(BRG_WIN_CTRL_BIND 0, 1), (BRG_WIN_UID_UID 0, 7)]) with brg.parked := [], ina.uids := [(1, 7)] }
     : State), by decide +kernel⟩,
   ⟨(.reg .pf0), 0, (wS modeNative []), by decide +kernel⟩⟩

theorem test_witness_BridgeTarget :
    (∃ (op : Nat) (f : MsgFrame), op ∈ [opWr, opRd, opUnlock, opSbPoll] ∧ (f.type ≠ 5 ∨ brgOp f ≠ op)) ∧
    (∃ (op : Nat) (f : MsgFrame) (s : State), op ∈ [opWr, opRd, opUnlock, opSbPoll] ∧ f.type = 5 ∧ brgOp f = op ∧
      s.running = false) ∧
    (∃ (op : Nat) (f : MsgFrame) (o : BrgOrder) (s : State), op ∈ [opWr, opRd] ∧ f.type = 5 ∧ brgOp f = op ∧
      s.running = true ∧ s.orderOf f = some o ∧ (subMod 16 (brgBseq f) o.last = 0 ∨ 2 ^ 15 ≤ subMod 16 (brgBseq f)
      o.last)) ∧
    (∃ (op : Nat) (f : MsgFrame) (o : BrgOrder) (s : State), op ∈ [opWr, opRd] ∧ f.type = 5 ∧ brgOp f = op ∧
      s.running = true ∧ s.brg.lock = none ∧ s.orderOf f = some o ∧ 2 ≤ subMod 16 (brgBseq f) o.last ∧ subMod 16
      (brgBseq f) o.last ≤ 32 ∧ s.brg.held.length < 32) ∧
    (∃ (op : Nat) (f : MsgFrame) (s : State), op ∈ [opWr, opRd] ∧ f.type = 5 ∧ brgOp f = op ∧ s.running = true ∧
      s.brg.lock = none ∧ brgLockFlag f = false ∧ brgInLock f = false ∧ (s.orderOf f = none ∨ ∃ o, s.orderOf f = some
      o ∧ subMod 16 (brgBseq f) o.last = 1) ∧ s.targetCheck f ≠ brgOk) ∧
    (∃ (op : Nat) (f : MsgFrame) (s : State), op ∈ [opWr, opRd] ∧ f.type = 5 ∧ brgOp f = op ∧ s.running = true ∧
      s.brg.lock = none ∧ brgLockFlag f = false ∧ brgInLock f = false ∧ brgUnlockFlag f = false ∧ (s.orderOf f = none
      ∨ ∃ o, s.orderOf f = some o ∧ subMod 16 (brgBseq f) o.last = 1) ∧ s.targetCheck f = brgOk) ∧
    (∃ (f : MsgFrame) (s : State), brgTarget f ≠ 0 ∧ s.mayRequest 1 = true) ∧
    (∃ (f : MsgFrame) (s : State), brgTarget f ≠ 0 ∧ s.mayRequest 1 = false) ∧
    (∃ (f : MsgFrame) (s : State), (addrLocal f.dst ∨ addrGroup f.dst = true ∨ s.legacyAt (addrPos f.dst) = none) ∧
      brgTarget f = 0 ∧ (s.get BRG_CFG_PF0_TGT = 0 ∨ s.get BRG_CFG_PF0_TGT = 3 ∨ (s.get BRG_CFG_PF0_TGT = 1 ∧ brgOp f
      = opWr))) ∧
    (∃ (op : Nat) (f : MsgFrame) (s : State), op ∈ [opWr, opRd] ∧ f.type = 5 ∧ brgOp f = op ∧ s.running = true ∧
      s.brg.lock = none ∧ brgLockFlag f = true ∧ brgUnlockFlag f = false ∧ brgInLock f = false ∧ s.wouldGrant f.src =
      true ∧ brgTarget f ≠ 0 ∧ s.mayRequest 1 = true ∧ s.orderOf f = none ∧ s.targetCheck f = brgOk) ∧
    (∃ (op : Nat) (f g : MsgFrame) (t : Nat) (s : State), op ∈ [opWr, opRd] ∧ f.type = 5 ∧ brgOp f = op ∧ s.running =
      true ∧ s.brg.lock = some (g, t) ∧ g.src ≠ f.src ∧ brgLockFlag f = true ∧ s.orderOf f = none) ∧
    (∃ (f : MsgFrame) (s : State), f.type = 5 ∧ brgOp f = opUnlock ∧ s.running = true) ∧
    (∃ (f : MsgFrame) (s : State), f.type = 5 ∧ brgOp f = opSbPoll ∧ s.running = true) ∧
    (∃ (s : State), s.brg.lock = none) ∧
    (∃ (f : MsgFrame) (t : Nat) (s : State), s.brg.lock = some (f, t)) ∧
    (∃ (s : State), s.brg.held = []) ∧
    (∃ (origin win : Nat) (h : BrgHeld) (s : State), s.brg.held = [h] ∧ h.gap = true ∧ h.frame.src = origin ∧ brgWin
      h.frame = win) :=
  ⟨⟨opWr, wPay 4 [], by decide +kernel⟩,
   ⟨opWr, wPay 5 [opWr, 0, 0, 0, 1], (wS modeSafe []), by decide +kernel⟩,
   ⟨opWr, wPay 5 [opWr, 0, 0, 0, 1], { wOrder with origin := 2, last := 1 },
     ({ (wS modeNative []) with brg.orders := [{ wOrder with origin := 2, last := 1 }] } : State), by decide +kernel⟩,
   ⟨opWr, wPay 5 [opWr, 0, 0, 0, 2], { wOrder with origin := 2, last := 0 },
     ({ (wS modeNative []) with brg.lock := none, brg.orders := [{ wOrder with origin := 2, last := 0 }] } : State),
     by decide +kernel⟩,
   ⟨opWr, wPay 5 [opWr, 0, 0, 0, 1], ({ (wS modeNative []) with brg.lock := none } : State), by decide +kernel⟩,
   ⟨opWr, wPay 5 [opWr, 0, 2, 0, 1], ({ (wS modeNative [(BRG_CFG_PF0_TGT, 2)]) with brg.lock := none } : State),
     by decide +kernel⟩,
   ⟨wPay 5 [opWr, 0, 0x10, 0, 1], (wS modeNative [(HRG_STATUS_BME1, 1)]), by decide +kernel⟩,
   ⟨wPay 5 [opWr, 0, 0x10, 0, 1], (wS modeNative []), by decide +kernel⟩,
   ⟨wPay 5 [opWr, 0, 0, 0, 1], (wS modeNative [(BRG_CFG_PF0_TGT, 0)]), by decide +kernel⟩,
   ⟨opWr, wPay 5 [opWr, 1, 0x12, 0, 1],
     ({ (wS modeNative [(HRG_STATUS_BME1, 1), (BRG_EXP_CTRL_EN 0, 1), (BRG_EXP_CTRL_SIZE_EXP 0, 12), (BRG_EXP_CTRL_WR_OK 0, 1), (BRG_EXP_CTRL_LOCK_OK 0, 1), (BRG_EXP_CTRL_SCOPE 0, 0)]) with brg.lock := none }
     : State), by decide +kernel⟩,
   ⟨opWr, wPay 5 [opWr, 1, 0, 0, 1], { wFrame with src := 3 }, 0,
     ({ (wS modeNative []) with brg.lock := some ({ wFrame with src := 3 }, 0) } : State), by decide +kernel⟩,
   ⟨wPay 5 [opUnlock, 0, 0, 0, 1], (wS modeNative []), by decide +kernel⟩,
   ⟨wPay 5 [opSbPoll, 0, 0, 0, 1], (wS modeNative []), by decide +kernel⟩,
   ⟨({ (wS modeNative []) with brg.lock := none } : State), by decide +kernel⟩,
   ⟨wPay 5 [opWr, 0, 0, 0, 1], 0, ({ (wS modeNative []) with brg.lock := some ((wPay 5 [opWr, 0, 0, 0, 1]), 0) } :
     State), by decide +kernel⟩,
   ⟨({ (wS modeNative []) with brg.held := [] } : State), by decide +kernel⟩,
   ⟨2, 0, (⟨wFrame, true⟩ : BrgHeld), ({ (wS modeNative []) with brg.held := [(⟨wFrame, true⟩ : BrgHeld)] } :
     State), by decide +kernel⟩⟩

theorem test_witness_BridgeOrigin :
    (∃ (f : MsgFrame) (s : State), f.type = 5 ∧ brgOp f = opRdData ∧ s.running = true ∧ s.openRequest f = none) ∧
    (∃ (f : MsgFrame) (r : BrgReq) (s : State), f.type = 5 ∧ brgOp f = opRdData ∧ s.running = true ∧ s.openRequest f
      = some r ∧ r.op = opRd ∧ r.who < 8 ∧ r.lock = false) ∧
    (∃ (f : MsgFrame) (r : BrgReq) (s : State), f.type = 5 ∧ brgOp f = opErr ∧ s.running = true ∧ s.openRequest f =
      some r ∧ r.op = opRd) ∧
    (∃ (f : MsgFrame) (s : State), f.type = 5 ∧ brgOp f = opErr ∧ s.running = true ∧ s.openRequest f = none) ∧
    (∃ (f : MsgFrame) (r : BrgReq) (s : State), f.type = 5 ∧ brgOp f = opLockRetry ∧ s.running = true ∧ s.openRequest
      f = some r ∧ r.lock = true ∧ r.tries + 1 < s.lockTries) ∧
    (∃ (f : MsgFrame) (r : BrgReq) (s : State), f.type = 5 ∧ brgOp f = opLockRetry ∧ s.running = true ∧ s.openRequest
      f = some r ∧ r.lock = true ∧ s.lockTries ≤ r.tries + 1 ∧ r.op = opRd ∧ r.who < 8) ∧
    (∃ (f : MsgFrame) (s : State), f.type = 5 ∧ brgOp f = opLockFree ∧ s.running = true) ∧
    (∃ (r : BrgReq) (s : State), (r.lock = false ∨ r.tries = 0 ∨ s.get BRG_STATUS_LOCK_OUT ≠ 1)) ∧
    (∃ (f : MsgFrame) (s : State), f.type = 5 ∧ brgOp f = opSbData ∧ s.running = true) ∧
    (∃ (f : MsgFrame) (s : State), f.type = 6 ∧ brgOp f = opFault ∧ s.running = true ∧ tabGet 0 s.brg.sources (65536
      * brgWin f + brgBseq f) < 140 ∧ brgStatus f ≠ brgLockLost) ∧
    (∃ (f : MsgFrame) (s : State), f.type = 6 ∧ brgOp f = opFault ∧ s.running = true ∧ tabGet 0 s.brg.sources (65536
      * brgWin f + brgBseq f) < 140 ∧ brgStatus f = brgLockLost) ∧
    (∃ (who w b : Nat) (r : BrgReq) (s : State), s.requestOf who w b = some r ∧ r.op = opRd) ∧
    (∃ (who w b : Nat) (s : State), s.requestOf who w b = none) ∧
    (∃ (r : BrgReq), r.who < 8 ∧ r.lock = false) ∧
    (∃ (p v rse : Nat) (s : State), p < 8 ∧ tabFind p s.brg.arrived = some (v, rse, false)) ∧
    (∃ (p : Nat) (s : State), p < 8 ∧ tabFind p s.brg.arrived = none) :=
  ⟨⟨wPay 5 [opRdData, 0, 0, 0, 1], (wS modeNative []), by decide +kernel⟩,
   ⟨wPay 5 [opRdData, 0, 0, 0, 1], { wReq with op := opRd },
     ({ (wS modeNative [(BRG_CFG_LOCK_TRIES, 4)]) with brg.reads := [{ wReq with op := opRd }] } : State),
     by decide +kernel⟩,
   ⟨wPay 5 [opErr, 0, 0, 0, 1], { wReq with op := opRd },
     ({ (wS modeNative [(BRG_CFG_LOCK_TRIES, 4)]) with brg.reads := [{ wReq with op := opRd }] } : State),
     by decide +kernel⟩,
   ⟨wPay 5 [opErr, 0, 0, 0, 1], (wS modeNative []), by decide +kernel⟩,
   ⟨wPay 5 [opLockRetry, 0, 0, 0, 1], { wReq with lock := true },
     ({ (wS modeNative [(BRG_CFG_LOCK_TRIES, 4)]) with brg.reads := [{ wReq with lock := true }] } : State),
     by decide +kernel⟩,
   ⟨wPay 5 [opLockRetry, 0, 0, 0, 1], { wReq with op := opRd, lock := true, tries := 9 },
     ({ (wS modeNative [(BRG_CFG_LOCK_TRIES, 4)]) with brg.reads := [{ wReq with op := opRd, lock := true, tries := 9 }] }
     : State), by decide +kernel⟩,
   ⟨wPay 5 [opLockFree, 0, 0, 0, 1], (wS modeNative []), by decide +kernel⟩,
   ⟨{ wReq with lock := false }, (wS modeNative []), by decide +kernel⟩,
   ⟨wPay 5 [opSbData, 0, 0, 0, 1], (wS modeNative []), by decide +kernel⟩,
   ⟨wPay 6 [opFault, 0, 0, 0, 1], (wS modeNative []), by decide +kernel⟩,
   ⟨wPay 6 ([opFault] ++ List.replicate 23 0 ++ [8]), (wS modeNative []), by decide +kernel⟩,
   ⟨0, 0, 1, { wReq with op := opRd }, ({ (wS modeNative []) with brg.reads := [{ wReq with op := opRd }] } :
     State), by decide +kernel⟩,
   ⟨0, 0, 0, (wS modeNative []), by decide +kernel⟩,
   ⟨{ wReq with lock := false }, by decide +kernel⟩,
   ⟨0, 0, 0, ({ (wS modeNative []) with brg.arrived := [(0, (0, 0, false))] } : State), by decide +kernel⟩,
   ⟨0, (wS modeNative []), by decide +kernel⟩⟩

theorem test_witness_RingsRunAndPoll :
    (∃ (req : Requester) (k : Nat) (s : State), (132 ≤ k ∨ s.ownsGroup req (ringGroup k) = false)) ∧
    (∃ (req : Requester) (k v : Nat) (s : State), k < 132 ∧ s.ownsGroup req (ringGroup k) = true ∧ s.get
      (HRG_RING_CTRL_EN k) = 0 ∧ s.get (HRG_RING_STATUS_STATE k) = 0 ∧ s.get (HRG_GRP_CFG_EN (ringGroup k)) = 1 ∧
      s.get (HRG_RING_BASE_BASE k) % Nat.min (32 * 2 ^ bits v 26 4) 4096 = 0 ∧ 4 ≤ bits v 26 4 ∧ bits v 26 4 ≤ 12) ∧
    (∃ (req : Requester) (k : Nat) (s : State), k < 132 ∧ s.ownsGroup req (ringGroup k) = true ∧ s.get
      (HRG_RING_CTRL_EN k) = 0 ∧ s.get (HRG_RING_STATUS_STATE k) = 0) ∧
    (∃ (req : Requester) (k : Nat) (s : State), k < 132 ∧ s.ownsGroup req (ringGroup k) = true ∧ s.get
      (HRG_RING_CTRL_EN k) = 1 ∧ s.get (HRG_RING_STATUS_STATE k) ≠ 0) ∧
    (∃ (k : Nat) (s : State), (132 ≤ k ∨ s.get (HRG_RING_STATUS_STATE k) ≠ 2 ∨ s.ringIdle k = false)) ∧
    (∃ (k : Nat) (s : State), k < 132 ∧ s.get (HRG_RING_STATUS_STATE k) = 2 ∧ s.ringIdle k = true ∧ s.flag
      (HRG_RING_CTRL_EN k) = false) ∧
    (∃ (g : Nat) (s : State), (4 ≤ g ∨ s.ringsPolled = false ∨ s.get (HRG_GRP_CFG_EN g) = 0 ∨ (groupRings g).any
      s.ringRuns = false ∨ s.mayRequest (s.groupOwner g) = false ∨ (s.fetch g).isSome = true)) ∧
    (∃ (g : Nat) (s : State), g < 4 ∧ s.ringsPolled = true ∧ s.get (HRG_GRP_CFG_EN g) = 1 ∧ (groupRings g).any
      s.ringRuns = true ∧ s.mayRequest (s.groupOwner g) = true ∧ s.fetch g = none) ∧
    (∃ (g : Nat) (s : State), g < 4 ∧ s.ringsPolled = true ∧ s.get (HRG_GRP_CFG_EN g) = 1 ∧ (groupRings g).any
      s.ringRuns = true ∧ s.mayRequest (s.groupOwner g) = true ∧ s.fetch g = none ∧ s.hrg.fetching.length = 4) ∧
    (∃ (g k : Nat) (d : Descriptor) (s : State), g < 4 ∧ s.fetch g = some [(k, [some d])] ∧ s.ringRuns k = true) ∧
    (∃ (g k : Nat) (s : State), g < 4 ∧ k < 128 ∧ s.fetch g = some [(k, [none])] ∧ s.ringRuns k = true) :=
  ⟨⟨.pf0, 132, (wS modeNative []), by decide +kernel⟩,
   ⟨.pf0, 0, 0x10000000, (wS modeNative [((HRG_RING_CTRL_EN 0), 0), ((HRG_RING_STATUS_STATE 0), 0), ((HRG_GRP_CFG_EN
     (ringGroup 0)), 1)]), by decide +kernel⟩,
   ⟨.pf0, 0, (wS modeNative [((HRG_RING_CTRL_EN 0), 0), ((HRG_RING_STATUS_STATE 0), 0)]), by decide +kernel⟩,
   ⟨.pf0, 0, (wS modeNative [((HRG_RING_CTRL_EN 0), 1), (HRG_RING_STATUS_STATE 0, 1)]), by decide +kernel⟩,
   ⟨132, (wS modeNative []), by decide +kernel⟩,
   ⟨0, (wS modeNative [((HRG_RING_STATUS_STATE 0), 2), ((HRG_RING_CTRL_EN 0), 0)]), by decide +kernel⟩,
   ⟨4, (wS modeNative []), by decide +kernel⟩,
   ⟨0, (wS modeNative [((HRG_GRP_CFG_EN 0), 1), (HRG_RING_STATUS_STATE 0, 1)]), by decide +kernel⟩,
   ⟨0, (wS modeNative [((HRG_GRP_CFG_EN 0), 1), (HRG_RING_STATUS_STATE 0, 1)]), by decide +kernel⟩,
   ⟨0, 0, wData,
     ({ (wS modeNative [(HRG_RING_STATUS_STATE 0, 1)]) with hrg.fetching := [some [(0, [some wData])], none, none, none] }
     : State), by decide +kernel⟩,
   ⟨0, 0,
     ({ (wS modeNative [(HRG_RING_STATUS_STATE 0, 1)]) with hrg.fetching := [some [(0, [none])], none, none, none] } :
     State), by decide +kernel⟩⟩

theorem test_witness_TransmitDescriptors :
    (∃ (kind k : Nat) (s : State), kind ∈ [1, 2, 3] ∧ (64 ≤ k ∨ s.ringsPolled = false ∨ (s.ring k).fetched = [])) ∧
    (∃ (kind k : Nat) (d : Descriptor) (t : List Descriptor) (s : State), kind ∈ [1, 2, 3] ∧ k < 64 ∧ s.ringsPolled =
      true ∧ (s.ring k).fetched = d :: t ∧ descKind d = kind ∧ s.descStopped k d = true) ∧
    (∃ (kind k : Nat) (d : Descriptor) (t : List Descriptor) (s : State), kind ∈ [1, 2, 3] ∧ k < 64 ∧ s.ringsPolled =
      true ∧ (s.ring k).fetched = d :: t ∧ descKind d = kind ∧ s.descStopped k d = false ∧ descOk d = false) ∧
    (∃ (k : Nat) (d : Descriptor) (t : List Descriptor) (s : State), k < 64 ∧ s.ringsPolled = true ∧ (s.ring
      k).fetched = d :: t ∧ (descKind d = 0 ∨ 3 < descKind d)) ∧
    (∃ (k : Nat) (d : Descriptor) (t : List Descriptor) (s : State), k < 64 ∧ s.ringsPolled = true ∧ (s.ring
      k).fetched = d :: t ∧ descKind d = 1 ∧ s.descStopped k d = false ∧ descOk d = true ∧ d.buffer = none) ∧
    (∃ (k : Nat) (d : Descriptor) (b : Bytes) (t : List Descriptor) (s : State), k < 64 ∧ s.ringsPolled = true ∧
      (s.ring k).fetched = d :: t ∧ descKind d = 1 ∧ s.descStopped k d = false ∧ descOk d = true ∧ d.buffer = some b ∧
      s.matching (s.descItem k d b) = []) ∧
    (∃ (k : Nat) (d : Descriptor) (b : Bytes) (t : List Descriptor) (s : State), k < 64 ∧ s.ringsPolled = true ∧
      (s.ring k).fetched = d :: t ∧ descKind d = 1 ∧ s.descStopped k d = false ∧ descOk d = true ∧ d.buffer = some b ∧
      s.matching (s.descItem k d b) ≠ []) ∧
    (∃ (k : Nat) (d : Descriptor) (t : List Descriptor) (s : State), k < 64 ∧ s.ringsPolled = true ∧ (s.ring
      k).fetched = d :: t ∧ descKind d = 2 ∧ s.descStopped k d = false ∧ descOk d = true) ∧
    (∃ (k : Nat) (d : Descriptor) (t : List Descriptor) (s : State), k < 64 ∧ s.ringsPolled = true ∧ (s.ring
      k).fetched = d :: t ∧ descKind d = 3 ∧ s.descStopped k d = false ∧ descOk d = true ∧ (bridgeRequest k d).op = 0) ∧
    (∃ (k : Nat) (d : Descriptor) (t : List Descriptor) (s : State), k < 64 ∧ s.ringsPolled = true ∧ (s.ring
      k).fetched = d :: t ∧ descKind d = 3 ∧ s.descStopped k d = false ∧ descOk d = true ∧ (bridgeRequest k d).op ≠ 0
      ∧ (s.running = false ∨ (bridgeRequest k d).op ≠ opWr ∨ s.brg.posted.length < 256)) ∧
    (∃ (k : Nat) (d : Descriptor) (t : List Descriptor) (s : State), k < 64 ∧ (s.ring k).fetched = d :: t ∧ (s.ring
      k).silent = 0) :=
  ⟨⟨1, 64, (wS modeNative []), by decide +kernel⟩,
   ⟨1, 0, wData, ([] : List Descriptor),
     ({ (wS modeNative [(HRG_RING_STATUS_STATE 0, 2)]) with hrg.rings := [(0, { fetched := wData :: (([] : List Descriptor)) })] }
     : State), by decide +kernel⟩,
   ⟨1, 0, (⟨wB [0, 0, 0, 0, 0, 0, 0, 0, 4, 0, 1, 4], none⟩ : Descriptor), ([] : List Descriptor),
     ({ (wS modeNative [(HRG_RING_STATUS_STATE 0, 1)]) with hrg.rings := [(0, { fetched := ((⟨wB [0, 0, 0, 0, 0, 0, 0, 0, 4, 0, 1, 4], none⟩ : Descriptor)) :: (([] : List Descriptor)) })] }
     : State), by decide +kernel⟩,
   ⟨0, wDesc, ([] : List Descriptor),
     ({ (wS modeNative []) with hrg.rings := [(0, { fetched := wDesc :: (([] : List Descriptor)) })] } : State),
     by decide +kernel⟩,
   ⟨0, { wData with buffer := none }, ([] : List Descriptor),
     ({ (wS modeNative [(HRG_RING_STATUS_STATE 0, 1)]) with hrg.rings := [(0, { fetched := ({ wData with buffer := none }) :: (([] : List Descriptor)) })] }
     : State), by decide +kernel⟩,
   ⟨0, wData, (wB [1, 2, 3, 4]), ([] : List Descriptor),
     ({ (wS modeNative [(HRG_RING_STATUS_STATE 0, 1)]) with hrg.rings := [(0, { fetched := wData :: (([] : List Descriptor)) })] }
     : State), by decide +kernel⟩,
   ⟨0, wData, (wB [1, 2, 3, 4]), ([] : List Descriptor),
     ({ (wS modeNative [(HRG_RING_STATUS_STATE 0, 1), (FCTX_EN 0, 1), (FCTX_SRC_CH 0, 0x40)]) with hrg.rings := [(0, { fetched := wData :: (([] : List Descriptor)) })] }
     : State), by decide +kernel⟩,
   ⟨0, wCanDesc, ([] : List Descriptor),
     ({ (wS modeNative [(HRG_RING_STATUS_STATE 0, 1)]) with hrg.rings := [(0, { fetched := wCanDesc :: (([] : List Descriptor)) })] }
     : State), by decide +kernel⟩,
   ⟨0, (⟨wB [0, 0, 0, 0, 0, 0, 0, 0, 0, 0, 3], none⟩ : Descriptor), ([] : List Descriptor),
     ({ (wS modeNative [(HRG_RING_STATUS_STATE 0, 1)]) with hrg.rings := [(0, { fetched := ((⟨wB [0, 0, 0, 0, 0, 0, 0, 0, 0, 0, 3], none⟩ : Descriptor)) :: (([] : List Descriptor)) })] }
     : State), by decide +kernel⟩,
   ⟨0, wReqDesc, ([] : List Descriptor),
     ({ (wS modeNative [(HRG_RING_STATUS_STATE 0, 1)]) with hrg.rings := [(0, { fetched := wReqDesc :: (([] : List Descriptor)) })] }
     : State), by decide +kernel⟩,
   ⟨0, wData, ([] : List Descriptor),
     ({ (wS modeNative []) with hrg.rings := [(0, { fetched := wData :: (([] : List Descriptor)), silent := 0 })] } :
     State), by decide +kernel⟩⟩

theorem test_witness_ReceiveEventsAndInterrupts :
    (∃ (k : Nat) (s : State), (s.ring k).fetched = []) ∧
    (∃ (k : Nat) (item : Bytes) (d : Descriptor) (t : List Descriptor) (s : State), 64 ≤ k ∧ k < 128 ∧ (s.ring
      k).fetched = d :: t ∧ s.receiveFilled = true ∧ (s.ring k).silent = 0 ∧ item.length ≤ ofLe (slice 8 2 d.bytes) ∧
      s.mayRequest (s.groupOwner (ringGroup k)) = true) ∧
    (∃ (g : Nat), 4 ≤ g) ∧
    (∃ (g : Nat) (s : State), g < 4 ∧ s.eventsFilled = true ∧ s.ringRuns (128 + g) = true ∧ (s.ring (128 +
      g)).waiting = [] ∧ (s.ring (128 + g)).evLost = 0 ∧ s.evRoom g = true) ∧
    (∃ (g : Nat) (s : State), g < 4 ∧ s.eventsFilled = true ∧ s.ringRuns (128 + g) = true ∧ s.evRoom g = false ∧
      (s.ring (128 + g)).waiting.length < 16) ∧
    (∃ (g : Nat) (s : State), g < 4 ∧ s.eventsFilled = true ∧ s.ringRuns (128 + g) = true ∧ 16 ≤ (s.ring (128 +
      g)).waiting.length) ∧
    (∃ (g : Nat), g < 4) ∧
    (∃ (f v : Nat) (s : State), f < 2 ∧ v < 64 ∧ s.flag (MSIX_PBA f v) = true ∧ s.msixOn f = true ∧ s.mayRequest f =
      true) ∧
    (∃ (f v : Nat) (s : State), f < 2 ∧ v < 64 ∧ (s.flag (MSIX_PBA f v) = false ∨ s.msixOn f = false)) ∧
    (∃ (f v : Nat), (2 ≤ f ∨ 64 ≤ v)) :=
  ⟨⟨0, ({ (wS modeNative []) with hrg.rings := [(0, { fetched := [] })] } : State), by decide +kernel⟩,
   ⟨64, ([] : Bytes), wData, ([] : List Descriptor),
     ({ (wS modeNative []) with hrg.rings := [(64, { fetched := wData :: (([] : List Descriptor)), silent := 0 })] } :
     State), by decide +kernel⟩,
   ⟨4, by decide +kernel⟩,
   ⟨0,
     ({ (wS modeNative [(HRG_RING_STATUS_STATE ((128 + 0)), 1), (HRG_RING_CTRL_SIZE_EXP 128, 4)]) with hrg.rings := [(128, { waiting := [], evLost := 0 })] }
     : State), by decide +kernel⟩,
   ⟨0, (wS modeNative [(HRG_RING_STATUS_STATE ((128 + 0)), 1), (HRG_STATUS_LINK_UP, 0)]), by decide +kernel⟩,
   ⟨0,
     ({ (wS modeNative [(HRG_RING_STATUS_STATE ((128 + 0)), 1)]) with hrg.rings := [(128, { waiting := List.replicate 16 [] })] }
     : State), by decide +kernel⟩,
   ⟨0, by decide +kernel⟩,
   ⟨0, 0, (wS modeNative [((MSIX_PBA 0 0), 1)]), by decide +kernel⟩,
   ⟨0, 0, (wS modeNative [((MSIX_PBA 0 0), 0)]), by decide +kernel⟩,
   ⟨2, 0, by decide +kernel⟩⟩

theorem test_witness_EndpointEvents :
    (∃ (s : State), s.flag HRG_STATUS_LINK_UP = false) ∧
    (∃ (s : State), s.flag HRG_STATUS_LINK_UP = true) ∧
    (∃ (f : Nat) (s : State), f < 2 ∧ s.flag HRG_STATUS_LINK_UP = true ∧ (f = 0 ∨ s.mode ≠ modeGtn)) ∧
    (∃ (f : Nat) (s : State), (s.flag HRG_STATUS_LINK_UP = false ∨ 2 ≤ f ∨ (f = 1 ∧ s.mode = modeGtn))) ∧
    (∃ (f : Nat) (s : State), f < s.hrg.d3.length ∧ s.flag HRG_STATUS_LINK_UP = true ∧ s.bme f = true) :=
  ⟨⟨(wS modeNative [(HRG_STATUS_LINK_UP, 0)]), by decide +kernel⟩,
   ⟨(wS modeNative [(HRG_STATUS_LINK_UP, 1)]), by decide +kernel⟩,
   ⟨0, (wS modeNative [(HRG_STATUS_LINK_UP, 1)]), by decide +kernel⟩,
   ⟨0, (wS modeNative [(HRG_STATUS_LINK_UP, 0)]), by decide +kernel⟩,
   ⟨0, (wS modeNative [(HRG_STATUS_LINK_UP, 1)]), by decide +kernel⟩⟩

theorem test_witness_LegacyBus :
    (∃ (s : State), s.ghAnswers = false) ∧
    (∃ (s : State), s.ghAnswers = true) ∧
    (∃ (s : State), s.mode = modeBoot ∧ s.ghHeld = false) ∧
    (∃ (s : State), s.mode = modeBoot ∧ s.ghHeld = true) ∧
    (∃ (s : State), s.gtn.strobe = none) ∧
    (∃ (a : Nat) (s : State), s.mode = modeBoot ∧ a < 0x800 ∧ s.gtn.strobe = some (false, a, 0)) ∧
    (∃ (a : Nat) (s : State), s.mode = modeSafe ∧ s.get GLB_MODE_PREV_MODE = modeGtn ∧ a < 0x800) ∧
    (∃ (a : Nat) (s : State), s.mode = modeGtn ∧ 0xC0 ≤ a ∧ a < 0x800) ∧
    (∃ (a : Nat) (s : State), s.mode = modeGtn ∧ a < 0xC0 ∧ a % 2 = 0) ∧
    (∃ (a h l : Nat) (s : State), s.mode = modeGtn ∧ a < 0xC0 ∧ a % 2 = 1 ∧ tabFind (a / 2) s.gtn.latched = some (h,
      l)) ∧
    (∃ (s : State), s.mode = modeGtn ∧ tabFind 2 s.gtn.latched = none) ∧
    (∃ (h l : Nat) (s : State), s.mode = modeGtn ∧ tabFind 2 s.gtn.latched = some (h, l)) ∧
    (∃ (i : Nat) (s : State), s.mode = modeGtn ∧ tabFind 5 s.gtn.latched = none ∧ s.irqTop = some i) ∧
    (∃ (s : State), s.mode = modeGtn ∧ tabFind 5 s.gtn.latched = none ∧ s.irqTop = none) ∧
    (∃ (s : State), s.mode = modeGtn) :=
  ⟨⟨(wS modeNative []), by decide +kernel⟩,
   ⟨(wS modeGtn []), by decide +kernel⟩,
   ⟨({ (wS modeBoot []) with uptime := 500000 } : State), by decide +kernel⟩,
   ⟨(wS modeBoot []), by decide +kernel⟩,
   ⟨({ (wS modeNative []) with gtn.strobe := none } : State), by decide +kernel⟩,
   ⟨0, ({ (wS modeBoot []) with gtn.strobe := some (false, 0, 0) } : State), by decide +kernel⟩,
   ⟨0, (wS modeSafe [(GLB_MODE_PREV_MODE, modeGtn)]), by decide +kernel⟩,
   ⟨0xC0, (wS modeGtn []), by decide +kernel⟩,
   ⟨0, (wS modeGtn []), by decide +kernel⟩,
   ⟨1, 0, 0, ({ (wS modeGtn []) with gtn.latched := [(0, (0, 0))] } : State), by decide +kernel⟩,
   ⟨(wS modeGtn []), by decide +kernel⟩,
   ⟨0, 0, ({ (wS modeGtn []) with gtn.latched := [(2, (0, 0))] } : State), by decide +kernel⟩,
   ⟨1, (wS modeGtn [(GTN_ISR_BITS, 2), (GTN_IMR_BITS, 2)]), by decide +kernel⟩,
   ⟨(wS modeGtn []), by decide +kernel⟩,
   ⟨(wS modeGtn []), by decide +kernel⟩⟩

theorem test_witness_LegacyWritesAndCan :
    (∃ (a : Nat) (s : State), s.mode = modeGtn ∧ 0x800 ≤ a) ∧
    (∃ (a : Nat) (s : State), s.mode = modeGtn ∧ 0xC0 ≤ a ∧ a < 0x800) ∧
    (∃ (a : Nat) (s : State), s.mode = modeGtn ∧ a < 0xC0 ∧ a % 2 = 0) ∧
    (∃ (a up : Nat) (s : State), s.mode = modeGtn ∧ a < 0xC0 ∧ a % 2 = 1 ∧ tabFind (a / 2) s.gtn.upper = some up) ∧
    (∃ (l : Nat) (s : State), s.mode = modeGtn ∧ tabFind 1 s.gtn.upper = none ∧ hasBit l 0 = false ∧ hasBit l 1 =
      true ∧ s.flag GTN_CSR_NODE_EN = false) ∧
    (∃ (l : Nat) (s : State), s.mode = modeGtn ∧ tabFind 1 s.gtn.upper = none ∧ hasBit l 0 = false ∧ hasBit l 1 =
      false ∧ s.flag GTN_CSR_NODE_EN = true) ∧
    (∃ (l : Nat) (s : State), s.mode = modeGtn ∧ tabFind 0x50 s.gtn.upper = none ∧ hasBit (l % 65536) 0 = true) ∧
    (∃ (s : State), s.mode = modeGtn ∧ tabFind 0x0D s.gtn.upper = none) ∧
    (∃ (n : Nat) (s : State), s.mode = modeGtn ∧ n < 16 ∧ s.flag (GTN_MBC_OWN n) = true ∧ tabFind (0x10 + n)
      s.gtn.upper = none) ∧
    (∃ (n l : Nat) (s : State), s.mode = modeGtn ∧ n < 16 ∧ s.flag (GTN_MBC_OWN n) = false ∧ tabFind (0x10 + n)
      s.gtn.upper = none ∧ hasBit (l % 65536) 15 = true ∧ bits (l % 65536) 8 4 = mbMsgTx) ∧
    (∃ (x l : Nat) (s : State), s.mode = modeGtn ∧ x < 2 ∧ tabFind (0x20 + 8 * x) s.gtn.upper = none ∧ hasBit (l %
      65536) 0 = true ∧ s.flag (GTN_CCR_RUN x) = false) ∧
    (∃ (x l : Nat) (s : State), s.mode = modeGtn ∧ x < 2 ∧ tabFind (0x20 + 8 * x) s.gtn.upper = none ∧ hasBit (l %
      65536) 0 = false) ∧
    (∃ (s : State), s.mode = modeGtn ∧ s.get GTN_WDR_TIMEOUT ≠ 0) ∧
    (∃ (x : Nat) (s : State), s.isLegacyCan x = false) ∧
    (∃ (x : Nat) (f : CanFrame) (s : State), s.isLegacyCan x = true ∧ (s.canActive x = false ∨ f.fdf = true)) ∧
    (∃ (x : Nat) (f : CanFrame) (s : State), s.isLegacyCan x = true ∧ s.canActive x = true ∧ f.fdf = false ∧
      s.legacyAccepts x f = false) ∧
    (∃ (x : Nat) (f : CanFrame) (s : State), s.isLegacyCan x = true ∧ s.canActive x = true ∧ f.fdf = false ∧
      s.legacyAccepts x f = true ∧ s.ownedMboxes (mbCanRx x) = []) ∧
    (∃ (x n : Nat) (t : List Nat) (f : CanFrame) (s : State), s.isLegacyCan x = true ∧ s.canActive x = true ∧ f.fdf =
      false ∧ s.legacyAccepts x f = true ∧ s.ownedMboxes (mbCanRx x) = n :: t ∧ n < 16) ∧
    (∃ (x n : Nat) (s : State), s.isLegacyCan x = true ∧ (s.chan x).sending = some n ∧ n < 16) ∧
    (∃ (x : Nat) (s : State), s.isLegacyCan x = true ∧ (s.chan x).sending = none) :=
  ⟨⟨0x800, (wS modeGtn []), by decide +kernel⟩,
   ⟨0xC0, (wS modeGtn []), by decide +kernel⟩,
   ⟨0, (wS modeGtn []), by decide +kernel⟩,
   ⟨1, 0, ({ (wS modeGtn []) with gtn.upper := [(0, 0)] } : State), by decide +kernel⟩,
   ⟨2, (wS modeGtn [(GTN_CSR_NODE_EN, 0)]), by decide +kernel⟩,
   ⟨0, (wS modeGtn [(GTN_CSR_NODE_EN, 1)]), by decide +kernel⟩,
   ⟨1, (wS modeGtn []), by decide +kernel⟩,
   ⟨(wS modeGtn []), by decide +kernel⟩,
   ⟨0, (wS modeGtn [((GTN_MBC_OWN 0), 1)]), by decide +kernel⟩,
   ⟨0, 0x8300, (wS modeGtn [((GTN_MBC_OWN 0), 0)]), by decide +kernel⟩,
   ⟨0, 1, (wS modeGtn [((GTN_CCR_RUN 0), 0)]), by decide +kernel⟩,
   ⟨0, 0, (wS modeGtn []), by decide +kernel⟩,
   ⟨(wS modeGtn [(GTN_WDR_TIMEOUT, 1)]), by decide +kernel⟩,
   ⟨0, (wS modeNative []), by decide +kernel⟩,
   ⟨0, wCan, (wS modeGtn [(GTN_CCR_RUN 0, 0)]), by decide +kernel⟩,
   ⟨0, { wCan with fdf := false }, (wS modeGtn [(CAN_STATUS_STATE 0, canRunning), (GTN_CCR_RUN 0, 1), (GTN_CACR_EN 0
     0, 1), (GTN_CACR_IDE 0 0, 1)]), by decide +kernel⟩,
   ⟨0, { wCan with fdf := false }, (wS modeGtn [(CAN_STATUS_STATE 0, canRunning), (GTN_CCR_RUN 0, 1)]),
     by decide +kernel⟩,
   ⟨0, 3, ([] : List Nat), { wCan with fdf := false }, (wS modeGtn [(CAN_STATUS_STATE 0, canRunning), (GTN_CCR_RUN
     0, 1), (GTN_MBC_KIND 3, 6), (GTN_MBC_OWN 3, 1)]), by decide +kernel⟩,
   ⟨0, 3, ({ (wS modeGtn [(GTN_CCR_RUN 0, 1)]) with can := [(0, { sending := some 3 })] } : State),
     by decide +kernel⟩,
   ⟨0, ({ (wS modeGtn [(GTN_CCR_RUN 0, 1)]) with can := [(0, { sending := none })] } : State), by decide +kernel⟩⟩

theorem test_witness_TelegramsHeard :
    (∃ (p ty : Nat) (t : Telegram) (s : State), 1 ≤ ty ∧ ty ≤ 12 ∧ (s.gRuns = false ∨ 4 ≤ p ∨ s.gEnds.contains
      (portEnd p) = false ∨ t.type ≠ ty ∨ tgValid t = false)) ∧
    (∃ (p ty : Nat) (t : Telegram) (s : State), 1 ≤ ty ∧ ty ≤ 12 ∧ s.gRuns = true ∧ p < 4 ∧ s.gEnds.contains (portEnd
      p) = true ∧ t.type = ty ∧ tgValid t = true ∧ (s.gTakesPart = false ∨ s.gln.active (portEnd p) ≠ p % 2)) ∧
    (∃ (p : Nat) (s : State), s.mode = modeGtn ∧ (s.gln.repeating = true ∨ s.flag GTN_CSR_NODE_EN = false) ∧ s.get
      (LN_TRX_STATE (portAcross p)) = trxNormal ∧ s.permission = true) ∧
    (∃ (p : Nat) (s : State), (s.gRuns = false ∨ 4 ≤ p ∨ s.gEnds.contains (portEnd p) = false)) ∧
    (∃ (p : Nat) (s : State), s.gRuns = true ∧ p < 4 ∧ s.gEnds.contains (portEnd p) = true) ∧
    (∃ (e : Nat) (s : State), (s.gRuns = false ∨ s.gEnds.contains e = false ∨ s.gSwMode ≠ 0)) ∧
    (∃ (e : Nat) (s : State), s.gRuns = true ∧ s.gEnds.contains e = true ∧ s.gSwMode = 0 ∧ s.gln.active e ≤ 1) :=
  ⟨⟨0, 1, wTele, (wS modeNative []), by decide +kernel⟩,
   ⟨0, 1, { wTele with type := 1 }, (wS modeGtn [(GTN_CSR_NODE_EN, 0)]), by decide +kernel⟩,
   ⟨0, ({ (wS modeGtn [((LN_TRX_STATE (portAcross 0)), trxNormal)]) with gln.repeating := true } : State),
     by decide +kernel⟩,
   ⟨0, (wS modeNative []), by decide +kernel⟩,
   ⟨0, (wS modeGtn []), by decide +kernel⟩,
   ⟨0, (wS modeNative []), by decide +kernel⟩,
   ⟨1, (wS modeGtn []), by decide +kernel⟩⟩

theorem test_witness_LegacyInauguration :
    (∃ (p : Nat) (t : Telegram) (s : State), s.gTakes p tgClaim t = true) ∧
    (∃ (s : State), (s.gRuns = false ∨ s.gln.stage ≠ 1)) ∧
    (∃ (s : State), s.gRuns = true ∧ s.gln.stage = 1) ∧
    (∃ (s : State), (s.gRuns = false ∨ s.gln.stage ≠ 2)) ∧
    (∃ (s : State), s.gRuns = true ∧ s.gln.stage = 2 ∧ s.gln.nextPos ≤ 31) ∧
    (∃ (p : Nat) (t : Telegram) (s : State), s.gTakes p tgName t = true ∧ s.gln.named = true) ∧
    (∃ (p : Nat) (t : Telegram) (s : State), s.gTakes p tgName t = true ∧ s.mode = modeGtn ∧ s.gln.named = false ∧ 1
      ≤ t.dest ∧ t.dest ≤ 31) ∧
    (∃ (p e pos : Nat) (b : Bool) (t : Telegram) (s : State), s.gTakes p tgNameAck t = true ∧ s.gln.waiting = some
      (.name e pos b) ∧ pos < 31) ∧
    (∃ (p e : Nat) (b : Bool) (t : Telegram) (s : State), s.gTakes p tgNameAck t = true ∧ s.gln.waiting = some (.name
      e 0x20 b) ∧ s.flag GTN_SSR_INAUG = false) ∧
    (∃ (p : Nat) (t : Telegram) (s : State), s.gTakes p tgNameAck t = true ∧ s.gln.waiting = none) ∧
    (∃ (p : Nat) (t : Telegram) (s : State), s.gTakes p tgTopology t = true ∧ s.gln.named = true ∧ s.gMaster = false
      ∧ s.mode = modeGtn) ∧
    (∃ (p : Nat) (t : Telegram) (s : State), s.gTakes p tgTopology t = true ∧ (s.gln.named = false ∨ s.gMaster =
      true)) ∧
    (∃ (p : Nat) (t : Telegram) (s : State), s.gTakes p tgReset t = true) ∧
    (∃ (s : State), (s.gRuns = false ∨ s.gMaster = false ∨ s.gln.waiting = none)) ∧
    (∃ (e pos : Nat) (s : State), s.gRuns = true ∧ s.gMaster = true ∧ s.gln.waiting = some (.name e pos false) ∧ pos
      ≠ 0x20) ∧
    (∃ (pos : Nat) (s : State), s.gRuns = true ∧ s.gMaster = true ∧ s.gln.waiting = some (.msgPoll pos) ∧ 2 ≤ tabGet
      0 s.gln.misses pos) :=
  ⟨⟨0, ({ wTele with type := 1, dest := 1 } : Telegram), (wS modeGtn []), by decide +kernel⟩,
   ⟨(wS modeNative []), by decide +kernel⟩,
   ⟨({ (wS modeGtn []) with gln.stage := 1 } : State), by decide +kernel⟩,
   ⟨(wS modeNative []), by decide +kernel⟩,
   ⟨({ (wS modeGtn []) with gln.stage := 2 } : State), by decide +kernel⟩,
   ⟨0, ({ wTele with type := 2, dest := 1 } : Telegram), ({ (wS modeGtn []) with gln.named := true } : State),
     by decide +kernel⟩,
   ⟨0, ({ wTele with type := 2, dest := 1 } : Telegram), ({ (wS modeGtn []) with gln.named := false } : State),
     by decide +kernel⟩,
   ⟨0, 0, 0, false, ({ wTele with type := 3, dest := 1 } : Telegram),
     ({ (wS modeGtn []) with gln.waiting := some (.name 0 0 false) } : State), by decide +kernel⟩,
   ⟨0, 0, false, ({ wTele with type := 3, dest := 1 } : Telegram),
     ({ (wS modeGtn [(GTN_SSR_INAUG, 0)]) with gln.waiting := some (.name 0 0x20 false) } : State), by decide +kernel⟩,
   ⟨0, ({ wTele with type := 3, dest := 1 } : Telegram), ({ (wS modeGtn []) with gln.waiting := none } : State),
     by decide +kernel⟩,
   ⟨0, ({ wTele with type := 4, dest := 1 } : Telegram), ({ (wS modeGtn []) with gln.named := true } : State),
     by decide +kernel⟩,
   ⟨0, ({ wTele with type := 4, dest := 1 } : Telegram), ({ (wS modeGtn []) with gln.named := false } : State),
     by decide +kernel⟩,
   ⟨0, ({ wTele with type := 12, dest := 1 } : Telegram), (wS modeGtn []), by decide +kernel⟩,
   ⟨(wS modeNative []), by decide +kernel⟩,
   ⟨0, 0, ({ (wS modeGtn []) with gln.waiting := some (.name 0 0 false), gln.stage := 3 } : State),
     by decide +kernel⟩,
   ⟨0, ({ (wS modeGtn []) with gln.waiting := some (.msgPoll 0), gln.stage := 3, gln.misses := [(0, 2)] } : State),
     by decide +kernel⟩⟩

theorem test_witness_LegacyPeriod :
    (∃ (s : State), (s.gRuns = false ∨ s.gMaster = false ∨ s.flag GTN_POS_VALID = false)) ∧
    (∃ (pos port : Nat) (s : State), s.gRuns = true ∧ s.gMaster = true ∧ s.flag GTN_POS_VALID = true ∧
      s.gln.polls[0]? = some (pos, port) ∧ pos ≠ 0) ∧
    (∃ (p : Nat) (t : Telegram) (s : State), s.gTakes p tgPeriod t = true) ∧
    (∃ (p : Nat) (t : Telegram) (s : State), s.gTakes p tgPdPoll t = true) ∧
    (∃ (port : Nat) (t : Telegram) (s : State), s.gOwnData port = some t ∧ s.mode = modeGtn) ∧
    (∃ (p n : Nat) (t : Telegram) (s : State), s.gTakes p tgPdData t = true ∧ s.mode = modeGtn ∧ s.gSinks (tgNum t 0
      1) = [n] ∧ n < 16 ∧ s.flag (GTN_MBC_OWN n) = true ∧ s.gln.waiting = none) ∧
    (∃ (p n : Nat) (t : Telegram) (s : State), s.gTakes p tgPdData t = true ∧ s.mode = modeGtn ∧ s.gSinks (tgNum t 0
      1) = [n] ∧ n < 16 ∧ s.flag (GTN_MBC_OWN n) = false ∧ s.gln.waiting = none) ∧
    (∃ (p : Nat) (t : Telegram) (s : State), s.gTakes p tgMsgPoll t = true ∧ s.gln.named = true ∧ t.dest = s.gln.pos
      ∧ s.gMaster = false ∧ s.gtn.msgOrder = []) ∧
    (∃ (p n : Nat) (l : List Nat) (t : Telegram) (s : State), s.gTakes p tgMsgPoll t = true ∧ s.gln.named = true ∧
      t.dest = s.gln.pos ∧ s.gMaster = false ∧ s.gtn.msgOrder = n :: l ∧ 1 ≤ s.ramWord (mbLen n) ∧ s.ramWord (mbLen n)
      ≤ 224 ∧ tabGet 0 s.gln.attempts n < 4) ∧
    (∃ (p : Nat) (t : Telegram) (s : State), s.gTakes p tgMsg t = true ∧ s.mode = modeGtn ∧ s.gln.named = true ∧
      t.dest = s.gln.pos ∧ t.dest ≠ 0xFF ∧ t.dest ≠ 0x20 ∧ s.gln.waiting = none) ∧
    (∃ (n : Nat) (t : Telegram) (s : State), (s.ownedMboxes mbMsgRx).find? (fun n => s.get (GTN_MBC_PARAM n) == 0 ||
      s.get (GTN_MBC_PARAM n) == t.src) = some n ∧ n < 16) ∧
    (∃ (p n : Nat) (l : List Nat) (t : Telegram) (s : State), s.gTakes p tgMsgAck t = true ∧ s.mode = modeGtn ∧
      s.gln.named = true ∧ t.dest = s.gln.pos ∧ s.gtn.msgOrder = n :: l ∧ 0 < tabGet 0 s.gln.attempts n ∧
      s.gln.waiting = none) ∧
    (∃ (p : Nat) (t : Telegram) (s : State), s.gTakes p tgMsgAck t = true ∧ s.mode = modeBorder ∧ s.gln.named = true
      ∧ t.dest = s.gln.pos ∧ s.gln.waiting = none) ∧
    (∃ (p : Nat) (t : Telegram) (s : State), s.gTakes p tgNone t = true ∧ s.gln.waiting = none) ∧
    (∃ (p pos : Nat) (t : Telegram) (s : State), s.gTakes p tgNone t = true ∧ s.gln.waiting = some (.msgPoll pos) ∧
      t.src = pos) :=
  ⟨⟨(wS modeNative []), by decide +kernel⟩,
   ⟨1, 0, ({ (wS modeGtn [(GTN_POS_VALID, 1)]) with gln.stage := 3, gln.polls := [(1, 0)] } : State),
     by decide +kernel⟩,
   ⟨0, ({ wTele with type := 5, dest := 1 } : Telegram), (wS modeGtn []), by decide +kernel⟩,
   ⟨0, ({ wTele with type := 6, dest := 1 } : Telegram), (wS modeGtn []), by decide +kernel⟩,
   ⟨0, (wGtnPd.gOwnData 0).getD wTele, (wS modeGtn [(GTN_PDC_PD_EN, 1), (GTN_MBC_KIND 0, mbPdSrc)]),
     by decide +kernel⟩,
   ⟨0, 0, ({ wTele with type := 7, dest := 1 } : Telegram),
     ({ (wS modeGtn [((GTN_MBC_OWN 0), 1), (GTN_PDC_PD_EN, 1), (GTN_MBC_KIND 0, mbPdSink), (GTN_MBC_OWN 0, 1)]) with gln.waiting := none }
     : State), by decide +kernel⟩,
   ⟨0, 0, ({ wTele with type := 7, dest := 1 } : Telegram),
     ({ (wS modeGtn [((GTN_MBC_OWN 0), 0), (GTN_PDC_PD_EN, 1), (GTN_MBC_KIND 0, mbPdSink)]) with gln.waiting := none }
     : State), by decide +kernel⟩,
   ⟨0, ({ wTele with type := 8, dest := 0 } : Telegram),
     ({ (wS modeGtn []) with gln.named := true, gtn.msgOrder := [] } : State), by decide +kernel⟩,
   ⟨0, 0, [], ({ wTele with type := 8, dest := 0 } : Telegram),
     ({ (wS modeGtn []) with gln.named := true, gtn.msgOrder := [0], gtn.ram := [(mbLen 0, 4)] } : State),
     by decide +kernel⟩,
   ⟨0, ({ wTele with type := 9, dest := 1 } : Telegram),
     ({ (wS modeGtn []) with gln.named := true, gln.waiting := none, gln.pos := 1 } : State), by decide +kernel⟩,
   ⟨0, wTele, (wS modeNative [(GTN_MBC_KIND 0, mbMsgRx), (GTN_MBC_OWN 0, 1)]), by decide +kernel, by decide +kernel⟩,
   ⟨0, 0, [], ({ wTele with type := 10, dest := 0 } : Telegram),
     ({ (wS modeGtn []) with gln.named := true, gln.waiting := none, gln.attempts := [(0, 1)], gtn.msgOrder := [0] } :
     State), by decide +kernel⟩,
   ⟨0, ({ wTele with type := 10, dest := 0 } : Telegram),
     ({ (wS modeBorder []) with gln.named := true, gln.waiting := none } : State), by decide +kernel⟩,
   ⟨0, ({ wTele with type := 11, dest := 1 } : Telegram), ({ (wS modeGtn []) with gln.waiting := none } : State),
     by decide +kernel⟩,
   ⟨0, 0, ({ wTele with type := 11, dest := 1 } : Telegram),
     ({ (wS modeGtn []) with gln.waiting := some (.msgPoll 0) } : State), by decide +kernel⟩⟩

theorem test_witness_TakeOver :
    (∃ (s : State), (s.hearsReferee = false ∨ s.pair.syncOk = false)) ∧
    (∃ (level : Nat) (s : State), s.hearsReferee = true ∧ s.pair.syncOk = true ∧ s.pairMember = true ∧ s.pairSelected
      = true ∧ level % 2 ≠ s.get PAIR_CFG_MEMBER ∧ s.mode = modeNative) ∧
    (∃ (level : Nat) (s : State), s.hearsReferee = true ∧ s.pair.syncOk = true ∧ s.pairMember = true ∧ s.pairSelected
      = false ∧ level % 2 = s.get PAIR_CFG_MEMBER ∧ s.mode = modeStandby) ∧
    (∃ (s : State), (s.pairSelected = false ∨ s.pair.driving = true)) ∧
    (∃ (s : State), s.pairSelected = true ∧ s.pair.driving = false ∧ s.mode = modeStandby) ∧
    (∃ (s : State), s.pairSelected = true ∧ s.pair.driving = false ∧ s.mode = modeBoot ∧ s.glb.bootStep = 7) ∧
    (∃ (s : State), (s.pairSelected = false ∨ s.pair.driving = true ∨ s.inModes [modeBoot, modeStandby, modeNative] =
      false)) ∧
    (∃ (s : State), s.pairSelected = true ∧ s.pair.driving = false ∧ s.inModes [modeBoot, modeStandby, modeNative] =
      true) ∧
    (∃ (s : State), (s.pairMember = false ∨ s.mode ≠ modeNative ∨ s.pair.variantBOver = true)) ∧
    (∃ (s : State), s.pairMember = true ∧ s.mode = modeNative ∧ s.pair.variantBOver = false) ∧
    (∃ (s : State), (s.mode ≠ modeBoot ∨ s.glb.held = true ∨ s.glb.bootStep ≠ 7)) ∧
    (∃ (s : State), s.mode = modeBoot ∧ s.glb.held = false ∧ s.glb.bootStep = 7 ∧ s.pair.driving = true) ∧
    (∃ (s : State), s.mode = modeBoot ∧ s.glb.held = false ∧ s.glb.bootStep = 7 ∧ s.pair.driving = false ∧
      s.pairSelected = true) ∧
    (∃ (free : Bool) (s : State), s.mode = modeBoot ∧ s.glb.held = false ∧ s.glb.bootStep = 7 ∧ s.pair.driving =
      false ∧ (s.pairSelected = false ∨ free = false)) :=
  ⟨⟨(wS modeNative []), by decide +kernel⟩,
   ⟨1,
     ({ (wS modeNative [(PAIR_CFG_EN, 1), (PAIR_CFG_EN, 1), (PAIR_CFG_EN, 1), (PAIR_STATUS_PERMISSION, 1)]) with pair.syncOk := true, pair.taken := true }
     : State), by decide +kernel⟩,
   ⟨0, ({ (wS modeStandby [(PAIR_CFG_EN, 1), (PAIR_CFG_EN, 1)]) with pair.syncOk := true } : State),
     by decide +kernel⟩,
   ⟨(wS modeNative []), by decide +kernel⟩,
   
     ⟨({ (wS modeStandby [(PAIR_CFG_EN, 1), (PAIR_STATUS_PERMISSION, 1)]) with pair.driving := false, pair.taken := true }
     : State), by decide +kernel⟩,
   
     ⟨({ (wS modeBoot [(PAIR_CFG_EN, 1), (PAIR_STATUS_PERMISSION, 1)]) with pair.driving := false, pair.taken := true, glb.bootStep := 7 }
     : State), by decide +kernel⟩,
   ⟨(wS modeNative []), by decide +kernel⟩,
   
     ⟨({ (wS modeNative [(PAIR_CFG_EN, 1), (PAIR_STATUS_PERMISSION, 1)]) with pair.driving := false, pair.taken := true }
     : State), by decide +kernel⟩,
   ⟨(wS modeNative []), by decide +kernel⟩,
   ⟨({ (wS modeNative [(PAIR_CFG_EN, 1)]) with pair.variantBOver := false } : State), by decide +kernel⟩,
   ⟨(wS modeNative []), by decide +kernel⟩,
   ⟨({ (wS modeBoot []) with glb.held := false, glb.bootStep := 7, pair.driving := true } : State),
     by decide +kernel⟩,
   
     ⟨({ (wS modeBoot [(PAIR_CFG_EN, 1), (PAIR_STATUS_PERMISSION, 1)]) with glb.held := false, glb.bootStep := 7, pair.driving := false, pair.taken := true }
     : State), by decide +kernel⟩,
   ⟨false, ({ (wS modeBoot []) with glb.held := false, glb.bootStep := 7, pair.driving := false } : State),
     by decide +kernel⟩⟩

theorem test_witness_Referee :
    (∃ (s : State), s.mode ≠ modeReferee) ∧
    (∃ (s : State), s.mode = modeReferee) ∧
    (∃ (m : Nat), m < 2) ∧
    (∃ (s : State), s.get PAIR_REF_STATUS_STATE ≠ 0 ∧ s.criterion (s.get PAIR_REF_STATUS_SEL) = false) ∧
    (∃ (s : State), s.get PAIR_REF_STATUS_STATE ≠ 0 ∧ s.criterion (s.get PAIR_REF_STATUS_SEL) = true ∧ s.flag
      (eligField (1 - s.get PAIR_REF_STATUS_SEL)) = true) ∧
    (∃ (s : State), s.get PAIR_REF_STATUS_STATE ≠ 0 ∧ s.criterion (s.get PAIR_REF_STATUS_SEL) = true ∧ s.flag
      (eligField (1 - s.get PAIR_REF_STATUS_SEL)) = false) ∧
    (∃ (m : Nat) (s : State), s.mode = modeReferee ∧ m < 2) ∧
    (∃ (s : State), s.mode = modeReferee ∧ s.get PAIR_REF_STATUS_STATE = 0 ∧ s.pair.adoptLeft = 0) ∧
    (∃ (path : Path) (arg : Nat) (s : State), s.accepts cmdSelect path arg) ∧
    (∃ (s : State), s.hearsReferee = false) ∧
    (∃ (s : State), s.hearsReferee = true) ∧
    (∃ (s : State), s.hearsReferee = true ∧ s.pairMember = true ∧ s.flag PAIR_STATUS_REF_LOST = false ∧ 1 ≤
      s.pair.syncMissed) ∧
    (∃ (s : State), s.hearsReferee = true ∧ s.pair.syncMissed = 0) ∧
    (∃ (s : State), s.pairMember = true ∧ s.hearsReferee = true) :=
  ⟨⟨(wS modeNative []), by decide +kernel⟩,
   ⟨(wS modeReferee []), by decide +kernel⟩,
   ⟨0, by decide +kernel⟩,
   ⟨(wS modeNative [(PAIR_REF_STATUS_STATE, 1)]), by decide +kernel⟩,
   ⟨(wS modeReferee [(PAIR_REF_STATUS_STATE, 1), (PAIR_REF_STATUS_MISSED0, 2), (PAIR_REF_STATUS_ELIG1, 1)]),
     by decide +kernel⟩,
   ⟨(wS modeReferee [(PAIR_REF_STATUS_STATE, 1), (PAIR_REF_STATUS_MISSED0, 2)]), by decide +kernel⟩,
   ⟨0, (wS modeReferee []), by decide +kernel⟩,
   ⟨({ (wS modeReferee [(PAIR_REF_STATUS_STATE, 0)]) with pair.adoptLeft := 0 } : State), by decide +kernel⟩,
   ⟨(.reg .pf0), 1, ({ (wS modeReferee [(PAIR_REF_STATUS_ELIG1, 1)]) with pair.rpt1 := some wReport } : State),
     by decide +kernel⟩,
   ⟨(wS modeNative []), by decide +kernel⟩,
   ⟨(wS modeNative [(PAIR_CFG_EN, 1)]), by decide +kernel⟩,
   ⟨({ (wS modeNative [(PAIR_CFG_EN, 1), (PAIR_CFG_EN, 1), (PAIR_STATUS_REF_LOST, 0)]) with pair.syncMissed := 1 } :
     State), by decide +kernel⟩,
   ⟨({ (wS modeNative [(PAIR_CFG_EN, 1)]) with pair.syncMissed := 0 } : State), by decide +kernel⟩,
   ⟨(wS modeNative [(PAIR_CFG_EN, 1), (PAIR_CFG_EN, 1)]), by decide +kernel⟩⟩

theorem test_witness_StandbyInStep :
    (∃ (path : Path) (arg : Nat) (s : State), s.accepts cmdResync path arg) ∧
    (∃ (s : State), (s.mode ≠ modeStandby ∨ s.syncState ≠ syncResync)) ∧
    (∃ (t : PairTransfer) (s : State), s.mode = modeStandby ∧ s.syncState = syncResync ∧ t.uids = []) ∧
    (∃ (s : State), (s.mode ≠ modeStandby ∨ s.syncState < syncSynced)) ∧
    (∃ (s : State), s.mode = modeStandby ∧ syncSynced ≤ s.syncState) ∧
    (∃ (s : State), (s.mode ≠ modeStandby ∨ s.syncState ≠ syncTesting)) ∧
    (∃ (s : State), s.mode = modeStandby ∧ s.syncState = syncTesting) ∧
    (∃ (s : State), (s.pairMember = false ∨ s.flag PAIR_STATUS_LINK = false ∨ s.mode = modeSleep)) ∧
    (∃ (s : State), s.pairMember = true ∧ s.flag PAIR_STATUS_LINK = true ∧ s.mode ≠ modeSleep) ∧
    (∃ (s : State), (s.pairMember = false ∨ s.flag PAIR_STATUS_LINK = true ∨ s.mode = modeSleep)) ∧
    (∃ (s : State), s.pairMember = true ∧ s.flag PAIR_STATUS_LINK = false ∧ s.mode ≠ modeSleep) :=
  ⟨⟨(.reg .pf0), 0, (wS modeStandby []), by decide +kernel⟩,
   ⟨(wS modeNative []), by decide +kernel⟩,
   ⟨{ wTransfer with uids := [] }, (wS modeStandby [(PAIR_STATUS_SYNC, syncResync)]), by decide +kernel⟩,
   ⟨(wS modeNative []), by decide +kernel⟩,
   ⟨(wS modeStandby [(PAIR_STATUS_SYNC, 2)]), by decide +kernel⟩,
   ⟨(wS modeNative []), by decide +kernel⟩,
   ⟨(wS modeStandby [(PAIR_STATUS_SYNC, syncTesting)]), by decide +kernel⟩,
   ⟨(wS modeNative []), by decide +kernel⟩,
   ⟨(wS modeNative [(PAIR_CFG_EN, 1), (PAIR_STATUS_LINK, 1)]), by decide +kernel⟩,
   ⟨(wS modeNative []), by decide +kernel⟩,
   ⟨(wS modeNative [(PAIR_CFG_EN, 1), (PAIR_STATUS_LINK, 0)]), by decide +kernel⟩⟩

theorem test_witness_SleepFrames :
    (∃ (m : SleepMsg) (s : State), s.sleepActs m 1 = true) ∧
    (∃ (s : State), s.slpState ≠ slpVoting ∧ s.slpState ≠ slpCommitted) ∧
    (∃ (s : State), (s.slpState = slpVoting ∨ s.slpState = slpCommitted)) ∧
    (∃ (m : SleepMsg) (s : State), s.sleepActs m 2 = true ∧ s.sleepHead = false) ∧
    (∃ (m : SleepMsg) (s : State), s.sleepActs m 3 = true ∧ s.sleepHead = true ∧ s.slpState = slpVoting) ∧
    (∃ (m : SleepMsg) (s : State), s.sleepActs m 3 = true ∧ (s.sleepHead = false ∨ s.slpState ≠ slpVoting)) ∧
    (∃ (m : SleepMsg) (s : State), s.sleepActs m 4 = true ∧ s.sleepHead = false ∧ s.slpState ≠ slpCommitted ∧ (m.code
      ≠ 1 ∨ s.flag SLP_STATUS_CONFIRMED = false ∨ s.slp.fwRunning = true)) ∧
    (∃ (m : SleepMsg) (s : State), s.sleepActs m 4 = true ∧ s.sleepHead = false ∧ s.slpState ≠ slpCommitted ∧ m.code
      = 1 ∧ s.flag SLP_STATUS_CONFIRMED = true ∧ s.slp.fwRunning = false) ∧
    (∃ (m : SleepMsg) (s : State), s.sleepActs m 5 = true ∧ (s.slpState = slpVoting ∨ s.slpState = slpCommitted)) ∧
    (∃ (m : SleepMsg) (s : State), s.sleepActs m 6 = true ∧ s.slp.fwRunning = true) ∧
    (∃ (m : SleepMsg) (s : State), s.sleepActs m 6 = true ∧ s.slp.fwRunning = false) :=
  ⟨⟨({ wSleep with kind := 1, code := 0 } : SleepMsg), (wS modeNative []), by decide +kernel⟩,
   ⟨(wS modeNative []), by decide +kernel⟩,
   ⟨(wS modeNative [(SLP_STATUS_STATE, slpVoting)]), by decide +kernel⟩,
   ⟨({ wSleep with kind := 2, code := 0 } : SleepMsg), (wS modeNative [(INA_STATUS_ROLE, roleMid)]),
     by decide +kernel⟩,
   ⟨({ wSleep with kind := 3, code := 0 } : SleepMsg), (wS modeNative [(INA_STATUS_ROLE, roleHead),
     (SLP_STATUS_STATE, slpVoting)]), by decide +kernel⟩,
   ⟨({ wSleep with kind := 3, code := 0 } : SleepMsg), (wS modeNative [(INA_STATUS_ROLE, roleMid)]),
     by decide +kernel⟩,
   ⟨({ wSleep with kind := 4, code := 0 } : SleepMsg), (wS modeNative [(INA_STATUS_ROLE, roleMid)]),
     by decide +kernel⟩,
   ⟨({ wSleep with kind := 4, code := 1 } : SleepMsg),
     ({ (wS modeNative [(INA_STATUS_ROLE, roleMid), (SLP_STATUS_CONFIRMED, 1)]) with slp.fwRunning := false } :
     State), by decide +kernel⟩,
   ⟨({ wSleep with kind := 5, code := 0 } : SleepMsg), (wS modeNative [(SLP_STATUS_STATE, slpVoting)]),
     by decide +kernel⟩,
   ⟨({ wSleep with kind := 6, code := 0 } : SleepMsg), ({ (wS modeNative []) with slp.fwRunning := true } : State),
     by decide +kernel⟩,
   ⟨({ wSleep with kind := 6, code := 0 } : SleepMsg), ({ (wS modeNative []) with slp.fwRunning := false } : State),
     by decide +kernel⟩⟩

theorem test_witness_SleepAndWake :
    (∃ (s : State), (s.maySleep = false ∨ s.stackMember = true ∨ s.slpState ≠ slpCommitted)) ∧
    (∃ (s : State), s.maySleep = true ∧ s.stackMember = false ∧ s.slpState = slpCommitted) ∧
    (∃ (s : State), (s.mode ≠ modeSleep ∨ s.slp.entered = true)) ∧
    (∃ (s : State), s.mode = modeSleep ∧ s.slp.entered = false ∧ s.slp.latched = 0 ∧ s.rcd.writing = none) ∧
    (∃ (s : State), s.mode = modeSleep ∧ s.slp.entered = false) ∧
    (∃ (s : State), s.mode = modeSleep ∧ s.slp.entered = true) ∧
    (∃ (i : Nat), i < 4) ∧
    (∃ (i : Nat) (s : State), i < 4 ∧ s.bitAt SLP_CFG_WAKE_EN i = true) ∧
    (∃ (s : State), (s.slp.fwRunning = false ∨ s.slp.fwExpired = true)) ∧
    (∃ (s : State), s.slp.fwRunning = true ∧ s.slp.fwExpired = false) ∧
    (∃ (s : State), s.slp.fwRunning = true ∧ s.slp.fwExpired = true ∧ s.sleepHead = false ∧ s.maySleep = true ∧
      s.slpState ≠ slpCommitted) ∧
    (∃ (s : State), (s.slp.fwRunning = false ∨ s.slp.fwExpired = false ∨ s.sleepHead = true ∨ s.maySleep = false ∨
      s.slpState = slpCommitted)) ∧
    (∃ (s : State), s.slp.holdEnd1 = false ∧ s.slp.holdEnd2 = false) :=
  ⟨⟨(wS modeSafe []), by decide +kernel⟩,
   ⟨(wS modeNative [(SLP_STATUS_STATE, slpCommitted)]), by decide +kernel⟩,
   ⟨(wS modeNative []), by decide +kernel⟩,
   ⟨({ (wS modeSleep []) with slp.entered := false, slp.latched := 0, rcd.writing := none } : State),
     by decide +kernel⟩,
   ⟨({ (wS modeSleep []) with slp.entered := false } : State), by decide +kernel⟩,
   ⟨({ (wS modeSleep []) with slp.entered := true } : State), by decide +kernel⟩,
   ⟨0, by decide +kernel⟩,
   ⟨0, (wS modeNative [(SLP_CFG_WAKE_EN, 1)]), by decide +kernel⟩,
   ⟨({ (wS modeNative []) with slp.fwRunning := false } : State), by decide +kernel⟩,
   ⟨({ (wS modeNative []) with slp.fwRunning := true, slp.fwExpired := false } : State), by decide +kernel⟩,
   ⟨({ (wS modeNative [(INA_STATUS_ROLE, roleMid)]) with slp.fwRunning := true, slp.fwExpired := true } : State),
     by decide +kernel⟩,
   ⟨({ (wS modeNative []) with slp.fwRunning := false } : State), by decide +kernel⟩,
   ⟨({ (wS modeNative []) with slp.holdEnd1 := false, slp.holdEnd2 := false } : State), by decide +kernel⟩⟩

theorem test_witness_VaultAndTamper :
    (∃ (path : Path) (arg : Nat) (s : State), s.accepts cmdKeyWrite path arg) ∧
    (∃ (slot p key b : Nat) (s : State), s.key.op = some (slot, some p, key, b) ∧ slot < 64 ∧ b < 2) ∧
    (∃ (s : State), s.key.op = none) ∧
    (∃ (path : Path) (arg : Nat) (s : State), s.accepts cmdKeyErase path arg) ∧
    (∃ (slot x y : Nat) (s : State), s.key.op = some (slot, none, x, y) ∧ slot < 64) ∧
    (∃ (path : Path) (arg : Nat) (s : State), s.accepts cmdKeySwitch path arg) ∧
    (∃ (s : State), ((s.key.switchFlow = false ∧ s.key.switchFrame = false) ∨ cycleReached (s.get CYC_CYCLE_CYCLE)
      (s.get KEY_SW_CYCLE_CYCLE) = false)) ∧
    (∃ (s : State), s.key.switchFrame = true ∧ s.key.switchFlow = false ∧ cycleReached (s.get CYC_CYCLE_CYCLE) (s.get
      KEY_SW_CYCLE_CYCLE) = true) ∧
    (∃ (s : State), s.key.switchFlow = true ∧ cycleReached (s.get CYC_CYCLE_CYCLE) (s.get KEY_SW_CYCLE_CYCLE) = true) ∧
    (∃ (n : Nat) (s : State), (s.tamperEnabled n = 0 ∨ s.pwr.aon = false)) ∧
    (∃ (n : Nat) (s : State), s.tamperEnabled n ≠ 0 ∧ s.pwr.aon = true) ∧
    (∃ (n : Nat) (s : State), s.tamperEnabled n ≠ 0 ∧ s.pwr.aon = true ∧ s.pwr.regulators = true ∧ s.glb.held = false
      ∧ s.lc ≠ lcScrapped ∧ s.inModes [modeNative, modeBorder, modeStandby, modeGtn] = true) ∧
    (∃ (n : Nat) (s : State), s.tamperEnabled n ≠ 0 ∧ s.pwr.aon = true ∧ s.pwr.regulators = false) ∧
    (∃ (path : Path) (arg : Nat) (s : State), s.accepts cmdTamperClear path arg) :=
  ⟨⟨(.reg .pf0), 9, (wS modeNative [(KEY_WRITE_CFG_PURPOSE, 1)]), by decide +kernel⟩,
   ⟨0, 0, 0, 0, ({ (wS modeNative []) with key.op := some (0, some 0, 0, 0) } : State), by decide +kernel⟩,
   ⟨({ (wS modeNative []) with key.op := none } : State), by decide +kernel⟩,
   ⟨(.reg .pf0), 9, (wS modeNative []), by decide +kernel⟩,
   ⟨0, 0, 0, ({ (wS modeNative []) with key.op := some (0, none, 0, 0) } : State), by decide +kernel⟩,
   ⟨(.reg .pf0), 1, (wS modeNative []), by decide +kernel⟩,
   ⟨(wS modeNative []), by decide +kernel⟩,
   ⟨({ (wS modeNative []) with key.switchFrame := true, key.switchFlow := false } : State), by decide +kernel⟩,
   ⟨({ (wS modeNative []) with key.switchFlow := true } : State), by decide +kernel⟩,
   ⟨0, (wS modeNative []), by decide +kernel⟩,
   ⟨16, ({ (wS modeNative []) with pwr.aon := true } : State), by decide +kernel⟩,
   ⟨16, ({ (wS modeNative []) with pwr.aon := true, pwr.regulators := true, glb.held := false } : State),
     by decide +kernel⟩,
   ⟨16, ({ (wS modeNative []) with pwr.aon := true, pwr.regulators := false } : State), by decide +kernel⟩,
   ⟨(.reg .pf0), 0, (wS modeSafe []), by decide +kernel⟩⟩

theorem test_witness_StackRing :
    (∃ (s : State), s.ringMaster = false) ∧
    (∃ (s : State), s.ringMaster = true ∧ s.stk.outstanding = false) ∧
    (∃ (s : State), s.ringMaster = true ∧ s.stk.outstanding = true ∧ s.stk.missing < 2) ∧
    (∃ (s : State), s.ringMaster = true ∧ s.stk.outstanding = true ∧ 2 ≤ s.stk.missing) ∧
    (∃ (b : Beacon) (s : State), s.ringMaster = true ∧ b.crcOk = false) ∧
    (∃ (b : Beacon) (s : State), s.ringMaster = true ∧ b.crcOk = true ∧ b.masterUid = s.ownUid ∧ s.slpState ≠
      slpVoting) ∧
    (∃ (b : Beacon) (s : State), s.ringMaster = true ∧ b.crcOk = true ∧ b.masterUid < s.ownUid) ∧
    (∃ (b : Beacon) (s : State), s.ringMaster = true ∧ b.crcOk = true ∧ s.ownUid < b.masterUid) ∧
    (∃ (path : Path) (arg : Nat) (s : State), s.accepts cmdBypass path arg) ∧
    (∃ (path : Path) (arg : Nat) (s : State), s.accepts cmdStkRejoin path arg) ∧
    (∃ (s : State), s.ringMember = false) ∧
    (∃ (b : Beacon) (s : State), s.ringMember = true ∧ b.crcOk = false) ∧
    (∃ (b : Beacon) (s : State), s.ringMember = true ∧ b.crcOk = true ∧ hasBit b.present s.stackPos = true) ∧
    (∃ (b : Beacon) (s : State), s.ringMember = true ∧ b.crcOk = true ∧ hasBit b.present s.stackPos = false ∧ b.topo
      = s.topo ∧ b.epoch = false ∧ b.sleep = false) ∧
    (∃ (s : State), (s.ringMember = false ∨ s.ringState = stkOrphan)) ∧
    (∃ (s : State), s.ringMember = true ∧ s.ringState ≠ stkOrphan) ∧
    (∃ (s : State), s.stackRuns = false) ∧
    (∃ (f : MsgFrame) (s : State), s.stackRuns = true ∧ msgWellFormed f (msgCodeGroups f) = false) ∧
    (∃ (f : MsgFrame) (s : State), s.stackRuns = true ∧ msgWellFormed f (msgCodeGroups f) = true ∧ f.src = s.ownAddr
      ∧ addrGroup f.dst = false) ∧
    (∃ (f : MsgFrame) (s : State), s.stackRuns = true ∧ msgWellFormed f (msgCodeGroups f) = true ∧ f.src ≠ s.ownAddr
      ∧ s.presentTopo f.topo = false ∧ s.graceTakes f = false) ∧
    (∃ (f : MsgFrame) (s : State), s.stackRuns = true ∧ msgWellFormed f (msgCodeGroups f) = true ∧ f.src ≠ s.ownAddr
      ∧ s.presentTopo f.topo = true) ∧
    (∃ (f : MsgFrame) (s : State), s.stackRuns = true ∧ addrGroup f.dst = false ∧ s.stackInside f.dst = true ∧
      addrStk f.dst ≠ s.stackPos) ∧
    (∃ (f : MsgFrame) (s : State), addrGroup f.dst = false ∧ s.stackInside f.dst = true ∧ addrStk f.dst = s.stackPos
      ∧ f.type = 0 ∧ s.running = true ∧ s.stackInside f.src = true) :=
  ⟨⟨(wS modeNative []), by decide +kernel⟩,
   ⟨({ (wS modeNative [(STK_CFG_EN, 1)]) with stk.outstanding := false } : State), by decide +kernel⟩,
   ⟨({ (wS modeNative [(STK_CFG_EN, 1)]) with stk.outstanding := true } : State), by decide +kernel⟩,
   ⟨({ (wS modeNative [(STK_CFG_EN, 1)]) with stk.outstanding := true, stk.missing := 2 } : State),
     by decide +kernel⟩,
   ⟨{ wBeacon with crcOk := false }, (wS modeNative [(STK_CFG_EN, 1)]), by decide +kernel⟩,
   ⟨{ wBeacon with masterUid := 5 }, (wS modeNative [(STK_CFG_EN, 1)]), by decide +kernel⟩,
   ⟨{ wBeacon with crcOk := true }, (wS modeNative [(STK_CFG_EN, 1)]), by decide +kernel⟩,
   ⟨{ wBeacon with masterUid := 6 }, (wS modeNative [(STK_CFG_EN, 1)]), by decide +kernel⟩,
   ⟨(.reg .pf0), 0, (wS modeNative []), by decide +kernel⟩,
   ⟨(.reg .pf0), 0, (wS modeNative []), by decide +kernel⟩,
   ⟨(wS modeNative []), by decide +kernel⟩,
   ⟨{ wBeacon with crcOk := false }, (wS modeNative [(STK_CFG_EN, 1), (STK_CFG_POS, 1)]), by decide +kernel⟩,
   ⟨{ wBeacon with present := 2 }, (wS modeNative [(STK_CFG_EN, 1), (STK_CFG_POS, 1)]), by decide +kernel⟩,
   ⟨{ wBeacon with crcOk := true, epoch := false, sleep := false }, (wS modeNative [(STK_CFG_EN, 1), (STK_CFG_POS,
     1)]), by decide +kernel⟩,
   ⟨(wS modeNative []), by decide +kernel⟩,
   ⟨(wS modeNative [(STK_CFG_EN, 1), (STK_CFG_POS, 1)]), by decide +kernel⟩,
   ⟨(wS modeNative []), by decide +kernel⟩,
   ⟨wFrame, (wS modeNative [(STK_CFG_EN, 1)]), by decide +kernel⟩,
   ⟨wSealed { wFrame with prio := 7, src := 64 }, (wS modeNative [(STK_CFG_EN, 1)]), by decide +kernel⟩,
   ⟨wSealed { wFrame with prio := 7, topo := 9 }, (wS modeNative [(STK_CFG_EN, 1)]), by decide +kernel⟩,
   ⟨wSealed { wFrame with prio := 7 }, (wS modeNative [(STK_CFG_EN, 1)]), by decide +kernel⟩,
   ⟨{ wFrame with dst := 65 }, (wS modeNative [(STK_CFG_EN, 1)]), by decide +kernel⟩,
   ⟨{ wFrame with type := 0, dst := 64, src := 65 }, (wS modeNative []), by decide +kernel⟩⟩

theorem test_witness_StepsBetweenCommands :
    (∃ (s : State), s.pending = []) ∧
    (∃ (s : State), s.calm) :=
  ⟨⟨(wS modeNative []), by decide +kernel⟩,
   ⟨(wS modeNative []), by decide +kernel⟩⟩

theorem test_witness_NodeCommandsConfined : ∃ s : State, s.pwr.regulators = true := ⟨wS modeNative [], by decide +kernel⟩

theorem test_witness_FlowBridgeAndLegacyCommandsConfined :
    (∃ (a : Nat) (s : State), s.mode = modeGtn ∧ a < 0xC0 ∧ a % 2 = 0) ∧ (∃ (s : State), s.mode = modeGtn) ∧
    (∃ (l : Nat) (s : State), s.mode = modeGtn ∧ hasBit l 0 = false) ∧ (∃ (x : Nat) (s : State), s.mode = modeGtn ∧ x < 2) :=
  ⟨⟨0xBE, wS modeGtn [], by decide +kernel⟩, ⟨wS modeGtn [], by decide +kernel⟩, ⟨2, wS modeGtn [], by decide +kernel⟩,
   ⟨1, wS modeGtn [], by decide +kernel⟩⟩

end Sys2Proof.Tests
end

section
/-! PROOFS. O6: register accesses by access type (R14, R16, R19). Its last clause speaks of every `RegHit`, also of one
that no address reaches and whose fields share a bit address; that clause fails there, and with it the statement. The
registers of the model's own tables have no such fields, and of them the clause holds (`get_readClear_of_findReg`). -/

namespace Sys2Proof.Machine

/-! ### Two RC fields at one bit address -/

/-- A one-bit RC field whose reset value is 1. -/
def rcBitResetOne : Field := ⟨0, 1, 1⟩

/-- A register with two RC fields at bit address 0, whose reset values differ. -/
def sharedBitRegister : RegHit where
  row := ⟨"SHARED_BIT", 0, 1, 4, 1, 0, 32,
    [⟨.rc, false, fun _ _ => rcBitResetOne⟩, ⟨.rc, false, fun _ _ => { rcBitResetOne with reset := 0 }⟩]⟩
  i := 0
  j := 0
  base := 0
  word := 0

/-- The second clear stores its field's reset value, so it unlists the bit address, and the first field reads its own
reset value again. -/
theorem get_readClear_sharedBitRegister : (State.reset.readClear sharedBitRegister 0 1).get rcBitResetOne = 1 := rfl

/-- A read does not clear every RC field of an arbitrary `RegHit`. -/
theorem not_forall_get_readClear_eq_zero :
    ¬ ∀ (s : State) (h : RegHit) (w n : Nat) (f : Access × Bool × Field), f ∈ h.fields → f.1 = .rc →
      h.inWords f.2.2 w n = true → (s.readClear h w n).get f.2.2 = 0 := by
  intro clears
  have cleared : (State.reset.readClear sharedBitRegister 0 1).get rcBitResetOne = 0 :=
    clears State.reset sharedBitRegister 0 1 (.rc, false, rcBitResetOne) List.mem_cons_self rfl (by decide)
  rw [get_readClear_sharedBitRegister] at cleared
  exact absurd cleared Nat.one_ne_zero

/-- Refutes O6: its last clause does not ask that the register's fields have bit addresses of their own, and an RC
field of `sharedBitRegister` reads 1 after the read that clears it. -/
theorem not_registerWritesFollowAccessTypes : ¬ Obligations.RegisterWritesFollowAccessTypes := by
  unfold Obligations.RegisterWritesFollowAccessTypes
  rintro ⟨-, -, -, -, -, -, -, readClears⟩
  exact not_forall_get_readClear_eq_zero readClears

/-! ### The registers that an address reaches -/

/-- No two RC fields in the list have one bit address. -/
abbrev rcKeysApart (l : List (Access × Bool × Field)) : Prop :=
  l.Pairwise (fun f g => f.1 = .rc → g.1 = .rc → f.2.2.key ≠ g.2.2.key)

/-- What a read does to one field: an RC field in the words read is cleared (Table 0.4). -/
def State.clearRead (h : RegHit) (w n : Nat) (s : State) (f : Access × Bool × Field) : State :=
  if f.1 = .rc ∧ h.inWords f.2.2 w n then s.set f.2.2 0 else s

theorem readClear_eq_foldl_clearRead (s : State) (h : RegHit) (w n : Nat) :
    s.readClear h w n = h.fields.foldl (State.clearRead h w n) s := rfl

theorem get_clearRead_same (h : RegHit) (w n : Nat) (s : State) (f : Access × Bool × Field) (hrc : f.1 = .rc)
    (hin : h.inWords f.2.2 w n = true) : (s.clearRead h w n f).get f.2.2 = 0 := by
  simp [State.clearRead, hrc, hin]

theorem get_clearRead_ne (h : RegHit) (w n : Nat) (s : State) (f : Access × Bool × Field) (g : Field)
    (hne : f.1 = .rc → f.2.2.key ≠ g.key) : (s.clearRead h w n f).get g = s.get g := by
  unfold State.clearRead
  split
  next hf => exact s.get_set_ne 0 (hne hf.1)
  next => rfl

theorem get_foldl_clearRead_ne (h : RegHit) (w n : Nat) (g : Field) (l : List (Access × Bool × Field)) (s : State)
    (hne : ∀ f ∈ l, f.1 = .rc → f.2.2.key ≠ g.key) : (l.foldl (State.clearRead h w n) s).get g = s.get g := by
  induction l generalizing s with
  | nil => rfl
  | cons f l ih =>
    obtain ⟨hf, hl⟩ := List.forall_mem_cons.mp hne
    exact (ih _ hl).trans (get_clearRead_ne h w n s f g hf)

/-- Where RC fields have bit addresses of their own, no later clear touches one that is cleared. -/
theorem get_readClear_eq_zero (s : State) (h : RegHit) (w n : Nat) (f : Access × Bool × Field)
    (apart : rcKeysApart h.fields) (hf : f ∈ h.fields) (hrc : f.1 = .rc) (hin : h.inWords f.2.2 w n = true) :
    (s.readClear h w n).get f.2.2 = 0 := by
  obtain ⟨before, after, hfields⟩ := List.append_of_mem hf
  rw [hfields] at apart
  obtain ⟨later, -⟩ := List.pairwise_cons.mp (List.pairwise_append.mp apart).2.1
  rw [readClear_eq_foldl_clearRead, hfields, List.foldl_append, List.foldl_cons,
    get_foldl_clearRead_ne h w n f.2.2 after _ (fun g hg hgrc => (later g hg hrc hgrc).symm)]
  exact get_clearRead_same h w n _ f hrc hin

/-- The fields of a row at the place (i, j) of its array. -/
def RegRow.fieldsAt (r : RegRow) (i j : Nat) : List (Access × Bool × Field) :=
  r.fields.map (fun f => (f.acc, f.prv, f.field i j))

/-- The row has an RC field. -/
def RegRow.clearsOnRead (r : RegRow) : Bool := r.fields.any (fun f => f.acc == .rc)

theorem rcKeysApart_of_not_clearsOnRead (r : RegRow) (hr : ¬ r.clearsOnRead) (i j : Nat) :
    rcKeysApart (r.fieldsAt i j) := by
  refine List.pairwise_of_forall_mem_list fun f hf g _ hrc _ => absurd ?_ hr
  obtain ⟨row, hrow, rfl⟩ := List.mem_map.mp hf
  exact List.any_eq_true.mpr ⟨row, hrow, beq_iff_eq.mpr hrc⟩

theorem rcKeysApart_of_clearsOnRead :
    ∀ r ∈ (regTable ++ memTable).filter RegRow.clearsOnRead, ∀ i < r.outer, ∀ j < r.inner,
      rcKeysApart (r.fieldsAt i j) := by
  decide +kernel

theorem rcKeysApart_of_mem_tables {r : RegRow} (hr : r ∈ regTable ++ memTable) {i j : Nat} (hi : i < r.outer)
    (hj : j < r.inner) : rcKeysApart (r.fieldsAt i j) := by
  by_cases clears : r.clearsOnRead
  · exact rcKeysApart_of_clearsOnRead r (List.mem_filter.mpr ⟨hr, clears⟩) i hi j hj
  · exact rcKeysApart_of_not_clearsOnRead r clears i j

/-- An address that reaches a row reaches a place of its array. -/
theorem hit_eq_some {r : RegRow} {a : Nat} {h : RegHit} (hit : r.hit a = some h) :
    h.row = r ∧ h.i < r.outer ∧ h.j < r.inner := by
  unfold RegRow.hit at hit
  split at hit
  next => exact nomatch hit
  next =>
    obtain ⟨⟨hi, hj, -⟩, heq⟩ := Option.ite_none_right_eq_some.mp hit
    obtain rfl := Option.some.inj heq
    exact ⟨rfl, hi, hj⟩

theorem rcKeysApart_of_findReg {a : Nat} {h : RegHit} (found : findReg a = some h) : rcKeysApart h.fields := by
  obtain ⟨r, hr, hit⟩ := List.exists_of_findSome?_eq_some found
  obtain ⟨rfl, hi, hj⟩ := hit_eq_some hit
  exact rcKeysApart_of_mem_tables hr hi hj

/-- A read of a register that an address reaches clears the RC fields read (Table 0.4). -/
theorem get_readClear_of_findReg {a : Nat} {h : RegHit} (found : findReg a = some h) (s : State) (w n : Nat)
    (f : Access × Bool × Field) (hf : f ∈ h.fields) (hrc : f.1 = .rc) (hin : h.inWords f.2.2 w n = true) :
    (s.readClear h w n).get f.2.2 = 0 :=
  get_readClear_eq_zero s h w n f (rcKeysApart_of_findReg found) hf hrc hin

end Sys2Proof.Machine
end

section
/-! PROOFS. O23: the frames of a run, from DISC to its commit (R98, R101, R103 to R107, R109). A commit touches nearly
every block, so the proof turns on what none of its later parts changes: `State.inaView`, the inauguration unit's
registers, the state beside them and the counter in MRAM. -/

namespace Sys2Proof.Machine

open Reg

/-! ### What a run and its commit show -/

/-- The registers INA_CFG to INA_EVENT. -/
def inaField (f : Field) : Bool := within 0xA000 0xA04C f.key

/-- What the inauguration unit holds: its registers, the state beside them, and the counter kept in MRAM. -/
structure InaView where
  reg : Field → Nat
  ina : InaState
  topo : Nat

/-- The state as the inauguration unit sees its own. -/
def State.inaView (s : State) : InaView :=
  ⟨fun f => if inaField f then s.get f else 0, s.ina, s.mram.topo⟩

theorem State.get_of_inaView_eq {a b : State} (h : a.inaView = b.inaView) {f : Field} (hf : inaField f = true) :
    a.get f = b.get f := by
  simpa [State.inaView, hf] using congrFun (congrArg InaView.reg h) f

theorem State.ina_of_inaView_eq {a b : State} (h : a.inaView = b.inaView) : a.ina = b.ina := congrArg InaView.ina h

theorem State.mramTopo_of_inaView_eq {a b : State} (h : a.inaView = b.inaView) : a.mram.topo = b.mram.topo :=
  congrArg InaView.topo h

theorem State.inaView_ext {a b : State} (hr : ∀ f, inaField f = true → a.get f = b.get f) (hi : a.ina = b.ina)
    (ht : a.mram.topo = b.mram.topo) : a.inaView = b.inaView := by
  have hreg : (fun f => if inaField f then a.get f else 0) = fun f => if inaField f then b.get f else 0 :=
    funext fun f => ite_congr rfl (hr f) (fun _ => rfl)
  simp only [State.inaView, hreg, hi, ht]

/-! ### The registers beside those of the inauguration unit -/

theorem inaField_eq_false_of_ge {f : Field} (h : 8 * 0xA04C ≤ f.key) : inaField f = false := by
  simp [inaField, within]; omega

theorem reportField_eq_false_of_inaField {f : Field} (h : inaField f = true) : reportField f = false := by
  simp only [inaField, within, Bool.and_eq_true, decide_eq_true_eq] at h
  have : f.key / 32768 = 0xA := by omega
  rw [reportField, this]; rfl

theorem inaField_flowField (f off lo w : Nat) : inaField (flowField f off lo w) = false :=
  inaField_eq_false_of_ge (by simp only [flowField]; omega)

@[simp] theorem inaField_flowContext (f : Nat) :
    inaField (FCTX_STATUS f) = false ∧ inaField (FCTX_RES_POS f) = false ∧ inaField (FCTX_AUTH_FAIL f) = false :=
  ⟨inaField_flowField .., inaField_flowField .., inaField_flowField ..⟩

@[simp] theorem inaField_replay (f i : Nat) :
    inaField (FCTX_REPLAY_UID f i) = false ∧ inaField (FCTX_REPLAY_IV f i) = false :=
  ⟨inaField_flowField .., inaField_flowField ..⟩

@[simp] theorem inaField_suspended (i : Nat) : inaField (FLW_SUSP_SUSP i) = false :=
  inaField_eq_false_of_ge (by simp only [FLW_SUSP_SUSP]; omega)

@[simp] theorem inaField_flowEngine :
    inaField FLW_STATUS_ACTIVE = false ∧ inaField FLW_EVENT_FLOW_STATUS = false ∧
    inaField FLW_EVENT_IV_WARN = false ∧ inaField FLW_IVCNT_IVCNT = false ∧ inaField FLW_STAT_ING_DROP = false ∧
    inaField FLW_STAT2_AUTH_FAIL = false := by
  decide

@[simp] theorem inaField_hopDelay (i : Nat) :
    inaField (INA_HOPDLY_VALID i) = false ∧ inaField (INA_HOPDLY_RCVD i) = false ∧
    inaField (INA_HOPDLY_DELAY i) = false :=
  ⟨inaField_eq_false_of_ge (by simp only [INA_HOPDLY_VALID]; omega),
   inaField_eq_false_of_ge (by simp only [INA_HOPDLY_RCVD]; omega),
   inaField_eq_false_of_ge (by simp only [INA_HOPDLY_DELAY]; omega)⟩

@[simp] theorem inaField_stale (i : Nat) : inaField (CYC_STALE_STALE i) = false :=
  inaField_eq_false_of_ge (by simp only [CYC_STALE_STALE]; omega)

theorem inaField_lineDelay {p : Nat} (hp : p < 4) :
    inaField (LN_DELAY_VALID p) = false ∧ inaField (LN_DELAY_SAMPLES p) = false ∧ inaField (LN_DELAY_DELAY p) = false ∧
    inaField (LN_DELAY_SRC p) = false := by
  simp [inaField, within, LN_DELAY_VALID, LN_DELAY_SAMPLES, LN_DELAY_DELAY, LN_DELAY_SRC]
  omega

@[simp] theorem inaField_cycle :
    inaField CYC_STATUS_MAP_TRUNC = false ∧ inaField CYC_STATUS_BC_IN_USE = false ∧
    inaField CYC_STATUS_OVERRUN = false ∧ inaField CYC_STATUS_IN_MAP = false ∧ inaField CYC_SLOT_SIZE = false ∧
    inaField CYC_SLOT_OFFSET = false ∧ inaField CYC_EVENT_STALE = false ∧ inaField CYC_EVENT_KEY_AGE = false ∧
    inaField CYC_KEY_AGE_WARN = false ∧ inaField CYC_KEY_AGE_COMMITS = false := by
  decide

@[simp] theorem inaField_slotMap (q : Nat) : inaField (mapField q) = false := by
  apply inaField_eq_false_of_ge
  unfold mapField
  dsimp only
  split
  · simp only [CYC_MAP_SIZE0]; omega
  · simp only [CYC_MAP_SIZE1]; omega
  · simp only [CYC_MAP_SIZE2]; omega
  · simp only [CYC_MAP_SIZE3]; omega

@[simp] theorem inaField_messages :
    inaField MSG_STAT_UNROUTABLE = false ∧ inaField MSG_EVENT_UNROUTABLE = false ∧ inaField MSG_STAT2_QUEUE_DROP = false ∧
    inaField MSG_EVENT_QUEUE_DROP = false ∧ inaField MSG_STAT3_ABORT_RESEND = false ∧ inaField MSG_STAT3_OLD_TOPO = false := by
  decide

@[simp] theorem inaField_windows (i : Nat) :
    inaField (BRG_WIN_STATUS_STATE i) = false ∧ inaField (BRG_WIN_STATUS_RES_POS i) = false ∧
    inaField (BRG_WIN_STATUS_BSEQ i) = false ∧ inaField (BRG_AP_STATUS_STATUS i) = false :=
  ⟨inaField_eq_false_of_ge (by simp only [BRG_WIN_STATUS_STATE]; omega),
   inaField_eq_false_of_ge (by simp only [BRG_WIN_STATUS_RES_POS]; omega),
   inaField_eq_false_of_ge (by simp only [BRG_WIN_STATUS_BSEQ]; omega),
   inaField_eq_false_of_ge (by simp only [BRG_AP_STATUS_STATUS]; omega)⟩

@[simp] theorem inaField_bridge :
    inaField BRG_STATUS_POSTED = false ∧ inaField BRG_STATUS_LOCK_OUT = false ∧ inaField BRG_STATUS_TGT_LOCKED = false ∧
    inaField BRG_TGT_LOCK_HOLDER = false ∧ inaField BRG_TGT_LOCK_REMAIN = false ∧ inaField BRG_EVENT_POSTED_FAULT = false := by
  decide

@[simp] theorem inaField_ring (k : Nat) :
    inaField (HRG_RING_STATUS_INDEX k) = false ∧ inaField (HRG_RING_STAT_DONE k) = false ∧
    inaField (HRG_RING_STAT_DROPS k) = false :=
  ⟨inaField_eq_false_of_ge (by simp only [HRG_RING_STATUS_INDEX]; omega),
   inaField_eq_false_of_ge (by simp only [HRG_RING_STAT_DONE]; omega),
   inaField_eq_false_of_ge (by simp only [HRG_RING_STAT_DROPS]; omega)⟩

@[simp] theorem inaField_others :
    inaField TIM_STATUS_STATE = false ∧ inaField TIM_STATUS_HOLD_OK = false ∧ inaField TIM_STATUS_RATE_VALID = false ∧
    inaField TIM_STATUS_IN_SPEC = false ∧ inaField TIM_EVENT_LOCK = false ∧ inaField TIM_EVENT_HOLDOVER = false ∧
    inaField TIM_STAT_HOLDOVERS = false ∧ inaField TIM_RATE_K_M1 = false ∧ inaField KEY_EPOCH_FLOW_ACTIVE = false ∧
    inaField KEY_EPOCH_FRAME_ACTIVE = false ∧ inaField SLP_STATUS_STATE = false ∧ inaField SLP_STATUS_RESULT = false := by
  decide

/-! ### The operations of the state -/

@[simp] theorem inaView_set {s : State} {f : Field} {v : Nat} (hf : inaField f = false) :
    (s.set f v).inaView = s.inaView := by
  refine State.inaView_ext (fun g hg => State.get_set_ne s v fun e => ?_) rfl rfl
  have : inaField f = inaField g := by simp only [inaField, e]
  simp [hf, hg] at this

/-- An update that leaves the registers, the inauguration unit and its counter in MRAM. -/
theorem inaView_upd {a b : State} (hr : b.regs = a.regs) (hi : b.ina = a.ina) (ht : b.mram.topo = a.mram.topo) :
    b.inaView = a.inaView :=
  State.inaView_ext (fun f _ => by simp only [State.get, hr]) hi ht

theorem inaView_of_reports {a b : State} (h : Reports a b) : b.inaView = a.inaView :=
  State.inaView_ext (fun f hf => h.get f (reportField_eq_false_of_inaField hf)) h.ina (by rw [h.rest])

@[simp] theorem inaView_ite {c : Prop} [Decidable c] {a b : State} :
    (if c then a else b).inaView = if c then a.inaView else b.inaView := apply_ite _ _ _ _

@[simp] theorem inaView_foldl {α : Type} {g : State → α → State} {l : List α} {s : State}
    (hg : ∀ t a, (g t a).inaView = t.inaView) : (l.foldl g s).inaView = s.inaView := by
  induction l generalizing s with
  | nil => rfl
  | cons a l ih => exact ih.trans (hg s a)

@[simp] theorem inaView_add {s : State} {f : Field} {n : Nat} (hf : inaField f = false) :
    (s.add f n).inaView = s.inaView := inaView_set hf

@[simp] theorem inaView_bump {s : State} {f : Field} (hf : inaField f = false) : (s.bump f).inaView = s.inaView :=
  inaView_set hf

@[simp] theorem inaView_wrapUp {s : State} {f : Field} (hf : inaField f = false) : (s.wrapUp f).inaView = s.inaView :=
  inaView_set hf

@[simp] theorem inaView_setBit {s : State} {f : Field} {i : Nat} (hf : inaField f = false) :
    (s.setBit f i).inaView = s.inaView := inaView_set hf

@[simp] theorem inaView_clearBit {s : State} {f : Field} {i : Nat} (hf : inaField f = false) :
    (s.clearBit f i).inaView = s.inaView := inaView_set hf

@[simp] theorem inaView_emit (s : State) (e : Emit) : (s.emit e).inaView = s.inaView := rfl

@[simp] theorem inaView_brgMap (s : State) (g : BrgState → BrgState) : (s.brgMap g).inaView = s.inaView := rfl
@[simp] theorem inaView_msgMap (s : State) (g : MsgState → MsgState) : (s.msgMap g).inaView = s.inaView := rfl
@[simp] theorem inaView_flwMap (s : State) (g : FlwState → FlwState) : (s.flwMap g).inaView = s.inaView := rfl
@[simp] theorem inaView_cycMap (s : State) (g : CycState → CycState) : (s.cycMap g).inaView = s.inaView := rfl
@[simp] theorem inaView_slpMap (s : State) (g : SlpState → SlpState) : (s.slpMap g).inaView = s.inaView := rfl
@[simp] theorem inaView_timMap (s : State) (g : TimState → TimState) : (s.timMap g).inaView = s.inaView := rfl
@[simp] theorem inaView_portMap (s : State) (p : Nat) (g : LinePort → LinePort) : (s.portMap p g).inaView = s.inaView := rfl

/-! ### Reports -/

@[simp] theorem inaView_record (s : State) (base code : Nat) (payload : Bytes) :
    (s.record base code payload).inaView = s.inaView :=
  inaView_of_reports (reports_record s base code payload (Reports.refl s))

@[simp] theorem inaView_hostEvent (s : State) (code : Nat) (payload : Bytes) :
    (s.hostEvent code payload).inaView = s.inaView :=
  inaView_of_reports (reports_hostEvent s code payload (Reports.refl s))

@[simp] theorem inaView_pulse (s : State) (n : Nat) : (s.pulse n).inaView = s.inaView :=
  inaView_of_reports (reports_pulse s n (Reports.refl s))

@[simp] theorem inaView_assertLine (s : State) (n : Nat) : (s.assertLine n).inaView = s.inaView :=
  inaView_of_reports (reports_assertLine s n (Reports.refl s))

@[simp] theorem inaView_dropLine (s : State) (n : Nat) : (s.dropLine n).inaView = s.inaView :=
  inaView_of_reports (reports_dropLine s n (Reports.refl s))

@[simp] theorem inaView_line (s : State) (n : Nat) (on : Bool) : (s.line n on).inaView = s.inaView :=
  inaView_of_reports (reports_line s n on (Reports.refl s))

@[simp] theorem inaView_setRing (s : State) (k : Nat) (r : RingState) : (s.setRing k r).inaView = s.inaView := rfl

@[simp] theorem inaView_hostPost (s : State) (f : Nat) (e : Emit) : (s.hostPost f e).inaView = s.inaView :=
  inaView_of_reports (reports_hostPost s f e (Reports.refl s))

@[simp] theorem inaView_signal (s : State) (k : Nat) (now : Bool) : (s.signal k now).inaView = s.inaView :=
  inaView_of_reports (reports_signal s k now (Reports.refl s))

@[simp] theorem inaView_writeBack (s : State) (k : Nat) : (s.writeBack k).inaView = s.inaView :=
  inaView_of_reports (reports_writeBack s k (Reports.refl s))

@[simp] theorem inaView_evWrite (s : State) (g : Nat) (entry : Bytes) : (s.evWrite g entry).inaView = s.inaView := by
  simp [State.evWrite]

/-- An entry on one group's event ring, also of a group that no ring has. -/
@[simp] theorem inaView_groupEvent (s : State) (g code : Nat) (payload : Bytes) :
    (s.groupEvent g code payload).inaView = s.inaView := by
  simp [State.groupEvent, State.evPost]

/-! ### Flows -/

@[simp] theorem inaView_putFlowStatus (s : State) (f st : Nat) : (s.putFlowStatus f st).inaView = s.inaView := by
  unfold State.putFlowStatus
  extract_lets old s1 n s2
  have h : s2.inaView = s.inaView := by simp [s2, s1]
  rw [← h]
  split
  · exact inaView_upd rfl rfl rfl
  · rfl

@[simp] theorem inaView_setFlowStatus (s : State) (f st : Nat) : (s.setFlowStatus f st).inaView = s.inaView := by
  simp [State.setFlowStatus]

@[simp] theorem inaView_resolveFlow (s : State) (f : Nat) : (s.resolveFlow f).inaView = s.inaView := by
  unfold State.resolveFlow
  split <;> simp

@[simp] theorem inaView_flowAtCommit (kept : Bool) (keptLen : Nat) (s : State) (f : Nat) :
    (s.flowAtCommit kept keptLen f).inaView = s.inaView := by
  unfold State.flowAtCommit
  dsimp only
  split
  · rfl
  · split <;> simp

@[simp] theorem inaView_flowsAtCommit (s : State) (kept : Bool) (keptLen : Nat) :
    (s.flowsAtCommit kept keptLen).inaView = s.inaView := by
  simp [State.flowsAtCommit]

@[simp] theorem inaView_flowsStale (s : State) (p : Nat → Bool) (stale : Bool) :
    (s.flowsStale p stale).inaView = s.inaView := by
  simp [State.flowsStale]

@[simp] theorem inaView_takeIv (s : State) : s.takeIv.2.inaView = s.inaView := by
  unfold State.takeIv
  split
  · rfl
  · extract_lets v s1 s2 s3 m s4
    have h : s3.inaView = s.inaView := by simp [s1, s2, s3]
    have h4 : s4.inaView = s.inaView := by
      simp only [s4]
      split
      · exact (inaView_upd rfl rfl rfl).trans h
      · exact h
    exact h4

@[simp] theorem inaView_exhaustKeys (s : State) : s.exhaustKeys.inaView = s.inaView := by
  simp [State.exhaustKeys]

@[simp] theorem inaView_authFail (s : State) (f : Nat) : (s.authFail f).inaView = s.inaView := by
  simp [State.authFail]

/-! ### Messages of the node and the far-window bridge -/

@[simp] theorem inaView_offer (s : State) (ch : Nat) (i : Item) : (s.offer ch i).inaView = s.inaView := by
  simp [State.offer]

@[simp] theorem inaView_deliver (s : State) (ch : Nat) (f : MsgFrame) : (s.deliver ch f).inaView = s.inaView := by
  simp [State.deliver, State.offerLegacy]

@[simp] theorem inaView_deliverLegacy (s : State) (ch k : Nat) (f : MsgFrame) :
    (s.deliverLegacy ch k f).inaView = s.inaView := by
  simp [State.deliverLegacy, State.offerLegacy]

@[simp] theorem inaView_unroutable (s : State) : s.unroutable.inaView = s.inaView := by
  simp [State.unroutable]

@[simp] theorem inaView_stackSend (s : State) (f : MsgFrame) : (s.stackSend f).inaView = s.inaView := by
  simp [State.stackSend]

@[simp] theorem inaView_setMsgQueue (s : State) (p c : Nat) (q : List Queued) :
    (s.setMsgQueue p c q).inaView = s.inaView := rfl

@[simp] theorem inaView_brgEvent (s : State) (who code : Nat) (payload : Bytes) :
    (s.brgEvent who code payload).inaView = s.inaView := by
  simp [State.brgEvent]

@[simp] theorem inaView_postedFault (s : State) (who win status tag offset : Nat) :
    (s.postedFault who win status tag offset).inaView = s.inaView := by
  simp [State.postedFault]

@[simp] theorem inaView_endOutLock (s : State) : s.endOutLock.inaView = s.inaView := by
  simp [State.endOutLock]

@[simp] theorem inaView_finishRequest (s : State) (r : BrgReq) (status data : Nat) :
    (s.finishRequest r status data).inaView = s.inaView := by
  simp [State.finishRequest]

@[simp] theorem inaView_brgCopyDropped (s : State) (win bseq status : Nat) :
    (s.brgCopyDropped win bseq status).inaView = s.inaView := by
  unfold State.brgCopyDropped
  dsimp only
  split
  · simp [State.postedMap, State.readMap]
  · split <;> simp [State.postedMap, State.readMap]

@[simp] theorem inaView_msgDropped (s : State) (q : Queued) (status : Nat) :
    (s.msgDropped q status).inaView = s.inaView := by
  unfold State.msgDropped
  split <;> simp

@[simp] theorem inaView_enqueue (s : State) (p : Nat) (q : Queued) : (s.enqueue p q).inaView = s.inaView := by
  simp [State.enqueue, State.queueDrop]

@[simp] theorem inaView_sendEnd (s : State) (e : Nat) (q : Queued) : (s.sendEnd e q).inaView = s.inaView := by
  simp [State.sendEnd]

@[simp] theorem inaView_routeOwn (s : State) (f : MsgFrame) (owner : Option Nat) (text : Option Bytes) :
    (s.routeOwn f owner text).inaView = s.inaView := by
  simp [State.routeOwn]

@[simp] theorem inaView_originate (s : State) (f : MsgFrame) (owner : Option Nat) :
    (s.originate f owner).inaView = s.inaView := by
  simp [State.originate, State.stampFrame]

@[simp] theorem inaView_endLockOf (s : State) (w : Nat) : (s.endLockOf w).inaView = s.inaView := by
  simp [State.endLockOf]

@[simp] theorem inaView_putApStatus (s : State) (who status : Nat) : (s.putApStatus who status).inaView = s.inaView := by
  simp [State.putApStatus]

theorem inaView_dressRequest (s : State) (r : BrgReq) : (s.dressRequest r).2.inaView = s.inaView := by
  simp [State.dressRequest, State.takeBseq]

@[simp] theorem inaView_sendWrite (s : State) (r : BrgReq) : (s.sendWrite r).inaView = s.inaView := by
  unfold State.sendWrite
  rcases hd : s.dressRequest r with ⟨r', s'⟩
  have h := inaView_dressRequest s r
  rw [hd] at h
  simpa [State.showPosted, State.sendRequest] using h

@[simp] theorem inaView_sendRead (s : State) (r : BrgReq) : (s.sendRead r).inaView = s.inaView := by
  unfold State.sendRead
  rcases hd : s.dressRequest r with ⟨r', s'⟩
  have h := inaView_dressRequest s r
  rw [hd] at h
  simpa [State.sendRequest] using h

@[simp] theorem inaView_sendAny (s : State) (r : BrgReq) : (s.sendAny r).inaView = s.inaView := by
  simp [State.sendAny, State.sendUnlock]

@[simp] theorem inaView_closeRequests (s : State) (w status : Nat) : (s.closeRequests w status).inaView = s.inaView := by
  simp [State.closeRequests, State.turnAway]

@[simp] theorem inaView_putWin (s : State) (w state pos : Nat) : (s.putWin w state pos).inaView = s.inaView := by
  simp [State.putWin]

@[simp] theorem inaView_resolveWindow (s : State) (w : Nat) : (s.resolveWindow w).inaView = s.inaView := by
  unfold State.resolveWindow
  split <;> simp [State.unpark]

@[simp] theorem inaView_winAtCommit (kept : Bool) (keptLen : Nat) (s : State) (w : Nat) :
    (s.winAtCommit kept keptLen w).inaView = s.inaView := by
  simp [State.winAtCommit]

@[simp] theorem inaView_unlockTarget (s : State) : s.unlockTarget.inaView = s.inaView := by
  simp [State.unlockTarget, State.endTargetLock, State.releaseHeld]

@[simp] theorem inaView_brgCommit (s : State) (kept : Bool) (keptLen : Nat) :
    (s.brgCommit kept keptLen).inaView = s.inaView := by
  unfold State.brgCommit
  dsimp only
  split <;> simp

/-! ### Messages at a commit -/

@[simp] theorem inaView_reform (s : State) (q : Queued) : (s.reform q).inaView = s.inaView := by
  unfold State.reform
  dsimp only
  split
  · rfl
  · split
    · simp
    · split
      · simp
      · have h := inaView_takeIv s
        split
        next heq => rw [heq] at h; simpa using h
        next heq => rw [heq] at h; simpa using h

@[simp] theorem inaView_returnFrame (s : State) (q : Queued) : (s.returnFrame q).inaView = s.inaView := by
  unfold State.returnFrame
  split <;> simp

@[simp] theorem inaView_msgCommit (s : State) (kept : Bool) (prev : Nat) (cont : Nat → Bool) :
    (s.msgCommit kept prev cont).inaView = s.inaView := by
  simp [State.msgCommit, State.dropQueued]

@[simp] theorem inaView_abortSending (s : State) (p : Nat) : (s.abortSending p).inaView = s.inaView := by
  unfold State.abortSending
  split <;> simp

/-! ### Train time, cycle frames, keys and sleep at a commit -/

@[simp] theorem inaView_showTime (s : State) : s.showTime.inaView = s.inaView := by
  simp [State.showTime]

@[simp] theorem inaView_setTimState (s : State) (st : Nat) : (s.setTimState st).inaView = s.inaView := by
  simp [State.setTimState]

@[simp] theorem inaView_timCommit (s : State) : s.timCommit.inaView = s.inaView := by
  simp [State.timCommit, State.freeRun]

@[simp] theorem inaView_showStale (s : State) (q : Nat) : (s.showStale q).inaView = s.inaView := by
  simp [State.showStale]

@[simp] theorem inaView_showMap (s : State) (old : Nat) : (s.showMap old).inaView = s.inaView := by
  simp [State.showMap]

@[simp] theorem inaView_setKeyAge (s : State) (n : Nat) : (s.setKeyAge n).inaView = s.inaView := by
  unfold State.setKeyAge
  extract_lets n' m s1 s2
  have h : s1.inaView = s.inaView := inaView_upd rfl rfl rfl
  simp [s2, h]

@[simp] theorem inaView_cycCommit (s : State) (kept : Bool) : (s.cycCommit kept).inaView = s.inaView := by
  simp [State.cycCommit, State.showStales, State.markStaleFlows]

@[simp] theorem inaView_flipFlow (s : State) : s.flipFlow.inaView = s.inaView := by
  unfold State.flipFlow
  extract_lets s1 m w s2 s3
  have h : s2.inaView = s.inaView := (inaView_upd (a := s1) rfl rfl rfl).trans (by simp [s1])
  simp [s3, h, State.clearReplay]

@[simp] theorem inaView_flipFrame (s : State) : s.flipFrame.inaView = s.inaView := by
  simp [State.flipFrame, State.takeFrameEpoch]

@[simp] theorem inaView_keySwitch (s : State) : s.keySwitch.2.inaView = s.inaView := by
  unfold State.keySwitch
  extract_lets flow frame k s1 s2
  have h : s1.inaView = s.inaView := inaView_upd rfl rfl rfl
  simp [s2, h]

@[simp] theorem inaView_sleepTopology (s : State) : s.sleepTopology.inaView = s.inaView := by
  simp [State.sleepTopology, State.sleepEnds]

theorem inaView_delayAnew (s : State) {p : Nat} (hp : p < 4) : (s.delayAnew p).inaView = s.inaView := by
  simp [State.delayAnew, inaField_lineDelay hp]

/-! ### What a commit brings into force -/

@[simp] theorem inaView_clearHops (s : State) : s.clearHops.inaView = s.inaView := by
  simp [State.clearHops]

@[simp] theorem inaView_recordCommit (s : State) (c : Commit) (kept : Bool) :
    (s.recordCommit c kept).inaView = s.inaView := by
  simp [State.recordCommit]

/-- What state u shows of a commit at a member whose run gave it position pos. -/
structure ShowsCommit (c : Commit) (pos : Nat) (u : State) : Prop where
  counter : u.get INA_TOPO_COUNTER = c.counter % 2 ^ INA_TOPO_COUNTER.width
  vehicles : u.get INA_POS_VEH_COUNT = c.n % 2 ^ INA_POS_VEH_COUNT.width
  hash : u.get INA_HASH_HASH = c.hash % 2 ^ INA_HASH_HASH.width
  role : u.get INA_STATUS_ROLE = c.role % 2 ^ INA_STATUS_ROLE.width
  done : u.get INA_EVENT_DONE = 1
  position : u.get INA_POS_POSITION = pos % 2 ^ INA_POS_POSITION.width
  stored : u.mram.topo = c.counter

theorem ShowsCommit.of_inaView_eq {c : Commit} {pos : Nat} {a b : State} (e : b.inaView = a.inaView)
    (h : ShowsCommit c pos a) : ShowsCommit c pos b where
  counter := (State.get_of_inaView_eq e rfl).trans h.counter
  vehicles := (State.get_of_inaView_eq e rfl).trans h.vehicles
  hash := (State.get_of_inaView_eq e rfl).trans h.hash
  role := (State.get_of_inaView_eq e rfl).trans h.role
  done := (State.get_of_inaView_eq e rfl).trans h.done
  position := (State.get_of_inaView_eq e rfl).trans h.position
  stored := (State.mramTopo_of_inaView_eq e).trans h.stored

/-- The registers of a commit stay through a set of another one. -/
theorem ShowsCommit.set {c : Commit} {pos : Nat} {s : State} {f : Field} {v : Nat} (h : ShowsCommit c pos s)
    (hf : named [INA_TOPO_COUNTER, INA_POS_VEH_COUNT, INA_HASH_HASH, INA_STATUS_ROLE, INA_EVENT_DONE, INA_POS_POSITION]
      f.key = false) : ShowsCommit c pos (s.set f v) := by
  simp only [named, List.any_cons, List.any_nil, Bool.or_false, Bool.or_eq_false_iff, beq_eq_false_iff_ne] at hf
  obtain ⟨h1, h2, h3, h4, h5, h6⟩ := hf
  exact
    { counter := (State.get_set_ne s v (Ne.symm h1)).trans h.counter
      vehicles := (State.get_set_ne s v (Ne.symm h2)).trans h.vehicles
      hash := (State.get_set_ne s v (Ne.symm h3)).trans h.hash
      role := (State.get_set_ne s v (Ne.symm h4)).trans h.role
      done := (State.get_set_ne s v (Ne.symm h5)).trans h.done
      position := (State.get_set_ne s v (Ne.symm h6)).trans h.position
      stored := h.stored }

/-- The UID table is no part of what a commit shows. -/
theorem ShowsCommit.startUids {c : Commit} {pos : Nat} {s : State} (h : ShowsCommit c pos s) :
    ShowsCommit c pos (s.startUids c) := by
  unfold State.startUids
  exact ⟨h.counter, h.vehicles, h.hash, h.role, h.done, h.position, h.stored⟩

theorem ShowsCommit.ite {c : Commit} {pos : Nat} {a b : State} {p : Prop} [Decidable p] (ha : ShowsCommit c pos a)
    (hb : ShowsCommit c pos b) : ShowsCommit c pos (if p then a else b) := by
  split <;> assumption

theorem showsCommit_showCommit (s : State) (c : Commit) (kept : Bool) (since : Nat) (stored : s.mram.topo = c.counter) :
    ShowsCommit c s.ina.topo.pos (s.showCommit c kept since) := by
  unfold State.showCommit
  extract_lets i s1 s2 s3 s4 s5 s6
  have h1 : ShowsCommit c s.ina.topo.pos s1 := by
    constructor <;> simp (disch := decide) [s1, i, State.get_set_ne, stored]
  have h2 : ShowsCommit c s.ina.topo.pos s2 := .ite (h1.set rfl) h1
  have h3 : ShowsCommit c s.ina.topo.pos s3 := .ite (h2.set rfl) h2
  have h4 : ShowsCommit c s.ina.topo.pos s4 := .ite (h3.set rfl) h3
  have h5 : ShowsCommit c s.ina.topo.pos s5 := .ite (h4.set rfl) h4
  have h6 : ShowsCommit c s.ina.topo.pos s6 := ShowsCommit.of_inaView_eq (inaView_dropLine _ _) (h5.set rfl)
  exact .of_inaView_eq (inaView_line _ _ _) h6

theorem showsCommit_applyCommit (s : State) (c : Commit) : ShowsCommit c s.ina.runPos (s.applyCommit c) := by
  unfold State.applyCommit
  extract_lets since old s1 kept s2 s3 slp s4 s5 s6 u
  have h2 : ShowsCommit c s.ina.runPos s2 := by
    have shown := showsCommit_showCommit s1 c kept since rfl
    have cleared := shown.of_inaView_eq (inaView_clearHops _)
    exact cleared.startUids.of_inaView_eq (inaView_recordCommit _ _ _)
  have e3 : s3.inaView = s2.inaView := by simp [s3, inaView_delayAnew]
  clear_value s3
  have e4 : s4.inaView = s3.inaView := inaView_upd rfl rfl rfl
  have e5 : s5.inaView = s4.inaView := by simp [s5]
  have e6 : s6.inaView = s5.inaView := by simp [s6]
  have e7 : u.inaView = s6.inaView := by simp [u]
  exact h2.of_inaView_eq (by rw [inaView_sleepTopology, inaView_timCommit, e7, e6, e5, e4, e3])

/-! ### The lines that blocks assert -/

@[simp] theorem flt_ite {c : Prop} [Decidable c] {a b : State} : (if c then a else b).flt = if c then a.flt else b.flt :=
  apply_ite _ _ _ _

theorem flt_showQueue (s : State) : s.showQueue.flt = s.flt := rfl

theorem flt_unmarkNext (s : State) : s.unmarkNext.flt = s.flt := by
  simp [State.unmarkNext]

theorem flt_pushLost (s : State) : s.pushLost.flt = s.flt := by
  simp [State.pushLost, State.showQueue]

theorem flt_recTake (s : State) : s.recTake.flt = s.flt := by
  unfold State.recTake
  split
  · split <;> simp [flt_pushLost, flt_unmarkNext, flt_showQueue]
  · rfl

@[simp] theorem flt_record (s : State) (base code : Nat) (payload : Bytes) : (s.record base code payload).flt = s.flt := by
  simp [State.record, flt_recTake, State.recPush, State.showQueue, State.recRefuse]

@[simp] theorem flt_setRing (s : State) (k : Nat) (r : RingState) : (s.setRing k r).flt = s.flt := rfl

@[simp] theorem flt_hostPost (s : State) (f : Nat) (e : Emit) : (s.hostPost f e).flt = s.flt := by
  simp [State.hostPost]

@[simp] theorem flt_signal (s : State) (k : Nat) (now : Bool) : (s.signal k now).flt = s.flt := by
  simp [State.signal, State.signalNow, State.sendMsix]

@[simp] theorem flt_evWrite (s : State) (g : Nat) (entry : Bytes) : (s.evWrite g entry).flt = s.flt := by
  simp [State.evWrite, State.writeBack, State.wrapUp, State.bump, State.add]

@[simp] theorem flt_groupEvent (s : State) (g code : Nat) (payload : Bytes) : (s.groupEvent g code payload).flt = s.flt := by
  simp [State.groupEvent, State.evPost, State.bump, State.add]

@[simp] theorem flt_hostEvent (s : State) (code : Nat) (payload : Bytes) : (s.hostEvent code payload).flt = s.flt := by
  simp [State.hostEvent]

theorem flt_rateCheck (s : State) (code a b window : Nat) : (s.rateCheck code a b window).2.2.flt = s.flt := by
  unfold State.rateCheck
  split
  · rfl
  · split <;> rfl

@[simp] theorem flt_faultRecord (s : State) (n sev : Nat) (rdf : Bool) : (s.faultRecord n sev rdf).flt = s.flt := by
  have h := flt_rateCheck s 1 n 0 tenMs
  unfold State.faultRecord
  split
  next heq => rw [heq] at h; simpa using h
  next heq => rw [heq] at h; exact h

theorem lines_react (s : State) (n sev : Nat) : (s.react n sev).flt.lines = s.flt.lines := by
  have asked (t : State) (cause : Nat) : (t.askEscalate n sev cause).flt.lines = t.flt.lines := by
    unfold State.askEscalate
    split
    · split <;> rfl
    · rfl
  unfold State.react
  split
  · exact asked ..
  · split
    · dsimp only
      split
      · exact asked ..
      · rfl
    · rfl

theorem lines_latchOne (rdf : Nat) (s : State) (n : Nat) : (s.latchOne rdf n).flt.lines = s.flt.lines := by
  simp [State.latchOne, lines_react, State.bump, State.add]

@[simp] theorem flt_captureFirst (s : State) (new : Nat) : (s.captureFirst new).flt = s.flt := by
  simp [State.captureFirst, State.setB]

theorem lines_latchNew (s : State) (new rdf : Nat) : (s.latchNew new rdf).flt.lines = s.flt.lines := by
  have latched (l : List Nat) (t : State) : (l.foldl (State.latchOne rdf) t).flt.lines = t.flt.lines := by
    induction l generalizing t with
    | nil => rfl
    | cons n l ih => exact (ih _).trans (lines_latchOne rdf t n)
  simp [State.latchNew, apply_ite FltState.lines, latched]

theorem lines_raiseLines (s : State) (mask : Nat) : (s.raiseLines mask).flt.lines = s.flt.lines := by
  simp [State.raiseLines, State.showStatus, apply_ite FltState.lines, lines_latchNew]

theorem hasBit_setBitOf (v i : Nat) : hasBit (setBitOf v i) i = true := by
  unfold setBitOf
  split
  next h => exact h
  next h =>
    have hpos : 0 < 2 ^ i := Nat.two_pow_pos i
    simp only [hasBit, beq_iff_eq, Nat.add_div_right _ hpos] at h ⊢
    omega

/-- A line that a block asserts is up (R405). -/
theorem hasBit_lines_assertLine (s : State) (n : Nat) : hasBit (s.assertLine n).flt.lines n = true := by
  unfold State.assertLine
  split
  next h => exact h
  next => rw [lines_raiseLines]; exact hasBit_setBitOf _ _

/-! ### Sending -/

@[simp] theorem inaView_sendIna (s : State) (e : Nat) (f : InaFrame) : (s.sendIna e f).inaView = s.inaView := by
  simp [State.sendIna]

theorem ina_sendIna (s : State) (e : Nat) (f : InaFrame) : (s.sendIna e f).ina = s.ina :=
  State.ina_of_inaView_eq (inaView_sendIna s e f)

theorem get_sendIna (s : State) (e : Nat) (f : InaFrame) {g : Field} (hg : inaField g = true) :
    (s.sendIna e f).get g = s.get g :=
  State.get_of_inaView_eq (inaView_sendIna s e f) hg

/-- A node that sends sends the frame on the end, where it is linked. -/
theorem mem_out_sendIna {s : State} {e : Nat} (f : InaFrame) (hs : s.inaSends = true) (he : s.endUp e = true)
    (hm : s.mode ≠ modeBorder) : .ina e f ∈ (s.sendIna e f).out := by
  have hb : (s.mode == modeBorder) = false := beq_eq_false_iff_ne.mpr hm
  simp [State.sendIna, hs, he, hb]

/-! ### The topology hash -/

/-- The hash over a list of UIDs, inverted, is the CRC-32 register after their bytes. -/
theorem foldl_hashOn (l : List Nat) (c : Nat) :
    l.foldl hashOn (Nat.xor c 0xFFFFFFFF) =
      Nat.xor ((l.flatMap (le 8)).foldl (crcByteLsb 0xEDB88320) c) 0xFFFFFFFF := by
  induction l generalizing c with
  | nil => rfl
  | cons uid l ih =>
    have inverted : Nat.xor (Nat.xor c 0xFFFFFFFF) 0xFFFFFFFF = c := Nat.xor_xor_cancel_right c _
    rw [List.foldl_cons, hashOn, inverted, ih, List.flatMap_cons, List.foldl_append]

/-- The hash is the CRC-32 of the UIDs in order, each as 8 bytes, little-endian (R101). -/
theorem foldl_hashOn_eq_crc32 (l : List Nat) : l.foldl hashOn 0 = crc32 (l.flatMap (le 8)) :=
  foldl_hashOn l 0xFFFFFFFF

/-! ### The first copy of a frame (R98) -/

/-- The frames last acted on at the ends are those given. -/
def State.withSeen (s : State) (x y : Option (Nat × InaFrame)) : State :=
  s.inaMap (fun i => { i with seen1 := x, seen2 := y })

/-- A copy is remembered, whether it is acted on or not, and nothing else changes. -/
theorem firstCopy_snd (s : State) (p kind : Nat) (f : InaFrame) :
    ∃ x y, (s.firstCopy p kind f).2 = s.withSeen x y := by
  have put (x : Option (Nat × InaFrame)) : ∃ y z,
      s.inaMap (fun i => if portEnd p = 1 then { i with seen1 := x } else { i with seen2 := x }) = s.withSeen y z := by
    by_cases he : portEnd p = 1
    · exact ⟨x, s.ina.seen2, by simp only [if_pos he]; rfl⟩
    · exact ⟨s.ina.seen1, x, by simp only [if_neg he]; rfl⟩
  unfold State.firstCopy
  split
  · exact ⟨s.ina.seen1, s.ina.seen2, rfl⟩
  · dsimp only
    split
    · split
      · exact put none
      · exact put _
    · exact put _

theorem exec_discReceive {s : State} {p : Nat} {f : InaFrame} (h : (s.firstCopy p 3 f).1 = true) :
    exec (.discReceive p f) s = .next ((s.firstCopy p 3 f).2.takeDisc (portEnd p) f).settled := by
  change execDiscReceive p f s = _
  rcases hc : s.firstCopy p 3 f with ⟨b, t⟩
  obtain rfl : b = true := by simpa [hc] using h
  simp only [execDiscReceive, finish, hc]

theorem exec_retReceive {s : State} {p : Nat} {f : InaFrame} (h : (s.firstCopy p 4 f).1 = true) :
    exec (.retReceive p f) s = .next ((s.firstCopy p 4 f).2.takeRet (portEnd p) f).settled := by
  change execRetReceive p f s = _
  rcases hc : s.firstCopy p 4 f with ⟨b, t⟩
  obtain rfl : b = true := by simpa [hc] using h
  simp only [execRetReceive, finish, hc]

theorem exec_inaugCommitReceive {s : State} {p : Nat} {f : InaFrame} (h : (s.firstCopy p 5 f).1 = true) :
    exec (.inaugCommitReceive p f) s = .next ((s.firstCopy p 5 f).2.takeCommit (portEnd p) f).settled := by
  change execInaugCommitReceive p f s = _
  rcases hc : s.firstCopy p 5 f with ⟨b, t⟩
  obtain rfl : b = true := by simpa [hc] using h
  simp only [execInaugCommitReceive, finish, hc]

theorem exec_doneReceive {s : State} {p : Nat} {f : InaFrame} (h : (s.firstCopy p 6 f).1 = true) :
    exec (.doneReceive p f) s = .next ((s.firstCopy p 6 f).2.takeDone (portEnd p) f).settled := by
  change execDoneReceive p f s = _
  rcases hc : s.firstCopy p 6 f with ⟨b, t⟩
  obtain rfl : b = true := by simpa [hc] using h
  simp only [execDoneReceive, finish, hc]

/-! ### DISC (R103, R104) -/

theorem serialNewer_self (w a : Nat) : serialNewer w a a = false := by
  simp [serialNewer, subMod]

/-- The attempt of the run in progress leads into no other run. -/
theorem joins_self {s : State} (hrun : s.inRun = true) : s.joins s.ina.attempt = false := by
  simp [State.joins, hrun, serialNewer_self]

/-- A DISC of a claim that is beaten is discarded. -/
theorem takeDisc_of_beaten {s : State} {e : Nat} {d : InaFrame} {b : Claim} (hrun : s.inRun = true)
    (ha : d.attempt = s.ina.attempt) (hb : s.ina.best = some b) (beaten : b.better (inaClaim d) = true) :
    s.takeDisc e d = s := by
  simp [State.takeDisc, ha, joins_self hrun, hb, beaten]

/-- A DISC of a claim that is not beaten takes the node's places. -/
theorem takeDisc_of_not_beaten {s : State} {e : Nat} {d : InaFrame} (hrun : s.inRun = true)
    (ha : d.attempt = s.ina.attempt) (hl : s.legacyCount = 0) (hp : d.pos < 256)
    (hb : s.ina.best = none ∨ ∃ b, s.ina.best = some b ∧ b.better (inaClaim d) = false) :
    s.takeDisc e d = s.passDisc e d := by
  have fits : ¬256 < d.pos + 1 + s.legacyCount := by omega
  obtain hb | ⟨b, hb, hn⟩ := hb
  · simp [State.takeDisc, fits, ha, joins_self hrun, hrun, hb]
  · simp [State.takeDisc, fits, ha, joins_self hrun, hrun, hb, hn]

/-- The place that a DISC on end e gives a node without legacy positions. -/
def State.nextPlace (s : State) (e : Nat) (d : InaFrame) : Place :=
  (d.pos + 1, hashOn d.hash s.trainUid, e - 1, s.nbrUid e)

/-- The DISC as a node without legacy positions sends it on. -/
def State.nextDisc (s : State) (e : Nat) (d : InaFrame) : InaFrame :=
  { d with
    kind := 3, topo := serialMax d.topo s.topo, hash := hashOn d.hash s.trainUid, pos := d.pos + 1
    kept := Nat.min d.kept (s.lowestChanged [(0, s.nextPlace e d)])
    flags := if s.cabActive && s.bothEnds then setBitOf d.flags 4 else d.flags }

/-- The node has its place in the run, and the claim of the DISC is the best. -/
def State.withPlace (s : State) (e : Nat) (d : InaFrame) : State :=
  s.inaMap (fun i => { i with
    runPos := d.pos + 1, runHash := hashOn d.hash s.trainUid, runOrient := e - 1, runEnd := e, runBlock := []
    best := some (inaClaim d), mark := true })

theorem inaClaim_nextDisc (s : State) (e : Nat) (d : InaFrame) : inaClaim (s.nextDisc e d) = inaClaim d := by
  have cab (v : Nat) : hasBit (setBitOf v 4) 0 = hasBit v 0 := by
    unfold setBitOf hasBit
    split <;> [rfl; (congr 1; omega)]
  have prio (v : Nat) : bits (setBitOf v 4) 1 3 = bits v 1 3 := by
    unfold setBitOf bits
    split <;> [rfl; omega]
  unfold inaClaim State.nextDisc
  dsimp only
  split <;> simp [cab, prio]

theorem places_self (s : State) (e : Nat) (d : InaFrame) (hl : s.legacyCount = 0) :
    s.places (e - 1) (d.pos + 1) d.hash (s.nbrUid e) (s.blockMembers (e - 1)) = [(0, s.nextPlace e d)] := by
  have alone : s.blockMembers (e - 1) = [0] := by simp [State.blockMembers, hl]
  rw [alone]; rfl

/-- The RET with which a node without legacy positions answers a DISC. -/
def State.nextRet (s : State) (e : Nat) (d : InaFrame) : InaFrame :=
  { s.nextDisc e d with
    kind := 4
    flags := if !s.bothEnds && s.cabActive then setBitOf (s.nextDisc e d).flags 5 else (s.nextDisc e d).flags }

/-- A node without legacy positions sends the DISC on, or answers it with a RET. -/
theorem passDisc_eq (s : State) (e : Nat) (d : InaFrame) (hl : s.legacyCount = 0) :
    s.passDisc e d =
      if s.endUp (3 - e) then ((s.withPlace e d).set INA_STATUS_STATE inaRelay).sendIna (3 - e) (s.nextDisc e d)
      else (((s.withPlace e d).inaMap (fun i => { i with ret := some (s.nextRet e d) })).set INA_STATUS_STATE
        inaTailWait).sendIna e (s.nextRet e d) := by
  have taken : ((s.takePlaces [(0, s.nextPlace e d)] e).inaMap
      (fun i => { i with best := some (inaClaim (s.nextDisc e d)), mark := true })) = s.withPlace e d := by
    rw [inaClaim_nextDisc]
    simp only [State.takePlaces, hl]
    rfl
  rw [← taken]
  unfold State.passDisc
  extract_lets orient l
  have places : l = [(0, s.nextPlace e d)] := places_self s e d hl
  rw [places]
  rfl

theorem inaState_set_same (s : State) (v : Nat) (hv : v < 8) : (s.set INA_STATUS_STATE v).inaState = v :=
  (State.get_set_same s _ v).trans (Nat.mod_eq_of_lt hv)

/-- The unit's state is no part of what lets it send. -/
theorem inaSends_set_inaState (s : State) (v : Nat) : (s.set INA_STATUS_STATE v).inaSends = s.inaSends := by
  simp (disch := decide) [State.inaSends, State.running, State.inModes, State.mode, State.permission, State.pairMember,
    State.stackMember, State.noLines, State.makerBlank, State.lc, State.flag, State.get_set_ne]

theorem endUp_set_inaState (s : State) (e v : Nat) : (s.set INA_STATUS_STATE v).endUp e = s.endUp e := by
  have up (p : Nat) (hp : p < 4) : (s.set INA_STATUS_STATE v).lineUp p = s.lineUp p := by
    unfold State.lineUp
    rw [State.get_set_ne]
    simp only [INA_STATUS_STATE, LN_STATUS_LINK]
    omega
  unfold State.endUp endPorts
  split <;> simp [up]

theorem mode_set_inaState (s : State) (v : Nat) : (s.set INA_STATUS_STATE v).mode = s.mode :=
  State.get_set_ne s v (by decide)

/-- What the node holds after a DISC that it did not discard. -/
theorem passDisc_holds (s : State) (e : Nat) (d : InaFrame) (hl : s.legacyCount = 0) :
    (s.passDisc e d).ina.runPos = d.pos + 1 ∧ (s.passDisc e d).ina.runHash = hashOn d.hash s.trainUid ∧
    (s.passDisc e d).ina.runEnd = e ∧ (s.passDisc e d).ina.best = some (inaClaim d) ∧
    (s.passDisc e d).inaState = (if s.endUp (3 - e) then inaRelay else inaTailWait) ∧ (s.passDisc e d).topo = s.topo := by
  rw [passDisc_eq s e d hl]
  split
  all_goals
    rw [ina_sendIna, State.inaState, State.topo, get_sendIna _ _ _ rfl, get_sendIna _ _ _ rfl]
    refine ⟨rfl, rfl, rfl, rfl, ?_, ?_⟩
    · exact inaState_set_same _ _ (by decide)
    · exact State.get_set_ne _ _ (by decide)

/-- Where the train goes on, the DISC goes on with the node's position and the hash continued. -/
theorem nextDisc_mem_out_passDisc (s : State) (e : Nat) (d : InaFrame) (hl : s.legacyCount = 0)
    (hs : s.inaSends = true) (hm : s.mode ≠ modeBorder) (he : s.endUp (3 - e) = true) :
    .ina (3 - e) (s.nextDisc e d) ∈ (s.passDisc e d).out := by
  rw [passDisc_eq s e d hl, if_pos he]
  refine mem_out_sendIna _ ?_ ?_ ?_
  · rw [inaSends_set_inaState]; exact hs
  · rw [endUp_set_inaState]; exact he
  · rw [mode_set_inaState]; exact hm

/-- The answer to a DISC of the run whose claim is not beaten. -/
theorem exec_discReceive_of_not_beaten {p : Nat} {d : InaFrame} {s : State} (first : (s.firstCopy p 3 d).1 = true)
    (hrun : s.inRun = true) (ha : d.attempt = s.ina.attempt) (hl : s.legacyCount = 0) (hp : d.pos < 256)
    (hb : s.ina.best = none ∨ ∃ b, s.ina.best = some b ∧ b.better (inaClaim d) = false) :
    ∃ x y, exec (.discReceive p d) s = .next ((s.withSeen x y).passDisc (portEnd p) d).settled := by
  obtain ⟨x, y, seen⟩ := firstCopy_snd s p 3 d
  refine ⟨x, y, ?_⟩
  rw [exec_discReceive first, seen, takeDisc_of_not_beaten (s := s.withSeen x y) hrun ha hl hp hb]

/-! ### RET, COMMIT and DONE (R105, R106) -/

theorem takeRet_of_relay {s : State} {e : Nat} {r : InaFrame} (hr : s.ofRun r = true) (hs : s.inaState = inaRelay) :
    s.takeRet e r = (s.inaMap (fun i => { i with ret := some r })).sendIna (3 - e) r := by
  simp [State.takeRet, hr, hs]

theorem takeRet_of_head {s : State} {e : Nat} {r : InaFrame} (hr : s.ofRun r = true) (hs : s.inaState = inaHeadWait) :
    s.takeRet e r = s.answerRet e r := by
  simp [State.takeRet, hr, hs]

/-- The head's commit of a RET, under a counter above both. -/
theorem answerRet_shows (s : State) (e : Nat) (r : InaFrame) (hc : (serialMax r.topo s.topo + 1) % 65536 ≠ 0) :
    ∃ kept flags, ShowsCommit ⟨(serialMax r.topo s.topo + 1) % 65536, r.hash, r.pos, kept, flags, s.trainUid, roleHead⟩
      s.ina.runPos (s.answerRet e r) ∧ (s.answerRet e r).ina.committed = true := by
  unfold State.answerRet
  extract_lets c counter kept flags f t
  have ht : ShowsCommit ⟨counter, r.hash, r.pos, kept, flags, s.trainUid, roleHead⟩ s.ina.runPos t :=
    showsCommit_applyCommit s _
  have hcounter : counter = c := if_neg hc
  rw [hcounter] at ht
  clear_value t
  refine ⟨kept, flags, .of_inaView_eq (inaView_sendIna _ _ _) ?_, ?_⟩
  · exact ⟨ht.counter, ht.vehicles, ht.hash, ht.role, ht.done, ht.position, ht.stored⟩
  · rw [ina_sendIna]; rfl

/-- The commit that a COMMIT frame brings to a node that is not the head. -/
def State.commitOf (s : State) (f : InaFrame) : Commit :=
  ⟨f.topo, f.hash, f.pos, f.kept, f.flags, f.uid, if s.inaState = inaTailWait then roleTail else roleMid⟩

/-- A COMMIT of the run is applied, and the node is out of the run; what it sends then is no part of that. -/
theorem inaView_takeCommit {s : State} {e : Nat} {f : InaFrame} (hr : s.ofRun f = true)
    (hs : s.inaState = inaRelay ∨ s.inaState = inaTailWait) :
    (s.takeCommit e f).inaView = ((s.applyCommit (s.commitOf f)).set INA_STATUS_STATE inaIdle).inaView := by
  obtain hs | hs := hs <;> simp [State.takeCommit, State.commitOf, hr, hs]

theorem takeDone_of_committed {s : State} {e : Nat} {f : InaFrame} (ht : f.topo = s.topo) (hc : s.ina.committed = true) :
    s.takeDone e f = (s.inaMap (fun i => { i with committed := false })).set INA_STATUS_STATE inaIdle := by
  simp [State.takeDone, ht, hc]

/-! ### The end of a run without a commit (R107, R109) -/

/-- A run that is given up waits in SETTLE for its restart; the fourth in a row sets FAILED. -/
theorem abandonRun_holds (s : State) (hf : s.flag INA_STATUS_FAILED = false) :
    s.abandonRun.inaState = inaSettle ∧ s.abandonRun.ina.restartWait = true ∧
    s.abandonRun.ina.attempt = (s.ina.attempt + 1) % 256 ∧ s.abandonRun.get INA_EVENT_RESTART = 1 ∧
    (3 ≤ s.ina.restarts → s.abandonRun.get INA_STATUS_FAILED = 1 ∧ hasBit s.abandonRun.flt.lines 35 = true) ∧
    (s.ina.restarts < 3 → s.abandonRun.get INA_STATUS_FAILED = 0) := by
  unfold State.abandonRun
  extract_lets n a t u
  have state : u.get INA_STATUS_STATE = inaSettle := by
    simp (disch := decide) [u, State.get_set_ne]
  have event : u.get INA_EVENT_RESTART = 1 := State.get_set_same _ INA_EVENT_RESTART 1
  have flag : u.flag INA_STATUS_FAILED = false := by
    rw [← hf]
    simp (disch := decide) [u, t, State.flag, State.get_set_ne, State.bump, State.add, State.inaMap]
  have waits : u.ina.restartWait = true ∧ u.ina.attempt = a := by simp [u, t, State.bump, State.add, State.inaMap]
  clear_value u
  by_cases hn : n < 4
  · rw [if_pos (.inl hn)]
    have unset : u.get INA_STATUS_FAILED = 0 := by
      have lt := u.get_lt INA_STATUS_FAILED
      have ne : u.get INA_STATUS_FAILED ≠ 1 := beq_eq_false_iff_ne.mp flag
      change _ < 2 at lt
      omega
    exact ⟨state, waits.1, waits.2, event, fun h => absurd hn (by omega), fun _ => unset⟩
  · rw [if_neg (by simp [hn, flag])]
    have shown (f : Field) (h : inaField f = true) :=
      State.get_of_inaView_eq (inaView_assertLine (u.load [(INA_STATUS_FAILED, 1), (INA_EVENT_FAILED, 1)]) 35) h
    rw [State.inaState, shown _ rfl, shown _ rfl, shown _ rfl, State.ina_of_inaView_eq (inaView_assertLine _ _)]
    refine ⟨?_, waits.1, waits.2, ?_, fun _ => ⟨?_, hasBit_lines_assertLine _ _⟩, fun h => absurd h (by omega)⟩
    · simpa (disch := decide) [State.get_set_ne] using state
    · simpa (disch := decide) [State.get_set_ne] using event
    · simp (disch := decide) [State.get_set_ne]

/-! ### The frames of a run -/

/-- Settles O23. A DISC, RET, COMMIT or DONE that is acted on meets the state after `firstCopy`, which has nothing but the
frame remembered; what each does there is said above, and a run that times out is given up. -/
theorem runFramesCommit : Obligations.RunFramesCommit := by
  unfold Obligations.RunFramesCommit
  refine ⟨?disc, ?beaten, ?head, ?relay, ?commit, ?done, ?timeout, fun s => rfl, ?sent, foldl_hashOn_eq_crc32⟩
  case disc =>
    intro p d s first hrun ha hl hp hb
    obtain ⟨x, y, answer⟩ := exec_discReceive_of_not_beaten first hrun ha hl hp hb
    exact ⟨_, answer, passDisc_holds (s.withSeen x y) (portEnd p) d hl⟩
  case beaten =>
    intro p d b s first hrun ha hb beaten
    obtain ⟨x, y, seen⟩ := firstCopy_snd s p 3 d
    rw [exec_discReceive first, seen, takeDisc_of_beaten (s := s.withSeen x y) hrun ha hb beaten]
  case head =>
    intro p r s first hr hs hn hh hc
    obtain ⟨x, y, seen⟩ := firstCopy_snd s p 4 r
    obtain ⟨kept, flags, shows, committed⟩ := answerRet_shows (s.withSeen x y) (portEnd p) r hc
    refine ⟨_, exec_retReceive first, ?_⟩
    rw [seen, takeRet_of_head (s := s.withSeen x y) hr hs]
    exact ⟨shows.counter.trans (Nat.mod_eq_of_lt (Nat.mod_lt _ (by decide))),
      shows.vehicles.trans (Nat.mod_eq_of_lt (Nat.lt_of_le_of_lt hn (by decide))),
      shows.hash.trans (Nat.mod_eq_of_lt hh), shows.role, committed, shows.done, shows.stored⟩
  case relay =>
    intro p r s first hr hs
    obtain ⟨x, y, seen⟩ := firstCopy_snd s p 4 r
    refine ⟨_, exec_retReceive first, ?_⟩
    rw [seen, takeRet_of_relay (s := s.withSeen x y) hr hs]
    exact ⟨congrArg InaState.ret (ina_sendIna _ _ _), (get_sendIna _ _ _ rfl).trans hs, get_sendIna _ _ _ rfl⟩
  case commit =>
    intro p f s first hr hs ht hn hh
    obtain ⟨x, y, seen⟩ := firstCopy_snd s p 5 f
    have view := inaView_takeCommit (s := s.withSeen x y) (e := portEnd p) hr hs
    have shows := ((showsCommit_applyCommit (s.withSeen x y) ((s.withSeen x y).commitOf f)).set (f := INA_STATUS_STATE)
      (v := inaIdle) rfl).of_inaView_eq view
    refine ⟨_, exec_inaugCommitReceive first, ?_⟩
    rw [seen]
    refine ⟨?_, shows.counter.trans (Nat.mod_eq_of_lt ht),
      shows.vehicles.trans (Nat.mod_eq_of_lt (Nat.lt_of_le_of_lt hn (by decide))),
      shows.hash.trans (Nat.mod_eq_of_lt hh), ?_, shows.position, shows.stored⟩
    · exact (State.get_of_inaView_eq view rfl).trans (State.get_set_same _ INA_STATUS_STATE inaIdle)
    · refine shows.role.trans (Nat.mod_eq_of_lt ?_)
      dsimp only [State.commitOf]
      split <;> decide
  case done =>
    intro p f s first ht hc
    obtain ⟨x, y, seen⟩ := firstCopy_snd s p 6 f
    refine ⟨_, exec_doneReceive first, ?_⟩
    rw [seen, takeDone_of_committed (s := s.withSeen x y) ht hc]
    exact ⟨inaState_set_same _ _ (by decide), rfl, State.get_set_ne _ _ (by decide)⟩
  case timeout =>
    intro s hr hrun hf
    refine ⟨s.abandonRun, ?_, abandonRun_holds s hf⟩
    change execRunTimeout s = _
    simp [execRunTimeout, finish, hr, hrun]
  case sent =>
    intro p d s first hrun ha hl hp hb hs hm he
    obtain ⟨x, y, answer⟩ := exec_discReceive_of_not_beaten first hrun ha hl hp hb
    exact ⟨_, answer, _, nextDisc_mem_out_passDisc (s.withSeen x y) (portEnd p) d hl hs hm he, rfl, rfl, rfl, rfl, rfl⟩

end Sys2Proof.Machine
end

section
/-! PROOFS. O26: declarations of slot sizes and the slot maps of the head (R129 to R133, R153). What a map shows must
outlast its own sending, so the proof turns on how little a control frame to every device changes: `SendsOnly`. -/

namespace Sys2Proof.Machine

open Reg

/-! ### Control frames to every device (R153, R154) -/

/-- From a to b only frames were put into queues, put out or dropped: beside the registers that count a drop, the state of
the switch and the outputs, b is a. -/
structure SendsOnly (a b : State) : Prop where
  get : ∀ f, named [MSG_STAT2_QUEUE_DROP, MSG_EVENT_QUEUE_DROP] f.key = false → b.get f = a.get f
  rest : b = { a with regs := b.regs, msg := b.msg, out := b.out }

theorem SendsOnly.refl (s : State) : SendsOnly s s := ⟨fun _ _ => rfl, rfl⟩

theorem SendsOnly.trans {a b c : State} (h : SendsOnly a b) (k : SendsOnly b c) : SendsOnly a c := by
  refine ⟨fun f hf => (k.get f hf).trans (h.get f hf), ?_⟩
  have rest := k.rest
  rw [h.rest] at rest
  exact rest

theorem SendsOnly.cyc {a b : State} (h : SendsOnly a b) : b.cyc = a.cyc := by rw [h.rest]

theorem SendsOnly.rcd {a b : State} (h : SendsOnly a b) : b.rcd = a.rcd := by rw [h.rest]

theorem SendsOnly.foldl {α : Type} {g : State → α → State} (hg : ∀ t a, SendsOnly t (g t a)) (l : List α) (s : State) :
    SendsOnly s (l.foldl g s) := by
  induction l generalizing s with
  | nil => exact .refl s
  | cons a l ih => exact (hg s a).trans (ih _)

/-- A drop at a queue, of a frame that is none of the bridge's. -/
theorem sendsOnly_queueDrop (s : State) {q : Queued} (hq : bridgeOwner q = none) : SendsOnly s (s.queueDrop q) := by
  simp only [State.queueDrop, State.msgDropped, hq]
  refine ⟨fun f hf => ?_, rfl⟩
  simp only [named, List.any_cons, List.any_nil, Bool.or_false, Bool.or_eq_false_iff, beq_eq_false_iff_ne] at hf
  obtain ⟨count, event⟩ := hf
  exact (State.get_set_ne _ _ event).trans (State.get_set_ne _ _ count)

theorem sendsOnly_enqueue (s : State) (p : Nat) {q : Queued} (hq : bridgeOwner q = none) :
    SendsOnly s (s.enqueue p q) := by
  unfold State.enqueue
  dsimp only
  split
  next => exact ⟨fun _ _ => rfl, rfl⟩
  next => exact sendsOnly_queueDrop s hq

theorem sendsOnly_sendEnd (s : State) (e : Nat) {q : Queued} (hq : q.owner = none) : SendsOnly s (s.sendEnd e q) :=
  .foldl (fun t p => sendsOnly_enqueue t p (by simp only [bridgeOwner, hq])) _ _

theorem sendsOnly_stackSend (s : State) (f : MsgFrame) : SendsOnly s (s.stackSend f) := by
  unfold State.stackSend
  split
  next => exact ⟨fun _ _ => rfl, rfl⟩
  next => exact .refl s

/-- A node delivers no frame of its own to a group to itself. -/
theorem sendsOnly_routeOwn (s : State) {f : MsgFrame} (group : addrGroup f.dst = true) :
    SendsOnly s (s.routeOwn f none) := by
  unfold State.routeOwn
  simp only [group, if_true, Bool.not_true, Bool.false_and, Bool.and_false, Bool.false_eq_true, if_false]
  split
  next => exact .refl s
  next =>
    split
    next => exact sendsOnly_stackSend s f
    next =>
      refine .trans ?_ (.foldl (fun t e => sendsOnly_sendEnd t e rfl) _ _)
      split
      next => exact sendsOnly_stackSend s f
      next => exact .refl s

theorem sendsOnly_sendMap (s : State) (m : SlotMap) : SendsOnly s (s.sendMap m) := by
  have stamped : SendsOnly s (s.stampFrame (controlFrame 4 groupAll (mapPayload m))).2 := ⟨fun _ _ => rfl, rfl⟩
  have group : addrGroup groupAll = true := by decide
  exact stamped.trans (sendsOnly_routeOwn _ group)

/-! ### Assigned sizes (R132) -/

theorem length_assignSizes (used : Nat) (l : List Nat) : (assignSizes used l).length = l.length := by
  induction l generalizing used with
  | nil => rfl
  | cons x l ih =>
    unfold assignSizes
    split
    next => simp only [List.length_cons, ih]
    next => simp only [List.length_cons, List.length_map]

theorem sum_assignSizes_le {used : Nat} (l : List Nat) (fits : used ≤ 1024) :
    used + (assignSizes used l).sum ≤ 1024 := by
  induction l generalizing used with
  | nil => simpa [assignSizes] using fits
  | cons x l ih =>
    unfold assignSizes
    split
    next more =>
      have := ih more
      simp only [List.sum_cons]
      omega
    next => simpa using fits

/-- A position gets its size where the sizes up to it fit behind what is in use, and 0 elsewhere. -/
theorem getD_assignSizes (used : Nat) (l : List Nat) (k : Nat) (hk : k < l.length) :
    (assignSizes used l).getD k 0 = if used + (l.take (k + 1)).sum ≤ 1024 then l.getD k 0 else 0 := by
  induction l generalizing used k with
  | nil => exact absurd hk (Nat.not_lt_zero k)
  | cons x l ih =>
    unfold assignSizes
    rw [List.take_succ_cons, List.sum_cons, ← Nat.add_assoc]
    split
    next more =>
      cases k with
      | zero => simp [more]
      | succ k => simpa using ih (used + x) k (Nat.lt_of_succ_lt_succ hk)
    next cut =>
      rw [if_neg (by omega)]
      cases k <;> simp

/-- No position is cut exactly where all sizes fit. -/
theorem firstCut_eq_zero_iff {q used : Nat} (l : List Nat) (hq : q ≠ 0) (fits : used ≤ 1024) :
    firstCut q used l = 0 ↔ used + l.sum ≤ 1024 := by
  induction l generalizing q used with
  | nil => simpa [firstCut] using fits
  | cons x l ih =>
    unfold firstCut
    rw [List.sum_cons, ← Nat.add_assoc]
    split
    next more => exact ih (Nat.succ_ne_zero q) more
    next cut => exact iff_of_false hq (by omega)

theorem firstCut_pos_iff (l : List Nat) : 0 < firstCut 1 0 l ↔ 1024 < l.sum := by
  rw [Nat.pos_iff_ne_zero, Ne, firstCut_eq_zero_iff l Nat.one_ne_zero (Nat.zero_le _), Nat.zero_add, Nat.not_le]

/-! ### A new map (R131 to R133) -/

/-- While the write engine is busy, an event that the queue takes stands in it. -/
theorem stamp_mem_queue_record (s : State) (base code : Nat) (payload : Bytes) (runs : s.recorderRuns = true)
    (busy : s.rcd.writing.isSome = true) (takes : s.queueTakes code = true) :
    s.stamp base code payload ∈ (s.record base code payload).rcd.queue := by
  have free : s.rcd.writing.isNone = false := by simpa using busy
  simp [State.record, State.recPush, State.showQueue, State.recTake, runs, takes, free]

theorem cyc_record (s : State) (base code : Nat) (payload : Bytes) : (s.record base code payload).cyc = s.cyc :=
  (reports_record s base code payload (.refl s)).cyc

theorem get_record (s : State) (base code : Nat) (payload : Bytes) {f : Field} (hf : reportField f = false) :
    (s.record base code payload).get f = s.get f :=
  (reports_record s base code payload (.refl s)).get f hf

/-- Whether the recorder runs is read from the mode and the life cycle alone (R433). -/
theorem recorderRuns_set (s : State) {f : Field} (v : Nat) (mode : f.key ≠ GLB_MODE_MODE.key)
    (lc : f.key ≠ GLB_LC_STATE.key) : (s.set f v).recorderRuns = s.recorderRuns := by
  simp only [State.recorderRuns, State.mode, State.lc, s.get_set_ne v mode, s.get_set_ne v lc]

/-- The new map is the latest one, and MAP_TRUNC shows, signals and records whether it cuts a size. -/
theorem issueMap_holds (s : State) :
    s.issueMap.cyc.latest.sizes = assignSizes 0 s.askedSizes ∧
    s.issueMap.get CYC_STATUS_MAP_TRUNC = b2n (decide (1024 < s.askedSizes.sum)) ∧
    (1024 < s.askedSizes.sum → s.issueMap.get CYC_EVENT_MAP_TRUNC = 1) ∧
    (1024 < s.askedSizes.sum → s.recorderRuns = true → s.rcd.writing.isSome = true → s.queueTakes 0x2003 = true →
      ∃ e ∈ s.issueMap.rcd.queue, e.code = 0x2003) := by
  unfold State.issueMap
  extract_lets asked seq m cut s1 s2 s3 s4
  have hcut : 0 < cut ↔ 1024 < asked.sum := firstCut_pos_iff asked
  have sent : SendsOnly s4 (s4.sendMap m) := sendsOnly_sendMap s4 m
  have closes : s4 = { s3 with cyc := s4.cyc } ∧ s4.cyc.latest = s3.cyc.latest := by
    simp only [s4]
    split <;> exact ⟨rfl, rfl⟩
  obtain ⟨rest4, latest4⟩ := closes
  have get4 (f : Field) : s4.get f = s3.get f := by rw [rest4]; rfl
  have rcd4 : s4.rcd = s3.rcd := by rw [rest4]
  have trunc2 : s2.get CYC_STATUS_MAP_TRUNC = b2n (decide (0 < cut)) :=
    (State.get_set_same _ CYC_STATUS_MAP_TRUNC _).trans (by cases decide (0 < cut) <;> rfl)
  have runs2 : s2.recorderRuns = s.recorderRuns := recorderRuns_set (s1.holdMap m) _ (by decide) (by decide)
  rw [sent.cyc, sent.rcd, sent.get _ rfl, sent.get _ rfl, latest4, rcd4, get4, get4, ← decide_eq_decide.mpr hcut, ← hcut]
  by_cases fits : cut = 0
  · have kept : s3 = s2 := if_pos fits
    rw [kept]
    exact ⟨rfl, trunc2, fun cuts => absurd fits cuts.ne', fun cuts => absurd fits cuts.ne'⟩
  · obtain ⟨payload, reported⟩ : ∃ payload, s3 = (s2.set CYC_EVENT_MAP_TRUNC 1).record 0xB000 0x2003 payload :=
      ⟨_, if_neg fits⟩
    rw [reported, cyc_record, get_record _ _ _ _ rfl, get_record _ _ _ _ rfl]
    refine ⟨rfl, ?_, fun _ => State.get_set_same _ CYC_EVENT_MAP_TRUNC 1, fun _ runs busy takes => ?_⟩
    · exact (State.get_set_ne _ _ (by decide)).trans trunc2
    · refine ⟨_, stamp_mem_queue_record _ _ _ _ ?_ busy takes, rfl⟩
      exact (recorderRuns_set s2 1 (by decide) (by decide)).trans (runs2.trans runs)

/-! ### Declarations (R130, R131, R153) -/

theorem sendDecl_of_not_head {s : State} (hh : s.isHead = false) :
    s.sendDecl = ({ s with cyc := { s.cyc with declDue := false } }).originate (controlFrame 3 0 s.declPayload) none :=
  if_neg (Bool.eq_false_iff.mp hh)

theorem sendDecl_of_head {s : State} (hh : s.isHead = true) :
    s.sendDecl = (s.cycMap (fun c => { c with declDue := false })).takeDecl s.position s.ownSize := if_pos hh

theorem decls_takeDecl (s : State) (q size : Nat) : (s.takeDecl q size).cyc.decls = tabPut q size s.cyc.decls := rfl

/-- A declaration of at most 64 units by a position of the train is taken. -/
theorem slotDecl_of_le {f : MsgFrame} {s : State} (acts : (s.takeInbox f).controlActs f 3 = true) (hh : s.isHead = true)
    (size : ofLe (slice 2 1 f.payload) ≤ 64) (first : 1 ≤ ofLe (slice 0 2 f.payload))
    (last : ofLe (slice 0 2 f.payload) ≤ s.trainLen) :
    s.slotDecl f = (s.takeInbox f).takeDecl (ofLe (slice 0 2 f.payload)) (ofLe (slice 2 1 f.payload)) := by
  have head : (s.takeInbox f).isHead = true := hh
  have inTrain : 1 ≤ ofLe (slice 0 2 f.payload) ∧ ofLe (slice 0 2 f.payload) ≤ (s.takeInbox f).trainLen := ⟨first, last⟩
  simp only [State.slotDecl, acts, head, if_neg (Nat.not_lt.mpr size), if_pos inTrain, Bool.not_true, Bool.or_self,
    Bool.false_eq_true, if_false]

theorem slotDecl_of_gt {f : MsgFrame} {s : State} (acts : (s.takeInbox f).controlActs f 3 = true) (hh : s.isHead = true)
    (size : 64 < ofLe (slice 2 1 f.payload)) : s.slotDecl f = (s.takeInbox f).bump MSG_STAT2_FRAME_ERR := by
  have head : (s.takeInbox f).isHead = true := hh
  simp only [State.slotDecl, acts, head, if_pos size, Bool.not_true, Bool.or_self, Bool.false_eq_true, if_false]

/-- A map of the train's length is held first; the map in force and the registers stay. -/
theorem slotMap_holds {f : MsgFrame} {s : State} (acts : (s.takeInbox f).controlActs f 4 = true) (hh : s.isHead = false)
    (len : ofLe (slice 2 2 f.payload) = s.trainLen) :
    (s.slotMap f).cyc.held.head? = some ⟨ofLe (slice 0 1 f.payload), ofLe (slice 4 4 f.payload),
      (slice 8 s.trainLen f.payload).map BitVec.toNat⟩ ∧ (s.slotMap f).cyc.map = s.cyc.map ∧ (s.slotMap f).regs = s.regs := by
  have member : (s.takeInbox f).isHead = false := hh
  have same : (s.trainLen == (s.takeInbox f).trainLen) = true := beq_self_eq_true s.trainLen
  simp only [State.slotMap, len, acts, member, same, Bool.not_true, Bool.or_self, Bool.false_eq_true, if_false]
  split <;> exact ⟨rfl, rfl, rfl⟩

/-- Settles O26. A declaration and a map received are what `slotDecl` and `slotMap` do; a new map outlasts its sending,
which is `SendsOnly`. -/
theorem slotMapsAndDeclarations : Obligations.SlotMapsAndDeclarations := by
  unfold Obligations.SlotMapsAndDeclarations
  refine ⟨?declare, ?repeatDecl, fun s => sendDecl_of_not_head, ?ownDecl, ?taken, ?tooLong, ?held, ?repeatMap, ?reissue,
    ?bounded, ?assigned, ?issued, ?recorded⟩
  case declare =>
    intro path arg s accepted
    exact command_does _ s cmdDeclare path arg _ rfl accepted (.refl _)
  case repeatDecl =>
    intro s
    change execSlotDeclRepeat s = _
    simp only [execSlotDeclRepeat, finish, Bool.and_eq_true]
  case ownDecl =>
    intro s hh
    rw [sendDecl_of_head hh, decls_takeDecl]
    exact ⟨tabFind_put_same .., rfl⟩
  case taken =>
    intro f q z s acts hh hq hz size first last
    subst hq hz
    exact ⟨_, congrArg finish (slotDecl_of_le acts hh size first last), decls_takeDecl .., rfl⟩
  case tooLong =>
    intro f s acts hh size
    exact congrArg finish (slotDecl_of_gt acts hh size)
  case held =>
    intro f s acts hh len
    exact ⟨s.slotMap f, rfl, slotMap_holds acts hh len⟩
  case repeatMap =>
    intro s
    change execMapRepeat s = _
    simp only [execMapRepeat, finish, Bool.and_eq_true, beq_iff_eq]
  case reissue =>
    intro path arg s accepted
    exact command_does _ s cmdMapReissue path arg _ rfl accepted (.refl _)
  case bounded =>
    intro l
    exact ⟨(Nat.zero_add _).symm.trans_le (sum_assignSizes_le l (Nat.zero_le _)), length_assignSizes 0 l⟩
  case assigned =>
    intro l k hk
    rw [getD_assignSizes 0 l k hk, Nat.zero_add]
  case issued =>
    intro s
    obtain ⟨sizes, shown, event, -⟩ := issueMap_holds s
    exact ⟨sizes, shown, event⟩
  case recorded =>
    intro s cuts runs busy takes
    obtain ⟨-, -, -, recorded⟩ := issueMap_holds s
    exact recorded cuts runs busy takes

end Sys2Proof.Machine
end

section
/-! PROOFS. O8: what reads latch and clear (R19, R183, R499). The statement's clause on RC fields speaks of every
`RegHit`, as that of O6 does, and fails with it; its other clauses hold, and so does that clause of every register that
a read reaches (`readClearAccess_gives`). -/

namespace Sys2Proof.Machine

open Reg

/-- Refutes O8: its clause on RC fields does not ask that the register's fields have bit addresses of their own, and an
RC field of `sharedBitRegister`, which no address reaches, reads 1 after the read of `State.reset` that clears it. -/
theorem not_readsLatchAndClear : ¬ Obligations.ReadsLatchAndClear := by
  unfold Obligations.ReadsLatchAndClear
  rintro ⟨-, -, -, readClears, -, -⟩
  exact not_forall_get_readClear_eq_zero readClears

/-! ### A read of one word of a register that the address reaches -/

theorem findReg_of_reach {s : State} {req : Requester} {a : Nat} {h : RegHit} (reached : s.reach req a = some h) :
    ∃ b, findReg b = some h := by
  unfold State.reach at reached
  split at reached
  next =>
    obtain ⟨b, -, found⟩ := Option.bind_eq_some_iff.mp reached
    exact ⟨b, found⟩
  next => exact ⟨a, (Option.ite_none_right_eq_some.mp reached).2⟩

theorem readStep_of_reach {s : State} {req : Requester} {a : Nat} {h : RegHit} (lc : s.lc ≠ lcScrapped)
    (reached : s.reach req a = some h) (takes : h.takes a 4 = true) :
    s.readStep req a 4 = (s.readWord req h).2.emit (.readValue req a (s.readWord req h).1) := by
  have read : s.read req a 4 = s.readWord req h := by simp [State.read, lc, reached, takes]
  simp only [State.readStep, read]

theorem readEffect_of_name_ne (s : State) {h : RegHit} (w n : Nat) (bridge : h.row.name ≠ "BRG_AP_STATUS")
    (log : h.row.name ≠ "REC_RD_DATA") : s.readEffect h w n = s := by
  simp only [State.readEffect, bridge, log, if_false, false_and]

/-- Clearing RC fields changes registers alone. -/
theorem latch_readClear (s : State) (h : RegHit) (w n : Nat) : (s.readClear h w n).latch = s.latch := by
  refine List.foldlRecOn h.fields _ (motive := fun t : State => t.latch = s.latch) rfl fun t ih f _ => ?_
  split
  next => exact ih
  next => exact ih

/-! ### The commands -/

/-- R19: a read of the lower word latches the upper one for the requester. -/
theorem reg64LowerWordRead_gives {req : Requester} {a : Nat} {s : State} {h : RegHit} (lc : s.lc ≠ lcScrapped)
    (reached : s.reach req a = some h) (width : h.row.width = 64) (lower : h.word = 0) (takes : h.takes a 4 = true)
    (bridge : h.row.name ≠ "BRG_AP_STATUS") (log : h.row.name ≠ "REC_RD_DATA") :
    Gives (.reg64LowerWordRead req a) s (fun u => .readValue req a (s.refreshLive.regWord h 0) ∈ u.out ∧
      (req, h.base, s.refreshLive.regWord h 1) ∈ u.latch.upper) := by
  refine ⟨_, congrArg finish (readStep_of_reach lc reached takes), ?_⟩
  simp only [State.readWord, width, lower, if_true, readEffect_of_name_ne _ 0 1 bridge log, State.emit, latch_readClear]
  exact ⟨List.mem_cons_self, List.mem_cons_self⟩

/-- R499: a read of word 0 of a wide register latches its other words, and no register changes but to the present. -/
theorem wideRegisterWord0Read_gives {req : Requester} {a : Nat} {s : State} {h : RegHit} (lc : s.lc ≠ lcScrapped)
    (reached : s.reach req a = some h) (latches : h.latches = true) (first : h.word = 0) (takes : h.takes a 4 = true) :
    Gives (.wideRegisterWord0Read req a) s (fun u => .readValue req a (s.refreshLive.regWord h 0) ∈ u.out ∧
      (h.base, (List.range (h.row.width / 32 - 1)).map (fun k => (k + 1, s.refreshLive.regWord h (k + 1)))) ∈
        u.latch.wide ∧ u.regs = s.refreshLive.regs) := by
  have wide : h.row.width ≠ 64 := by
    simp only [RegHit.latches, Bool.and_eq_true, decide_eq_true_eq] at latches
    exact latches.1.ne'
  refine ⟨_, congrArg finish (readStep_of_reach lc reached takes), ?_⟩
  simp only [State.readWord, wide, latches, first, if_true, if_false, State.emit, State.latchWide]
  exact ⟨List.mem_cons_self, List.mem_cons_self, trivial⟩

/-- Table 0.4: a read of a 32-bit register returns its word, and its RC fields in that word read 0 afterwards. -/
theorem readClearAccess_gives {req : Requester} {a : Nat} {s : State} {h : RegHit} (lc : s.lc ≠ lcScrapped)
    (reached : s.reach req a = some h) (width : h.row.width = 32) (takes : h.takes a 4 = true)
    (time : h.row.name ≠ "TIM_NOW_NS") (bridge : h.row.name ≠ "BRG_AP_STATUS") (log : h.row.name ≠ "REC_RD_DATA") :
    Gives (.readClearAccess req a 4) s (fun u =>
      u = (s.refreshLive.readClear h h.word 1).emit (.readValue req a (s.refreshLive.regWord h h.word)) ∧
      ∀ f ∈ h.fields, f.1 = .rc → h.inWords f.2.2 h.word 1 = true → u.get f.2.2 = 0) := by
  have narrow : h.latches = false := by simp [RegHit.latches, width]
  have word : s.readWord req h = (s.refreshLive.regWord h h.word, s.refreshLive.readClear h h.word 1) := by
    simp [State.readWord, width, narrow, time, readEffect_of_name_ne _ h.word 1 bridge log]
  obtain ⟨b, found⟩ := findReg_of_reach reached
  refine ⟨_, congrArg finish (readStep_of_reach lc reached takes), by rw [word], fun f hf hrc hin => ?_⟩
  rw [word]
  exact get_readClear_of_findReg found s.refreshLive h.word 1 f hf hrc hin

/-- R183: a read of TIM_NOW_NS returns the nanoseconds and latches its companions, all of one instant. -/
theorem exec_timNowNsRead {req : Requester} {s : State} (lc : s.lc ≠ lcScrapped) :
    exec (.timNowNsRead req) s = .next ((s.load [(TIM_NOW_NS_NS, ttNs s.trainTime),
      (TIM_NOW_FRAC_FRAC, ttFrac s.trainTime), (TIM_NOW_S_SEC, ttSec s.trainTime), (TIM_NOW_UPTIME_NS, s.uptime)]).emit
        (.readValue req (TIM_NOW_NS_NS.key / 8) (ttNs s.trainTime))).settled :=
  congrArg finish (if_neg lc)

/-- What a read brings to the present is none of what a read of TIM_NOW_NS latches. -/
theorem get_refreshLive (s : State) {f : Field} (now : within 0x5010 0x5028 f.key = true) :
    s.refreshLive.get f = s.get f := by
  simp only [within, Bool.and_eq_true, decide_eq_true_eq] at now
  have shown : (canChannels.foldl State.showCycleTime s).get f = s.get f := by
    refine List.foldlRecOn canChannels _ (motive := fun t : State => t.get f = s.get f) rfl fun t ih c _ => ?_
    unfold State.showCycleTime
    split
    next => exact ih
    next => exact (t.get_set_ne _ (by simp only [CAN_TTSTATUS_CYCLE_TIME]; omega)).trans ih
  simp only [State.refreshLive, State.load_cons, State.load_nil]
  rw [State.get_set_ne _ _ (by simp only [SLP_AON_TIME_TICKS]; omega),
    State.get_set_ne _ _ (by simp only [BRG_TGT_LOCK_REMAIN]; omega),
    State.get_set_ne _ _ (by simp only [TIM_HOLD_MS]; omega), State.get_set_ne _ _ (by simp only [INA_UPTIME_MS]; omega)]
  exact shown

/-- R183: reads of the companions of TIM_NOW_NS return what it latched. -/
theorem get_refreshLive_timNow (s : State) : s.refreshLive.get TIM_NOW_FRAC_FRAC = s.get TIM_NOW_FRAC_FRAC ∧
    s.refreshLive.get TIM_NOW_S_SEC = s.get TIM_NOW_S_SEC ∧ s.refreshLive.get TIM_NOW_UPTIME_NS = s.get TIM_NOW_UPTIME_NS :=
  ⟨get_refreshLive s (by decide), get_refreshLive s (by decide), get_refreshLive s (by decide)⟩

end Sys2Proof.Machine
end

section
/-! PROOFS. O35: flows start and stop, and the slice table is checked and swapped (R249, R254 to R256, R269, R271).
ENABLE sets registers of its context and then the status; the proof turns on how little a change of status touches
(`get_setFlowStatus`), so that what was set before it, and what decides on it, stays. -/

namespace Sys2Proof.Machine

open Reg

/-! ### Commands at their effect (R34, R35) -/

theorem argOk_of_accepts {s : State} {c : CmdSpec} {path : Path} {arg : Nat} (accepted : s.accepts c path arg) :
    c.argOk s (arg % 65536) = true := by
  by_contra bad
  unfold State.accepts State.checkCmd at accepted
  rw [Bool.not_eq_true] at bad
  simp only [bad, Bool.not_false, if_true] at accepted
  split at accepted <;> exact nomatch accepted

/-- A command from a path that may command is rejected with BAD_ARG where its argument fails the check. -/
theorem checkCmd_of_not_argOk {s : State} {c : CmdSpec} {path : Path} {arg : Nat}
    (may : s.mayCommand path c.base c.code = true) (bad : c.argOk s arg = false) : s.checkCmd c path arg = .badArg := by
  simp [State.checkCmd, may, bad]

/-- A command without a tag that does not pend takes effect on the state with its report. -/
theorem begun_eq_report {s : State} {c : CmdSpec} (path : Path) (arg : Nat) (auth : c.auth s = false)
    (pends : c.pends = false) : s.begun c path arg = s.report path c.code .ok := by
  simp [State.begun, State.afterAuth, State.acceptCmd, auth, pends]

/-- A report shows in GLB_CMD_STATUS alone. -/
theorem get_report (s : State) (path : Path) (code : Nat) (st : Status) {f : Field} (above : 8 * 0x1C ≤ f.key) :
    (s.report path code st).get f = s.get f := by
  unfold State.report
  split
  next =>
    simp only [State.load_cons, State.load_nil]
    rw [State.get_set_ne _ _ (by simp only [GLB_CMD_STATUS_STATUS]; omega),
      State.get_set_ne _ _ (by simp only [GLB_CMD_STATUS_CODE]; omega),
      State.get_set_ne _ _ (by simp only [GLB_CMD_STATUS_SEQ]; omega)]
  next => rfl

theorem report_rest (s : State) (path : Path) (code : Nat) (st : Status) :
    s.report path code st = { s with regs := (s.report path code st).regs } := by
  unfold State.report
  split <;> rfl

@[simp] theorem get_toldStatus (s : State) (path : Path) (base : Nat) (st : Status) (f : Field) :
    (s.toldStatus path base st).get f = s.get f := by
  unfold State.toldStatus
  split <;> rfl

@[simp] theorem flw_toldStatus (s : State) (path : Path) (base : Nat) (st : Status) :
    (s.toldStatus path base st).flw = s.flw := by
  unfold State.toldStatus
  split <;> rfl

/-- An accepted command that takes effect at once gives its effect on the state with its report, and its path is told. -/
theorem command_gives {c : Instr} {s t : State} {d : CmdSpec} {path : Path} {arg : Nat} {P : State → Prop}
    (answer : exec c s = finish (s.command d path arg)) (accepted : s.accepts d path arg) (auth : d.auth s = false)
    (pends : d.pends = false) (effect : d.run (arg % 65536) (s.report path d.code .ok) = t)
    (holds : P (t.toldStatus path d.base .ok)) : Gives c s P := by
  refine ⟨_, answer.trans (congrArg finish (command_accepted s d path arg accepted)), ?_⟩
  rw [begun_eq_report path arg auth pends, effect, pends]
  exact holds

/-! ### Registers of the flow engine -/

@[simp] theorem get_flwMap (s : State) (g : FlwState → FlwState) (f : Field) : (s.flwMap g).get f = s.get f := rfl

/-- Two fields of a context that begin at different bits have different bit addresses. -/
theorem flowField_key_ne {f a i w b j v : Nat} (h : 8 * a + i ≠ 8 * b + j) :
    (flowField f a i w).key ≠ (flowField f b j v).key := by
  simp only [flowField]
  omega

/-- The registers that a change of flow f's status changes, beside reports (R255). -/
def flowStatusFields (f : Nat) : List Field :=
  [FCTX_STATUS f, FLW_STATUS_ACTIVE, FLW_SUSP_SUSP (f / 32), FLW_EVENT_FLOW_STATUS]

/-- The field is no report register and none that a change of flow f's status changes. -/
def statusLeaves (f : Nat) (g : Field) : Prop := reportField g = false ∧ named (flowStatusFields f) g.key = false

theorem statusLeaves_flowField {f : Nat} (hf : f < 1024) {off lo w : Nat} (inContext : 8 * off + lo < 1024)
    (apart : 8 * off + lo ≠ 8 * 0x40) : statusLeaves f (flowField f off lo w) := by
  constructor
  · simp [reportField, flowField]
    omega
  · simp [named, flowStatusFields, flowField, FCTX_STATUS, FLW_STATUS_ACTIVE, FLW_SUSP_SUSP, FLW_EVENT_FLOW_STATUS]
    omega

theorem statusLeaves_shedding {f : Nat} : statusLeaves f FLW_STATUS_SHEDDING := by
  refine ⟨rfl, ?_⟩
  simp [named, flowStatusFields, flowField, FCTX_STATUS, FLW_STATUS_ACTIVE, FLW_SUSP_SUSP, FLW_EVENT_FLOW_STATUS,
    FLW_STATUS_SHEDDING]
  omega

/-- A status put sets the STATUS of the flow, and may set the number of active flows. -/
theorem putFlowStatus_cases (s : State) (f st : Nat) :
    ∃ t c, s.putFlowStatus f st = { t with cyc := c } ∧
      (t = s.set (FCTX_STATUS f) st ∨ ∃ n, t = (s.set (FCTX_STATUS f) st).set FLW_STATUS_ACTIVE n) := by
  unfold State.putFlowStatus
  extract_lets old s1 n s2
  have put : s2 = s1 ∨ ∃ n, s2 = s1.set FLW_STATUS_ACTIVE n := by
    simp only [s2]
    split
    next => exact .inr ⟨_, rfl⟩
    next =>
      split
      next => exact .inr ⟨_, rfl⟩
      next => exact .inl rfl
  split
  next => exact ⟨s2, _, rfl, put⟩
  next => exact ⟨s2, s2.cyc, rfl, put⟩

theorem flw_putFlowStatus (s : State) (f st : Nat) : (s.putFlowStatus f st).flw = s.flw := by
  obtain ⟨t, c, put, rfl | ⟨n, rfl⟩⟩ := putFlowStatus_cases s f st <;> rw [put] <;> rfl

theorem flowStatus_putFlowStatus (s : State) (f : Nat) {st : Nat} (h : st < 2 ^ 8) :
    (s.putFlowStatus f st).flowStatus f = st := by
  have same : (s.set (FCTX_STATUS f) st).get (FCTX_STATUS f) = st :=
    (State.get_set_same s (FCTX_STATUS f) st).trans (Nat.mod_eq_of_lt h)
  obtain ⟨t, c, put, rfl | ⟨n, rfl⟩⟩ := putFlowStatus_cases s f st
  · rw [put]
    exact same
  · rw [put]
    exact (State.get_set_ne _ n (by simp only [FLW_STATUS_ACTIVE, FCTX_STATUS, flowField]; omega)).trans same

/-- Beside reports, a change of status that shows is one that is put, and a change out of ACTIVE marks the flow. -/
theorem get_setFlowStatus_of_ne {s : State} {f st : Nat} (change : s.flowStatus f ≠ st) {g : Field}
    (report : reportField g = false) (susp : (FLW_SUSP_SUSP (f / 32)).key ≠ g.key)
    (event : FLW_EVENT_FLOW_STATUS.key ≠ g.key) : (s.setFlowStatus f st).get g = (s.putFlowStatus f st).get g := by
  unfold State.setFlowStatus
  extract_lets old s1 s2 s3
  have marked : s2.get g = s1.get g := (State.get_set_ne _ _ event).trans (State.get_set_ne _ _ susp)
  have told : s3.get g = s1.get g := ((reports_hostEvent s2 _ _ (.refl s2)).get g report).trans marked
  rw [if_neg change]
  split
  next =>
    split
    next => exact ((reports_pulse s3 27 (.refl s3)).get g report).trans told
    next => exact told
  next => rfl

theorem get_setFlowStatus (s : State) {f : Nat} (st : Nat) {g : Field} (left : statusLeaves f g) :
    (s.setFlowStatus f st).get g = s.get g := by
  by_cases same : s.flowStatus f = st
  · exact congrArg (State.get · g) (if_pos same)
  obtain ⟨report, apart⟩ := left
  simp only [named, flowStatusFields, List.any_cons, List.any_nil, Bool.or_false, Bool.or_eq_false_iff,
    beq_eq_false_iff_ne] at apart
  obtain ⟨status, active, susp, event⟩ := apart
  rw [get_setFlowStatus_of_ne same report susp event]
  obtain ⟨t, c, put, rfl | ⟨n, rfl⟩⟩ := putFlowStatus_cases s f st
  · rw [put]
    exact State.get_set_ne s st status
  · rw [put]
    exact (State.get_set_ne _ n active).trans (State.get_set_ne s st status)

theorem flowStatus_setFlowStatus (s : State) {f st : Nat} (hf : f < 1024) (h : st < 2 ^ 8) :
    (s.setFlowStatus f st).flowStatus f = st := by
  by_cases same : s.flowStatus f = st
  · exact (congrArg (State.flowStatus · f) (if_pos same)).trans same
  refine (get_setFlowStatus_of_ne same ?_ ?_ ?_).trans (flowStatus_putFlowStatus s f h)
  · simp [reportField, FCTX_STATUS, flowField]
    omega
  · simp only [FLW_SUSP_SUSP, FCTX_STATUS, flowField]
    omega
  · simp only [FLW_EVENT_FLOW_STATUS, FCTX_STATUS, flowField]
    omega

/-! ### ENABLE (R254, R256) -/

/-- Which channels are retired is read from FLW_RETIRED alone. -/
theorem isRetired_congr {a b : State} (retired : ∀ g, within 0xD00C 0xD010 g.key = true → a.get g = b.get g) (ch : Nat) :
    a.isRetired ch = b.isRetired ch := by
  simp only [State.isRetired, State.bitAt, State.flag, retired FLW_RETIRED_LINE (by decide),
    retired FLW_RETIRED_CONSIST (by decide), retired FLW_RETIRED_CAN (by decide), retired FLW_RETIRED_GPIO (by decide),
    retired FLW_RETIRED_STACK (by decide)]

theorem startStatus_congr {a b : State} {f : Nat}
    (retired : ∀ g, within 0xD00C 0xD010 g.key = true → a.get g = b.get g)
    (src : a.get (FCTX_SRC_CH f) = b.get (FCTX_SRC_CH f)) (dst : a.get (FCTX_DST_CH f) = b.get (FCTX_DST_CH f))
    (auth : a.get (FCTX_AUTH f) = b.get (FCTX_AUTH f)) (bind : a.get (FCTX_BIND f) = b.get (FCTX_BIND f))
    (flw : a.flw = b.flw) : a.startStatus f = b.startStatus f := by
  simp only [State.startStatus, isRetired_congr retired, src, dst, auth, bind, flw]

theorem startStatus_lt (s : State) (f : Nat) : s.startStatus f < 2 ^ 8 := by
  unfold State.startStatus
  repeat' split
  all_goals decide

/-- What ENABLE sets before the flow's status: EN, a full bucket, and the position that BIND = 1 gives. -/
def State.bindFlow (s : State) (f : Nat) : State :=
  s.load [(FCTX_EN f, 1), (FCTX_BUCKET f, 16 * s.get (FCTX_BURST f)),
    (FCTX_RES_POS f, if s.get (FCTX_BIND f) = 1 then s.get (FCTX_BIND_POS f) else 0)]

theorem get_bindFlow (s : State) (f : Nat) {g : Field} (en : (FCTX_EN f).key ≠ g.key)
    (bucket : (FCTX_BUCKET f).key ≠ g.key) (pos : (FCTX_RES_POS f).key ≠ g.key) : (s.bindFlow f).get g = s.get g :=
  (State.get_set_ne _ _ pos).trans ((State.get_set_ne _ _ bucket).trans (State.get_set_ne _ _ en))

theorem get_bindFlow_en (s : State) (f : Nat) : (s.bindFlow f).get (FCTX_EN f) = 1 :=
  (State.get_set_ne _ _ (flowField_key_ne (by decide))).trans
    ((State.get_set_ne _ _ (flowField_key_ne (by decide))).trans (State.get_set_same s (FCTX_EN f) 1))

/-- BUCKET has room for 16 times any BURST. -/
theorem get_bindFlow_bucket (s : State) (f : Nat) :
    (s.bindFlow f).get (FCTX_BUCKET f) = 16 * s.get (FCTX_BURST f) := by
  have burst : s.get (FCTX_BURST f) < 2 ^ 16 := s.get_lt (FCTX_BURST f)
  refine (State.get_set_ne _ _ (flowField_key_ne (by decide))).trans ((State.get_set_same _ (FCTX_BUCKET f) _).trans ?_)
  exact Nat.mod_eq_of_lt (show 16 * s.get (FCTX_BURST f) < 2 ^ 32 by omega)

theorem get_bindFlow_pos (s : State) (f : Nat) : (s.bindFlow f).get (FCTX_RES_POS f) =
    if s.get (FCTX_BIND f) = 1 then s.get (FCTX_BIND_POS f) else 0 := by
  have bound : s.get (FCTX_BIND_POS f) < 2 ^ 16 := s.get_lt (FCTX_BIND_POS f)
  refine (State.get_set_same _ (FCTX_RES_POS f) _).trans (Nat.mod_eq_of_lt ?_)
  split
  next => exact bound
  next => exact Nat.two_pow_pos 16

theorem startStatus_bindFlow (s : State) (f : Nat) : (s.bindFlow f).startStatus f = s.startStatus f := by
  have context {a i w : Nat} (en : 8 * 0 + 0 ≠ 8 * a + i) (bucket : 8 * 0x44 + 0 ≠ 8 * a + i)
      (pos : 8 * 0x42 + 0 ≠ 8 * a + i) : (s.bindFlow f).get (flowField f a i w) = s.get (flowField f a i w) :=
    get_bindFlow s f (flowField_key_ne en) (flowField_key_ne bucket) (flowField_key_ne pos)
  refine startStatus_congr (fun g retired => ?_) (context (by decide) (by decide) (by decide))
    (context (by decide) (by decide) (by decide)) (context (by decide) (by decide) (by decide))
    (context (by decide) (by decide) (by decide)) (State.load_flw s _)
  simp only [within, Bool.and_eq_true, decide_eq_true_eq] at retired
  refine get_bindFlow s f ?_ ?_ ?_ <;> simp only [FCTX_EN, FCTX_BUCKET, FCTX_RES_POS, flowField] <;> omega

theorem get_resolveFlow (s : State) {f : Nat} {g : Field} (left : statusLeaves f g)
    (pos : (FCTX_RES_POS f).key ≠ g.key) : (s.resolveFlow f).get g = s.get g := by
  unfold State.resolveFlow
  split
  next => exact (get_setFlowStatus _ _ left).trans (State.get_set_ne _ _ pos)
  next => rfl

/-- What ENABLE does while nothing is shed: it binds the flow, gives it the status in which it starts, and resolves its
UID. -/
def State.startUnshed (s : State) (f : Nat) : State :=
  let t := (s.bindFlow f).setFlowStatus f (s.startStatus f)
  if s.startStatus f = flowResolving then t.resolveFlow f else t

theorem get_startUnshed (s : State) {f : Nat} {g : Field} (left : statusLeaves f g)
    (pos : (FCTX_RES_POS f).key ≠ g.key) : (s.startUnshed f).get g = (s.bindFlow f).get g := by
  unfold State.startUnshed
  dsimp only
  split
  next => exact (get_resolveFlow _ left pos).trans (get_setFlowStatus _ _ left)
  next => exact get_setFlowStatus _ _ left

theorem startFlow_of_not_shedding {s : State} {f : Nat} (hf : f < 1024) (unshed : s.flag FLW_STATUS_SHEDDING = false) :
    s.startFlow f = s.startUnshed f := by
  unfold State.startFlow
  extract_lets s1 s2 s3 s4
  have kept {a i w : Nat} (en : 8 * 0 + 0 ≠ 8 * a + i) (bucket : 8 * 0x44 + 0 ≠ 8 * a + i) :
      s1.get (flowField f a i w) = s.get (flowField f a i w) :=
    (State.get_set_ne _ _ (flowField_key_ne bucket)).trans (State.get_set_ne _ _ (flowField_key_ne en))
  have bind : s1.get (FCTX_BIND f) = s.get (FCTX_BIND f) := kept (by decide) (by decide)
  have pos : s1.get (FCTX_BIND_POS f) = s.get (FCTX_BIND_POS f) := kept (by decide) (by decide)
  have bound : s2 = s.bindFlow f := by simp only [s2, bind, pos]; rfl
  have status : s3.flowStatus f = s.startStatus f := by
    simp only [s3, bound, startStatus_bindFlow, flowStatus_setFlowStatus _ hf (startStatus_lt s f)]
  have started : s4 = s.startUnshed f := by
    simp only [s4, status]
    simp only [s3, bound, startStatus_bindFlow, State.startUnshed]
  have calm : (s.startUnshed f).flag FLW_STATUS_SHEDDING = false := by
    have key {a : Nat} : (flowField f a 0 1).key ≠ FLW_STATUS_SHEDDING.key := by
      simp only [flowField, FLW_STATUS_SHEDDING]
      omega
    rwa [State.flag, get_startUnshed s statusLeaves_shedding key, get_bindFlow s f key key key]
  simp only [started, calm, Bool.false_and, Bool.false_eq_true, if_false]

/-- The flow is enabled with a full bucket, whatever its status. -/
theorem startUnshed_enables (s : State) {f : Nat} (hf : f < 1024) :
    (s.startUnshed f).get (FCTX_EN f) = 1 ∧ (s.startUnshed f).get (FCTX_BUCKET f) = 16 * s.get (FCTX_BURST f) :=
  ⟨(get_startUnshed s (statusLeaves_flowField hf (by decide) (by decide)) (flowField_key_ne (by decide))).trans
      (get_bindFlow_en s f),
   (get_startUnshed s (statusLeaves_flowField hf (by decide) (by decide)) (flowField_key_ne (by decide))).trans
      (get_bindFlow_bucket s f)⟩

theorem statusLeaves_resPos {f : Nat} (hf : f < 1024) : statusLeaves f (FCTX_RES_POS f) :=
  statusLeaves_flowField hf (by decide) (by decide)

/-- A flow that waits for no UID takes its status, and the position that its binding gives. -/
theorem startUnshed_of_not_resolving {s : State} {f : Nat} (hf : f < 1024) (bound : s.startStatus f ≠ flowResolving) :
    (s.startUnshed f).flowStatus f = s.startStatus f ∧
    (s.startUnshed f).get (FCTX_RES_POS f) = if s.get (FCTX_BIND f) = 1 then s.get (FCTX_BIND_POS f) else 0 := by
  have started : s.startUnshed f = (s.bindFlow f).setFlowStatus f (s.startStatus f) := if_neg bound
  rw [started]
  exact ⟨flowStatus_setFlowStatus _ hf (startStatus_lt s f),
    (get_setFlowStatus _ _ (statusLeaves_resPos hf)).trans (get_bindFlow_pos s f)⟩

/-- A flow that waits for its UID resolves where the UID table holds it, and waits at no position elsewhere. -/
theorem startUnshed_of_resolving {s : State} {f : Nat} (hf : f < 1024) (waits : s.startStatus f = flowResolving)
    (uid : s.get (FCTX_BIND f) = 2) :
    (s.uidPosition (s.get (FCTX_BIND_UID f)) = none →
      (s.startUnshed f).flowStatus f = flowResolving ∧ (s.startUnshed f).get (FCTX_RES_POS f) = 0) ∧
    ∀ q, s.uidPosition (s.get (FCTX_BIND_UID f)) = some q →
      (s.startUnshed f).flowStatus f = flowActive ∧ (s.startUnshed f).get (FCTX_RES_POS f) = q % 2 ^ 16 := by
  have started : s.startUnshed f = ((s.bindFlow f).setFlowStatus f flowResolving).resolveFlow f := by
    unfold State.startUnshed
    dsimp only
    rw [waits, if_pos rfl]
  have table : ((s.bindFlow f).setFlowStatus f flowResolving).ina = s.ina :=
    (State.ina_of_inaView_eq (inaView_setFlowStatus ..)).trans (State.load_ina s _)
  have sought : ((s.bindFlow f).setFlowStatus f flowResolving).get (FCTX_BIND_UID f) = s.get (FCTX_BIND_UID f) :=
    (get_setFlowStatus _ _ (statusLeaves_flowField hf (by decide) (by decide))).trans
      (get_bindFlow s f (flowField_key_ne (by decide)) (flowField_key_ne (by decide)) (flowField_key_ne (by decide)))
  rw [started]
  unfold State.resolveFlow
  simp only [State.uidPosition, table, sought]
  constructor
  · intro absent
    simp only [absent]
    refine ⟨flowStatus_setFlowStatus _ hf (by decide), ?_⟩
    exact (get_setFlowStatus _ _ (statusLeaves_resPos hf)).trans ((get_bindFlow_pos s f).trans (by simp [uid]))
  · intro q present
    simp only [present]
    exact ⟨flowStatus_setFlowStatus _ hf (by decide),
      (get_setFlowStatus _ _ (statusLeaves_resPos hf)).trans (State.get_set_same _ (FCTX_RES_POS f) q)⟩

/-- A flow with neither channel retired nor key exhausted waits for its UID where BIND = 2, and runs elsewhere. -/
theorem startStatus_of_usable {s : State} {f : Nat} (src : s.isRetired (s.get (FCTX_SRC_CH f)) = false)
    (dst : s.isRetired (s.get (FCTX_DST_CH f)) = false) (key : s.get (FCTX_AUTH f) = 0 ∨ s.flw.ivDone = false) :
    s.startStatus f = if s.get (FCTX_BIND f) = 2 then flowResolving else flowActive := by
  have usable : (!(s.get (FCTX_AUTH f) == 0) && s.flw.ivDone) = false := by rcases key with key | key <;> simp [key]
  simp only [State.startStatus, src, dst, usable, Bool.false_eq_true, if_false]

theorem get_report_flowField (s : State) (path : Path) (code : Nat) (st : Status) (f a i w : Nat) :
    (s.report path code st).get (flowField f a i w) = s.get (flowField f a i w) :=
  get_report s path code st (by simp only [flowField]; omega)

theorem startStatus_report (s : State) (path : Path) (code : Nat) (st : Status) (f : Nat) :
    (s.report path code st).startStatus f = s.startStatus f := by
  refine startStatus_congr (fun g retired => get_report s path code st ?_) (get_report_flowField ..)
    (get_report_flowField ..) (get_report_flowField ..) (get_report_flowField ..) (by rw [report_rest])
  simp only [within, Bool.and_eq_true, decide_eq_true_eq] at retired
  omega

theorem flow_ok_of_accepts_flowEnable {s : State} {path : Path} {arg : Nat} (accepted : s.accepts cmdFlowEnable path arg) :
    arg % 65536 < 1024 ∧ s.contextOk (arg % 65536) = true := by
  simpa [cmdFlowEnable] using argOk_of_accepts accepted

/-- A usable flow, started in the state with ENABLE's report, is active at the position of its binding, or waits for its
UID, as the state before the report says. -/
theorem startUnshed_report_of_usable {s : State} (path : Path) (code : Nat) (st : Status) {f : Nat} (hf : f < 1024)
    (src : s.isRetired (s.get (FCTX_SRC_CH f)) = false) (dst : s.isRetired (s.get (FCTX_DST_CH f)) = false)
    (key : s.get (FCTX_AUTH f) = 0 ∨ s.flw.ivDone = false) :
    (s.get (FCTX_BIND f) ≠ 2 → ((s.report path code st).startUnshed f).flowStatus f = flowActive ∧
      ((s.report path code st).startUnshed f).get (FCTX_RES_POS f) =
        if s.get (FCTX_BIND f) = 1 then s.get (FCTX_BIND_POS f) else 0) ∧
    (s.get (FCTX_BIND f) = 2 → s.uidPosition (s.get (FCTX_BIND_UID f)) = none →
      ((s.report path code st).startUnshed f).flowStatus f = flowResolving ∧
      ((s.report path code st).startUnshed f).get (FCTX_RES_POS f) = 0) ∧
    ∀ q, s.get (FCTX_BIND f) = 2 → s.uidPosition (s.get (FCTX_BIND_UID f)) = some q →
      ((s.report path code st).startUnshed f).flowStatus f = flowActive ∧
      ((s.report path code st).startUnshed f).get (FCTX_RES_POS f) = q % 2 ^ 16 := by
  have start := (startStatus_report s path code st f).trans (startStatus_of_usable src dst key)
  have bind : (s.report path code st).get (FCTX_BIND f) = s.get (FCTX_BIND f) := get_report_flowField ..
  have pos : (s.report path code st).get (FCTX_BIND_POS f) = s.get (FCTX_BIND_POS f) := get_report_flowField ..
  have uid : (s.report path code st).get (FCTX_BIND_UID f) = s.get (FCTX_BIND_UID f) := get_report_flowField ..
  have table : (s.report path code st).uidPosition = s.uidPosition := by rw [report_rest]; rfl
  refine ⟨fun other => ?_, fun waits => ?_, fun q waits => ?_⟩
  · rw [if_neg other] at start
    obtain ⟨status, shown⟩ := startUnshed_of_not_resolving hf (start.trans_ne (by decide))
    rw [bind, pos] at shown
    exact ⟨status.trans start, shown⟩
  · obtain ⟨absent, -⟩ := startUnshed_of_resolving hf (start.trans (if_pos waits)) (bind.trans waits)
    rwa [table, uid] at absent
  · obtain ⟨-, present⟩ := startUnshed_of_resolving hf (start.trans (if_pos waits)) (bind.trans waits)
    rw [table, uid] at present
    exact present q

/-- ENABLE starts the flow in the state with its report. -/
theorem flowEnable_gives {s : State} {path : Path} {arg : Nat} {P : State → Prop}
    (accepted : s.accepts cmdFlowEnable path arg) (unshed : s.flag FLW_STATUS_SHEDDING = false)
    (holds : P (((s.report path 1 .ok).startUnshed (arg % 65536)).toldStatus path 0xC000 .ok)) :
    Gives (.flowEnable path arg) s P := by
  have calm : (s.report path 1 .ok).flag FLW_STATUS_SHEDDING = false := by
    rwa [State.flag, get_report s path 1 .ok (by decide)]
  refine command_gives rfl accepted rfl rfl ?_ holds
  simp only [cmdFlowEnable]
  exact startFlow_of_not_shedding (flow_ok_of_accepts_flowEnable accepted).1 calm

/-! ### DISABLE (R271) -/

theorem work_discardItems (s : State) (f : Nat) : ∀ e ∈ (s.discardItems f).flw.work, f ∉ e.2.2 := by
  intro e he
  obtain ⟨kept, -⟩ := List.mem_filter.mp he
  obtain ⟨d, -, rfl⟩ := List.mem_map.mp kept
  simp

theorem flw_stopFlow (s : State) (f : Nat) : (s.stopFlow f).flw =
    { (s.discardItems f).flw with last := tabErase f (s.discardItems f).flw.last } := by
  simp only [State.stopFlow, State.flwMap, State.load_flw, flw_putFlowStatus]

/-- A flow that stops shows no status and no position, and nothing of it waits or is held. -/
theorem stopFlow_holds (s : State) (f : Nat) :
    (s.stopFlow f).get (FCTX_EN f) = 0 ∧ (s.stopFlow f).flowStatus f = flowDisabled ∧
    (s.stopFlow f).get (FCTX_RES_POS f) = 0 ∧ (∀ e ∈ (s.stopFlow f).flw.work, f ∉ e.2.2) ∧
    tabFind f (s.stopFlow f).flw.last = none := by
  have regs (g : Field) : (s.stopFlow f).get g =
      ((((s.discardItems f).putFlowStatus f flowDisabled).set (FCTX_EN f) 0).set (FCTX_RES_POS f) 0).get g := by
    simp only [State.stopFlow, get_flwMap, State.load_cons, State.load_nil]
  rw [flw_stopFlow, State.flowStatus, regs, regs, regs]
  refine ⟨?_, ?_, State.get_set_same _ (FCTX_RES_POS f) 0, work_discardItems s f, tabFind_erase_same f _⟩
  · exact (State.get_set_ne _ _ (flowField_key_ne (by decide))).trans (State.get_set_same _ (FCTX_EN f) 0)
  · exact (State.get_set_ne _ _ (flowField_key_ne (by decide))).trans
      ((State.get_set_ne _ _ (flowField_key_ne (by decide))).trans (flowStatus_putFlowStatus _ f (by decide)))

/-! ### The slice table (R249, R269) -/

theorem shadowOk_iff (s : State) : s.shadowOk = true ↔
    (∀ k < 64, sliceCode (s.shadowEntry k) = true ∧ s.isRetired (s.shadowEntry k) = false) ∧
    (∀ c ∈ s.enabledChannels, 0 < s.shadowCount c) ∧ 2 ≤ s.shadowCount chSlot ∧ 3 ≤ s.shadowCount chMaint := by
  simp [State.shadowOk, and_assoc]

/-- The state in which the first n words of the shadow table stand in the active one. -/
def State.copyShadow (s : State) (n : Nat) : State :=
  (List.range n).foldl (fun s w => s.set (FLW_SLICE_ENTRY w) (s.get (FLW_SLICE_SH_ENTRY w))) s

theorem copyShadow_succ (s : State) (n : Nat) : s.copyShadow (n + 1) =
    (s.copyShadow n).set (FLW_SLICE_ENTRY n) ((s.copyShadow n).get (FLW_SLICE_SH_ENTRY n)) := by
  simp [State.copyShadow, List.range_succ]

theorem copyShadow_rest (s : State) (n : Nat) : s.copyShadow n = { s with regs := (s.copyShadow n).regs } := by
  induction n with
  | zero => rfl
  | succ n ih => rw [copyShadow_succ, ih]; rfl

theorem flw_copyShadow (s : State) (n : Nat) : (s.copyShadow n).flw = s.flw := by rw [copyShadow_rest]

theorem msg_copyShadow (s : State) (n : Nat) : (s.copyShadow n).msg = s.msg := by rw [copyShadow_rest]

theorem get_copyShadow_ne (s : State) {n : Nat} {g : Field} (apart : ∀ w < n, (FLW_SLICE_ENTRY w).key ≠ g.key) :
    (s.copyShadow n).get g = s.get g := by
  induction n with
  | zero => rfl
  | succ n ih =>
    rw [copyShadow_succ, State.get_set_ne _ _ (apart n (Nat.lt_succ_self n))]
    exact ih fun w hw => apart w (Nat.lt_succ_of_lt hw)

/-- The active table has 16 words, and none of them is a word of the shadow table. -/
theorem get_copyShadow_entry (s : State) {n w : Nat} (hn : n ≤ 16) (hw : w < n) :
    (s.copyShadow n).get (FLW_SLICE_ENTRY w) = s.get (FLW_SLICE_SH_ENTRY w) := by
  induction n with
  | zero => exact absurd hw (Nat.not_lt_zero w)
  | succ n ih =>
    rw [copyShadow_succ]
    rcases Nat.lt_succ_iff_lt_or_eq.mp hw with before | rfl
    · rw [State.get_set_ne _ _ (by simp only [FLW_SLICE_ENTRY]; omega)]
      exact ih (Nat.le_of_succ_le hn) before
    · rw [get_copyShadow_ne s fun v hv => by simp only [FLW_SLICE_ENTRY, FLW_SLICE_SH_ENTRY]; omega]
      exact (State.get_set_same _ (FLW_SLICE_ENTRY w) _).trans (Nat.mod_eq_of_lt (s.get_lt (FLW_SLICE_SH_ENTRY w)))

theorem exec_sliceTableSwap_of_due {s : State} (due : s.flw.applyDue = true) (alive : s.engineAlive = true) :
    exec .sliceTableSwap s = finish ((s.copyShadow 16).flwMap fun w => { w with applyDue := false }) := by
  change execSliceTableSwap s = _
  simp only [execSliceTableSwap, due, alive, Bool.and_self, if_true]
  rfl

theorem exec_sliceTableSwap_of_idle {s : State} (idle : s.flw.applyDue = false ∨ s.engineAlive = false) :
    exec .sliceTableSwap s = finish s := by
  change execSliceTableSwap s = _
  rcases idle with idle | idle <;> simp [execSliceTableSwap, idle]

/-- Settles O35. What decides on ENABLE outlasts its report and what it sets before the status (`startStatus_report`,
`startFlow_of_not_shedding`); a swap copies words that none of its own writes touches (`get_copyShadow_entry`). -/
theorem flowsAndSliceTable : Obligations.FlowsAndSliceTable := by
  unfold Obligations.FlowsAndSliceTable
  refine ⟨?retired, ?usable, ?stopped, fun path arg s => flow_ok_of_accepts_flowEnable, ?apply, ?counts, ?swap,
    fun s => exec_sliceTableSwap_of_idle, ?rejected⟩
  case retired =>
    intro path arg f s accepted hf src unshed
    subst hf
    refine flowEnable_gives accepted unshed ?_
    simp only [State.flowStatus, get_toldStatus]
    obtain ⟨below, -⟩ := flow_ok_of_accepts_flowEnable accepted
    have start : (s.report path 1 .ok).startStatus (arg % 65536) = flowSrcRetired :=
      (startStatus_report ..).trans (if_pos src)
    obtain ⟨en, bucket⟩ := startUnshed_enables (s.report path 1 .ok) below
    obtain ⟨status, -⟩ := startUnshed_of_not_resolving below (start.trans_ne (by decide))
    exact ⟨en, status.trans start, bucket.trans (congrArg (16 * ·) (get_report_flowField ..))⟩
  case usable =>
    intro path arg f s accepted hf src dst key unshed
    subst hf
    refine flowEnable_gives accepted unshed ?_
    simp only [State.flowStatus, get_toldStatus]
    obtain ⟨below, -⟩ := flow_ok_of_accepts_flowEnable accepted
    obtain ⟨en, bucket⟩ := startUnshed_enables (s.report path 1 .ok) below
    exact ⟨below, en, bucket.trans (congrArg (16 * ·) (get_report_flowField ..)),
      startUnshed_report_of_usable path 1 .ok below src dst key⟩
  case stopped =>
    intro path arg s accepted
    refine command_gives (t := (s.report path 2 .ok).stopFlow (arg % 65536)) rfl accepted rfl rfl
      (by simp only [cmdFlowDisable]) ?_
    simp only [State.flowStatus, get_toldStatus, flw_toldStatus]
    exact stopFlow_holds (s.report path 2 .ok) (arg % 65536)
  case apply =>
    intro path arg s accepted
    exact ⟨argOk_of_accepts accepted, command_does _ s cmdSliceApply path arg _ rfl accepted (.refl _)⟩
  case counts =>
    intro s ok
    obtain ⟨-, enabled, slot, maint⟩ := (shadowOk_iff s).mp ok
    exact ⟨slot, maint, enabled⟩
  case swap =>
    intro s due alive
    refine ⟨_, exec_sliceTableSwap_of_due due alive, ?_⟩
    simp only [State.mode, get_flwMap]
    refine ⟨?_, fun w hw => get_copyShadow_entry s le_rfl hw, ?_, ?_⟩
    · simp only [State.flwMap, flw_copyShadow]
    · exact get_copyShadow_ne s fun w hw => by simp only [FLW_SLICE_ENTRY, GLB_MODE_MODE]; omega
    · simp only [State.flwMap, msg_copyShadow]
  case rejected =>
    intro k arg path s hk retired may
    refine checkCmd_of_not_argOk may (Bool.eq_false_iff.mpr fun ok => ?_)
    obtain ⟨entries, -⟩ := (shadowOk_iff s).mp ok
    obtain ⟨-, kept⟩ := entries k hk
    exact Bool.false_ne_true (kept.symm.trans retired)

end Sys2Proof.Machine
end

section
/-! PROOFS. O17: fault lines, latches and forces (R405 to R410, R413). What a latch sets off beside the collector, a
record and host events, leaves every register below the recorder's block (`State.lowRegs`); with it, what FLT_RAW,
FLT_STATUS and the first latch show after a line rises is read off the step before the latch (`State.markLines`). -/

namespace Sys2Proof.Machine

open Reg

/-! ### Bits of a number -/

theorem hasBit_eq_testBit (v i : Nat) : hasBit v i = v.testBit i := Nat.testBit_eq_decide_div_mod_eq.symm

@[simp] theorem hasBit_or (v m i : Nat) : hasBit (v ||| m) i = (hasBit v i || hasBit m i) := by
  simp only [hasBit_eq_testBit, Nat.testBit_or]

@[simp] theorem hasBit_two_pow (n i : Nat) : hasBit (2 ^ n) i = decide (n = i) := by
  rw [hasBit_eq_testBit, Nat.testBit_two_pow]

theorem hasBit_mod_two_pow {w i : Nat} (hi : i < w) (v : Nat) : hasBit (v % 2 ^ w) i = hasBit v i := by
  simp only [hasBit_eq_testBit, Nat.testBit_mod_two_pow, hi, decide_true, Bool.true_and]

theorem andNot_div_two (v m : Nat) : andNot v m / 2 = andNot (v / 2) (m / 2) := by
  have masked : (v &&& m) ≤ v := Nat.and_le_left
  have low : (v &&& m) % 2 = 1 ↔ v % 2 = 1 ∧ m % 2 = 1 := Nat.and_mod_two_eq_one
  have high : (v &&& m) / 2 = v / 2 &&& m / 2 := Nat.and_div_two
  change (v - (v &&& m)) / 2 = v / 2 - (v / 2 &&& m / 2)
  omega

@[simp] theorem hasBit_andNot (v m i : Nat) : hasBit (andNot v m) i = (hasBit v i && !hasBit m i) := by
  simp only [hasBit_eq_testBit]
  induction i generalizing v m with
  | zero =>
    have masked : (v &&& m) ≤ v := Nat.and_le_left
    have low : (v &&& m) % 2 = 1 ↔ v % 2 = 1 ∧ m % 2 = 1 := Nat.and_mod_two_eq_one
    rw [Bool.eq_iff_iff]
    simp only [Nat.testBit_zero, Bool.and_eq_true, Bool.not_eq_true', decide_eq_true_eq, decide_eq_false_iff_not]
    change (v - (v &&& m)) % 2 = 1 ↔ v % 2 = 1 ∧ ¬ m % 2 = 1
    omega
  | succ i ih => simp only [Nat.testBit_succ, andNot_div_two, ih]

theorem andNot_lt {v w : Nat} (m : Nat) (hv : v < 2 ^ w) : andNot v m < 2 ^ w := (Nat.sub_le _ _).trans_lt hv

theorem andNot_two_pow {v n : Nat} (h : hasBit v n = false) : andNot (2 ^ n) v = 2 ^ n := by
  have disjoint : Nat.land (2 ^ n) v = 0 := by
    change 2 ^ n &&& v = 0
    rw [Nat.two_pow_and, ← hasBit_eq_testBit, h, Bool.toNat_false, mul_zero]
  rw [andNot, disjoint, Nat.sub_zero]

theorem clearBitOf_eq_andNot (v i : Nat) : clearBitOf v i = andNot v (2 ^ i) := by
  have masked : Nat.land v (2 ^ i) = (v.testBit i).toNat * 2 ^ i := Nat.and_two_pow v i
  rw [clearBitOf, andNot, masked, hasBit_eq_testBit]
  cases v.testBit i <;> simp

theorem hasBit_clearBitOf (v i : Nat) : hasBit (clearBitOf v i) i = false := by
  simp [clearBitOf_eq_andNot]

theorem maskBits_two_pow {w n : Nat} (hn : n < w) : maskBits w (2 ^ n) = [n] := by
  have one : (List.range w).count n = 1 := List.count_eq_one_of_mem List.nodup_range (List.mem_range.mpr hn)
  calc maskBits w (2 ^ n) = (List.range w).filter (fun i => decide (i = n)) :=
        List.filter_congr fun i _ => by rw [hasBit_two_pow]; exact decide_eq_decide.mpr eq_comm
    _ = [n] := by rw [List.filter_eq, one]; rfl

/-! ### Registers below the recorder's block -/

/-- The field lies below the recorder's block: the registers of the fault collector do. -/
def lowField (f : Field) : Bool := decide (f.key < 8 * 0x3000)

/-- The registers below the recorder's block. -/
def State.lowRegs (s : State) (f : Field) : Nat := if lowField f then s.get f else 0

theorem State.get_of_lowRegs_eq {a b : State} (h : a.lowRegs = b.lowRegs) {f : Field} (low : lowField f = true) :
    a.get f = b.get f := by
  simpa only [State.lowRegs, low, if_true] using congrFun h f

theorem lowField_eq_false_iff {f : Field} : lowField f = false ↔ 8 * 0x3000 ≤ f.key := by
  simp [lowField]

@[simp] theorem lowField_recorder : lowField REC_STATUS_QUEUE = false ∧ lowField REC_LOST_COUNT = false ∧
    lowField REC_EVENT_LOST = false := by
  decide

@[simp] theorem lowField_ring (k : Nat) : lowField (HRG_RING_STATUS_INDEX k) = false ∧
    lowField (HRG_RING_STAT_DONE k) = false ∧ lowField (HRG_RING_STAT_DROPS k) = false := by
  simp only [lowField_eq_false_iff, HRG_RING_STATUS_INDEX, HRG_RING_STAT_DONE, HRG_RING_STAT_DROPS]
  omega

@[simp] theorem lowField_pending (f v : Nat) : lowField (MSIX_PBA f v) = false := by
  rw [lowField_eq_false_iff, MSIX_PBA]
  dsimp only
  split <;> omega

@[simp] theorem lowRegs_set {s : State} {f : Field} {v : Nat} (high : lowField f = false) :
    (s.set f v).lowRegs = s.lowRegs := by
  funext g
  refine ite_congr rfl (fun low => s.get_set_ne v fun same => ?_) fun _ => rfl
  rw [lowField, same, ← lowField, low] at high
  exact nomatch high

@[simp] theorem lowRegs_ite {c : Prop} [Decidable c] {a b : State} :
    (if c then a else b).lowRegs = if c then a.lowRegs else b.lowRegs := apply_ite _ _ _ _

/-! ### The recorder's ingress and the host rings leave the low registers -/

theorem lowRegs_showQueue (s : State) : s.showQueue.lowRegs = s.lowRegs := lowRegs_set lowField_recorder.1

theorem lowRegs_recPush (s : State) (e : RecEvent) : (s.recPush e).lowRegs = s.lowRegs := lowRegs_showQueue _

theorem lowRegs_recRefuse (s : State) (code : Nat) : (s.recRefuse code).lowRegs = s.lowRegs := by
  simp only [State.recRefuse, lowField_recorder, lowRegs_set, lowRegs_ite, ite_self]
  rfl

theorem lowRegs_unmarkNext (s : State) : s.unmarkNext.lowRegs = s.lowRegs := by
  unfold State.unmarkNext
  split <;> rfl

theorem lowRegs_pushLost (s : State) : s.pushLost.lowRegs = s.lowRegs := by
  unfold State.pushLost
  split
  next => rfl
  next => exact lowRegs_showQueue _

theorem lowRegs_recTake (s : State) : s.recTake.lowRegs = s.lowRegs := by
  unfold State.recTake
  split
  next =>
    split
    next => rfl
    next => rw [lowRegs_pushLost, lowRegs_unmarkNext, lowRegs_showQueue]; rfl
  next => rfl

@[simp] theorem lowRegs_record (s : State) (base code : Nat) (payload : Bytes) :
    (s.record base code payload).lowRegs = s.lowRegs := by
  simp only [State.record, lowRegs_ite, lowRegs_recTake, lowRegs_recPush, lowRegs_recRefuse, ite_self]

@[simp] theorem lowRegs_setRing (s : State) (k : Nat) (r : RingState) : (s.setRing k r).lowRegs = s.lowRegs := rfl

@[simp] theorem lowRegs_hostPost (s : State) (f : Nat) (e : Emit) : (s.hostPost f e).lowRegs = s.lowRegs := by
  unfold State.hostPost
  split
  next => rfl
  next => split <;> rfl

@[simp] theorem lowRegs_signal (s : State) (k : Nat) (now : Bool) : (s.signal k now).lowRegs = s.lowRegs := by
  simp [State.signal, State.signalNow, State.sendMsix]

@[simp] theorem lowRegs_evWrite (s : State) (g : Nat) (entry : Bytes) : (s.evWrite g entry).lowRegs = s.lowRegs := by
  simp [State.evWrite, State.writeBack, State.wrapUp, State.bump, State.add]

@[simp] theorem lowRegs_groupEvent (s : State) (g code : Nat) (payload : Bytes) :
    (s.groupEvent g code payload).lowRegs = s.lowRegs := by
  simp [State.groupEvent, State.evPost, State.bump, State.add]

@[simp] theorem lowRegs_hostEvent (s : State) (code : Nat) (payload : Bytes) :
    (s.hostEvent code payload).lowRegs = s.lowRegs := by
  simp [State.hostEvent]

/-! ### The latch of a source (R405, R409, R413) -/

theorem lowRegs_rateCheck (s : State) (code a b window : Nat) :
    (s.rateCheck code a b window).2.2.lowRegs = s.lowRegs := by
  unfold State.rateCheck
  split
  · rfl
  · split <;> rfl

theorem lowRegs_faultRecord (s : State) (n sev : Nat) (rdf : Bool) :
    (s.faultRecord n sev rdf).lowRegs = s.lowRegs := by
  have checked := lowRegs_rateCheck s 1 n 0 tenMs
  unfold State.faultRecord
  split
  next heq => rw [heq] at checked; rw [lowRegs_record]; exact checked
  next heq => rw [heq] at checked; exact checked

theorem get_askEscalate (s : State) (n sev cause : Nat) (f : Field) : (s.askEscalate n sev cause).get f = s.get f := by
  unfold State.askEscalate
  split
  next => split <;> rfl
  next => rfl

/-- The registers that the latch of one source changes, beside the records and host events of it. -/
def latchFields : List Field := [FLT_STAT_LATCHES, FLT_EVENT_LATCH, FLT_TIMER_RUN_RUN]

/-- The registers of the first latch. -/
def firstFields : List Field :=
  [FLT_FIRST_SOURCE, FLT_FIRST_SEVERITY, FLT_FIRST_FORCED, FLT_FIRST_MAP_MAP, FLT_FIRST_TIME_NS, FLT_FIRST_VALID]

theorem get_set_of_named {l : List Field} {f g : Field} (other : named l g.key = false) (hf : f ∈ l) (s : State)
    (v : Nat) : (s.set f v).get g = s.get g :=
  s.get_set_ne v (named_eq_false_iff.mp other f hf)

theorem get_react (s : State) (n sev : Nat) {f : Field} (other : named latchFields f.key = false) :
    (s.react n sev).get f = s.get f := by
  unfold State.react
  split
  next => exact get_askEscalate ..
  next =>
    split
    next =>
      dsimp only
      split
      next => exact get_askEscalate ..
      next => exact get_set_of_named other (by simp [latchFields]) _ _
    next => rfl

theorem get_latchOne (rdf : Nat) (s : State) (n : Nat) {f : Field} (low : lowField f = true)
    (other : named latchFields f.key = false) : (s.latchOne rdf n).get f = s.get f := by
  unfold State.latchOne
  rw [get_react _ _ _ other, State.get_of_lowRegs_eq (lowRegs_faultRecord ..) low,
    get_set_of_named other (by simp [latchFields])]
  exact get_set_of_named other (by simp [latchFields]) _ _

theorem get_captureFirst (s : State) (new : Nat) {f : Field} (other : named firstFields f.key = false) :
    (s.captureFirst new).get f = s.get f := by
  unfold State.captureFirst
  split
  next => rfl
  next =>
    simp only [State.setB]
    iterate 6 rw [get_set_of_named other (by simp [firstFields])]

/-- Latches change the registers of the first latch and of the sources that latch, and no other of the low ones. -/
theorem get_latchNew (s : State) (new rdf : Nat) {f : Field} (low : lowField f = true)
    (first : named firstFields f.key = false) (latch : named latchFields f.key = false) :
    (s.latchNew new rdf).get f = s.get f := by
  unfold State.latchNew
  split
  next => rfl
  next =>
    rw [State.get_of_lowRegs_eq (lowRegs_hostEvent ..) low]
    refine List.foldlRecOn (maskBits 64 new) _ (motive := fun t : State => t.get f = s.get f)
      (get_captureFirst s new first) fun t ih n _ => ?_
    exact (get_latchOne rdf t n low latch).trans ih

/-- The latch of one source alone, the rest of the low registers as its capture left them. -/
theorem get_latchNew_two_pow (s : State) {n : Nat} (rdf : Nat) (hn : n < 64) {f : Field} (low : lowField f = true)
    (latch : named latchFields f.key = false) : (s.latchNew (2 ^ n) rdf).get f = (s.captureFirst (2 ^ n)).get f := by
  have latched : ¬ 2 ^ n = 0 := (Nat.two_pow_pos n).ne'
  simp only [State.latchNew, latched, if_false, maskBits_two_pow hn, List.foldl_cons, List.foldl_nil]
  rw [State.get_of_lowRegs_eq (lowRegs_hostEvent ..) low, get_latchOne _ _ _ low latch]

/-- The first latch, of source n alone, is captured (R413). -/
theorem get_captureFirst_two_pow (s : State) {n : Nat} (hn : n < 64) (invalid : s.flag FLT_FIRST_VALID = false) :
    (s.captureFirst (2 ^ n)).get FLT_FIRST_SOURCE = n ∧ (s.captureFirst (2 ^ n)).get FLT_FIRST_VALID = 1 ∧
    (s.captureFirst (2 ^ n)).get FLT_FIRST_SEVERITY = s.fltSeverity n := by
  have narrow : s.fltSeverity n < 4 := (Nat.min_le_left ..).trans_lt (by decide)
  simp only [State.captureFirst, invalid, Bool.false_eq_true, if_false, maskBits_two_pow hn, State.worst, State.setB]
  refine ⟨?_, State.get_set_same .., ?_⟩
  · iterate 5 rw [State.get_set_ne _ _ (by decide)]
    rw [State.get_set_same]
    exact Nat.mod_eq_of_lt hn
  · iterate 4 rw [State.get_set_ne _ _ (by decide)]
    rw [State.get_set_same]
    exact Nat.mod_eq_of_lt narrow

/-- The severity of a source is none of the registers that lines and latches change. -/
theorem not_named_severity {l : List Field} (below : ∀ f ∈ l, f.key < 8 * 0x2100) (n : Nat) :
    named l (FLT_SRC_CFG_SEVERITY n).key = false := by
  refine named_eq_false_iff.mpr fun f hf => ?_
  have := below f hf
  simp only [FLT_SRC_CFG_SEVERITY]
  omega

/-- A source of severity 2 that latches alone asks for an escalation (R410). -/
theorem escalate_latchNew_two_pow (s : State) {n : Nat} (rdf : Nat) (hn : n < 64) (severe : s.fltSeverity n = 2)
    (calm : s.flt.escalate = none) : (s.latchNew (2 ^ n) rdf).flt.escalate = some (n, 2, 0) := by
  have latched : ¬ 2 ^ n = 0 := (Nat.two_pow_pos n).ne'
  have severe' : (s.captureFirst (2 ^ n)).fltSeverity n = 2 := by
    rw [← severe]
    exact congrArg (Nat.min 2) (get_captureFirst s _ (not_named_severity (by decide) n))
  simp only [State.latchNew, latched, if_false, maskBits_two_pow hn, List.foldl_cons, List.foldl_nil, flt_hostEvent]
  simp [State.latchOne, severe', State.react, State.askEscalate, State.bump, State.add, calm]

/-! ### Lines that rise (R405) -/

/-- FLT_RAW with the lines of a mask, and what FLT_STATUS and FLT_RDF make of it. -/
def State.markLines (s : State) (mask : Nat) : State :=
  let rdf := Nat.land (andNot mask (s.get FLT_RAW_RAW)) (s.get FLT_FORCED_FORCED)
  let t := (s.set FLT_RAW_RAW (Nat.lor (s.get FLT_RAW_RAW) mask)).showStatus
  if rdf = 0 then t
  else (t.set FLT_RDF_RDF (Nat.lor (t.get FLT_RDF_RDF) rdf)).set FLT_EVENT_REAL_DURING_FORCE 1

/-- A collector that runs marks the lines asserted, and the sources whose FLT_STATUS bit rises latch. -/
theorem raiseLines_of_runs {s : State} (runs : s.collectorRuns = true) (mask : Nat) :
    s.raiseLines mask = (s.markLines mask).latchNew (andNot (andNot mask (s.get FLT_RAW_RAW)) (s.get FLT_STATUS_STATUS))
      (Nat.land (andNot mask (s.get FLT_RAW_RAW)) (s.get FLT_FORCED_FORCED)) :=
  if_neg (by simp [runs])

/-- The registers that lines asserted at one edge change before any latch. -/
def markFields : List Field := [FLT_RAW_RAW, FLT_STATUS_STATUS, FLT_RDF_RDF, FLT_EVENT_REAL_DURING_FORCE]

theorem get_showStatus (s : State) {f : Field} (other : FLT_STATUS_STATUS.key ≠ f.key) :
    s.showStatus.get f = s.get f :=
  s.get_set_ne _ other

/-- FLT_STATUS is FLT_RAW OR FLT_FORCED, of 64 bits each (R405). -/
theorem status_showStatus (s : State) :
    s.showStatus.get FLT_STATUS_STATUS = Nat.lor (s.get FLT_RAW_RAW) (s.get FLT_FORCED_FORCED) :=
  (s.get_set_same ..).trans (Nat.mod_eq_of_lt (Nat.or_lt_two_pow (s.get_lt _) (s.get_lt _)))

theorem get_markLines_of_shown (s : State) (mask : Nat) {f : Field}
    (other : named [FLT_RDF_RDF, FLT_EVENT_REAL_DURING_FORCE] f.key = false) :
    (s.markLines mask).get f = (s.set FLT_RAW_RAW (Nat.lor (s.get FLT_RAW_RAW) mask)).showStatus.get f := by
  unfold State.markLines
  dsimp only
  split
  next => rfl
  next => iterate 2 rw [get_set_of_named other (by simp)]

theorem get_markLines (s : State) (mask : Nat) {f : Field} (other : named markFields f.key = false) :
    (s.markLines mask).get f = s.get f := by
  have apart (g : Field) (hg : g ∈ markFields) : g.key ≠ f.key := named_eq_false_iff.mp other g hg
  rw [get_markLines_of_shown s mask (named_eq_false_iff.mpr fun g hg => apart g (List.mem_append_right [_, _] hg)),
    get_showStatus _ (apart _ (by simp [markFields])), State.get_set_ne _ _ (apart _ (by simp [markFields]))]

theorem raw_set_lor (s : State) {mask : Nat} (h : mask < 2 ^ 64) :
    (s.set FLT_RAW_RAW (Nat.lor (s.get FLT_RAW_RAW) mask)).get FLT_RAW_RAW = Nat.lor (s.get FLT_RAW_RAW) mask :=
  (s.get_set_same ..).trans (Nat.mod_eq_of_lt (Nat.or_lt_two_pow (s.get_lt _) h))

theorem raw_markLines (s : State) {mask : Nat} (h : mask < 2 ^ 64) :
    (s.markLines mask).get FLT_RAW_RAW = Nat.lor (s.get FLT_RAW_RAW) mask := by
  rw [get_markLines_of_shown s mask (by decide), get_showStatus _ (by decide), raw_set_lor s h]

theorem status_markLines (s : State) {mask : Nat} (h : mask < 2 ^ 64) :
    (s.markLines mask).get FLT_STATUS_STATUS =
      Nat.lor (Nat.lor (s.get FLT_RAW_RAW) mask) (s.get FLT_FORCED_FORCED) := by
  rw [get_markLines_of_shown s mask (by decide), status_showStatus, raw_set_lor s h, State.get_set_ne _ _ (by decide)]

theorem flt_markLines (s : State) (mask : Nat) : (s.markLines mask).flt = s.flt := by
  unfold State.markLines
  dsimp only
  split <;> rfl

theorem fltSeverity_markLines (s : State) (mask n : Nat) : (s.markLines mask).fltSeverity n = s.fltSeverity n :=
  congrArg (Nat.min 2) (get_markLines s mask (not_named_severity (by decide) n))

/-! ### A block asserts its line (R405, R410, R413) -/

/-- The state with line n held asserted. -/
def State.holdLine (s : State) (n : Nat) : State :=
  { s with flt := { s.flt with lines := setBitOf s.flt.lines n } }

section

variable {s : State} {n : Nat} (hn : n < 64) (runs : s.collectorRuns = true) (down : hasBit s.flt.lines n = false)

include down in
theorem assertLine_of_down : s.assertLine n = (s.holdLine n).raiseLines (2 ^ n) := by
  simp only [State.assertLine, down, Bool.false_eq_true, if_false, State.holdLine]

include runs down

/-- The latch that a line sets off leaves what its rise made of FLT_RAW and FLT_STATUS. -/
theorem get_assertLine {f : Field} (low : lowField f = true) (first : named firstFields f.key = false)
    (latch : named latchFields f.key = false) :
    (s.assertLine n).get f = ((s.holdLine n).markLines (2 ^ n)).get f := by
  rw [assertLine_of_down down, raiseLines_of_runs (s := s.holdLine n) runs, get_latchNew _ _ _ low first latch]

include hn

theorem raw_assertLine : (s.assertLine n).get FLT_RAW_RAW = Nat.lor (s.get FLT_RAW_RAW) (2 ^ n) := by
  rw [get_assertLine runs down (by decide) (by decide) (by decide)]
  exact raw_markLines (s.holdLine n) (Nat.pow_lt_pow_right Nat.one_lt_two hn)

theorem status_assertLine : (s.assertLine n).get FLT_STATUS_STATUS =
    Nat.lor (Nat.lor (s.get FLT_RAW_RAW) (2 ^ n)) (s.get FLT_FORCED_FORCED) := by
  rw [get_assertLine runs down (by decide) (by decide) (by decide)]
  exact status_markLines (s.holdLine n) (Nat.pow_lt_pow_right Nat.one_lt_two hn)

omit hn in
/-- A source that neither FLT_RAW nor FLT_STATUS shows latches alone when its line rises. -/
theorem assertLine_of_clear (raw : s.bitAt FLT_RAW_RAW n = false) (status : s.bitAt FLT_STATUS_STATUS n = false) :
    ∃ rdf, s.assertLine n = ((s.holdLine n).markLines (2 ^ n)).latchNew (2 ^ n) rdf := by
  have risen : andNot (andNot (2 ^ n) (s.get FLT_RAW_RAW)) (s.get FLT_STATUS_STATUS) = 2 ^ n := by
    rw [andNot_two_pow raw, andNot_two_pow status]
  refine ⟨Nat.land (andNot (2 ^ n) (s.get FLT_RAW_RAW)) (s.get FLT_FORCED_FORCED), ?_⟩
  rw [assertLine_of_down down, raiseLines_of_runs (s := s.holdLine n) runs]
  exact congrArg (State.latchNew _ · _) risen

/-- R413: the first latch is captured. -/
theorem first_assertLine (raw : s.bitAt FLT_RAW_RAW n = false) (status : s.bitAt FLT_STATUS_STATUS n = false)
    (invalid : s.flag FLT_FIRST_VALID = false) :
    (s.assertLine n).get FLT_FIRST_SOURCE = n ∧ (s.assertLine n).flag FLT_FIRST_VALID = true ∧
    (s.assertLine n).get FLT_FIRST_SEVERITY = s.fltSeverity n := by
  obtain ⟨rdf, latched⟩ := assertLine_of_clear runs down raw status
  have still : ((s.holdLine n).markLines (2 ^ n)).flag FLT_FIRST_VALID = false := by
    rw [State.flag, get_markLines _ _ (by decide)]
    exact invalid
  obtain ⟨source, valid, severity⟩ := get_captureFirst_two_pow ((s.holdLine n).markLines (2 ^ n)) hn still
  rw [latched, State.flag]
  iterate 3 rw [get_latchNew_two_pow _ rdf hn (by decide) (by decide)]
  exact ⟨source, beq_iff_eq.mpr valid, severity.trans (fltSeverity_markLines (s.holdLine n) _ n)⟩

/-- R410: a latch of severity 2 escalates. -/
theorem escalate_assertLine (raw : s.bitAt FLT_RAW_RAW n = false) (status : s.bitAt FLT_STATUS_STATUS n = false)
    (severe : s.fltSeverity n = 2) (calm : s.flt.escalate = none) : (s.assertLine n).flt.escalate = some (n, 2, 0) := by
  obtain ⟨rdf, latched⟩ := assertLine_of_clear runs down raw status
  rw [latched]
  refine escalate_latchNew_two_pow _ rdf hn ((fltSeverity_markLines (s.holdLine n) _ n).trans severe) ?_
  rw [flt_markLines]
  exact calm

/-- R405: a line that rises latches its source and no other. -/
theorem assertLine_latches : (s.assertLine n).bitAt FLT_RAW_RAW n = true ∧
    (s.assertLine n).bitAt FLT_STATUS_STATUS n = true ∧ hasBit (s.assertLine n).flt.lines n = true ∧
    ∀ m, m ≠ n → (s.assertLine n).bitAt FLT_RAW_RAW m = s.bitAt FLT_RAW_RAW m := by
  refine ⟨?_, ?_, hasBit_lines_assertLine s n, fun m hm => ?_⟩
  · simp [State.bitAt, raw_assertLine hn runs down]
  · simp [State.bitAt, status_assertLine hn runs down]
  · simp [State.bitAt, raw_assertLine hn runs down, hm.symm]

end

/-! ### Latches are cleared (R406, R407, R409) -/

theorem get_stopTimers (s : State) {f : Field} (other : FLT_TIMER_RUN_RUN.key ≠ f.key) :
    s.stopTimers.get f = s.get f :=
  State.get_set_ne _ _ other

theorem raw_clearRaw (s : State) (mask : Nat) :
    (s.clearRaw mask).get FLT_RAW_RAW = andNot (s.get FLT_RAW_RAW) mask := by
  rw [State.clearRaw, get_stopTimers _ (by decide), get_showStatus _ (by decide), State.get_set_same]
  exact Nat.mod_eq_of_lt (andNot_lt mask (s.get_lt _))

/-- FLT_STATUS follows a clear. -/
theorem status_clearRaw (s : State) (mask : Nat) : (s.clearRaw mask).get FLT_STATUS_STATUS =
    Nat.lor ((s.clearRaw mask).get FLT_RAW_RAW) (s.get FLT_FORCED_FORCED) := by
  simp only [State.clearRaw]
  rw [get_stopTimers _ (by decide), get_stopTimers _ (by decide), status_showStatus, get_showStatus _ (by decide),
    State.get_set_ne (f := FLT_RAW_RAW) (g := FLT_FORCED_FORCED) _ _ (by decide)]

/-- R406: a write clears the latches written whose lines are down, and no other. -/
theorem bitAt_clearWritten (s : State) (mask : Nat) {n : Nat} (hn : n < 64) :
    (s.clearWritten mask).bitAt FLT_RAW_RAW n =
      (s.bitAt FLT_RAW_RAW n && !(hasBit mask n && !hasBit s.flt.lines n)) := by
  simp only [State.bitAt, State.clearWritten, raw_clearRaw, hasBit_andNot, hasBit_mod_two_pow hn]

/-- R407: with ACK = A the latch clears as the line drops. -/
theorem dropLine_of_ackA {s : State} {n : Nat} (ack : s.ackA n = true) (runs : s.collectorRuns = true) :
    (s.dropLine n).bitAt FLT_RAW_RAW n = false ∧ hasBit (s.dropLine n).flt.lines n = false := by
  have cleared : s.dropLine n =
      ({ s with flt := { s.flt with lines := clearBitOf s.flt.lines n } } : State).clearRaw (2 ^ n) :=
    if_pos (Bool.and_eq_true_iff.mpr ⟨ack, runs⟩)
  rw [cleared, State.bitAt, raw_clearRaw]
  exact ⟨by simp, hasBit_clearBitOf s.flt.lines n⟩

/-- R407: with ACK = H nothing but the line drops. -/
theorem dropLine_of_not_ackA {s : State} {n : Nat} (ack : s.ackA n = false) :
    s.dropLine n = { s with flt := { s.flt with lines := clearBitOf s.flt.lines n } } :=
  if_neg fun acts => Bool.false_ne_true (ack.symm.trans (Bool.and_eq_true_iff.mp acts).1)

/-! ### Forces (R408) -/

/-- FLT_FORCE and FLT_FORCED loaded by a write to FLT_FORCE. -/
def State.loadForce (s : State) (v : Nat) : State := s.load [(FLT_FORCE_FORCE, v), (FLT_FORCED_FORCED, v)]

/-- The state in which a write to FLT_FORCE is in force, before it is recorded and sources latch. -/
def State.applyForce (s : State) (v : Nat) : State := (s.loadForce v).showStatus.stopTimers

theorem get_force (s : State) (v : Nat) {f : Field} (low : lowField f = true)
    (first : named firstFields f.key = false) (latch : named latchFields f.key = false) :
    (s.force v).get f = (s.applyForce v).get f := by
  have recorded (payload : Bytes) : ((s.applyForce v).record 0x2000 0x0003 payload).get f = (s.applyForce v).get f :=
    State.get_of_lowRegs_eq (lowRegs_record ..) low
  unfold State.force
  dsimp only
  split
  next => rfl
  next =>
    split
    next => exact (get_latchNew _ _ _ low first latch).trans (recorded _)
    next => exact recorded _

theorem lines_force (s : State) (v : Nat) : (s.force v).flt.lines = s.flt.lines := by
  have recorded (payload : Bytes) : ((s.applyForce v).record 0x2000 0x0003 payload).flt.lines = s.flt.lines := by
    rw [flt_record]; rfl
  unfold State.force
  dsimp only
  split
  next => rfl
  next =>
    split
    next => exact (lines_latchNew ..).trans (recorded _)
    next => exact recorded _

theorem get_loadForce (s : State) (v : Nat) : (s.loadForce v).get FLT_FORCED_FORCED = v % 2 ^ 64 ∧
    (s.loadForce v).get FLT_FORCE_FORCE = v % 2 ^ 64 ∧ (s.loadForce v).get FLT_RAW_RAW = s.get FLT_RAW_RAW := by
  simp only [State.loadForce, State.load_cons, State.load_nil]
  refine ⟨State.get_set_same .., ?_, ?_⟩
  · rw [State.get_set_ne _ v (by decide)]
    exact State.get_set_same ..
  · iterate 2 rw [State.get_set_ne _ v (by decide)]

/-- R408: a write to FLT_FORCE sets FLT_FORCED, and FLT_STATUS shows it at once. -/
theorem get_applyForce (s : State) (v : Nat) : (s.applyForce v).get FLT_FORCED_FORCED = v % 2 ^ 64 ∧
    (s.applyForce v).get FLT_FORCE_FORCE = v % 2 ^ 64 ∧ (s.applyForce v).get FLT_RAW_RAW = s.get FLT_RAW_RAW ∧
    (s.applyForce v).get FLT_STATUS_STATUS = Nat.lor (s.get FLT_RAW_RAW) (v % 2 ^ 64) := by
  obtain ⟨forced, force, raw⟩ := get_loadForce s v
  unfold State.applyForce
  iterate 4 rw [get_stopTimers _ (by decide)]
  iterate 3 rw [get_showStatus _ (by decide)]
  rw [status_showStatus, raw, forced]
  exact ⟨rfl, force, rfl, rfl⟩

/-! ### A write to FLT_RAW (R406) -/

/-- FLT_RAW as the address 0x2008 reaches it. -/
def fltRawHit : RegHit where
  row := ⟨"FLT_RAW", 0x2008, 1, 0, 1, 0, 64, [⟨.w1c, true, fun _ _ => FLT_RAW_RAW⟩]⟩
  i := 0
  j := 0
  base := 0x2008
  word := 0

theorem findReg_fltRaw : findReg 0x2008 = some fltRawHit := rfl

theorem performWrite_fltRaw (s : State) (v : Nat) : s.performWrite fltRawHit v 0 2 = s.clearWritten (v % 2 ^ 64) := by
  have onRaw : onField fltRawHit FLT_RAW_RAW v 0 2 = v % 2 ^ 64 := by
    simp [onField, bits, fltRawHit, RegHit.lo, FLT_RAW_RAW]
  rw [← onRaw]
  rfl

/-- An 8-byte write of PF0 to FLT_RAW, where no privilege rule refuses it, clears latches. -/
theorem write_fltRaw {s : State} (mask : Nat) (lc : s.lc ≠ lcScrapped) (may : s.pf0ReadOnly = false) :
    s.write .pf0 0x2008 8 mask = (.ok, (s.takeLower .pf0 fltRawHit).2.clearWritten (mask % 2 ^ 64)) := by
  have reached : s.reach .pf0 0x2008 = some fltRawHit := findReg_fltRaw
  have takes : fltRawHit.takes 0x2008 8 = true := by decide
  have refused : (s.takeLower .pf0 fltRawHit).2.prvRefuses .pf0 fltRawHit mask 0 2 = false := may
  have wide : fltRawHit.row.width = 64 := rfl
  simp only [State.write, lc, if_false, reached, takes, Bool.not_true, Bool.false_eq_true, State.writeReg, wide,
    if_true, State.writeWords, refused, performWrite_fltRaw]

theorem fltRawClear_gives (mask : Nat) {s : State} (lc : s.lc ≠ lcScrapped) (may : s.pf0ReadOnly = false) :
    Gives (.fltRawClear .pf0 mask) s (fun u => ∀ n, n < 64 →
      u.bitAt FLT_RAW_RAW n = (s.bitAt FLT_RAW_RAW n && !(hasBit mask n && !hasBit s.flt.lines n))) := by
  refine ⟨_, rfl, fun n hn => ?_⟩
  rw [State.writeStep, write_fltRaw mask lc may]
  refine (bitAt_clearWritten _ _ hn).trans ?_
  rw [hasBit_mod_two_pow hn]
  rfl

/-! ### The statement -/

/-- Settles O17, clause by clause: a line that rises, one that drops under either ACK, an escalation, forces, and the
clear by a write to FLT_RAW as an operation and as a command. -/
theorem faultLinesLatchAndClear : Obligations.FaultLinesLatchAndClear := by
  unfold Obligations.FaultLinesLatchAndClear
  refine ⟨?latch, ?ackA, ?ackH, ?escalate, ?force, ?written, ?status, ?command⟩
  case latch =>
    intro n s hn runs down
    obtain ⟨raw, status, line, others⟩ := assertLine_latches hn runs down
    exact ⟨raw, status, line, fun m _ => others m, first_assertLine hn runs down⟩
  case ackA => exact fun n s _ runs ack => dropLine_of_ackA ack runs
  case ackH => exact fun n s _ ack => dropLine_of_not_ackA ack
  case escalate =>
    intro n s runs hn raw status severe down calm
    exact escalate_assertLine hn runs down raw status severe calm
  case force =>
    intro v s
    obtain ⟨forced, force, raw, status⟩ := get_applyForce s v
    iterate 4 rw [get_force s v (by decide) (by decide) (by decide)]
    exact ⟨forced, force, status, raw, lines_force s v⟩
  case written => exact fun mask n s hn => bitAt_clearWritten s mask hn
  case status => exact fun mask s => status_clearRaw s _
  case command => exact fun mask s lc may => fltRawClear_gives mask lc may

end Sys2Proof.Machine
end
